-- ==== Sys2Proof/Word.lean ====
section
/-! DEFINITION. The word types of the Colophon controller: a register is 32 bits wide (23 R673), line frames and host
memory are bytes (05 R163), angles are 32 bits of a cycle (00 R4, 01 R10). -/
namespace Sys2Proof

/-- A register, an angle in MA, a quire number. -/
abbrev Word := BitVec 32
/-- A byte of a frame, a record or a memory. -/
abbrev Byte := BitVec 8
/-- A line port (04), numbered 0 to 2. -/
abbrev Port := Fin 3
/-- A mains phase (01), numbered 0 to 2. -/
abbrev Phase := Fin 3

end Sys2Proof
end

