-- ==== Sys2Proof/Syntax.lean ====
section
/-! DEFINITION. The commands of the block: the 263 rows of spec/opcode_table.json as one inductive, and the types of
their operands. A command that is a register write carries the value written; a descriptor carries its ring, its 64
bytes and what the read of its data buffer returned; a received frame carries its bytes and its stamps. -/
namespace Sys2Proof

/-- The agents that reach the registers (23, how the index works). -/
inductive Agent where
  | host | balton | remote
  deriving DecidableEq, Repr

/-- The straps sampled at the release of PORST_N (00 R1). -/
structure Straps where
  /-- ROLE: false head, true leaf (00 R1). -/
  role : Bool
  hostmode : Bool
  bootsrc : Bool
  deriving DecidableEq, Repr

/-- A bank voltage as measured at cold start (22 R653). -/
inductive BankVolt where
  | v18 | v33 | out
  deriving DecidableEq, Repr

/-- What the cold start meets outside the register state: the results of the self-tests of the four cipher cores
(21 R639) and the measured banks (22 R653). -/
structure BootEnv where
  corePass : BitVec 4
  banks : Vector BankVolt 3
  deriving DecidableEq, Repr

/-- What the tracker measures in one cycle of a phase (01 R12, R13, R19): the angle of the fitted crossing against the
tracked one when the fit is valid, the phase error of the loop while it pulls in, and the frequency tracked, in MPT_FREQ
units. -/
structure CycleMeas where
  fit : Option Word
  err : Word
  freq : Word
  deriving DecidableEq, Repr

/-- Which copy of the leaf-table stage (08 R258): the local one or the REMOTE one. -/
inductive LtCopy where
  | loc | rem
  deriving DecidableEq, Repr

/-- The registers of MAP_DATA_WRITE (02 R68). -/
inductive MapReg where
  | data | geom0 | geom1
  deriving DecidableEq, Repr

/-- The registers of AIR_BUDGET_WRITE (03 R104). -/
inductive AirReg where
  | rate | window | bres
  deriving DecidableEq, Repr

/-- The registers of TX_LEVEL_WRITE (04 R155). -/
inductive LevelReg where
  | gain | cal | ceil
  deriving DecidableEq, Repr

/-- A time of day stamped by the time engine (10 R322). -/
structure Stamp where
  sec : BitVec 48
  ns : Word
  frac : BitVec 16
  deriving DecidableEq, Repr

/-- A line frame as the receiver's coding chain hands it over (05, 06, 07): the port, the mode, the frame control, the
descrambled bytes from the common header to the FCS, the link quality, the stamp of its first-symbol boundary. -/
structure RxFrame where
  port : Port
  ofdm : Bool
  /-- The frame control as decided: in OFDM mode slot in [3:0] and RATE in [5:4] (06 R202); in robust mode laid out as
  RBM_DCFG (07 Table 07.6), PAIR at HC. -/
  fc : BitVec 12
  /-- COPY of the robust frame control (07 R231). -/
  copy : Bool
  /-- Mean squared error at the end of the delimiter, signed, 0.25 dB (07 R238). -/
  mse : BitVec 8
  /-- Every codeword decoded (06 R211). -/
  rsOk : Bool
  /-- Bytes the Reed-Solomon decoder corrected. -/
  corrected : Nat
  /-- Sample-clock offset, 2^-16 ppm (06 R207). -/
  ofs : Word
  bytes : List Byte
  lqi : Byte
  snr : Byte
  /-- The ADC sample instant of the first-symbol boundary (04 R128). -/
  stamp : Stamp
  /-- The local angle on the receiving port at that boundary (01 R41). -/
  angle : Word
  /-- Ports whose robust detections have equal RFCs and stamps within T (07 R240). -/
  ports : BitVec 3
  /-- The UID the receiver takes for a head that sends in the JOIN class (05 R173). -/
  headUid : BitVec 48
  deriving DecidableEq, Repr

/-- The kinds of a sleepy leaf's listening window (09). -/
inductive WindowKind where
  | opportunity | target | beacon | resync
  deriving DecidableEq, Repr

/-- The registers of TE_SET_WRITE (10 R328). -/
inductive TeSetReg where
  | secLo | secHi | ns | frac
  deriving DecidableEq, Repr

/-- A stitch word as received (12 Table 12.1): its 16 bytes, byte 0 the least significant, and the time of day of its
mark. -/
structure StitchRx where
  word : BitVec 128
  mark : Stamp
  deriving DecidableEq, Repr

/-- The registers of CV_PARAM_WRITE (14 R464). -/
inductive CvReg where
  | poly | init | xorout
  deriving DecidableEq, Repr

/-- The registers of CV_RESULT_READ (14 R469). -/
inductive CvRead where
  | result | state | count
  deriving DecidableEq, Repr

/-- The two kinds of host ring with a completion (15 R478). -/
inductive RingKind where
  | sq | cq
  deriving DecidableEq, Repr

/-- The 64 bytes of a descriptor, byte 0 the least significant (15 R491). -/
abbrev DescBytes := BitVec 512

/-- The errors of a read of host memory (15 R503), coded as HI_DMA_ERROR reports them. -/
inductive ReadError where
  | ur | ca | poisoned | timeout
  deriving DecidableEq, Repr

/-- What the read of a descriptor's data buffer returned (15 R503); for a cipher job the bytes at SRC, then the AAD (13
R422). -/
inductive MemRead where
  | data (bytes : List Byte)
  | err (e : ReadError)
  deriving DecidableEq, Repr

/-- An image or a profile as its bytes (18 R571). -/
abbrev Image := List Byte

/-- How an SMBus transaction ends outside the device (18 R579). -/
inductive SmbAnswer where
  | ok (data : List Byte)
  | nack
  | timeout
  | arbLost (byteIdx bit : Byte) (next : List (Byte × Byte)) (final : Option (List Byte))
  deriving DecidableEq, Repr

/-- The hardware trips of the management subsystem (18 R564). -/
inductive TripKind where
  | temp | vdda
  deriving DecidableEq, Repr

/-- The tamper inputs (19 R583). -/
inductive TamperIn where
  | tamp0 | tamp1
  deriving DecidableEq, Repr

/-- The glitch detectors (19 R585). -/
inductive Glitch where
  | voltage | clock | temperature
  deriving DecidableEq, Repr

/-- The instructions of the test access port (22 R668); every other code is `other`. -/
inductive TapInstr where
  | bypass | idcode | samplePreload | extest | clamp | highz | other
  deriving DecidableEq, Repr


/-- A command of the block: one constructor per row of spec/opcode_table.json, with the operands its rule names; the
rows with operands stand first, each group in the order of the table. -/
inductive Instr where
  /-- COLD_START (R637). Release of PORST_N begins the hardware start: straps, PLLs, SRAM initialisation, and blocks at their reset values. -/
  | coldStart (st : Straps) (env : BootEnv)
  /-- RECOVERY_IMAGE_RECEIVE (R642). An image arrives on the recovery UART; it is verified and run from SRAM, or discarded. -/
  | recoveryImageReceive (img : Image)
  /-- HI_CONFIRM (R643). A write of HI_CONFIRM.GO confirms the role, holds the confirmation pending, or refuses it. -/
  | hiConfirm (v : Word)
  /-- ZC_EDGE (R693). A rising edge on a zero-crossing input is accepted, blanked or found spurious. -/
  | zcEdge (n : Phase)
  /-- PHASE_ANGLE_WRAP (R11). A phase angle or the reference angle wraps and its 48-bit cycle counter counts one. -/
  | phaseAngleWrap (n : Fin 4) (m : CycleMeas)
  /-- MPT_LOCKED (R19). A phase in ACQUIRING whose error has stayed below 1° for LOCK_CYCLES cycles enters LOCKED. -/
  | mptLocked (n : Phase)
  /-- MPT_FLYWHEEL (R20). A LOCKED phase with no usable crossing, or an error above 5°, for LOSS_CYCLES cycles enters FLYWHEEL. -/
  | mptFlywheel (n : Phase)
  /-- ACQUIRE_ABANDON (R18). A phase in ACQUIRING with no usable crossing for LOSS_CYCLES cycles returns to UNLOCKED. -/
  | acquireAbandon (n : Phase)
  /-- MPT_FREQ_RANGE (R18). A phase's frequency leaves or re-enters 45–65 Hz, changing its state. -/
  | mptFreqRange (n : Phase) (freq : Word)
  /-- MPT_LOST (R22). A phase that has stayed in FLYWHEEL for FW_LIMIT cycles enters UNLOCKED. -/
  | mptLost (n : Phase)
  /-- LOCK_REGAIN (R23). A phase regains lock from FLYWHEEL or UNLOCKED, and the difference is pulled in or taken as a step. -/
  | lockRegain (n : Phase) (angle : Word)
  /-- BIAS_CLR (R35). A write of MPT_CTRL.BIAS_CLR turns the reference bias into a pending step. -/
  | biasClr (v : Word)
  /-- REF_MODE_CHANGE (R48). A write that changes REF_MODE or REF_FORCE cancels any pending step and recomputes it against the new reference. -/
  | refModeChange (v : Word)
  /-- PHASE_DISABLE (R49). Clearing MPT_CTRL.ENn moves the phase to UNLOCKED on the next tick. -/
  | phaseDisable (v : Word)
  /-- MPT_SNAP_CAPTURE (R38). A write of MPT_SNAP.CAPTURE copies every angle, cycle count and state from one tick. -/
  | mptSnapCapture (v : Word)
  /-- QR_RUN (R94). Setting QR_CTRL.RUN puts the scheduler into WAITING. -/
  | qrRun (v : Word)
  /-- QR_STOP_REQUEST (R95). Clearing QR_CTRL.RUN lets the current quire finish. -/
  | qrStopRequest (v : Word)
  /-- LT_COMMIT_APPLY (R254). A pending leaf-table commit writes the selected stage words into the entry at a folio boundary. -/
  | ltCommitApply (copy : LtCopy)
  /-- MAP_DATA_WRITE (R68). A write through QR_MAP_DATA or QR_GEOMb fills the inactive bank. -/
  | mapDataWrite (r : MapReg) (v : Word)
  /-- MAP_SWAP_REQUEST (R70). A write to QR_MAP_SWAPQ schedules a bank swap, or is refused. -/
  | mapSwapRequest (v : Word)
  /-- QR_PART_WRITE (R80). A write to QR_PARTn sets the pending partition grant of a head. -/
  | qrPartWrite (n : Fin 4) (v : Word)
  /-- AIR_CTRL_WRITE (R100). A write to AIR_CTRL sets the region, the bands and band C access, or is refused. -/
  | airCtrlWrite (v : Word)
  /-- AIR_BUDGET_WRITE (R104). A write to AIR_RATEb, AIR_WINDOWb or AIR_BRESb changes a band's buckets, or is refused. -/
  | airBudgetWrite (r : AirReg) (b : Fin 4) (v : Word)
  /-- FRAME_COMMIT (R59). The scheduler places a frame whole in a folio, latching its parameters. -/
  | frameCommit (id : Nat)
  /-- FRAME_DEADLINE_EXPIRY (R113). A frame not sent by its deadline completes AIRTIME_EXHAUSTED or DEADLINE_PASSED. -/
  | frameDeadlineExpiry (id : Nat)
  /-- CBAND_BUSY_DETECT (R117). Detection-band power at or above THRESH for BUSY ms marks band C busy on a port. -/
  | cbandBusyDetect (p : Port)
  /-- CBAND_ACCESS_DELAY_END (R118). An access delay ends at a margin, and a band C run may start when the band stayed free. -/
  | cbandAccessDelayEnd (p : Port)
  /-- CBAND_RUN_END (R119). A band C run ends after MAX_TX, or after silence for MIN_PAUSE. -/
  | cbandRunEnd (p : Port)
  /-- FRAME_TX_START (R126). A frame's first sample leaves the port and its first-symbol boundary is stamped. -/
  | frameTxStart (id : Nat)
  /-- FRAME_TX_END (R123). A frame's last sample leaves the port; tokens and buffers return. -/
  | frameTxEnd (id : Nat)
  /-- LD_EN_RAISE (R131). LD_ENn rises LD_LEAD µs before a transmission and receive is blanked. -/
  | ldEnRaise (p : Port)
  /-- LD_EN_FALL (R131). LD_ENn falls LD_TAIL µs after the last FIR output. -/
  | ldEnFall (p : Port)
  /-- RX_UNBLANK (R133). Receive blanking ends 20 µs after LD_ENn falls. -/
  | rxUnblank (p : Port)
  /-- ACK_SEND (R182). An acknowledgement starts 80 µs after the received frame's last sample. -/
  | ackSend (p : Port)
  /-- RX_SATURATION (R137). The ADC reaches full scale; AFE_RXSATn counts it and AFE_RX_SAT is raised, rate-limited. -/
  | rxSaturation (p : Port)
  /-- TX_CLIP (R156). A DAC sample beyond full scale is clipped and counted. -/
  | txClip (p : Port) (count : Nat)
  /-- DRIVER_FAULT (R139). LD_FAULTn low or LD_ISENSEn over ILIMIT moves the port to FAULT. -/
  | driverFault (p : Port) (byCurrent : Bool)
  /-- FAULT_AUTO_RETRY (R141). A faulted port clear for RETRY ms returns to IDLE automatically. -/
  | faultAutoRetry (p : Port)
  /-- FAULT_CLR (R142). A write of AFE_PSTATn.FAULT_CLR returns a FAULT port to IDLE when the fault is absent. -/
  | faultClr (p : Port) (v : Word)
  /-- PORT_DISABLE (R143). Clearing AFE_PCTRLn.EN schedules the port to go OFF. -/
  | portDisable (p : Port) (v : Word)
  /-- PORT_OFF (R143). The port goes OFF at the end of its frame in progress, and AFE_PORT_DOWN is raised. -/
  | portOff (p : Port)
  /-- PORT_ENABLE (R145). Setting AFE_PCTRLn.EN starts an OFF port toward IDLE. -/
  | portEnable (p : Port) (v : Word)
  /-- PORT_UP (R145). The port reaches IDLE and AFE_PORT_UP is raised. -/
  | portUp (p : Port)
  /-- FIR_COEFF_WRITE (R147). A write through AFE_FIR_DATA sets a tap of an inactive bank, or is refused. -/
  | firCoeffWrite (v : Word)
  /-- FIR_SEL_WRITE (R148). A write of FIR_SEL naming the inactive bank requests a bank swap. -/
  | firSelWrite (p : Port) (v : Word)
  /-- FIR_BANK_SWAP (R148). The requested FIR bank becomes active on the first tick with an empty FIR. -/
  | firBankSwap (p : Port)
  /-- NOTCH_WRITE (R151). A write to AFE_NOTCHn_i sets a notch, range-checked when enabled. -/
  | notchWrite (p : Port) (i : Fin 8) (v : Word)
  /-- TX_LEVEL_WRITE (R155). A write to TXGAIN, TXCAL or TXCEIL is refused when the level would exceed CEIL. -/
  | txLevelWrite (p : Port) (r : LevelReg) (v : Word)
  /-- AFE_LOCK (R158). A write of AFE_CTRL.LOCK makes every RWL field read-only. -/
  | afeLock (v : Word)
  /-- FRAME_DISCARD (R179). A received frame fails frame control, HCS, Reed–Solomon, FCS or R167 and is discarded and counted. -/
  | frameDiscard (f : RxFrame)
  /-- BEACON_RECEIVE (R340). An authenticated beacon is taken whole; it feeds phase identification, quire adoption and the time engine. -/
  | beaconReceive (f : RxFrame)
  /-- ROLEMAP_RECEIVE (R184). A ROLEMAP segment is taken, and a bank is adopted once its segments reproduce the digest. -/
  | rolemapReceive (f : RxFrame)
  /-- DATA_RECEIVE (R169). A DATA frame is classed by SEQ and is delivered, treated as a duplicate, or answered out of order. -/
  | dataReceive (f : RxFrame)
  /-- ACK_RECEIVE (R273). An ACK is taken and completes or releases the frame awaiting it. -/
  | ackReceive (f : RxFrame)
  /-- JOIN_REQ_RECEIVE (R261). A head answers a JOIN_REQ by the first matching outcome of Table 08.3. -/
  | joinReqReceive (f : RxFrame)
  /-- JOIN_RESP_RECEIVE (R263). A leaf acts on a JOIN_RESP naming its UID by its RESULT. -/
  | joinRespReceive (f : RxFrame)
  /-- RANGE_REQ_RECEIVE (R344). A node receives a ranging leg and schedules the next leg exactly P_n later. -/
  | rangeReqReceive (f : RxFrame)
  /-- RANGE_RESP_RECEIVE (R349). The head receives leg 2H, computes θ and D, updates RANGE and sends RANGE_RESULT. -/
  | rangeRespReceive (f : RxFrame)
  /-- RANGE_RESULT_RECEIVE (R350). A leaf applies a ranging result to B and its TOD with gain g. -/
  | rangeResultReceive (f : RxFrame)
  /-- WAKE_RECEIVE (R303). A sampled leaf receives a WAKE copy and sleeps until the target. -/
  | wakeReceive (f : RxFrame)
  /-- REMOTE_RECEIVE (R187). A leaf acts on a REMOTE and answers it with one REMOTE_RESP. -/
  | remoteReceive (f : RxFrame)
  /-- REMOTE_RESP_RECEIVE (R277). The head completes a REMOTE by the status of its REMOTE_RESP. -/
  | remoteRespReceive (f : RxFrame)
  /-- RELAY_FRAME_RECEIVE (R171). A relay receives a frame on which it is the next actor and buffers it. -/
  | relayFrameReceive (f : RxFrame)
  /-- RELAY_FORWARD (R268). A relay forwards a buffered frame with IDX advanced and the FCS recomputed. -/
  | relayForward (id : Nat)
  /-- HC_PAIR_DECODE (R241). At the end of the second copy's folio the held soft decisions of a half-cycle pair are decoded. -/
  | hcPairDecode (f : RxFrame)
  /-- RESPONSE_TIMEOUT (R274). An attempt's wait for its ACK or REMOTE_RESP ends; the frame is retried or given up. -/
  | responseTimeout (id : Nat)
  /-- LT_READ (R253). LT_CMD with OP = READ copies an entry into the stage. -/
  | ltRead (copy : LtCopy) (v : Word)
  /-- LT_COMMIT (R254). LT_CMD with OP = COMMIT is checked and scheduled for the next folio boundary. -/
  | ltCommit (copy : LtCopy) (v : Word)
  /-- TIPIN_START (R259). LT_JOIN.START starts tip-in toward the named edition and head. -/
  | tipinStart (v : Word)
  /-- TIPIN_TIMEOUT (R264). A TIPPING entry without confirmation for TIP_WAIT quires becomes FREE or INVITED. -/
  | tipinTimeout (leaf : BitVec 12)
  /-- ENTRY_SILENT (R252). An ACTIVE entry not heard for SILENT quires becomes SILENT. -/
  | entrySilent (leaf : BitVec 12)
  /-- ENTRY_GONE (R252). A SILENT entry not heard for GONE quires becomes GONE. -/
  | entryGone (leaf : BitVec 12)
  /-- LISTEN_WINDOW_OPEN (R296). A sleepy leaf opens its receiver for an opportunity, target or beacon wake. -/
  | listenWindowOpen (k : WindowKind)
  /-- LINGER_END (R305). After LINGER SLEEPY_WINDOW folios without a frame, the leaf, or the head's count, ends lingering. -/
  | lingerEnd (leaf : BitVec 12)
  /-- TE_CAPTURE (R326). A write of TE_CAPTURE freezes TOD, mains angle, cycle and UTC state from one tick. -/
  | teCapture (v : Word)
  /-- TE_SET_WRITE (R328). A write to TE_SET_* stages a time, or is refused. -/
  | teSetWrite (r : TeSetReg) (v : Word)
  /-- APPLY_IMMEDIATE (R330). TE_APPLY with IMMEDIATE makes the TOD take the staged value on the next tick. -/
  | applyImmediate (v : Word)
  /-- APPLY_AT_NEXT_SECOND (R329). TE_APPLY with AT_NEXT_SECOND arms an apply for the next rollover. -/
  | applyAtNextSecond (v : Word)
  /-- APPLY_CANCEL (R329). TE_APPLY with CANCEL disarms an armed apply. -/
  | applyCancel (v : Word)
  /-- TE_SLEW (R324). A write to TE_SLEW adds a phase correction slewed at 10 ppm. -/
  | teSlew (v : Word)
  /-- TE_FREQ_WRITE (R360). A write to TE_FREQ_HI applies the staged 40-bit steering word. -/
  | teFreqWrite (v : Word)
  /-- TE_SRC_SELECT (R335). A write to TE_CTRL.SRC selects the discipline source, or is refused. -/
  | teSrcSelect (v : Word)
  /-- PPS_IN_EDGE (R336). A PPS_IN edge is stamped, accepted or counted bad, and measured. -/
  | ppsInEdge (sub : BitVec 6)
  /-- RANGING_START (R345). The head starts an exchange with leg 1 at the margin of a free RANGING folio. -/
  | rangingStart (p : Port)
  /-- TE_RNG_NOW (R342). A write to TE_RNG_NOW puts an entry first for ranging, or counts a failure. -/
  | teRngNow (v : Word)
  /-- RANGE_LEG_SEND (R344). A node sends the next ranging leg at its latched instant, or fails the exchange. -/
  | rangeLegSend (p : Port)
  /-- RANGING_TIMEOUT (R346). Leg 2H not received by the end of its folio fails the exchange. -/
  | rangingTimeout (p : Port)
  /-- LEAP_ARM (R353). Setting TE_LEAP_CTRL.ARM arms a leap second at X, or is refused. -/
  | leapArm (v : Word)
  /-- RG_ARM (R362). RUN = 1 arms a STOPPED or HALTED channel. -/
  | rgArm (c : Fin 8) (v : Word)
  /-- RG_START (R362). At the start instant the channel loads its counters and NCO and plays step ENTRY. -/
  | rgStart (c : Fin 8)
  /-- RG_STOP_REQUEST (R363). RUN = 0 disarms a channel or schedules its stop. -/
  | rgStopRequest (c : Fin 8) (v : Word)
  /-- RG_STOP (R363). A channel stops at its step or frame boundary and raises RG_STOPPED. -/
  | rgStop (c : Fin 8)
  /-- SEQ_STEP_WRITE (R370). A high-word write to RGn_SEQ_DATA stores a sequence step, or is refused. -/
  | seqStepWrite (c : Fin 8) (v : Word)
  /-- TIMING_SET_WRITE (R383). A write to RGn_TSt_w sets pattern-bit delays, or is refused for the set in force. -/
  | timingSetWrite (c : Fin 8) (t w : Fin 4) (v : Word)
  /-- RG_STEP_START (R371). A step's first sample plays, applying its timing set, retune and event. -/
  | rgStepStart (c : Fin 8)
  /-- RG_STEP_END (R371). A step ends, evaluates its condition and goes to TARGET or the next step after the seam. -/
  | rgStepEnd (c : Fin 8)
  /-- RG_INPUT_EDGE (R374). An edge on RG_INk sets each channel's latch for that input. -/
  | rgInputEdge (k : Fin 16) (rising : Bool)
  /-- MA_COMPARE_FIRE (R375). A mains-angle compare fires when the position reaches (q, c, A). -/
  | maCompareFire (c : Fin 8) (k : Fin 2)
  /-- TOD_COMPARE_FIRE (R377). A TOD compare fires when the TOD reaches its value. -/
  | todCompareFire (c : Fin 8) (k : Fin 2)
  /-- MA_COMPARE_ARM (R378). Arming a mains-angle compare, which fires at once when already passed. -/
  | maCompareArm (c : Fin 8) (k : Fin 2) (v : Word)
  /-- TOD_COMPARE_ARM (R378). Arming a TOD compare, which fires at once when already passed. -/
  | todCompareArm (c : Fin 8) (k : Fin 2) (v : Word)
  /-- VDAC_FAULT (R387). A VDAC sourcing over 40 mA for 10 µs mutes both VDACs and sets VFAULT. -/
  | vdacFault (m : Fin 2)
  /-- VDAC_CLEAR (R387). A write of RGC_CTRL.VCLR clears VFAULT and restores both VDACs. -/
  | vdacClear (v : Word)
  /-- LTC_FRAME_START (R389). At a time-engine frame boundary an LTC channel begins encoding a frame. -/
  | ltcFrameStart (c : Fin 8)
  /-- LTC_FRAME_DECODE (R390). A valid LTC frame on RG_INk is decoded and RG_LTC_IN is raised. -/
  | ltcFrameDecode (k : Fin 16) (frame : BitVec 80) (rate : BitVec 2) (at_ : Stamp)
  /-- LTC_LOSS (R390). No valid LTC frame for three frame periods raises RG_LTC_LOST. -/
  | ltcLoss (k : Fin 16)
  /-- TELEGRAM_SEND (R391). TGDLY ms after each 1PPS the channel sends its 32-bit clock-face telegram. -/
  | telegramSend (c : Fin 8)
  /-- GOFS_WRITE (R400). A host write to RGC_GOFS changes the generator offset, or is refused. -/
  | gofsWrite (v : Word)
  /-- KETTLE_EDGE (R401). A kettle edge is stamped and accepted, counted missed, or discarded. -/
  | kettleEdge (sub : BitVec 6)
  /-- KETTLE_CFG_WRITE (R404). A write to RGC_KCFG sets kettle mode, or is refused on a mode conflict. -/
  | kettleCfgWrite (v : Word)
  /-- STITCH_CFG_WRITE (R413). A write to RGC_STCFG sets the stitch role, or is refused on a conflict. -/
  | stitchCfgWrite (v : Word)
  /-- STITCH_WORD_RECEIVE (R411). A slave stamps a stitch word and acts by its state on GOFS. -/
  | stitchWordReceive (w : StitchRx)
  /-- CX_GCM_ENC (R427). A GCM encrypt job is checked, admitted and dispatched. -/
  | cxGcmEnc (r : Fin 16) (d : DescBytes) (m : MemRead)
  /-- CX_GCM_DEC (R428). A GCM decrypt job runs and releases plaintext only when the tag verifies. -/
  | cxGcmDec (r : Fin 16) (d : DescBytes) (m : MemRead)
  /-- CX_CCM_ENC (R427). A CCM encrypt job is checked, admitted and dispatched. -/
  | cxCcmEnc (r : Fin 16) (d : DescBytes) (m : MemRead)
  /-- CX_CCM_DEC (R428). A CCM decrypt job runs and releases plaintext only when the tag verifies. -/
  | cxCcmDec (r : Fin 16) (d : DescBytes) (m : MemRead)
  /-- CIPHER_JOB_DONE (R444). A core finishes a job, compares its tag, and releases or zeroes the hold buffer. -/
  | cipherJobDone (core : Fin 4) (fault : Bool)
  /-- CX_KEY_LOAD (R430). A key-load descriptor places a key in a slot, or waits for the slot. -/
  | cxKeyLoad (r : Fin 16) (d : DescBytes) (m : MemRead) (fault : Option (Fin 4))
  /-- KEY_LOAD_DONE (R430). A waiting key load completes once the slot's admitted jobs have completed. -/
  | keyLoadDone (slot : Fin 64) (fault : Option (Fin 4))
  /-- CX_KEY_UNLOAD (R431). A key-unload descriptor fixes the unload of a slot. -/
  | cxKeyUnload (r : Fin 16) (d : DescBytes)
  /-- KEY_UNLOAD_DONE (R431). The slot is zeroed and EMPTY once its admitted jobs have completed. -/
  | keyUnloadDone (slot : Fin 64)
  /-- CX_REKEY (R452). A CX_REKEY descriptor starts a re-key of the named leaf. -/
  | cxRekey (r : Fin 16) (d : DescBytes)
  /-- TICKET_UNWRAP (R436). A DERIVED key is unwrapped into a slot when one qualifies. -/
  | ticketUnwrap (leaf : BitVec 12)
  /-- FAULT_HOLD_CLEAR (R448). A write of CX_FAULT.CLR re-checks the key and lifts its fault hold. -/
  | faultHoldClear (v : Word)
  /-- CORE_RESET (R449). A write of CX_CORE.RST aborts the core's job and starts its self-test. -/
  | coreReset (v : Word)
  /-- CORE_SELF_TEST_DONE (R449). A reset core passes G2 and becomes IDLE, or stays FAULTED. -/
  | coreSelfTestDone (core : Fin 4) (pass : Bool)
  /-- CORE_DISABLE (R450). Clearing CX_CORE.EN removes the core from dispatch after its job. -/
  | coreDisable (v : Word)
  /-- SLOT_SELECT (R457). A write to CX_SLOT_SEL copies a slot or leaf record into CX_SLOT_INFO. -/
  | slotSelect (v : Word)
  /-- CV_CFG_WRITE (R463). A write to CVn_CFG loads a preset or sets width and reflection, or is refused. -/
  | cvCfgWrite (c : Fin 8) (v : Word)
  /-- CV_PARAM_WRITE (R464). A write to CVn_POLY, INIT or XOROUT reloads STATE and clears COUNT. -/
  | cvParamWrite (c : Fin 8) (r : CvReg) (v : Word)
  /-- CV_DATA_WRITE (R465). A write to a data window feeds its enabled bytes in address order. -/
  | cvDataWrite (c : Fin 8) (be : BitVec 4) (v : Word)
  /-- CV_RESTART (R470). A write of CVn_CTL.RESTART loads STATE with INIT after earlier bytes. -/
  | cvRestart (c : Fin 8) (v : Word)
  /-- CV_STATE_WRITE (R471). A write to CVn_STATE loads STATE after earlier bytes. -/
  | cvStateWrite (c : Fin 8) (v : Word)
  /-- CV_RESULT_READ (R469). A read of RESULT, STATE or COUNT completes after every earlier byte is processed. -/
  | cvResultRead (c : Fin 8) (r : CvRead)
  /-- RING_ENABLE (R480). Setting EN on a submission or completion ring zeroes its indices and starts it. -/
  | ringEnable (k : RingKind) (n : Fin 16) (v : Word)
  /-- RING_DISABLE (R536). Clearing EN on a ring stops it and returns held slots. -/
  | ringDisable (k : RingKind) (n : Fin 16) (v : Word)
  /-- SQ_DOORBELL (R482). A submission doorbell makes descriptors available, or faults the ring. -/
  | sqDoorbell (n : Fin 16) (v : Word)
  /-- CQ_DOORBELL (R484). A completion doorbell returns slots and may arm the ring, or faults it. -/
  | cqDoorbell (m : Fin 16) (v : Word)
  /-- NOP (R495). A NOP descriptor completes OK once earlier descriptors on its ring complete. -/
  | nop (r : Fin 16) (d : DescBytes)
  /-- LINE_TX (R492). A LINE_TX descriptor reads its payload and queues a DATA frame. -/
  | lineTx (r : Fin 16) (d : DescBytes) (m : MemRead)
  /-- RX_POST (R500). An RX_POST descriptor offers a receive buffer. -/
  | rxPost (r : Fin 16) (d : DescBytes)
  /-- REMOTE_READ (R277). A REMOTE_READ descriptor queues a remote read to a leaf. -/
  | remoteRead (r : Fin 16) (d : DescBytes)
  /-- REMOTE_WRITE (R278). A REMOTE_WRITE descriptor queues a remote or posted write to a leaf. -/
  | remoteWrite (r : Fin 16) (d : DescBytes) (m : MemRead)
  /-- REMOTE_FENCE (R281). A REMOTE_FENCE descriptor waits for earlier posted writes to the leaf. -/
  | remoteFence (r : Fin 16) (d : DescBytes)
  /-- SIG_WRITE (R366). A SIG_WRITE descriptor claims a signature and copies data, or completes SIG_ACTIVE. -/
  | sigWrite (r : Fin 16) (d : DescBytes) (m : MemRead)
  /-- SIG_WRITE_DONE (R366). The last byte of a SIG_WRITE is written and the claim ends. -/
  | sigWriteDone (r : Fin 16)
  /-- RG_FLAG (R392). An RG_FLAG descriptor sets a host flag of a channel. -/
  | rgFlag (r : Fin 16) (d : DescBytes)
  /-- RG_RETUNE (R381). An RG_RETUNE descriptor stages a new FTW and phase step for a channel. -/
  | rgRetune (r : Fin 16) (d : DescBytes)
  /-- LEDGER_SNAP (R537). A LEDGER_SNAP descriptor captures every ledger from one tick and writes the snapshot. -/
  | ledgerSnap (r : Fin 16) (d : DescBytes)
  /-- MSS_REQUEST (R535). An MSS_REQUEST descriptor places a request in a mailbox slot. -/
  | mssRequest (r : Fin 16) (d : DescBytes) (m : MemRead)
  /-- UNKNOWN_OPCODE (R493). A descriptor with an unknown opcode completes BAD_DESCRIPTOR. -/
  | unknownOpcode (r : Fin 16) (d : DescBytes)
  /-- DESCRIPTOR_READ_ERROR (R503). A failed descriptor read is not taken and faults its ring. -/
  | descriptorReadError (r : Fin 16)
  /-- COMPLETION_POST (R495). A completion record is written in ring order once earlier descriptors have completed. -/
  | completionPost (r : Fin 16)
  /-- CQ_DELAY_EXPIRY (R498). DELAY µs after the oldest unconsumed record, an armed ring raises HI_CQ_READY. -/
  | cqDelayExpiry (m : Fin 16)
  /-- MSIX_UNMASK (R518). Unmasking the vector sends a pending MSI-X message. -/
  | msixUnmask (v : Word)
  /-- EVENT_RING_ENABLE (R513). Setting EV_CFG.EN starts the ring and forms EV_RING_STARTED. -/
  | eventRingEnable (v : Word)
  /-- EVENT_RING_DISABLE (R516). Clearing EV_CFG.EN stops record writes and returns held slots. -/
  | eventRingDisable (v : Word)
  /-- EVENT_DOORBELL (R515). An event doorbell returns slots and may arm, or faults the ring. -/
  | eventDoorbell (v : Word)
  /-- LEDGER_REINIT (R533). A write of LG_REINIT recounts a faulted class and clears its fault. -/
  | ledgerReinit (v : Word)
  /-- UNIT_RESET (R542). A write of LG_URESET resets a generator channel, CX core or the MSS. -/
  | unitReset (v : Word)
  /-- LEDGER_ECC_ERROR (R532). An uncorrectable ECC error faults a ledger class and raises LEDGER_FAULT. -/
  | ledgerEccError (c : Fin 8) (i : Nat)
  /-- READ_SENSORS (R561). The mailbox returns every sensor from one sampling pass. -/
  | readSensors (sample : List Word)
  /-- SMBUS_XFER (R579). The mailbox performs one SMBus transaction with arbitration and retries. -/
  | smbusXfer (a : SmbAnswer)
  /-- SMB_SENSOR_POLL (R558). A board sensor's period ends and the MSS reads it over SMBus. -/
  | smbSensorPoll (i : Nat) (a : SmbAnswer)
  /-- SMBUS_HOST_NOTIFY (R578). A Host Notify received at address 0x08 raises MSS_HOST_NOTIFY. -/
  | smbusHostNotify (addr : Byte) (data : BitVec 16)
  /-- SMB_ALERT (R655). SMB_ALERT_N low makes the MSS sample every board sensor at once. -/
  | smbAlert (answers : List SmbAnswer)
  /-- SENSOR_SAMPLE (R560). A sensor sampling period ends and crossings of thresholds raise MSS_SENSOR. -/
  | sensorSample (i : Nat) (value : Word)
  /-- FORCED_ACTION_RESTORE (R563). After the condition has cleared for 1 s, the MSS restores what it changed. -/
  | forcedActionRestore (i : Nat)
  /-- HW_TRIP (R564). A hardware temperature or VDDA trip clears port and core enables. -/
  | hwTrip (k : TripKind)
  /-- PROFILE_WRITE (R577). A WRITE record writes a register; a refusal stops the profile. -/
  | profileWrite (bar : Bool) (off : BitVec 16) (v : Word)
  /-- PROFILE_DATA (R577). A DATA record copies bytes into the autonomous host region. -/
  | profileData (addr : Word) (data : List Byte)
  /-- PROFILE_DESC (R577). A DESC record submits a descriptor on autonomous ring 0 and waits for it. -/
  | profileDesc (d : DescBytes)
  /-- PROFILE_CONFIRM (R577). A CONFIRM record confirms the strapped role. -/
  | profileConfirm (role : Bool)
  /-- MSS_LOCK (R582). A write of MSS_CTRL.LOCK makes MSS_HWTHR read-only. -/
  | mssLock (v : Word)
  /-- TAMPER_INPUT_ALARM (R583). A tamper input reaches alarm condition over its window. -/
  | tamperInputAlarm (i : TamperIn)
  /-- GLITCH_ALARM (R585). A voltage, clock or temperature detector reaches alarm condition. -/
  | glitchAlarm (k : Glitch)
  /-- TAMPER_UNLOCK (R600). A write of TMP_CTRL.UNLOCK leaves TAMPER_LOCKED with a fresh key store, or is refused. -/
  | tamperUnlock (v : Word)
  /-- TAMPER_CFG_LOCK (R603). A write of TMP_CTRL.CFGLOCK makes TMP_CFG and TMP_DEB read-only. -/
  | tamperCfgLock (v : Word)
  /-- RAIL_OUT_OF_RANGE (R608). A rail outside its limits for 10 µs raises PWR_RAIL. -/
  | railOutOfRange (i : Fin 8) (high : Bool) (mv : BitVec 16)
  /-- RAIL_IN_RANGE (R608). A rail back within limits for 1 ms raises PWR_RAIL kind 3. -/
  | railInRange (i : Fin 8) (mv : BitVec 16)
  /-- BACKUP_SWITCH (R610). The AON domain switches between VDD_AON and VBAK and raises PWR_BACKUP. -/
  | backupSwitch (toBackup : Bool)
  /-- LDV_CFG_WRITE (R614). A write to PWR_LDV starts, changes or is refused for the driver supply. -/
  | ldvCfgWrite (v : Word)
  /-- LDV_REGULATION_CHANGE (R613). LDV_GOOD changes and ports behave as faulted while it is 0. -/
  | ldvRegulationChange (good : Bool)
  /-- DORMANT_REQUEST (R625). A write of PWR_CTRL.DORMANT powers down VDD_CORE, or is refused. -/
  | dormantRequest (v : Word)
  /-- CLOCK_LOSS (R627). The clock monitor declares an input clock absent and raises CLK_LOST. -/
  | clockLoss (i : Fin 3)
  /-- CLOCK_RESTORE (R627). The clock monitor declares an input clock present and raises CLK_RESTORED. -/
  | clockRestore (i : Fin 3)
  /-- PLL_UNLOCK (R628). A PLL loses lock and raises CLK_PLL_UNLOCK. -/
  | pllUnlock (i : Fin 4)
  /-- PLL_RELOCK (R630). A PLL whose reference returns locks again. -/
  | pllRelock (i : Fin 4)
  /-- PIN_FUNC_WRITE (R658). A write to PMX_PINi selects a pin function and options, or is refused. -/
  | pinFuncWrite (i : Fin 48) (v : Word)
  /-- PMX_LOCK (R665). A write of PMX_CTRL.LOCK makes every PMX_PINi read-only. -/
  | pmxLock (v : Word)
  /-- TAP_INSTRUCTION_LOAD (R669). A boundary-scan instruction is loaded and acts, or acts as BYPASS. -/
  | tapInstructionLoad (ir : TapInstr)
  /-- REGISTER_WRITE (R681). A write to a register with no row of its own takes effect in arrival order. -/
  | registerWrite (a : Agent) (bar2 : Bool) (off : BitVec 16) (be : BitVec 4) (v : Word)
  /-- LO_READ_SHADOW (R675). A read of a _LO register copies its _HI register into the agent's shadow. -/
  | loReadShadow (a : Agent) (bar2 : Bool) (off : BitVec 16)
  /-- HI_WRITE_APPLY (R676). A write to a _HI register applies both halves of the pair on one tick. -/
  | hiWriteApply (a : Agent) (bar2 : Bool) (off : BitVec 16) (v : Word)
  /-- PREAMBLE_DETECTION (R134). A port's receiver detects a preamble in the incoming stream and enters RX; its gain freezes until frame end. -/
  | preambleDetection (p : Port) (ofdm : Bool)
  /-- MPT_ACQUIRING (R18). A phase in UNLOCKED that sees valid crossings begins ACQUIRING and its loop starts to pull in. -/
  | mptAcquiring (n : Phase)
  /-- PORST_ASSERT (R633). Assertion of PORST_N holds every domain except AON in reset and releases the PORST_N locks. -/
  | porstAssert
  /-- LINK_UP (R637). The PCI Express link finishes training and configuration access begins. -/
  | linkUp
  /-- MSS_READY (R576). The firmware finishes its start, serves the mailbox and raises MSS_READY. -/
  | mssReady
  /-- VDD_CORE_LOSS (R609). VDD_CORE below 0.70 V for 1 ms holds every domain but AON in reset until the rail recovers. -/
  | vddCoreLoss
  /-- AON_POWER_UP (R587). The AON domain powers up again after losing both supplies; it draws a new KSMK and sets AONPOR. -/
  | aonPowerUp
  /-- QR_START (R94). The first quire begins at the first reference wrap meeting the start conditions, and QR_STARTED is raised. -/
  | qrStart
  /-- QUIRE_BOUNDARY (R53). A quire ends at a reference wrap after Q cycles, and the quire number advances. -/
  | quireBoundary
  /-- FOLIO_BOUNDARY (R54). The reference angle, or flywheel time, reaches the start of a folio. -/
  | folioBoundary
  /-- FOLIO_MARGIN (R57). A folio's margin ends and transmission in the folio may begin. -/
  | folioMargin
  /-- QUIRE_REALIGN (R90). Quire Qr begins at the first reference wrap after the step is applied, closing the slip. -/
  | quireRealign
  /-- SENIOR_LOSS (R86). A junior that has heard no spine beacon for LOSS quires sets SENIOR_LOST and runs on. -/
  | seniorLoss
  /-- TIPIN_RETRY (R260). After TIP_WAIT quires without a JOIN_RESP, the leaf repeats JOIN_REQ. -/
  | tipinRetry
  /-- CONFIRM_TIMEOUT (R263). An unacknowledged confirmation after TIP_WAIT quires restarts tip-in. -/
  | confirmTimeout
  /-- HEAD_LOST (R265). A joined leaf with no spine beacon for SILENT quires sets HEAD_LOST. -/
  | headLost
  /-- HEAD_GONE (R265). After GONE quires without its head a leaf starts tip-in again. -/
  | headGone
  /-- LEAF_NO_ANSWER (R453). A leaf unanswered by its head for GONE quires starts tip-in again. -/
  | leafNoAnswer
  /-- LISTEN_WINDOW_CLOSE (R299). A listening window closes without a preamble, and the leaf returns to sleep. -/
  | listenWindowClose
  /-- RESYNC_DUE (R308). RESYNC quires since contact, or M reaching MAXM, makes a sampled leaf wake for a spine beacon. -/
  | resyncDue
  /-- KEEPALIVE_DUE (R313). A sleepy leaf sends a keep-alive after its interval without an acknowledged frame. -/
  | keepaliveDue
  /-- BUDGET_PERIOD_START (R315). A new 3 600 s budget period begins and LT_SLP_SPENT returns to 0. -/
  | budgetPeriodStart
  /-- BUDGET_REACHED (R315). Awake time reaches BUDGET; the leaf limits its behaviour and raises LT_SLP_BUDGET. -/
  | budgetReached
  /-- TOD_ROLLOVER (R323). NS reaches 10^9, wraps, and SEC increases by one. -/
  | todRollover
  /-- PPS_WIDTH_END (R334). TE_PPS falls WIDTH ms after the last 1PPS. -/
  | ppsWidthEnd
  /-- SLEW_DONE (R324). A correction is consumed and the slew offset is removed. -/
  | slewDone
  /-- PPS_IN_LOSS (R339). No accepted PPS_IN edge for 2.5 s puts the time engine into HOLDOVER. -/
  | ppsInLoss
  /-- BEACON_SOURCE_LOSS (R339). No authenticated spine beacon for 8 quires puts a LINE leaf into HOLDOVER. -/
  | beaconSourceLoss
  /-- KETTLE_DRIVE (R404). A driving device raises KETTLE_OUT for 100 ns at each instant E. -/
  | kettleDrive
  /-- STITCH_WORD_SEND (R408). A master or forwarding slave sends a stitch word with its mark on the period instant. -/
  | stitchWordSend
  /-- STITCH_LOSS (R412). No accepted word for LOSS periods puts a slave into LOST. -/
  | stitchLoss
  /-- RX_HOLD_EXPIRY (R501). A received frame without RX_POST for RXHOLD ms is discarded and counted. -/
  | rxHoldExpiry
  /-- FLR (R504). A Function Level Reset disables the rings, masks MSI-X and aborts taken descriptors. -/
  | flr
  /-- PE_PERST_ASSERT (R634). Assertion of PE_PERST_N acts as an FLR and resets configuration space. -/
  | pePerstAssert
  /-- HOT_RESET (R634). A Hot Reset received on the link acts as an FLR. -/
  | hotReset
  /-- LINK_DOWN (R634). A link transition to DL_Down acts as an FLR. -/
  | linkDown
  /-- EVENT_RECORD_WRITE (R521). With a free slot the device writes held records and then coalesced counts. -/
  | eventRecordWrite
  /-- EVENT_NOTIFY_DELAY (R517). DELAY µs after the oldest unconsumed record, an armed event ring sends MSI-X. -/
  | eventNotifyDelay
  /-- GET_INFO (R556). The mailbox returns firmware, boot-state and epoch information. -/
  | getInfo
  /-- SET_THRESHOLD (R560). The mailbox sets a sensor's low, high and hysteresis. -/
  | setThreshold
  /-- SET_MAINSCAL (R559). The mailbox sets a phase's mains-rms scale factor. -/
  | setMainscal
  /-- GET_REPORT (R566). The mailbox returns both views of every unit. -/
  | getReport
  /-- ACK_MISMATCH (R566). The mailbox makes the MSS view of a unit equal to the hardware view. -/
  | ackMismatch
  /-- RESTART (R576). The mailbox restarts the Balton core after the completion. -/
  | restart
  /-- LOG_READ (R567). The mailbox returns log records from a LOGSEQ, oldest first. -/
  | logRead
  /-- UPDATE_BEGIN (R575). The mailbox opens an update session, invalidates and erases the target slot. -/
  | updateBegin
  /-- UPDATE_DATA (R575). The mailbox programs and reads back contiguous image data. -/
  | updateData
  /-- UPDATE_COMMIT (R572). The mailbox verifies the received image and marks the target valid. -/
  | updateCommit
  /-- UPDATE_ACTIVATE (R575). The mailbox sets PENDING and restarts for a trial, or activates a profile. -/
  | updateActivate
  /-- UPDATE_ABORT (R574). The mailbox closes the open update session. -/
  | updateAbort
  /-- OTP_PROFKEY (R557). The mailbox programs the profile-key hash into OTP once. -/
  | otpProfkey
  /-- SMB_SENSOR (R558). The mailbox sets up an SMBus board sensor. -/
  | smbSensor
  /-- UNIT_VIEW_COMPARE (R566). Every 10 ms the MSS compares unit views and raises UNIT_STATE_MISMATCH after 50 ms. -/
  | unitViewCompare
  /-- LOG_WRITE (R569). A buffered log record is written to flash, or counted and dropped. -/
  | logWrite
  /-- WATCHDOG_EXPIRY (R576). The watchdog expires 1 s after service and restarts the Balton core. -/
  | watchdogExpiry
  /-- TRIAL_TIMEOUT (R575). A trial boot with no MSS_READY within 2 s falls back to the active slot. -/
  | trialTimeout
  /-- PROFILE_APPLY (R577). An autonomous device starts applying its active Zungo profile. -/
  | profileApply
  /-- PROFILE_END (R577). An END record ends the profile. -/
  | profileEnd
  /-- ZEROISATION_DONE (R592). Zeroisation completes; TMP_ZEROISED and TMP_LOCKED follow. -/
  | zeroisationDone
  /-- SLEEP_ENTRY (R620). A leaf meeting every condition enters the sleep state of its mode. -/
  | sleepEntry
  /-- SLEEP_WAKE_TIMER (R621). The wake logic starts an exit before the next listening window. -/
  | sleepWakeTimer
  /-- PWR_WAKE_INPUT (R621). The PWR_WAKE input wakes a sleeping or DORMANT device. -/
  | pwrWakeInput
  /-- SLEEP_EXIT_DONE (R619). The device reaches ACTIVE after a sleep exit and raises PWR_STATE. -/
  | sleepExitDone
  /-- HOLDOVER_ENTER (R623). PWRFAIL_N low for 1 ms enters HOLDOVER. -/
  | holdoverEnter
  /-- HOLDOVER_EXIT (R624). PWRFAIL_N high for HOLD_EXIT × 10 ms leaves HOLDOVER. -/
  | holdoverExit
  /-- DORMANT_WAKE (R626). The AON count reaching PWR_WAKE_AT starts the device from DORMANT. -/
  | dormantWake
  /-- FABRIC_REF_SWITCH (R629). With REFSEL, REF10M present for 1 s becomes the fabric PLL's reference. -/
  | fabricRefSwitch
  /-- TAP_RESET (R670). The TAP controller enters Test-Logic-Reset. -/
  | tapReset
  /-- AON_POWER_LOSS (R587). VDD_AON and VBAK are both lost; the KSMK, the tamper latch, every TMP register and the configuration lock are erased. -/
  | aonPowerLoss
  deriving DecidableEq, Repr

end Sys2Proof
end

