-- ==== Sys2Proof/Decode.lean ====
section
/-! DEFINITION. The command a word spells. spec/opcode_table.json gives none of its rows any bits, so no word spells a
command. -/
namespace Sys2Proof

/-- The command of a word of `nbits` bits: the table gives no row a bit, so none. -/
def decodeTableWord (nbits w : Nat) : Option Instr :=
  match nbits, w with
  | _, _ => none

end Sys2Proof
end

