-- ==== Sys2Proof/Machine/Operands.lean ====
section
/-! DEFINITION. How values stand in words and bytes: register fields, little-endian byte strings (05 R163, 16 R509),
signed values, vectors indexed by a port or a ring. -/
namespace Sys2Proof.Machine

/-- The field of `len` bits at bit `lo` of a register. -/
def fld (w : Word) (lo len : Nat) : Nat := (w.toNat >>> lo) % 2 ^ len

/-- One bit of a register. -/
def bitAt (w : Word) (i : Nat) : Bool := w.getLsbD i

/-- The word with the field of `len` bits at `lo` set to `v`. -/
def setFld (w : Word) (lo len v : Nat) : Word :=
  (w &&& ~~~ BitVec.ofNat 32 ((2 ^ len - 1) <<< lo)) ||| BitVec.ofNat 32 ((v % 2 ^ len) <<< lo)

/-- A field in which 0 is read as 1: it stores 1 (00 R692). -/
def oneFld (w : Word) (lo len : Nat) : Word := if fld w lo len = 0 then setFld w lo len 1 else w

/-- A field whose values outside a to b are read as the nearer limit, which it stores (00 R692). -/
def limFld (w : Word) (lo len a b : Nat) : Word :=
  if fld w lo len < a then setFld w lo len a else if b < fld w lo len then setFld w lo len b else w

/-- A value at a bit position of a register being put together. -/
def at32 (v lo : Nat) : Word := BitVec.ofNat 32 (v <<< lo)

def ofBool (b : Bool) : Nat := if b then 1 else 0

/-- The `n` low bytes of a number, least significant first. -/
def leBytes : Nat → Nat → List Byte
  | 0, _ => []
  | n + 1, v => BitVec.ofNat 8 v :: leBytes n (v / 256)

/-- The number a little-endian byte string stands for. -/
def ofLe : List Byte → Nat
  | [] => 0
  | b :: bs => b.toNat + 256 * ofLe bs

/-- The `n` low bytes of a number, most significant first. -/
def beBytes (n v : Nat) : List Byte := (leBytes n v).reverse

/-- The number a big-endian byte string stands for. -/
def ofBe (bs : List Byte) : Nat := bs.foldl (fun a b => a * 256 + b.toNat) 0

/-- Bytes `off` to `off + n - 1` of a byte string as a little-endian number; absent bytes count 0. -/
def leAt (bs : List Byte) (off n : Nat) : Nat := ofLe ((bs.drop off).take n)

/-- Bytes `off` to `off + n - 1` of a descriptor or a leaf-table entry. -/
def field512 (d : BitVec 512) (off n : Nat) : Nat := (d.toNat >>> (8 * off)) % 2 ^ (8 * n)

/-- A descriptor or entry with bits `lo` to `lo + len - 1` set to `v`. -/
def set512 (d : BitVec 512) (lo len v : Nat) : BitVec 512 :=
  (d &&& ~~~ BitVec.ofNat 512 ((2 ^ len - 1) <<< lo)) ||| BitVec.ofNat 512 ((v % 2 ^ len) <<< lo)

/-- The bits `lo` to `lo + len - 1` of a 512-bit entry. -/
def bits512 (d : BitVec 512) (lo len : Nat) : Nat := (d.toNat >>> lo) % 2 ^ len

/-- An angle difference as the signed value in -2^31 to 2^31 - 1 (01 R23). -/
def wrapSigned (x : Int) : Int := (BitVec.ofInt 32 x).toInt

/-- A 16-byte payload from (byte offset, width, value) fields (16 R525). -/
def payload (fs : List (Nat × Nat × Nat)) : BitVec 128 :=
  fs.foldl (fun p f => p ||| BitVec.ofNat 128 ((f.2.2 % 2 ^ (8 * f.2.1)) <<< (8 * f.1))) 0

/-- A signed value in 1/256 ns that saturates at 32 bits (16 R525, "o"). -/
def satO (x : Int) : Nat :=
  (BitVec.ofInt 32 (if x > 2147483647 then 2147483647 else if x < -2147483648 then -2147483648 else x)).toNat

/-- Rounding to nearest, halves away from zero. -/
def roundDiv (a : Int) (b : Nat) : Int :=
  if a < 0 then -(((-a) * 2 + b) / (2 * b)) else (a * 2 + b) / (2 * b)

/-- A vector with one element changed by a function. -/
def upd {α : Type} {n : Nat} (v : Vector α n) (i : Fin n) (f : α → α) : Vector α n := v.set i.val (f (v[i.val])) i.isLt

/-- The element of a vector at an index, with a value for an index outside. -/
def vget {α : Type} {n : Nat} (v : Vector α n) (i : Nat) (d : α) : α := if h : i < n then v[i] else d

/-- A vector with one element changed, unchanged for an index outside. -/
def vupd {α : Type} {n : Nat} (v : Vector α n) (i : Nat) (f : α → α) : Vector α n :=
  if h : i < n then v.set i (f v[i]) h else v

end Sys2Proof.Machine
end

