-- ==== Sys2Proof/Machine/Crypto.lean ====
section
/-! DEFINITION. The AES modes of the cipher cluster (13 R419, R423): AES-128 and AES-256, GCM with a 96-bit nonce as NIST
SP 800-38D sets out and CCM as NIST SP 800-38C sets out. Bytes are natural numbers below 256 inside this file. -/
namespace Sys2Proof.Machine

/-- The AES substitution box, entry i at bits 8i. -/
def aesBox : Nat :=
  0x16bb54b00f2d99416842e6bf0d89a18cdf2855cee9871e9b948ed9691198f8e19e1dc186b95735610ef6034866b53e708a8bbd4b1f74dde8c6b4a61c2e2578ba08ae7a65eaf4566ca94ed58d6d37c8e779e4959162acd3c25c2406490a3a32e0db0b5ede14b8ee4688902a22dc4f816073195d643d7ea7c41744975fec130ccdd2f3ff1021dab6bcf5389d928f40a351a89f3c507f02f94585334d43fbaaefd0cf584c4a39becb6a5bb1fc20ed00d153842fe329b3d63b52a05a6e1b1a2c830975b227ebe28012079a059618c323c7041531d871f1e5a534ccf73f362693fdb7c072a49cafa2d4adf04759fa7dc982ca76abd7fe2b670130c56f6bf27b777c63

def aesSub (b : Nat) : Nat := (aesBox >>> (8 * b)) % 256

def xtime (b : Nat) : Nat := if 128 ≤ b then (2 * b % 256) ^^^ 0x1B else 2 * b

def xorBytes (a b : List Nat) : List Nat := List.zipWith (· ^^^ ·) a b

/-- The key schedule, newest word first: word i from word i - 1 and word i - nk. -/
def aesExpand (nk : Nat) : Nat → Nat → Nat → List (List Nat) → List (List Nat)
  | 0, _, _, ws => ws
  | n + 1, i, rcon, ws =>
    let prev := ws.headD []
    let back := ws.getD (nk - 1) []
    if i % nk = 0 then
      let t := (prev.tail ++ prev.take 1).map aesSub
      let t := (t.headD 0 ^^^ rcon) :: t.tail
      aesExpand nk n (i + 1) (xtime rcon) (xorBytes back t :: ws)
    else if 6 < nk ∧ i % nk = 4 then aesExpand nk n (i + 1) rcon (xorBytes back (prev.map aesSub) :: ws)
    else aesExpand nk n (i + 1) rcon (xorBytes back prev :: ws)

/-- A byte string cut into pieces of n bytes; the first argument bounds their number. -/
def chunks (n : Nat) : Nat → List Nat → List (List Nat)
  | 0, _ => []
  | f + 1, l => if l.isEmpty then [] else l.take n :: chunks n f (l.drop n)

/-- The round keys of a key of 16 or 32 bytes. -/
def aesKeys (key : List Nat) : List (List Nat) :=
  let nk := key.length / 4
  let total := 4 * (nk + 7)
  let ws := aesExpand nk (total - nk) nk 1 (chunks 4 nk key).reverse
  chunks 16 (nk + 7) ws.reverse.flatten

def aesShift (st : List Nat) : List Nat :=
  [0, 5, 10, 15, 4, 9, 14, 3, 8, 13, 2, 7, 12, 1, 6, 11].map fun i => st.getD i 0

def aesMix : List Nat → List Nat
  | a :: b :: c :: d :: t =>
    (xtime a ^^^ xtime b ^^^ b ^^^ c ^^^ d) :: (a ^^^ xtime b ^^^ xtime c ^^^ c ^^^ d) ::
      (a ^^^ b ^^^ xtime c ^^^ xtime d ^^^ d) :: (xtime a ^^^ a ^^^ b ^^^ c ^^^ xtime d) :: aesMix t
  | _ => []

/-- The rounds after the first key addition; the last one mixes no columns. -/
def aesRounds : List (List Nat) → List Nat → List Nat
  | [], st => st
  | [k], st => xorBytes (aesShift (st.map aesSub)) k
  | k :: ks, st => aesRounds ks (xorBytes (aesMix (aesShift (st.map aesSub))) k)

/-- One block under expanded keys. -/
def aesBlock (keys : List (List Nat)) (blk : List Nat) : List Nat :=
  aesRounds keys.tail (xorBytes blk (keys.headD []))

def natBe (bs : List Nat) : Nat := bs.foldl (fun a b => a * 256 + b) 0

def beNat : Nat → Nat → List Nat
  | 0, _ => []
  | n + 1, v => (v / 256 ^ n) % 256 :: beNat n v

/-- Zero padding to whole blocks. -/
def padBlock (l : List Nat) : List Nat := l ++ List.replicate ((16 - l.length % 16) % 16) 0

/-! ### GCM -/

/-- Multiplication in GF(2^128) with the bit order of GCM. -/
def gfMul : Nat → Nat → Nat → Nat → Nat
  | 0, _, _, z => z
  | n + 1, x, v, z =>
    let z := if x.testBit n then z ^^^ v else z
    gfMul n x (if v.testBit 0 then (v >>> 1) ^^^ (0xE1 <<< 120) else v >>> 1) z

def ghash (h : Nat) (blocks : List (List Nat)) : Nat :=
  blocks.foldl (fun y b => gfMul 128 (y ^^^ natBe b) h 0) 0

/-- The key stream of counter mode over blocks from a counter block prefix and its first count. -/
def ctrStream (keys : List (List Nat)) (pre : List Nat) (width : Nat) : Nat → Nat → List Nat
  | 0, _ => []
  | n + 1, c => aesBlock keys (pre ++ beNat width c) ++ ctrStream keys pre width n (c + 1)

def gcmCrypt (keys : List (List Nat)) (iv input : List Nat) : List Nat :=
  xorBytes input (ctrStream keys iv 4 ((input.length + 15) / 16) 2)

/-- The full GCM tag over AAD and ciphertext (13 R423). -/
def gcmTag (keys : List (List Nat)) (iv aad ct : List Nat) : List Nat :=
  let h := natBe (aesBlock keys (List.replicate 16 0))
  let data := padBlock aad ++ padBlock ct ++ beNat 8 (8 * aad.length) ++ beNat 8 (8 * ct.length)
  let s := ghash h (chunks 16 (data.length / 16 + 1) data)
  xorBytes (beNat 16 s) (aesBlock keys (iv ++ [0, 0, 0, 1]))

/-! ### CCM -/

/-- The formatted first blocks of CCM: B0, then the AAD with its two-byte length, zero-padded (13 R423). -/
def ccmBlocks (nonce aad pt : List Nat) (tlen : Nat) : List Nat :=
  let l := 15 - nonce.length
  let flags := (if aad.isEmpty then 0 else 64) + 8 * ((tlen - 2) / 2) + (l - 1)
  let b0 := flags :: nonce ++ beNat l pt.length
  let a := if aad.isEmpty then [] else padBlock (beNat 2 aad.length ++ aad)
  b0 ++ a ++ padBlock pt

def cbcMac (keys : List (List Nat)) (data : List Nat) : List Nat :=
  (chunks 16 (data.length / 16 + 1) data).foldl (fun y b => aesBlock keys (xorBytes y b)) (List.replicate 16 0)

def ccmStream (keys : List (List Nat)) (nonce : List Nat) (first n : Nat) : List Nat :=
  let l := 15 - nonce.length
  ctrStream keys ((l - 1) :: nonce) l n first

def ccmCrypt (keys : List (List Nat)) (nonce input : List Nat) : List Nat :=
  xorBytes input (ccmStream keys nonce 1 ((input.length + 15) / 16))

def ccmTag (keys : List (List Nat)) (nonce aad pt : List Nat) (tlen : Nat) : List Nat :=
  (xorBytes (cbcMac keys (ccmBlocks nonce aad pt tlen)) (ccmStream keys nonce 0 1)).take tlen

/-! ### Byte strings -/

def toNats (bs : List Byte) : List Nat := bs.map (·.toNat)
def ofNats (ns : List Nat) : List Byte := ns.map (BitVec.ofNat 8)

/-- A key held in 256 bits, byte 0 the least significant, as its 16 or 32 bytes. -/
def keyBytes (size : Bool) (key : BitVec 256) : List Nat := toNats (leBytes (if size then 32 else 16) key.toNat)

/-- A GCM encryption: ciphertext and the first `tlen` bytes of the tag (05 R174, 13 R427). -/
def gcmEnc (size : Bool) (key : BitVec 256) (iv aad pt : List Byte) (tlen : Nat) : List Byte × List Byte :=
  let keys := aesKeys (keyBytes size key)
  let ct := gcmCrypt keys (toNats iv) (toNats pt)
  (ofNats ct, ofNats ((gcmTag keys (toNats iv) (toNats aad) ct).take tlen))

/-- A GCM decryption: the plaintext when the tag verifies (13 R428). -/
def gcmDec (size : Bool) (key : BitVec 256) (iv aad ct tag : List Byte) : Option (List Byte) :=
  let keys := aesKeys (keyBytes size key)
  let t := (gcmTag keys (toNats iv) (toNats aad) (toNats ct)).take tag.length
  if ofNats t = tag then some (ofNats (gcmCrypt keys (toNats iv) (toNats ct))) else none

def ccmEnc (size : Bool) (key : BitVec 256) (nonce aad pt : List Byte) (tlen : Nat) : List Byte × List Byte :=
  let keys := aesKeys (keyBytes size key)
  (ofNats (ccmCrypt keys (toNats nonce) (toNats pt)), ofNats (ccmTag keys (toNats nonce) (toNats aad) (toNats pt) tlen))

def ccmDec (size : Bool) (key : BitVec 256) (nonce aad ct tag : List Byte) : Option (List Byte) :=
  let keys := aesKeys (keyBytes size key)
  let pt := ccmCrypt keys (toNats nonce) (toNats ct)
  if ofNats (ccmTag keys (toNats nonce) (toNats aad) pt tag.length) = tag then some (ofNats pt) else none

/-- AES-256-ECB of one block under a 256-bit key (13 R434). -/
def aes256 (key : BitVec 256) (blk : List Byte) : List Byte := ofNats (aesBlock (aesKeys (keyBytes true key)) (toNats blk))

end Sys2Proof.Machine
end

