-- ==== Sys2Proof/Machine/Flags.lean ====
section
/-! DEFINITION. The status bits that every block of registers keeps in the same way: a bit cleared by writing one
(23 R677), and REFUSED with the cause of the most recent refusal (23 R678). -/
namespace Sys2Proof.Machine

/-- A W1C bit after a write (23 R677): cleared where the write holds a 1. A later occurrence is a later command, so it
sets the bit again. -/
def w1c (cur : Bool) (v : Word) (i : Nat) : Bool := if bitAt v i then false else cur

/-- A counter of 32 bits, wrapping (15 R507). -/
def inc32 (w : Word) : Word := w + 1

/-- A counter that saturates at 0xFFFF (12). -/
def incSat16 (w : BitVec 16) : BitVec 16 := if w = 0xFFFF then w else w + 1

end Sys2Proof.Machine
end

