-- ==== Sys2Proof/Config.lean ====
section
/-! DEFINITION. What an implementation fixes and the spec leaves open: free values (opaque constants, no body) and the
constants of the part that the spec gives. -/
namespace Sys2Proof

/-- The stream of free values: the n-th value the device draws where the spec leaves a value open or calls it random
(log entry 2). Nothing is known of it. -/
opaque Config.free : Nat → BitVec 64

/-- Whether the signature of an image or profile, endpaper and body, verifies against the key that R572 names: the
arithmetic of ECDSA P-256 is not given by the spec, only that it decides (18 R572, R573; log entry 20). -/
opaque Config.signatureValid : List Byte → Bool

/-- SHA-256, which the spec names and does not give (18 R572; log entry 20). -/
opaque Config.sha256 : List Byte → List Byte

/-- The response data of a mailbox command whose byte layout the spec does not give, from its values in the order of
18 Table 18.3 (GET_INFO, UPDATE_BEGIN; log entry 16). -/
opaque Config.responseLayout : Nat → List Nat → List Byte

/-- The 48-bit unique identifier of the device (05 R173); the spec fixes no value (log entry 10). -/
opaque Config.uid : BitVec 48

end Sys2Proof
end

