-- ==== Sys2Proof/Machine/State.lean ====
section
/-! DEFINITION. The state of the Colophon controller as plain data, block by block, and the state after reset. Register
words keep the manual's bit layout; what lives only inside the device is decoded. INVENTORY.md lists each field with its
rule and its reset value. -/
namespace Sys2Proof.Machine

/-- A sparse memory: (key, value) pairs, keys strictly rising, none equal to the default value. -/
abbrev Sparse (α : Type) := List (Nat × α)

/-- The model has no faults: a condition of fault is a status field, an event or a ring state of the device. The one
constructor is never raised (safe: nothing stops with it). -/
inductive Fault where
  | none
  deriving DecidableEq, Repr

/-- A command without a meaning (the dispatch answers it; safe, the run stops). -/
inductive Refusal where
  | notModelled (mnemonic : String)
  deriving DecidableEq, Repr

/-! ### Colophon and life cycle (00, 19, 20, 21) -/

structure Cln where
  role : Bool
  hostmode : Bool
  bootsrc : Bool
  confirmed : Bool
  fw : Word
  confirmPending : Bool
  confirmRole : Bool
  deriving DecidableEq, Repr

structure Life where
  porstLow : Bool
  coreLost : Bool
  aonUp : Bool
  linkUp : Bool
  /-- MSS_READY has been raised since the last cold start (21 R643). -/
  mssReadySeen : Bool
  /-- The tick of the last cold start: the voltage detector is armed 1 ms later (19 R586). -/
  upAt : Nat
  deriving DecidableEq, Repr

/-! ### Mains phase tracker (01) -/

/-- The state of a phase (01 Table 01.7). -/
inductive PhSt where
  | unlocked | acquiring | locked | flywheel
  deriving DecidableEq, Repr

structure PhaseS where
  st : PhSt
  /-- 48-bit accumulator; its top 32 bits are the angle. At 2^48 and above only between the tick that passes the wrap
  and PHASE_ANGLE_WRAP. -/
  acc : Nat
  cyc : BitVec 48
  freq : Word
  lockedFreq : Word
  inRange : Bool
  good : Nat
  noX : Nat
  bad : Nat
  fw : Nat
  /-- The edge accepted for the crossing at the last wrap, and one accepted early for the next, as their offsets from
  the prediction (R693). -/
  edge : Option Word
  edgeEarly : Option Word
  /-- The tick of the last accepted edge (R16). -/
  edgeAt : Option Nat
  /-- The phase has been LOCKED since reset: it has a flywheel angle (R24). -/
  tracked : Bool
  fitErr : List Word
  spur : Nat
  spurQuiet : Nat
  /-- What the loop has still to pull in, in 2^-16 MA (R23). -/
  pull : Int
  /-- A step that waits for this phase's wrap; true: the reference has taken it, no second event (R694). -/
  step : Option (Int × Bool)
  zcDly : Word
  deriving DecidableEq, Repr

structure MptSnap where
  angle : Vector Word 4
  cyc : Vector (BitVec 48) 4
  st : Vector PhSt 3
  deriving DecidableEq, Repr

structure LeafRaw where
  ofs : Word
  sector : Nat
  ambig : Bool
  deriving DecidableEq, Repr

structure Mpt where
  ctrl : Word
  lock : Word
  prio : Word
  ph : Vector PhaseS 3
  refAcc : Nat
  refCyc : BitVec 48
  refPhase : Phase
  refChosen : Bool
  bias : Word
  stepBias : Option Int
  stepRegain : Option Int
  rotation : Bool
  rotValid : Bool
  snapSeq : Word
  snap : MptSnap
  leafValid : Bool
  leafAmbig : Bool
  leafSector : Nat
  leafPort : Port
  leafOfs : Word
  rawHist : List LeafRaw
  deriving DecidableEq, Repr

/-! ### Quire scheduler (02) -/

/-- The state of the scheduler (02 Table 02.10). -/
inductive QrSt where
  | stopped | mains | flywheel | waiting
  deriving DecidableEq, Repr

/-- A role-map bank (02 R68): its geometry word and, per phase and word of eight folios, the roles. -/
structure Bank where
  geom : Word
  roles : Sparse Word
  deriving DecidableEq, Repr

/-- A beacon taken (05 Table 05.6). -/
structure BeaconInfo where
  kind : BitVec 2
  flags : Byte
  quire : Word
  geom : Byte
  base : BitVec 16
  fwAdd : BitVec 16
  active : Word
  tod : Stamp
  part : Vector Word 4
  pendDigest : Option Word
  qs : Option Word
  fwP : Option Word
  qr : Option Word
  predSlip : Option Word
  deriving DecidableEq, Repr

/-- A role-map segment received (05 Table 05.7). -/
structure RmSeg where
  bank : Bool
  phase : Nat
  seg : Nat
  nseg : Nat
  digest : Word
  geom : Byte
  base : BitVec 16
  qs : Word
  map : List Byte
  deriving DecidableEq, Repr

structure Qr where
  nominal : Bool
  run : Bool
  st : QrSt
  cycle : Nat
  folio : Nat
  slipping : Bool
  qnum : Word
  qnumInit : Word
  margin : Word
  announce : Word
  mapAddr : Word
  bank : Vector Bank 2
  active : Fin 2
  swapQ : Option Word
  swapReg : Word
  refused : Bool
  activeWr : Bool
  part : Word
  partPend : Vector Word 4
  partNow : Vector Word 4
  slip : Word
  slipQ : Word
  fwPeriod : Word
  beaconSkip : Word
  deriving DecidableEq, Repr

/-- The scheduler's inner state: realignment, senior, flywheel and role-map bookkeeping. -/
structure QrX where
  /-- T0 of the flywheel quire in progress, in ns of time-engine time. -/
  fwQuire : Option Nat
  /-- RUN was cleared: the scheduler stops at the next boundary (R95). -/
  stopReq : Bool
  /-- Spine beacons that have announced the realignment, and Qr once the last of them is out (R90). -/
  announced : Nat
  realignQ : Option Word
  predSlip : Word
  slipStart : Nat
  /-- A swap cancelled in a quire: that quire, its Qs, its digest (R72). -/
  cancelled : Option (Word × Word × Word)
  seniorMiss : Nat
  seniorLost : Bool
  seniorRealign : Bool
  /-- A spine beacon has been heard in the quire in progress. -/
  bcnHeard : Bool
  /-- Partition words found to differ from the own QR_PARTn, by head ID (R85). -/
  mismatch : List (Nat × Word)
  /-- Quires since the active bank was last broadcast (R67). -/
  roleMapAge : Nat
  marginDone : Bool
  last : Option BeaconInfo
  /-- RFC of the last spine beacon accepted (07 Table 07.2), as a parameter word. -/
  joinCfg : BitVec 12
  rmSegs : List RmSeg
  deriving DecidableEq, Repr

/-! ### Airtime governor (03) -/

/-- Band C state of a port (03 Table 03.7). -/
inductive CSt where
  | off | waiting | run | pause
  deriving DecidableEq, Repr

structure CPort where
  st : CSt
  busyInDelay : Bool
  delay : Option Nat
  runStart : Nat
  lastSample : Nat
  deriving DecidableEq, Repr

structure AirBand where
  rate : Word
  window : Word
  bres : Word
  hold : Word
  main : Int
  beacon : Nat
  frac : Nat
  ackSupp : Word
  onceAck : Bool
  heldSince : Option Nat
  deriving DecidableEq, Repr

structure Air where
  ctrl : Word
  refused : Bool
  cause : BitVec 3
  dry : BitVec 4
  band : Vector AirBand 4
  cWithheld : Word
  cdet : Word
  cthr : Word
  ctime : Word
  cacc : Word
  cst : Vector CPort 3
  onceMain : Bool
  onceC : Bool
  deriving DecidableEq, Repr

/-! ### Analogue front end (04) -/

/-- The state of a line port (04 Table 04.5). -/
inductive PortSt where
  | off | idle | tx | rx | fault
  deriving DecidableEq, Repr

structure PortS where
  pctrl : Word
  txgain : Word
  txcal : Word
  txceil : Word
  rxcal : Word
  txdly : Word
  rxdly : Word
  ldcfg : Word
  st : PortSt
  cause : BitVec 2
  pgaNow : BitVec 5
  capped : Bool
  firAct : Fin 2
  firReq : Option (Fin 2)
  rxsat : Word
  txclip : Word
  satOnce : Bool
  clipOnce : Bool
  deriving DecidableEq, Repr

structure PortX where
  notch : Vector Word 8
  notchNow : Vector Word 8
  fir : Sparse (BitVec 18)
  cpwr : Sparse Word
  ldEn : Bool
  blank : Bool
  offPend : Bool
  offBy : Bool
  autoRet : List Nat
  rxActive : Option Bool
  lastTxEnd : Option Nat
  deriving DecidableEq, Repr

structure Afe where
  lock : Bool
  refused : Bool
  cause : BitVec 3
  port : BitVec 2
  firAddr : Word
  cpwrAddr : Word
  p : Vector PortS 3
  x : Vector PortX 3
  deriving DecidableEq, Repr

/-! ### Line frames (05) -/

/-- Where a frame stands between its submission and the end of its line work. -/
inductive FrSt where
  | queued | held | committed | onLine | waiting
  deriving DecidableEq, Repr

/-- A relay path (05 Table 05.3). -/
structure Route where
  rly1 : BitVec 12
  rly2 : BitVec 12
  rly3 : BitVec 12
  idx : Nat
  dirHead : Bool
  crgrant : Byte
  deriving DecidableEq, Repr

/-- The modulation a frame was committed with (06, 07). -/
inductive Mode where
  | ofdm (slot : Nat) (rate : Nat)
  | robust (cfg : BitVec 12)
  deriving DecidableEq, Repr

/-- A frame the device sends: what it is, which descriptor it serves, and what its commit latched. -/
structure TxFrame where
  id : Nat
  ty : BitVec 4
  src : BitVec 12
  dst : BitVec 12
  seq : Option Byte
  ackreq : Bool
  urgent : Bool
  body : List Byte
  /-- Submission ring and descriptor of the ring it serves. -/
  desc : Option (Nat × Nat)
  tag : Word
  posted : Bool
  pseq : Word
  /-- The frame came back (R275, R306) or was relayed: the received bytes are kept whole. -/
  raw : Option (List Byte)
  route : Option Route
  /-- The next actor: the entry that gives mode and ports. -/
  hop : BitVec 12
  st : FrSt
  /-- A frame buffer is held; an EXPRESS one. -/
  buffer : Bool
  attempts : Nat
  /-- Ticks: submission and deadline. -/
  born : Nat
  deadline : Option Nat
  wasHeld : Bool
  ports : BitVec 3
  mode : Mode
  /-- Airtime on one port in us, and the port-us taken per band. -/
  airtime : Nat
  cost : Vector Nat 4
  credit : Bool
  inv : BitVec 40
  /-- The tick of the first and of the last sample. -/
  start : Nat
  endAt : Nat
  quire : Word
  /-- Contention window; the folio drawn. -/
  folio : Option Nat
  lastStatus : Byte
  /-- Sample of first-symbol boundary on the line. -/
  stamp : Stamp
  /-- The bytes as built at commit. -/
  built : List Byte
  /-- The half-cycle copy is the one due (07 R244). -/
  copy : Bool
  /-- Its descriptor was aborted: what is on the line ends there and is not sent again (17 R544). -/
  orphan : Bool
  deriving DecidableEq, Repr

/-- A frame as it left the device: its bytes before scrambling and the bits handed to the modulator. -/
structure SentFrame where
  port : BitVec 3
  mode : Mode
  bytes : List Byte
  bits : List Bool
  deriving DecidableEq, Repr

/-- An acknowledgement due (05 R182). -/
structure AckDue where
  port : Port
  ofdm : Bool
  rate : Mode
  dst : BitVec 12
  seq : Byte
  status : Byte
  lqi : Byte
  credit : Byte
  route : Option Route
  deriving DecidableEq, Repr

structure Line where
  /-- LF_ events raised in this quire: (code, port). -/
  once : List (Nat × Nat)
  q : List TxFrame
  nextId : Nat
  acks : List AckDue
  /-- The robust frame taken last: port and bytes (07 R242). -/
  lastRx : Option (Nat × List Byte)
  /-- Contention windows that differ from 4, by destination (02 R65). -/
  cw : Sparse Nat
  /-- The last frame put on the line (the block's output). -/
  out : Option SentFrame
  deriving DecidableEq, Repr

/-! ### OFDM mode (06) and robust mode (07) -/

structure OfdPort where
  rxok : Word
  hcsfail : Word
  rsfail : Word
  fcsfail : Word
  fcfail : Word
  rscorr : Word
  ofs : Word
  snr : Word
  deriving DecidableEq, Repr

structure Ofd where
  rxen : BitVec 3
  refused : Bool
  cause : BitVec 3
  slot : BitVec 4
  tmAddr : Word
  tm : Sparse Word
  valid : BitVec 16
  bcast : Word
  p : Vector OfdPort 3
  fallOnce : List Nat
  deriving DecidableEq, Repr

structure RbmPort where
  rxok : Word
  hcsfail : Word
  rsfail : Word
  fcsfail : Word
  rfcfail : Word
  comb : Word
  snr : Word
  trainOnce : Bool
  deriving DecidableEq, Repr

structure Rbm where
  ctrl : Word
  refused : Bool
  cause : BitVec 3
  bad : Bool
  fc : Word
  bcfg : Word
  dcfg : Word
  p : Vector RbmPort 3
  /-- First copies of half-cycle pairs held, by port: the cycle and folio they came in. -/
  held : List (Nat × Nat)
  deriving DecidableEq, Repr

/-! ### Leaf table (08) -/

structure LtCommitS where
  index : BitVec 12
  mask : BitVec 16
  words : Sparse Word
  ev : Bool
  /-- The folio, counted over quires, from which it takes effect (08 R254). -/
  due : Nat
  deriving DecidableEq, Repr

structure LtStage where
  words : Sparse Word
  cmd : Word
  refused : Bool
  cause : BitVec 3
  busy : Bool
  waiting : List LtCommitS
  deriving DecidableEq, Repr

/-- A REMOTE_FENCE that waits (08 R281): its descriptor, its leaf, whether a posted write failed, the posted writes
taken before it and not yet answered, by frame. -/
structure Fence where
  ring : Nat
  desc : Nat
  leaf : BitVec 12
  failed : Bool
  waits : List Nat
  deriving DecidableEq, Repr

structure Lt where
  cfg : Word
  timers : Word
  remote : Word
  join : Word
  jstate : BitVec 2
  rlyDrop : Word
  bcGap : Word
  stage : Vector LtStage 2
  appt : Sparse Word
  /-- The leaf table: (entry, its 64 bytes), unlisted entries zero. -/
  mem : Sparse (BitVec 512)
  quiet : Sparse Nat
  /-- TIPPING entries: quires waited, and whether the entry was INVITED. -/
  tip : List (Nat × Nat × Bool)
  rekey : List Nat
  deriving DecidableEq, Repr

structure LtX where
  fences : List Fence
  /-- Relay credits unused, and the counts in force as set at the last boundary; grants received with their age in
  quires; granted for the next quire. -/
  credits : Sparse Nat
  creditSet : Sparse Nat
  grants : List (Nat × Nat × Nat)
  granted : Nat
  bcE : Option Byte
  bcSeq : Byte
  /-- E of REMOTE frames at a leaf (05 R169). -/
  remE : Byte
  tipWait : Nat
  headMiss : Nat
  noAnswer : Nat
  sentAck : Bool
  heardHead : Bool
  myNum : BitVec 12
  prevNum : BitVec 12
  confirmWait : Bool
  lastRoute : Option Route
  uid : BitVec 48
  rlyOnce : Bool
  respCache : Option (Byte × List Byte)
  lqi : Byte
  deriving DecidableEq, Repr

/-! ### Sleepy leaves (09) -/

/-- A wake episode of the head (09 R300). -/
structure Episode where
  leaf : BitVec 12
  frame : Nat
  copies : Nat
  sent : Nat
  targetQ : Word
  targetFolio : Nat
  deriving DecidableEq, Repr

structure Slp where
  cfg : Word
  lim : Word
  ctrl : Word
  head : Word
  budget : Word
  wskip : Word
  search : Bool
  missed : Byte
  /-- Consecutive contacts within and beyond FIX (R293). -/
  inFix : Nat
  outFix : Nat
  /-- SLEEPY_WINDOW folios left to linger in; none: not lingering (R305). -/
  linger : Option Nat
  overBudget : Bool
  window : Option WindowKind
  /-- Target quire and folio of the wake episode received (R303). -/
  target : Option (Word × Nat)
  quiresSince : Nat
  kaQuires : Nat
  missOnce : Bool
  /-- A spine beacon has been authenticated since the last sampled sleep (R307). -/
  beaconHeard : Bool
  /-- The tick of the last contact; reset counts as one (log entry 42). -/
  contactAt : Nat
  resync : Bool
  /-- A frame of the head has been heard in this folio. -/
  gotFolio : Bool
  /-- The tick from which awake time counts, and the ticks counted in the period (R315). -/
  awakeFrom : Option Nat
  spentTicks : Nat
  deriving DecidableEq, Repr

structure SlpHead where
  episodes : List Episode
  wakeCopies : Nat
  headLinger : List (Nat × Nat)
  noWinOnce : List Nat
  /-- SLEEPY as it was before a change that waits for the quire boundary (R318). -/
  change : List (BitVec 12 × BitVec 16)
  /-- Per leaf, one above the tick of its last own frame (R294). -/
  lastFrom : Sparse Nat
  deriving DecidableEq, Repr

/-! ### Time engine (10) -/

structure TeSnap where
  sec : BitVec 48
  ns : Word
  frac : BitVec 16
  ma : Word
  mcyc : BitVec 48
  utc : Word
  leap : Word
  deriving DecidableEq, Repr

/-- A ranging exchange in progress at this node (10 R343). -/
structure Exch where
  /-- The port of this node's next leg. -/
  port : Port
  leaf : BitVec 12
  exch : Byte
  hops : Nat
  /-- The last leg sent or received here. -/
  leg : Nat
  initiator : Bool
  /-- Folio j of R344, within its cycle. -/
  folio : Nat
  /-- Folio index, counted over quires, of the last leg. -/
  last : Nat
  /-- The first-symbol boundary of the leg to be sent next, in 1/256 ns; none while a leg is awaited. -/
  due : Option Nat
  /-- The frame to send again, at a relay. -/
  raw : List Byte
  route : Option Route
  hop : BitVec 12
  /-- Stamps of R347, as TS48. -/
  t1 : Nat
  t2 : Nat
  /-- P_n latched, in ns. -/
  p : Nat
  /-- TeX.stepMark at the first leg. -/
  mark : Nat
  deriving DecidableEq, Repr

structure Te where
  sec : BitVec 48
  /-- Nanoseconds, below 10^9. -/
  ns : Nat
  frac : BitVec 16
  sub : BitVec 32
  s : BitVec 40
  slew : Int
  ctrl : Word
  disc : Word
  ppsCfg : Word
  ppsinDly : Word
  utc : Word
  leapCtrl : Word
  leapAt : BitVec 48
  tc : Word
  tcEpoch : BitVec 48
  rngCfg : Word
  rngLim : Word
  rngNow : Word
  refused : Bool
  cause : BitVec 3
  ranged : Bool
  leap : Bool
  srcOk : BitVec 3
  st : BitVec 2
  snapSeq : Word
  snap : TeSnap
  setSec : BitVec 48
  setNs : Word
  setFrac : Word
  armed : Option (BitVec 2)
  pps : Bool
  deriving DecidableEq, Repr

structure TeX where
  ppsinErr : Word
  theta : Word
  bcnOfs : Word
  rngOk : Word
  rngFail : Word
  rngRej : Word
  ppsinBad : Word
  /-- Time of day, in 1/256 ns, of the last accepted PPS_IN edge and of the last measurement (R336, R337). -/
  lastEdge : Option Int
  lastMeas : Option Int
  consIn : Nat
  consOut : Nat
  sHist : List Int
  srcLost : BitVec 3
  bcnMiss : Nat
  exch : List Exch
  nextExch : Byte
  /-- Per leaf, one above the quire of its last success (R342). -/
  lastRng : Sparse Nat
  first : Option (BitVec 12)
  rejRun : Nat
  firstDone : Bool
  /-- EXCH, T2, T3 and stepMark of the last RANGE_RESP sent (R350). -/
  lastResp : Option (Byte × Nat × Nat × Nat)
  stepMark : Nat
  stepTick : Nat
  tcActive : BitVec 48
  deriving DecidableEq, Repr

/-! ### Reference generators (11) and their alignment (12) -/

/-- The state of a channel (11 R361). -/
inductive RgSt where
  | stopped | armed | running | halted
  deriving DecidableEq, Repr

structure Retune where
  ftw : BitVec 48
  phi : BitVec 48
  when_ : Nat
  desc : Nat × Nat
  deriving DecidableEq, Repr

structure RgCh where
  ctrl : Word
  ftw : BitVec 48
  seqAddr : Word
  ltc : Word
  ltcUb : Word
  cntld : Vector Word 4
  maAng : Vector Word 2
  maQ : Vector Word 2
  maCfg : Vector Word 2
  todSec : Vector (BitVec 48) 2
  todNs : Vector Word 2
  ts : Vector Word 16
  seqLow : Word
  /-- The next access to RGn_SEQ_DATA is the high word (R369). -/
  seqHi : Bool
  steps : Sparse (BitVec 64)
  st : RgSt
  step : Byte
  tset : BitVec 2
  retune : Option Retune
  nco : BitVec 48
  ftwNow : BitVec 48
  deriving DecidableEq, Repr

structure RgX where
  cnt : Vector (BitVec 16) 4
  pinL : BitVec 16
  maL : BitVec 2
  todL : BitVec 2
  ppsL : Bool
  flags : BitVec 4
  maArm : BitVec 2
  todArm : BitVec 2
  stopReq : Bool
  /-- The step in play was entered by a taken branch, and its timing set waits for the next sample clock (R384). -/
  taken : Bool
  tsetWait : Option (BitVec 2)
  /-- The step the seam leads to. -/
  next : Option Byte
  /-- The sample of the segment in play, and the plays done. -/
  pos : Nat
  reps : Nat
  evtCount : Nat
  /-- The tick of the last RG_STEP_EVENT. -/
  evtAt : Option Nat
  /-- Signatures the step in play reads (11 R365). -/
  activeSig : List Nat
  frame : Option (BitVec 80)
  frameRate : Nat
  ltcHeard : Bool
  out : BitVec 16
  deriving DecidableEq, Repr

structure Rg where
  sig : Sparse Byte
  vfault : Bool
  vtrip : BitVec 2
  refused : Bool
  cause : BitVec 3
  chn : BitVec 3
  incfg : Word
  vdac : Vector Word 2
  patsel : Vector Word 16
  /-- Signatures claimed by a SIG_WRITE in progress: ring, descriptor, signature, offset, data. -/
  claims : List (Nat × Nat × Nat × Nat × List Byte)
  ch : Vector RgCh 8
  x : Vector RgX 8
  deriving DecidableEq, Repr

structure Aln where
  gofs : Word
  kcfg : Word
  kexp : Word
  kdly : Word
  kmax : Word
  kmeas : Word
  kok : BitVec 16
  kmiss : BitVec 16
  stcfg : Word
  stdly : Word
  stlim : Word
  ststate : BitVec 3
  pos : BitVec 3
  holdIn : Bool
  sterr : Word
  stcrc : BitVec 16
  ksum : Int
  kn : Nat
  missTick : Option Nat
  lockRun : Nat
  seqno : Byte
  /-- A word of DEPTH 7 was refused: nothing is sent (R410). -/
  deep : Bool
  /-- The tick at which the last kettle pulse began: KETTLE_OUT is high for 40 ticks from it (R404). -/
  kout : Option Nat
  lastWord : Option (BitVec 128)
  deriving DecidableEq, Repr

/-! ### Cipher cluster (13) -/

/-- A key slot (13 R429). -/
structure Slot where
  use : BitVec 3
  size : Bool
  gen : BitVec 6
  key : BitVec 256
  inv : Nat
  blk : Nat
  inve : Nat
  blke : Nat
  warn : Bool
  exh : Bool
  fhold : Bool
  /-- Jobs admitted and not completed. -/
  held : Nat
  owner : BitVec 12
  /-- INV counter of a LEAF_PINNED key; and the slot's own counter of GROUP and JOIN frames, which no load clears
  (R437). -/
  counter : Nat
  netCtr : Nat
  /-- Highest INV accepted, one per head ID (GROUP, JOIN) or at 0 (LEAF_PINNED); none yet: none. -/
  heldInv : Vector (Option (BitVec 40)) 4
  lru : Nat
  /-- Unloads taken (R431), as ring and descriptor. -/
  unload : Option (List (Nat × Nat))
  /-- The key is replaced and waits for its admitted jobs (R430). -/
  retire : Bool
  deriving DecidableEq, Repr

/-- A key-use record of leaf n at a head (13 R438). -/
structure KeyUse where
  txCtr : Nat
  heldLeaf : Option (BitVec 40)
  heldJoin : Option (BitVec 40)
  inv : Nat
  blk : Nat
  warn : Bool
  exh : Bool
  size : Bool
  deriving DecidableEq, Repr

/-- An admitted host job (13 R422). -/
structure CxJob where
  ring : Nat
  desc : Nat
  decrypt : Bool
  ccm : Bool
  slot : Nat
  nonce : List Byte
  aad : List Byte
  input : List Byte
  tlen : Nat
  dst : Nat
  deriving DecidableEq, Repr

/-- The state of a core (13 Table 13.5). -/
inductive CoreSt where
  | off | idle | busy | faulted
  deriving DecidableEq, Repr

structure CxCore where
  st : CoreSt
  job : Option CxJob
  /-- The decrypted bytes held back until the tag is compared (R444); none: overwritten with zeros or released. -/
  hold : List Byte
  /-- The test vector of R449 runs. -/
  selfTest : Bool
  deriving DecidableEq, Repr

/-- A key load that waits (13 R430). -/
structure KeyLoadS where
  ring : Nat
  desc : Nat
  slot : Nat
  use : BitVec 3
  gen : BitVec 6
  size : Bool
  key : BitVec 256
  inve : Nat
  blke : Nat
  /-- The key is in its slot; its schedule check is outstanding. -/
  placed : Bool
  deriving DecidableEq, Repr

structure CxInfo where
  info : Word
  owner : Word
  inv : BitVec 64
  blk : BitVec 64
  deriving DecidableEq, Repr

structure Cx where
  ctrl : Word
  coreEn : BitVec 4
  limLeaf : Word
  limNet : Word
  boot : BitVec 12
  faultSlot : Word
  slotSel : Word
  core : Vector CxCore 4
  slot : Vector Slot 64
  use : Sparse KeyUse
  info : CxInfo
  rxHeld : Word
  unwrapFail : Word
  replay : Word
  jobs : List CxJob
  loads : List KeyLoadS
  kdk : Option (BitVec 256)
  bootEpoch : BitVec 64
  groupNow : Option Nat
  groupNext : Option Nat
  noCore : Bool
  unwrapOnce : List Nat
  lru : Nat
  deriving DecidableEq, Repr

/-! ### Check-value unit (14) -/

structure CvCh where
  cfg : Word
  poly : Word
  init : Word
  xorout : Word
  state : Word
  count : Word
  deriving DecidableEq, Repr

structure Cv where
  ch : Vector CvCh 8
  refused : Bool
  cause : BitVec 3
  chn : BitVec 3
  deriving DecidableEq, Repr

/-! ### Host rings (15), event ring (16), ledgers (17) -/

/-- The state of a ring (15 Table 15.7). -/
inductive RingSt where
  | disabled | running | stopping | fault
  deriving DecidableEq, Repr

/-- How a descriptor ended: status, XSTAT, length done (15 R494). -/
structure Result where
  status : Byte
  xstat : BitVec 16
  len : Word
  deriving DecidableEq, Repr

/-- A descriptor taken and not completed, in ring order (15 R487, R495). -/
structure Taken where
  id : Nat
  bytes : DescBytes
  result : Option Result
  /-- It occupies a mailbox slot (17 R535). -/
  mail : Bool
  /-- Events that concern it and follow its record (R496): code, instance, payload. -/
  events : List (Nat × Nat × BitVec 128)
  deriving DecidableEq, Repr

structure Sq where
  base : BitVec 64
  cfg : Word
  st : RingSt
  fcause : BitVec 2
  read : Nat
  tail : Nat
  bell : Word
  taken : List Taken
  nextId : Nat
  deriving DecidableEq, Repr

structure Cq where
  base : BitVec 64
  cfg : Word
  st : RingSt
  armed : Bool
  head : Nat
  tail : Nat
  seq : Word
  bell : Word
  reserved : Nat
  /-- Ticks at which the unconsumed records were written, oldest first. -/
  written : List Nat
  deriving DecidableEq, Repr

/-- The MSI-X table entry, the pending bit and the messages sent (15 R475, 16 R518). -/
structure Msix where
  mask : Bool
  pend : Bool
  addr : BitVec 64
  data : Word
  sent : Nat
  deriving DecidableEq, Repr

/-- A received DATA frame that waits for a host buffer (15 R500, R501). -/
structure RxWait where
  header : List Byte
  body : List Byte
  src : BitVec 12
  at_ : Nat
  deriving DecidableEq, Repr

/-- A taken RX_POST (15 R500). -/
structure RxPostS where
  ring : Nat
  desc : Nat
  addr : Nat
  len : Nat
  deriving DecidableEq, Repr

structure Hi where
  refused : Bool
  cause : BitVec 3
  causeCq : Bool
  causeRing : BitVec 4
  rxcfg : Word
  rxdrop : Word
  badacc : Word
  dmaerr : Word
  sq : Vector Sq 16
  cq : Vector Cq 16
  rxPosts : List RxPostS
  rxWait : List RxWait
  rxOnce : Bool
  bufsUsed : Nat
  bufsExpress : Nat
  /-- The submission ring served last (15 R488). -/
  served : Option Nat
  deriving DecidableEq, Repr

/-- An event record (16 Table 16.1). -/
structure EvRec where
  seq : Word
  code : BitVec 16
  source : BitVec 16
  sec : Word
  ns : Word
  payload : BitVec 128
  deriving DecidableEq, Repr

/-- A coalescing counter (16 R520). -/
structure Coal where
  count : Word
  sat : Bool
  source : BitVec 16
  sec : Word
  ns : Word
  lastSec : Word
  lastNs : Word
  deriving DecidableEq, Repr

/-- The mode of the event path (16 R520). -/
inductive EvMode where
  | normal | holding | coalescing
  deriving DecidableEq, Repr

structure Ev where
  base : BitVec 64
  cfg : Word
  refused : Bool
  cause : BitVec 3
  st : RingSt
  armed : Bool
  mode : EvMode
  head : Nat
  tail : Nat
  bell : Word
  nextSeq : Word
  held : List EvRec
  /-- Counters by code, codes strictly rising. -/
  coal : List (Nat × Coal)
  coalTotal : Word
  /-- What the next EV_RING_STARTED names as its cause. -/
  startCause : Byte
  /-- The code whose coalesced record was formed last in the pass in progress (16 R521). -/
  passAt : Nat
  written : List Nat
  deriving DecidableEq, Repr

/-- The counts of a ledger instance (17 R527). -/
structure Ledger where
  issued : BitVec 64
  returned : BitVec 64
  held : Word
  retiring : Bool
  deriving DecidableEq, Repr

/-- A unit reset whose UNIT_RESET_DONE is due (17 R541). -/
structure UReset where
  unit : Byte
  cause : Byte
  aborted : Nat
  byHost : Bool
  /-- Completions still to be posted: (ring, descriptor). -/
  waits : List (Nat × Nat)
  deriving DecidableEq, Repr

structure Lg where
  epoch : Word
  refused : Bool
  cause : BitVec 3
  fault : Byte
  snapCnt : Word
  /-- Ledgers by (class, instance), sorted; unlisted ones are zero. -/
  inst : List ((Nat × Nat) × Ledger)
  resets : List UReset
  deriving DecidableEq, Repr

/-! ### Management subsystem (18) -/

/-- A boot-state copy in flash (18 R551). -/
structure BootCopy where
  valid : Bool
  count : Word
  active : Bool
  pending : Bool
  tries : Nat
  slotValid : BitVec 4
  profile : Option Bool
  cxBoot : BitVec 12
  epoch : Word
  wrapped : Bool
  deriving DecidableEq, Repr

structure Sensor where
  value : Word
  low : Option Word
  high : Option Word
  hyst : Word
  /-- The side last reported (R560): 0 in range, 1 above high, 2 below low; and the tick it has stood from. -/
  side : Nat
  sideAt : Nat
  /-- The side of the last reading, without hysteresis, and the tick it has stood from. -/
  raw : Nat
  rawAt : Nat
  deriving DecidableEq, Repr

/-- A request in a mailbox slot (17 R535, 18 R555). -/
structure Mail where
  ring : Nat
  desc : Nat
  req : List Byte
  addr : Nat
  cap : Nat
  deriving DecidableEq, Repr

structure SmbSens where
  idx : Nat
  addr : Byte
  cmd : Byte
  fmt : Byte
  /-- The exponent byte of LINEAR16. -/
  exp : Byte
  period : BitVec 16
  deriving DecidableEq, Repr

/-- A forced action in force on a unit (18 R562, R564). -/
structure Forced where
  unit : Nat
  sensor : Nat
  /-- 1 thermal, 2 supply. -/
  cause : Nat
  /-- Taken by the hardware trips. -/
  hw : Bool
  /-- The host has written the field since (R563). -/
  hostWrote : Bool
  /-- The tick from which its restore condition has held. -/
  clearSince : Option Nat
  /-- The tick it was last taken. -/
  lastAt : Nat
  deriving DecidableEq, Repr

/-- A log record (18 R567). -/
structure LogRec where
  seq : Word
  code : BitVec 16
  source : BitVec 16
  sec : BitVec 48
  ns : Word
  payload : BitVec 128
  epoch : Word
  evseq : Word
  posted : Bool
  deriving DecidableEq, Repr

structure Session where
  target : Nat
  len : Nat
  received : Nat
  data : List Byte
  verified : Bool
  deriving DecidableEq, Repr

/-- A Zungo profile being applied (18 R577): the records not yet applied, the index of the next, the ring and
descriptor it waits for. -/
structure Profile where
  bytes : List Byte
  index : Nat
  waitDesc : Option Nat
  deriving DecidableEq, Repr

structure Mss where
  st : BitVec 2
  /-- The image slot booted, A or B; an image is verified and loaded; it runs as a trial (R575). -/
  slot : Bool
  loaded : Bool
  trial : Bool
  /-- CLN_FW of the image loaded, shown from MSS_READY on (R576); its ROLLBACK. -/
  fw : Word
  fwRollback : Nat
  /-- The boot ROM waits for an image on the recovery UART (21 R642). -/
  uart : Bool
  hwthr : Word
  thcfg : Word
  smbcfg : Word
  lock : Bool
  mail : List Mail
  sess : Option Session
  /-- The cause MSS_READY will name (16 Table 16.12); the tick the boot began. -/
  startCause : Byte
  bootAt : Nat
  /-- A restart that follows the completion of this descriptor, with its cause (R556, R575). -/
  restartDue : Option (Nat × Nat × Byte)
  /-- MSS_UPDATE records due at MSS_READY: step, outcome, slot (R575). -/
  updateDue : List (Nat × Nat × Nat)
  prof : Option Profile
  deriving DecidableEq, Repr

structure MssX where
  otpRollback : Nat
  otpKey : Option (BitVec 256)
  boot : Vector BootCopy 2
  /-- Flash slots: image A, image B, profile A, profile B. -/
  img : Vector Image 4
  sens : List (Nat × Sensor)
  mainscal : Vector (Option Word) 3
  smbSens : List SmbSens
  acts : List Forced
  /-- The MSS's view of each unit whose view is not RUNNING, as coded in R565. -/
  view : Sparse Nat
  /-- Units whose views differ: the tick from which, and whether it was reported. -/
  mism : List (Nat × Nat × Bool)
  log : List LogRec
  logSeq : Word
  logBuf : List LogRec
  logDropped : Word
  /-- The replay of R570 is done for this cold start. -/
  replayed : Bool
  /-- The update session open when power was lost, as step and slot (outcome 0x12). -/
  sessMark : Option (Nat × Nat)
  deriving DecidableEq, Repr

/-! ### Tamper (19), power and clocks (20), pins (22) -/

/-- A zeroisation in progress (19 R591, R592): its decision tick, the jobs it ended, the completions still to be posted,
the tick the overwriting was over, the source for TMP_LOCKED, and whether it was the one that entered TAMPER_LOCKED. -/
structure Zeroise where
  at_ : Nat
  jobs : Nat
  waits : List (Nat × Nat)
  done : Option Nat
  source : Nat
  enters : Bool
  deriving DecidableEq, Repr

structure Tmp where
  locked : Bool
  ks : BitVec 2
  refused : Bool
  cause : BitVec 2
  aonpor : Bool
  cfgLocked : Bool
  live : BitVec 5
  latch : BitVec 5
  cfg : Word
  deb : Word
  stamp : BitVec 64
  causeReg : Word
  aon : BitVec 64
  ppsAon : BitVec 64
  ppsSec : BitVec 48
  ppsValid : Bool
  tbSent : BitVec 16
  tbNofit : BitVec 16
  ksmk : Option (BitVec 256)
  /-- The state of the generator behind TAMP_OUT (R583). -/
  mesh : BitVec 15
  /-- A zeroisation whose TMP_ZEROISED is due (R592). -/
  zero : List Zeroise
  /-- Records of the always-on domain that wait for the event path: code, instance, payload, always-on stamp. -/
  waiting : List (Nat × Nat × BitVec 128 × Option (BitVec 64))
  /-- The quire in which the next tamper beacon is due; and 0 when none waits, else one above the CONTENTION folios still
  to pass (R599). -/
  tbQuire : Option Word
  tbFolio : Nat
  deriving DecidableEq, Repr

/-- The power states (20 R618). -/
inductive PwrSt where
  | active | appointed | sampled | holdover | dormant
  deriving DecidableEq, Repr

structure Pwr where
  refused : Bool
  cause : BitVec 3
  ldvGood : Bool
  pwrfail : Bool
  backup : Bool
  lastSrc : BitVec 4
  st : PwrSt
  cfg : Word
  wakeAt : BitVec 64
  slpcfg : Word
  ldv : Word
  rails : BitVec 8
  wakePin : Option (Fin 48)
  exiting : Option (BitVec 4)
  /-- The tick the power state began. -/
  since : Nat
  deriving DecidableEq, Repr

structure Clk where
  refsel : Bool
  present : BitVec 3
  onref : Bool
  pll : BitVec 4
  deriving DecidableEq, Repr

structure Pmx where
  lock : Bool
  refused : Bool
  cause : BitVec 3
  bank : Vector BankVolt 3
  gpioOut : BitVec 48
  gpioOe : BitVec 48
  pad : BitVec 48
  pin : Vector Word 48
  confMap : BitVec 18
  conf : Vector Word 18
  /-- The instruction of the test access port in effect (R668, R669). -/
  tapIr : TapInstr
  deriving DecidableEq, Repr

/-! ### The machine -/

structure State where
  cln : Cln
  life : Life
  mpt : Mpt
  qr : Qr
  qrx : QrX
  air : Air
  afe : Afe
  line : Line
  ofd : Ofd
  rbm : Rbm
  lt : Lt
  ltx : LtX
  slp : Slp
  slph : SlpHead
  te : Te
  tex : TeX
  rg : Rg
  aln : Aln
  cx : Cx
  cv : Cv
  hi : Hi
  msix : Msix
  ev : Ev
  lg : Lg
  mss : Mss
  mssx : MssX
  tmp : Tmp
  pwr : Pwr
  clk : Clk
  pmx : Pmx
  /-- _HI values latched by a _LO read: (agent, BAR2, offset of the _LO register) (23 R675). -/
  shadow : List ((Agent × Bool × Nat) × Word)
  /-- _LO halves written: as shadow (23 R676). -/
  staging : List ((Agent × Bool × Nat) × Word)
  /-- Host memory as the device has written it (outside the device; its output). -/
  hostMem : List Host.Cell
  /-- What the last read of a register returned (the block's output). -/
  answer : Option Word
  freeCtr : Nat
  now : Nat
  pending : List Instr
  deriving DecidableEq, Repr


/-! ### The state after reset: each block -/

def Cln.reset : Cln :=
  { role := false, hostmode := false, bootsrc := false, confirmed := false, fw := 0,
    confirmPending := false, confirmRole := false }

def Life.reset : Life :=
  { porstLow := false, coreLost := false, aonUp := true, linkUp := false, mssReadySeen := false, upAt := 0 }

def PhaseS.reset : PhaseS :=
  { st := .unlocked, acc := 0, cyc := 0, freq := 0, lockedFreq := 0, inRange := true, good := 0, noX := 0, bad := 0,
    fw := 0, edge := none, edgeEarly := none, edgeAt := none, tracked := false, fitErr := [], spur := 0, spurQuiet := 0, pull := 0, step := none,
    zcDly := 0 }

def MptSnap.reset : MptSnap :=
  { angle := Vector.replicate 4 0, cyc := Vector.replicate 4 0, st := Vector.replicate 3 .unlocked }

def Mpt.reset : Mpt :=
  { ctrl := 0x0000000F, lock := 0x00401002, prio := 0x24, ph := Vector.replicate 3 PhaseS.reset, refAcc := 0,
    refCyc := 0, refPhase := 0, refChosen := false, bias := 0, stepBias := none, stepRegain := none,
    rotation := false, rotValid := false, snapSeq := 0, snap := MptSnap.reset, leafValid := false, leafAmbig := false,
    leafSector := 0, leafPort := 0, leafOfs := 0, rawHist := [] }

/-- The role words of one cycle of Table 02.1 for F = 12, folio 0 with the role given: BEACON in cycle 0, DOWN in the
others. Roles: 1 DOWN, 2 UP_APPOINTED, 3 CONTENTION, 4 RANGING, 5 SLEEPY_WINDOW, 6 EXPRESS. -/
def Bank.cycleRoles (first : Nat) : List Nat := [first, 1, 1, 6, 2, 4, 1, 5, 1, 6, 2, 3]

/-- Eight role nibbles packed low first (02 QR_MAP_DATA). -/
def Bank.pack : List Nat → Nat
  | [] => 0
  | r :: rs => r + 16 * Bank.pack rs

/-- The twelve words of a phase in the default map (02 R73): 96 folios, eight a word. -/
def Bank.defaultWords : List Nat :=
  let folios := Bank.cycleRoles 0 ++ (List.replicate 7 (Bank.cycleRoles 1)).flatten
  (List.range 12).map fun k => Bank.pack ((folios.drop (8 * k)).take 8)

def Bank.reset : Bank :=
  { geom := 0x00960107,
    roles := ((List.range 3).map fun p => (List.range 12).map fun k =>
      (96 * p + k, BitVec.ofNat 32 (Bank.defaultWords.getD k 0))).flatten }

def Qr.reset : Qr :=
  { nominal := false, run := false, st := .stopped, cycle := 0, folio := 0, slipping := false, qnum := 0, qnumInit := 0,
    margin := 0x64, announce := 2, mapAddr := 0, bank := Vector.replicate 2 Bank.reset, active := 0, swapQ := none,
    swapReg := 0, refused := false, activeWr := false, part := 0x404, partPend := Vector.replicate 4 0,
    partNow := Vector.replicate 4 0, slip := 0, slipQ := 0, fwPeriod := 0, beaconSkip := 0 }

def QrX.reset : QrX :=
  { fwQuire := none, stopReq := false, announced := 0, realignQ := none, predSlip := 0, slipStart := 0,
    cancelled := none, seniorMiss := 0, seniorLost := false, seniorRealign := false, bcnHeard := false, mismatch := [],
    roleMapAge := 3, marginDone := false, last := none, joinCfg := 3, rmSegs := [] }

def CPort.reset : CPort :=
  { st := .off, busyInDelay := false, delay := none, runStart := 0, lastSample := 0 }

def AirBand.reset : AirBand :=
  { rate := 0xC000, window := 0x3E8, bres := 0x2710, hold := 0x1F4, main := 740000, beacon := 10000, frac := 0,
    ackSupp := 0, onceAck := false, heldSince := none }

def Air.reset : Air :=
  { ctrl := 0x200, refused := false, cause := 0, dry := 0, band := Vector.replicate 4 AirBand.reset, cWithheld := 0,
    cdet := 0x010B0107, cthr := 0x000400AC, ctime := 0x007D03E8, cacc := 0x001E0055,
    cst := Vector.replicate 3 CPort.reset, onceMain := false, onceC := false }

/-- A port after reset: IDLE, as 21 Table 21.3 leaves it after a cold start (log entry 8). -/
def PortS.reset : PortS :=
  { pctrl := 0x4F, txgain := 0x30, txcal := 0x1E0, txceil := 0x280, rxcal := 0x1E0, txdly := 0x003C8C00,
    rxdly := 0x000FA000, ldcfg := 0x64C80A14, st := .idle, cause := 0, pgaNow := 2, capped := false, firAct := 0,
    firReq := none, rxsat := 0, txclip := 0, satOnce := false, clipOnce := false }

def PortX.reset : PortX :=
  { notch := Vector.replicate 8 0, notchNow := Vector.replicate 8 0, fir := [(31, 0x10000), (95, 0x10000)], cpwr := [],
    ldEn := false, blank := false, offPend := false,
    offBy := false, autoRet := [], rxActive := none, lastTxEnd := none }

def Afe.reset : Afe :=
  { lock := false, refused := false, cause := 0, port := 0, firAddr := 0, cpwrAddr := 0,
    p := Vector.replicate 3 PortS.reset, x := Vector.replicate 3 PortX.reset }

def Line.reset : Line :=
  { once := [], q := [], nextId := 0, acks := [], lastRx := none, cw := [], out := none }

def OfdPort.reset : OfdPort :=
  { rxok := 0, hcsfail := 0, rsfail := 0, fcsfail := 0, fcfail := 0, rscorr := 0, ofs := 0, snr := 0 }

def Ofd.reset : Ofd :=
  { rxen := 7, refused := false, cause := 0, slot := 0, tmAddr := 0, tm := [], valid := 1, bcast := 0,
    p := Vector.replicate 3 OfdPort.reset, fallOnce := [] }

def RbmPort.reset : RbmPort :=
  { rxok := 0, hcsfail := 0, rsfail := 0, fcsfail := 0, rfcfail := 0, comb := 0, snr := 0, trainOnce := false }

def Rbm.reset : Rbm :=
  { ctrl := 0xF17, refused := false, cause := 0, bad := false, fc := 0x1ADB0, bcfg := 3, dcfg := 3,
    p := Vector.replicate 3 RbmPort.reset, held := [] }

def LtStage.reset : LtStage := { words := [], cmd := 0, refused := false, cause := 0, busy := false, waiting := [] }

def Lt.reset : Lt :=
  { cfg := 0, timers := 0x01001008, remote := 0x04020204, join := 0, jstate := 0, rlyDrop := 0, bcGap := 0,
    stage := Vector.replicate 2 LtStage.reset, appt := [], mem := [], quiet := [], tip := [], rekey := [] }

def LtX.reset : LtX :=
  { fences := [], credits := [], creditSet := [], grants := [], granted := 0, bcE := none, bcSeq := 0, remE := 0, tipWait := 0,
    headMiss := 0, noAnswer := 0, sentAck := false, heardHead := false, myNum := 0, prevNum := 0, confirmWait := false,
    lastRoute := none, uid := Config.uid, rlyOnce := false, respCache := none, lqi := 0 }

def Slp.reset : Slp :=
  { cfg := 0x07D01433, lim := 0x0FA01000, ctrl := 0x400, head := 0x1002, budget := 0x8CA0, wskip := 0, search := false,
    missed := 0, inFix := 0, outFix := 0, linger := none, overBudget := false, window := none, target := none,
    quiresSince := 0, kaQuires := 0, missOnce := false, beaconHeard := true, contactAt := 0, resync := false,
    gotFolio := false, awakeFrom := none, spentTicks := 0 }

def SlpHead.reset : SlpHead :=
  { episodes := [], wakeCopies := 0, headLinger := [], noWinOnce := [], change := [], lastFrom := [] }

def TeSnap.reset : TeSnap := { sec := 0, ns := 0, frac := 0, ma := 0, mcyc := 0, utc := 0, leap := 0 }

def Te.reset : Te :=
  { sec := 0, ns := 0, frac := 0, sub := 0, s := 0, slew := 0, ctrl := 0x10, disc := 0x00A3E824, ppsCfg := 0x64,
    ppsinDly := 0, utc := 0, leapCtrl := 0, leapAt := 0, tc := 1, tcEpoch := 0, rngCfg := 0x82000400, rngLim := 0x7D0,
    rngNow := 0, refused := false, cause := 0, ranged := false, leap := false, srcOk := 0, st := 0, snapSeq := 0,
    snap := TeSnap.reset, setSec := 0, setNs := 0, setFrac := 0, armed := none, pps := false }

def TeX.reset : TeX :=
  { ppsinErr := 0, theta := 0, bcnOfs := 0, rngOk := 0, rngFail := 0, rngRej := 0, ppsinBad := 0, lastEdge := none,
    lastMeas := none, consIn := 0, consOut := 0, sHist := [], srcLost := 0, bcnMiss := 0, exch := [],
    nextExch := 0, lastRng := [], first := none, rejRun := 0, firstDone := false, lastResp := none, stepMark := 0,
    stepTick := 0, tcActive := 0 }

def RgCh.reset : RgCh :=
  { ctrl := 0x20000000, ftw := 0, seqAddr := 0, ltc := 0, ltcUb := 0, cntld := Vector.replicate 4 0,
    maAng := Vector.replicate 2 0, maQ := Vector.replicate 2 0, maCfg := Vector.replicate 2 0,
    todSec := Vector.replicate 2 0, todNs := Vector.replicate 2 0, ts := Vector.replicate 16 0, seqLow := 0, seqHi := false, steps := [],
    st := .stopped, step := 0, tset := 0, retune := none, nco := 0, ftwNow := 0 }

def RgX.reset : RgX :=
  { cnt := Vector.replicate 4 0, pinL := 0, maL := 0, todL := 0, ppsL := false, flags := 0, maArm := 0, todArm := 0,
    stopReq := false, taken := false, tsetWait := none, next := none, pos := 0, reps := 0, evtCount := 0,
    evtAt := none, activeSig := [],
    frame := none, frameRate := 0, ltcHeard := false, out := 0 }

def Rg.reset : Rg :=
  { sig := [], vfault := false, vtrip := 0, refused := false, cause := 0, chn := 0, incfg := 0,
    vdac := Vector.replicate 2 0, patsel := Vector.replicate 16 0, claims := [], ch := Vector.replicate 8 RgCh.reset,
    x := Vector.replicate 8 RgX.reset }

def Aln.reset : Aln :=
  { gofs := 0, kcfg := 0x0400000A, kexp := 0x1DCD6500, kdly := 0, kmax := 0x3E8, kmeas := 0, kok := 0, kmiss := 0,
    stcfg := 0x2400, stdly := 0, stlim := 0x03E80200, ststate := 0, pos := 0, holdIn := false, sterr := 0, stcrc := 0,
    ksum := 0, kn := 0, missTick := none, lockRun := 0, seqno := 0, deep := false, kout := none,
    lastWord := none }

def Slot.empty : Slot :=
  { use := 0, size := false, gen := 0, key := 0, inv := 0, blk := 0, inve := 0, blke := 0, warn := false, exh := false,
    fhold := false, held := 0, owner := 0, counter := 0, netCtr := 0, heldInv := Vector.replicate 4 none, lru := 0, unload := none,
    retire := false }

def KeyUse.zero : KeyUse :=
  { txCtr := 0, heldLeaf := none, heldJoin := none, inv := 0, blk := 0, warn := false, exh := false, size := false }

def CxCore.reset : CxCore := { st := .idle, job := none, hold := [], selfTest := false }

def Cx.reset : Cx :=
  { ctrl := 0x110, coreEn := 0xF, limLeaf := 0x2420, limNet := 0x221C, boot := 0, faultSlot := 0, slotSel := 0,
    core := Vector.replicate 4 CxCore.reset, slot := Vector.replicate 64 Slot.empty, use := [],
    info := { info := 0, owner := 0, inv := 0, blk := 0 }, rxHeld := 0, unwrapFail := 0, replay := 0, jobs := [],
    loads := [], kdk := none, bootEpoch := Config.free 0, groupNow := none, groupNext := none, noCore := false,
    unwrapOnce := [], lru := 0 }

/-- Channel 0 resets to the HCS preset, the others to the FCS preset (14 Table 14.2). -/
def CvCh.reset (c : Nat) : CvCh :=
  if c = 0 then { cfg := 0x00040310, poly := 0x1021, init := 0xFFFF, xorout := 0xFFFF, state := 0xFFFF, count := 0 }
  else { cfg := 0x00010320, poly := 0x04C11DB7, init := 0xFFFFFFFF, xorout := 0xFFFFFFFF, state := 0xFFFFFFFF,
         count := 0 }

def Cv.reset : Cv :=
  { ch := Vector.ofFn fun c : Fin 8 => CvCh.reset c.val, refused := false, cause := 0, chn := 0 }

def Sq.reset : Sq :=
  { base := 0, cfg := 4, st := .disabled, fcause := 0, read := 0, tail := 0, bell := 0, taken := [], nextId := 0 }

def Cq.reset : Cq :=
  { base := 0, cfg := 0x104, st := .disabled, armed := false, head := 0, tail := 0, seq := 1, bell := 0, reserved := 0,
    written := [] }

def Msix.reset : Msix := { mask := true, pend := false, addr := 0, data := 0, sent := 0 }

def Hi.reset : Hi :=
  { refused := false, cause := 0, causeCq := false, causeRing := 0, rxcfg := 0x64, rxdrop := 0, badacc := 0, dmaerr := 0,
    sq := Vector.replicate 16 Sq.reset, cq := Vector.replicate 16 Cq.reset, rxPosts := [], rxWait := [],
    rxOnce := false, bufsUsed := 0, bufsExpress := 0, served := none }

def Ev.reset : Ev :=
  { base := 0, cfg := 0x106, refused := false, cause := 0, st := .disabled, armed := false, mode := .normal, head := 0,
    tail := 0, bell := 0, nextSeq := 1, held := [], coal := [], coalTotal := 0, startCause := 1, passAt := 0, written := [] }

def Lg.reset : Lg :=
  { epoch := 0, refused := false, cause := 0, fault := 0, snapCnt := 0, inst := [], resets := [] }

def BootCopy.blank : BootCopy :=
  { valid := false, count := 0, active := false, pending := false, tries := 0, slotValid := 0, profile := none,
    cxBoot := 0, epoch := 0, wrapped := false }

def Mss.reset : Mss :=
  { st := 0, slot := false, loaded := false, trial := false, fw := 0, fwRollback := 0, uart := false,
    hwthr := 0x007D0654, thcfg := 0x7369, smbcfg := 0x80000002, lock := false, mail := [], sess := none, startCause := 1,
    bootAt := 0, restartDue := none, updateDue := [], prof := none }

def MssX.reset : MssX :=
  { otpRollback := 0, otpKey := none, boot := Vector.replicate 2 BootCopy.blank, img := Vector.replicate 4 [],
    sens := [], mainscal := Vector.replicate 3 none, smbSens := [], acts := [], view := [], mism := [], log := [],
    logSeq := 0, logBuf := [], logDropped := 0, replayed := false, sessMark := none }

def Tmp.reset : Tmp :=
  { locked := false, ks := 0, refused := false, cause := 0, aonpor := true, cfgLocked := false, live := 0,
    latch := 0, cfg := 0x03330000, deb := 0x0A0A, stamp := 0, causeReg := 0, aon := 0, ppsAon := 0, ppsSec := 0,
    ppsValid := false, tbSent := 0, tbNofit := 0,
    ksmk := some (Config.free 1 ++ Config.free 2 ++ Config.free 3 ++ Config.free 4),
    mesh := (Config.free 5).setWidth 15, zero := [], waiting := [], tbQuire := none, tbFolio := 0 }

def Pwr.reset : Pwr :=
  { refused := false, cause := 0, ldvGood := false, pwrfail := false, backup := false, lastSrc := 0, st := .active,
    cfg := 0x800A0001, wakeAt := 0, slpcfg := 0x7D0, ldv := 0x0A000320, rails := 0x3F, wakePin := none, exiting := none,
    since := 0 }

def Clk.reset : Clk := { refsel := false, present := 5, onref := false, pll := 15 }

def Pmx.reset : Pmx :=
  { lock := false, refused := false, cause := 0, bank := Vector.replicate 3 .v18, gpioOut := 0, gpioOe := 0, pad := 0,
    pin := Vector.replicate 48 0x250, confMap := 0, conf := Vector.replicate 18 0, tapIr := .idcode }

/-- The machine at cold-start step 4 (21 R638): every block at the value the spec states for reset, the values it does
not state as the assumption log names them (log entries 3 to 19). The five draws of the key store and the boot epoch
are free values 0 to 5. -/
def State.reset : State :=
  { cln := Cln.reset, life := Life.reset, mpt := Mpt.reset, qr := Qr.reset, qrx := QrX.reset, air := Air.reset,
    afe := Afe.reset, line := Line.reset, ofd := Ofd.reset, rbm := Rbm.reset, lt := Lt.reset, ltx := LtX.reset,
    slp := Slp.reset, slph := SlpHead.reset, te := Te.reset, tex := TeX.reset, rg := Rg.reset, aln := Aln.reset,
    cx := Cx.reset, cv := Cv.reset, hi := Hi.reset, msix := Msix.reset, ev := Ev.reset, lg := Lg.reset,
    mss := Mss.reset, mssx := MssX.reset, tmp := Tmp.reset, pwr := Pwr.reset, clk := Clk.reset, pmx := Pmx.reset,
    shadow := [], staging := [], hostMem := [], answer := none, freeCtr := 6, now := 0, pending := [] }

end Sys2Proof.Machine
end

