-- ==== Sys2Proof/Machine/Ops.lean ====
section
/-! DEFINITION. The operations every block shares: sparse memories, free values, time, the ledgers, host memory, and
the one path by which an event reaches the host (16). -/
namespace Sys2Proof.Machine

abbrev Out := Host.Outcome State Fault Refusal

/-! ### Sparse memories -/

/-- The value at a key: the default for a key not listed. -/
def spGet {α : Type} (d : α) : Sparse α → Nat → α
  | [], _ => d
  | (k, v) :: t, i => if k = i then v else spGet d t i

/-- A write, keeping the keys rising and the default value unlisted. -/
def spPut {α : Type} [DecidableEq α] (d : α) (i : Nat) (v : α) : Sparse α → Sparse α
  | [] => if v = d then [] else [(i, v)]
  | (k, w) :: t =>
    if i < k then (if v = d then (k, w) :: t else (i, v) :: (k, w) :: t)
    else if i = k then (if v = d then t else (i, v) :: t)
    else (k, w) :: spPut d i v t

/-- The canonical form: every key above the bound before it, no default value listed. -/
def spWfFrom {α : Type} [DecidableEq α] (d : α) : Nat → Sparse α → Bool
  | _, [] => true
  | lo, (k, v) :: t => decide (lo ≤ k) && decide (v ≠ d) && spWfFrom d (k + 1) t

def spWf {α : Type} [DecidableEq α] (d : α) (m : Sparse α) : Bool := spWfFrom d 0 m

/-- A run of bytes written at rising addresses. -/
def spPutBytes (m : Sparse Byte) (addr : Nat) : List Byte → Sparse Byte
  | [] => m
  | b :: bs => spPutBytes (spPut 0 addr b m) (addr + 1) bs

/-- A run of bytes read. -/
def spGetBytes (m : Sparse Byte) (addr : Nat) : Nat → List Byte
  | 0 => []
  | n + 1 => spGet 0 m addr :: spGetBytes m (addr + 1) n

/-! ### Free values and time -/

/-- The next free value (log entry 2). -/
def draw (s : State) : BitVec 64 × State :=
  (Config.free s.freeCtr, { s with freeCtr := s.freeCtr + 1 })

/-- Fabric ticks in n microseconds: 400 a microsecond (10 R323). -/
def ticksUs (n : Nat) : Nat := 400 * n

/-- Fabric ticks in n milliseconds. -/
def ticksMs (n : Nat) : Nat := 400000 * n

/-- The time of day as stamped now. -/
def todNow (s : State) : Stamp := { sec := s.te.sec, ns := BitVec.ofNat 32 s.te.ns, frac := s.te.frac }

/-- Time of day in 1/256 ns, the unit of TS48 before its reduction modulo 2^48 (05 R185). -/
def stamp256 (t : Stamp) : Nat := (t.sec.toNat * 1000000000 + t.ns.toNat) * 256 + t.frac.toNat / 256

/-- TS48 of a stamp (05 R185). -/
def ts48 (t : Stamp) : Nat := stamp256 t % 2 ^ 48

/-- The domains other than AON run: PORST_N is high, VDD_CORE is up and the device is not DORMANT (20, 21). -/
def devUp (s : State) : Bool :=
  !s.life.porstLow && !s.life.coreLost && s.life.aonUp && decide (s.pwr.st ≠ .dormant)

/-- A command of a domain other than AON: it happens only while that domain runs. No command touches the queue. -/
def run (s : State) (f : State → State) : Out := .next { (if devUp s then f s else s) with pending := s.pending }

/-- A command of the AON domain: it happens while that domain is powered. -/
def runAon (s : State) (f : State → State) : Out :=
  .next { (if s.life.aonUp then f s else s) with pending := s.pending }

/-! ### Ledgers (17 R527 to R529) -/

def Ledger.zero : Ledger := { issued := 0, returned := 0, held := 0, retiring := false }

/-- The order of ledger instances: by class, then by instance (17 R539). -/
def lgBefore (a b : Nat × Nat) : Bool := decide (a.1 < b.1) || (decide (a.1 = b.1) && decide (a.2 < b.2))

def lgGet (k : Nat × Nat) : List ((Nat × Nat) × Ledger) → Ledger
  | [] => Ledger.zero
  | (k', l) :: t => if k' = k then l else lgGet k t

def lgSet (k : Nat × Nat) (v : Ledger) : List ((Nat × Nat) × Ledger) → List ((Nat × Nat) × Ledger)
  | [] => if v = Ledger.zero then [] else [(k, v)]
  | (k', l) :: t =>
    if lgBefore k k' then (if v = Ledger.zero then (k', l) :: t else (k, v) :: (k', l) :: t)
    else if k = k' then (if v = Ledger.zero then t else (k, v) :: t)
    else (k', l) :: lgSet k v t

/-- An issue adds to issued and to held on one tick (17 R529). -/
def Ledger.issue (n : Nat) (l : Ledger) : Ledger :=
  { l with issued := l.issued + BitVec.ofNat 64 n, held := l.held + BitVec.ofNat 32 n }

/-- A return moves units from held to returned on one tick (17 R529): never more than are held (R528). -/
def Ledger.give (n : Nat) (l : Ledger) : Ledger :=
  let m := min n l.held.toNat
  { l with returned := l.returned + BitVec.ofNat 64 m, held := l.held - BitVec.ofNat 32 m }

def lgUpd (cls inst : Nat) (f : Ledger → Ledger) (g : Lg) : Lg :=
  { g with inst := lgSet (cls, inst) (f (lgGet (cls, inst) g.inst)) g.inst }

def issue (cls inst n : Nat) (s : State) : State := { s with lg := lgUpd cls inst (Ledger.issue n) s.lg }

def giveBack (cls inst n : Nat) (s : State) : State := { s with lg := lgUpd cls inst (Ledger.give n) s.lg }

/-- Everything an instance still holds is returned (17 R536). -/
def giveAll (cls inst : Nat) (s : State) : State :=
  { s with lg := lgUpd cls inst (fun l => Ledger.give l.held.toNat l) s.lg }

/-! ### Host memory -/

/-- A posted write of bytes to host memory (15 R496, R497). -/
def hostWrite (addr : Nat) (bs : List Byte) (s : State) : State :=
  { s with hostMem := spPutBytes s.hostMem addr bs }

/-! ### The event path (16) -/

/-- The MSI-X message, or the pending bit while the vector is masked (16 R518). -/
def msiSend (m : Msix) : Msix := if m.mask then { m with pend := true } else { m with sent := m.sent + 1 }

/-- A count register that reads 0 as 1. -/
def orOne (n : Nat) : Nat := if n = 0 then 1 else n

/-- Entries of a ring of the size LOG2SIZE gives (15 R478). -/
def ringSize (cfg : Word) : Nat := 2 ^ fld cfg 0 5

def evUnconsumed (e : Ev) : Nat := (e.tail + ringSize e.cfg - e.head) % ringSize e.cfg

/-- A free slot: at most S - 1 records are unconsumed (16 R514). -/
def evHasSlot (e : Ev) : Bool := decide (e.st = .running) && decide (evUnconsumed e + 1 < ringSize e.cfg)

/-- Sequence numbers run from 1 to 0xFFFF_FFFF and wrap to 1 (16 R510). -/
def nextSeqNo (q : Word) : Word := if q = 0xFFFFFFFF then 1 else q + 1

/-- The 32 bytes of a record (16 Table 16.1). -/
def recBytes (r : EvRec) : List Byte :=
  leBytes 4 r.seq.toNat ++ leBytes 2 r.code.toNat ++ leBytes 2 r.source.toNat ++ leBytes 4 r.sec.toNat ++
    leBytes 4 r.ns.toNat ++ leBytes 16 r.payload.toNat

/-- The conditions under which an armed event ring sends its message (16 R517). -/
def evDue (e : Ev) (now : Nat) : Bool :=
  decide (orOne (fld e.cfg 8 8) ≤ evUnconsumed e) ||
    (decide (fld e.cfg 16 12 ≠ 0) &&
      (match e.written with
       | [] => false
       | t :: _ => decide (t + ticksUs (fld e.cfg 16 12) ≤ now)))

/-- The message is sent and the ring disarms (16 R517). -/
def evFire (s : State) : State := { s with ev := { s.ev with armed := false }, msix := msiSend s.msix }

/-- An armed event ring whose condition holds sends the message once and disarms (16 R517). -/
def evNotify (s : State) : State := if s.ev.armed && evDue s.ev s.now then evFire s else s

/-- The device may write host memory for events: not in a sleep state (20 R618). -/
def evAwake (s : State) : Bool := decide (s.pwr.st = .active) || decide (s.pwr.st = .holdover)

def evMayWrite (s : State) : Bool := evHasSlot s.ev && evAwake s

/-- Log records of this epoch that meet a test are marked posted (18 R569). -/
def logMark (p : LogRec → Bool) (s : State) : State :=
  let m := fun (l : LogRec) => if l.epoch = s.lg.epoch ∧ p l then { l with posted := true } else l
  { s with mssx := { s.mssx with log := s.mssx.log.map m, logBuf := s.mssx.logBuf.map m } }

/-- A record written at the tail, which then advances (16 R514), counted in its ledger (R524). -/
def evWrite (r : EvRec) (s : State) : State :=
  let e := s.ev
  let s := hostWrite (e.base.toNat + 32 * e.tail) (recBytes r) s
  let s := { s with ev := { e with tail := (e.tail + 1) % ringSize e.cfg, written := e.written ++ [s.now] } }
  evNotify (issue 3 0 1 (logMark (fun l => decide (l.evseq = r.seq)) s))

/-- The code of EV_RING_STARTED (16 Table 16.16). -/
def evStartedCode : BitVec 16 := 0x0D09

/-- Records held that count toward the 64 of R520. -/
def evHeldCount (e : Ev) : Nat := (e.held.filter fun r => r.code ≠ evStartedCode).length

/-- A record formed now: it takes the next global sequence number (16 R510). -/
def evForm (code source : Nat) (sec ns : Word) (p : BitVec 128) (s : State) : EvRec × State :=
  ({ seq := s.ev.nextSeq, code := BitVec.ofNat 16 code, source := BitVec.ofNat 16 source, sec := sec, ns := ns,
     payload := p },
   { s with ev := { s.ev with nextSeq := nextSeqNo s.ev.nextSeq } })

/-- A record held behind those already held; with 64 of them the mode becomes COALESCING (16 R520). -/
def evHold (r : EvRec) (s : State) : State :=
  let e := { s.ev with held := s.ev.held ++ [r] }
  { s with ev := { e with mode := if 64 ≤ evHeldCount e then .coalescing else .holding } }

def Coal.first (source : Nat) (sec ns : Word) : Coal :=
  { count := 1, sat := false, source := BitVec.ofNat 16 source, sec := sec, ns := ns, lastSec := sec, lastNs := ns }

/-- One more event counted; the counter saturates (16 R522). -/
def Coal.more (sec ns : Word) (c : Coal) : Coal :=
  { c with count := if c.count = 0xFFFFFFFF then c.count else c.count + 1, sat := decide (c.count = 0xFFFFFFFF) || c.sat,
           lastSec := sec, lastNs := ns }

/-- The coalescing counter of a code, codes kept rising (16 R520). -/
def coalAdd (code source : Nat) (sec ns : Word) : List (Nat × Coal) → List (Nat × Coal)
  | [] => [(code, Coal.first source sec ns)]
  | (k, c) :: t =>
    if code < k then (code, Coal.first source sec ns) :: (k, c) :: t
    else if code = k then (k, c.more sec ns) :: t
    else (k, c) :: coalAdd code source sec ns t

/-- An event with the time it carries (16 R511) takes the path of R520. -/
def raiseRaw (code source : Nat) (sec ns : Word) (p : BitVec 128) (s : State) : State :=
  match s.ev.mode with
  | .coalescing =>
    { s with ev := { s.ev with coal := coalAdd code source sec ns s.ev.coal, coalTotal := s.ev.coalTotal + 1 } }
  | .holding =>
    let (r, s) := evForm code source sec ns p s
    evHold r s
  | .normal =>
    let (r, s) := evForm code source sec ns p s
    if evMayWrite s then evWrite r s else evHold r s

/-- The events that the management subsystem logs (18 R568). -/
def logged (code : Nat) : Bool :=
  [0x09, 0x0A, 0x0B].contains (code / 256) || [0x0103, 0x0506, 0x0701, 0x0802, 0x0803, 0x0D07].contains code

/-- A log record joins the buffer of 64 in SRAM; beyond that it is counted and dropped (18 R569). LOGSEQ is given when it
is written to flash. -/
def logAdd (code source : Nat) (sec : BitVec 48) (ns : Word) (p : BitVec 128) (evseq : Word) (s : State) : State :=
  if s.mssx.logBuf.length < 64 then
    let l : LogRec := { seq := 0, code := BitVec.ofNat 16 code, source := BitVec.ofNat 16 source, sec := sec, ns := ns,
                        payload := p, epoch := s.lg.epoch, evseq := evseq, posted := false }
    { s with mssx := { s.mssx with logBuf := s.mssx.logBuf ++ [l] } }
  else { s with mssx := { s.mssx with logDropped := inc32 s.mssx.logDropped } }

/-- An event raised, and logged where R568 says so; EVSEQ is its sequence number, 0 for one that is coalesced. -/
def raiseAt (code source : Nat) (sec : BitVec 48) (ns : Word) (p : BitVec 128) (s : State) : State :=
  let s := if logged code then
      logAdd code source sec ns p (if s.ev.mode = .coalescing then 0 else s.ev.nextSeq) s else s
  raiseRaw code source (sec.setWidth 32) ns p s

/-- An event of the device hardware: SOURCE is ORIGIN 0 and the given instance number (16 Table 16.2), stamped with the
time of day (R511). -/
def raiseP (code inst : Nat) (p : BitVec 128) (s : State) : State :=
  raiseAt code (inst % 256) s.te.sec (BitVec.ofNat 32 s.te.ns) p s

def raise (code inst : Nat) (fs : List (Nat × Nat × Nat)) (s : State) : State := raiseP code inst (payload fs) s

/-- An event of the Balton core: ORIGIN 1. -/
def raiseMss (code inst : Nat) (fs : List (Nat × Nat × Nat)) (s : State) : State :=
  raiseAt code (0x1000 + inst % 256) s.te.sec (BitVec.ofNat 32 s.te.ns) (payload fs) s

/-- The time of an always-on stamp (19 R604): 0 with no 1PPS pair since AON power-up. -/
def aonTime (s : State) (c : BitVec 64) : BitVec 48 × Word :=
  if s.tmp.ppsValid then
    let d : Int := (((c.toNat : Int) - s.tmp.ppsAon.toNat) * 1000000000).fdiv 32768
    (BitVec.ofInt 48 ((s.tmp.ppsSec.toNat : Int) + d.fdiv 1000000000), BitVec.ofNat 32 (d.fmod 1000000000).toNat)
  else (0, 0)

/-- A record of the always-on domain: ORIGIN 2 with the time of its stamp, or one of the device hardware without; while
the event path is down it waits (19, a tamper alarm during a sleep state; 20 R610). -/
def raiseAon (code inst : Nat) (p : BitVec 128) (stamp : Option (BitVec 64)) (s : State) : State :=
  if devUp s then
    match stamp with
    | some c => raiseAt code (0x2000 + inst % 256) (aonTime s c).1 (aonTime s c).2 p s
    | none => raiseP code inst p s
  else { s with tmp := { s.tmp with waiting := s.tmp.waiting ++ [(code, inst, p, stamp)] } }

/-- The first counter of the pass in progress: the lowest code above the one formed last, else a new pass (16 R521). -/
def coalNext (passAt : Nat) (cs : List (Nat × Coal)) : Option (Nat × Coal) :=
  match cs.find? fun c => decide (passAt < c.1) with
  | some c => some c
  | none => cs.head?

/-- EVENTS_COALESCED for one code (16 Table 16.16): formed, its counter zeroed, written. -/
def evCoalesced (code : Nat) (c : Coal) (s : State) : State :=
  let p := payload [(0, 2, code), (2, 1, ofBool c.sat), (4, 4, c.count.toNat), (8, 4, c.sec.toNat), (12, 4, c.ns.toNat)]
  let (r, s) := evForm 0x0D08 (c.source.toNat) c.lastSec c.lastNs p s
  let s := { s with ev := { s.ev with coal := s.ev.coal.filter (fun k => k.1 ≠ code), passAt := code } }
  logMark (fun l => decide (l.evseq = 0) && decide (l.code.toNat = code)) (evWrite r s)

/-- What the device writes while the ring runs with a free slot (16 R521): held records, oldest first, then the
coalesced counts. The first argument bounds the records of one go. -/
def evDrain : Nat → State → State
  | 0, s => s
  | n + 1, s =>
    match s.ev.held with
    | r :: rest =>
      if evMayWrite s then evDrain n (evWrite r { s with ev := { s.ev with held := rest } }) else s
    | [] =>
      match s.ev.mode with
      | .coalescing =>
        match coalNext s.ev.passAt s.ev.coal with
        | none => { s with ev := { s.ev with mode := .normal, passAt := 0 } }
        | some (code, c) => if evMayWrite s then evDrain n (evCoalesced code c s) else s
      | _ => { s with ev := { s.ev with mode := .normal } }

/-- A bound on the records a drain can write: those held, those counted, and one to settle the mode. -/
def evDrainAll (s : State) : State := evDrain (s.ev.held.length + s.ev.coal.length + 1) s

/-- A refused write of a block of registers raises its event with cause, offset and value (16 Tables 16.5 to 16.9). -/
def refusedPay (cause off : Nat) (v : Word) : List (Nat × Nat × Nat) := [(0, 1, cause), (4, 4, off), (8, 4, v.toNat)]

/-! ### Register pairs (23 R675, R676) -/

/-- The agent that plays host: the Balton core in autonomous operation (15 R505). -/
def hostAgent (s : State) : Agent := if s.cln.hostmode then .balton else .host

def pairGet (k : Agent × Bool × Nat) (l : List ((Agent × Bool × Nat) × Word)) : Option Word :=
  (l.find? fun e => decide (e.1 = k)).map (·.2)

def pairDrop (k : Agent × Bool × Nat) (l : List ((Agent × Bool × Nat) × Word)) : List ((Agent × Bool × Nat) × Word) :=
  l.filter fun e => decide (e.1 ≠ k)

/-- A write of a _LO register is held for its agent; a second one replaces it. -/
def stageLo (a : Agent) (bar2 : Bool) (off : Nat) (v : Word) (s : State) : State :=
  { s with staging := ((a, bar2, off), v) :: pairDrop (a, bar2, off) s.staging }

/-- The _LO half that a write of the _HI register applies: the one held, else the one in force. It is no longer held,
whether the write is accepted or refused. -/
def takeLo (a : Agent) (bar2 : Bool) (off : Nat) (live : Word) (s : State) : Word × State :=
  ((pairGet (a, bar2, off) s.staging).getD live, { s with staging := pairDrop (a, bar2, off) s.staging })

/-! ### Waking (20 R621) -/

/-- A source that ends a sleep state: the exit begins, and awake time counts from here (R622). An exit already begun keeps
its source. -/
def wakeBy (src : Nat) (s : State) : State :=
  if (s.pwr.st = .appointed ∨ s.pwr.st = .sampled) ∧ s.pwr.exiting = none then
    { s with
      pwr := { s.pwr with exiting := some (BitVec.ofNat 4 src) }
      slp := { s.slp with awakeFrom := some (s.slp.awakeFrom.getD s.now) } }
  else s

/-- An access by the agent that plays host: it wakes the device (20 R621). -/
def runHost (s : State) (f : State → State) : Out := run s fun s => f (wakeBy 2 s)

/-! ### Input functions of the pins (22 R654 to R658) -/

/-- FUNC of a pin. -/
def pinFunc (s : State) (i : Nat) : Nat := fld (vget s.pmx.pin i 0) 0 4

/-- The bank of pin i is at a valid voltage (R653, R654). -/
def bankOk (s : State) (i : Nat) : Bool := decide (vget s.pmx.bank (i / 16) .out ≠ .out)

/-- Pin i selects input function x of Table 22.5. -/
def selects (s : State) (x i : Nat) : Bool :=
  let f := pinFunc s i
  let k := i % 16
  if x = 16 then decide (f = 6) else if x = 17 then decide (f = 7)
  else (decide (f = 2) && decide (k = x)) || (decide (f = 4) && decide ((k + 8) % 16 = x))

def selectors (s : State) (x : Nat) : List Nat := (List.range 48).filter (selects s x)

/-- The one pin an input function takes its level from (R657, R658). -/
def inputPin (s : State) (x : Nat) : Option Nat :=
  match selectors s x with
  | [i] => if bankOk s i then some i else none
  | _ => none

/-- The level an input function presents. -/
def inputLevel (s : State) (x : Nat) : Bool :=
  match inputPin s x with
  | some i => s.pmx.pad.getLsbD i
  | none => decide (x = 17)

def setPad (i : Nat) (b : Bool) (s : State) : State :=
  { s with pmx := { s.pmx with pad :=
    if b then s.pmx.pad ||| BitVec.ofNat 48 (2 ^ i) else s.pmx.pad &&& ~~~ BitVec.ofNat 48 (2 ^ i) } }

end Sys2Proof.Machine
end

