-- ==== Sys2Proof/Machine/Rings.lean ====
section
/-! DEFINITION. The operations every descriptor shares (15): its fields, when a ring may take it (R487), the checks that
complete it BAD_DESCRIPTOR (R481, R493), the end of its work, and the read of its data buffer (R503). -/
namespace Sys2Proof.Machine

/-! ### Fields of a descriptor (15 R491, R492) -/

def dOp (d : DescBytes) : Nat := field512 d 0 2
def dPosted (d : DescBytes) : Bool := d.getLsbD 16
def dFence (d : DescBytes) : Bool := d.getLsbD 17
def dExpress (d : DescBytes) : Bool := d.getLsbD 18
def dEvent (d : DescBytes) : Bool := d.getLsbD 19
def dTag (d : DescBytes) : Nat := field512 d 4 4
def dAddr (d : DescBytes) : Nat := field512 d 8 8
def dLen (d : DescBytes) : Nat := field512 d 16 4
def dLeaf (d : DescBytes) : BitVec 12 := BitVec.ofNat 12 (field512 d 20 2)
def dByte (d : DescBytes) (i : Nat) : Nat := field512 d i 1

/-- The opcodes of 15 Table 15.3. -/
def knownOps : List Nat :=
  [0x0000, 0x0010, 0x0011, 0x0020, 0x0021, 0x0022, 0x0030, 0x0031, 0x0032, 0x0040, 0x0041, 0x0042, 0x0043, 0x0044,
   0x0045, 0x0046, 0x0050, 0x0060]

/-- The opcodes whose role column names the head alone (15 Table 15.3). -/
def headOps : List Nat := [0x0020, 0x0021, 0x0022, 0x0046]

/-! ### Configuration fields (15 Table 15.7) -/

def sqClass (c : Word) : Nat := fld c 24 2
def sqCq (q : Sq) : Nat := fld q.cfg 16 4

def sqAt (s : State) (r : Nat) : Sq := vget s.hi.sq r Sq.reset
def cqAt (s : State) (m : Nat) : Cq := vget s.hi.cq m Cq.reset

def updSq (r : Nat) (f : Sq → Sq) (s : State) : State := { s with hi := { s.hi with sq := vupd s.hi.sq r f } }
def updCq (m : Nat) (f : Cq → Cq) (s : State) : State := { s with hi := { s.hi with cq := vupd s.hi.cq m f } }

def cqUnconsumed (c : Cq) : Nat := (c.tail + ringSize c.cfg - c.head) % ringSize c.cfg

/-- Descriptors taken and not completed over the whole device (15 R487). -/
def takenTotal (s : State) : Nat := s.hi.sq.toList.foldl (fun n q => n + q.taken.length) 0

/-- When a ring may take its next descriptor (15 R487, R485): the device is not in a sleep state (20 R621), the ring runs, a descriptor is available, the completion ring
runs and has a slot to reserve, the limits of 256 and 1 024 hold. -/
def canTake (r : Nat) (s : State) : Bool :=
  let q := sqAt s r
  let c := cqAt s (sqCq q)
  evAwake s && decide (q.st = .running) && decide (q.read ≠ q.tail) && decide (c.st = .running) &&
    decide (c.reserved + cqUnconsumed c + 1 < ringSize c.cfg) && decide (q.taken.length < 256) &&
    decide (takenTotal s < 1024)

/-- The order that the FENCE flag imposes on starts (15 R490): a fenced descriptor starts when every earlier one of its
ring has completed, its record posted, and nothing behind it starts before it. A descriptor is taken and started in one
command (log entry 25), so nothing unstarted is ever taken. -/
def fenceOk (r : Nat) (d : DescBytes) (s : State) : Bool := !dFence d || (sqAt s r).taken.isEmpty

/-- The descriptor is taken: the read position moves on, a completion slot is reserved, both are issued in their
ledgers (15 R487, R502). -/
def takeDesc (r : Nat) (d : DescBytes) (s : State) : Nat × State :=
  let q := sqAt s r
  let s := updSq r (fun q => { q with
    read := (q.read + 1) % ringSize q.cfg,
    taken := q.taken ++ [{ id := q.nextId, bytes := d, result := none, mail := false, events := [] }],
    nextId := q.nextId + 1 }) s
  let s := updCq (sqCq q) (fun c => { c with reserved := c.reserved + 1 }) s
  let s := { s with hi := { s.hi with served := some r } }
  (q.nextId, issue 2 (sqCq q) 1 (issue 1 r 1 s))

/-- The checks of R493 and R481 that no field of the opcode takes part in, in the order in which R493 lists them; the
EXPRESS flag comes before the CLASS (R481). -/
def descCheck (r : Nat) (d : DescBytes) (s : State) : Option Nat :=
  let cls := sqClass (sqAt s r).cfg
  if !(knownOps.contains (dOp d)) then some 1
  else if s.cln.role && headOps.contains (dOp d) then some 5
  else if dPosted d && decide (dOp d ≠ 0x0021) then some 2
  else if dExpress d && decide (cls ≠ 1) then some 2
  else if decide (cls = 1) && !(dExpress d && [0x0010, 0x0020, 0x0021].contains (dOp d)) then some 6
  else if decide (cls = 2) && decide (dOp d ≠ 0x0011) then some 6
  else if decide (cls = 0) && decide (dOp d = 0x0011) then some 6
  else none

/-- The work of a descriptor ends with a result; its record is posted in ring order (15 R495). A descriptor that has a
result already keeps it. -/
def finish (r id : Nat) (res : Result) (s : State) : State :=
  updSq r (fun q => { q with taken := q.taken.map fun t =>
    if t.id = id ∧ t.result.isNone then { t with result := some res } else t }) s

def resOk (len : Nat) : Result := { status := 0, xstat := 0, len := BitVec.ofNat 32 len }
def resSt (status : Nat) (xstat : Nat := 0) : Result :=
  { status := BitVec.ofNat 8 status, xstat := BitVec.ofNat 16 xstat, len := 0 }
def resBad (xstat : Nat) : Result := resSt 0x31 xstat

/-- A frame of the descriptor finished with this status, if it serves one. -/
def finishOpt (d : Option (Nat × Nat)) (res : Result) (s : State) : State :=
  match d with
  | some (r, id) => finish r id res s
  | none => s

/-- The descriptor a taken entry holds. -/
def takenAt (s : State) (r id : Nat) : Option Taken := (sqAt s r).taken.find? fun t => decide (t.id = id)

/-- The tag of a taken descriptor. -/
def tagOf (s : State) (r id : Nat) : Nat :=
  match takenAt s r id with
  | some t => dTag t.bytes
  | none => 0

/-- An event that concerns a descriptor follows its completion record (15 R496): while that is outstanding the event
waits with it. -/
def raiseFor (o : Option (Nat × Nat)) (code inst : Nat) (fs : List (Nat × Nat × Nat)) (s : State) : State :=
  match o with
  | none => raise code inst fs s
  | some (r, id) =>
    if (takenAt s r id).isSome then
      updSq r (fun q => { q with taken := q.taken.map fun t =>
        if t.id = id then { t with events := t.events ++ [(code, inst, payload fs)] } else t }) s
    else raise code inst fs s

/-- A buffer of the autonomous host region (15 R505): with HOSTMODE = 1 every byte must lie in it. -/
def regionOk (s : State) (addr len : Nat) : Bool :=
  !s.cln.hostmode || (decide (0x20070000 ≤ addr) && decide (addr + len ≤ 0x20080000))

def errCode : ReadError → Nat
  | .ur => 1
  | .ca => 2
  | .poisoned => 3
  | .timeout => 4

/-- A read of a descriptor's data buffer that failed (15 R503). -/
def dmaError (r id addr kind : Nat) (s : State) : State :=
  let s := { s with hi := { s.hi with dmaerr := inc32 s.hi.dmaerr } }
  let s := raiseFor (some (r, id)) 0x0D04 r [(0, 4, tagOf s r id), (4, 1, kind), (8, 8, addr)] s
  finish r id (resBad 7) s

/-- The data buffer of a descriptor, read in full; an error, or a buffer outside the autonomous region (R505), ends the
descriptor. The kind reported for a buffer outside the region is a free value (log entry 26). -/
def withData (m : MemRead) (r id addr len : Nat) (k : List Byte → State → State) (s : State) : State :=
  if regionOk s addr len then
    match m with
    | .err e => dmaError r id addr (errCode e) s
    | .data bs => k ((bs ++ List.replicate (len - bs.length) 0).take len) s
  else
    let (f, s) := draw s
    dmaError r id addr (f.toNat % 256) s

/-- A write of results into host memory that R505 forbids ends the descriptor the same way; the length written is in
the answer. -/
def withDst (r id addr len : Nat) (k : State → State) (s : State) : State :=
  if regionOk s addr len then k s
  else
    let (f, s) := draw s
    dmaError r id addr (f.toNat % 256) s

/-- Mailbox slots in use (17 R535). -/
def mailCount (s : State) : Nat :=
  s.hi.sq.toList.foldl (fun n q => n + (q.taken.filter fun t => t.mail).length) 0

/-- The rank of a ring in the order of service: an EXPRESS ring before the rest, then by PRIO (15 R488). -/
def sqRank (q : Sq) : Nat := if sqClass q.cfg = 1 then 4 else fld q.cfg 20 2

/-- Nothing but the order of service keeps ring r's next descriptor waiting, whatever it is: no earlier one of its ring is
outstanding (R490), frame buffers and mailbox slots are free. -/
def nextUp (r : Nat) (s : State) : Bool :=
  canTake r s && (sqAt s r).taken.isEmpty && decide (s.hi.bufsUsed < 2016) && decide (mailCount s < 32)

/-- Another ring is served before ring r (15 R488): one of a higher rank, or, when ring r was the one served last, one of the
same rank. Which of several that tie comes first is the sender's otherwise (log entry 25). -/
def outranked (r : Nat) (s : State) : Bool :=
  (List.range 16).any fun k => decide (k ≠ r) && nextUp k s &&
    (decide (sqRank (sqAt s r) < sqRank (sqAt s k)) ||
      (decide (sqRank (sqAt s r) = sqRank (sqAt s k)) && decide (s.hi.served = some r)))

/-- Ring r's next descriptor is read now. -/
def isServed (r : Nat) (s : State) : Bool := canTake r s && !outranked r s

/-- A command that takes one descriptor of a ring: with the opcode of its row, when the ring may take it and is served next.
Else it waits in host memory and nothing happens. `pre` happens on the tick it is taken; the common checks come next, then
what the opcode does. -/
def descRowPre (pre : Nat → State → State) (ok : Nat → Bool) (r : Fin 16) (d : DescBytes) (body : Nat → State → State)
    (s : State) : State :=
  if isServed r.val s && fenceOk r.val d s && ok (dOp d) then
    let (id, s) := takeDesc r.val d s
    let s := pre id s
    match descCheck r.val d s with
    | some x => finish r.val id (resBad x) s
    | none => body id s
  else s

def descRow (ok : Nat → Bool) (r : Fin 16) (d : DescBytes) (body : Nat → State → State) (s : State) : State :=
  descRowPre (fun _ s => s) ok r d body s

/-! ### Notification (15 R498) -/

/-- The sequence number `n` records before the next one, over the numbers 1 to 0xFFFF_FFFF (15 R494). -/
def seqBack (q : Word) (n : Nat) : Nat := (q.toNat - 1 + 4294967295 - n) % 4294967295 + 1

def cqDue (c : Cq) (now : Nat) : Bool :=
  decide (orOne (fld c.cfg 8 8) ≤ cqUnconsumed c) ||
    (decide (fld c.cfg 16 12 ≠ 0) &&
      (match c.written with
       | [] => false
       | t :: _ => decide (t + ticksUs (fld c.cfg 16 12) ≤ now)))

/-- HI_CQ_READY: the ring disarms (15 R498). -/
def cqFire (m : Nat) (s : State) : State :=
  let c := cqAt s m
  let s := updCq m (fun c => { c with armed := false }) s
  raise 0x0D01 m [(0, 2, cqUnconsumed c), (4, 4, seqBack c.seq (cqUnconsumed c))] s

/-- An armed completion ring whose condition holds raises HI_CQ_READY once (15 R498). -/
def cqNotify (m : Nat) (s : State) : State :=
  if (cqAt s m).armed && cqDue (cqAt s m) s.now then cqFire m s else s

/-! ### Unit resets (17 R541) -/

/-- UNIT_RESET_DONE of every reset whose last completion is posted; LG_STATUS.URESET_BUSY follows from the list. -/
def resetsSettle (s : State) : State :=
  let done := s.lg.resets.filter fun u => u.waits.isEmpty
  let s := { s with lg := { s.lg with resets := s.lg.resets.filter fun u => !u.waits.isEmpty } }
  done.foldl (fun s u => raise 0x0801 u.unit.toNat [(0, 4, u.aborted), (4, 1, u.cause.toNat)] s) s

/-- A reset of a unit begins, or joins the one in progress (17 R541); `ds` are the descriptors it aborts. -/
def resetBegin (unit cause : Nat) (byHost : Bool) (ds : List (Nat × Nat)) (s : State) : State :=
  let rs := s.lg.resets
  let rs' :=
    if rs.any fun u => u.unit = BitVec.ofNat 8 unit then
      rs.map fun u => if u.unit = BitVec.ofNat 8 unit then
        { u with aborted := u.aborted + ds.length, waits := u.waits ++ ds, byHost := u.byHost || byHost } else u
    else rs ++ [{ unit := BitVec.ofNat 8 unit, cause := BitVec.ofNat 8 cause, aborted := ds.length, byHost := byHost,
                  waits := ds }]
  { s with lg := { s.lg with resets := rs' } }

/-- A completion posted, or discarded, is no longer waited for, by a unit reset or by a zeroisation (19 R592). -/
def resetsDrop (r id : Nat) (s : State) : State :=
  let keep := fun (w : Nat × Nat) => decide (w ≠ (r, id))
  let dropZ := fun (z : Zeroise) => { z with waits := z.waits.filter keep }
  let dropR := fun (u : UReset) => { u with waits := u.waits.filter keep }
  { s with
    tmp := { s.tmp with zero := s.tmp.zero.map dropZ }
    lg := { s.lg with resets := s.lg.resets.map dropR } }

end Sys2Proof.Machine
end

