-- ==== Sys2Proof/Machine/LeafTable.lean ====
section
/-! DEFINITION. The leaf-table entry (08 Table 08.1): its fields, its states (Table 08.2), its route (R250), and the table
as a sparse memory of 4096 entries. -/
namespace Sys2Proof.Machine

abbrev Entry := BitVec 512

def entryAt (s : State) (n : Nat) : Entry := spGet 0 s.lt.mem n
def putEntry (n : Nat) (e : Entry) (s : State) : State :=
  { s with lt := { s.lt with mem := spPut 0 n e s.lt.mem } }
def updEntry (n : Nat) (f : Entry → Entry) (s : State) : State := putEntry n (f (entryAt s n)) s

/-! ### Fields -/

def eUid (e : Entry) : Nat := bits512 e 0 48
def eLeaf (e : Entry) : Nat := bits512 e 48 12
def eState (e : Entry) : Nat := bits512 e 60 3
def ePfail (e : Entry) : Bool := e.getLsbD 63
def eRelayCap (e : Entry) : Bool := e.getLsbD 64
def eSleepyCap (e : Entry) : Bool := e.getLsbD 65
def eOfdmCap (e : Entry) : Bool := e.getLsbD 66
def eRelayEn (e : Entry) : Bool := e.getLsbD 67
def eUseOfdm (e : Entry) : Bool := e.getLsbD 68
def eOver (e : Entry) : Bool := e.getLsbD 69
def ePorts (e : Entry) : BitVec 3 := BitVec.ofNat 3 (bits512 e 72 3)
def eRly (e : Entry) (k : Nat) : Nat := bits512 e (75 + 12 * k) 12
def eSlot (e : Entry) : Nat := bits512 e 112 4
def eRate (e : Entry) : Nat := bits512 e 116 2
def eRcfg (e : Entry) : BitVec 12 := BitVec.ofNat 12 (bits512 e 120 12)
def eDseqTx (e : Entry) : Byte := BitVec.ofNat 8 (bits512 e 136 8)
def eDseqRx (e : Entry) : Byte := BitVec.ofNat 8 (bits512 e 144 8)
def eRseqTx (e : Entry) : Byte := BitVec.ofNat 8 (bits512 e 152 8)
def ePfcnt (e : Entry) : Nat := bits512 e 160 8
def ePseq (e : Entry) : Word := BitVec.ofNat 32 (bits512 e 168 32)
def eRange (e : Entry) : Nat := bits512 e 200 24
def eDrift (e : Entry) : BitVec 16 := BitVec.ofNat 16 (bits512 e 224 16)
def eSleepy (e : Entry) : BitVec 16 := BitVec.ofNat 16 (bits512 e 240 16)
def eTicket (e : Entry) : BitVec 256 := BitVec.ofNat 256 (bits512 e 256 256)

def eSetState (st : Nat) (e : Entry) : Entry := set512 e 60 3 st
def eSetDseqTx (v : Byte) (e : Entry) : Entry := set512 e 136 8 v.toNat
def eSetDseqRx (v : Byte) (e : Entry) : Entry := set512 e 144 8 v.toNat
def eSetRseqTx (v : Byte) (e : Entry) : Entry := set512 e 152 8 v.toNat
def eSetPseq (v : Word) (e : Entry) : Entry := set512 e 168 32 v.toNat

/-- The states of 08 Table 08.2. -/
def stFree : Nat := 0
def stTipping : Nat := 1
def stActive : Nat := 2
def stSilent : Nat := 3
def stGone : Nat := 4
def stBlocked : Nat := 5
def stInvited : Nat := 6

/-- HOPS: the non-zero relay fields (08 R250). -/
def eHops (e : Entry) : Nat := ([eRly e 0, eRly e 1, eRly e 2].filter (· ≠ 0)).length

/-- The route of an entry as the relays it names, nearest the head first. -/
def eRoute (e : Entry) : List Nat := [eRly e 0, eRly e 1, eRly e 2].filter (· ≠ 0)

/-- Numbers of the entries that are not FREE (08 Table 08.5, USED). -/
def usedEntries (s : State) : List Nat := (s.lt.mem.filter fun p => eState p.2 ≠ stFree).map (·.1)

/-- The entry, not FREE, that holds a UID. -/
def entryOfUid (s : State) (uid : Nat) : Option Nat :=
  (s.lt.mem.find? fun p => decide (eState p.2 ≠ stFree) && decide (eUid p.2 = uid)).map (·.1)

/-- The lowest FREE number from 0x001 to 0xFFE (08 Table 08.3); the first argument bounds the search. -/
def lowestFree (s : State) : Nat → Nat → Option Nat
  | 0, _ => none
  | f + 1, n => if eState (entryAt s n) = stFree then some n else lowestFree s f (n + 1)

/-- LT_STATE_CHANGE (08 R251, R252). -/
def changeState (n st : Nat) (s : State) : State :=
  let old := eState (entryAt s n)
  raise 0x0405 0xFF [(0, 2, n), (2, 1, old), (3, 1, st)] (updEntry n (eSetState st) s)

/-! ### Timers and counts of the LT registers (08 Table 08.5): 0 read as 1 -/

def tGone (s : State) : Nat := orOne (fld s.lt.timers 16 16)
def tSilent (s : State) : Nat := orOne (fld s.lt.timers 8 8)
def tTipWait (s : State) : Nat := orOne (fld s.lt.timers 0 8)
def crMax (s : State) : Nat := fld s.lt.remote 24 8
def crInit (s : State) : Nat := fld s.lt.remote 16 8
def rspWait (s : State) : Nat := orOne (fld s.lt.remote 8 4)
def retries (s : State) : Nat := orOne (fld s.lt.remote 0 4)
def joinMode (s : State) : Nat := if fld s.lt.cfg 0 2 = 3 then 0 else fld s.lt.cfg 0 2

/-- The device is a leaf (00 R1). -/
def isLeaf (s : State) : Bool := s.cln.role
def isHead (s : State) : Bool := !s.cln.role

/-- EDITION and HEAD_ID of the network the device belongs to (05 R167): at a head LT_CFG and QR_PART, at a leaf
LT_JOIN. -/
def myEdition (s : State) : BitVec 16 := BitVec.ofNat 16 (if isLeaf s then fld s.lt.join 0 16 else fld s.lt.cfg 16 16)
def myHeadId (s : State) : Nat := if isLeaf s then fld s.lt.join 16 2 else fld s.qr.part 0 2

/-- JSTATE of LT_STATUS: joined means 2 or HEAD_LOST 3. -/
def isJoined (s : State) : Bool := decide (2 ≤ s.lt.jstate.toNat)

/-- A leaf's own number: 0xFFF before it has one (05 Table 05.1). -/
def mySrc (s : State) : BitVec 12 := if isLeaf s then (if isJoined s || s.ltx.confirmWait then s.ltx.myNum else 0xFFF) else 0

end Sys2Proof.Machine
end

