-- ==== Sys2Proof/Machine/Keys.lean ====
section
/-! DEFINITION. Keys and their use (13): slots, tickets and their derivation (R433 to R436), the usage limits (R440 to
R443), invocation counters and held values (R437, R438), the key-use ledger (R455). -/
namespace Sys2Proof.Machine

/-- The slot uses of 13 Table 13.2. -/
def useEmpty : BitVec 3 := 0
def useHost : BitVec 3 := 1
def useGroup : BitVec 3 := 2
def useJoin : BitVec 3 := 3
def usePinned : BitVec 3 := 4
def useCached : BitVec 3 := 5

def slotAt (s : State) (i : Nat) : Slot := vget s.cx.slot i Slot.empty
def updSlot (i : Nat) (f : Slot → Slot) (s : State) : State := { s with cx := { s.cx with slot := vupd s.cx.slot i f } }

def useRec (s : State) (n : Nat) : KeyUse := spGet KeyUse.zero s.cx.use n
def updUse (n : Nat) (f : KeyUse → KeyUse) (s : State) : State :=
  { s with cx := { s.cx with use := spPut KeyUse.zero n (f (useRec s n)) s.cx.use } }

/-- The slot numbers whose slot meets a test, lowest first. -/
def slotsWhere (s : State) (p : Slot → Bool) : List Nat := (List.range 64).filter fun i => p (slotAt s i)

/-- A slot takes other content; its own counter of GROUP and JOIN frames goes on (13 R437). -/
def setSlot (i : Nat) (k : Slot) (s : State) : State := updSlot i (fun o => { k with netCtr := o.netCtr }) s

/-- A slot is overwritten with zeros and becomes EMPTY (13 R431). -/
def clearSlot (i : Nat) (s : State) : State := setSlot i Slot.empty s

/-- An EMPTY slot, or else the least recently used LEAF_CACHED slot without an admitted job (13 R432, R436). -/
def pickSlot (s : State) (avoid : List Nat) : Option Nat :=
  match (slotsWhere s fun k => decide (k.use = useEmpty)).find? fun i => !avoid.contains i with
  | some i => some i
  | none =>
    let cs := (slotsWhere s fun k => decide (k.use = useCached) && decide (k.held = 0) && !k.fhold).filter
      fun i => !avoid.contains i
    cs.foldl (fun (b : Option Nat) i => match b with
      | none => some i
      | some j => if (slotAt s i).lru < (slotAt s j).lru then some i else some j) none

/-! ### Tickets (13 Table 13.3) -/

def tkBytes (t : BitVec 256) : List Byte := leBytes 32 t.toNat
def tkKind (t : BitVec 256) : Nat := t.toNat % 4
def tkSize (t : BitVec 256) : Bool := t.getLsbD 2
def tkGen (t : BitVec 256) : Nat := (t.toNat / 256) % 64
def tkSeed (t : BitVec 256) : List Byte := (tkBytes t).drop 4 |>.take 16
def tkCheck (t : BitVec 256) : List Byte := (tkBytes t).drop 20 |>.take 8

/-- B_i of R434. -/
def tkBlock (i n gen : Nat) (size : Bool) (seed : List Byte) : List Byte :=
  [0x4C, BitVec.ofNat 8 i] ++ leBytes 2 n ++ [BitVec.ofNat 8 gen, BitVec.ofNat 8 (ofBool size), 0, 0] ++ seed.take 8

/-- The key of a DERIVED ticket (13 R434). -/
def tkKey (kdk : BitVec 256) (n gen : Nat) (size : Bool) (seed : List Byte) : BitVec 256 :=
  let b0 := aes256 kdk (tkBlock 0 n gen size seed)
  BitVec.ofNat 256 (ofLe (if size then b0 ++ aes256 kdk (tkBlock 1 n gen size seed) else b0))

/-- CHECK of R434: the boot epoch and the upper half of SEED are XORed into the input block. -/
def tkCheckOf (kdk : BitVec 256) (epoch : BitVec 64) (n gen : Nat) (size : Bool) (seed : List Byte) : List Byte :=
  let b0 := tkBlock 0 n gen size seed
  let blk := [0x43] ++ (b0.drop 1).take 7 ++ List.replicate 8 0
  let mask := seed.drop 8 ++ leBytes 8 epoch.toNat
  (aes256 kdk (List.zipWith (· ^^^ ·) blk mask)).take 8

/-- A DERIVED ticket of the fields given. -/
def tkMake (kdk : BitVec 256) (epoch : BitVec 64) (n gen : Nat) (size : Bool) (seed : List Byte) : BitVec 256 :=
  BitVec.ofNat 256 (ofLe ([BitVec.ofNat 8 (1 + 4 * ofBool size), BitVec.ofNat 8 gen, 0, 0] ++ seed ++
    tkCheckOf kdk epoch n gen size seed))

/-- Why a ticket does not unwrap (13 R435): 1 CHECK, 2 KIND, 3 SIZE; none: it does. -/
def tkFault (s : State) (n : Nat) (t : BitVec 256) (kdk : BitVec 256) : Option Nat :=
  if tkKind t ≠ 1 then some 2
  else if tkSize t ≠ (useRec s n).size then some 3
  else if tkCheckOf kdk s.cx.bootEpoch n (tkGen t) (tkSize t) (tkSeed t) ≠ tkCheck t then some 1
  else none

/-! ### Usage limits -/

def clampTo (lo hi n : Nat) : Nat := if n < lo then lo else if hi < n then hi else n

/-- The invocation and block limits of a slot (13 R440): CX_LIM values outside their range are read as the nearer
limit. -/
def keyLimits (s : State) (k : Slot) : Nat × Nat :=
  if k.use = useHost then (2 ^ k.inve, 2 ^ k.blke)
  else
    let w := if k.use = useGroup ∨ k.use = useJoin then s.cx.limNet else s.cx.limLeaf
    (2 ^ clampTo 16 40 (fld w 0 6), 2 ^ clampTo 20 48 (fld w 8 6))

/-- The counts of a key: a per-leaf key of a head keeps them in its key-use record (13, how the cluster works). -/
def keyCounts (s : State) (i : Nat) : Nat × Nat × Bool × Bool :=
  let k := slotAt s i
  if k.use = useCached then
    let u := useRec s k.owner.toNat
    (u.inv, u.blk, u.warn, u.exh)
  else (k.inv, k.blk, k.warn, k.exh)

def setCounts (i inv blk : Nat) (warn exh : Bool) (s : State) : State :=
  let k := slotAt s i
  if k.use = useCached then updUse k.owner.toNat (fun u => { u with inv := inv, blk := blk, warn := warn, exh := exh }) s
  else updSlot i (fun k => { k with inv := inv, blk := blk, warn := warn, exh := exh }) s

/-- The ledger of a key (17 Table 17.1, class 7). -/
def keyInst (s : State) (i : Nat) : Nat :=
  if (slotAt s i).use = useCached then 0x1000 + (slotAt s i).owner.toNat else i

/-- CX_KEY_WARN and CX_KEY_EXHAUSTED have one payload (16 Table 16.10). -/
def keyEvent (code i : Nat) (which count : Nat) (s : State) : State :=
  let k := slotAt s i
  raise code i [(0, 2, if k.use = useCached then k.owner.toNat else 0xFFFF), (2, 1, which), (3, 1, k.gen.toNat),
    (8, 8, count)] s

/-- What an admission answered: admitted; refused as exhausted; and whether the warning was raised now. -/
structure Admission where
  ok : Bool
  warned : Bool
  exhausted : Bool
  deriving DecidableEq, Repr

/-- The admission of a job of `blocks` blocks on the key of slot i (13 R441 to R443). -/
def admitJob (i blocks : Nat) (s : State) : Admission × State :=
  let k := slotAt s i
  let (inv, blk, warn, exh) := keyCounts s i
  let (li, lb) := keyLimits s k
  if exh then (⟨false, false, false⟩, s)
  else if li < inv + 1 ∨ lb < blk + blocks then
    let which := if li < inv + 1 then 1 else 2
    let s := setCounts i inv blk warn true s
    (⟨false, false, true⟩, keyEvent 0x0704 i which (if which = 1 then inv + 1 else blk + blocks) s)
  else
    let wi := decide (7 * li ≤ 8 * (inv + 1))
    let wb := decide (7 * lb ≤ 8 * (blk + blocks))
    let s := setCounts i (inv + 1) (blk + blocks) (warn || wi || wb) false s
    let s := issue 7 (keyInst s i) 1 s
    let s := { s with cx := { s.cx with lru := s.cx.lru + 1 } }
    let s := updSlot i (fun k => { k with held := k.held + 1, lru := s.cx.lru }) s
    if !warn && (wi || wb) then
      (⟨true, true, false⟩, keyEvent 0x0703 i (if wi then 1 else 2) (if wi then inv + 1 else blk + blocks) s)
    else (⟨true, false, false⟩, s)

/-- A job on slot i completes, with any status (13 R455). -/
def jobDone (i : Nat) (s : State) : State :=
  let s := giveBack 7 (keyInst s i) 1 s
  updSlot i (fun k => { k with held := k.held - 1 }) s

def blocksOf (aad len : Nat) : Nat := (aad + 15) / 16 + (len + 15) / 16

/-- Some core can take jobs (13 R450). -/
def coreUsable (c : CxCore) (en : Bool) : Bool := en && (decide (c.st = .idle) || decide (c.st = .busy))
def anyCore (s : State) : Bool :=
  (List.range 4).any fun i => coreUsable (vget s.cx.core i CxCore.reset) (s.cx.coreEn.getLsbD i)

end Sys2Proof.Machine
end

