-- ==== Sys2Proof/Machine/Coding.lean ====
section
/-! DEFINITION. The coding of line frames: check values (05 R178, 14), the scrambler (05 R181), the Reed-Solomon and
convolutional codes and the puncturing (06 R209 to R213), lengths and airtimes (06 R214, 07 R235), the interleaver and the
carriers of OFDM mode (06 R194, R215), the symbols of robust mode (07 R229 to R234). -/
namespace Sys2Proof.Machine

/-! ### Check values -/

/-- The `w` low bits of a number in reverse order. -/
def reflect : Nat → Nat → Nat
  | 0, _ => 0
  | w + 1, v => (v % 2) * 2 ^ w + reflect w (v / 2)

/-- One bit of division: `w` bits of state, the bit to come in at the top. -/
def crcBit (w poly : Nat) (st : Nat) (b : Nat) : Nat :=
  if (st / 2 ^ (w - 1) + b) % 2 = 1 then (2 * st % 2 ^ w) ^^^ poly else 2 * st % 2 ^ w

/-- Eight bits of a byte, most significant first. -/
def crcBits (w poly : Nat) : Nat → Nat → Nat → Nat
  | 0, st, _ => st
  | n + 1, st, b => crcBits w poly n (crcBit w poly st ((b / 2 ^ n) % 2)) b

/-- A byte taken into the state (14 R460): reflected first where the input is reflected. -/
def crcByte (w poly : Nat) (refl : Bool) (st : Nat) (b : Byte) : Nat :=
  crcBits w poly 8 st (if refl then reflect 8 b.toNat else b.toNat)

/-- The check value of a byte string, the state held unreflected. -/
def crcOf (w poly init xorout : Nat) (refl : Bool) (bs : List Byte) : Nat :=
  let st := bs.foldl (crcByte w poly refl) init
  (if refl then reflect w st else st) ^^^ xorout

/-- HCS and FCS (05 Table 05.5). -/
def hcs (bs : List Byte) : Nat := crcOf 16 0x1021 0xFFFF 0xFFFF true bs
def crc32 (bs : List Byte) : Nat := crcOf 32 0x04C11DB7 0xFFFFFFFF 0xFFFFFFFF true bs

/-! ### Scrambler (05 R181) -/

/-- The next n bits of the scrambler from its nine last output bits, newest at bit 0. -/
def scramBits : Nat → Nat → List Bool
  | 0, _ => []
  | n + 1, st =>
    let z := (st.testBit 4) ^^ (st.testBit 8)
    z :: scramBits n ((2 * st + (if z then 1 else 0)) % 512)

/-- The scrambler sequence z(0) to z(n - 1). -/
def scramSeq (n : Nat) : List Bool := scramBits n 511

/-- The bits of bytes, bit 0 of each first (05 R163). -/
def bitsOf (bs : List Byte) : List Bool := (bs.map fun b => (List.range 8).map fun i => b.getLsbD i).flatten

/-- Bytes of a bit string, bit 0 first; the first argument is the number of bytes. -/
def bytesOf : Nat → List Bool → List Byte
  | 0, _ => []
  | n + 1, l => BitVec.ofNat 8 (((l.take 8).zipIdx.map fun p => if p.1 then 2 ^ p.2 else 0).sum) :: bytesOf n (l.drop 8)

/-- A frame scrambled, or descrambled: the same operation (05 R181). -/
def scramble (bs : List Byte) : List Byte :=
  bytesOf bs.length (List.zipWith (· ^^ ·) (bitsOf bs) (scramSeq (8 * bs.length)))

/-! ### Reed-Solomon code (06 R209, R210) -/

def gf256x (a : Nat) : Nat := if 128 ≤ a then (2 * a % 256) ^^^ 0x1D else 2 * a

/-- Multiplication in GF(256) over the bits of b, low first; the first argument counts them. -/
def gf256 : Nat → Nat → Nat → Nat
  | 0, _, _ => 0
  | n + 1, a, b => (if b % 2 = 1 then a else 0) ^^^ gf256 n (gf256x a) (b / 2)

/-- A polynomial times (x - r), coefficients highest degree first. -/
def polyTimes (p : List Nat) (r : Nat) : List Nat :=
  List.zipWith (· ^^^ ·) (p ++ [0]) (0 :: p.map fun c => gf256 8 c r)

def rsGen : Nat → Nat → List Nat → List Nat
  | 0, _, p => p
  | n + 1, r, p => rsGen n (gf256x r) (polyTimes p r)

/-- The generator (x - 1)(x - a) … (x - a^15), highest degree first. -/
def rsPoly : List Nat := rsGen 16 1 [1]

/-- Sixteen parity bytes of a codeword's data bytes, highest degree first. -/
def rsParity (data : List Nat) : List Nat :=
  data.foldl (fun r d =>
    let f := r.headD 0 ^^^ d
    List.zipWith (· ^^^ ·) (r.tail ++ [0]) (rsPoly.tail.map fun g => gf256 8 g f)) (List.replicate 16 0)

/-- C of R210. -/
def rsCount (n : Nat) : Nat := (n + 238) / 239

/-- The codewords of R210: the first (N mod C) hold one byte more. -/
def rsSplit : Nat → Nat → Nat → List Nat → List Nat
  | 0, _, _, _ => []
  | c + 1, long, short, l =>
    let k := if long = 0 then short else short + 1
    l.take k ++ rsParity (l.take k) ++ rsSplit c (long - 1) short (l.drop k)

def rsEncode (bs : List Byte) : List Byte :=
  let n := bs.length
  let c := rsCount n
  (rsSplit c (n % c) (n / c) (bs.map (·.toNat))).map (BitVec.ofNat 8)

/-! ### Convolutional code and puncturing (06 R212, R213) -/

/-- The output pairs A, B from the input bits and the six bits before, newest at bit 0. -/
def convPairs : List Bool → Nat → List (Bool × Bool)
  | [], _ => []
  | u :: us, st =>
    let b := fun i => st.testBit i
    let a := u ^^ b 1 ^^ b 2 ^^ b 4 ^^ b 5
    let b' := u ^^ b 0 ^^ b 1 ^^ b 2 ^^ b 5
    (a, b') :: convPairs us ((2 * st + (if u then 1 else 0)) % 64)

/-- Puncturing: the place in the period decides what is kept (06 Table 06.4). -/
def puncture (rate : Nat) : Nat → List (Bool × Bool) → List Bool
  | _, [] => []
  | i, (a, b) :: t =>
    let keep := match rate, i with
      | 0, _ => [a, b]
      | 1, 0 => [a, b]
      | 1, _ => [a]
      | _, 0 => [a, b]
      | _, 1 => [a]
      | _, _ => [b]
    let period := match rate with
      | 0 => 1
      | 1 => 2
      | _ => 3
    keep ++ puncture rate ((i + 1) % period) t

/-- The coded bits of a frame: scrambled, Reed-Solomon, convolutional code with six tail bits, punctured. -/
def codedBits (rate : Nat) (frame : List Byte) : List Bool :=
  puncture rate 0 (convPairs (bitsOf (rsEncode (scramble frame)) ++ List.replicate 6 false) 0)

/-! ### Lengths and airtimes -/

/-- ncoded of R214 for a frame of n bytes; rate 0 is 1/2, 1 is 2/3, 2 is 3/4. -/
def nCoded (n rate : Nat) : Nat :=
  let nin := 8 * (n + 16 * rsCount n) + 6
  match rate with
  | 0 => 2 * nin
  | 1 => 3 * (nin / 2) + 2 * (nin % 2)
  | _ => 4 * (nin / 3) + (match nin % 3 with
    | 0 => 0
    | 1 => 2
    | _ => 3)

def ceilDiv (a b : Nat) : Nat := (a + b - 1) / b

/-- OFDM data symbols and airtime in us (06 R214). -/
def ofdmSyms (n rate bsym : Nat) : Nat := ceilDiv (nCoded n rate) bsym
def ofdmAirtime (n rate bsym : Nat) : Nat := 288 * (ofdmSyms n rate bsym + 2)

/-- Symbols a second of a BAUD code (07 R223). -/
def baudRate (b : Nat) : Nat := 2400 * 2 ^ b

/-- Fields of a robust parameter word (07 Table 07.6): reserved rates and repetitions read as the highest. -/
def rcBaud (c : BitVec 12) : Nat := c.toNat % 4
def rcHc (c : BitVec 12) : Bool := c.getLsbD 4
def rcMod (c : BitVec 12) : Bool := c.getLsbD 5
def rcRate (c : BitVec 12) : Nat := min 2 ((c.toNat / 64) % 4)
def rcRep (c : BitVec 12) : Nat := min 4 ((c.toNat / 256) % 8)
def rcPre (c : BitVec 12) : Bool := c.getLsbD 11

/-- Copies inside the frame of a REP code (07 R231). -/
def repFactor (r : Nat) : Nat :=
  match r with
  | 0 => 1
  | 1 => 4
  | 2 => 6
  | 3 => 12
  | _ => 24

/-- Ntot of R235. -/
def robustSyms (n : Nat) (c : BitVec 12) : Nat :=
  (if rcPre c then 131 else 38) + 32 + ceilDiv (repFactor (rcRep c) * nCoded n (rcRate c)) (if rcMod c then 2 else 1)

/-- L of R235 in us. -/
def robustAirtime (n : Nat) (c : BitVec 12) : Nat := ceilDiv ((robustSyms n c + 7) * 1000000) (baudRate (rcBaud c))

/-! ### OFDM carriers (06 R192 to R194, R202, R215) -/

/-- Carriers of a band (06 Table 06.2). -/
def bandCarriers (b : Nat) : List Nat :=
  match b with
  | 0 => (List.range 7).map (· + 25)
  | 1 => [33, 34, 35]
  | 2 => [36, 37, 38]
  | _ => (List.range 86).map (· + 39)

/-- The permitted set of the enabled bands, rising; carrier 32 when B and C are both enabled (06 R192). -/
def permitted (en : Nat → Bool) : List Nat :=
  (if en 0 then bandCarriers 0 else []) ++ (if en 0 && en 1 then [32] else []) ++
    (if en 1 then bandCarriers 1 else []) ++ (if en 2 then bandCarriers 2 else []) ++
    (if en 3 then bandCarriers 3 else [])

/-- Bits a carrier of a modulation carries (06 Table 06.3). -/
def modBits (m : Nat) : Nat :=
  match m with
  | 0 => 1
  | 3 => 4
  | _ => 2

/-- Bits of each data carrier, in ascending order, of a tone map with `na` carriers and the group modulations given
(06 R194): carrier 6g of each group is its pilot. -/
def dataCarrierBits (na : Nat) (mods : Nat → Nat) : List Nat :=
  ((List.range na).filter fun i => i % 6 ≠ 0).map fun i => modBits (mods (i / 6))

/-- The step of the interleaver (06 R215): the smallest a from 13 with gcd(a, Bsym) = 1; the first argument bounds the
search. -/
def interStep (bsym : Nat) : Nat → Nat → Nat
  | 0, a => a
  | f + 1, a => if Nat.gcd a bsym = 1 then a else interStep bsym f (a + 1)

/-- The interleaved bits in the order sent: symbol by symbol, position by position (06 R215). -/
def interleave (nsym bsym : Nat) (bits : List Bool) : List Bool :=
  let a := interStep bsym bsym 13
  let slots := (List.range (nsym * bsym)).map fun j => ((j % nsym) * bsym + (j / nsym * a) % bsym, bits.getD j false)
  (List.range (nsym * bsym)).map fun k => ((slots.find? fun x => decide (x.1 = k)).map (·.2)).getD false

/-- The frame control of an OFDM frame (06 R202): slot, then rate, low bits first. -/
def ofdmControl (slot rate : Nat) : List Bool := (List.range 6).map fun i => (slot + 16 * rate).testBit i

/-- The bits an OFDM frame carries: frame control, then the interleaved data bits with their fill. -/
def ofdmBits (slot rate bsym : Nat) (frame : List Byte) : List Bool :=
  ofdmControl slot rate ++ interleave (ofdmSyms frame.length rate bsym) bsym (codedBits rate frame)

/-! ### Robust symbols (07 R229 to R234) -/

/-- The preamble sequence from its last five bits, newest at bit 0 (07 R229). -/
def preBits : Nat → Nat → List Bool
  | 0, _ => []
  | n + 1, st =>
    let c := (st.testBit 2) ^^ (st.testBit 4)
    c :: preBits n ((2 * st + (if c then 1 else 0)) % 32)

/-- The delimiter B7 as bits: 1 for -1 (07 R230). -/
def delim : List Bool := [false, false, false, true, true, false, true]

/-- Preamble and delimiter: short, or long with the delimiter negated. -/
def preamble (long : Bool) : List Bool :=
  if long then preBits 124 31 ++ delim.map (!·) else preBits 31 31 ++ delim

/-- The robust frame control (07 R231), low bit first. -/
def rfcBits (c : BitVec 12) (copy pair : Bool) : List Bool :=
  rcMod c :: ((List.range 3).map fun i => (rcRep c).testBit i) ++ ((List.range 2).map fun i => (rcRate c).testBit i) ++
    [copy, pair]

/-- The repeated stream (07 R234), with the fill bit of DQPSK. -/
def repeated (c : BitVec 12) (coded : List Bool) : List Bool :=
  let n := coded.length
  let r := repFactor (rcRep c)
  let e := ((List.range r).map fun k => coded.rotateLeft (k * (n / r))).flatten
  if rcMod c && e.length % 2 = 1 then e ++ [false] else e

/-- The bits a robust frame carries: preamble and delimiter, the frame control, the repeated coded bits. -/
def robustBits (c : BitVec 12) (copy pair : Bool) (frame : List Byte) : List Bool :=
  preamble (rcPre c) ++ rfcBits c copy pair ++ repeated c (codedBits (rcRate c) frame)

/-- Half the passband of a robust frame in Hz times 1000 (07 R225): 0.675 of the symbol rate. -/
def halfBand (baud : Nat) : Nat := 675 * baudRate baud

end Sys2Proof.Machine
end

