-- ==== Sys2Proof/Machine/Mpt.lean ====
section
/-! DEFINITION. The mains phase tracker (01): zero crossings, the cycle of each phase, lock and flywheel, the reference
phase and its steps, the phase of a leaf, snapshots. -/
namespace Sys2Proof.Machine

/-! ### Angles -/

/-- 2^48, one cycle of an accumulator. -/
def cycle48 : Nat := 281474976710656

/-- The published angle: the top 32 bits of the accumulator (01, how the MPT works). -/
def angleOf (acc : Nat) : Word := BitVec.ofNat 32 (acc / 65536)

/-- 1, 2, 5 and 0.5 degrees in MA (01 R12, R19, R20, R23). -/
def deg1 : Nat := 11930465
def deg2 : Nat := 23860929
def deg5 : Nat := 59652324
def degHalf : Nat := 5965232

/-- A register angle as a signed offset. -/
def sAng (w : Word) : Int := w.toInt

def within (w : Word) (lim : Nat) : Bool := decide ((sAng w).natAbs ≤ lim)

def phAt (s : State) (n : Phase) : PhaseS := s.mpt.ph[n.val]

def updPh (n : Phase) (f : PhaseS → PhaseS) (s : State) : State :=
  { s with mpt := { s.mpt with ph := upd s.mpt.ph n f } }

def mptEn (s : State) (n : Phase) : Bool := bitAt s.mpt.ctrl n.val

/-- SRCn (01 Table 01.5): 0 fused, 1 ZC only, 2 ADC only. -/
def mptSrc (s : State) (n : Phase) : Nat := fld s.mpt.ctrl (18 + 2 * n.val) 2

/-- The device takes its reference angle under R45: a leaf, or a junior head (R84). -/
def usesLeafRef (s : State) : Bool := s.cln.role || !bitAt s.qr.part 2

def tracksPhase (st : PhSt) : Bool := decide (st = .locked) || decide (st = .flywheel)

/-- A leaf has a reference angle (01 R45). -/
def hasLeafRef (s : State) : Bool := s.mpt.leafValid && tracksPhase (phAt s s.mpt.leafPort).st

/-- MPT_STATUS.REF_VALID (01 R36, R45). -/
def refValid (s : State) : Bool :=
  if usesLeafRef s then hasLeafRef s else tracksPhase (phAt s s.mpt.refPhase).st

/-- The reference angle and its cycle count; 0 for a leaf without one (01 R45). -/
def refAngle (s : State) : Word := if usesLeafRef s && !hasLeafRef s then 0 else angleOf s.mpt.refAcc
def refCycle (s : State) : BitVec 48 := if usesLeafRef s && !hasLeafRef s then 0 else s.mpt.refCyc

/-- At a leaf the reference angle is the local angle on the receiving port minus MPT_LEAF_OFS (01 R45). -/
def syncLeafRef (s : State) : State :=
  if usesLeafRef s && hasLeafRef s then
    let p := phAt s s.mpt.leafPort
    { s with mpt := { s.mpt with
        refAcc := (angleOf p.acc - s.mpt.leafOfs).toNat * 65536 + p.acc % 65536 } }
  else s

/-! ### The pending step (01 R23 to R27, R35, R694) -/

/-- The pending step: both parts added, in -2^31 to 2^31 - 1 MA (01 R25, R35). -/
def pendStep (m : Mpt) : Option Int :=
  match m.stepBias, m.stepRegain with
  | none, none => none
  | a, b => some (wrapSigned (a.getD 0 + b.getD 0))

def stepWord (x : Int) : Nat := (BitVec.ofInt 32 x).toNat

/-- MPT_STEP_PENDING, when a step is pending; an announcement of the one before starts anew (02 R91). -/
def raisePending (s : State) : State :=
  match pendStep s.mpt with
  | some x => raise 0x0104 s.mpt.refPhase.val [(0, 4, stepWord x)]
      { s with qrx := { s.qrx with announced := 0, realignQ := none } }
  | none => s

/-- A step of x MA applied to an accumulator at its wrap, and what the cycle counter does (01 R27): the increment of
this wrap stands for a positive step and is taken back for a negative one. -/
def stepAcc (acc : Nat) (x : Int) : Nat := ((acc : Int) + x * 65536).emod (cycle48 : Int) |>.toNat
def stepCyc (cyc : BitVec 48) (x : Int) : BitVec 48 := if x < 0 then cyc - 1 else cyc

/-- The pending step reaches the reference angle (01 R26, R694): the reference and its counter take it, the reference
phase's own angle takes the regained part at its next wrap without a second event, and a part made pending by BIAS_CLR
leaves the bias at 0. -/
def refStepApply (s : State) : State :=
  match pendStep s.mpt with
  | none => s
  | some x =>
    let m := s.mpt
    let s := match m.stepRegain with
      | some r => updPh m.refPhase (fun p => { p with step := some (r, true) }) s
      | none => s
    let s := { s with mpt := { s.mpt with
      refAcc := stepAcc m.refAcc x
      refCyc := stepCyc m.refCyc x
      bias := (if m.stepBias.isSome then 0 else m.bias)
      stepBias := none
      stepRegain := none } }
    raise 0x0105 m.refPhase.val [(0, 4, stepWord x), (4, 6, s.mpt.refCyc.toNat)] s

/-- The step of a phase's own angle at its wrap (01 R694). -/
def ownStepApply (n : Phase) (s : State) : State :=
  match (phAt s n).step with
  | none => s
  | some (x, silent) =>
    let s := updPh n (fun p => { p with acc := stepAcc p.acc x, cyc := stepCyc p.cyc x, step := none }) s
    if silent then s
    else raise 0x0105 n.val [(0, 4, stepWord x), (4, 6, (phAt s n).cyc.toNat)] s

/-! ### The reference phase (01 R30 to R34, R695) -/

/-- A phase number of MPT_PRIO as a phase. -/
def phaseOf (n : Nat) : Phase := if n = 1 then 1 else if n = 2 then 2 else 0

def prioList (m : Mpt) : List Phase := [phaseOf (fld m.prio 0 2), phaseOf (fld m.prio 2 2), phaseOf (fld m.prio 4 2)]

/-- The first LOCKED, enabled phase in the order of MPT_PRIO (01 R30). -/
def firstLocked (s : State) : Option Phase :=
  (prioList s.mpt).find? fun n => mptEn s n && decide ((phAt s n).st = .locked)

/-- The reference moves to phase r: MPT_REF_BIAS keeps the reference angle (01 R34), and a pending step is rebuilt
(R695): the bias part becomes minus the new bias, the regained part goes back to the old phase's own angle. -/
def changeRef (r : Phase) (s : State) : State :=
  let m := s.mpt
  let old := m.refPhase
  let bias := angleOf m.refAcc - angleOf (phAt s r).acc
  let s := match m.stepRegain with
    | some x => updPh old (fun p => { p with step := some (x, false) }) s
    | none => s
  let s := { s with mpt := { s.mpt with
    refPhase := r
    bias := bias
    stepBias := m.stepBias.map (fun _ => wrapSigned (-(sAng bias)))
    stepRegain := none } }
  let s := raise 0x0106 r.val [(0, 1, old.val), (4, 4, bias.toNat)] s
  raisePending s

/-- The choice of the reference under AUTO (01 R30 to R32) or FORCED (R33), at a head that does not take its reference
from another. Until the first choice under AUTO the reference is MPT_PRIO.FIRST (R30). -/
def rechooseRef (s : State) : State :=
  if usesLeafRef s then s
  else if fld s.mpt.ctrl 8 2 = 1 then
    let r := phaseOf (fld s.mpt.ctrl 6 2)
    if r = s.mpt.refPhase then s else changeRef r s
  else if s.mpt.refChosen && decide ((phAt s s.mpt.refPhase).st = .locked) && mptEn s s.mpt.refPhase then s
  else
    match firstLocked s with
    | none =>
      let r := phaseOf (fld s.mpt.prio 0 2)
      if s.mpt.refChosen ∨ r = s.mpt.refPhase then s
      else { s with mpt := { s.mpt with refPhase := r, bias := angleOf s.mpt.refAcc - angleOf (phAt s r).acc } }
    | some r =>
      let s := { s with mpt := { s.mpt with refChosen := true } }
      if r = s.mpt.refPhase then s else changeRef r s

/-- The quire changes to flywheel timing when the reference phase enters UNLOCKED while it runs under mains timing
(02 R87): P is the cycle period in ns at the frequency last measured in LOCKED. -/
def qrFlywheelCheck (s : State) : State :=
  let p := phAt s s.mpt.refPhase
  if decide (s.qr.st = .mains) && !usesLeafRef s && decide (p.st = .unlocked) then
    let per := (roundDiv (1000000000 * 16777216) p.lockedFreq.toNat).toNat
    let s := { s with qr := { s.qr with st := .flywheel, fwPeriod := BitVec.ofNat 32 per } }
    raise 0x0203 0xFF [(0, 4, s.qr.qnum.toNat), (4, 4, per)] s
  else s

/-- What follows a change of a phase's state: the reference, then the quire's timing. -/
def afterState (s : State) : State := qrFlywheelCheck (rechooseRef s)

/-! ### The cycle of a phase -/

/-- Ticks of one period at a frequency in MPT_FREQ units; none while no frequency is tracked. -/
def periodTicks (f : Word) : Nat := if f.toNat = 0 then 0 else 400000000 * 16777216 / f.toNat

/-- The corrected edge against the predicted crossing: the angle now, minus the delay MPT_ZC_DLYn at the tracked
frequency (01 R10, R693). -/
def edgeOffset (p : PhaseS) : Word :=
  angleOf p.acc - BitVec.ofNat 32 ((fld p.zcDly 0 20 * p.freq.toNat * 256) / 1000000000)

/-- 10 % of a period in MA (01 R17). -/
def tenPercent : Nat := 429496729

/-- Blanking: 25 % of the tracked period after an accepted edge (01 R16). -/
def blanked (p : PhaseS) (now : Nat) : Bool :=
  match p.edgeAt with
  | some t => decide (4 * (now - t) < periodTicks p.freq)
  | none => false

/-- A rising edge on a zero-crossing input (01 R16, R17, R693). -/
def execZcEdge (n : Phase) (s : State) : Out := run s fun s =>
  let p := phAt s n
  let off := edgeOffset p
  let predicted := tracksPhase p.st
  if blanked p s.now || (predicted && decide ((if sAng off < 0 then p.edgeEarly else p.edge) ≠ none)) then s
  else if predicted && !within off tenPercent then
    let s := updPh n (fun p => { p with spur := p.spur + 1 }) s
    if p.spurQuiet = 0 then
      let s := raise 0x010A n.val [(0, 4, p.spur + 1)] s
      updPh n (fun p => { p with spur := 0, spurQuiet := 256 }) s
    else s
  else
    updPh n (fun p =>
      if sAng off < 0 && predicted then { p with edgeEarly := some off, edgeAt := some s.now }
      else { p with edge := some off, edgeAt := some s.now }) s

/-- The mean kept in fused mode (01 R12); 0 before the first cycle that has one. -/
def fitMean (l : List Word) : Int := if l.isEmpty then 0 else roundDiv ((l.map sAng).sum) l.length

/-- A fitted crossing and an accepted edge within 2 degrees of it enter the mean of the last 64 such cycles (01 R12). -/
def fitUpdate (p : PhaseS) (m : CycleMeas) : List Word :=
  match m.fit, p.edge with
  | some f, some e => if within (e - f) deg2 then ((e - f) :: p.fitErr).take 64 else p.fitErr
  | _, _ => p.fitErr

/-- The phase error of the cycle by the sources in use; none: no usable crossing (01 R12, R13, R20, R693). -/
def cycleErr (src : Nat) (p : PhaseS) (m : CycleMeas) : Option Word :=
  if src = 1 then p.edge
  else if src = 2 then m.fit
  else
    match m.fit with
    | some f => some (if p.fitErr.isEmpty then (p.edge.getD f) else f + BitVec.ofInt 32 (fitMean p.fitErr))
    | none => p.edge

/-- The counts of consecutive cycles on which lock and loss rest (01 R18 to R22). -/
def cycleEval (src : Nat) (m : CycleMeas) (p : PhaseS) : PhaseS :=
  let p := { p with fitErr := fitUpdate p m }
  let e := cycleErr src p m
  let usable := e.isSome
  let err := if decide (p.st = .locked) then e.getD 0 else m.err
  { p with
    noX := if usable then 0 else p.noX + 1
    bad := if usable && !within err deg5 then p.bad + 1 else 0
    good := if usable && decide ((sAng err).natAbs < deg1) then p.good + 1 else 0
    fw := if decide (p.st = .flywheel) then p.fw + 1 else p.fw
    freq := m.freq
    lockedFreq := if decide (p.st = .locked) && usable && p.inRange then m.freq else p.lockedFreq
    edge := p.edgeEarly
    edgeEarly := none
    spurQuiet := p.spurQuiet - 1 }

/-- ROTATION and ROT_VALID from the offsets of phases 1 and 2 against phase 0 (01 R37). -/
def rotationCheck (s : State) : State :=
  let a := fun n : Phase => angleOf (phAt s n).acc
  let near := fun (x : Word) (c : Word) => decide ((sAng (x - c)).natAbs ≤ 178956970)
  let lag : Word := 2863311531
  let lead : Word := 1431655765
  let all := tracksPhase (phAt s 0).st && tracksPhase (phAt s 1).st && tracksPhase (phAt s 2).st
  let d1 := a 1 - a 0
  let d2 := a 2 - a 0
  let (v, r) :=
    if all && near d1 lag && near d2 lead then (true, false)
    else if all && near d1 lead && near d2 lag then (true, true)
    else (false, s.mpt.rotation)
  if v = s.mpt.rotValid ∧ r = s.mpt.rotation then s
  else
    let s := { s with mpt := { s.mpt with rotValid := v, rotation := r } }
    raise 0x0108 0xFF [(0, 1, ofBool r), (1, 1, ofBool v)] s

/-- The ADC of the phase's port runs: EN, or RXKEEP without it; else the phase has no valid fit (04 R144). -/
def adcRuns (s : State) (n : Phase) : Bool :=
  let v := (vget s.afe.p n.val PortS.reset).pctrl
  bitAt v 0 || bitAt v 1

/-- The wrap of a phase's angle: one cycle counted (01 R11), a step of its own applied (R694), the counts of the cycle
that ended. -/
def phaseWrap (n : Phase) (m : CycleMeas) (s : State) : State :=
  let s := updPh n (fun p => { p with acc := p.acc - cycle48, cyc := p.cyc + 1 }) s
  let s := ownStepApply n s
  let s := updPh n (cycleEval (mptSrc s n) (if adcRuns s n then m else { m with fit := none })) s
  syncLeafRef (if n = 0 then rotationCheck s else s)

/-- The wrap of the reference angle (01 R11); while the scheduler gives no boundary the pending step is applied
(R26). -/
def refWrap (s : State) : State :=
  let s := { s with mpt := { s.mpt with refAcc := s.mpt.refAcc - cycle48, refCyc := s.mpt.refCyc + 1 } }
  if decide (s.qr.st = .stopped) || decide (s.qr.st = .waiting) then refStepApply s else s

/-- PHASE_ANGLE_WRAP: of phase 0 to 2, or of the reference angle (3). -/
def execPhaseAngleWrap (n : Fin 4) (m : CycleMeas) (s : State) : Out := run s fun s =>
  if h : n.val < 3 then phaseWrap ⟨n.val, h⟩ m s else refWrap s

/-! ### Lock, loss and flywheel -/

def lossCycles (s : State) : Nat := fld s.mpt.lock 0 4
def lockCycles (s : State) : Nat := fld s.mpt.lock 8 8
def fwLimit (s : State) : Nat := fld s.mpt.lock 16 8

/-- A phase enters LOCKED: MPT_LOCKED, then the reference (01 R50). -/
def enterLocked (n : Phase) (s : State) : State :=
  let s := updPh n (fun p => { p with st := .locked, tracked := true, lockedFreq := p.freq, noX := 0, bad := 0, fw := 0,
                                      good := 0 }) s
  raise 0x0101 n.val [(0, 4, (phAt s n).freq.toNat), (4, 1, mptSrc s n)] s

/-- MPT_LOCKED (01 R18, R19): a phase in ACQUIRING, in range, whose error has stayed below 1 degree for LOCK_CYCLES
cycles. A phase that has a flywheel angle regains lock by LOCK_REGAIN. -/
def execMptLocked (n : Phase) (s : State) : Out := run s fun s =>
  let p := phAt s n
  if decide (p.st = .acquiring) && !p.tracked && p.inRange && mptEn s n && decide (lockCycles s ≤ p.good) then
    syncLeafRef (afterState (enterLocked n s))
  else s

/-- A phase enters FLYWHEEL for cause 1 no crossing, 2 phase error, 3 frequency range (16 Table 16.4). -/
def enterFlywheel (n : Phase) (cause : Nat) (s : State) : State :=
  let s := updPh n (fun p => { p with st := .flywheel, fw := 0, good := 0, pull := 0 }) s
  afterState (raise 0x0102 n.val [(0, 4, (phAt s n).lockedFreq.toNat), (4, 1, cause)] s)

/-- MPT_FLYWHEEL (01 R20). -/
def execMptFlywheel (n : Phase) (s : State) : Out := run s fun s =>
  let p := phAt s n
  if decide (p.st = .locked) && (decide (lossCycles s ≤ p.noX) || decide (lossCycles s ≤ p.bad)) then
    enterFlywheel n (if lossCycles s ≤ p.noX then 1 else 2) s
  else s

/-- ACQUIRE_ABANDON (01 R18). -/
def execAcquireAbandon (n : Phase) (s : State) : Out := run s fun s =>
  let p := phAt s n
  if decide (p.st = .acquiring) && decide (lossCycles s ≤ p.noX) then
    updPh n (fun p => { p with st := .unlocked, fitErr := [] }) s
  else s

/-- 45 to 65 Hz in MPT_FREQ units (01 R18). -/
def freqInRange (f : Word) : Bool := decide (0x2D000000 ≤ f.toNat) && decide (f.toNat ≤ 0x41000000)

/-- MPT_FREQ_RANGE (01 R18): LOCKED goes to FLYWHEEL, ACQUIRING to UNLOCKED; the return begins ACQUIRING. -/
def execMptFreqRange (n : Phase) (freq : Word) (s : State) : Out := run s fun s =>
  let p := phAt s n
  let r := freqInRange freq
  if r = p.inRange then s
  else
    let s := updPh n (fun p => { p with inRange := r, freq := freq }) s
    let s := raise 0x0107 n.val [(0, 1, ofBool r), (4, 4, freq.toNat)] s
    if r then
      if decide (p.st = .unlocked) && mptEn s n then
        updPh n (fun p => { p with st := .acquiring, good := 0, noX := 0, bad := 0 }) s
      else s
    else if decide (p.st = .locked) then enterFlywheel n 3 s
    else if decide (p.st = .acquiring) then updPh n (fun p => { p with st := .unlocked, fitErr := [] }) s
    else s

/-- A phase enters UNLOCKED from FLYWHEEL: MPT_LOST (01 Table 01.3). -/
def enterLost (n : Phase) (s : State) : State :=
  let fw := (phAt s n).fw
  let s := updPh n (fun p => { p with st := .unlocked, good := 0, fitErr := [] }) s
  raise 0x0103 n.val [(0, 4, fw)] s

/-- MPT_LOST (01 R22). -/
def execMptLost (n : Phase) (s : State) : Out := run s fun s =>
  let p := phAt s n
  if decide (p.st = .flywheel) && decide (fwLimit s ≤ p.fw) then afterState (enterLost n s) else s

/-- A phase that regains lock (01 R23, R24, R694): the difference of the newly measured angle from the flywheel angle is
pulled in from FLYWHEEL up to 5 degrees, else taken as a step: pending on the reference when the phase is the reference
phase, at the phase's own wrap otherwise. -/
def regainLock (n : Phase) (angle : Word) (s : State) : State :=
  let p := phAt s n
  let diff := angle - angleOf p.acc
  let isRef := decide (n = s.mpt.refPhase) && !usesLeafRef s
  let s := enterLocked n s
  if decide (p.st = .flywheel) && within diff deg5 then updPh n (fun p => { p with pull := 65536 * sAng diff }) s
  else if isRef then
    let s := { s with mpt := { s.mpt with stepRegain := some (sAng diff) } }
    raisePending s
  else updPh n (fun p => { p with step := some (sAng diff, false) }) s

/-- LOCK_REGAIN (01 R23, R24): from FLYWHEEL, or from UNLOCKED by way of ACQUIRING once R19 is met. -/
def execLockRegain (n : Phase) (angle : Word) (s : State) : Out := run s fun s =>
  let p := phAt s n
  if p.tracked && p.inRange && mptEn s n &&
      (decide (p.st = .flywheel) || (decide (p.st = .acquiring) && decide (lockCycles s ≤ p.good))) then
    syncLeafRef (afterState (regainLock n angle s))
  else s

/-- MPT_ACQUIRING (01 R18): an enabled phase in UNLOCKED, in range, that sees valid crossings. -/
def execMptAcquiring (n : Phase) (s : State) : Out := run s fun s =>
  let p := phAt s n
  if decide (p.st = .unlocked) && mptEn s n && p.inRange &&
      (decide (p.noX = 0) || p.edge.isSome || p.edgeEarly.isSome) then
    updPh n (fun p => { p with st := .acquiring, good := 0, noX := 0, bad := 0, fitErr := [] }) s
  else s

/-! ### Writes of MPT_CTRL -/

/-- BIAS_CLR (01 R35): minus the bias joins the pending step. -/
def biasClear (s : State) : State :=
  if usesLeafRef s then s
  else
    raisePending { s with mpt := { s.mpt with stepBias := some (wrapSigned (-(sAng s.mpt.bias))) } }

/-- Clearing ENn moves the phase to UNLOCKED without FLYWHEEL (01 R49). -/
def disablePhase (n : Phase) (s : State) : State :=
  match (phAt s n).st with
  | .unlocked => s
  | .flywheel => afterState (enterLost n s)
  | _ => afterState (updPh n (fun p => { p with st := .unlocked, good := 0, fitErr := [] }) s)

/-- A write that changes REF_MODE or REF_FORCE (01 R48): the pending step is cancelled and one is computed against the
newly chosen reference. -/
def refRewrite (s : State) : State :=
  let m := s.mpt
  let had := m.stepBias
  let s := if fld m.ctrl 8 2 = 0 then { s with mpt := { s.mpt with refChosen := false } } else s
  let s1 := rechooseRef s
  let r := s1.mpt.refPhase
  if usesLeafRef s1 then s1
  else if r = m.refPhase then
    match pendStep s1.mpt with
    | none => s1
    | some _ => raisePending { s1 with mpt := { s1.mpt with stepBias := had.map fun _ => wrapSigned (-(sAng s1.mpt.bias)) } }
  else
    match (phAt s1 r).step with
    | some (x, false) =>
      raisePending (updPh r (fun p => { p with step := none }) { s1 with mpt := { s1.mpt with stepRegain := some x } })
    | _ => s1

/-- The value a write leaves in MPT_CTRL (01 Table 01.5): 0b11 in SRCn, REF_MODE above 1 and REF_FORCE 0b11 are ignored,
BIAS_CLR reads 0. -/
def mptCtrlValue (old v : Word) : Word :=
  let keep := fun (lo bad : Nat) (w : Word) =>
    if bad ≤ fld v lo 2 then setFld w lo 2 (fld old lo 2) else w
  keep 22 3 (keep 20 3 (keep 18 3 (keep 8 2 (keep 6 3 (v &&& 0x00FC03FF)))))

/-- A write of MPT_CTRL, whole: the fields, then a phase disabled (R49), a reference rewritten (R48), the bias cleared
(R35). -/
def mptCtrlWrite (v : Word) (s : State) : State :=
  let old := s.mpt.ctrl
  let new := mptCtrlValue old v
  let s := { s with mpt := { s.mpt with ctrl := new } }
  let off := fun (n : Phase) (s : State) => if bitAt old n.val && !bitAt new n.val then disablePhase n s else s
  let s := off 2 (off 1 (off 0 s))
  let s := if (old ^^^ new) &&& 0x3C0 ≠ 0 then refRewrite s else s
  let s := if bitAt v 17 then biasClear s else s
  syncLeafRef s

/-- BIAS_CLR (01 R35). -/
def execBiasClr (v : Word) (s : State) : Out := runHost s (mptCtrlWrite (v ||| 0x20000))

/-- REF_MODE_CHANGE (01 R48). -/
def execRefModeChange (v : Word) (s : State) : Out := runHost s (mptCtrlWrite v)

/-- PHASE_DISABLE (01 R49). -/
def execPhaseDisable (v : Word) (s : State) : Out := runHost s fun s => mptCtrlWrite v s

/-! ### Other registers -/

/-- MPT_LOCK: each field keeps its value where the write is out of its range (01 Table 01.6). -/
def mptLockWrite (v : Word) (s : State) : State :=
  let old := s.mpt.lock
  let w := v &&& 0x00FFFF0F
  let w := if fld v 16 8 = 0 ∨ 64 < fld v 16 8 then setFld w 16 8 (fld old 16 8) else w
  let w := if fld v 8 8 < 4 then setFld w 8 8 (fld old 8 8) else w
  let w := if fld v 0 4 = 0 then setFld w 0 4 (fld old 0 4) else w
  { s with mpt := { s.mpt with lock := w } }

/-- MPT_PRIO: ignored when it names one phase twice, or phase 3 (01 R52). -/
def mptPrioWrite (v : Word) (s : State) : State :=
  let a := fld v 0 2
  let b := fld v 2 2
  let c := fld v 4 2
  if a = b ∨ b = c ∨ a = c ∨ a = 3 ∨ b = 3 ∨ c = 3 then s
  else
    let s := { s with mpt := { s.mpt with prio := v &&& 0x3F } }
    if s.mpt.refChosen then s else rechooseRef s

/-- MPT_STATUS (01 Table 01.7). -/
def phCode : PhSt → Nat
  | .unlocked => 0
  | .acquiring => 1
  | .locked => 2
  | .flywheel => 3

def mptStatus (s : State) : Word :=
  at32 (ofBool s.mpt.rotation) 15 ||| at32 (ofBool (pendStep s.mpt).isSome) 14 ||| at32 s.mpt.refPhase.val 12 |||
    at32 (ofBool (refValid s)) 11 ||| at32 (ofBool s.mpt.rotValid) 10 ||| at32 (phCode (phAt s 2).st) 4 |||
    at32 (phCode (phAt s 1).st) 2 ||| at32 (phCode (phAt s 0).st) 0

/-- MPT_LEAF_PHASE (01 Table 01.9). -/
def mptLeafPhase (m : Mpt) : Word :=
  at32 (ofBool m.leafValid) 7 ||| at32 (ofBool m.leafAmbig) 6 ||| at32 m.leafSector 3 ||| at32 m.leafPort.val 0

/-- MPT_SNAP (01 R38): every angle, cycle count and state of one tick. -/
def mptSnap (v : Word) (s : State) : State :=
  if bitAt v 0 then
    let p := fun n : Phase => phAt s n
    { s with mpt := { s.mpt with
      snapSeq := s.mpt.snapSeq + 1
      snap := { angle := #v[angleOf (p 0).acc, angleOf (p 1).acc, angleOf (p 2).acc, refAngle s]
                cyc := #v[(p 0).cyc, (p 1).cyc, (p 2).cyc, refCycle s]
                st := #v[(p 0).st, (p 1).st, (p 2).st] } } }
  else s

/-- MPT_SNAP_CAPTURE (01 R38). -/
def execMptSnapCapture (v : Word) (s : State) : Out := runHost s (mptSnap v)

/-! ### The phase of a leaf (01 R41 to R44) -/

/-- The sector whose centre lies within 30 degrees (01 R42). -/
def sectorOf (raw : Word) : Nat := ((raw.toNat + 357913941) / 715827883) % 6

/-- Within 5 degrees of a sector boundary (01 R42). -/
def ambiguous (raw : Word) : Bool :=
  let d := (raw.toNat + 357913941) % 715827883
  decide (d ≤ deg5) || decide (715827883 - d ≤ deg5)

/-- The last four raw offsets, newest first, agree (01 R43). -/
def fourAgree (h : List LeafRaw) : Bool :=
  decide (h.length = 4) && h.all (fun r => !r.ambig) && h.all (fun r => decide (r.sector = (h.headD ⟨0, 0, false⟩).sector)) &&
    h.all fun a => h.all fun b => within (a.ofs - b.ofs) deg2

/-- MPT_LEAF_OFS moves by one eighth of the difference (01 R44). -/
def eighth (ofs raw : Word) : Word := ofs + BitVec.ofInt 32 (roundDiv (sAng (raw - ofs)) 8)

/-- A raw offset at the first-symbol boundary of a spine beacon (01 R41 to R44). -/
def leafRaw (port : Port) (raw : Word) (s : State) : State :=
  let m := s.mpt
  let r : LeafRaw := { ofs := raw, sector := sectorOf raw, ambig := ambiguous raw }
  let h := (r :: m.rawHist).take 4
  let first := m.rawHist.isEmpty
  let same := !first && decide (r.sector = m.leafSector)
  let others := decide (h.length = 4) && h.all fun x => decide (x.sector ≠ m.leafSector) && decide (x.sector = r.sector)
  let restart := h.reverse.foldl (fun (o : Option Word) x => some (match o with | none => x.ofs | some o => eighth o x.ofs)) none
  let m := { m with rawHist := h, leafAmbig := r.ambig, leafPort := port }
  let (m, ev) :=
    if m.leafValid then
      if others then
        ({ m with leafValid := fourAgree h, leafSector := r.sector, leafOfs := restart.getD raw }, true)
      else (if same then { m with leafOfs := eighth m.leafOfs raw } else m, false)
    else
      let m := { m with leafSector := r.sector, leafOfs := if same then eighth m.leafOfs raw else raw,
                        leafValid := fourAgree h }
      (m, m.leafValid)
  let s := { s with mpt := m }
  let s := if ev then raise 0x0109 port.val [(0, 1, (mptLeafPhase m).toNat), (4, 4, m.leafOfs.toNat)] s else s
  syncLeafRef s

/-! ### Rates -/

/-- What an accumulator gains in one tick at a frequency in MPT_FREQ units: 2^48 a cycle. -/
def angleInc (f : Word) : Nat := f.toNat * 16777216 / 400000000

/-- The frequency an angle advances at: the one last measured in LOCKED while the mains is not tracked (01 R21,
R22). -/
def runFreq (p : PhaseS) : Word :=
  match p.st with
  | .flywheel => p.lockedFreq
  | .unlocked => if p.tracked then p.lockedFreq else p.freq
  | _ => p.freq

/-- What the pull-in of R23 adds to an accumulator in one tick: at most half a degree per cycle, never a step. -/
def pullTick (p : PhaseS) : Int :=
  let most : Int := (degHalf * 65536 / periodTicks (runFreq p) : Nat)
  max (-most) (min most p.pull)

/-- What an angle gains in a tick. -/
def angleGain (p : PhaseS) : Nat := ((angleInc (runFreq p) : Int) + pullTick p).toNat

/-- The phase the reference angle follows: the port's at a leaf (01 R45), the reference phase at a head. -/
def refSource (s : State) : Phase := if usesLeafRef s then s.mpt.leafPort else s.mpt.refPhase

end Sys2Proof.Machine
end

