-- ==== Sys2Proof/Machine/Folio.lean ====
section
/-! DEFINITION. The geometry of the quire (02): banks, digests, roles and ownership of folios, margins, and how far ahead
the edges of the folio in progress lie. -/
namespace Sys2Proof.Machine

/-- A device that follows a head's beacons: a leaf, or a junior head (02 R81, R85). -/
def follows (s : State) : Bool := s.cln.role || !bitAt s.qr.part 2

/-- The beacon last taken by a device that follows one. -/
def ledBy (s : State) : Option BeaconInfo := if follows s then s.qrx.last else none

/-- f_nom: QR_CTRL.NOMINAL, or the nominal frequency of the beacon followed. -/
def nomHz (s : State) : Nat :=
  match ledBy s with
  | some b => if b.geom.getLsbD 7 then 60 else 50
  | none => if s.qr.nominal then 60 else 50

/-! ### Banks (02 Table 02.11) -/

def geomQ (g : Word) : Nat := fld g 0 5 + 1
/-- F; 0 for the code that makes a bank invalid. -/
def geomF (g : Word) : Nat :=
  match fld g 8 2 with
  | 0 => 6
  | 1 => 12
  | 2 => 24
  | _ => 0
def geomBase (g : Word) : Nat := fld g 16 10

/-- The F code of 05 Table 05.6 and QR_GEOMb. -/
def fCode (g : Word) : Nat := fld g 8 2

def bankAt (s : State) (b : Nat) : Bank := vget s.qr.bank b Bank.reset
def actBank (s : State) : Bank := bankAt s s.qr.active.val
def inactive (s : State) : Nat := 1 - s.qr.active.val

/-- The geometry of a beacon, as QR_GEOMb holds it (05 Table 05.6). -/
def beaconGeom (geom : Byte) (base : BitVec 16) : Word :=
  at32 (geom.toNat % 32) 0 ||| at32 (geom.toNat / 32 % 4) 8 ||| at32 (base.toNat % 1024) 16

/-- The geometry in force: the active bank's, or that of the beacon followed. -/
def actGeom (s : State) : Word :=
  match ledBy s with
  | some b => beaconGeom b.geom b.base
  | none => (actBank s).geom

def quireQ (s : State) : Nat := geomQ (actGeom s)
def quireF (s : State) : Nat := geomF (actGeom s)

/-- The role a bank holds for folio n of a phase. -/
def bankRole (b : Bank) (phase n : Nat) : Nat := ((spGet 0 b.roles (96 * phase + n / 8)).toNat >>> (4 * (n % 8))) % 8

/-- The map bytes of a phase (02 R73). -/
def mapBytes (b : Bank) (phase : Nat) : List Byte :=
  (List.range (geomQ b.geom * geomF b.geom / 2)).map fun k =>
    BitVec.ofNat 8 (bankRole b phase (2 * k) + 16 * bankRole b phase (2 * k + 1))

/-- The digest of a bank (02 R73); 0 while its F field holds 0b11. -/
def bankDigest (b : Bank) : Word :=
  if geomF b.geom = 0 then 0
  else BitVec.ofNat 32 (crc32 ([BitVec.ofNat 8 (geomQ b.geom), BitVec.ofNat 8 (geomF b.geom)] ++
    leBytes 2 (geomBase b.geom) ++ mapBytes b 0 ++ mapBytes b 1 ++ mapBytes b 2))

/-! ### Margins (02 R57, R58) -/

/-- FW_ADD: QR_MARGIN, or that of the beacon followed. -/
def fwAdd (s : State) : Nat :=
  match ledBy s with
  | some b => b.fwAdd.toNat % 1024
  | none => fld s.qr.margin 0 10

/-- M in us: the base margin, in a flywheel quire with FW_ADD. -/
def marginUs (s : State) : Nat := geomBase (actGeom s) + (if s.qrx.fwQuire.isSome then fwAdd s else 0)

/-- M_MA (02 R57). -/
def marginMa (s : State) (m : Nat) : Nat := (roundDiv (m * nomHz s * 4294967296) 1000000).toNat

/-- The start of folio j of a cycle in MA (02 R54). -/
def folioMa (f j : Nat) : Nat := j * 4294967296 / f

/-! ### Where the folio in progress ends -/

def qrRunning (s : State) : Bool := (decide (s.qr.st = .mains) || decide (s.qr.st = .flywheel)) && !s.qr.slipping

/-- Ticks until the reference angle reaches an angle of this cycle, given in MA; 0 once it is there. -/
def ticksToMa (s : State) (ma : Nat) : Nat :=
  let inc := angleInc (runFreq (phAt s (refSource s)))
  if inc = 0 then 0 else (ma * 65536 - s.mpt.refAcc + (inc - 1)) / inc

def nowNs (s : State) : Nat := s.te.sec.toNat * 1000000000 + s.te.ns

/-- Ticks until an instant of time-engine time in ns. -/
def ticksToNs (s : State) (ns : Nat) : Nat := ((ns - nowNs s) * 2 + 4) / 5

/-- The folio within its cycle. -/
def folioJ (s : State) : Nat := if quireF s = 0 then 0 else s.qr.folio % quireF s

/-- Ticks to the end of the folio in progress (02 R59, R696, R88). -/
def ticksToEnd (s : State) : Nat :=
  let f := quireF s
  if f = 0 then 0
  else match s.qrx.fwQuire with
    | some t0 => ticksToNs s (t0 + (s.qr.folio + 1) * s.qr.fwPeriod.toNat / f)
    | none => ticksToMa s (if folioJ s + 1 = f then 4294967296 else folioMa f (folioJ s + 1))

/-- Ticks to the margin of the folio in progress; 0 once it has passed (02 R57). -/
def ticksToMargin (s : State) : Nat :=
  let f := quireF s
  if f = 0 then 0
  else match s.qrx.fwQuire with
    | some t0 => ticksToNs s (t0 + s.qr.folio * s.qr.fwPeriod.toNat / f + 1000 * marginUs s)
    | none => ticksToMa s (folioMa f (folioJ s) + marginMa s (marginUs s))

/-- A frame of L us fits a folio of F at the nominal frequency, behind a margin of m us (02 R69, R696). -/
def fitsNominal (s : State) (f m l : Nat) : Bool := decide (0 < f) && decide ((m + l) * f * nomHz s ≤ 1000000)

/-! ### Ownership and roles (02 R61, R62, R80 to R82) -/

def partWord (s : State) (i : Nat) : Word := vget s.qr.partNow i 0
def inRun (w : Word) (n : Nat) : Bool := decide (fld w 16 10 ≤ n) && decide (n < fld w 16 10 + fld w 0 10)

/-- The head that the device is, or follows, is a junior: it sends head beacons. -/
def headIsJunior (s : State) : Bool :=
  if isLeaf s then (match s.qrx.last with
    | some b => decide (b.kind = 1)
    | none => false)
  else !bitAt s.qr.part 2

/-- The folio belongs to the head (02 R79 to R81). -/
def owned (s : State) (n : Nat) : Bool :=
  let own := myHeadId s
  if headIsJunior s then inRun (partWord s own) n
  else (List.range 4).all fun i => decide (i = own) || !inRun (partWord s i) n

/-- A leaf holds the map that its head's last beacon names as active (02 R66). -/
def mapHeld (s : State) : Bool :=
  match s.qrx.last with
  | some b => decide (bankDigest (actBank s) = b.active)
  | none => false

/-- Codes of 02 Table 02.4. -/
def rBeacon : Nat := 0
def rDown : Nat := 1
def rUp : Nat := 2
def rContention : Nat := 3
def rRanging : Nat := 4
def rSleepy : Nat := 5
def rExpress : Nat := 6
def rQuiet : Nat := 7

/-- The role of folio n on a phase as this device acts on it; port n stands for phase n at a leaf too (log entry 32). -/
def roleAt (s : State) (phase n : Nat) : Nat :=
  if !qrRunning s || !owned s n then rQuiet
  else if n = 0 then rBeacon
  else if headIsJunior s && decide (n = fld (partWord s (myHeadId s)) 16 10) then rBeacon
  else if isLeaf s && !mapHeld s then rQuiet
  else bankRole (actBank s) phase n

def roleNow (s : State) (phase : Nat) : Nat := roleAt s phase s.qr.folio

end Sys2Proof.Machine
end

