-- ==== Sys2Proof/Machine/Phy.lean ====
section
/-! DEFINITION. The two modes of the line (06, 07) as far as frames and registers need them: tone maps, the bands a frame
occupies (03 R99), airtimes (R106), and the writes of the OFD and RBM registers with their refusals. -/
namespace Sys2Proof.Machine

/-! ### Bands and carriers -/

/-- Band b of 03 Table 03.1 is enabled in AIR_CTRL.BAND_EN. -/
def bandOn (ctrl : Word) (b : Nat) : Bool := bitAt ctrl (9 + b)

/-- Edges of a band in mHz. -/
def bandEdges (b : Nat) : Nat × Nat :=
  match b with
  | 0 => (95000000, 125000000)
  | 1 => (125000000, 140000000)
  | 2 => (140000000, 148500000)
  | _ => (150000000, 487500000)

def touches (lo hi b : Nat) : Bool := decide (lo ≤ (bandEdges b).2) && decide ((bandEdges b).1 ≤ hi)

def tmWord (s : State) (slot w : Nat) : Word := spGet 0 s.ofd.tm (8 * slot + w)

/-- The carriers a slot from 1 to 15 holds. -/
def tmCarriers (s : State) (slot : Nat) : List Nat := (List.range 128).filter fun k => bitAt (tmWord s slot (k / 32)) (k % 32)

/-- The active carriers of a slot; slot 0 is the permitted set (06 R193). -/
def activeCarriers (s : State) (slot : Nat) : List Nat :=
  if slot = 0 then permitted (bandOn s.air.ctrl) else tmCarriers s slot

def slotMod (s : State) (slot g : Nat) : Nat :=
  if slot = 0 then 0 else fld (tmWord s slot (4 + g / 16)) (2 * (g % 16)) 2

/-- Bsym (06 R214). -/
def bitsPerSym (s : State) (slot : Nat) : Nat := (dataCarrierBits (activeCarriers s slot).length (slotMod s slot)).sum

/-- Spectrum of a mode in mHz: the span of the active carriers, or the robust passband (03 R99, 07 R225). -/
def spectrum (s : State) : Mode → Nat × Nat
  | .ofdm slot _ =>
    let cs := activeCarriers s slot
    (3906250 * cs.headD 0, 3906250 * cs.getLastD 0)
  | .robust c => (fld s.rbm.fc 0 19 * 1000 - halfBand (rcBaud c), fld s.rbm.fc 0 19 * 1000 + halfBand (rcBaud c))

/-- The bands a frame occupies; tokens are taken from enabled ones only (03 R99, R101). -/
def bandsOf (s : State) (m : Mode) : List Nat :=
  (List.range 4).filter fun b => bandOn s.air.ctrl b && touches (spectrum s m).1 (spectrum s m).2 b

/-- L of R106 for a frame of n bytes. A slot without a data carrier carries nothing: no airtime fits. -/
def airtimeOf (s : State) (m : Mode) (n : Nat) : Nat :=
  match m with
  | .ofdm slot rate => if bitsPerSym s slot = 0 then 1000000 else ofdmAirtime n rate (bitsPerSym s slot)
  | .robust c => robustAirtime n c

/-- The bits handed to the modulator. -/
def modBitsOf (s : State) (m : Mode) (copy : Bool) (bytes : List Byte) : List Bool :=
  match m with
  | .ofdm slot rate => ofdmBits slot rate (bitsPerSym s slot) bytes
  | .robust c => robustBits c copy (rcHc c) bytes

/-! ### Robust configuration (07 R226, R227) -/

/-- The interval lies in the union of the enabled bands; B, C and D adjoin. -/
def inEnabled (ctrl : Word) (lo hi : Nat) : Bool :=
  ([(0, 0), (1, 1), (2, 2), (3, 3), (0, 1), (1, 2), (0, 2)] : List (Nat × Nat)).any fun r =>
    (List.range 4).all (fun b => decide (b < r.1) || decide (r.2 < b) || bandOn ctrl b) &&
      decide ((bandEdges r.1).1 ≤ lo) && decide (hi ≤ (bandEdges r.2).2)

def passbandOk (ctrl fc : Word) (baud : Nat) : Bool :=
  inEnabled ctrl (fld fc 0 19 * 1000 - halfBand baud) (fld fc 0 19 * 1000 + halfBand baud)

/-- RBM_BCFG as the parameters of a beacon: HC is reserved there. -/
def bcfg (s : State) : BitVec 12 := BitVec.ofNat 12 (s.rbm.bcfg.toNat &&& 0xFEF)
def dcfg (s : State) : BitVec 12 := BitVec.ofNat 12 s.rbm.dcfg.toNat

/-- A parameter word with HC cleared, and one for sleepy leaves: PRE = 1, HC = 0 (09 R288). -/
def noHc (c : BitVec 12) : BitVec 12 := c &&& 0xFEF
def sleepyCfg (c : BitVec 12) : BitVec 12 := noHc c ||| 0x800

def rbmSet (fc bc dc : Word) (off : Nat) (v : Word) (s : State) : State :=
  if passbandOk s.air.ctrl fc (fld bc 0 2) && passbandOk s.air.ctrl fc (fld dc 0 2) then
    { s with rbm := { s.rbm with fc := fc, bcfg := bc, dcfg := dc, bad := false } }
  else
    let s := { s with rbm := { s.rbm with refused := true, cause := 1 } }
    raise 0x0330 0xFF (refusedPay 1 off v) s

def rbmFcWrite (v : Word) (s : State) : State := rbmSet (v &&& 0x7FFFF) s.rbm.bcfg s.rbm.dcfg 0x4008 v s
/-- REP above 4 is stored as 4, RATE 0b11 as 0b10 (07 Table 07.6). -/
def rbmCfgNorm (v : Word) : Word := limFld (limFld v 8 3 0 4) 6 2 0 2
def rbmBcfgWrite (v : Word) (s : State) : State := rbmSet s.rbm.fc (rbmCfgNorm (v &&& 0xFE3)) s.rbm.dcfg 0x400C v s
def rbmDcfgWrite (v : Word) (s : State) : State := rbmSet s.rbm.fc s.rbm.bcfg (rbmCfgNorm (v &&& 0xFF3)) 0x4010 v s
def rbmCtrlWrite (v : Word) (s : State) : State := { s with rbm := { s.rbm with ctrl := v &&& 0xF17 } }
def rbmStatusWrite (v : Word) (s : State) : State := { s with rbm := { s.rbm with refused := w1c s.rbm.refused v 31 } }
def rbmStatus (s : State) : Word :=
  at32 (ofBool s.rbm.refused) 31 ||| at32 s.rbm.cause.toNat 28 ||| at32 (ofBool s.rbm.bad) 0

/-- RBM_CFG_INVALID after an accepted write to AIR_CTRL (07 R227). -/
def rbmRecheck (s : State) : State :=
  let b := passbandOk s.air.ctrl s.rbm.fc (fld s.rbm.bcfg 0 2)
  let d := passbandOk s.air.ctrl s.rbm.fc (fld s.rbm.dcfg 0 2)
  if b && d then s
  else raise 0x0331 0xFF [(0, 1, ofBool (!b) + 2 * ofBool (!d))] { s with rbm := { s.rbm with bad := true } }

/-! ### Tone maps (06 R195 to R198) -/

def ofdRefuse (slot cause : Nat) (s : State) : State :=
  let s := { s with ofd := { s.ofd with refused := true, cause := BitVec.ofNat 3 cause, slot := BitVec.ofNat 4 slot } }
  raise 0x0320 slot [(0, 1, cause)] s

/-- WORD of OFD_TM_ADDR advances on each access to OFD_TM_DATA, wrapping from 7 to 0. -/
def tmAdvance (s : State) : State :=
  { s with ofd := { s.ofd with tmAddr := setFld s.ofd.tmAddr 0 3 (fld s.ofd.tmAddr 0 3 + 1) } }

def tmDataWrite (v : Word) (s : State) : State :=
  let slot := fld s.ofd.tmAddr 4 4
  let w := fld s.ofd.tmAddr 0 3
  let s' :=
    if slot = 0 then ofdRefuse slot 3 s
    else if s.ofd.valid.getLsbD slot then ofdRefuse slot 4 s
    else if 6 ≤ w then s
    else { s with ofd := { s.ofd with tm := spPut 0 (8 * slot + w) v s.ofd.tm } }
  tmAdvance s'

def tmDataRead (s : State) : Word :=
  let slot := fld s.ofd.tmAddr 4 4
  let w := fld s.ofd.tmAddr 0 3
  if slot = 0 then
    (if w < 4 then BitVec.ofNat 32 (((activeCarriers s 0).filter fun k => k / 32 = w).map fun k => 2 ^ (k % 32)).sum else 0)
  else tmWord s slot w

/-- Why a slot cannot be valid (06 R195): 1 a carrier outside the permitted set, 2 fewer than six. -/
def slotFault (s : State) (t : Nat) : Option Nat :=
  let cs := tmCarriers s t
  if !(cs.all fun k => (permitted (bandOn s.air.ctrl)).contains k) then some 1
  else if cs.length < 6 then some 2
  else none

/-- OFD_TM_VALID: a bit newly set is checked; one that fails refuses the write (06 R195, R198). -/
def tmValidWrite (v : Word) (s : State) : State :=
  let want : BitVec 16 := v.setWidth 16 ||| 1
  let bad := (List.range 16).filterMap fun t =>
    if want.getLsbD t && !s.ofd.valid.getLsbD t then (slotFault s t).map fun c => (t, c) else none
  match bad with
  | (t, c) :: _ => ofdRefuse t c s
  | [] => { s with ofd := { s.ofd with valid := want } }

/-- R197: slots whose carriers leave the permitted set lose their VALID bit, each with its event. -/
def slotsRecheck (s : State) : State :=
  (List.range 16).foldl (fun s t =>
    if decide (0 < t) && s.ofd.valid.getLsbD t && decide (slotFault s t = some 1) then
      raise 0x0321 t [] { s with ofd := { s.ofd with valid := s.ofd.valid &&& ~~~(BitVec.ofNat 16 (2 ^ t)) } }
    else s) s

def ofdCtrlWrite (v : Word) (s : State) : State := { s with ofd := { s.ofd with rxen := v.setWidth 3 } }
def ofdStatusWrite (v : Word) (s : State) : State := { s with ofd := { s.ofd with refused := w1c s.ofd.refused v 31 } }
def ofdStatus (s : State) : Word :=
  at32 (ofBool s.ofd.refused) 31 ||| at32 s.ofd.cause.toNat 28 ||| at32 s.ofd.slot.toNat 16
def ofdAddrWrite (v : Word) (s : State) : State := { s with ofd := { s.ofd with tmAddr := v &&& 0xF7 } }
def ofdBcastWrite (v : Word) (s : State) : State := { s with ofd := { s.ofd with bcast := limFld (v &&& 0x3F) 4 2 0 2 } }

/-- An OFDM mode as committed: a slot that is not valid falls back to slot 0 at the same rate, with its event once a
quire and slot (06 R199). -/
def latchSlot (m : Mode) (leaf : Nat) (s : State) : Mode × State :=
  match m with
  | .ofdm slot rate =>
    if s.ofd.valid.getLsbD slot then (m, s)
    else
      let s := if s.ofd.fallOnce.contains slot then s
        else raise 0x0322 slot [(0, 2, leaf)] { s with ofd := { s.ofd with fallOnce := slot :: s.ofd.fallOnce } }
      (.ofdm 0 rate, s)
  | m => (m, s)

/-- Without the event, for a check before the commit. -/
def effMode (s : State) : Mode → Mode
  | .ofdm slot rate => if s.ofd.valid.getLsbD slot then .ofdm slot rate else .ofdm 0 rate
  | m => m

end Sys2Proof.Machine
end

