-- ==== Sys2Proof/Machine/Frames.lean ====
section
/-! DEFINITION. Line frames (05): headers as bytes, the security of each type, the frame as built (R172 to R178) and as
taken apart. -/
namespace Sys2Proof.Machine

/-! ### Types (05 Table 05.2) -/

def tyBeacon : Nat := 0
def tyRolemap : Nat := 1
def tyData : Nat := 2
def tyAck : Nat := 3
def tyJoinReq : Nat := 4
def tyJoinResp : Nat := 5
def tyRangeReq : Nat := 6
def tyRangeResp : Nat := 7
def tyRangeResult : Nat := 8
def tyWake : Nat := 9
def tyRemote : Nat := 10
def tyRemoteResp : Nat := 11

def bcast : BitVec 12 := 0xFFF

/-- Key classes: GROUP 0, LEAF 1, JOIN 2; with ENC and TLEN (05 Table 05.2). -/
def frameSec (ty : Nat) (dst : BitVec 12) : Nat × Bool × Nat :=
  match ty with
  | 0 => (0, false, 16)
  | 1 => (0, false, 16)
  | 2 => if dst = bcast then (0, true, 16) else (1, true, 16)
  | 3 => (1, false, 4)
  | 4 => (2, false, 16)
  | 5 => (2, true, 16)
  | 9 => (1, false, 4)
  | 10 => (1, true, 16)
  | 11 => (1, true, 16)
  | _ => (1, false, 8)

/-- N of a frame with a body of `len` bytes. -/
def frameBytes (ty : Nat) (dst : BitVec 12) (relayed : Bool) (len : Nat) : Nat :=
  12 + 8 * ofBool relayed + 8 + len + (frameSec ty dst).2.2 + 4

/-! ### Headers -/

/-- The common header (05 Table 05.1). -/
structure Hdr where
  ty : Nat
  ver : Nat
  sec : Bool
  ackreq : Bool
  edition : BitVec 16
  headId : Nat
  urgent : Bool
  rly : Bool
  dst : BitVec 12
  src : BitVec 12
  seq : Byte
  len : Nat
  /-- A reserved bit is set (R164). -/
  rsv : Bool
  deriving DecidableEq, Repr

/-- Bytes 0 to 11. -/
def hdrBytes (h : Hdr) : List Byte :=
  let b := [BitVec.ofNat 8 (h.ty + 16 * h.ver + 64 * ofBool h.sec + 128 * ofBool h.ackreq)] ++
    leBytes 2 h.edition.toNat ++ [BitVec.ofNat 8 (h.headId + 4 * ofBool h.urgent + 8 * ofBool h.rly)] ++
    leBytes 3 (h.dst.toNat + 4096 * h.src.toNat) ++ [h.seq] ++ leBytes 2 h.len
  b ++ leBytes 2 (hcs b)

def hdrOf (bs : List Byte) : Hdr :=
  let b0 := leAt bs 0 1
  let b3 := leAt bs 3 1
  let ad := leAt bs 4 3
  let ln := leAt bs 8 2
  { ty := b0 % 16, ver := (b0 / 16) % 4, sec := b0.testBit 6, ackreq := b0.testBit 7,
    edition := BitVec.ofNat 16 (leAt bs 1 2), headId := b3 % 4, urgent := b3.testBit 2, rly := b3.testBit 3,
    dst := BitVec.ofNat 12 ad, src := BitVec.ofNat 12 (ad / 4096), seq := BitVec.ofNat 8 (leAt bs 7 1), len := ln % 1024,
    rsv := decide (16 ≤ b3) || decide (1024 ≤ ln) }

def routeHops (r : Route) : Nat := ([r.rly1, r.rly2, r.rly3].filter (· ≠ 0)).length

/-- The relay header (05 Table 05.3). -/
def relayBytes (r : Route) : List Byte :=
  [BitVec.ofNat 8 (routeHops r + 4 * r.idx + 16 * ofBool r.dirHead), r.crgrant] ++
    leBytes 6 (r.rly1.toNat + 4096 * r.rly2.toNat + 16777216 * r.rly3.toNat)

def routeOf (bs : List Byte) : Route :=
  let b0 := leAt bs 0 1
  let p := leAt bs 2 6
  { rly1 := BitVec.ofNat 12 p, rly2 := BitVec.ofNat 12 (p / 4096), rly3 := BitVec.ofNat 12 (p / 16777216),
    idx := (b0 / 4) % 4, dirHead := b0.testBit 4, crgrant := BitVec.ofNat 8 (leAt bs 1 1) }

/-- HOPS as the header carries it. -/
def hopsField (bs : List Byte) : Nat := leAt bs 0 1 % 4

def relayNo (r : Route) (k : Nat) : BitVec 12 :=
  match k with
  | 1 => r.rly1
  | 2 => r.rly2
  | _ => r.rly3

/-- The device that must act next (05 R171). -/
def nextActor (r : Route) (hops : Nat) (dst : BitVec 12) : BitVec 12 :=
  if r.idx < hops then relayNo r (if r.dirHead then hops - r.idx else r.idx + 1) else dst

/-- The previous actor on the path: the originator before the first relay (05 R171). -/
def prevActor (r : Route) (hops : Nat) (src : BitVec 12) : BitVec 12 :=
  if r.idx = 0 then src else relayNo r (if r.dirHead then hops - (r.idx - 1) else r.idx)

/-- The security header (05 Table 05.4). -/
def secBytes (cls gen inv tlen : Nat) (enc : Bool) : List Byte :=
  [BitVec.ofNat 8 (cls + 4 * gen)] ++ leBytes 5 inv ++ [BitVec.ofNat 8 tlen, BitVec.ofNat 8 (ofBool enc)]

/-- The nonce (05 R173). -/
def nonceOf (headId cls gen inv : Nat) (edition : BitVec 16) (src : BitVec 12) (uid : BitVec 48) : List Byte :=
  [BitVec.ofNat 8 (headId + 4 * cls)] ++
    (if cls = 2 then leBytes 6 uid.toNat
     else leBytes 2 edition.toNat ++ leBytes 2 src.toNat ++ [BitVec.ofNat 8 gen, 0]) ++ leBytes 5 inv

/-- The header data (05 R174). -/
def aadOf (hdr : List Byte) (rt : Option Route) (sec : List Byte) (enc : Bool) (body : List Byte) : List Byte :=
  hdr ++ (match rt with
    | some r => relayBytes { r with idx := 0, crgrant := 0 }
    | none => []) ++ sec ++ (if enc then [] else body)

/-- A frame as built: headers, body, tag, FCS (05, how line frames are built). -/
def buildFrame (h : Hdr) (rt : Option Route) (gen inv : Nat) (uid : BitVec 48) (size : Bool) (key : BitVec 256)
    (body : List Byte) : List Byte :=
  let (cls, enc, tlen) := frameSec h.ty h.dst
  let hb := hdrBytes h
  let sb := secBytes cls gen inv tlen enc
  let (ct, tag) := gcmEnc size key (nonceOf h.headId cls gen inv h.edition h.src uid) (aadOf hb rt sb enc body)
    (if enc then body else []) tlen
  let fr := hb ++ (match rt with
    | some r => relayBytes r
    | none => []) ++ sb ++ (if enc then ct else body) ++ tag
  fr ++ leBytes 4 (crc32 fr)

/-- A relayed frame as a relay sends it on: IDX and CRGRANT written, the FCS recomputed, the rest kept (05 R171). -/
def relayRebuild (bs : List Byte) (idx crgrant : Nat) : List Byte :=
  let b0 := leAt bs 12 1
  let fr := bs.take 12 ++ [BitVec.ofNat 8 ((b0 - (b0 / 4 % 4) * 4) + 4 * (idx % 4)), BitVec.ofNat 8 crgrant] ++
    (bs.drop 14).take (bs.length - 18)
  fr ++ leBytes 4 (crc32 fr)

/-! ### Keys of the classes (13 R429, R437) -/

/-- The slot of the GROUP key in use, of the JOIN key, of a leaf's own LEAF key. -/
def groupSlot (s : State) : Option Nat := s.cx.groupNow
def joinSlot (s : State) : Option Nat := (slotsWhere s fun k => decide (k.use = useJoin) && !k.retire).head?
def pinnedSlot (s : State) : Option Nat :=
  let t := eTicket (entryAt s 0)
  if tkKind t = 2 then
    let i := (t.toNat / 65536) % 64
    if (slotAt s i).use = usePinned ∧ !(slotAt s i).retire then some i else none
  else none
def cachedSlot (s : State) (n : Nat) : Option Nat :=
  (slotsWhere s fun k => decide (k.use = useCached) && decide (k.owner.toNat = n) &&
    decide (k.gen.toNat = tkGen (eTicket (entryAt s n)))).head?

/-- How the search for a leaf's key at a head ended. -/
inductive KeyFind where
  | slot (i : Nat)
  /-- The ticket does not unwrap (R435). -/
  | empty
  /-- No slot qualifies, or no KDK: the job waits (R436). -/
  | wait
  deriving DecidableEq, Repr

/-- CX_UNWRAP_FAIL, at most once per quire per leaf (13 Table 13.4); the counter counts each (R435). -/
def unwrapFailed (n reason : Nat) (s : State) : State :=
  let s := { s with cx := { s.cx with unwrapFail := inc32 s.cx.unwrapFail } }
  if s.cx.unwrapOnce.contains n then s
  else raise 0x0705 0xFF [(0, 2, n), (2, 1, reason)] { s with cx := { s.cx with unwrapOnce := n :: s.cx.unwrapOnce } }

/-- A ticket unwrapped into the slot that R436 names. -/
def unwrapInto (n i : Nat) (kdk : BitVec 256) (s : State) : State :=
  let t := eTicket (entryAt s n)
  setSlot i { Slot.empty with
    use := useCached
    size := tkSize t
    gen := BitVec.ofNat 6 (tkGen t)
    key := tkKey kdk n (tkGen t) (tkSize t) (tkSeed t)
    owner := BitVec.ofNat 12 n
    lru := s.cx.lru } s

/-- The key of leaf n at a head: in its hot slot, or unwrapped now (13 R435, R436). -/
def leafKey (n : Nat) (s : State) : KeyFind × State :=
  match cachedSlot s n with
  | some i => (.slot i, s)
  | none =>
    match s.cx.kdk with
    | none => (.empty, s)
    | some kdk =>
      match tkFault s n (eTicket (entryAt s n)) kdk with
      | some r => (.empty, unwrapFailed n r s)
      | none =>
        match pickSlot s [] with
        | none => (.wait, s)
        | some i => (.slot i, unwrapInto n i kdk s)

/-- The key a frame of a class to or from leaf n uses; a slot whose unload is taken serves no more (13 R431). -/
def classKey (cls n : Nat) (s : State) : KeyFind × State :=
  let opt := fun (o : Option Nat) => (match o with
    | some i => (KeyFind.slot i, s)
    | none => (KeyFind.empty, s))
  match (match cls with
    | 0 => opt (groupSlot s)
    | 2 => opt (joinSlot s)
    | _ => if isLeaf s then opt (pinnedSlot s) else leafKey n s) with
  | (.slot i, s) => if (slotAt s i).unload.isSome then (.empty, s) else (.slot i, s)
  | r => r

/-- The next INV of a key (13 R437); a GROUP or JOIN counter that reaches 2^28 exhausts the key (R442). -/
def nextInv (i : Nat) (s : State) : Nat × State :=
  let k := slotAt s i
  if k.use = useCached then
    let c := (useRec s k.owner.toNat).txCtr
    (c, updUse k.owner.toNat (fun u => { u with txCtr := u.txCtr + 1 }) s)
  else
    if k.use = useGroup ∨ k.use = useJoin then
      (s.cx.boot.toNat * 268435456 + k.netCtr, updSlot i (fun k => { k with netCtr := k.netCtr + 1 }) s)
    else (k.counter, updSlot i (fun k => { k with counter := k.counter + 1 }) s)

/-- A GROUP or JOIN slot counter at 2^28: exhausted (13 R442). -/
def counterSpent (i : Nat) (s : State) : Bool :=
  let k := slotAt s i
  (decide (k.use = useGroup) || decide (k.use = useJoin)) && decide (268435456 ≤ k.netCtr)

/-- The blocks of a line job (13 R441). -/
def lineBlocks (ty : Nat) (dst : BitVec 12) (relayed : Bool) (len : Nat) : Nat :=
  let enc := (frameSec ty dst).2.1
  blocksOf (20 + 8 * ofBool relayed + (if enc then 0 else len)) (if enc then len else 0)

/-- How the admission of a frame's job ended. -/
inductive JobOut where
  | ok (bytes : List Byte) (inv : Nat)
  | empty
  | exhausted
  | wait
  deriving DecidableEq, Repr

/-- The line job of a frame to send: key, admission, INV, the frame as built (13 R437 to R443, R448). The flag says that
the key's warning was raised by it. -/
def sealFrame (h : Hdr) (rt : Option Route) (n : Nat) (body : List Byte) (s : State) : JobOut × Bool × State :=
  let cls := (frameSec h.ty h.dst).1
  match classKey cls n s with
  | (.empty, s) => (.empty, false, s)
  | (.wait, s) => (.wait, false, s)
  | (.slot i, s) =>
    if (slotAt s i).fhold || !anyCore s then (.wait, false, s)
    else if counterSpent i s then
      let (inv, blk, warn, exh) := keyCounts s i
      if exh then (.exhausted, false, s)
      else (.exhausted, false, keyEvent 0x0704 i 1 (slotAt s i).netCtr (setCounts i inv blk warn true s))
    else
      match admitJob i (lineBlocks h.ty h.dst rt.isSome body.length) s with
      | (a, s) =>
        if a.ok then
          let k := slotAt s i
          let (inv, s) := nextInv i s
          let bytes := buildFrame h rt k.gen.toNat inv s.ltx.uid k.size k.key body
          (.ok bytes inv, a.warned, jobDone i s)
        else (.exhausted, false, s)

end Sys2Proof.Machine
end

