-- ==== Sys2Proof/Machine/Queue.lean ====
section
/-! DEFINITION. The frames a device has to send: the queue, frame buffers (15 R502), relay credits (08 R270), airtime
tokens (03 R102 to R123), posted writes and fences (08 R279 to R281), and what every end of a frame returns. -/
namespace Sys2Proof.Machine

def zeroStamp : Stamp := { sec := 0, ns := 0, frac := 0 }

/-- A stamp of a time in 1/256 ns. -/
def stampOf (v : Nat) : Stamp :=
  { sec := BitVec.ofNat 48 (v / 256 / 1000000000), ns := BitVec.ofNat 32 (v / 256 % 1000000000),
    frac := BitVec.ofNat 16 (v % 256 * 256) }

/-- A stamp moved by a delay in 1/256 ns. -/
def stampAdd (t : Stamp) (d : Int) : Stamp := stampOf ((stamp256 t : Int) + d).toNat

def portList (m : BitVec 3) : List Nat := (List.range 3).filter fun p => m.getLsbD p
def portMask (l : List Nat) : BitVec 3 := l.foldl (fun m p => m ||| BitVec.ofNat 3 (2 ^ p)) 0

def portS (s : State) (p : Nat) : PortS := vget s.afe.p p PortS.reset
def portX (s : State) (p : Nat) : PortX := vget s.afe.x p PortX.reset
def updPort (p : Nat) (f : PortS → PortS) (s : State) : State := { s with afe := { s.afe with p := vupd s.afe.p p f } }
def updPortX (p : Nat) (f : PortX → PortX) (s : State) : State := { s with afe := { s.afe with x := vupd s.afe.x p f } }

/-- A port that may carry a frame: IDLE or TX (04 R146, 08 R266). -/
def portReady (s : State) (p : Nat) : Bool := decide ((portS s p).st = .idle) || decide ((portS s p).st = .tx)
def portUsable (s : State) (p : Nat) : Bool := decide ((portS s p).st ≠ .off) && decide ((portS s p).st ≠ .fault)

/-- A line port may transmit: the role is confirmed (00 R2) and the device is not TAMPER_LOCKED (19 R597). -/
def lineOpen (s : State) : Bool := s.cln.confirmed && !s.tmp.locked

/-! ### The queue -/

/-- A frame to send, not yet in the queue. -/
def txNew (ty : Nat) (dst : BitVec 12) (body : List Byte) (s : State) : TxFrame :=
  { id := s.line.nextId, ty := BitVec.ofNat 4 ty, src := mySrc s, dst := dst, seq := none, ackreq := false,
    urgent := false, body := body, desc := none, tag := 0, posted := false, pseq := 0, raw := none, route := none, hop := dst,
    st := .queued, buffer := false, attempts := 0, born := s.now, deadline := none, wasHeld := false, ports := 0,
    mode := .robust 0, airtime := 0, cost := Vector.replicate 4 0, credit := false, inv := 0, start := 0, endAt := 0,
    quire := 0, folio := none, lastStatus := 0, stamp := zeroStamp, built := [], copy := false, orphan := false }

def submit (f : TxFrame) (s : State) : State :=
  { s with line := { s.line with q := s.line.q ++ [f], nextId := s.line.nextId + 1 } }

def frameAt (s : State) (id : Nat) : Option TxFrame := s.line.q.find? fun f => decide (f.id = id)

def updFrame (id : Nat) (g : TxFrame → TxFrame) (s : State) : State :=
  { s with line := { s.line with q := s.line.q.map fun f => if f.id = id then g f else f } }

def dropFrame (id : Nat) (s : State) : State :=
  { s with line := { s.line with q := s.line.q.filter fun f => decide (f.id ≠ id) } }

/-- Something of the frame is on its way: committed, on the line, or waiting for its answer. -/
def inFlight (f : TxFrame) : Bool := decide (f.st = .committed) || decide (f.st = .onLine) || decide (f.st = .waiting)

def isDataTo (f : TxFrame) (ty : Nat) (dst : BitVec 12) : Bool :=
  decide (f.ty.toNat = ty) && decide (f.dst = dst) && f.raw.isNone

/-! ### Frame buffers: 2 048, of which 32 for EXPRESS rings alone (15 R502) -/

def bufFree (s : State) (express : Bool) : Bool :=
  decide (s.hi.bufsUsed < 2048) &&
    (express || decide ((s.hi.bufsUsed - s.hi.bufsExpress) + (s.hi.bufsExpress - 32) < 2016))

def takeBuf (express : Bool) (s : State) : State :=
  issue 4 0 1 { s with hi := { s.hi with
    bufsUsed := s.hi.bufsUsed + 1
    bufsExpress := s.hi.bufsExpress + ofBool express } }

def giveBuf (express : Bool) (s : State) : State :=
  giveBack 4 0 1 { s with hi := { s.hi with
    bufsUsed := s.hi.bufsUsed - 1
    bufsExpress := s.hi.bufsExpress - ofBool express } }

def freeBufs (s : State) : Nat := 2048 - s.hi.bufsUsed

/-! ### Airtime (03) -/

def bandAt (s : State) (b : Nat) : AirBand := vget s.air.band b AirBand.reset
def updBand (b : Nat) (f : AirBand → AirBand) (s : State) : State :=
  { s with air := { s.air with band := vupd s.air.band b f } }

/-- C of R102 in port-us, and the main bucket's capacity. -/
def bandCap (a : AirBand) : Nat := fld a.rate 0 18 * (fld a.window 0 14 * 1000) / 65536
def mainCap (a : AirBand) : Nat := bandCap a - fld a.bres 0 20

/-- The beacon's part drawn from the main bucket (03 R114). -/
def beaconRest (a : AirBand) (c : Nat) : Nat := c - a.beacon

/-- A take of c port-us can be covered: an ordinary frame, a beacon, an acknowledgement (03 R107 to R109, R114). -/
def covers (a : AirBand) (c : Nat) : Bool := decide ((c : Int) ≤ a.main)
def coversBeacon (a : AirBand) (c : Nat) : Bool := decide (beaconRest a c = 0) || decide ((beaconRest a c : Int) ≤ a.main)
def coversAck (a : AirBand) : Bool := decide (0 ≤ a.main)

/-- The port-us a frame takes in each band. -/
def costVec (bands : List Nat) (c : Nat) : Vector Nat 4 := Vector.ofFn fun b : Fin 4 => if bands.contains b.val then c else 0

def takeBands (beacon : Bool) (cost : Vector Nat 4) (s : State) : State :=
  (List.range 4).foldl (fun s b =>
    let c := vget cost b 0
    if c = 0 then s
    else
      let s := updBand b (fun a =>
        if beacon then { a with beacon := a.beacon - c, main := a.main - (beaconRest a c : Int) }
        else { a with main := a.main - (c : Int) }) s
      issue 6 b c s) s

/-- The cost of a frame moves from held to returned at its last sample, or in full when it is aborted (03 R123). -/
def returnCost (cost : Vector Nat 4) (s : State) : State :=
  (List.range 4).foldl (fun s b => if vget cost b 0 = 0 then s else giveBack 6 b (vget cost b 0) s) s

/-- Cancelled before its first sample: the amount also re-enters the main bucket, clipped (03 R123, R103). -/
def cancelCost (cost : Vector Nat 4) (s : State) : State :=
  (List.range 4).foldl (fun s b =>
    let c := vget cost b 0
    if c = 0 then s
    else giveBack 6 b c (updBand b (fun a => { a with main := min (a.main + (c : Int)) (max a.main (mainCap a : Int)) }) s)) s

/-- The bands of the mode a waiting frame last stood for. -/
def frameBands (s : State) (f : TxFrame) : List Nat := bandsOf s (effMode s f.mode)

/-- AIR_BAND_RESTORED for every band that no frame is held in any more (03 R111). -/
def airSettle (s : State) : State :=
  (List.range 4).foldl (fun s b =>
    if s.air.dry.getLsbD b && !(s.line.q.any fun f => decide (f.st = .held) && (frameBands s f).contains b) then
      let t := (bandAt s b).heldSince.getD s.now
      let s := { s with air := { s.air with dry := s.air.dry &&& ~~~(BitVec.ofNat 4 (2 ^ b)) } }
      let s := updBand b (fun a => { a with heldSince := none }) s
      raise 0x0211 b [(0, 4, (s.now - t) / 400000)] s
    else s) s

/-- A frame is held: its bands become dry, the first one with its event (03 R110, R111). -/
def holdFrame (id : Nat) (mode : Mode) (ports : BitVec 3) (s : State) : State :=
  let s := updFrame id (fun f => { f with st := .held, wasHeld := true, mode := mode, ports := ports }) s
  let p := (portList ports).headD 0
  (bandsOf s mode).foldl (fun s b =>
    if s.air.dry.getLsbD b then s
    else
      let s := { s with air := { s.air with dry := s.air.dry ||| BitVec.ofNat 4 (2 ^ b) } }
      let s := updBand b (fun a => { a with heldSince := some s.now }) s
      raise 0x0210 b [(0, 1, p), (4, 4, (BitVec.ofInt 32 (bandAt s b).main).toNat)] s) s

/-! ### Relay credits (08 R270, R272) -/

def creditOf (s : State) (n : Nat) : Nat := spGet 0 s.ltx.credits n

def useCredit (n : Nat) (s : State) : State :=
  { s with ltx := { s.ltx with credits := spPut 0 n (creditOf s n - 1) s.ltx.credits } }

/-- Credits lapse and are set anew at a quire boundary: from the grant last received in the last four quires, else
CR_INIT (08 R270). The neighbours are those that a grant, an entry's RELAY_EN, a leaf's path to its head or a frame waiting to be relayed
names (log entry 48). -/
def creditReset (s : State) : State :=
  let lapsed := s.ltx.credits.foldl (fun s c => giveBack 5 c.1 c.2 s) s
  let relays := (s.lt.mem.filter fun p => eRelayEn p.2 && decide (eState p.2 ≠ stFree)).map (·.1)
  let grants := s.ltx.grants.map fun g => (g.1, g.2.1, g.2.2 + 1)
  let fresh := grants.filter fun g => decide (g.2.2 ≤ 4)
  let lead := match s.ltx.lastRoute with
    | some r => if isLeaf s then [(nextActor { r with idx := 0, dirHead := true } (routeHops r) 0).toNat] else []
    | none => []
  let next := (s.line.q.filter fun f => f.raw.isSome && decide (f.hop ≠ f.dst)).map fun f => f.hop.toNat
  let all := (relays ++ lead ++ next ++ fresh.map (·.1)).eraseDups
  let s := { lapsed with ltx := { lapsed.ltx with credits := [], creditSet := [], grants := fresh, granted := 0 } }
  all.foldl (fun s n =>
    let c := match fresh.find? fun g => decide (g.1 = n) with
      | some g => g.2.1
      | none => crInit s
    let s := { s with ltx := { s.ltx with credits := spPut 0 n c s.ltx.credits
                                          creditSet := spPut 0 n c s.ltx.creditSet } }
    issue 5 n c s) s

/-- A grant received from a neighbour (08 R270, R271). -/
def grantFrom (n c : Nat) (s : State) : State :=
  { s with ltx := { s.ltx with grants := (n, c, 0) :: s.ltx.grants.filter fun g => decide (g.1 ≠ n) } }

/-- What a relay grants a neighbour now: at most CR_MAX, and all grants together at most its free buffers (08 R271). -/
def grantNow (s : State) : Nat × State :=
  if isLeaf s && bitAt s.lt.cfg 4 then
    let g := min (crMax s) (freeBufs s - s.ltx.granted)
    (g, { s with ltx := { s.ltx with granted := s.ltx.granted + g } })
  else (0, s)

/-! ### Posted writes and fences (08 R278 to R281) -/

/-- Fences whose last posted write has been answered or has failed complete (08 R281). -/
def fencesSettle (s : State) : State :=
  let done := s.ltx.fences.filter fun f => f.waits.isEmpty
  let s := { s with ltx := { s.ltx with fences := s.ltx.fences.filter fun f => !f.waits.isEmpty } }
  done.foldl (fun s f =>
    if f.failed || ePfail (entryAt s f.leaf.toNat) then finish f.ring f.desc (resSt 0x42 0) s
    else finish f.ring f.desc (resOk 0) s) s

/-- A posted write ended: the fence no longer waits for it. -/
def Fence.drop (id : Nat) (failed : Bool) (f : Fence) : Fence :=
  if f.waits.contains id then { f with waits := f.waits.filter (· ≠ id), failed := f.failed || failed } else f

def fenceDrop (id : Nat) (failed : Bool) (s : State) : State :=
  fencesSettle { s with ltx := { s.ltx with fences := s.ltx.fences.map (Fence.drop id failed) } }

/-- REMOTE_POSTED_FAILED (16 Table 16.7); R279 also counts it in PFCNT and sets PFAIL, R280 (cause 7) does neither. -/
def postedFailed (f : TxFrame) (cause : Nat) (s : State) : State :=
  let n := f.dst.toNat
  let s := if cause = 7 then s
    else updEntry n (fun e => set512 (set512 e 160 8 (min 255 (ePfcnt e + 1))) 63 1 1) s
  let s := raiseFor f.desc 0x0406 (match f.desc with
    | some d => d.1
    | none => 0xFF)
    [(0, 4, f.tag.toNat), (4, 2, n), (6, 1, cause), (7, 1, ePfcnt (entryAt s n)), (8, 4, f.pseq.toNat)] s
  fenceDrop f.id true s

/-! ### The end of a frame -/

/-- The frame leaves the queue; its buffer and a credit not yet used are returned (15 R502, 08 R272). -/
def endFrame (f : TxFrame) (s : State) : State :=
  let s := dropFrame f.id s
  let s := if f.buffer then giveBuf f.urgent s else s
  airSettle s

/-- A commit taken back before the first sample: tokens and credit return (03 R123, 08 R272). -/
def uncommit (f : TxFrame) (s : State) : State :=
  if f.st = .committed then
    let s := cancelCost f.cost s
    let s := if f.credit then giveBack 5 f.hop.toNat 1 s else s
    updFrame f.id (fun f => { f with st := .queued, cost := Vector.replicate 4 0, credit := false }) s
  else s

/-- The frame has been committed at least once. -/
def everCommitted (f : TxFrame) : Bool := !f.built.isEmpty

/-- A posted write that PFAIL refuses (08 R280). -/
def refusePosted (f : TxFrame) (s : State) : State :=
  endFrame f (finishOpt f.desc (resSt 0x42 0) (postedFailed f 7 s))

/-- While PFAIL is 1, the posted writes to the leaf not yet committed fail unsent (08 R280). -/
def pfailSweep (n : Nat) (s : State) : State :=
  if ePfail (entryAt s n) then
    (s.line.q.filter fun f => f.posted && decide (f.dst.toNat = n) && !everCommitted f).foldl (fun s f => refusePosted f s) s
  else s

/-- A frame that ends without being done: its descriptor completes with the status; a posted write already committed
fails instead (08 R279). -/
def failFrame (f : TxFrame) (res : Result) (cause : Nat) (s : State) : State :=
  let s := uncommit f s
  if f.posted && everCommitted f then pfailSweep f.dst.toNat (endFrame f (postedFailed f cause s))
  else endFrame f (finishOpt f.desc res (if f.posted then fenceDrop f.id true s else s))

/-- XSTAT of REMOTE_TIMEOUT: the attempts made, 1 to 16 (15 Table 15.5). -/
def timeoutRes (f : TxFrame) : Result := resSt 0x42 (min 16 f.attempts)

/-- The wake episode whose target frame is given up has failed (09 Table 09.1). -/
def episodeFailed (f : TxFrame) (s : State) : State :=
  match s.slph.episodes.find? fun e => decide (e.frame = f.id) with
  | some e =>
    raise 0x0414 0xFF [(0, 2, e.leaf.toNat), (2, 1, e.sent), (4, 4, e.targetQ.toNat), (8, 2, e.targetFolio)]
      { s with slph := { s.slph with episodes := s.slph.episodes.filter fun x => decide (x ≠ e) } }
  | none => s

/-- A frame given up after its last attempt (08 R274, R277, R279). -/
def giveUp (f : TxFrame) (s : State) : State :=
  let (res, cause) : Result × Nat :=
    if f.lastStatus = 1 then (resSt 0x21, 4) else if f.lastStatus = 4 then (timeoutRes f, 5) else (timeoutRes f, 1)
  episodeFailed f (failFrame f res cause s)

/-- R113: a frame whose first sample would fall after its deadline. -/
def expire (f : TxFrame) (s : State) : State := failFrame f (resSt (if f.wasHeld then 0x40 else 0x43)) 1 s

/-- Frames to a leaf whose entry is FREE complete LEAF_UNKNOWN, to one that is GONE REMOTE_TIMEOUT (08 Table 08.2);
committed posted writes fail for that cause (R279). The broadcast number 0xFFF names no entry. -/
def sweepLeaf (n : Nat) (s : State) : State :=
  let st := eState (entryAt s n)
  if isHead s && decide (n ≠ 4095) && (decide (st = stFree) || decide (st = stGone)) then
    (s.line.q.filter fun f => decide (f.dst.toNat = n) && f.raw.isNone && (f.desc.isSome || f.posted) &&
      decide (f.st ≠ .onLine)).foldl (fun s f =>
      if f.posted && everCommitted f then failFrame f (resSt 0x42 0) (if st = stFree then 3 else 2) s
      else if decide (f.st ≠ .waiting) || decide (st = stFree) then
        failFrame f (if st = stFree then resSt 0x41 else timeoutRes f) 1 s
      else s) s
  else s

/-! ### Contention (02 R65) -/

def cwOf (s : State) (dst : BitVec 12) : Nat := spGet 4 s.line.cw dst.toNat
def cwSet (dst : BitVec 12) (n : Nat) (s : State) : State :=
  { s with line := { s.line with cw := spPut 4 dst.toNat n s.line.cw } }

/-- A leaf picks one of the next W CONTENTION folios: how many of them are still to come, from 1 to W. -/
def contend (id : Nat) (s : State) : State :=
  match frameAt s id with
  | none => s
  | some f =>
    let (r, s) := draw s
    updFrame id (fun g => { g with folio := some (r.toNat % cwOf s f.dst + 1) }) s

/-- The frame waits for its next attempt; an unacknowledged one doubles the window, up to 64 (02 R65). -/
def requeue (id : Nat) (s : State) : State :=
  match frameAt s id with
  | none => s
  | some f =>
    let s := if isLeaf s then cwSet f.dst (min 64 (2 * cwOf s f.dst)) s else s
    updFrame id (fun f => { f with st := .queued, folio := none, copy := false }) s

end Sys2Proof.Machine
end

