-- ==== Sys2Proof/Machine/LeafOps.lean ====
section
/-! DEFINITION. Joining (08 R259 to R264), re-keying (13 R452, R453) and the placing of keys on both sides of a tip-in
(13 R432 to R435). -/
namespace Sys2Proof.Machine

/-! ### Keys placed and replaced -/

/-- The ledger of a replaced key goes once its held count is 0 (13 R455). -/
def dropKeyLedger (inst : Nat) (s : State) : State :=
  let l := lgGet (7, inst) s.lg.inst
  { s with lg := { s.lg with inst := lgSet (7, inst) (if l.held = 0 then Ledger.zero else { l with retiring := true }) s.lg.inst } }

/-- A replaced key's slot becomes EMPTY once its admitted jobs have completed (13 R430, R432). -/
def retireSlot (i : Nat) (s : State) : State :=
  if (slotAt s i).held = 0 then clearSlot i (dropKeyLedger (keyInst s i) s)
  else dropKeyLedger (keyInst s i) (updSlot i (fun k => { k with retire := true }) s)

/-- The hot slots of leaf n's earlier keys are emptied. -/
def clearCached (n : Nat) (s : State) : State :=
  (slotsWhere s fun k => decide (k.use = useCached) && decide (k.owner.toNat = n)).foldl (fun s i => clearSlot i s) s

/-- A leaf's key-use record is cleared (13 R435, R438); its SIZE is that of the key placed. -/
def clearUse (n : Nat) (size : Bool) (s : State) : State :=
  updUse n (fun _ => { KeyUse.zero with size := size }) (dropKeyLedger (0x1000 + n) s)

/-- The GEN of the next key of an entry: one above the previous ticket's, 0 for a new entry (08 R262). -/
def nextGen (e : Entry) : Nat := if tkKind (eTicket e) = 0 then 0 else (tkGen (eTicket e) + 1) % 64

/-- A fresh leaf key in TICKET (08 R262, 13 R435): SEED is random; the SIZE of a first key is a free value, later ones
keep it (log entry 33). -/
def placeKey (n : Nat) (kdk : BitVec 256) (s : State) : State :=
  let e := entryAt s n
  let (a, s) := draw s
  let (b, s) := draw s
  let (c, s) := draw s
  let size := if tkKind (eTicket e) = 0 then c.getLsbD 0 else tkSize (eTicket e)
  let seed := leBytes 8 a.toNat ++ leBytes 8 b.toNat
  let t := tkMake kdk s.cx.bootEpoch n (nextGen e) size seed
  let s := clearUse n size (clearCached n s)
  updEntry n (fun e => set512 e 256 256 t.toNat) s

/-! ### JOIN_RESP (05 Table 05.8) -/

/-- The GROUP key that a JOIN_RESP carries: a newly loaded one at once (13 R454). -/
def groupForJoin (s : State) : Option Nat := match s.cx.groupNext with
  | some i => some i
  | none => s.cx.groupNow

def keyField (gen : Nat) (size : Bool) (key : BitVec 256) : List Byte :=
  [BitVec.ofNat 8 (gen + 64 * ofBool size)] ++ leBytes 32 (if size then key.toNat else key.toNat % 2 ^ 128)

/-- A JOIN_RESP for a UID; keys only in an accepted one. -/
def joinRespBody (uid n result : Nat) (s : State) : List Byte :=
  let none33 := List.replicate 33 (0 : Byte)
  let keys :=
    if result = 0 then
      (match s.cx.kdk with
       | some kdk =>
         let t := eTicket (entryAt s n)
         keyField (tkGen t) (tkSize t) (tkKey kdk n (tkGen t) (tkSize t) (tkSeed t))
       | none => none33) ++
      (match groupForJoin s with
       | some i => keyField (slotAt s i).gen.toNat (slotAt s i).size (slotAt s i).key
       | none => none33)
    else none33 ++ none33
  leBytes 6 uid ++ leBytes 2 n ++ [BitVec.ofNat 8 result] ++ keys

def sendJoinResp (uid n result : Nat) (s : State) : State :=
  submit { txNew tyJoinResp bcast (joinRespBody uid n result s) s with src := 0 } s

/-! ### Joining an entry (08 R262) -/

/-- Every committed posted write to the leaf fails for a re-join (08 R262, R279). -/
def failPosted (n cause : Nat) (s : State) : State :=
  (s.line.q.filter fun f => f.posted && decide (f.dst.toNat = n) && everCommitted f).foldl
    (fun s f => failFrame f (resSt 0x42 0) cause s) s

/-- The fields that R262 sets; CAPS and PORTS keep their values in a re-key, which no JOIN_REQ began. -/
def joinFields (n uid : Nat) (caps : Option Nat) (ports : Option (BitVec 3)) (rcfg : BitVec 12) (e : Entry) : Entry :=
  let e := set512 (set512 e 0 48 uid) 48 12 n
  let e := eSetState stTipping e
  let e := match caps with
    | some c => set512 e 64 3 c
    | none => e
  let e := match ports with
    | some p => set512 e 72 3 p.toNat
    | none => e
  let e := set512 (set512 (set512 e 75 36 0) 112 6 0) 120 12 rcfg.toNat
  let e := eSetDseqTx 0 (eSetDseqRx 0 (eSetRseqTx 0 (eSetPseq 1 e)))
  set512 e 69 1 0

def joinEntry (n uid : Nat) (caps : Option Nat) (ports : Option (BitVec 3)) (kdk : BitVec 256) (s : State) : State :=
  let invited := decide (eState (entryAt s n) = stInvited)
  let s := failPosted n 6 s
  let s := updEntry n (joinFields n uid caps ports (dcfg s)) s
  let s := placeKey n kdk s
  { s with lt := { s.lt with tip := (n, 0, invited) :: s.lt.tip.filter fun t => decide (t.1 ≠ n) } }

/-- A re-key begins (13 R452); the trigger is 1 CX_REKEY, 2 the warning, 3 an unwrap failure. -/
def startRekey (n trigger : Nat) (s : State) : State :=
  let e := entryAt s n
  let st := eState e
  match s.cx.kdk with
  | none => s
  | some kdk =>
    if isHead s && (decide (st = stActive) || decide (st = stSilent) || decide (st = stGone)) then
      let s := raise 0x0706 0xFF [(0, 2, n), (2, 1, trigger), (3, 1, nextGen e)] s
      let s := joinEntry n (eUid e) none none kdk s
      let s := { s with lt := { s.lt with rekey := n :: s.lt.rekey.filter (· ≠ n) } }
      sendJoinResp (eUid e) n 0 s
    else s

/-- A re-key begun by the device itself, with CX_CTRL.AUTOREKEY (13 R452). -/
def autoRekey (n trigger : Nat) (s : State) : State := if bitAt s.cx.ctrl 8 then startRekey n trigger s else s

/-! ### A leaf's tip-in (08 R259 to R263) -/

/-- CAPS of a leaf (log entry 34): relay from LT_CFG, sleepy from its schedule, OFDM as the device has it. -/
def myCaps (s : State) : Nat :=
  ofBool (bitAt s.lt.cfg 4) + 2 * ofBool (decide (bits512 (entryAt s 0) 254 2 ≠ 0)) + 4

def joinReqBody (s : State) : List Byte :=
  leBytes 6 s.ltx.uid.toNat ++ [BitVec.ofNat 8 (myCaps s),
    BitVec.ofNat 8 (s.mpt.leafSector % 8 + 8 * ofBool s.mpt.leafValid + 16 * s.mpt.leafPort.val)] ++
    leBytes 2 s.ltx.prevNum.toNat

/-- JOIN_REQ frames of an attempt before, and the confirmation, leave the queue. -/
def dropJoinFrames (s : State) : State :=
  { s with line := { s.line with q := s.line.q.filter fun f => decide (f.ty.toNat ≠ tyJoinReq) || inFlight f } }

/-- JOIN_REQ goes out under R65 (08 R260). -/
def sendJoinReq (s : State) : State :=
  let s := dropJoinFrames s
  let f := { txNew tyJoinReq 0 (joinReqBody s) s with src := 0xFFF }
  contend f.id (submit { f with ports := portMask [s.mpt.leafPort.val] } s)

/-- LEARNED becomes 0 (09 R293). -/
def unlearn (s : State) : State :=
  let e := entryAt s 0
  let s := { s with slp := { s.slp with inFix := 0, outFix := 0 } }
  if (eDrift e).getLsbD 15 then
    let s := updEntry 0 (fun e => set512 e 239 1 0) s
    raise 0x0410 0xFF [(0, 2, eLeaf e), (2, 1, 0), (4, 2, (eDrift (entryAt s 0)).toNat)] s
  else s

/-- Tip-in starts, or starts again, asking for the number held before (08 R259, R265, 13 R453): LEARNED and B return to
0 (09 R293, 10 R340), ranging starts anew. -/
def beginTipin (s : State) : State :=
  let s := unlearn { s with
    lt := { s.lt with jstate := 1 }
    ltx := { s.ltx with tipWait := 0, confirmWait := false, headMiss := 0, noAnswer := 0, bcE := none, remE := 0, lastRoute := none,
                        respCache := none }
    tex := { s.tex with firstDone := false, rejRun := 0 }
    slp := { s.slp with search := false, missed := 0 } }
  sendJoinReq (updEntry 0 (fun e => set512 e 200 24 0) s)

def retryTipin (s : State) : State :=
  beginTipin { s with ltx := { s.ltx with prevNum := if isJoined s then s.ltx.myNum else s.ltx.prevNum } }

/-- A key of a JOIN_RESP body at an offset. -/
def keyAt (body : List Byte) (off : Nat) : Nat × Bool × BitVec 256 :=
  let b := leAt body off 1
  (b % 64, b.testBit 6, BitVec.ofNat 256 (leAt body (off + 1) 32))

def netSlot (use : BitVec 3) (gen : Nat) (size : Bool) (key : BitVec 256) (lru : Nat) : Slot :=
  { Slot.empty with use := use, size := size, gen := BitVec.ofNat 6 gen, key := key, lru := lru }

/-- A PINNED ticket (13 Table 13.3). -/
def pinTicket (gen slot : Nat) (size : Bool) : Nat := 2 + 4 * ofBool size + 256 * gen + 65536 * slot

/-- The keys and the number of an accepted JOIN_RESP are installed and the confirmation goes out (08 R263, 13 R432);
without slots the frame is discarded and JOIN_REQ repeated. -/
def installJoin (port n : Nat) (body : List Byte) (s : State) : State :=
  match pickSlot s [] with
  | none => sendJoinReq s
  | some a =>
    match pickSlot s [a] with
    | none => sendJoinReq s
    | some b =>
      let (lg, ls, lk) := keyAt body 9
      let (gg, gs, gk) := keyAt body 42
      let oldP := pinnedSlot s
      let oldG := s.cx.groupNow
      let s := { s with cx := { s.cx with lru := s.cx.lru + 1 } }
      let s := setSlot a (netSlot usePinned lg ls lk s.cx.lru) s
      let s := setSlot b (netSlot useGroup gg gs gk s.cx.lru) s
      let s := match oldP with
        | some i => retireSlot i s
        | none => s
      let s := match oldG with
        | some i => retireSlot i s
        | none => s
      let s := { s with cx := { s.cx with groupNow := some b, groupNext := none } }
      let s := updEntry 0 (fun e =>
        let e := set512 (set512 e 256 256 (pinTicket lg a ls)) 48 12 n
        let e := eSetDseqTx 0 (eSetDseqRx 0 e)
        if ePorts e = 0 then set512 (set512 e 72 3 (2 ^ port)) 120 12 (dcfg s).toNat else e) s
      let s := { s with ltx := { s.ltx with myNum := BitVec.ofNat 12 n, confirmWait := true, tipWait := 0 } }
      let s := dropJoinFrames { s with ltx := { s.ltx with remE := 0, respCache := none, bcE := none } }
      let f := { txNew tyData 0 [] s with src := BitVec.ofNat 12 n, ackreq := true, seq := some 0 }
      contend f.id (submit f (updEntry 0 (eSetDseqTx 1) s))

end Sys2Proof.Machine
end

