-- ==== Sys2Proof/Machine/Commit.lean ====
section
/-! DEFINITION. How a waiting frame reaches a folio (02 R59 to R66, 03 R107 to R121, 07 R245, 08 R256 to R273, 09 R298 to
R302): mode and ports, the folios that may carry it, its tokens, the take, its first and last sample. -/
namespace Sys2Proof.Machine

/-! ### Sleepy schedules (09 R284, R285, R318) -/

/-- The SLEEPY field in force: a committed change waits for the quire boundary (09 R318). -/
def slField (s : State) (n : Nat) : Nat :=
  match s.slph.change.find? fun c => decide (c.1.toNat = n) with
  | some c => c.2.toNat
  | none => (eSleepy (entryAt s n)).toNat

def slMode (s : State) (n : Nat) : Nat := slField s n / 16384
def slPer (s : State) (n : Nat) : Nat := 2 ^ (slField s n / 2048 % 8)
def slFolio (s : State) (n : Nat) : Nat := slField s n % 1024

/-- Folio n of quire q is an opportunity of a leaf with number l. -/
def isOpp (s : State) (n l q folio : Nat) : Bool := decide ((q + l) % slPer s n = 0) && decide (folio = slFolio s n)

def folioIndex (s : State) (q folio : Nat) : Nat := q * (quireQ s * quireF s) + folio
def folioNow (s : State) : Nat := folioIndex s s.qr.qnum.toNat s.qr.folio

def episodeOf (s : State) (n : Nat) : Option Episode := s.slph.episodes.find? fun e => decide (e.leaf.toNat = n)

/-- An episode is in progress until its target folio is over. -/
def episodeLive (s : State) (n : Nat) : Bool :=
  match episodeOf s n with
  | some e => decide (folioNow s ≤ folioIndex s e.targetQ.toNat e.targetFolio)
  | none => false

def atTarget (s : State) (e : Episode) : Bool := decide (e.targetQ = s.qr.qnum) && decide (e.targetFolio = s.qr.folio)

def lingering (s : State) (n : Nat) : Bool := s.slph.headLinger.any fun x => decide (x.1 = n) && decide (0 < x.2)

/-- The head may send to sleepy leaf n in this folio (09 R298, R300, R305). -/
def sleepyOpen (s : State) (n : Nat) : Bool :=
  lingering s n ||
    (if slMode s n = 1 then isOpp s n n s.qr.qnum.toNat s.qr.folio
     else match episodeOf s n with
       | some e => atTarget s e
       | none => false)

/-! ### Mode and ports (07 R245, 08 R266 to R268) -/

/-- The path and the next hop of a frame (08 R266, R267). -/
def pathOf (f : TxFrame) (s : State) : Option Route × BitVec 12 :=
  if f.dst = bcast ∨ f.ty.toNat = tyJoinReq then (none, f.dst)
  else if isLeaf s then
    match s.ltx.lastRoute with
    | some r =>
      let r := { r with idx := 0, dirHead := true, crgrant := 0 }
      (some r, nextActor r (routeHops r) f.dst)
    | none => (none, f.dst)
  else
    let e := entryAt s f.dst.toNat
    if eHops e = 0 then (none, f.dst)
    else
      let r : Route := { rly1 := BitVec.ofNat 12 (eRly e 0), rly2 := BitVec.ofNat 12 (eRly e 1),
                         rly3 := BitVec.ofNat 12 (eRly e 2), idx := 0, dirHead := false, crgrant := 0 }
      (some r, nextActor r (routeHops r) f.dst)

/-- The entry of the next hop; entry 0x000 at a leaf. -/
def hopEntry (s : State) (hop : BitVec 12) : Entry := if isLeaf s then entryAt s 0 else entryAt s hop.toNat

def txBytes (f : TxFrame) (route : Option Route) : Nat := frameBytes f.ty.toNat f.dst route.isSome f.body.length

def allPorts : BitVec 3 := 7

/-- Mode and port set of a frame before the ports' states are asked. -/
def modeOf (f : TxFrame) (s : State) : Mode × BitVec 3 :=
  let (route, hop) := pathOf f s
  let e := hopEntry s hop
  if f.ty.toNat = tyBeacon then (.robust (bcfg s), allPorts)
  else if f.ty.toNat = tyJoinReq then (.robust (noHc s.qrx.joinCfg), f.ports)
  else if f.dst = bcast then (.robust (dcfg s), allPorts)
  else if isHead s ∧ slMode s f.dst.toNat ≠ 0 then
    (.robust (sleepyCfg (eRcfg (entryAt s f.dst.toNat))), ePorts e)
  else
    let o := effMode s (.ofdm (eSlot e) (min 2 (eRate e)))
    if eUseOfdm e && fitsNominal s (quireF s) (geomBase (actGeom s)) (airtimeOf s o (txBytes f route)) then
      (.ofdm (eSlot e) (min 2 (eRate e)), ePorts e)
    else (.robust (eRcfg e), ePorts e)

/-- The ports a mode uses of a set: every ready one in robust mode, the lowest in OFDM mode (08 R266). -/
def usePorts (s : State) (m : Mode) (ports : BitVec 3) : BitVec 3 :=
  let ready := (portList ports).filter (portReady s)
  match m with
  | .ofdm _ _ => portMask (ready.take 1)
  | .robust _ => portMask ready

def isPair : Mode → Bool
  | .ofdm _ _ => false
  | .robust c => rcHc c

/-! ### What the folio permits (02 Table 02.4) -/

/-- The folio and port are appointed to this leaf (08 R269). -/
def appointedAt (s : State) (port n : Nat) : Bool :=
  s.lt.appt.any fun a => bitAt a.2 31 && decide (fld a.2 16 2 = port) && decide (fld a.2 0 10 = n)
def appointed (s : State) (port : Nat) : Bool := appointedAt s port s.qr.folio

/-- The second copy of a half-cycle pair may go half a cycle later in the same quire: the same role on every port, and at a
leaf its appointment there (07 R244). -/
def secondOpen (s : State) (ports : BitVec 3) : Bool :=
  let n := s.qr.folio + quireF s / 2
  decide (n < quireQ s * quireF s) && (portList ports).all fun p => decide (roleAt s p n = roleNow s p) &&
    (isHead s || decide (roleNow s p ≠ rUp) || appointedAt s p n)

/-- The folio of a WAKE copy: so many folios before its episode's target (09 R300). -/
def wakeDue (s : State) (f : TxFrame) : Bool :=
  match episodeOf s f.dst.toNat with
  | some e => decide (folioNow s + leAt f.body 0 2 = folioIndex s e.targetQ.toNat e.targetFolio)
  | none => false

def permits (s : State) (f : TxFrame) (port : Nat) : Bool :=
  let r := roleNow s port
  if isHead s then
    if f.ty.toNat = tyBeacon then decide (r = rBeacon)
    else if f.ty.toNat = tyWake then decide (r = rSleepy) && wakeDue s f
    else if f.dst ≠ bcast ∧ slMode s f.dst.toNat ≠ 0 then decide (r = rSleepy) && sleepyOpen s f.dst.toNat
    else decide (r = rDown) || (f.urgent && decide (r = rExpress))
  else if f.ty.toNat = tyJoinReq ∨ s.ltx.confirmWait then decide (r = rContention) && decide (f.folio = some 0)
  else if slMode s 0 ≠ 0 then decide (r = rContention) && decide (f.folio = some 0)
  else (decide (r = rUp) && appointed s port) || (decide (r = rContention) && decide (f.folio = some 0))

/-- A leaf that has no number sends nothing but JOIN_REQ and its confirmation (08 R259); one over its wake budget sends
keep-alives alone (09 R315); one woken from SAMPLED_SLEEP waits for a beacon (R307). -/
def leafMaySend (s : State) (f : TxFrame) : Bool :=
  isHead s || decide (f.ty.toNat = tyJoinReq) || decide (f.ty.toNat = tyRangeResp) ||
    (if s.ltx.confirmWait then decide (f.ty.toNat = tyData) && f.body.isEmpty && f.desc.isNone
     else isJoined s && (!s.slp.overBudget || (f.body.isEmpty && f.desc.isNone)) &&
       s.slp.beaconHeard)

/-! ### Planning -/

/-- A frame as it would go in the folio in progress. -/
structure Plan where
  mode : Mode
  ports : BitVec 3
  air : Nat
  start : Nat
  bytes : Nat
  deriving DecidableEq, Repr

/-- 32 us between frames on a port (04 R127). -/
def gapTicks : Nat := 12800

/-- The earliest first sample on a port set: behind the margin and the frames before it. -/
def startOn (s : State) (ports : BitVec 3) : Nat :=
  let base := s.now + ticksToMargin s
  let q := (s.line.q.filter fun f => (decide (f.st = .committed) || decide (f.st = .onLine)) && decide (f.ports &&& ports ≠ 0))
  let b := q.foldl (fun t f => max t (f.endAt + gapTicks)) base
  (portList ports).foldl (fun t p => match (portX s p).lastTxEnd with
    | some e => max t (e + gapTicks)
    | none => t) b

/-- The frame fits whole in the folio in progress (02 R59, R696), on ports and in roles that permit it. -/
def planFor (f : TxFrame) (s : State) : Option Plan :=
  let (m, ps) := modeOf f s
  let m := effMode s m
  let ports := usePorts s m ps
  let n := txBytes f (pathOf f s).1
  let l := airtimeOf s m n
  let start := startOn s ports
  if ports ≠ 0 ∧ lineOpen s ∧ qrRunning s ∧ (portList ports).all (permits s f) ∧ start + ticksUs l ≤ s.now + ticksToEnd s ∧
      (!isPair m || secondOpen s ports) then
    some { mode := m, ports := ports, air := l, start := start, bytes := n }
  else none

/-- The order of R273 and R64: the frames of a class for one leaf in turn, one at a time; no ordinary frame before an
urgent one of its ports that fits. -/
def inTurn (s : State) (f : TxFrame) (ports : BitVec 3) : Bool :=
  let serial := (decide (f.ty.toNat = tyData) || decide (f.ty.toNat = tyRemote)) && decide (f.dst ≠ bcast)
  (!serial ||
    (!(s.line.q.any fun g => isDataTo g f.ty.toNat f.dst && decide (g.id ≠ f.id) && inFlight g) &&
      decide ((s.line.q.find? fun g => isDataTo g f.ty.toNat f.dst).map (·.id) = some f.id))) &&
  (f.urgent || !(s.line.q.any fun g => g.urgent && decide (g.st = .queued) &&
    (match planFor g s with
     | some p => decide (p.ports &&& ports ≠ 0)
     | none => false)))

/-- A frame whose airtime fits no folio (07 R246): all folios are alike at the nominal frequency (02 R696). -/
def fitsNone (f : TxFrame) (s : State) : Bool :=
  !fitsNominal s (quireF s) (geomBase (actGeom s)) (airtimeOf s (effMode s (modeOf f s).1) (txBytes f (pathOf f s).1))

/-! ### Band C access (03 R117 to R121) -/

def cportAt (s : State) (p : Nat) : CPort := vget s.air.cst p CPort.reset
def updC (p : Nat) (f : CPort → CPort) (s : State) : State := { s with air := { s.air with cst := vupd s.air.cst p f } }
def cAccess (s : State) (p : Nat) : Bool := bitAt s.air.ctrl (16 + p)
def cMaxTx (s : State) : Nat := ticksMs (fld s.air.ctime 0 12)
def cMinPause (s : State) : Nat := ticksMs (fld s.air.ctime 16 12)

/-- A band C frame may start or continue a run on the port (03 R118, R119). -/
def cMay (s : State) (p start air : Nat) : Bool :=
  let c := cportAt s p
  !cAccess s p ||
    (match c.st with
     | .run => decide (start + ticksUs air ≤ c.runStart + cMaxTx s)
     | .waiting => c.delay.isNone
     | _ => false)

/-- An attempt to start a run draws its access delay once the pause is over (03 R118). -/
def cAttempt (p : Nat) (s : State) : State :=
  let c := cportAt s p
  if cAccess s p && (decide (c.st = .off) || (decide (c.st = .pause) && decide (c.lastSample + cMinPause s ≤ s.now))) then
    let (r, s) := draw s
    updC p (fun c => { c with st := .waiting, busyInDelay := false,
                              delay := some (fld s.air.cacc 0 12 + r.toNat % (fld s.air.cacc 16 12 + 1)) }) s
  else s

/-- A frame withheld on its ports (03 R120). -/
def cWithhold (ports : List Nat) (beacon : Bool) (s : State) : State :=
  let s := ports.foldl (fun s p => cAttempt p s) s
  let n := ports.length
  let s := { s with air := { s.air with cWithheld := s.air.cWithheld + BitVec.ofNat 32 n } }
  if s.air.onceC then s
  else raise 0x0214 (ports.headD 0) [(0, 4, s.air.cWithheld.toNat), (4, 1, ofBool beacon)]
    { s with air := { s.air with onceC := true } }

def cRun (ports : List Nat) (start : Nat) (s : State) : State :=
  ports.foldl (fun s p =>
    if cAccess s p ∧ (cportAt s p).st ≠ .run then updC p (fun c => { c with st := .run, runStart := start, delay := none }) s
    else s) s

/-! ### The commit -/

/-- An older held frame of the same class on a shared port and band that cannot be covered (03 R110). -/
def blockedBehind (s : State) (f : TxFrame) (p : Plan) : Bool :=
  let older := s.line.q.takeWhile fun g => decide (g.id ≠ f.id)
  older.any fun g => decide (g.st = .held) && decide (g.urgent = f.urgent) && decide (g.ports &&& p.ports ≠ 0) &&
    (frameBands s g).any fun b => (bandsOf s p.mode).contains b &&
      !covers (bandAt s b) ((portList g.ports).length * airtimeOf s (effMode s g.mode) (txBytes g (pathOf g s).1))

/-- The SEQ of a frame's first attempt (05 R169): its entry's, or the broadcast counter's. -/
def giveSeq (f : TxFrame) (s : State) : Byte × State :=
  match f.seq with
  | some q => (q, s)
  | none =>
    if f.ty.toNat = tyData ∧ f.dst = bcast then
      (s.ltx.bcSeq, { s with ltx := { s.ltx with bcSeq := s.ltx.bcSeq + 1 } })
    else if f.ty.toNat = tyData then
      let n := if isLeaf s then 0 else f.dst.toNat
      (eDseqTx (entryAt s n), updEntry n (fun e => eSetDseqTx (eDseqTx e + 1) e) s)
    else if f.ty.toNat = tyRemote then
      let n := f.dst.toNat
      (eRseqTx (entryAt s n), updEntry n (fun e => eSetRseqTx (eRseqTx e + 1) e) s)
    else (0, s)

def hdrFor (f : TxFrame) (seq : Byte) (rly : Bool) (s : State) : Hdr :=
  { ty := f.ty.toNat, ver := 1, sec := true, ackreq := f.ackreq, edition := myEdition s, headId := myHeadId s,
    urgent := f.urgent, rly := rly, dst := f.dst, src := f.src, seq := seq, len := f.body.length, rsv := false }




/-- A key that is exhausted, or a ticket that does not unwrap, ends the frame (13 R435, R442, R453). -/
def sealFailed (f : TxFrame) (out : JobOut) (s : State) : State :=
  let s := failFrame f (match out with
    | .empty => resSt 0x23
    | _ => resSt 0x20) 1 s
  if isLeaf s then
    (match out with
     | .exhausted => if (frameSec f.ty.toNat f.dst).1 = 1 ∧ isJoined s then retryTipin s else s
     | _ => s)
  else (match out with
    | .empty => if (frameSec f.ty.toNat f.dst).1 = 1 then autoRekey f.dst.toNat 3 s else s
    | _ => s)

/-- The frame is placed: sealed, its tokens taken, its parameters latched (03 R107, 06 R199, 07 R246). A posted write
completes POSTED at its first commit (08 R278). -/
def placeFrame (f : TxFrame) (p : Plan) (s : State) : State :=
  let (route, hop) := pathOf f s
  let (mode, s) := latchSlot (modeOf f s).1 f.dst.toNat s
  let mode := if p.mode = effMode s mode then mode else p.mode
  let (seq, s) := giveSeq f s
  let s := updFrame f.id (fun g => { g with seq := some seq }) s
  let (g, s) := if route.isSome then grantNow s else (0, s)
  let route := route.map fun r => { r with crgrant := BitVec.ofNat 8 g }
  let (out, warned, s) := sealFrame (hdrFor f seq route.isSome s) route f.dst.toNat f.body s
  match out with
  | .ok bytes inv =>
    let k := (portList p.ports).length * (if isPair mode then 2 else 1)
    let cost := costVec (bandsOf s mode) (k * p.air)
    let s := takeBands false cost s
    let s := if (bandsOf s mode).contains 1 then cRun (portList p.ports) p.start s else s
    let relayHop := decide (hop ≠ f.dst)
    let s := if relayHop then useCredit hop.toNat s else s
    let s := updFrame f.id (fun g => { g with
      st := .committed
      mode := mode
      ports := p.ports
      airtime := p.air
      cost := cost
      credit := relayHop
      route := route
      hop := hop
      inv := BitVec.ofNat 40 inv
      start := p.start
      endAt := p.start + ticksUs p.air
      quire := s.qr.qnum
      attempts := f.attempts + 1
      lastStatus := 0
      built := bytes
      copy := false }) s
    let s := if f.posted then finishOpt f.desc (resSt 1) s else s
    let s := airSettle s
    if warned && decide ((frameSec f.ty.toNat f.dst).1 = 1) && isHead s then autoRekey f.dst.toNat 2 s else s
  | .wait => s
  | out =>
    match frameAt s f.id with
    | some g => sealFailed g out s
    | none => s

/-- A WAKE copy that is not sent counts as skipped (09 R301, R302). -/
def wakeSkip (f : TxFrame) (s : State) : State := dropFrame f.id { s with slp := { s.slp with wskip := inc32 s.slp.wskip } }

/-- A frame of the queue is put to the folio in progress. -/
def commitFrame (f : TxFrame) (s : State) : State :=
  let n := f.dst.toNat
  let robust := match (modeOf f s).1 with
    | .robust _ => true
    | .ofdm _ _ => false
  let ps := (modeOf f s).2
  if isHead s && decide (f.dst ≠ bcast) && (decide (eState (entryAt s n) = stFree) || decide (eState (entryAt s n) = stGone)) &&
      decide (f.ty.toNat ≠ tyRangeResult) then sweepLeaf n s
  else if f.posted && ePfail (entryAt s n) && !everCommitted f then refusePosted f s
  else if fitsNone f s then failFrame f (resBad 8) 1 s
  else if robust && s.rbm.bad then s
  else if !leafMaySend s f then s
  else if (portList ps).all (fun p => !portUsable s p) then failFrame f (resSt 0x11) 1 s
  else
    match planFor f s with
    | none => s
    | some p =>
      let cBlocked := if (bandsOf s p.mode).contains 1 then (portList p.ports).filter fun x => !cMay s x p.start p.air else []
      let k := (portList p.ports).length * (if isPair p.mode then 2 else 1)
      let hop := (pathOf f s).2
      if !inTurn s f p.ports || (decide (hop ≠ f.dst) && decide (creditOf s hop.toNat = 0)) then s
      else if (match f.deadline with
        | some d => decide (d < p.start)
        | none => false) then expire f s
      else if !cBlocked.isEmpty then holdFrame f.id p.mode p.ports (cWithhold cBlocked false s)
      else if blockedBehind s f p || !((bandsOf s p.mode).all fun b => covers (bandAt s b) (k * p.air)) then
        (if f.ty.toNat = tyWake then wakeSkip f s else holdFrame f.id p.mode p.ports s)
      else if f.ty.toNat = tyWake ∧ fld s.slp.head 8 8 ≤ s.slph.wakeCopies then wakeSkip f s
      else placeFrame f p s

end Sys2Proof.Machine
end

