-- ==== Sys2Proof/Machine/Air.lean ====
section
/-! DEFINITION. The airtime governor (03): its registers, the frames it commits, withholds and lets expire, and the first
and last sample of a frame (04 R126 to R133). -/
namespace Sys2Proof.Machine

/-! ### Registers -/

def airRefuse (cause off : Nat) (v : Word) (s : State) : State :=
  raise 0x0212 0xFF (refusedPay cause off v)
    { s with air := { s.air with refused := true, cause := BitVec.ofNat 3 cause } }

/-- Why a write to AIR_CTRL is refused (03 R100), in the order of the rule; a REGION that names no region comes before
the bands it would hold (log entry 36). -/
def airCtrlFault (s : State) (v : Word) : Option Nat :=
  let eu := bitAt v 9 || bitAt v 10 || bitAt v 11
  if bitAt v 8 then some 1
  else if 2 ≤ fld v 0 2 then some 3
  else if (fld v 0 2 = 0 && bitAt v 12) || (fld v 0 2 = 1 && eu) then some 2
  else if fld v 16 3 ≠ 0 ∧ !bitAt v 10 then some 6
  else if s.qr.run then some 4
  else none

/-- A write to AIR_CTRL: region, bands, band C access; accepted, slot 0 follows the permitted set, other slots and the
robust passband are checked again (06 R197, 07 R227). -/
def airCtrlWrite (v : Word) (s : State) : State :=
  match airCtrlFault s v with
  | some c => airRefuse c 0x2800 v s
  | none =>
    let s := { s with air := { s.air with
      ctrl := v &&& 0x71F03
      cst := Vector.ofFn fun p : Fin 3 => if bitAt v (16 + p.val) then s.air.cst[p.val] else CPort.reset } }
    rbmRecheck (slotsRecheck s)

/-- A budget register written (03 R104). -/
def airSetReg (r : AirReg) (v : Word) (a : AirBand) : AirBand :=
  match r with
  | .rate => { a with rate := v &&& 0x3FFFF }
  | .window => { a with window := v &&& 0x3FFF }
  | .bres => { a with bres := v &&& 0xFFFFF }

def airRegOff (r : AirReg) (b : Nat) : Nat :=
  4 * b + (match r with
    | .rate => 0x2810
    | .window => 0x2820
    | .bres => 0x2830)

def budgetOk (a : AirBand) : Bool :=
  decide (fld a.bres 0 20 < bandCap a) && decide (fld a.rate 0 18 ≤ 0x30000) && decide (1 ≤ fld a.window 0 14) &&
    decide (fld a.window 0 14 ≤ 10000)

def airBudgetWrite (r : AirReg) (b : Fin 4) (v : Word) (s : State) : State :=
  let a := airSetReg r v s.air.band[b.val]
  if budgetOk a then
    updBand b.val (fun _ => { a with beacon := min a.beacon (fld a.bres 0 20), main := min a.main (mainCap a : Int) }) s
  else airRefuse 5 (airRegOff r b.val) v s

def airStatusWrite (v : Word) (s : State) : State := { s with air := { s.air with refused := w1c s.air.refused v 31 } }
def airStatus (s : State) : Word :=
  at32 (ofBool s.air.refused) 31 ||| at32 s.air.cause.toNat 28 ||| at32 s.air.dry.toNat 0
def cCode : CSt → Nat
  | .off => 0
  | .waiting => 1
  | .run => 2
  | .pause => 3
def airCstate (s : State) : Word :=
  at32 (cCode (cportAt s 2).st) 4 ||| at32 (cCode (cportAt s 1).st) 2 ||| at32 (cCode (cportAt s 0).st) 0

/-- AIR_CTRL_WRITE (03 R100). -/
def execAirCtrlWrite (v : Word) (s : State) : Out := runHost s (airCtrlWrite v)

/-- AIR_BUDGET_WRITE (03 R104). -/
def execAirBudgetWrite (r : AirReg) (b : Fin 4) (v : Word) (s : State) : Out := runHost s (airBudgetWrite r b v)

/-! ### Wake episodes (09 R300, R301) -/

/-- A folio that is SLEEPY_WINDOW on the phase of every port of the leaf, by its number in the quire. -/
def sleepyFolio (s : State) (ports : BitVec 3) (n : Nat) : Bool :=
  (portList ports).all fun p => decide (n ≠ 0) && owned s n && decide (bankRole (actBank s) p n = rSleepy)

/-- The first folio from an index on that serves as a target; the first argument bounds the search to two quires. -/
def findTarget (s : State) (ports : BitVec 3) : Nat → Nat → Option Nat
  | 0, _ => none
  | k + 1, a =>
    if sleepyFolio s ports (a % (quireQ s * quireF s)) then some a else findTarget s ports k (a + 1)

def wakeCopies (s : State) : Nat := orOne (fld s.slp.head 0 3)

/-- The next quire, from this one on, with a sample folio of leaf n still ahead. -/
def nextSampleQuire (s : State) (n : Nat) : Nat :=
  let q := s.qr.qnum.toNat
  let d := (slPer s n - (q + n) % slPer s n) % slPer s n
  if d = 0 ∧ slFolio s n ≤ s.qr.folio then q + slPer s n else q + d

def wakeBody (folios k copies : Nat) : List Byte := leBytes 2 folios ++ [BitVec.ofNat 8 k, BitVec.ofNat 8 copies]

/-- A frame for a sampled leaf with no episode in progress starts one: COPIES WAKE frames and the target. -/
def startEpisode (f : TxFrame) (s : State) : State :=
  let n := f.dst.toNat
  let c := wakeCopies s
  let q0 := nextSampleQuire s n
  let idx := fun k => folioIndex s (q0 + k * slPer s n) (slFolio s n)
  let qf := quireQ s * quireF s
  match findTarget s (ePorts (hopEntry s (pathOf f s).2)) (2 * qf) (idx (c - 1) + 2) with
  | none => s
  | some t =>
    let e : Episode := { leaf := f.dst, frame := f.id, copies := c, sent := 0, targetQ := BitVec.ofNat 32 (t / qf),
                         targetFolio := t % qf }
    let s := { s with slph := { s.slph with episodes := s.slph.episodes.filter (fun x => decide (x.leaf ≠ f.dst)) ++ [e] } }
    (List.range c).foldl (fun s k => submit (txNew tyWake f.dst (wakeBody (t - idx k) k c) s) s) s

def needsEpisode (s : State) (f : TxFrame) : Bool :=
  isHead s && decide (f.dst ≠ bcast) && decide (slMode s f.dst.toNat = 2) && decide (f.ty.toNat ≠ tyWake) &&
    !episodeLive s f.dst.toNat && !lingering s f.dst.toNat

/-! ### The tamper beacon (19 R599) -/

/-- The type number that marks a tamper beacon in the queue; it is no frame type of 05. -/
def tyTamper : Nat := 15

/-- RFC bits f0 to f7 of a tamper beacon. -/
def tamperRfc : List Bool := [false, true, true, true, true, true, false, false]

/-- A tamper beacon is due in this folio: sent where it fits and its tokens can be taken. -/
def tamperBeacon (s : State) : State :=
  let ps := (List.range 3).filter fun p => portReady s p && decide (roleNow s p = rContention)
  let m := Mode.robust (noHc (bcfg s) ||| 0x800)
  let air := ceilDiv (170 * 1000000) (baudRate (rcBaud (bcfg s)))
  let done := fun (s : State) => { s with tmp := { s.tmp with tbFolio := 0 } }
  if !qrRunning s || decide (s.tmp.tbFolio ≠ 1) || !s.cln.confirmed || ps.isEmpty then s
  else if ticksToEnd s < ticksToMargin s + ticksUs air then
    done { s with tmp := { s.tmp with tbNofit := incSat16 s.tmp.tbNofit } }
  else if (bandsOf s m).all fun b => covers (bandAt s b) (ps.length * air) then
    let cost := costVec (bandsOf s m) (ps.length * air)
    let f := { txNew tyTamper bcast [] s with
      st := .committed
      ports := portMask ps
      mode := m
      airtime := air
      cost := cost
      quire := s.qr.qnum
      start := s.now + ticksToMargin s
      endAt := s.now + ticksToMargin s + ticksUs air }
    done (submit f (takeBands false cost { s with tmp := { s.tmp with tbSent := incSat16 s.tmp.tbSent } }))
  else s

/-- FRAME_COMMIT (02 R59, 03 R107): the scheduler puts a waiting frame to the folio in progress; in TAMPER_LOCKED it is
the tamper beacon alone that may go (19 R597, R599). -/
def execFrameCommit (id : Nat) (s : State) : Out := run s fun s =>
  if s.tmp.locked then tamperBeacon s else
  match frameAt s id with
  | none => s
  | some f =>
    if f.raw.isSome || inFlight f then s
    else if needsEpisode s f then startEpisode f s
    else commitFrame f s

/-- FRAME_DEADLINE_EXPIRY (03 R113): a frame with a deadline, not on its way when that passes. -/
def execFrameDeadlineExpiry (id : Nat) (s : State) : Out := run s fun s =>
  match frameAt s id with
  | none => s
  | some f =>
    (match f.deadline with
     | some _ => if inFlight f then s else expire f s
     | none => s)

/-! ### Band C access (03 R117 to R121) -/

/-- CBAND_BUSY_DETECT: the detector holds its last decision while the receive path is blanked (04 R133). -/
def execCbandBusyDetect (p : Port) (s : State) : Out := run s fun s =>
  let c := cportAt s p.val
  if cAccess s p.val ∧ c.st = .waiting ∧ c.delay.isSome ∧ !(portX s p.val).blank then
    updC p.val (fun c => { c with busyInDelay := true }) s
  else s

/-- CBAND_ACCESS_DELAY_END (03 R118): the attempt has won its access, or has met a busy band. -/
def execCbandAccessDelayEnd (p : Port) (s : State) : Out := run s fun s =>
  let c := cportAt s p.val
  if c.st = .waiting ∧ c.delay.isSome then
    updC p.val (fun c => { c with delay := none, busyInDelay := false,
                                  st := if c.busyInDelay then .off else .waiting }) s
  else s

/-- CBAND_RUN_END (03 R119): at the last sample of the run, or when the port has been silent for MIN_PAUSE. -/
def execCbandRunEnd (p : Port) (s : State) : Out := run s fun s =>
  if (cportAt s p.val).st = .run ∧ !(s.line.q.any fun f => decide (f.st = .onLine) && f.ports.getLsbD p.val) then
    updC p.val (fun c => { c with st := .pause }) s
  else s

/-! ### First and last sample -/

/-- The stamp of a transmitted first-symbol boundary (04 R128). -/
def txStamp (s : State) (ports : BitVec 3) : Stamp :=
  stampAdd (todNow s) (portS s ((portList ports).headD 0)).txdly.toNat

/-- The frame is on the line: the block's output, its ports in TX. -/
def goOnLine (f : TxFrame) (s : State) : State :=
  let s := updFrame f.id (fun g => { g with
    st := .onLine
    stamp := txStamp s f.ports
    start := s.now
    endAt := s.now + ticksUs f.airtime }) s
  let s := { s with line := { s.line with
    out := some { port := f.ports, mode := f.mode, bytes := f.built,
                  bits := if f.ty.toNat = tyTamper then tamperRfc else modBitsOf s f.mode f.copy f.built } } }
  (portList f.ports).foldl (fun s p =>
    updPortX p (fun x => { x with notchNow := x.notch }) <| updPort p (fun x => if x.st = .idle ∨ x.st = .rx then { x with st := .tx } else x) s) s

/-- FRAME_TX_START: the first sample of a committed frame leaves its ports. -/
def execFrameTxStart (id : Nat) (s : State) : Out := run s fun s =>
  match frameAt s id with
  | none => s
  | some f =>
    if f.st = .committed then
      let s := goOnLine f s
      if f.ty.toNat = tyWake then
        { s with slph := { s.slph with
            wakeCopies := s.slph.wakeCopies + 1
            episodes := s.slph.episodes.map fun e => if e.leaf = f.dst then { e with sent := e.sent + 1 } else e } }
      else s
    else s

/-- Half of what a half-cycle pair took (07 R244). -/
def halfCost (cost : Vector Nat 4) : Vector Nat 4 := cost.map (· / 2)

/-- A frame for sleepy leaf n sent: the head counts the leaf's linger from here (09 R305), this folio's end included. -/
def lingerFrom (n : Nat) (s : State) : State :=
  { s with slph := { s.slph with
      headLinger := (n, orOne (fld s.slp.ctrl 8 4) + 1) :: s.slph.headLinger.filter fun x => decide (x.1 ≠ n) } }

/-- What the last sample of a frame ends: its descriptor, or its wait for an answer begins. -/
def afterLast (f : TxFrame) (s : State) : State :=
  let t := f.ty.toNat
  if f.raw.isSome || f.orphan then endFrame f s
  else
    let s := if isHead s ∧ f.dst ≠ bcast ∧ slMode s f.dst.toNat ≠ 0 ∧ t ≠ tyWake then lingerFrom f.dst.toNat s else s
    let s := if isLeaf s ∧ f.ackreq then { s with ltx := { s.ltx with sentAck := true } } else s
    if t = tyData ∧ f.dst = bcast then endFrame f (finishOpt f.desc (resOk f.body.length) s)
    else if (t = tyData ∧ f.ackreq) ∨ t = tyRemote then updFrame f.id (fun g => { g with st := .waiting }) s
    else endFrame f s

/-- FRAME_TX_END: the last sample leaves; its cost is returned (03 R123), its relay credit too (08 R272). -/
def execFrameTxEnd (id : Nat) (s : State) : Out := run s fun s =>
  match frameAt s id with
  | none => s
  | some f =>
    if f.st = .onLine then
      let s := (portList f.ports).foldl (fun s p => updPortX p (fun x => { x with lastTxEnd := some s.now }) s) s
      let s := if (bandsOf s f.mode).contains 1 then
          (portList f.ports).foldl (fun s p => updC p (fun c => { c with lastSample := s.now }) s) s else s
      if isPair f.mode && !f.copy then
        let h := halfCost f.cost
        updFrame id (fun g => { g with st := .committed, copy := true, cost := h }) (returnCost h s)
      else
        let s := returnCost f.cost s
        let s := if f.credit then giveBack 5 f.hop.toNat 1 s else s
        let s := updFrame id (fun g => { g with cost := Vector.replicate 4 0, credit := false }) s
        afterLast f s
    else s

/-! ### Acknowledgements (05 R182, 03 R108) -/

/-- The folio roles in which an acknowledgement may go (02 Table 02.4). -/
def ackPermitted (s : State) (p : Nat) : Bool :=
  let r := roleNow s p
  decide (r = rSleepy) ||
    (if isHead s then decide (r = rUp) || decide (r = rContention)
     else decide (r = rDown) || decide (r = rExpress) || decide (r = rContention) || (decide (r = rUp) && appointed s p))

/-- Bands whose negative main bucket suppresses an acknowledgement (03 R108). -/
def ackSuppress (bands : List Nat) (s : State) : State :=
  bands.foldl (fun s b =>
    let s := updBand b (fun a => { a with ackSupp := inc32 a.ackSupp }) s
    if (bandAt s b).onceAck then s
    else raise 0x0215 b [(0, 4, (bandAt s b).ackSupp.toNat)] (updBand b (fun a => { a with onceAck := true }) s)) s

/-- LQI as sent: a sleepy leaf carries its over-budget flag in bit 0 (09 R316). -/
def lqiByte (s : State) (lqi : Byte) : Byte :=
  if isLeaf s && decide (slMode s 0 ≠ 0) then (lqi &&& 0xFE) ||| BitVec.ofNat 8 (ofBool s.slp.overBudget) else lqi

/-- The acknowledgement on the line: sealed, its tokens taken whatever the level, its first sample out. -/
def ackOnLine (a : AckDue) (air : Nat) (s : State) : State :=
  let (c, s) := if a.route.isSome then (0, s) else grantNow s
  let body : List Byte := [a.seq, a.status, lqiByte s a.lqi, BitVec.ofNat 8 c]
  let f := { txNew tyAck a.dst body s with ports := portMask [a.port.val], mode := a.rate, route := a.route, airtime := air }
  match sealFrame (hdrFor f 0 a.route.isSome s) a.route a.dst.toNat body s with
  | (.ok bytes inv, warned, s) =>
    let cost := costVec (bandsOf s a.rate) air
    let s := takeBands false cost s
    let s := if (bandsOf s a.rate).contains 1 then cRun [a.port.val] s.now s else s
    let f := { f with id := s.line.nextId, built := bytes, inv := BitVec.ofNat 40 inv, cost := cost, quire := s.qr.qnum }
    let s := goOnLine f (submit f s)
    if warned && isHead s then autoRekey a.dst.toNat 2 s else s
  | (_, _, s) => s

/-- ACK_SEND: the first acknowledgement due on the port goes 80 us after the frame, or not at all. -/
def execAckSend (p : Port) (s : State) : Out := run s fun s =>
  match s.line.acks.find? fun a => decide (a.port = p) with
  | none => s
  | some a =>
    let s := { s with line := { s.line with acks := s.line.acks.erase a } }
    let n := frameBytes tyAck a.dst a.route.isSome 4
    let air := airtimeOf s a.rate n
    let dry := (bandsOf s a.rate).filter fun b => !coversAck (bandAt s b)
    if !lineOpen s || !ackPermitted s p.val || !portUsable s p.val || decide (ticksToEnd s < ticksUs air) then s
    else if !dry.isEmpty then ackSuppress dry s
    else ackOnLine a air s

end Sys2Proof.Machine
end

