-- ==== Sys2Proof/Machine/Afe.lean ====
section
/-! DEFINITION. The line ports (04): their states, driver faults, the FIR banks, notches and levels, and what a port that
goes down does to its frames (17 R543). -/
namespace Sys2Proof.Machine

def onLineAt (s : State) (p : Nat) : Bool := s.line.q.any fun f => decide (f.st = .onLine) && f.ports.getLsbD p

/-! ### Registers -/

def afeRefuse (cause port off : Nat) (v : Word) (s : State) : State :=
  raise 0x0305 port (refusedPay cause off v)
    { s with afe := { s.afe with refused := true, cause := BitVec.ofNat 3 cause, port := BitVec.ofNat 2 port } }

def portBase (p : Nat) : Nat := 0x3100 + 0x100 * p

def pEn (x : PortS) : Bool := bitAt x.pctrl 0

/-- AFE_PCTRL as it reads: ROLLOFF above 4 and PGA above 16 read as those (04 Table 04.4). -/
def pctrlNorm (v : Word) : Word :=
  setFld (setFld (v &&& 0x1FFF) 10 3 (min 4 (fld v 10 3))) 5 5 (min 16 (fld v 5 5))

/-- AFE_LDCFG as it reads (04 Table 04.6). -/
def ldcfgNorm (v : Word) : Word :=
  let lim := fun n => if n < 5 then 5 else if 40 < n then 40 else n
  setFld (setFld (setFld v 24 8 (orOne (fld v 24 8))) 8 8 (lim (fld v 8 8))) 0 8 (lim (fld v 0 8))

/-- LINE_FS + TXGAIN - 3 dB is not above CEIL, in quarters of a dB (04 R155). -/
def levelOk (x : PortS) : Bool := decide (fld x.txcal 0 10 ≤ fld x.txceil 0 10 + fld x.txgain 0 8 + 12)

def txLevelWrite (p : Port) (r : LevelReg) (v : Word) (s : State) : State :=
  let x := s.afe.p[p.val]
  let (y, off) := match r with
    | .gain => ({ x with txgain := BitVec.ofNat 32 (min 192 (fld v 0 8)) }, 0x08)
    | .cal => ({ x with txcal := v &&& 0x3FF }, 0x0C)
    | .ceil => ({ x with txceil := v &&& 0x3FF }, 0x10)
  if s.afe.lock && decide (r = .ceil) then afeRefuse 4 p.val (portBase p.val + off) v s
  else if levelOk y then updPort p.val (fun _ => y) s
  else afeRefuse 1 p.val (portBase p.val + off) v s

/-- A notch in range (04 R151): CENTRE at most 487 500 Hz, WIDTH 0.5 to 20 kHz. -/
def notchOk (v : Word) : Bool :=
  !bitAt v 31 || (decide (fld v 0 19 ≤ 487500) && decide (2 ≤ fld v 20 7) && decide (fld v 20 7 ≤ 80))

def notchWrite (p : Port) (i : Fin 8) (v : Word) (s : State) : State :=
  if notchOk v then updPortX p.val (fun x => { x with notch := x.notch.set i.val (v &&& 0xF7F7FFFF) }) s
  else afeRefuse 2 p.val (portBase p.val + 0x40 + 4 * i.val) v s

/-- TAP of AFE_FIR_ADDR and WORD of AFE_CPWR_ADDR advance on each access and wrap to 0. -/
def firAdvance (s : State) : State :=
  { s with afe := { s.afe with firAddr := setFld s.afe.firAddr 0 6 (fld s.afe.firAddr 0 6 + 1) } }
def cpwrAdvance (s : State) : State :=
  { s with afe := { s.afe with cpwrAddr := setFld s.afe.cpwrAddr 0 5 (fld s.afe.cpwrAddr 0 5 + 1) } }

def firKey (s : State) : Nat := 64 * fld s.afe.firAddr 6 1 + fld s.afe.firAddr 0 6

def firDataWrite (v : Word) (s : State) : State :=
  let p := fld s.afe.firAddr 8 2
  let s' :=
    if 3 ≤ p then s
    else if (portS s p).firAct.val = fld s.afe.firAddr 6 1 then afeRefuse 3 p 0x300C v s
    else updPortX p (fun x => { x with fir := spPut 0 (firKey s) (v.setWidth 18) x.fir }) s
  firAdvance s'

def firDataRead (s : State) : Word :=
  if 3 ≤ fld s.afe.firAddr 8 2 then 0
  else (spGet 0 (portX s (fld s.afe.firAddr 8 2)).fir (firKey s)).setWidth 32

def cpwrDataWrite (v : Word) (s : State) : State :=
  let p := fld s.afe.cpwrAddr 8 2
  cpwrAdvance (if 3 ≤ p then s else updPortX p (fun x => { x with cpwr := spPut 0 (fld s.afe.cpwrAddr 0 5) v x.cpwr }) s)

def cpwrDataRead (s : State) : Word :=
  if 3 ≤ fld s.afe.cpwrAddr 8 2 then 0 else spGet 0 (portX s (fld s.afe.cpwrAddr 8 2)).cpwr (fld s.afe.cpwrAddr 0 5)

/-- AFE_CTRL: LOCK is set by a 1 and stays (04 R158). -/
def afeCtrlWrite (v : Word) (s : State) : State := { s with afe := { s.afe with lock := s.afe.lock || bitAt v 0 } }
def afeStatusWrite (v : Word) (s : State) : State := { s with afe := { s.afe with refused := w1c s.afe.refused v 31 } }
def afeStatus (s : State) : Word :=
  at32 (ofBool s.afe.refused) 31 ||| at32 s.afe.cause.toNat 28 ||| at32 s.afe.port.toNat 24
def portCode : PortSt → Nat
  | .off => 0
  | .idle => 1
  | .tx => 2
  | .rx => 3
  | .fault => 4
def pstat (x : PortS) : Word :=
  at32 (ofBool x.capped) 11 ||| at32 x.firAct.val 10 ||| at32 x.pgaNow.toNat 5 ||| at32 x.cause.toNat 3 ||| at32 (portCode x.st) 0

/-! ### A port that goes down -/

/-- The share of one of a frame's ports in its cost. -/
def portShare (f : TxFrame) : Vector Nat 4 := f.cost.map (· / orOne (portList f.ports).length)

def takeOff (cost share : Vector Nat 4) : Vector Nat 4 := Vector.zipWith (· - ·) cost share

/-- A port of the frame's set that may still carry it. -/
def hasPort (s : State) (f : TxFrame) : Bool :=
  (portList (match f.raw with
    | some _ => f.ports
    | none => (modeOf f s).2)).any (portUsable s)

/-- One frame of a port that is down (04 R140, 17 R543): a frame on the line is aborted there; a committed robust frame
drops the port; a frame left without one completes UNIT_DOWN or is discarded. Answers the descriptor it ended. -/
def frameOffPort (p : Nat) (f : TxFrame) (s : State) : List (Nat × Nat) × State :=
  let rest := f.ports &&& ~~~(portMask [p])
  let gone := fun (f : TxFrame) (s : State) =>
    if hasPort s f && !f.orphan then ([], updFrame f.id (fun g => { g with st := .queued, cost := Vector.replicate 4 0, copy := false }) s)
    else (f.desc.toList, failFrame f (resSt 0x11) 1 s)
  if !inFlight f then (if hasPort s f then ([], s) else (f.desc.toList, failFrame f (resSt 0x11) 1 s))
  else if f.st = .waiting ∨ !f.ports.getLsbD p then ([], s)
  else if rest ≠ 0 then
    let share := portShare f
    let s := if f.st = .onLine then returnCost share s else cancelCost share s
    ([], updFrame f.id (fun g => { g with ports := rest, cost := takeOff g.cost share }) s)
  else if f.st = .onLine then
    gone { f with st := .queued, cost := Vector.replicate 4 0 } (returnCost f.cost s)
  else gone { f with st := .queued, cost := Vector.replicate 4 0, credit := false } (uncommit f s)

/-- All frames of a port that went OFF or into FAULT, and the unit reset they make (17 R541, R543). -/
def framesOffPort (p cause : Nat) (s : State) : State :=
  let (ds, s) := s.line.q.foldl (fun (a : List (Nat × Nat) × State) f =>
    let (d, s) := frameOffPort p f a.2
    (a.1 ++ d, s)) ([], s)
  let s := { s with line := { s.line with acks := s.line.acks.filter fun a => decide (a.port.val ≠ p) } }
  let open_ := ds.filter fun d => (takenAt s d.1 d.2).isSome
  resetsSettle (resetBegin (4 + p) cause false open_ s)

/-- The port goes OFF (04 R143): by the host or by an action of the management subsystem. -/
def portOff (p : Nat) (s : State) : State :=
  let x := portX s p
  let s := updPort p (fun y => { y with st := .off, cause := 0 }) s
  let s := updPortX p (fun y => { y with ldEn := false, blank := false, offPend := false, rxActive := none }) s
  let by_ := if x.offBy then 2 else 1
  framesOffPort p by_ (raise 0x0303 p [(0, 1, by_)] s)

/-- EN cleared: OFF at once, or at the end of the frame in progress (04 R143). -/
def portDisable (p : Nat) (byMss : Bool) (s : State) : State :=
  let s := updPort p (fun y => { y with pctrl := y.pctrl &&& ~~~1 }) s
  if (portS s p).st = .off then s
  else
    let s := updPortX p (fun y => { y with offBy := byMss, offPend := true }) s
    if onLineAt s p then s else portOff p s

/-- A write to AFE_PCTRL: the fixed gain with AGC = 0 (R136), a request for the other FIR bank (R148), the port's enable
(R143, R145). -/
def pctrlWrite (p : Port) (v : Word) (s : State) : State :=
  let v := pctrlNorm v
  let was := pEn s.afe.p[p.val]
  let s := updPort p.val (fun y => { y with
    pctrl := if was && !bitAt v 0 then v ||| 1 else v
    pgaNow := if bitAt v 2 then y.pgaNow else BitVec.ofNat 5 (fld v 5 5)
    firReq := if fld v 4 1 = y.firAct.val then none else some (if bitAt v 4 then 1 else 0) }) s
  if was && !bitAt v 0 then portDisable p.val false s
  else if bitAt v 0 then updPortX p.val (fun y => { y with offPend := false }) s
  else s

/-- The host has written the field of a unit (18 R563). -/
def hostWrote (u : Nat) (s : State) : State :=
  let mark := fun (a : Forced) => if a.unit = u then { a with hostWrote := true } else a
  { s with mssx := { s.mssx with acts := s.mssx.acts.map mark } }

/-- A write of AFE_PCTRL by the host: it writes EN, the field of the forced actions, as well. -/
def pctrlHost (p : Port) (v : Word) (s : State) : State := hostWrote (4 + p.val) (pctrlWrite p v s)

/-- The condition of the fault is over (04 R141, R142): how, and the automatic returns of the last 10 s. -/
def faultLeave (p how : Nat) (s : State) : State :=
  let recent := (portX s p).autoRet.filter fun t => decide (s.now < t + 4000000000)
  raise 0x0302 p [(0, 1, how), (1, 1, recent.length)] (updPort p (fun y => { y with st := .idle, cause := 0 }) s)

/-- LDV is on and not in regulation: every enabled port behaves as if its LD_FAULTn were low (20 R613; log entry 18). -/
def ldvBad (s : State) : Bool := bitAt s.pwr.ldv 31 && !s.pwr.ldvGood

/-- The line domain runs (20 Table 20.2). -/
def lineDomain (s : State) : Bool := decide (s.pwr.st = .active)

def pstatWrite (p : Port) (v : Word) (s : State) : State :=
  if bitAt v 31 ∧ s.afe.p[p.val].st = .fault ∧ !ldvBad s then faultLeave p.val 2 s else s

/-- A port enters FAULT; a second condition joins CAUSE (04 R139, R140). LD_ISENSE is an analogue reading: a free value
(log entry 24). -/
def driverFault (p : Nat) (c : BitVec 2) (s : State) : State :=
  let x := portS s p
  if x.st = .off then s
  else if x.st = .fault then updPort p (fun y => { y with cause := y.cause ||| c }) s
  else
    let aborted := onLineAt s p
    let (i, s) := draw s
    let s := updPort p (fun y => { y with st := .fault, cause := c }) s
    let s := updPortX p (fun y => { y with ldEn := false, rxActive := none }) s
    let s := raise 0x0301 p [(0, 1, c.toNat), (1, 1, ofBool aborted), (4, 2, i.toNat)] s
    framesOffPort p 3 s

/-- An OFF port becomes IDLE; under a bad LDV it is in FAULT at once. -/
def portIdle (p : Nat) (s : State) : State :=
  let s := updPort p (fun x => { x with st := .idle }) s
  if ldvBad s then driverFault p 1 s else s

/-! ### Meanings -/

/-- LD_EN_RAISE (04 R131, R133). -/
def execLdEnRaise (p : Port) (s : State) : Out := run s fun s =>
  if portUsable s p.val then
    updPortX p.val (fun x => { x with ldEn := true, blank := true, rxActive := none }) (updPort p.val (fun x => { x with st := .tx }) s)
  else s

/-- LD_EN_FALL (04 R131): the port is IDLE again once nothing of it is on the line. -/
def execLdEnFall (p : Port) (s : State) : Out := run s fun s =>
  if onLineAt s p.val then s
  else updPortX p.val (fun x => { x with ldEn := false })
    (updPort p.val (fun x => if x.st = .tx then { x with st := .idle } else x) s)

/-- RX_UNBLANK (04 R133). -/
def execRxUnblank (p : Port) (s : State) : Out := run s fun s =>
  if (portX s p.val).ldEn then s else updPortX p.val (fun x => { x with blank := false }) s

/-- RX_SATURATION (04 R137). -/
def execRxSaturation (p : Port) (s : State) : Out := run s fun s =>
  if (portS s p.val).st = .off then s
  else
    let s := updPort p.val (fun x => { x with rxsat := inc32 x.rxsat }) s
    if (portS s p.val).satOnce then s
    else raise 0x0306 p.val [(0, 4, (portS s p.val).rxsat.toNat)] (updPort p.val (fun x => { x with satOnce := true }) s)

/-- TX_CLIP (04 R156): so many samples clipped. -/
def execTxClip (p : Port) (count : Nat) (s : State) : Out := run s fun s =>
  if (portS s p.val).st = .off ∨ count = 0 then s
  else
    let s := updPort p.val (fun x => { x with txclip := x.txclip + BitVec.ofNat 32 count }) s
    if (portS s p.val).clipOnce then s
    else raise 0x0307 p.val [(0, 4, (portS s p.val).txclip.toNat)] (updPort p.val (fun x => { x with clipOnce := true }) s)

/-- DRIVER_FAULT (04 R139, R140): LD_FAULTn, or LD_ISENSEn. -/
def execDriverFault (p : Port) (byCurrent : Bool) (s : State) : Out := run s (driverFault p.val (if byCurrent then 2 else 1))

/-- FAULT_AUTO_RETRY (04 R141): at most three returns in 10 s. -/
def execFaultAutoRetry (p : Port) (s : State) : Out := run s fun s =>
  let recent := (portX s p.val).autoRet.filter fun t => decide (s.now < t + 4000000000)
  if (portS s p.val).st = .fault ∧ bitAt (portS s p.val).pctrl 3 ∧ recent.length < 3 ∧ !ldvBad s then
    faultLeave p.val 1 (updPortX p.val (fun y => { y with autoRet := s.now :: recent }) s)
  else s

/-- FAULT_CLR (04 R142). -/
def execFaultClr (p : Port) (v : Word) (s : State) : Out := runHost s (pstatWrite p v)

/-- PORT_DISABLE (04 R143). -/
def execPortDisable (p : Port) (v : Word) (s : State) : Out := runHost s (pctrlHost p v)

/-- PORT_OFF (04 R143): the frame in progress has ended. -/
def execPortOff (p : Port) (s : State) : Out := run s fun s =>
  if (portX s p.val).offPend && !onLineAt s p.val then portOff p.val s else s

/-- PORT_ENABLE (04 R145). -/
def execPortEnable (p : Port) (v : Word) (s : State) : Out := runHost s fun s => pctrlHost p v s

/-- PORT_UP (04 R145). -/
def execPortUp (p : Port) (s : State) : Out := run s fun s =>
  if (portS s p.val).st = .off ∧ pEn (portS s p.val) ∧ lineDomain s then
    portIdle p.val (raise 0x0304 p.val [] s)
  else s

/-- FIR_COEFF_WRITE (04 R147). -/
def execFirCoeffWrite (v : Word) (s : State) : Out := runHost s (firDataWrite v)

/-- FIR_SEL_WRITE (04 R148): a write of AFE_PCTRL. -/
def execFirSelWrite (p : Port) (v : Word) (s : State) : Out := runHost s fun s => pctrlHost p v s

/-- FIR_BANK_SWAP (04 R148): the FIR holds no frame sample. -/
def execFirBankSwap (p : Port) (s : State) : Out := run s fun s =>
  match (portS s p.val).firReq with
  | some b => if onLineAt s p.val then s else updPort p.val (fun x => { x with firAct := b, firReq := none }) s
  | none => s

/-- NOTCH_WRITE (04 R151). -/
def execNotchWrite (p : Port) (i : Fin 8) (v : Word) (s : State) : Out := runHost s (notchWrite p i v)

/-- TX_LEVEL_WRITE (04 R155). -/
def execTxLevelWrite (p : Port) (r : LevelReg) (v : Word) (s : State) : Out := runHost s (txLevelWrite p r v)

/-- AFE_LOCK (04 R158). -/
def execAfeLock (v : Word) (s : State) : Out := runHost s (afeCtrlWrite v)

/-- The receiver of a mode listens on the port (06 Table 06.8, 07 Table 07.5). -/
def rxEnabled (s : State) (p : Nat) (ofdm : Bool) : Bool :=
  if ofdm then s.ofd.rxen.getLsbD p else bitAt s.rbm.ctrl p

/-- PREAMBLE_DETECTION: the port's receiver enters RX, its gain frozen to the end of the frame (04 R134, 06 R220). -/
def execPreambleDetection (p : Port) (ofdm : Bool) (s : State) : Out := run s fun s =>
  if (portS s p.val).st = .idle ∧ !(portX s p.val).blank ∧ rxEnabled s p.val ofdm then
    updPortX p.val (fun x => { x with rxActive := some ofdm }) (updPort p.val (fun x => { x with st := .rx }) s)
  else s

end Sys2Proof.Machine
end

