-- ==== Sys2Proof/Machine/Receive.lean ====
section
/-! DEFINITION. Receiving (05 R164 to R180, 06 R219, 07 R239 to R242): the checks of a received frame in their order, what
each failure counts and answers, and what a frame does that passes: data, acknowledgements, tip-in, relaying. -/
namespace Sys2Proof.Machine

/-! ### Counters of the two modes -/

def updOfd (p : Nat) (g : OfdPort → OfdPort) (s : State) : State := { s with ofd := { s.ofd with p := vupd s.ofd.p p g } }
def updRbm (p : Nat) (g : RbmPort → RbmPort) (s : State) : State := { s with rbm := { s.rbm with p := vupd s.rbm.p p g } }

def countFc (f : RxFrame) (s : State) : State :=
  if f.ofdm then updOfd f.port.val (fun x => { x with fcfail := inc32 x.fcfail }) s
  else updRbm f.port.val (fun x => { x with rfcfail := inc32 x.rfcfail }) s
def countHcs (f : RxFrame) (s : State) : State :=
  if f.ofdm then updOfd f.port.val (fun x => { x with hcsfail := inc32 x.hcsfail }) s
  else updRbm f.port.val (fun x => { x with hcsfail := inc32 x.hcsfail }) s
def countRs (f : RxFrame) (s : State) : State :=
  if f.ofdm then updOfd f.port.val (fun x => { x with rsfail := inc32 x.rsfail }) s
  else updRbm f.port.val (fun x => { x with rsfail := inc32 x.rsfail }) s
def countFcs (f : RxFrame) (s : State) : State :=
  if f.ofdm then updOfd f.port.val (fun x => { x with fcsfail := inc32 x.fcsfail }) s
  else updRbm f.port.val (fun x => { x with fcsfail := inc32 x.fcsfail }) s

/-- Detections combined across ports (07 R240). -/
def combined (f : RxFrame) (s : State) : Bool := !f.ofdm && bitAt s.rbm.ctrl 4 && decide (1 < (portList f.ports).length)

/-- A delivered frame (06 R219, 07 R240): its count, its link measurements. -/
def countOk (f : RxFrame) (s : State) : State :=
  if f.ofdm then
    updOfd f.port.val (fun x => { x with rxok := inc32 x.rxok, ofs := f.ofs, snr := f.snr.setWidth 32,
                                         rscorr := x.rscorr + BitVec.ofNat 32 f.corrected }) s
  else
    let c := combined f s
    let s := updRbm f.port.val (fun x => { x with rxok := inc32 x.rxok, snr := f.snr.setWidth 32,
                                                  comb := if c then inc32 x.comb else x.comb }) s
    { s with line := { s.line with lastRx := some (f.port.val, f.bytes) } }

/-- An event of the frame layer, once per quire and port (05 R188). -/
def lfRaise (code port : Nat) (p : List (Nat × Nat × Nat)) (s : State) : State :=
  if s.line.once.contains (code, port) then s
  else raise code port p { s with line := { s.line with once := (code, port) :: s.line.once } }

/-! ### The front: up to the FCS -/

/-- A frame past its FCS (05 R179). -/
structure Front where
  f : RxFrame
  h : Hdr
  rt : Option Route
  hops : Nat
  cls : Nat
  gen : Nat
  inv : Nat
  sec : List Byte
  body : List Byte
  tag : List Byte
  deriving DecidableEq, Repr

/-- The port hears the frame: IDLE or RX, not blanked, its receiver and rate enabled. -/
def canHear (f : RxFrame) (s : State) : Bool :=
  (decide ((portS s f.port.val).st = .idle) || decide ((portS s f.port.val).st = .rx)) && !(portX s f.port.val).blank &&
    rxEnabled s f.port.val f.ofdm && (f.ofdm || bitAt s.rbm.ctrl (8 + rcBaud f.fc))

/-- The end of the frame: the port is IDLE again. -/
def endRx (f : RxFrame) (s : State) : State :=
  updPortX f.port.val (fun x => { x with rxActive := none })
    (updPort f.port.val (fun x => if x.st = .rx then { x with st := .idle } else x) s)

/-- The frame control is valid (06 R204, 07 R232). -/
def fcValid (f : RxFrame) (s : State) : Bool :=
  if f.ofdm then decide (f.fc.toNat / 16 % 4 ≠ 3) && s.ofd.valid.getLsbD (f.fc.toNat % 16)
  else decide (f.fc.toNat / 256 % 8 ≤ 4) && decide (f.fc.toNat / 64 % 4 ≠ 3) && !(f.copy && !rcHc f.fc)

/-- The number a frame must carry to be this device's own. -/
def isMine (s : State) (dst : BitVec 12) : Bool :=
  decide (dst = bcast) || (if isHead s then decide (dst = 0) else decide (dst ≠ 0) && decide (dst = mySrc s))

/-- A relay must act on the frame next (05 R171, 08 R268). -/
def mustRelay (s : State) (h : Hdr) (rt : Option Route) (hops : Nat) : Bool :=
  isLeaf s && bitAt s.lt.cfg 4 && isJoined s && decide (h.dst ≠ mySrc s) &&
    (match rt with
     | some r => decide (r.idx < hops) && decide (nextActor r hops h.dst = mySrc s)
     | none => false)

/-- The fixed length of a body (05 Table 05.7, Table 05.8). -/
def minLen (ty : Nat) : Nat :=
  match ty with
  | 0 => 43
  | 1 => 14
  | 3 => 4
  | 4 => 10
  | 5 => 75
  | 6 => 2
  | 7 => 14
  | 8 => 14
  | 9 => 4
  | 10 => 10
  | 11 => 10
  | _ => 0

/-- The length of a BEACON body by its FLAGS (05 R183). -/
def beaconLen (flags : Nat) : Nat :=
  43 + (if flags.testBit 3 then 8 else 0) + (if flags.testBit 1 then 4 else 0) + (if flags.testBit 2 then 8 else 0)

/-- A leaf in tip-in (08 R259). -/
def joining (s : State) : Bool := isLeaf s && decide (s.lt.jstate = 1)

/-- A junior head takes the beacons of the senior, which carry another head ID (02 R84, R85). -/
def fromSenior (s : State) (h : Hdr) : Bool := isHead s && !bitAt s.qr.part 2 && decide (h.ty = tyBeacon)

def holdPair (f : RxFrame) (s : State) : State :=
  if !f.ofdm && rcHc f.fc && !f.copy then
    { s with rbm := { s.rbm with held := (f.port.val, s.qr.folio) :: s.rbm.held } }
  else s

/-- Frame control, training, HCS, Reed-Solomon, R167, FCS, and the fields under the FCS (R166, R170, R177, R183, R186). -/
def rxFront (f : RxFrame) (s : State) : Option Front × State :=
  if !canHear f s then (none, s)
  else
    let s := endRx f s
    let h := hdrOf f.bytes
    let roff := if h.rly then 8 else 0
    let rt := if h.rly then some (routeOf (f.bytes.drop 12)) else none
    let hops := if h.rly then hopsField (f.bytes.drop 12) else 0
    let sec := (f.bytes.drop (12 + roff)).take 8
    let tlen := leAt sec 6 1
    let cls := leAt sec 0 1 % 4
    if !f.ofdm && decide (-24 < f.mse.toInt) then
      let s := countFc f s
      if (vget s.rbm.p f.port.val RbmPort.reset).trainOnce then (none, s)
      else (none, raise 0x0332 f.port.val [(0, 1, rcBaud f.fc), (1, 1, ofBool (rcPre f.fc)), (2, 1, f.mse.toNat)]
        (updRbm f.port.val (fun x => { x with trainOnce := true }) s))
    else if !fcValid f s then (none, countFc f s)
    else if f.bytes.length < 12 ∨ hcs (f.bytes.take 10) ≠ leAt f.bytes 10 2 then (none, holdPair f (countHcs f s))
    else if !f.rsOk then (none, holdPair f (countRs f s))
    else if h.rsv ∨ 12 ≤ h.ty then (none, s)
    else if h.ver ≠ 1 then (none, lfRaise 0x0312 f.port.val [(0, 1, h.ver), (1, 2, h.edition.toNat)] s)
    else if h.edition ≠ myEdition s ∨ (h.headId ≠ myHeadId s && !fromSenior s h) then (none, s)
    else if !isMine s h.dst && !mustRelay s h rt hops then (none, s)
    else if f.bytes.length < 28 + roff ∨ crc32 (f.bytes.take (f.bytes.length - 4)) ≠ leAt f.bytes (f.bytes.length - 4) 4 then
      (none, holdPair f (countFcs f s))
    else
      let (c, e, t) := frameSec h.ty h.dst
      if !h.sec ∨ cls ≠ c ∨ (leAt sec 7 1).testBit 0 ≠ e ∨ tlen ≠ t ∨ (h.rly ∧ hops = 0) ∨ 512 < h.len ∨
          f.bytes.length ≠ 24 + roff + h.len + tlen ∨ h.len < minLen h.ty ∨ (cls = 0 ∧ h.src ≠ 0) ∨
          (h.ty = tyBeacon ∧ h.len ≠ beaconLen (leAt f.bytes (21 + roff) 1)) then (none, s)
      else
        (some { f := f, h := h, rt := rt, hops := hops, cls := cls, gen := leAt sec 0 1 / 4, inv := leAt sec 1 5, sec := sec,
                body := (f.bytes.drop (20 + roff)).take h.len,
                tag := (f.bytes.drop (20 + roff + h.len)).take tlen }, s)

/-! ### Answers -/

/-- Mode, baud, MOD and RATE of the frame acknowledged, REP x1, its preamble; in OFDM its slot and rate (07 Table 07.2,
06 R200). -/
def ackMode (f : RxFrame) : Mode :=
  if f.ofdm then .ofdm (f.fc.toNat % 16) (f.fc.toNat / 16 % 4) else .robust (f.fc &&& 0x8E3)

/-- The path back (08, a route changes while a relayed frame is in flight). -/
def backRoute (o : Front) : Option Route := o.rt.map fun r => { r with idx := 0, dirHead := !r.dirHead, crgrant := 0 }

/-- An acknowledgement becomes due (05 R182). -/
def pushAck (o : Front) (seq : Byte) (status : Nat) (s : State) : State :=
  let a : AckDue := { port := o.f.port, ofdm := o.f.ofdm, rate := ackMode o.f, dst := o.h.src, seq := seq,
                      status := BitVec.ofNat 8 status, lqi := o.f.lqi, credit := 0, route := backRoute o }
  { s with line := { s.line with acks := s.line.acks ++ [a] } }

/-- ACKREQ as a receiver takes it (05 R168). -/
def wantsAck (o : Front) : Bool := o.h.ackreq && decide (o.h.ty = tyData) && decide (o.h.dst ≠ bcast)

/-- R180: AUTH_FAIL 1 or STALE_KEY 4 to the receiver's head or its own leaf. -/
def failReply (o : Front) (status : Nat) (s : State) : State :=
  if o.h.dst ≠ bcast ∧ (wantsAck o ∨ o.h.ty = tyRemote) then pushAck o o.h.seq status s else s

/-! ### Key, replay, tag (05 R176, R180; 13 R438, R448) -/

def heldAt (k : Slot) (i : Nat) : Option (BitVec 40) := vget k.heldInv i none

/-- The entry whose key-use record holds the JOIN value of a UID. -/
def joinEntryOf (o : Front) (s : State) : Option Nat := entryOfUid s (leAt o.body 0 6)

def heldInvOf (o : Front) (i : Nat) (s : State) : Option (BitVec 40) :=
  if isHead s then
    (if o.cls = 1 then (useRec s o.h.src.toNat).heldLeaf
     else if o.cls = 2 then (match joinEntryOf o s with
       | some n => (useRec s n).heldJoin
       | none => none)
     else heldAt (slotAt s i) o.h.headId)
  else if o.cls = 1 then heldAt (slotAt s i) 0
  else heldAt (slotAt s i) o.h.headId

def setHeld (o : Front) (i : Nat) (s : State) : State :=
  let v := some (BitVec.ofNat 40 o.inv)
  if isHead s then
    (if o.cls = 1 then updUse o.h.src.toNat (fun u => { u with heldLeaf := v }) s
     else if o.cls = 2 then (match joinEntryOf o s with
       | some n => updUse n (fun u => { u with heldJoin := v }) s
       | none => s)
     else updSlot i (fun k => { k with heldInv := vupd k.heldInv o.h.headId (fun _ => v) }) s)
  else updSlot i (fun k => { k with heldInv := vupd k.heldInv (if o.cls = 1 then 0 else o.h.headId) (fun _ => v) }) s

/-- The frame came once more as a copy (07 R242). -/
def isCopy (o : Front) (s : State) : Bool :=
  !o.f.ofdm && (match s.line.lastRx with
    | some (p, bs) => decide (bs = o.f.bytes) && (o.f.copy || decide (p ≠ o.f.port.val))
    | none => false)

/-- A replay is discarded and counted (05 R176). -/
def replayed (o : Front) (s : State) : State :=
  lfRaise 0x0311 o.f.port.val [(0, 2, o.h.src.toNat), (2, 1, o.h.ty), (3, 1, o.cls), (4, 5, o.inv)]
    { s with cx := { s.cx with replay := inc32 s.cx.replay } }

/-- The SRC of a LEAF-class frame is the receiver's head, or a leaf whose entry may authenticate (08 R251). -/
def srcKnown (o : Front) (s : State) : Bool :=
  if isLeaf s then decide (o.h.src = 0)
  else
    let st := eState (entryAt s o.h.src.toNat)
    decide (o.h.src ≠ 0) && decide (o.h.src ≠ bcast) &&
      (decide (st = stTipping) || decide (st = stActive) || decide (st = stSilent) || decide (st = stGone))

/-- A frame heard from leaf n: its quiet count restarts, a SILENT or GONE entry is ACTIVE again (08 R251, R252). -/
def heardLeaf (n : Nat) (s : State) : State :=
  let s := { s with lt := { s.lt with quiet := spPut 0 n 0 s.lt.quiet } }
  let st := eState (entryAt s n)
  if st = stSilent ∨ st = stGone then changeState n stActive s else s

/-- CRGRANT of a relayed frame (08 R271): the grant of its previous actor; a 0 from an originator that is no relay of ours
grants nothing (log entry 48). -/
def noteGrant (o : Front) (s : State) : State :=
  match o.rt with
  | none => s
  | some r =>
    let prev := (prevActor r o.hops o.h.src).toNat
    if 0 < r.idx ∨ r.crgrant ≠ 0 ∨ eRelayEn (entryAt s prev) then grantFrom prev r.crgrant.toNat s else s

/-- What every authenticated frame does besides its type's effect. -/
def accepted (o : Front) (s : State) : State :=
  let s := noteGrant o (countOk o.f s)
  if isHead s then (if o.cls = 1 then heardLeaf o.h.src.toNat s else s)
  else if o.cls = 1 then
    { s with ltx := { s.ltx with lastRoute := o.rt.map fun r => { r with crgrant := 0 }, heardHead := true, noAnswer := 0 } }
  else s

/-- The tag (05 R174, R179), after the admission of the receive job on the key (13 R441). -/
def rxVerify (o : Front) (i : Nat) (s : State) : Option Front × State :=
  let k := slotAt s i
  let (_, enc, _) := frameSec o.h.ty o.h.dst
  match admitJob i (lineBlocks o.h.ty o.h.dst o.h.rly o.h.len) s with
  | (a, s) =>
    if !a.ok then (none, s)
    else
      let s := jobDone i s
      let warn := fun (s : State) => if a.warned && isHead s && decide (o.cls = 1) then autoRekey o.h.src.toNat 2 s else s
      let uid : BitVec 48 := if o.h.ty = tyJoinReq then BitVec.ofNat 48 (leAt o.body 0 6) else o.f.headUid
      let nonce := nonceOf o.h.headId o.cls o.gen o.inv o.h.edition o.h.src uid
      match gcmDec k.size k.key nonce (aadOf (o.f.bytes.take 12) o.rt o.sec enc o.body) (if enc then o.body else []) o.tag with
      | none =>
        let s := lfRaise 0x0310 o.f.port.val [(0, 2, o.h.src.toNat), (2, 1, o.h.ty), (3, 1, o.cls)] s
        (none, warn (failReply o 1 s))
      | some pt =>
        let o := if enc then { o with body := pt } else o
        (some o, warn (accepted o (setHeld o i s)))

/-- A received frame for this device, through every check (05 R179). A leaf in tip-in takes beacons and role maps
unverified (08 R259). In TAMPER_LOCKED the receivers run and deliver nothing (19 R597). -/
def rxOpen (f : RxFrame) (s : State) : Option Front × State :=
  match rxFront f s with
  | (none, s) => (none, s)
  | (some o, s) =>
    if s.tmp.locked then (none, s)
    else if mustRelay s o.h o.rt o.hops then (some o, s)
    else if joining s && decide (o.h.ty ≤ 1) then (some o, countOk f s)
    else if o.cls = 1 ∧ !srcKnown o s then (none, s)
    else
      match classKey o.cls o.h.src.toNat s with
      | (.wait, s) => (none, s)
      | (.empty, s) => (none, if o.cls = 1 ∧ isHead s then autoRekey o.h.src.toNat 3 s else s)
      | (.slot i, s) =>
        let k := slotAt s i
        if k.gen.toNat ≠ o.gen then (none, if o.cls = 1 then failReply o 4 s else s)
        else if k.fhold then (none, { s with cx := { s.cx with rxHeld := inc32 s.cx.rxHeld } })
        else if (match heldInvOf o i s with
          | some v => decide (o.inv ≤ v.toNat)
          | none => false) then (none, if isCopy o s then s else replayed o s)
        else rxVerify o i s

/-! ### Delivery to the host (15 R500, R501) -/

/-- The stamp of the first-symbol boundary (04 R128). -/
def rxStamp (f : RxFrame) (s : State) : Stamp := stampAdd f.stamp (-((portS s f.port.val).rxdly.toNat : Int))

def rxHeader (o : Front) (s : State) : List Byte :=
  leBytes 2 o.h.src.toNat ++
    [BitVec.ofNat 8 (o.f.port.val + 4 * ofBool o.f.ofdm + 8 * ofBool (decide (o.h.dst = bcast))), o.h.seq] ++
    leBytes 6 (ts48 (rxStamp o.f s)) ++ [o.f.lqi, 0, 0, 0, 0, 0]

/-- Received frames into the RX_POST descriptors in the order taken; a buffer outside the autonomous region is an error
of that descriptor (15 R505). The first argument bounds the frames and posts of one go. -/
def rxFill : Nat → State → State
  | 0, s => s
  | k + 1, s =>
    match s.hi.rxPosts, s.hi.rxWait with
    | p :: ps, w :: ws =>
      let s := { s with hi := { s.hi with rxPosts := ps } }
      if regionOk s p.addr (16 + w.body.length) then
        let s := hostWrite p.addr (w.header ++ w.body) { s with hi := { s.hi with rxWait := ws } }
        rxFill k (finish p.ring p.desc (resOk (16 + w.body.length)) (giveBuf false s))
      else rxFill k (withDst p.ring p.desc p.addr (16 + w.body.length) id s)
    | _, _ => s

def rxFillAll (s : State) : State := rxFill (s.hi.rxPosts.length + s.hi.rxWait.length) s

def rxDeliver (o : Front) (s : State) : State :=
  let w : RxWait := { header := rxHeader o s, body := o.body, src := o.h.src, at_ := s.now }
  rxFillAll { s with hi := { s.hi with rxWait := s.hi.rxWait ++ [w] } }

/-- RX_HOLD_EXPIRY (15 R501): the oldest frame that has waited RXHOLD ms is discarded. -/
def execRxHoldExpiry (s : State) : Out := run s fun s =>
  match s.hi.rxWait with
  | [] => s
  | w :: ws =>
    let s := giveBuf false { s with hi := { s.hi with rxWait := ws, rxdrop := inc32 s.hi.rxdrop } }
    if s.hi.rxOnce then s
    else raise 0x0D06 0xFF [(0, 4, s.hi.rxdrop.toNat), (4, 2, w.src.toNat)] { s with hi := { s.hi with rxOnce := true } }

/-! ### DATA (05 R169, 08 R264, R275, R276; 09 R312) -/

/-- A frame taken into a frame buffer, its successor expected, acknowledged, delivered (15 R500, R501). With no buffer
free the expected number stays (log entry 38). -/
def dataTake (o : Front) (advance : State → State) (s : State) : State :=
  if bufFree s false then
    let s := advance (takeBuf false s)
    rxDeliver o (if wantsAck o then pushAck o o.h.seq 0 s else s)
  else if wantsAck o then pushAck o o.h.seq 2 s
  else s

/-- Broadcast DATA at a leaf: E is taken from the first one and re-taken over a gap (08 R276). -/
def dataBroadcast (o : Front) (s : State) : State :=
  let next := fun (s : State) => { s with ltx := { s.ltx with bcE := some (o.h.seq + 1) } }
  match s.ltx.bcE with
  | none => dataTake o next s
  | some e =>
    let d := (o.h.seq - e).toNat
    if d < 128 then dataTake o next { s with lt := { s.lt with bcGap := s.lt.bcGap + BitVec.ofNat 32 d } } else s

/-- LT_TIPIN_DONE at the head (08 R264). -/
def confirmJoin (o : Front) (n : Nat) (s : State) : State :=
  let s := updEntry n (fun e => eSetDseqRx 1 (eSetState stActive e)) s
  let s := { s with lt := { s.lt with tip := s.lt.tip.filter (fun t => decide (t.1 ≠ n)), rekey := s.lt.rekey.filter (· ≠ n) } }
  let s := if wantsAck o then pushAck o o.h.seq 0 s else s
  raise 0x0402 0xFF [(0, 2, n), (2, 6, eUid (entryAt s n))] s

def onData (o : Front) (s : State) : State :=
  if o.h.dst = bcast then (if isLeaf s then dataBroadcast o s else s)
  else
    let n := if isLeaf s then 0 else o.h.src.toNat
    let e := eDseqRx (entryAt s n)
    let d := (o.h.seq - e).toNat
    let next := updEntry n (fun en => eSetDseqRx (e + 1) en)
    if isHead s && decide (eState (entryAt s n) = stTipping) then
      (if o.h.seq = 0 ∧ o.h.len = 0 then confirmJoin o n s else s)
    else if d = 0 then
      if isHead s && decide (o.h.len = 0) then next (if wantsAck o then pushAck o o.h.seq 0 s else s)
      else dataTake o next s
    else if 128 ≤ d then (if wantsAck o then pushAck o o.h.seq 0 s else s)
    else if wantsAck o then pushAck o e 3 s
    else s

/-! ### ACK (08 R273 to R275, R271; 09 R316) -/

/-- The over-budget flag of a sleepy leaf's ACK (09 R316). -/
def copyOver (o : Front) (s : State) : State :=
  let n := o.h.src.toNat
  let v := (o.body.getD 2 0).getLsbD 0
  if isHead s && decide (slMode s n ≠ 0) && decide (eOver (entryAt s n) ≠ v) then
    raise 0x0416 0xFF [(0, 2, n), (2, 1, ofBool v)] (updEntry n (fun e => set512 e 69 1 (ofBool v)) s)
  else s

/-- The confirmation is acknowledged: the leaf has joined (08 R263, Table 08.4). -/
def joinedNow (s : State) : State :=
  let s := { s with
    lt := { s.lt with jstate := 2 }
    ltx := { s.ltx with confirmWait := false, prevNum := s.ltx.myNum, tipWait := 0 } }
  raise 0x0402 0xFF [(0, 2, s.ltx.myNum.toNat), (2, 6, s.ltx.uid.toNat)] s

/-- OUT_OF_ORDER: the frame takes the receiver's E and is retried at once; the retry does not count (08 R275). -/
def renumber (f : TxFrame) (e : Byte) (s : State) : State :=
  let n := if isLeaf s then 0 else f.dst.toNat
  let s := if f.ty.toNat = tyRemote then updEntry n (eSetRseqTx (e + 1)) s else updEntry n (eSetDseqTx (e + 1)) s
  let s := updFrame f.id (fun g => { g with st := .queued, seq := some e, attempts := g.attempts - 1, folio := none }) s
  if isLeaf s then contend f.id s else s

/-- The attempt ended without success: the next one, or the frame is given up (08 R274). A confirmation is repeated
without that limit (R263). In TAMPER_LOCKED the frame ends TAMPER (19 R597). -/
def attemptOver (f : TxFrame) (s : State) : State :=
  if s.tmp.locked then failFrame f (resSt 0x12) 1 s else
  let confirm := isLeaf s && s.ltx.confirmWait && f.body.isEmpty && f.desc.isNone
  if retries s ≤ f.attempts && !confirm then giveUp f s
  else
    let s := requeue f.id s
    if isLeaf s then contend f.id s else s

def onAck (o : Front) (s : State) : State :=
  let st := leAt o.body 1 1
  let s := copyOver o s
  let c := leAt o.body 3 1
  let s := if o.rt.isNone ∧ (c ≠ 0 ∨ eRelayEn (entryAt s o.h.src.toNat)) then grantFrom o.h.src.toNat c s else s
  let seq := o.body.getD 0 0
  let mine := fun (f : TxFrame) => decide (f.st = .waiting) && decide (f.dst = o.h.src)
  match s.line.q.find? fun f => mine f && (decide (st = 3) || decide (f.seq = some seq)) with
  | none => s
  | some f =>
    if st = 0 then
      if f.ty.toNat = tyData then
        let s := { s with slp := { s.slp with kaQuires := 0 } }
        let s := cwSet f.dst 4 (endFrame f (finishOpt f.desc (resOk f.body.length) s))
        if isLeaf s && s.ltx.confirmWait then joinedNow s else s
      else s
    else if st = 3 then renumber f seq s
    else
      let f := { f with lastStatus := BitVec.ofNat 8 st }
      attemptOver f (updFrame f.id (fun g => { g with lastStatus := BitVec.ofNat 8 st }) s)

/-- RESPONSE_TIMEOUT (08 R274): the wait of an attempt ends. -/
def execResponseTimeout (id : Nat) (s : State) : Out := run s fun s =>
  match frameAt s id with
  | none => s
  | some f => if f.st = .waiting then attemptOver f s else s

/-! ### Tip-in (08 R261 to R264) -/

/-- The lowest FREE number, or the one asked for when it is FREE (08 Table 08.3). -/
def freeNumber (s : State) (want : Nat) : Option Nat :=
  if 1 ≤ want ∧ want ≤ 0xFFE ∧ eState (entryAt s want) = stFree then some want else lowestFree s 4094 1

def onJoinReq (o : Front) (s : State) : State :=
  let uid := leAt o.body 0 6
  let caps := leAt o.body 6 1 % 8
  let want := leAt o.body 8 2 % 4096
  let ports := if o.f.ports = 0 then portMask [o.f.port.val] else o.f.ports
  let held := fun (n : Nat) (s : State) => updUse n (fun u => { u with heldJoin := some (BitVec.ofNat 40 o.inv) }) s
  let enter := fun (n : Nat) (kdk : BitVec 256) (s : State) =>
    sendJoinResp uid n 0 (held n (joinEntry n uid (some caps) (some ports) kdk s))
  let st := (entryOfUid s uid).map fun n => eState (entryAt s n)
  if st = some stBlocked then sendJoinResp uid 0 2 s
  else
    match s.cx.kdk with
    | none => sendJoinResp uid 0 3 s
    | some kdk =>
      match entryOfUid s uid with
      | some n => if st = some stTipping then sendJoinResp uid n 0 s else enter n kdk s
      | none =>
        match joinMode s with
        | 0 => sendJoinResp uid 0 2 s
        | 1 => sendJoinResp uid 0 3 (raise 0x0401 0xFF
            [(0, 6, uid), (6, 1, leAt o.body 6 1), (7, 1, leAt o.body 7 1), (8, 2, want), (10, 1, ports.toNat)] s)
        | _ =>
          match freeNumber s want with
          | some n => enter n kdk s
          | none => sendJoinResp uid 0 1 s

/-- The leaf key of the JOIN_RESP is already installed: a repeat changes nothing but the confirmation (log entry 39). -/
def alreadyInstalled (o : Front) (s : State) : Bool :=
  match pinnedSlot s with
  | some i =>
    let (g, z, k) := keyAt o.body 9
    decide ((slotAt s i).gen.toNat = g) && decide ((slotAt s i).size = z) && decide ((slotAt s i).key = k)
  | none => false

def onJoinResp (o : Front) (s : State) : State :=
  if isHead s || decide (leAt o.body 0 6 ≠ s.ltx.uid.toNat) || decide (s.lt.jstate = 0) then s
  else
    match leAt o.body 8 1 with
    | 0 =>
      if alreadyInstalled o s then s
      else installJoin o.f.port.val (leAt o.body 6 2 % 4096) o.body { s with lt := { s.lt with jstate := 1 } }
    | 3 => { s with ltx := { s.ltx with tipWait := 0 } }
    | r =>
      if s.lt.jstate ≠ 1 then s else
      raise 0x0404 0xFF [(0, 1, r)] (dropJoinFrames { s with
        lt := { s.lt with jstate := 0 }
        ltx := { s.ltx with tipWait := 0, confirmWait := false } })

/-! ### Relaying (08 R268, R271) -/

/-- A frame on which this relay is the next actor is buffered, or dropped and counted. -/
def onRelay (o : Front) (s : State) : State :=
  match o.rt with
  | none => s
  | some r =>
    let prev := prevActor r o.hops o.h.src
    let s := noteGrant o (countOk o.f s)
    if bufFree s false then
      let s := takeBuf false s
      let hop := nextActor { r with idx := r.idx + 1 } o.hops o.h.dst
      let f := { txNew o.h.ty o.h.dst [] s with src := o.h.src, raw := some o.f.bytes, route := some r, hop := hop, buffer := true }
      contend f.id (submit f s)
    else
      let s := { s with lt := { s.lt with rlyDrop := inc32 s.lt.rlyDrop } }
      if s.ltx.rlyOnce then s
      else raise 0x040B o.f.port.val [(0, 4, s.lt.rlyDrop.toNat), (4, 2, prev.toNat)] { s with ltx := { s.ltx with rlyOnce := true } }

/-- Mode and ports of a forwarded frame: the entry of the next actor, entry 0x000 toward the head, RBM_DCFG on every
enabled port when that entry is FREE (08 R268). -/
def relayMode (hop : BitVec 12) (n : Nat) (s : State) : Mode × BitVec 3 :=
  let e := entryAt s hop.toNat
  if hop ≠ 0 ∧ eState e = stFree then (.robust (dcfg s), allPorts)
  else
    let o := Mode.ofdm (eSlot e) (min 2 (eRate e))
    if eUseOfdm e && fitsNominal s (quireF s) (geomBase (actGeom s)) (airtimeOf s (effMode s o) n) then (o, ePorts e)
    else (.robust (eRcfg e), ePorts e)

/-- RELAY_FORWARD (08 R268, 05 R171): a buffered frame goes on with IDX one higher and its grant. One that fits no folio, or
whose ports are all down, is discarded (07 R246, 08 R266). -/
def execRelayForward (id : Nat) (s : State) : Out := run s fun s =>
  match frameAt s id with
  | none => s
  | some f =>
    match f.raw, f.route with
    | some bs, some r =>
      let n := bs.length
      let (raw, ps) := relayMode f.hop n s
      let m := effMode s raw
      let ports := usePorts s m ps
      let l := airtimeOf s m n
      let start := startOn s ports
      let relayHop := decide (f.hop ≠ f.dst)
      let robust := match m with
        | .robust _ => true
        | .ofdm _ _ => false
      let open_ := (portList ports).all fun p => (decide (roleNow s p = rUp) && appointed s p) ||
        (decide (roleNow s p = rContention) && decide (f.folio = some 0))
      let k := (portList ports).length * (if isPair m then 2 else 1)
      let bandC := (bandsOf s m).contains 1
      let cBlocked := if bandC then (portList ports).filter fun x => !cMay s x start l else []
      let p : Plan := { mode := m, ports := ports, air := l, start := start, bytes := n }
      if inFlight f || !lineOpen s then s
      else if !fitsNominal s (quireF s) (geomBase (actGeom s)) l || (portList ps).all (fun p => !portUsable s p) then endFrame f s
      else if robust && s.rbm.bad then s
      else if decide (ports = 0) || !qrRunning s || !open_ || (isPair m && !secondOpen s ports) || decide (s.now + ticksToEnd s < start + ticksUs l) ||
          (relayHop && decide (creditOf s f.hop.toNat = 0)) then s
      else if !cBlocked.isEmpty then holdFrame f.id m ports (cWithhold cBlocked false s)
      else if blockedBehind s f p || !((bandsOf s m).all fun b => covers (bandAt s b) (k * l)) then holdFrame f.id m ports s
      else
        let cost := costVec (bandsOf s m) (k * l)
        let s := takeBands false cost s
        let s := if bandC then cRun (portList ports) start s else s
        let s := if relayHop then useCredit f.hop.toNat s else s
        let (g, s) := grantNow s
        let (_, s) := latchSlot raw f.hop.toNat s
        airSettle (updFrame id (fun x => { x with
          st := .committed
          mode := m
          ports := ports
          airtime := l
          cost := cost
          credit := relayHop
          start := start
          endAt := start + ticksUs l
          quire := s.qr.qnum
          built := relayRebuild bs (r.idx + 1) g }) s)
    | _, _ => s

end Sys2Proof.Machine
end

