-- ==== Sys2Proof/Machine/Rg.lean ====
section
/-! DEFINITION. The reference generators (11): channels and their steps, compares, the NCO and its retunes, timing sets,
outputs, timecode and the clock-face telegram. -/
namespace Sys2Proof.Machine

/-! ### Parts of a channel -/

def chAt (s : State) (c : Fin 8) : RgCh := s.rg.ch[c.val]
def chX (s : State) (c : Fin 8) : RgX := s.rg.x[c.val]
def updCh (c : Fin 8) (f : RgCh → RgCh) (s : State) : State := { s with rg := { s.rg with ch := upd s.rg.ch c f } }
def updChX (c : Fin 8) (f : RgX → RgX) (s : State) : State := { s with rg := { s.rg with x := upd s.rg.x c f } }

def chMode (h : RgCh) : Nat := fld h.ctrl 4 2
def chStart (h : RgCh) : Nat := fld h.ctrl 8 2
def chEntry (h : RgCh) : Nat := fld h.ctrl 16 8
def chTelock (h : RgCh) : Bool := bitAt h.ctrl 29

def allCh : List (Fin 8) := List.finRange 8

/-- A step of a channel and its fields (11 Table 11.1). -/
def stepAt (h : RgCh) (n : Nat) : BitVec 64 := spGet 0 h.steps (n % 256)
def sFld (w : BitVec 64) (lo len : Nat) : Nat := (w.toNat >>> lo) % 2 ^ len
def sCond (w : BitVec 64) : Nat := sFld w 60 4
def sArg (w : BitVec 64) : Nat := sFld w 56 4
def sCpol (w : BitVec 64) : Bool := w.getLsbD 55
def sWait (w : BitVec 64) : Bool := w.getLsbD 54
def sTset (w : BitVec 64) : BitVec 2 := BitVec.ofNat 2 (sFld w 52 2)
def sRetune (w : BitVec 64) : Bool := w.getLsbD 51
def sEvt (w : BitVec 64) : Bool := w.getLsbD 50
def sTarget (w : BitVec 64) : Nat := sFld w 42 8
def sCount (w : BitVec 64) : Nat := sFld w 30 12
def sLen (w : BitVec 64) : Nat := sFld w 19 11
def sFirst (w : BitVec 64) : Nat := sFld w 8 11
def sSig (w : BitVec 64) : Nat := sFld w 0 8

/-- Sample i of a signature (11 R364). -/
def sampleOf (s : State) (sig i : Nat) : BitVec 16 := BitVec.ofNat 16 (ofLe (spGetBytes s.rg.sig (4096 * sig + 2 * i) 2))

/-- The steps that may follow step n (11 R365). -/
def successors (h : RgCh) (n : Nat) : List Nat :=
  let w := stepAt h n
  (if sCond w = 1 ∨ sCond w = 8 then [] else [(n + 1) % 256]) ++ (if sCond w = 0 ∨ sCond w = 8 then [] else [sTarget w])

/-- The signatures that step n marks as active (11 R365). -/
def marksOf (h : RgCh) (n : Nat) : List Nat := sSig (stepAt h n) :: (successors h n).map fun k => sSig (stepAt h k)

/-! ### Rates (10 R323, R324; 11 R379) -/

/-- 200 ppm and 10 ppm in units of 2^-48, and what 10 ppm moves the time of day by in a tick, in 2^-48 ns. -/
def ppm200 : Int := 56294995342
def ppm10 : Int := 2814749767
def slewShare : Nat := 7036874417

/-- The slew offset in force: 10 ppm until the correction has been consumed. -/
def slewRate (s : State) : Int :=
  if s.te.slew > slewShare then ppm10 else if s.te.slew < -(slewShare : Int) then -ppm10 else 0

/-- S with the slew offset, clipped to 200 ppm. -/
def teRate (s : State) : Int :=
  let r := s.te.s.toInt + slewRate s
  if r > ppm200 then ppm200 else if r < -ppm200 then -ppm200 else r

def ftwEff (s : State) (h : RgCh) : Nat :=
  if chTelock h then ((h.ftwNow.toNat : Int) * (281474976710656 + teRate s) / 281474976710656).toNat else h.ftwNow.toNat

/-! ### Generator time (12 R398) and labels (10 R355, R356) -/

/-- Generator time in 1/256 ns. -/
def genTime (s : State) : Int := (stamp256 (todNow s) : Int) - s.aln.gofs.toInt

def sec256 : Int := 256000000000

def s16 (w : Word) : Int := (w.setWidth 16).toInt

/-- Second of the day of a TAI second's label, and LEAP_HOLD (10 R355). -/
def labelSec (s : State) (sec : Int) : Nat × Bool :=
  let hold := s.te.leap && decide (sec = s.te.leapAt.toNat)
  let zone := (BitVec.ofNat 8 (fld s.te.tc 16 8)).toInt
  (((if hold then sec - 1 else sec) - s16 s.te.utc + 900 * zone).emod 86400 |>.toNat, hold)

/-- A timecode label: hours, minutes, seconds, frame, LEAP_HOLD. -/
structure Label where
  h : Nat
  m : Nat
  sec : Nat
  f : Nat
  hold : Bool
  deriving DecidableEq, Repr

def labelOf (day f : Nat) (hold : Bool) : Label :=
  { h := day / 3600, m := day / 60 % 60, sec := day % 60, f := f, hold := hold }

/-- Drop-frame numbering: two frames dropped each minute but each tenth (PRESUMED: SMPTE ST 12-1, log entry 40). -/
def dfNumber (day : Nat) : Nat := 30 * day - 2 * (day / 60 - day / 600)
def dfLabel (n : Nat) : Label :=
  let n := n % 2589408
  let r := n % 17982
  let k := n + 18 * (n / 17982) + (if 2 ≤ r then 2 * ((r - 2) / 1798) else 0)
  labelOf (k / 30) (k % 30) false

/-- The frame whose boundary lies nearest to now (10 R355, R356). -/
def labelNow (s : State) : Label :=
  let g := genTime s
  let whole := fun (fps : Int) =>
    let sec := g / sec256
    let f := ((g - sec * sec256) * fps + sec256 / 2) / sec256
    let (sec, f) := if f = fps then (sec + 1, 0) else (sec, f)
    let (d, hold) := labelSec s sec
    labelOf d f.toNat hold
  match fld s.te.tc 0 2 with
  | 0 => whole 24
  | 1 => whole 25
  | 2 => whole 30
  | _ =>
    let e : Int := s.te.tcEpoch.toNat
    let e := if e * sec256 ≤ g then e else s.tex.tcActive.toNat
    let n := ((g - e * sec256) * 30000 + 1001 * sec256 / 2) / (1001 * sec256)
    dfLabel (dfNumber (labelSec s e).1 + n.toNat)

def bcd (n : Nat) : Nat := n % 10 + 16 * (n / 10)

/-- The 80 bits of an LTC frame, bit 0 first (11 R389; the places of the fields are those of SMPTE ST 12-1, PRESUMED, log
entry 40). -/
def ltcFrame (ltc ub : Word) (rate : Nat) (l : Label) : BitVec 80 :=
  let grp := fun g => if g = 8 ∧ l.hold ∧ bitAt ltc 0 then 15 else fld ub (4 * (g - 1)) 4
  let bgf := fun k => fld ltc (8 + k) 1
  let n := (l.f % 10) <<< 0 ||| grp 1 <<< 4 ||| (l.f / 10) <<< 8 ||| ofBool (decide (rate = 3)) <<< 10 ||| fld ltc 4 1 <<< 11 |||
    grp 2 <<< 12 ||| (l.sec % 10) <<< 16 ||| grp 3 <<< 20 ||| (l.sec / 10) <<< 24 ||| grp 4 <<< 28 ||| (l.m % 10) <<< 32 |||
    grp 5 <<< 36 ||| (l.m / 10) <<< 40 ||| grp 6 <<< 44 ||| (l.h % 10) <<< 48 ||| grp 7 <<< 52 ||| (l.h / 10) <<< 56 |||
    bgf 1 <<< 58 ||| grp 8 <<< 60 ||| 0xBFFC <<< 64
  let n := if rate = 1 then n ||| bgf 0 <<< 27 ||| bgf 2 <<< 43 else n ||| bgf 0 <<< 43 ||| bgf 2 <<< 59
  let ones := ((List.range 80).filter fun i => n.testBit i).length
  BitVec.ofNat 80 (n ||| (ones % 2) <<< (if rate = 1 then 59 else 27))

/-! ### Refusals (11 R397) -/

def rgRefuse (c cause off : Nat) (v : Word) (s : State) : State :=
  raise 0x060C c (refusedPay cause off v)
    { s with rg := { s.rg with refused := true, cause := BitVec.ofNat 3 cause, chn := BitVec.ofNat 3 c } }

def chOff (c : Fin 8) (off : Nat) : Nat := 0x6400 + 0x100 * c.val + off

/-! ### Retunes (11 R381) -/

/-- A retune on its apply tick: the accumulator adds the phase step and goes on with the new word; its descriptor is
done. -/
def applyRetune (c : Fin 8) (t : Retune) (s : State) : State :=
  let s := updCh c (fun h => { h with nco := h.nco + t.phi, ftwNow := if t.ftw = 0 then h.ftwNow else t.ftw, retune := none }) s
  finish t.desc.1 t.desc.2 (resOk 0) s

/-! ### Steps -/

/-- Raises RG_STEP_EVENT, at most once a millisecond (11 Table 11.4). -/
def stepEvent (c : Fin 8) (n : Nat) (s : State) : State :=
  let s := updChX c (fun x => { x with evtCount := x.evtCount + 1 }) s
  let due := match (chX s c).evtAt with
    | some t => decide (t + ticksMs 1 ≤ s.now)
    | none => true
  if due then
    let k := (chX s c).evtCount
    raise 0x0605 c.val [(0, 1, n), (4, 4, k)] (updChX c (fun x => { x with evtCount := 0, evtAt := some s.now }) s)
  else s

/-- The first claimed signature among those a step start would mark (11 R367). -/
def claimedOf (s : State) (sigs : List Nat) : Option Nat := sigs.find? fun g => s.rg.claims.any fun k => decide (k.2.2.1 = g)

/-- A step start (11 R371, R367, R384): the race check, the marks, the timing set, the retune, the event, the first
sample. -/
def beginStep (c : Fin 8) (n : Nat) (taken : Bool) (s : State) : State :=
  let h := chAt s c
  let w := stepAt h n
  match claimedOf s (marksOf h n) with
  | some g =>
    let s := updChX c (fun x => { x with activeSig := [], next := none, stopReq := false }) (updCh c (fun h => { h with st := .halted }) s)
    raise 0x0604 c.val [(0, 1, n), (1, 1, g)] s
  | none =>
    let s := updCh c (fun h => { h with step := BitVec.ofNat 8 n, tset := if taken then h.tset else sTset w }) s
    let s := updChX c (fun x => { x with
      activeSig := marksOf h n
      taken := taken
      tsetWait := if taken then some (sTset w) else none
      next := none
      pos := 0
      reps := 0
      out := sampleOf s (sSig w) (sFirst w) }) s
    let s := match (chAt s c).retune with
      | some t => if sRetune w && decide (t.when_ = 1) then applyRetune c t s else s
      | none => s
    if sEvt w then stepEvent c n s else s

/-- The timing set of a step entered by a taken branch, one sample clock late. -/
def settleTset (c : Fin 8) (s : State) : State :=
  match (chX s c).tsetWait with
  | some t => updChX c (fun x => { x with tsetWait := none }) (updCh c (fun h => { h with tset := t }) s)
  | none => s

/-- One sample clock of a step in play. -/
def sampleClock (c : Fin 8) (s : State) : State :=
  let s := settleTset c s
  let h := chAt s c
  let x := chX s c
  let w := stepAt h h.step.toNat
  if x.next.isSome then s
  else if x.pos < sLen w then
    updChX c (fun y => { y with pos := y.pos + 1, out := sampleOf s (sSig w) (sFirst w + y.pos + 1) }) s
  else if sWait w ∨ x.reps < sCount w then
    updChX c (fun y => { y with pos := 0, reps := y.reps + 1, out := sampleOf s (sSig w) (sFirst w) }) s
  else s

/-- RG_STARTED (11 Table 11.4). -/
def startedEvent (c : Fin 8) (s : State) : State :=
  let h := chAt s c
  raise 0x0601 c.val [(0, 1, chMode h), (1, 1, chStart h), (2, 1, chEntry h)] s

/-- The start instant of an ARMED channel (11 R362). An LTC channel begins with its first frame instead (R389). -/
def startChannel (c : Fin 8) (s : State) : State :=
  let h := chAt s c
  if h.st ≠ .armed then s
  else match chMode h with
  | 0 =>
    if (claimedOf s (marksOf h (chEntry h))).isSome then beginStep c (chEntry h) false s
    else
      let s := updCh c (fun h => { h with st := .running, nco := 0, ftwNow := h.ftw }) s
      let s := updChX c (fun x => { x with
        cnt := Vector.ofFn fun k : Fin 4 => h.cntld[k.val].setWidth 16
        pinL := 0
        maL := 0
        todL := 0
        ppsL := false }) s
      beginStep c (chEntry h) false (startedEvent c s)
  | 1 => s
  | _ =>
    let s := updCh c (fun h => { h with st := .running, nco := 0, ftwNow := h.ftw }) s
    let s := updChX c (fun x => { x with frame := none, ltcHeard := true, out := if chMode h = 3 then x.out ||| 1 else x.out }) s
    startedEvent c s

/-- The channel stops and its outputs hold (11 R363). -/
def stopChannel (c : Fin 8) (s : State) : State :=
  let n := (chAt s c).step.toNat
  let s := updCh c (fun h => { h with st := .stopped }) s
  let s := updChX c (fun x => { x with stopReq := false, activeSig := [], next := none, frame := none, tsetWait := none }) s
  raise 0x0602 c.val [(0, 1, n)] s

/-- An evaluation of a step's condition (11 R374): a latch or flag read as 1 is cleared, a counter counts. -/
def evalCond (c : Fin 8) (w : BitVec 64) (s : State) : Bool × State :=
  let x := chX s c
  let k := sArg w
  match sCond w with
  | 1 => (true, s)
  | 2 => (x.pinL.getLsbD k, updChX c (fun x => { x with pinL := x.pinL &&& ~~~(BitVec.ofNat 16 (2 ^ k)) }) s)
  | 3 =>
    let v := vget x.cnt k 0
    if v = 0 then (false, updChX c (fun x => { x with cnt := vupd x.cnt k fun _ => (vget (chAt s c).cntld k 0).setWidth 16 }) s)
    else (true, updChX c (fun x => { x with cnt := vupd x.cnt k fun v => v - 1 }) s)
  | 4 => (x.maL.getLsbD k, updChX c (fun x => { x with maL := x.maL &&& ~~~(BitVec.ofNat 2 (2 ^ k)) }) s)
  | 5 => (x.todL.getLsbD k, updChX c (fun x => { x with todL := x.todL &&& ~~~(BitVec.ofNat 2 (2 ^ k)) }) s)
  | 6 => (x.ppsL, updChX c (fun x => { x with ppsL := false }) s)
  | 7 => (x.flags.getLsbD k, updChX c (fun x => { x with flags := x.flags &&& ~~~(BitVec.ofNat 4 (2 ^ k)) }) s)
  | _ => (false, s)

/-- The last sample of the step in play. -/
def lastSample (c : Fin 8) (w : BitVec 64) (s : State) : State :=
  settleTset c (updChX c (fun x => { x with pos := sLen w, reps := sCount w, out := sampleOf s (sSig w) (sFirst w + sLen w) }) s)

/-- The step ends and leads to another, by a taken branch or by fall-through; a requested stop comes before the seam
(11 R363). -/
def leadTo (c : Fin 8) (n : Nat) (taken : Bool) (s : State) : State :=
  if (chX s c).stopReq then stopChannel c s
  else updChX c (fun x => { x with next := some (BitVec.ofNat 8 n), taken := taken }) s

/-- A step's end (11 R371, R372). A WAIT step ends once its condition is true, at the sample then in play. -/
def endStep (c : Fin 8) (s : State) : State :=
  let n := (chAt s c).step.toNat
  let w := stepAt (chAt s c) n
  if sCond w = 8 then
    let s := lastSample c w s
    let s := updChX c (fun x => { x with activeSig := [], stopReq := false }) (updCh c (fun h => { h with st := .halted }) s)
    raise 0x0603 c.val [(0, 1, n)] s
  else if sWait w then
    (match evalCond c w s with
     | (true, s) => leadTo c (sTarget w) true (settleTset c s)
     | (false, s) => s)
  else
    match evalCond c w (lastSample c w s) with
    | (b, s) => if (b ^^ sCpol w) then leadTo c (sTarget w) true s else leadTo c ((n + 1) % 256) false s

/-! ### Compares (11 R375 to R378) -/

/-- The scheduler's position: quire, cycle, angle (11 R375). -/
def maPos (s : State) : Nat × Nat × Nat :=
  let q := s.qr.qnum.toNat
  if s.qr.slipping then ((s.qrx.realignQ.getD s.qr.qnum - 1).toNat, quireQ s - 1, 4294967295)
  else match s.qrx.fwQuire with
    | some t0 =>
      let p := s.qr.fwPeriod.toNat
      (q, s.qr.cycle, if p = 0 then 0 else (nowNs s - (t0 + s.qr.cycle * p)) * 4294967296 / p)
    | none => (q, s.qr.cycle, (refAngle s).toNat)

def maCfg (h : RgCh) (k : Nat) : Word := vget h.maCfg k 0
def maQen (h : RgCh) (k : Nat) : Bool := bitAt (maCfg h k) 9
def maCen (h : RgCh) (k : Nat) : Bool := bitAt (maCfg h k) 8

/-- The position has reached (q, c, A); disabled fields match any value. -/
def maReached (s : State) (h : RgCh) (k : Nat) : Bool :=
  let (q, c, a) := maPos s
  let tq := (vget h.maQ k 0).toNat
  let tc := fld (maCfg h k) 0 5
  let ta := (vget h.maAng k 0).toNat
  let d := (BitVec.ofNat 32 q - BitVec.ofNat 32 tq).toNat
  if d = 0 then
    (if maCen h k then decide (tc < c) || (decide (c = tc) && decide (ta ≤ a)) else decide (0 < c) || decide (ta ≤ a))
  else decide (d < 2147483648)

/-- When an armed mains-angle compare may fire (11 R376), as far as quire and cycle go; the instant is the sender's. -/
def maMayFire (s : State) (h : RgCh) (k : Nat) : Bool :=
  let (q, c, _) := maPos s
  let d := (BitVec.ofNat 32 q - vget h.maQ k 0).toNat
  let tc := fld (maCfg h k) 0 5
  if maQen h k || maCen h k then
    (decide (s.qr.st = .mains) || decide (s.qr.st = .flywheel)) &&
      (!maQen h k || (decide (d < 2147483648) && (decide (d ≠ 0) || !maCen h k || decide (tc ≤ c)))) &&
      (maQen h k || decide (c = tc))
  else refValid s

def todValue (h : RgCh) (k : Nat) : Int := (((vget h.todSec k 0).toNat : Int) * 1000000000 + (vget h.todNs k 0).toNat) * 256

/-- Compare k fires: a retune that waits for it applies and sets no latch; else the latch sets; a channel that waits for
its compare 0 starts (11 R362, R374, R381). -/
def fireMa (c : Fin 8) (k : Nat) (s : State) : State :=
  let h := chAt s c
  let s := if maQen h k then updChX c (fun x => { x with maArm := x.maArm &&& ~~~(BitVec.ofNat 2 (2 ^ k)) }) s else s
  let s := match h.retune with
    | some t => if t.when_ = 2 + k then applyRetune c t s else updChX c (fun x => { x with maL := x.maL ||| BitVec.ofNat 2 (2 ^ k) }) s
    | none => updChX c (fun x => { x with maL := x.maL ||| BitVec.ofNat 2 (2 ^ k) }) s
  if k = 0 ∧ chStart h = 3 then startChannel c s else s

def fireTod (c : Fin 8) (k : Nat) (s : State) : State :=
  let h := chAt s c
  let s := updChX c (fun x => { x with todArm := x.todArm &&& ~~~(BitVec.ofNat 2 (2 ^ k)) }) s
  let s := match h.retune with
    | some t => if t.when_ = 4 + k then applyRetune c t s else updChX c (fun x => { x with todL := x.todL ||| BitVec.ofNat 2 (2 ^ k) }) s
    | none => updChX c (fun x => { x with todL := x.todL ||| BitVec.ofNat 2 (2 ^ k) }) s
  if k = 0 ∧ chStart h = 2 then startChannel c s else s

def cmpLate (c : Fin 8) (which : Nat) (s : State) : State := raise 0x0606 c.val [(0, 1, which)] s

/-- RGn_MAk_CFG: ARM is W1S. -/
def maCfgWrite (c : Fin 8) (k : Fin 2) (v : Word) (s : State) : State :=
  let s := updCh c (fun h => { h with maCfg := upd h.maCfg k fun _ => v &&& 0x31F }) s
  if bitAt v 31 then
    let s := updChX c (fun x => { x with maArm := x.maArm ||| BitVec.ofNat 2 (2 ^ k.val) }) s
    let h := chAt s c
    if maQen h k.val && (decide (s.qr.st = .mains) || decide (s.qr.st = .flywheel)) && maReached s h k.val then
      cmpLate c k.val (fireMa c k.val s)
    else s
  else s

/-- RGn_TODk_SEC_HI, with the _LO half held for the agent: ARM is W1S. -/
def todSecHiWrite (a : Agent) (c : Fin 8) (k : Fin 2) (v : Word) (s : State) : State :=
  let (lo, s) := takeLo a false (chOff c (0x50 + 0x10 * k.val)) ((chAt s c).todSec[k.val].setWidth 32) s
  let s := updCh c (fun h => { h with todSec := upd h.todSec k fun _ => BitVec.ofNat 48 (lo.toNat + 4294967296 * fld v 0 16) }) s
  if bitAt v 31 then
    let s := updChX c (fun x => { x with todArm := x.todArm ||| BitVec.ofNat 2 (2 ^ k.val) }) s
    if todValue (chAt s c) k.val ≤ genTime s then cmpLate c (2 + k.val) (fireTod c k.val s) else s
  else s

/-- Every armed TOD compare whose value a jump of generator time passes fires (11 R377). -/
def todPassed (before : Int) (s : State) : State :=
  allCh.foldl (fun s c => [0, 1].foldl (fun s k =>
    if (chX s c).todArm.getLsbD k && decide (before < todValue (chAt s c) k) && decide (todValue (chAt s c) k ≤ genTime s) then
      fireTod c k s
    else s) s) s

/-! ### 1PPS, cuts and offsets -/

/-- A 1PPS at the generators (11 R362, R374). -/
def rgPps (s : State) : State :=
  allCh.foldl (fun s c =>
    let h := chAt s c
    if h.st = .armed ∧ chStart h = 1 then startChannel c s
    else updChX c (fun x => { x with ppsL := true }) s) s

/-- LTC frames in progress are cut (11, the time engine is applied or stepped): cause 1 apply, 2 step, 3 GOFS. -/
def ltcCut (c : Fin 8) (cause : Nat) (s : State) : State :=
  if (chAt s c).st = .running ∧ (chX s c).frame.isSome then
    raise 0x060B c.val [(0, 1, cause)] (updChX c (fun x => { x with frame := none }) s)
  else s

def ltcCutAll (cause : Nat) (s : State) : State :=
  allCh.foldl (fun s c => if chMode (chAt s c) = 1 then ltcCut c cause s else s) s

/-- Half a bit of the frame in progress, in 1/256 ns (12 R399). -/
def halfBit (s : State) (h : RgCh) : Nat :=
  if chMode h = 1 then
    (match fld s.te.tc 0 2 with
     | 0 => 256000000000 / 3840
     | 1 => 256000000000 / 4000
     | 2 => 256000000000 / 4800
     | _ => 256000000000 * 1001 / 4800000)
  else if ftwEff s h = 0 then 0 else 256000000000 * 281474976710656 / (2 * 297000000 * ftwEff s h)

/-- The phase step of a TELOCK channel for a GOFS change of d (12 R399). -/
def gofsPhase (s : State) (h : RgCh) (d : Int) : BitVec 48 :=
  BitVec.ofInt 48 (-(roundDiv (d * 297 * (ftwEff s h : Int)) 256000))

/-- GOFS becomes v (12 R399). -/
def gofsChange (v : Word) (s : State) : State :=
  let d := v.toInt - s.aln.gofs.toInt
  let before := genTime s
  let s := { s with aln := { s.aln with gofs := v } }
  let s := allCh.foldl (fun s c =>
    let h := chAt s c
    if chMode h = 0 then
      (if chTelock h && (decide (h.st = .running) || decide (h.st = .armed)) then
        updCh c (fun h => { h with nco := h.nco + gofsPhase s h d }) s
       else s)
    else if (chMode h = 1 ∨ chMode h = 3) ∧ halfBit s h < d.natAbs then ltcCut c 3 s
    else s) s
  todPassed before s

/-! ### Registers -/

/-- RGn_CTRL (11 R361 to R363): a write that changes MODE, START or ENTRY of a channel that is not STOPPED is refused. -/
def rgCtrlWrite (c : Fin 8) (v : Word) (s : State) : State :=
  let h := chAt s c
  let v := v &&& 0xE0FF0330
  if h.st ≠ .stopped ∧ (h.ctrl ^^^ v) &&& 0x00FF0330 ≠ 0 then rgRefuse c.val 1 (chOff c 0) v s
  else
    let arming := bitAt v 31 && (decide (h.st = .stopped) || decide (h.st = .halted))
    let m := fld v 4 2
    if arming ∧ (m = 0 ∨ m = 3) ∧ (h.ftw = 0 ∨ 140737488355328 < h.ftw.toNat) then rgRefuse c.val 5 (chOff c 0) v s
    else
      let s := updCh c (fun h => { h with ctrl := v }) s
      if arming then
        let s := updCh c (fun h => { h with st := .armed }) s
        updChX c (fun x => { x with stopReq := false, next := none,
                                    activeSig := if m = 0 then marksOf (chAt s c) (fld v 16 8) else [] }) s
      else if bitAt v 31 then s
      else match h.st with
        | .stopped => s
        | .running => updChX c (fun x => { x with stopReq := true }) s
        | _ => stopChannel c s

/-- RGn_FTW_HI with the _LO half held for the agent (11 R361). -/
def ftwHiWrite (a : Agent) (c : Fin 8) (v : Word) (s : State) : State :=
  let (lo, s) := takeLo a false (chOff c 8) ((chAt s c).ftw.setWidth 32) s
  if (chAt s c).st ≠ .stopped then rgRefuse c.val 1 (chOff c 0x0C) v s
  else updCh c (fun h => { h with ftw := BitVec.ofNat 48 (lo.toNat + 4294967296 * fld v 0 16) }) s

def seqAddrWrite (c : Fin 8) (v : Word) (s : State) : State :=
  updCh c (fun h => { h with seqAddr := v &&& 0xFF, seqHi := false }) s

/-- RGn_SEQ_ADDR advances after each high-word access; the next one is a low word. -/
def seqAdvance (c : Fin 8) (s : State) : State :=
  updCh c (fun h => { h with seqAddr := (h.seqAddr + 1) &&& 0xFF, seqHi := false }) s

/-- Why a step is invalid (11 R370). -/
def stepBad (w : BitVec 64) : Bool :=
  let k := sCond w
  decide (9 ≤ k) || ((decide (k = 3) || decide (k = 7)) && decide (4 ≤ sArg w)) ||
    ((decide (k = 4) || decide (k = 5)) && decide (2 ≤ sArg w)) || decide (2047 < sFirst w + sLen w) ||
    (sWait w && (decide (k = 3) || decide (k = 0) || decide (k = 1) || decide (k = 8))) || (sWait w && sCpol w)

/-- A step in use: the current one of a RUNNING or ARMED channel, or one of its possible successors (11 R370). -/
def stepUsed (h : RgCh) (n : Nat) : Bool :=
  let cur := if h.st = .armed then chEntry h else h.step.toNat
  (decide (h.st = .running) || decide (h.st = .armed)) && decide (chMode h = 0) && (decide (n = cur) || (successors h cur).contains n)

/-- A write of the high word: the step is stored, or refused (11 R369, R370). -/
def seqHighWrite (c : Fin 8) (v : Word) (s : State) : State :=
  let h := chAt s c
  let n := fld h.seqAddr 0 8
  let w : BitVec 64 := v ++ h.seqLow
  let s :=
    if stepBad w then rgRefuse c.val 2 (chOff c 0x14) v s
    else if stepUsed h n then rgRefuse c.val 3 (chOff c 0x14) v s
    else updCh c (fun h => { h with steps := spPut 0 n w h.steps }) s
  seqAdvance c s

def seqDataWrite (c : Fin 8) (v : Word) (s : State) : State :=
  if (chAt s c).seqHi then seqHighWrite c v s else updCh c (fun h => { h with seqLow := v, seqHi := true }) s

def seqDataRead (c : Fin 8) (s : State) : Word × State :=
  let h := chAt s c
  let w := stepAt h (fld h.seqAddr 0 8)
  if h.seqHi then ((w >>> 32).setWidth 32, seqAdvance c s) else (w.setWidth 32, updCh c (fun h => { h with seqHi := true }) s)

/-- RGn_TSt_w: refused for the set in force of a RUNNING channel (11 R383). -/
def tsetWrite (c : Fin 8) (t w : Fin 4) (v : Word) (s : State) : State :=
  let h := chAt s c
  if h.st = .running ∧ h.tset.toNat = t.val then rgRefuse c.val 4 (chOff c (0x80 + 0x10 * t.val + 4 * w.val)) v s
  else updCh c (fun h => { h with ts := vupd h.ts (4 * t.val + w.val) fun _ => v &&& 0x7F7F7F7F }) s

/-- RGC_CTRL: VCLR ends a VDAC fault whose condition is over (11 R387). -/
def rgcCtrlWrite (v : Word) (s : State) : State :=
  if bitAt v 8 && s.rg.vfault then
    raise 0x0608 0xFF [] { s with rg := { s.rg with vfault := false, vtrip := 0 } }
  else s

def rgcStatusWrite (v : Word) (s : State) : State := { s with rg := { s.rg with refused := w1c s.rg.refused v 31 } }
def rgcStatus (s : State) : Word :=
  at32 (ofBool s.rg.refused) 31 ||| at32 s.rg.cause.toNat 28 ||| at32 s.rg.chn.toNat 24 ||| at32 (ofBool s.rg.vfault) 0
def incfgWrite (v : Word) (s : State) : State := { s with rg := { s.rg with incfg := v } }
def vdacWrite (m : Fin 2) (v : Word) (s : State) : State := { s with rg := { s.rg with vdac := upd s.rg.vdac m fun _ => v &&& 0x8700003F } }
def patselWrite (k : Fin 16) (v : Word) (s : State) : State :=
  { s with rg := { s.rg with patsel := upd s.rg.patsel k fun _ => v &&& 0x8700000F } }
def rgLtcWrite (c : Fin 8) (v : Word) (s : State) : State := updCh c (fun h => { h with ltc := v &&& 0xFF0F0711 }) s
def rgLtcUbWrite (c : Fin 8) (v : Word) (s : State) : State := updCh c (fun h => { h with ltcUb := v }) s
def cntldWrite (c : Fin 8) (k : Fin 4) (v : Word) (s : State) : State :=
  updCh c (fun h => { h with cntld := upd h.cntld k fun _ => v &&& 0xFFFF }) s
def maAngWrite (c : Fin 8) (k : Fin 2) (v : Word) (s : State) : State :=
  updCh c (fun h => { h with maAng := upd h.maAng k fun _ => v }) s
def maQWrite (c : Fin 8) (k : Fin 2) (v : Word) (s : State) : State := updCh c (fun h => { h with maQ := upd h.maQ k fun _ => v }) s
def todNsWrite (c : Fin 8) (k : Fin 2) (v : Word) (s : State) : State :=
  updCh c (fun h => { h with todNs := upd h.todNs k fun _ => v }) s

def rgCode : RgSt → Nat
  | .stopped => 0
  | .armed => 1
  | .running => 2
  | .halted => 3

def rgStatus (s : State) (c : Fin 8) : Word :=
  let h := chAt s c
  at32 (rgCode h.st) 30 ||| at32 h.step.toNat 16 ||| at32 h.tset.toNat 12 ||| at32 (ofBool h.retune.isSome) 8

def maCfgRead (s : State) (c : Fin 8) (k : Fin 2) : Word :=
  at32 (ofBool ((chX s c).maArm.getLsbD k.val)) 31 ||| (chAt s c).maCfg[k.val]
def todSecHiRead (s : State) (c : Fin 8) (k : Fin 2) : Word :=
  at32 (ofBool ((chX s c).todArm.getLsbD k.val)) 31 ||| at32 ((chAt s c).todSec[k.val].toNat / 4294967296) 0

/-! ### Outputs (11 R385, R386) -/

/-- Pattern slot k: a bit of a channel's sample, inverted as the timing set in force says; 0 while EN is 0. -/
def patternOut (s : State) (k : Fin 16) : Bool :=
  let w := s.rg.patsel[k.val]
  let c : Fin 8 := ⟨fld w 24 3, Nat.mod_lt _ (by decide)⟩
  let b := fld w 0 4
  let t := vget (chAt s c).ts (4 * (chAt s c).tset.toNat + b / 4) 0
  bitAt w 31 && ((chX s c).out.getLsbD b ^^ bitAt t (8 * (b % 4) + 6))

/-- The code N of VDAC m: 2048 while EN is 0 or a fault mutes both. -/
def vdacCode (s : State) (m : Fin 2) : Nat :=
  let w := s.rg.vdac[m.val]
  let c : Fin 8 := ⟨fld w 24 3, Nat.mod_lt _ (by decide)⟩
  if bitAt w 31 && !s.rg.vfault then (chX s c).out.toNat / 16 else 2048

/-! ### Commands of the channels -/

/-- RG_ARM (11 R362): a write of RGn_CTRL with RUN = 1. -/
def execRgArm (c : Fin 8) (v : Word) (s : State) : Out := runHost s (rgCtrlWrite c (v ||| 0x80000000))

/-- RG_START (11 R362). -/
def execRgStart (c : Fin 8) (s : State) : Out := run s (startChannel c)

/-- RG_STOP_REQUEST (11 R363): a write of RGn_CTRL with RUN = 0. -/
def execRgStopRequest (c : Fin 8) (v : Word) (s : State) : Out := runHost s (rgCtrlWrite c (v &&& 0x7FFFFFFF))

/-- RG_STOP (11 R363): the boundary at which a requested stop takes effect. -/
def execRgStop (c : Fin 8) (s : State) : Out := run s fun s =>
  if (chAt s c).st = .running ∧ (chX s c).stopReq then stopChannel c s else s

/-- SEQ_STEP_WRITE (11 R370): the high-word write. -/
def execSeqStepWrite (c : Fin 8) (v : Word) (s : State) : Out := runHost s (seqHighWrite c v)

/-- TIMING_SET_WRITE (11 R383). -/
def execTimingSetWrite (c : Fin 8) (t w : Fin 4) (v : Word) (s : State) : Out := runHost s (tsetWrite c t w v)

/-- RG_STEP_START (11 R371): the seam ends. -/
def execRgStepStart (c : Fin 8) (s : State) : Out := run s fun s =>
  match (chX s c).next with
  | some n => if (chAt s c).st = .running ∧ chMode (chAt s c) = 0 then beginStep c n.toNat (chX s c).taken s else s
  | none => s

/-- RG_STEP_END (11 R371, R372). -/
def execRgStepEnd (c : Fin 8) (s : State) : Out := run s fun s =>
  if (chAt s c).st = .running ∧ chMode (chAt s c) = 0 ∧ (chX s c).next = none then endStep c s else s

/-- An edge of RG_INk (11 R374): the latches of the input set where RGC_INCFG selects the edge. -/
def rgInputEdge (k : Nat) (rising : Bool) (s : State) : State :=
  let e := fld s.rg.incfg (2 * k) 2
  if e = 3 ∨ (e = 1 ∧ rising) ∨ (e = 2 ∧ !rising) then
    allCh.foldl (fun s c => updChX c (fun x => { x with pinL := x.pinL ||| BitVec.ofNat 16 (2 ^ k) }) s) s
  else s

/-- RG_INPUT_EDGE (11 R374): the pad of the one pin that selects RG_INk changes (22 R657); with no such pin the input
stays at its default level. -/
def execRgInputEdge (k : Fin 16) (rising : Bool) (s : State) : Out := run s fun s =>
  match inputPin s k.val with
  | none => s
  | some i => if s.pmx.pad.getLsbD i = rising then s else rgInputEdge k.val rising (setPad i rising s)

/-- MA_COMPARE_FIRE (11 R375, R376). -/
def execMaCompareFire (c : Fin 8) (k : Fin 2) (s : State) : Out := run s fun s =>
  if (chX s c).maArm.getLsbD k.val && maMayFire s (chAt s c) k.val then fireMa c k.val s else s

/-- TOD_COMPARE_FIRE (11 R377). -/
def execTodCompareFire (c : Fin 8) (k : Fin 2) (s : State) : Out := run s fun s =>
  if (chX s c).todArm.getLsbD k.val then fireTod c k.val s else s

/-- MA_COMPARE_ARM (11 R378): a write of RGn_MAk_CFG with ARM. -/
def execMaCompareArm (c : Fin 8) (k : Fin 2) (v : Word) (s : State) : Out := runHost s (maCfgWrite c k (v ||| 0x80000000))

/-- TOD_COMPARE_ARM (11 R378): a write of RGn_TODk_SEC_HI with ARM. -/
def execTodCompareArm (c : Fin 8) (k : Fin 2) (v : Word) (s : State) : Out :=
  runHost s (todSecHiWrite (hostAgent s) c k (v ||| 0x80000000))

/-- VDAC_FAULT (11 R387). -/
def execVdacFault (m : Fin 2) (s : State) : Out := run s fun s =>
  let s := { s with rg := { s.rg with vfault := true, vtrip := s.rg.vtrip ||| BitVec.ofNat 2 (2 ^ m.val) } }
  raise 0x0607 0xFF [(0, 1, s.rg.vtrip.toNat)] s

/-- VDAC_CLEAR (11 R387). -/
def execVdacClear (v : Word) (s : State) : Out := runHost s (rgcCtrlWrite v)

/-- LTC_FRAME_START (11 R389): an LTC channel begins a frame at a frame boundary; the first one starts it. -/
def execLtcFrameStart (c : Fin 8) (s : State) : Out := run s fun s =>
  let h := chAt s c
  if chMode h = 1 ∧ (h.st = .armed ∨ h.st = .running) then
    let s := if h.st = .armed then startedEvent c (updCh c (fun h => { h with st := .running }) s) else s
    let r := fld s.te.tc 0 2
    updChX c (fun x => { x with frame := some (ltcFrame h.ltc h.ltcUb r (labelNow s)), frameRate := r }) s
  else s

/-- The channels that decode LTC from an input. -/
def readers (s : State) (k : Fin 16) : List (Fin 8) :=
  allCh.filter fun c => decide (chMode (chAt s c) = 2) && decide ((chAt s c).st = .running) && decide (fld (chAt s c).ltc 16 4 = k.val)

/-- LTC_FRAME_DECODE (11 R390): the record carries the stamp of the frame's first transition. -/
def execLtcFrameDecode (k : Fin 16) (frame : BitVec 80) (rate : BitVec 2) (at_ : Stamp) (s : State) : Out := run s fun s =>
  if frame.toNat / 2 ^ 64 = 0xBFFC then
    (readers s k).foldl (fun s c =>
      raiseAt 0x0609 c.val at_.sec at_.ns (payload [(0, 8, frame.toNat % 2 ^ 64), (8, 1, rate.toNat)])
        (updChX c (fun x => { x with ltcHeard := true, frame := some frame }) s)) s
  else s

/-- LTC_LOSS (11 R390). -/
def execLtcLoss (k : Fin 16) (s : State) : Out := run s fun s =>
  (readers s k).foldl (fun s c =>
    if (chX s c).ltcHeard then raise 0x060A c.val [(0, 1, k.val)] (updChX c (fun x => { x with ltcHeard := false }) s)
    else s) s

/-- The 32 bits of the clock-face telegram (11 R391). -/
def telegram (s : State) : Nat :=
  let (d, hold) := labelSec s s.te.sec.toNat
  let n := 6 ||| bcd (d / 3600) <<< 4 ||| bcd (d / 60 % 60) <<< 10 ||| bcd (d % 60) <<< 17 ||| ofBool hold <<< 24 |||
    ofBool (decide (s.te.st = 3)) <<< 25 ||| ofBool (decide (s.te.st ≠ 2)) <<< 26
  n ||| (((List.range 31).filter fun i => n.testBit i).length % 2) <<< 31

/-- TELEGRAM_SEND (11 R391). -/
def execTelegramSend (c : Fin 8) (s : State) : Out := run s fun s =>
  if chMode (chAt s c) = 3 ∧ (chAt s c).st = .running then
    updChX c (fun x => { x with frame := some (BitVec.ofNat 80 (telegram s)) }) s
  else s

/-! ### Descriptors (11 R366, R381, R392) -/

def descCh (d : DescBytes) : Fin 8 := ⟨dByte d 20 % 8, Nat.mod_lt _ (by decide)⟩

/-- A signature that any channel holds as active. -/
def sigActive (s : State) (g : Nat) : Bool := allCh.any fun c => (chX s c).activeSig.contains g

/-- SIG_WRITE (11 R364, R366): the signature is claimed, or active. -/
def execSigWrite (r : Fin 16) (d : DescBytes) (m : MemRead) (s : State) : Out := run s <| descRow (· == 0x30) r d fun id s =>
  let len := dLen d
  let off := field512 d 22 2
  let g := dByte d 20
  if len < 2 ∨ 4096 < len ∨ len % 2 ≠ 0 then finish r.val id (resBad 3) s
  else if off % 2 ≠ 0 ∨ 4096 < off + len then finish r.val id (resBad 4) s
  else if sigActive s g then finish r.val id (resSt 0x30) s
  else withData m r.val id (dAddr d) len (fun bs s =>
    { s with rg := { s.rg with claims := s.rg.claims ++ [(r.val, id, g, off, bs)] } }) s

/-- SIG_WRITE_DONE (11 R366): the oldest claim of a ring has its last byte written. -/
def execSigWriteDone (r : Fin 16) (s : State) : Out := run s fun s =>
  match s.rg.claims.find? fun k => decide (k.1 = r.val) with
  | some k =>
    let (_, id, g, off, bs) := k
    let s := { s with rg := { s.rg with
      sig := spPutBytes s.rg.sig (4096 * g + off) bs
      claims := s.rg.claims.erase k } }
    finish r.val id (resOk bs.length) s
  | none => s

/-- RG_FLAG (11 R392). -/
def execRgFlag (r : Fin 16) (d : DescBytes) (s : State) : Out := run s <| descRow (· == 0x31) r d fun id s =>
  let f := dByte d 21 % 4
  finish r.val id (resOk 0) (updChX (descCh d) (fun x => { x with flags := x.flags ||| BitVec.ofNat 4 (2 ^ f) }) s)

/-- RG_RETUNE (11 R381, R382). -/
def execRgRetune (r : Fin 16) (d : DescBytes) (s : State) : Out := run s <| descRow (· == 0x32) r d fun id s =>
  let c := descCh d
  let w := dByte d 21
  let f := field512 d 24 6
  if 5 < w ∨ 140737488355328 < f then finish r.val id (resBad 4) s
  else if (chAt s c).retune.isSome then finish r.val id (resBad 10) s
  else
    let t : Retune := { ftw := BitVec.ofNat 48 f, phi := BitVec.ofNat 48 (field512 d 32 6), when_ := w, desc := (r.val, id) }
    if w = 0 then applyRetune c t s else updCh c (fun h => { h with retune := some t }) s

/-! ### Reset and holdover (11 R394, R395) -/

/-- A reset of a channel; the descriptor of its staged retune is aborted and named in the answer. -/
def resetCh (c : Fin 8) (s : State) : List (Nat × Nat) × State :=
  let t := (chAt s c).retune
  let s := updCh c (fun h => { h with st := .stopped, retune := none }) s
  let s := updChX c (fun x => { x with pinL := 0, maL := 0, todL := 0, ppsL := false, flags := 0, maArm := 0, todArm := 0,
                                       stopReq := false, next := none, frame := none, tsetWait := none, activeSig := [] }) s
  match t with
  | some t => ([t.desc], finish t.desc.1 t.desc.2 (resSt 0x10) s)
  | none => ([], s)

/-- Channels that are not ESSENTIAL stop when the power state HOLDOVER begins. -/
def rgHoldover (s : State) : State :=
  allCh.foldl (fun s c =>
    let h := chAt s c
    if bitAt h.ctrl 30 then s
    else match h.st with
      | .stopped => s
      | .running => updChX c (fun x => { x with stopReq := true }) s
      | _ => stopChannel c s) s

end Sys2Proof.Machine
end

