-- ==== Sys2Proof/Machine/Te.lean ====
section
/-! DEFINITION. The time engine (10): the time of day, its steering and setting, the 1PPS, the discipline, ranging, leap
seconds. -/
namespace Sys2Proof.Machine

/-! ### The time of day (10 R322, R323) -/

/-- One nanosecond in units of 2^-48 ns, and one unit of 1/256 ns. -/
def ns48 : Nat := 281474976710656
def u48 : Nat := 1099511627776

/-- The whole time of day in 2^-48 ns. -/
def tod48 (t : Te) : Nat := ((t.sec.toNat * 1000000000 + t.ns) * 65536 + t.frac.toNat) * 4294967296 + t.sub.toNat

/-- The time of day set to a value in 2^-48 ns; NS stays below 10^9. -/
def setTod48 (v : Nat) (t : Te) : Te :=
  { t with
    sec := BitVec.ofNat 48 (v / ns48 / 1000000000)
    ns := v / ns48 % 1000000000
    frac := BitVec.ofNat 16 (v / 4294967296)
    sub := BitVec.ofNat 32 v }

def teSrc (s : State) : Nat := fld s.te.ctrl 0 3

def teRefuse (cause off : Nat) (v : Word) (s : State) : State :=
  raise 0x050C 0xFF (refusedPay cause off v) { s with te := { s.te with refused := true, cause := BitVec.ofNat 3 cause } }

/-! ### 1PPS (10 R334) -/

/-- The pair that the AON domain latches at every 1PPS (19 R604). -/
def aonLatch (s : State) : State :=
  { s with tmp := { s.tmp with ppsAon := s.tmp.aon, ppsSec := s.te.sec, ppsValid := true } }

/-- A 1PPS: the output rises while PPS_EN is 1, the generators and the AON domain see it. -/
def ppsEmit (s : State) : State :=
  rgPps (aonLatch { s with te := { s.te with pps := s.te.pps || bitAt s.te.ctrl 4 } })

/-! ### Ranging that fails (10 R346) -/

def rngFailed (leaf : BitVec 12) (cause : Nat) (exch : Byte) (s : State) : State :=
  raise 0x050A 0xFF [(0, 2, leaf.toNat), (2, 1, cause), (3, 1, exch.toNat)]
    { s with tex := { s.tex with rngFail := inc32 s.tex.rngFail } }

def dropExch (e : Exch) (s : State) : State :=
  { s with tex := { s.tex with exch := s.tex.exch.filter fun x => decide (x ≠ e) } }

/-- An exchange ends without its result; the head counts and reports it. -/
def failExch (e : Exch) (cause : Nat) (s : State) : State :=
  let s := dropExch e s
  if e.initiator then rngFailed e.leaf cause e.exch s else s

/-! ### Jumps (10 R330, R332, R337) -/

/-- The time of day jumps to a value in 2^-48 ns: what depends on the timeline follows. Cause 1 apply, 2 step. -/
def todJump (v cause : Nat) (s : State) : State :=
  let before := genTime s
  let d : Int := ((v : Int) - (tod48 s.te : Int)) / (u48 : Int)
  let s := { s with
    te := { setTod48 v s.te with slew := 0 }
    tex := { s.tex with
      stepMark := s.tex.stepMark + 1
      stepTick := s.now
      lastEdge := s.tex.lastEdge.map (· + d)
      lastMeas := s.tex.lastMeas.map (· + d) } }
  let s := (s.tex.exch.filter (·.initiator)).foldl (fun s e => failExch e 2 s) s
  todPassed before (ltcCutAll cause s)

/-- Below 2.5 ns: the jump emits a 1PPS (10 R331). -/
def jumpPps (s : State) : Bool := decide (s.te.ns * 65536 + s.te.frac.toNat < 0x28000)

/-- A step by -o, in 1/256 ns (10 R337). -/
def teStep (o : Int) (s : State) : State :=
  let m : Int := (281474976710656 * 1000000000 * ns48 : Nat)
  let s := todJump (((tod48 s.te : Int) - o * (u48 : Int)).emod m).toNat 2 s
  let s := if jumpPps s then ppsEmit s else s
  raise 0x0503 0xFF [(0, 1, teSrc s), (8, 8, (BitVec.ofInt 64 (-o)).toNat)] s

/-! ### Leap seconds (10 R353) -/

def leapArmed (s : State) : Bool := bitAt s.te.leapCtrl 31
def leapDir (s : State) : Bool := bitAt s.te.leapCtrl 30

/-- The leap is done: OFFSET moves by one, ARM clears. -/
def leapDone (skipped : Bool) (s : State) : State :=
  let x : Int := s16 s.te.utc + (if leapDir s then -1 else 1)
  let off := (BitVec.ofInt 16 x).setWidth 32
  let s := { s with te := { s.te with utc := off, leap := false, leapCtrl := s.te.leapCtrl &&& 0x40000000 } }
  raise 0x0508 0xFF [(0, 1, ofBool (leapDir s)), (1, 1, ofBool skipped), (2, 2, off.toNat), (4, 6, s.te.leapAt.toNat)] s

/-- The leap compare on the new second of a rollover. -/
def leapCheck (s : State) : State :=
  if !leapArmed s then s
  else if leapDir s then (if s.te.sec = s.te.leapAt - 1 then leapDone false s else s)
  else if s.te.sec = s.te.leapAt then { s with te := { s.te with leap := true } }
  else if s.te.sec = s.te.leapAt + 1 then leapDone false s
  else s

/-- An apply that carries SEC from below X - 1 to above X + 1 skips the leap. -/
def leapSkip (old : BitVec 48) (s : State) : State :=
  if leapArmed s && decide (old.toNat + 1 < s.te.leapAt.toNat) && decide (s.te.leapAt.toNat + 1 < s.te.sec.toNat) then
    leapDone true s
  else s

/-! ### Applies (10 R329 to R333) -/

/-- The discipline discards its phase term and measures afresh (10 R333). -/
def afterApply (s : State) : State :=
  if teSrc s = 0 then s else { s with tex := { s.tex with lastMeas := none, consIn := 0, consOut := 0 } }

def appliedEvent (mode : Nat) (pps : Bool) (s : State) : State :=
  raise 0x0504 0xFF [(0, 1, mode), (1, 1, ofBool pps), (4, 6, s.te.sec.toNat), (10, 4, s.te.ns)] s

/-- An IMMEDIATE apply lands (10 R330, R331). -/
def applyNow (s : State) : State :=
  let old := s.te.sec
  let v := ((s.te.setSec.toNat * 1000000000 + s.te.setNs.toNat) * 65536 + fld s.te.setFrac 0 16) * 4294967296
  let s := afterApply (todJump v 1 { s with te := { s.te with armed := none } })
  let p := jumpPps s
  let s := if p then ppsEmit s else s
  leapSkip old (appliedEvent 1 p s)

/-- What a rollover brings, SEC standing at its new value: an armed apply, the leap compare, a timecode epoch, the 1PPS
(10 R332, R334, R353, R356). -/
def secondPassed (s : State) : State :=
  let s :=
    if s.te.armed = some 2 then
      let old := s.te.sec
      let v := ((s.te.setSec.toNat * 1000000000 + s.te.ns) * 65536 + s.te.frac.toNat) * 4294967296 + s.te.sub.toNat
      leapSkip (old - 1) (appliedEvent 2 true (afterApply (todJump v 1 { s with te := { s.te with armed := none } })))
    else s
  let s := leapCheck s
  let s := if s.te.tcEpoch = s.te.sec then { s with tex := { s.tex with tcActive := s.te.tcEpoch } } else s
  ppsEmit s

/-- TOD_ROLLOVER (10 R323): the second ends now (log entry 1). -/
def execTodRollover (s : State) : Out := run s fun s =>
  secondPassed { s with te := { s.te with ns := s.te.ns - 1000000000, sec := s.te.sec + 1 } }

/-- PPS_WIDTH_END (10 R334). -/
def execPpsWidthEnd (s : State) : Out := run s fun s => { s with te := { s.te with pps := false } }

/-- TE_APPLY. -/
def teApplyWrite (v : Word) (s : State) : State :=
  match fld v 0 2 with
  | 0 =>
    match s.te.armed with
    | some m => raise 0x0505 0xFF [(0, 1, m.toNat)] { s with te := { s.te with armed := none } }
    | none => s
  | 1 => if s.te.armed.isSome then teRefuse 3 0x840 v s else applyNow s
  | 2 => if s.te.armed.isSome then teRefuse 3 0x840 v s else { s with te := { s.te with armed := some 2 } }
  | _ => s

/-- APPLY_IMMEDIATE, APPLY_AT_NEXT_SECOND, APPLY_CANCEL (10 R329, R330). -/
def execApplyImmediate (v : Word) (s : State) : Out := runHost s (teApplyWrite (setFld v 0 2 1))
def execApplyAtNextSecond (v : Word) (s : State) : Out := runHost s (teApplyWrite (setFld v 0 2 2))
def execApplyCancel (v : Word) (s : State) : Out := runHost s (teApplyWrite (setFld v 0 2 0))

/-! ### Reading and setting (10 R326 to R328, R360) -/

def teCaptureWrite (v : Word) (s : State) : State :=
  if bitAt v 0 then
    { s with te := { s.te with
      snapSeq := s.te.snapSeq + 1
      snap := { sec := s.te.sec, ns := BitVec.ofNat 32 s.te.ns, frac := s.te.frac, ma := refAngle s, mcyc := refCycle s,
                utc := s.te.utc, leap := at32 (ofBool s.te.leap) 0 } } }
  else s

/-- TE_CAPTURE (10 R326). -/
def execTeCapture (v : Word) (s : State) : Out := runHost s (teCaptureWrite v)

def teSetSecHi (a : Agent) (v : Word) (s : State) : State :=
  let (lo, s) := takeLo a true 0x830 (s.te.setSec.setWidth 32) s
  if s.te.armed.isSome then teRefuse 1 0x834 v s
  else { s with te := { s.te with setSec := BitVec.ofNat 48 (lo.toNat + 4294967296 * fld v 0 16) } }

def teSetNs (v : Word) (s : State) : State :=
  if s.te.armed.isSome then teRefuse 1 0x838 v s
  else if 1000000000 ≤ v.toNat then teRefuse 2 0x838 v s
  else { s with te := { s.te with setNs := v } }

def teSetFrac (v : Word) (s : State) : State :=
  if s.te.armed.isSome then teRefuse 1 0x83C v s else { s with te := { s.te with setFrac := v &&& 0xFFFF } }

/-- TE_SET_WRITE (10 R328): the _LO half is held until the _HI write (23 R676). -/
def execTeSetWrite (r : TeSetReg) (v : Word) (s : State) : Out := runHost s fun s =>
  match r with
  | .secLo => stageLo (hostAgent s) true 0x830 v s
  | .secHi => teSetSecHi (hostAgent s) v s
  | .ns => teSetNs v s
  | .frac => teSetFrac v s

/-! ### Steering (10 R324, R335) -/

def addSlew (c : Int) (s : State) : State := { s with te := { s.te with slew := s.te.slew + c } }

def teSlewWrite (v : Word) (s : State) : State :=
  if teSrc s ≠ 0 then teRefuse 6 0x850 v s else addSlew (v.toInt * (u48 : Int)) s

/-- TE_SLEW (10 R324). -/
def execTeSlew (v : Word) (s : State) : Out := runHost s (teSlewWrite v)

/-- SLEW_DONE (10 R324): what remains is below what one tick takes. -/
def execSlewDone (s : State) : Out := run s fun s =>
  if s.te.slew.natAbs ≤ slewShare then { s with te := { s.te with slew := 0 } } else s

def teFreqHiWrite (a : Agent) (v : Word) (s : State) : State :=
  let (lo, s) := takeLo a true 0x848 (s.te.s.setWidth 32) s
  if teSrc s ≠ 0 then teRefuse 6 0x84C v s
  else { s with te := { s.te with s := BitVec.ofNat 40 (lo.toNat + 4294967296 * fld v 0 8) } }

/-- TE_FREQ_WRITE (10 R360). -/
def execTeFreqWrite (v : Word) (s : State) : Out := runHost s fun s => teFreqHiWrite (hostAgent s) v s

/-- TE_CTRL: a head refuses SRC = LINE (10 R335); a new source is measured afresh. -/
def teCtrlWrite (v : Word) (s : State) : State :=
  if fld v 0 3 = 3 ∧ isHead s then teRefuse 4 0x5000 v s
  else
    let same := decide (fld v 0 3 = teSrc s)
    let s := { s with te := { s.te with ctrl := v &&& 0x17 } }
    if same then s else { s with tex := { s.tex with lastMeas := none, consIn := 0, consOut := 0, srcLost := 0 } }

/-- TE_SRC_SELECT (10 R335). -/
def execTeSrcSelect (v : Word) (s : State) : Out := runHost s (teCtrlWrite v)

/-! ### Discipline (10 R336 to R341) -/

def clamp40 (x : Int) : BitVec 40 :=
  BitVec.ofInt 40 (if x > 549755813887 then 549755813887 else if x < -549755813888 then -549755813888 else x)

def teLock (s : State) : Nat := fld s.te.disc 8 12 * 256
def teStepLim (s : State) : Nat := fld s.te.disc 20 12 * 256000
def refPresent (s : State) : Bool := s.te.srcOk.getLsbD 1

/-- The counts of R338 after a measurement that did not step. -/
def lockCount (o : Int) (s : State) : State :=
  if o.natAbs ≤ teLock s then
    let s := { s with tex := { s.tex with consIn := s.tex.consIn + 1, consOut := 0 } }
    if s.te.st = 1 ∧ 8 ≤ s.tex.consIn then
      raise 0x0501 0xFF [(0, 1, teSrc s), (4, 4, satO o)] { s with te := { s.te with st := 2 } }
    else s
  else
    let s := { s with tex := { s.tex with consOut := s.tex.consOut + 1, consIn := 0 } }
    if s.te.st = 2 ∧ 4 ≤ s.tex.consOut then
      raise 0x0502 0xFF [(0, 1, teSrc s), (1, 1, 1), (4, 4, satO o)] { s with te := { s.te with st := 1 } }
    else s

/-- The rate held in S after a measurement: from the rate of o, or in REF_PPS mode from REF10M, whose count is a free
value (10 R337, R339; log entry 2). -/
def steerRate (o t : Int) (s : State) : State :=
  if teSrc s = 2 ∧ refPresent s then
    let (f, s) := draw s
    { s with te := { s.te with s := f.setWidth 40 } }
  else match s.tex.lastMeas with
    | some t1 =>
      if t1 < t then
        let x := roundDiv (-(o * (ns48 : Int)) ) ((t - t1).toNat * 2 ^ fld s.te.disc 0 4)
        { s with te := { s.te with s := clamp40 (s.te.s.toInt + x) } }
      else s
    | none => s

/-- A measurement o taken at time t, both in 1/256 ns (10 R337, R338). A leaf that has not joined only steps (R341). -/
def measure (o t : Int) (s : State) : State :=
  let free := s.te.st = 0
  let begun := decide (teSrc s ≠ 3) || (isJoined s && !s.ltx.confirmWait)
  if s.pwr.st = .holdover then s
  else if teStepLim s < o.natAbs ∨ (free ∧ s.tex.lastMeas = none) then
    let s := if s.te.st = 2 then raise 0x0502 0xFF [(0, 1, teSrc s), (1, 1, 2), (4, 4, satO o)] s else s
    let s := { s with
      te := { s.te with st := if begun then 1 else s.te.st }
      tex := { s.tex with consIn := 0, consOut := 0, lastMeas := some t } }
    teStep o s
  else if !begun then { s with tex := { s.tex with lastMeas := some t } }
  else
    let s := if free then { s with te := { s.te with st := 1 } } else s
    let s := addSlew (roundDiv (-(o * (u48 : Int))) (2 ^ fld s.te.disc 4 4)) s
    let s := steerRate o t s
    let s := { s with tex := { s.tex with lastMeas := some t, sHist := (s.te.s.toInt :: s.tex.sHist).take 64 } }
    lockCount o s

/-- The phase source is lost: HOLDOVER at the mean of the last 64 updates (10 R339). -/
def srcLostNow (src : Nat) (s : State) : State :=
  let h := s.tex.sHist
  let s := { s with
    te := { s.te with st := 3, s := if h.isEmpty then s.te.s else clamp40 (roundDiv h.sum h.length) }
    tex := { s.tex with srcLost := s.tex.srcLost ||| BitVec.ofNat 3 (2 ^ src) } }
  raise 0x0506 0xFF [(0, 1, src), (1, 1, 3)] s

/-- A lost source has returned (10 R339). -/
def srcBack (src : Nat) (s : State) : State :=
  if s.tex.srcLost.getLsbD src then
    let s := { s with
      te := { s.te with st := if s.te.st = 3 then 1 else s.te.st }
      tex := { s.tex with srcLost := s.tex.srcLost &&& ~~~(BitVec.ofNat 3 (2 ^ src)), consIn := 0, consOut := 0 } }
    raise 0x0507 0xFF [(0, 1, src)] s
  else s

def srcOkSet (src : Nat) (b : Bool) (s : State) : State :=
  { s with te := { s.te with srcOk := if b then s.te.srcOk ||| BitVec.ofNat 3 (2 ^ src) else s.te.srcOk &&& ~~~(BitVec.ofNat 3 (2 ^ src)) } }

/-- The distance of t from the nearest integer second, from -0.5 s on (10 R336). -/
def fromSecond (t : Int) : Int := (t + sec256 / 2).emod sec256 - sec256 / 2

/-- PPS_IN_EDGE (10 R336): `sub` places the edge within its tick, in steps of 50 ps. -/
def execPpsInEdge (sub : BitVec 6) (s : State) : Out := run s fun s =>
  let t : Int := (stamp256 (todNow s) : Int) + (sub.toNat * 64 / 5 : Nat) - s.te.ppsinDly.toNat
  let good := match s.tex.lastEdge with
    | some e => decide ((t - e - sec256).natAbs ≤ 256000000)
    | none => true
  if !good then { s with tex := { s.tex with ppsinBad := inc32 s.tex.ppsinBad } }
  else
    let o := fromSecond t
    let s := srcOkSet 0 true { s with tex := { s.tex with lastEdge := some t, ppsinErr := BitVec.ofNat 32 (satO o) } }
    if teSrc s = 1 ∨ teSrc s = 2 then measure o t (srcBack 0 s) else s

/-- PPS_IN_LOSS (10 R339): after it the next edge is a first edge. -/
def execPpsInLoss (s : State) : Out := run s fun s =>
  let s := srcOkSet 0 false { s with tex := { s.tex with lastEdge := none } }
  if (teSrc s = 1 ∨ teSrc s = 2) ∧ !s.tex.srcLost.getLsbD 0 then srcLostNow 0 s else s

/-- BEACON_SOURCE_LOSS (10 R339): 8 quires without an authenticated spine beacon. -/
def execBeaconSourceLoss (s : State) : Out := run s fun s =>
  if isLeaf s ∧ 8 ≤ s.tex.bcnMiss then
    let s := srcOkSet 2 false s
    if teSrc s = 3 ∧ !s.tex.srcLost.getLsbD 2 then srcLostNow 2 s else s
  else s

/-- B of R340: the RANGE field of entry 0x000, signed. -/
def beaconBias (s : State) : Int := (BitVec.ofNat 24 (eRange (entryAt s 0))).toInt

/-- A beacon's measurement at a leaf (10 R340). -/
def beaconMeasure (stamp : Stamp) (tod : Stamp) (s : State) : State :=
  let s := srcOkSet 2 true { s with tex := { s.tex with bcnMiss := 0 } }
  if isLeaf s ∧ teSrc s = 3 then
    let t : Int := stamp256 stamp
    let o := t - (stamp256 tod : Int) - beaconBias s
    let s := { s with tex := { s.tex with bcnOfs := BitVec.ofNat 32 (satO o) } }
    measure o t (srcBack 2 s)
  else s

/-! ### Ranging (10 R342 to R350) -/

/-- P_n in ns: one cycle of the reference phase (10 R344). -/
def cycleNs (s : State) : Nat :=
  (roundDiv (1000000000 * 16777216) (phAt s (refSource s)).freq.toNat).toNat

/-- The lowest-numbered port of an entry. -/
def entryPort (e : Entry) : Option Nat := (portList (ePorts e)).head?

/-- Mode of a ranging leg: the entry's, one frame (log entry 41). -/
def legMode (e : Entry) (bytes : Nat) (s : State) : Mode :=
  let o := effMode s (.ofdm (eSlot e) (min 2 (eRate e)))
  if eUseOfdm e && fitsNominal s (quireF s) (geomBase (actGeom s)) (airtimeOf s o bytes) then o
  else .robust (noHc (eRcfg e))

/-- A leg goes on the line now, on one port; false: its airtime cannot be covered. -/
def legOnLine (f : TxFrame) (port : Nat) (mode : Mode) (built : List Byte) (s : State) : Bool × State :=
  let air := airtimeOf s mode built.length
  let bands := bandsOf s mode
  if (bands.all fun b => covers (bandAt s b) air) && portReady s port &&
      (!bands.contains 1 || cMay s port s.now air) then
    let cost := costVec bands air
    let s := takeBands false cost s
    let s := if bands.contains 1 then cRun [port] s.now s else s
    let f := { f with id := s.line.nextId, ports := portMask [port], mode := mode, airtime := air, cost := cost, built := built,
                      quire := s.qr.qnum }
    (true, goOnLine f (submit f s))
  else (false, s)

/-- The nodes of a path from the head: its relays, then the leaf. -/
def pathNodes (s : State) (n : Nat) : List Nat := eRoute (entryAt s n) ++ [n]

/-- The ports of legs 1 to H as the head's table gives them (log entry 41). -/
def pathPorts (s : State) (n : Nat) : List Nat := (pathNodes s n).filterMap fun k => entryPort (entryAt s k)

def rngEligible (s : State) (n : Nat) : Bool := decide (eState (entryAt s n) = stActive) && decide (slMode s n = 0)

/-- Quires since an entry's last success; never ranged comes first. -/
def rngAge (s : State) (n : Nat) : Option Nat :=
  let q := spGet 0 s.tex.lastRng n
  if q = 0 then none else some (s.qr.qnum - BitVec.ofNat 32 (q - 1)).toNat

/-- The entry to range next on a port (10 R342). -/
def rngPick (s : State) (p : Nat) : Option Nat :=
  let free := fun n => rngEligible s n && decide ((pathPorts s n).head? = some p) && decide ((pathPorts s n).length = (pathNodes s n).length) &&
    !(s.tex.exch.any fun e => decide (e.leaf.toNat = n))
  match s.tex.first with
  | some n => if free n.toNat then some n.toNat else auto free
  | none => auto free
where
  auto (free : Nat → Bool) : Option Nat :=
    if !bitAt s.te.rngCfg 31 then none
    else
      let c := (usedEntries s).filter fun n => decide (n ≠ 0) && free n && (match rngAge s n with
        | none => true
        | some a => decide (fld s.te.rngCfg 0 16 ≤ a))
      match c.find? fun n => (rngAge s n).isNone with
      | some n => some n
      | none => c.foldl (fun b n => match b with
        | none => some n
        | some m => if (rngAge s m).getD 0 < (rngAge s n).getD 0 then some n else some m) none

/-- Every leg's folio is RANGING on its port and no other exchange uses it (10 R345). -/
def legsOpen (s : State) (n : Nat) : Bool :=
  let ps := pathPorts s n
  let f := quireF s
  let q := quireQ s
  let j := folioJ s
  let legs := ps ++ ps.reverse
  decide (0 < f) && decide (0 < q) &&
    (legs.zipIdx.all fun (p, k) => decide (roleAt s p ((s.qr.cycle + k) % q * f + j) = rRanging)) &&
    !(s.tex.exch.any fun e => e.initiator && decide (e.folio = j) && (pathPorts s e.leaf.toNat).any ps.contains)

/-- The frame of every leg fits its folio, by the head's entries: RANGE_REQ on the way down, RANGE_RESP on the way up
(10 R345, log entry 41). -/
def legsFit (s : State) (n : Nat) : Bool :=
  let rly := decide (eHops (entryAt s n) ≠ 0)
  (pathNodes s n).all fun k =>
    [frameBytes tyRangeReq 0 rly 2, frameBytes tyRangeResp 0 rly 14].all fun b =>
      fitsNominal s (quireF s) (geomBase (actGeom s)) (airtimeOf s (legMode (entryAt s k) b s) b)

/-- The path header of a frame from the head to an entry. -/
def headRoute (s : State) (n : Nat) : Option Route :=
  let e := entryAt s n
  if eHops e = 0 then none
  else some { rly1 := BitVec.ofNat 12 (eRly e 0), rly2 := BitVec.ofNat 12 (eRly e 1), rly3 := BitVec.ofNat 12 (eRly e 2),
              idx := 0, dirHead := false, crgrant := 0 }

/-- RANGING_START (10 R344, R345): leg 1 goes at the margin of the folio in progress. -/
def execRangingStart (p : Port) (s : State) : Out := run s fun s =>
  if isLeaf s || !qrRunning s then s
  else match rngPick s p.val with
  | none => s
  | some n =>
    let rt := headRoute s n
    let hop := (pathNodes s n).headD 0
    let bytes := frameBytes tyRangeReq (BitVec.ofNat 12 n) rt.isSome 2
    let mode := legMode (entryAt s hop) bytes s
    let air := airtimeOf s mode bytes
    let h := (pathNodes s n).length
    if !legsOpen s n || !legsFit s n || decide (ticksToEnd s < ticksUs air) then s
    else
      let x := s.tex.nextExch
      let s := { s with tex := { s.tex with nextExch := x + 1 } }
      let f := { txNew tyRangeReq (BitVec.ofNat 12 n) [x, 0] s with route := rt, hop := BitVec.ofNat 12 hop }
      match sealFrame (hdrFor f 0 rt.isSome s) rt n f.body s with
      | (.ok built inv, _, s) =>
        match legOnLine { f with inv := BitVec.ofNat 40 inv } p.val mode built s with
        | (true, s) =>
          let e : Exch := { port := p, leaf := BitVec.ofNat 12 n, exch := x, hops := h - 1, leg := 1, initiator := true,
                            folio := folioJ s,
                            last := (s.qr.qnum.toNat * quireQ s + s.qr.cycle + 2 * h - 1) * quireF s + folioJ s,
                            due := none, raw := [], route := rt, hop := 0, t1 := ts48 (txStamp s (portMask [p.val])), t2 := 0,
                            p := cycleNs s, mark := s.tex.stepMark }
          { s with tex := { s.tex with exch := s.tex.exch ++ [e] } }
        | (false, s) => rngFailed (BitVec.ofNat 12 n) 2 x s
      | (_, _, s) => rngFailed (BitVec.ofNat 12 n) 2 x s

def rngNowWrite (v : Word) (s : State) : State :=
  let n := fld v 0 12
  let s := { s with te := { s.te with rngNow := v &&& 0xFFF } }
  if !bitAt v 31 || isLeaf s then s
  else if rngEligible s n then { s with tex := { s.tex with first := some (BitVec.ofNat 12 n) } }
  else rngFailed (BitVec.ofNat 12 n) 1 0 s

/-- TE_RNG_NOW (10 R342). -/
def execTeRngNow (v : Word) (s : State) : Out := runHost s (rngNowWrite v)

/-- RANGING_TIMEOUT (10 R346): the folio of leg 2H has ended. -/
def execRangingTimeout (p : Port) (s : State) : Out := run s fun s =>
  match s.tex.exch.find? fun e => e.initiator && decide (e.port = p) && decide (e.last ≤ folioNow s) with
  | some e => failExch e 3 s
  | none => s

/-- The stamp of a leg lies in folio j (10 R346): from M_MA minus 144 us behind its start to its end. -/
def legInFolio (o : Front) (j : Nat) (s : State) : Bool :=
  let f := quireF s
  let a := refAngle s + (o.f.angle - angleOf (phAt s o.f.port).acc)
  let lo : Int := (folioMa f j : Int) + marginMa s (marginUs s) - marginMa s 144
  let hi : Int := if j + 1 = f then 4294967296 else folioMa f (j + 1)
  decide (0 < f) && decide ((a - BitVec.ofInt 32 lo).toNat < (hi - lo).toNat)

def replaceExch (e : Exch) (s : State) : State :=
  { s with tex := { s.tex with exch := e :: s.tex.exch.filter fun x => decide (x.exch ≠ e.exch) } }

/-- A leg received by a relay or the leaf (10 R344, R346): the next leg is due P_n later. -/
def onRangeLeg (o : Front) (relay : Bool) (s : State) : State :=
  let x := o.body.getD 0 0
  let t := stamp256 (rxStamp o.f s)
  let idx := (o.rt.map (·.idx)).getD 0
  let h := o.hops + 1
  let leg := (if o.h.ty = tyRangeReq then idx else h + idx) + 1
  let hop : BitVec 12 :=
    if relay then (match o.rt with
      | some r => nextActor { r with idx := r.idx + 1 } o.hops o.h.dst
      | none => 0)
    else (match backRoute o with
      | some r => nextActor r o.hops 0
      | none => 0)
  let e := entryAt s hop.toNat
  let port : Port := match entryPort e with
    | some 1 => 1
    | some 2 => 2
    | some _ => 0
    | none => o.f.port
  let known := s.tex.exch.find? fun e => decide (e.exch = x) && !e.initiator
  let base : Option Exch :=
    if o.h.ty = tyRangeReq then
      (if legInFolio o (folioJ s) s then
        some { port := port, leaf := o.h.dst, exch := x, hops := o.hops, leg := leg, initiator := false, folio := folioJ s,
               last := 0, due := none, raw := [], route := none, hop := hop, t1 := 0, t2 := 0, p := cycleNs s,
               mark := s.tex.stepMark }
       else none)
    else (match known with
      | some e => if e.due.isNone && legInFolio o e.folio s then some e else none
      | none => none)
  match base with
  | none => s
  | some b =>
    replaceExch { b with
      leg := leg
      port := port
      hop := hop
      due := some (t + 256 * b.p)
      raw := if relay then o.f.bytes else []
      route := if relay then o.rt else backRoute o
      t2 := t % 2 ^ 48 } s

/-- A leg goes out at its instant, or the exchange ends here (10 R344, R346). -/
def sendLeg (p : Port) (e : Exch) (t : Nat) (s : State) : State :=
  let s := dropExch e s
  let entry := entryAt s e.hop.toNat
  if decide (roleNow s p.val ≠ rRanging) || decide (e.mark ≠ s.tex.stepMark) then s
  else if e.raw.isEmpty then
    let body := [e.exch, 0] ++ leBytes 6 e.t2 ++ leBytes 6 t
    let f := { txNew tyRangeResp 0 body s with route := e.route, hop := e.hop }
    let bytes := frameBytes tyRangeResp 0 e.route.isSome body.length
    match sealFrame (hdrFor f 0 e.route.isSome s) e.route 0 body s with
    | (.ok built inv, _, s) =>
      match legOnLine { f with inv := BitVec.ofNat 40 inv } p.val (legMode entry bytes s) built s with
      | (true, s) => { s with tex := { s.tex with lastResp := some (e.exch, e.t2, t % 2 ^ 48, e.mark) } }
      | (false, s) => s
    | (_, _, s) => s
  else
    let idx := (e.route.map (·.idx)).getD 0
    let (g, s) := grantNow s
    let built := relayRebuild e.raw (idx + 1) g
    let f := { txNew tyRangeReq e.leaf [] s with raw := some e.raw, route := e.route, hop := e.hop }
    match legOnLine f p.val (legMode entry built.length s) built s with
    | (true, s) =>
      if e.leg ≤ e.hops then { s with tex := { s.tex with exch := { e with due := none, leg := e.leg + 1 } :: s.tex.exch } } else s
    | (false, s) => s

/-- RANGE_LEG_SEND (10 R344). -/
def execRangeLegSend (p : Port) (s : State) : Out := run s fun s =>
  match s.tex.exch.find? fun e => decide (e.port = p) && e.due.isSome with
  | some e => if lineOpen s then sendLeg p e (e.due.getD 0) s else s
  | none => s

/-- x - y modulo 2^48, signed (10 R348). -/
def delta48 (x y : Nat) : Int := (BitVec.ofNat 48 x - BitVec.ofNat 48 y).toInt

/-- Twice theta, in 1/256 ns (10 R348). -/
def twoTheta (t1 t2 t3 t4 : Nat) : Int := delta48 t2 t1 - delta48 t4 t3

/-- The head receives leg 2H (10 R348, R349). -/
def onRangeResp (o : Front) (s : State) : State :=
  let x := o.body.getD 0 0
  match s.tex.exch.find? fun e => e.initiator && decide (e.exch = x) && decide (e.leaf = o.h.src) with
  | none => s
  | some e =>
    if !legInFolio o e.folio s then s
    else
      let t2 := leAt o.body 2 6
      let t3 := leAt o.body 8 6
      let t4 := ts48 (rxStamp o.f s)
      let th := roundDiv (twoTheta e.t1 t2 t3 t4) 2
      let d := roundDiv (delta48 t4 e.t1 - delta48 t3 t2) 2 - (e.hops * e.p * 256 : Nat)
      let r : Nat := if d < 0 then 0 else min 16777215 d.toNat
      let s := updEntry e.leaf.toNat (fun en => set512 en 200 24 r) (dropExch e s)
      let s := { s with tex := { s.tex with
        theta := BitVec.ofNat 32 (satO th)
        rngOk := inc32 s.tex.rngOk
        lastRng := spPut 0 e.leaf.toNat (s.qr.qnum.toNat + 1) s.tex.lastRng
        first := if s.tex.first = some e.leaf then none else s.tex.first } }
      let s := submit (txNew tyRangeResult e.leaf ([x, 0] ++ leBytes 6 e.t1 ++ leBytes 6 t4) s) s
      raise 0x0509 0xFF [(0, 2, e.leaf.toNat), (2, 1, e.hops), (3, 1, x.toNat), (4, 4, satO th), (8, 4, satO d)] s

def clamp24 (x : Int) : Int := if x > 8388607 then 8388607 else if x < -8388607 then -8388607 else x

/-- A correction of -th2/2^(g+1), in 1/256 ns, by slew or by step (10 R350). -/
def rangeCorrect (th2 : Int) (g : Nat) (s : State) : State :=
  if teStepLim s * 2 ^ (g + 1) < th2.natAbs then
    let s := if s.te.st = 2 then raise 0x0502 0xFF [(0, 1, teSrc s), (1, 1, 2), (4, 4, satO (roundDiv th2 (2 ^ (g + 1))))]
        { s with te := { s.te with st := 1 } } else s
    teStep (roundDiv th2 (2 ^ (g + 1))) { s with tex := { s.tex with consIn := 0, consOut := 0 } }
  else addSlew (roundDiv (-(th2 * (u48 : Int))) (2 ^ (g + 1))) s

/-- RANGE_RESULT at the leaf (10 R350). -/
def onRangeResult (o : Front) (s : State) : State :=
  match s.tex.lastResp with
  | none => s
  | some (x, t2, t3, mark) =>
    if o.body.getD 0 0 ≠ x ∨ mark ≠ s.tex.stepMark then s
    else
      let th2 := twoTheta (leAt o.body 2 6) t2 t3 (leAt o.body 8 6)
      let full := !s.tex.firstDone || decide (3 ≤ s.tex.rejRun)
      if !full && decide (fld s.te.rngLim 0 16 * 512 < th2.natAbs) then
        let s := { s with tex := { s.tex with rngRej := inc32 s.tex.rngRej, rejRun := s.tex.rejRun + 1 } }
        raise 0x050B 0xFF [(3, 1, x.toNat), (4, 4, satO (roundDiv th2 2))] s
      else
        let g := if full then 0 else fld s.te.rngCfg 24 2
        let b := clamp24 (roundDiv (beaconBias s * 2 ^ (g + 1) - th2) (2 ^ (g + 1)))
        let s := updEntry 0 (fun en => set512 en 200 24 (BitVec.ofInt 24 b).toNat) s
        let s := { s with te := { s.te with ranged := true }, tex := { s.tex with firstDone := true, rejRun := 0 } }
        rangeCorrect th2 g s

/-! ### Other registers -/

def leapCtrlWrite (v : Word) (s : State) : State :=
  if bitAt v 31 && decide (s.te.leapAt.toNat ≤ s.te.sec.toNat + 2) then teRefuse 5 0x501C v s
  else { s with te := { s.te with leapCtrl := v &&& 0xC0000000 } }

/-- LEAP_ARM (10 R353). -/
def execLeapArm (v : Word) (s : State) : Out := runHost s (leapCtrlWrite (v ||| 0x80000000))

def leapAtHiWrite (a : Agent) (v : Word) (s : State) : State :=
  let (lo, s) := takeLo a false 0x5020 (s.te.leapAt.setWidth 32) s
  { s with te := { s.te with leapAt := BitVec.ofNat 48 (lo.toNat + 4294967296 * fld v 0 16) } }

/-- TE_TC_EPOCH: the epoch reached stays in force until SEC reaches the new one (10 R356). -/
def epochHiWrite (a : Agent) (v : Word) (s : State) : State :=
  let (lo, s) := takeLo a false 0x502C (s.te.tcEpoch.setWidth 32) s
  let act := if s.te.tcEpoch.toNat ≤ s.te.sec.toNat then s.te.tcEpoch else s.tex.tcActive
  { s with
    te := { s.te with tcEpoch := BitVec.ofNat 48 (lo.toNat + 4294967296 * fld v 0 16) }
    tex := { s.tex with tcActive := act } }

def teDiscWrite (v : Word) (s : State) : State := { s with te := { s.te with disc := v } }
def ppsCfgWrite (v : Word) (s : State) : State := { s with te := { s.te with ppsCfg := oneFld (v &&& 0x3FF) 0 10 } }
def ppsinDlyWrite (v : Word) (s : State) : State := { s with te := { s.te with ppsinDly := v } }
def utcWrite (v : Word) (s : State) : State := { s with te := { s.te with utc := v &&& 0xFFFF } }
def tcWrite (v : Word) (s : State) : State := { s with te := { s.te with tc := v &&& 0x00FF0003 } }
def rngCfgWrite (v : Word) (s : State) : State := { s with te := { s.te with rngCfg := v &&& 0x8300FFFF } }
def rngLimWrite (v : Word) (s : State) : State := { s with te := { s.te with rngLim := v &&& 0xFFFF } }
def teStatusWrite (v : Word) (s : State) : State := { s with te := { s.te with refused := w1c s.te.refused v 31 } }

/-- TE_STATUS (10 Table 10.5). -/
def teStatus (s : State) : Word :=
  at32 (ofBool s.te.refused) 31 ||| at32 s.te.cause.toNat 28 ||| at32 (s.te.armed.map (·.toNat) |>.getD 0) 26 |||
    at32 (ofBool (decide (s.te.slew ≠ 0))) 25 ||| at32 (ofBool s.te.ranged) 24 ||| at32 (ofBool s.te.leap) 23 |||
    at32 s.te.srcOk.toNat 20 ||| at32 s.te.st.toNat 0

end Sys2Proof.Machine
end

