-- ==== Sys2Proof/Machine/Aln.lean ====
section
/-! DEFINITION. The alignment of generators across devices (12): the generator offset, kettle mode, the stitch chain. -/
namespace Sys2Proof.Machine

def kEn (s : State) : Bool := bitAt s.aln.kcfg 31
def kDrive (s : State) : Bool := bitAt s.aln.kcfg 30
def kAuto (s : State) : Bool := bitAt s.aln.kcfg 29
def kOnce (s : State) : Bool := bitAt s.aln.kcfg 28
def kAvg (s : State) : Nat := min 6 (fld s.aln.kcfg 24 3)
def kWin (s : State) : Nat := orOne (fld s.aln.kcfg 0 8)

/-- ROLE: 0 OFF, 1 MASTER, 2 SLAVE; 3 is read as 0. -/
def stRole (s : State) : Nat := fld s.aln.stcfg 30 2 % 3
def stPer (s : State) : Nat := min 4 (fld s.aln.stcfg 16 3)
def stOutEn (s : State) : Bool := bitAt s.aln.stcfg 29
def stSrc (s : State) : Fin 8 := ⟨fld s.aln.stcfg 24 3, Nat.mod_lt _ (by decide)⟩

/-- A refusal of an alignment register (12 R418); no channel is named, so CH is a free value (log entry 2). -/
def alnRefuse (off : Nat) (v : Word) (s : State) : State :=
  let (f, s) := draw s
  rgRefuse (f.toNat % 8) 6 off v s

/-! ### The offset (12 R399, R400) -/

def gofsWrite (v : Word) (s : State) : State :=
  if kAuto s ∨ stRole s = 2 then alnRefuse 0x6100 v s else gofsChange v s

/-- GOFS_WRITE (12 R400). -/
def execGofsWrite (v : Word) (s : State) : Out := runHost s (gofsWrite v)

/-- GOFS moved by a correction. -/
def gofsAdd (d : Int) (s : State) : State := gofsChange (BitVec.ofInt 32 (s.aln.gofs.toInt + d)) s

/-! ### Kettle mode (12 R401 to R404) -/

/-- A mean of 2^KAVG errors (12 R403). -/
def kettleMean (s : State) : State :=
  let m := roundDiv s.aln.ksum (2 ^ kAvg s)
  let s := { s with aln := { s.aln with ksum := 0, kn := 0, kmeas := BitVec.ofNat 32 (satO m) } }
  let s := raise 0x0610 0xFF [(0, 4, satO m), (4, 2, s.aln.kok.toNat), (6, 2, s.aln.kmiss.toNat)] s
  let s :=
    if fld s.aln.kmax 0 16 * 256 < m.natAbs then raise 0x0612 0xFF [(0, 4, satO m)] s
    else if kAuto s then
      let s := gofsAdd m s
      raise 0x0611 0xFF [(0, 4, satO m), (4, 4, s.aln.gofs.toNat)] s
    else s
  if kOnce s then { s with aln := { s.aln with kcfg := s.aln.kcfg &&& 0x7FFFFFFF } } else s

/-- A whole number of ns that saturates at 32 bits. -/
def satNs (x : Int) : Nat := satO (x / 256)

def kettleMiss (e : Int) (s : State) : State :=
  let s := { s with aln := { s.aln with kmiss := incSat16 s.aln.kmiss } }
  let due := match s.aln.missTick with
    | some t => decide (t + ticksMs 16000 ≤ s.now)
    | none => true
  if due then
    raise 0x0613 0xFF [(0, 2, s.aln.kmiss.toNat), (4, 4, satNs e)] { s with aln := { s.aln with missTick := some s.now } }
  else s

/-- The time engine jumped within the last second (12 R402). -/
def justJumped (s : State) : Bool := decide (s.tex.stepMark ≠ 0) && decide (s.now < s.tex.stepTick + ticksMs 1000)

/-- KETTLE_EDGE (12 R401, R402): `sub` places the edge within its tick, in steps of 50 ps. -/
def execKettleEdge (sub : BitVec 6) (s : State) : Out := run s fun s =>
  if !kEn s || decide (s.pwr.st = .holdover) || !refPresent s || justJumped s then s
  else
    let res := genTime s + (sub.toNat * 64 / 5 : Nat) - s.aln.kdly.toInt
    let e := fromSecond (res - (fld s.aln.kexp 0 30 * 256 : Nat))
    if kWin s * 256000 < e.natAbs then kettleMiss e s
    else
      let s := { s with aln := { s.aln with kok := incSat16 s.aln.kok, ksum := s.aln.ksum + e, kn := s.aln.kn + 1 } }
      if 2 ^ kAvg s ≤ s.aln.kn then kettleMean s else s

/-- KETTLE_DRIVE (12 R404). -/
def execKettleDrive (s : State) : Out := run s fun s =>
  if kDrive s then { s with aln := { s.aln with kout := some s.now } } else s

def kcfgWrite (v : Word) (s : State) : State :=
  if (bitAt v 30 && bitAt v 29) || (bitAt v 29 && decide (stRole s = 2)) then alnRefuse 0x6104 v s
  else
    let fresh := bitAt v 31 && !kEn s
    let s := { s with aln := { s.aln with kcfg := oneFld (limFld (v &&& 0xF70000FF) 24 3 0 6) 0 8 } }
    if fresh then { s with aln := { s.aln with ksum := 0, kn := 0 } } else s

/-- KETTLE_CFG_WRITE (12 R404, R413). -/
def execKettleCfgWrite (v : Word) (s : State) : Out := runHost s (kcfgWrite v)

/-! ### The stitch chain (12 R407 to R414) -/

def stcfgWrite (v : Word) (s : State) : State :=
  if fld v 30 2 = 2 ∧ kEn s ∧ kAuto s then alnRefuse 0x6120 v s
  else
    let was := stRole s
    let w := oneFld (limFld (v &&& 0xE7073F00) 16 3 0 4) 8 4
    let s := { s with aln := { s.aln with stcfg := if fld w 30 2 = 3 then setFld w 30 2 0 else w } }
    if stRole s = 2 then
      (if was = 2 then s else { s with aln := { s.aln with ststate := 1, lockRun := 0, deep := false } })
    else { s with aln := { s.aln with ststate := 0, deep := false } }

/-- STITCH_CFG_WRITE (12 R413). -/
def execStitchCfgWrite (v : Word) (s : State) : Out := runHost s (stcfgWrite v)

/-- The 16 bytes of a stitch word (12 Table 12.1). -/
def stitchBytes (depth : Nat) (hold : Bool) (seqno : Byte) (gsec gns : Nat) : List Byte :=
  let b := [0xD5, BitVec.ofNat 8 (depth + 8 * ofBool hold), seqno, 0] ++ leBytes 6 gsec ++ leBytes 4 gns
  b ++ leBytes 2 (hcs b)

/-- The generator-time instant nearest to now whose nanoseconds are a multiple of 2^PER ms, in ns. -/
def markNs (s : State) : Nat :=
  let p := 1000000 * 2 ^ stPer s
  let g := genTime s / 256
  let sec := g / 1000000000
  let k := (g - sec * 1000000000 + (p / 2 : Nat)) / (p : Int)
  (sec * 1000000000 + k * (p : Int)).toNat

/-- STITCH_WORD_SEND (12 R408, R409). -/
def execStitchWordSend (s : State) : Out := run s fun s =>
  let slave := decide (stRole s = 2)
  if (stRole s = 1 ∨ (slave ∧ stOutEn s ∧ !s.aln.deep)) ∧ s.pwr.st ≠ .holdover then
    let hold := decide ((chAt s (stSrc s)).st ≠ .running) || (slave && decide (s.aln.ststate ≠ 3))
    let g := markNs s
    let w := stitchBytes (if slave then s.aln.pos.toNat else 0) hold s.aln.seqno (g / 1000000000) (g % 1000000000)
    { s with aln := { s.aln with seqno := s.aln.seqno + 1, lastWord := some (BitVec.ofNat 128 (ofLe w)) } }
  else s

/-- A slave enters LOST and keeps its offset (12 R412): 1 HOLD received, 2 LOSS periods without a word. -/
def stitchLost (cause : Nat) (s : State) : State :=
  raise 0x0616 0xFF [(0, 1, cause), (4, 4, s.aln.gofs.toNat)] { s with aln := { s.aln with ststate := 4, lockRun := 0 } }

/-- A word with DEPTH 7 is refused: the slave stands in LOST and sends nothing; entering LOST has its event, whose cause
Table 16.9 does not name for it: a free value (12 R410, R412; log entry 12). -/
def stitchDeep (s : State) : State :=
  let s := { s with aln := { s.aln with deep := true } }
  if s.aln.ststate = 4 then s
  else
    let (f, s) := draw s
    stitchLost (f.toNat % 256) s

/-- A word handled in ACQUIRING (12 Table 12.2). -/
def stitchAcquire (e : Int) (s : State) : State :=
  let s := gofsAdd e s
  raise 0x0614 0xFF [(0, 4, satO e), (4, 4, s.aln.gofs.toNat)] { s with aln := { s.aln with ststate := 2, lockRun := 0 } }

def stMax (s : State) : Nat := fld s.aln.stlim 16 16 * 256
def stLock (s : State) : Nat := fld s.aln.stlim 0 16
def stGain (s : State) : Nat := 2 ^ fld s.aln.stcfg 12 2

/-- Consecutive words near enough; the fourth locks (12 R411). -/
def stitchCount (e : Int) (s : State) : State :=
  let s := { s with aln := { s.aln with lockRun := if e.natAbs ≤ stLock s then s.aln.lockRun + 1 else 0 } }
  if decide (s.aln.ststate.toNat = 2) && decide (4 ≤ s.aln.lockRun) then
    raise 0x0615 0xFF [(0, 1, s.aln.pos.toNat), (4, 4, satO e)] { s with aln := { s.aln with ststate := 3 } }
  else s

/-- A word handled in LOCKING or LOCKED. -/
def stitchTrack (e : Int) (s : State) : State :=
  if stMax s < e.natAbs then { s with aln := { s.aln with ststate := 1, lockRun := 0 } }
  else stitchCount e (gofsAdd (roundDiv e (stGain s)) s)

/-- STITCH_WORD_RECEIVE (12 R410, R411). -/
def execStitchWordReceive (w : StitchRx) (s : State) : Out := run s fun s =>
  let b := leBytes 16 w.word.toNat
  if stRole s ≠ 2 ∨ s.pwr.st = .holdover then s
  else if b.getD 0 0 ≠ 0xD5 ∨ hcs (b.take 14) ≠ leAt b 14 2 then
    { s with aln := { s.aln with stcrc := incSat16 s.aln.stcrc } }
  else
    let depth := leAt b 1 1 % 8
    let hold := (leAt b 1 1).testBit 3
    if depth = 7 then raise 0x0617 0xFF [(0, 1, 7)] (stitchDeep s)
    else
      let stamp := (stamp256 w.mark : Int) - s.aln.gofs.toInt - s.aln.stdly.toNat
      let e := stamp - ((leAt b 4 6 * 1000000000 + leAt b 10 4) * 256 : Nat)
      let s := { s with aln := { s.aln with
        pos := BitVec.ofNat 3 (depth + 1)
        holdIn := hold
        deep := false
        sterr := BitVec.ofNat 32 (satO e) } }
      if hold then (if s.aln.ststate = 4 then s else stitchLost 1 s)
      else if s.aln.ststate = 1 ∨ s.aln.ststate = 4 then stitchAcquire e s
      else stitchTrack e s

/-- STITCH_LOSS (12 R412). -/
def execStitchLoss (s : State) : Out := run s fun s =>
  if stRole s = 2 ∧ s.aln.ststate ≠ 4 ∧ s.pwr.st ≠ .holdover then stitchLost 2 s else s

/-! ### Other registers (12 Table 12.4) -/

def kexpWrite (v : Word) (s : State) : State := { s with aln := { s.aln with kexp := v &&& 0x3FFFFFFF } }
def kdlyWrite (v : Word) (s : State) : State := { s with aln := { s.aln with kdly := v } }
def kmaxWrite (v : Word) (s : State) : State := { s with aln := { s.aln with kmax := v &&& 0xFFFF } }
def stdlyWrite (v : Word) (s : State) : State := { s with aln := { s.aln with stdly := v } }
def stlimWrite (v : Word) (s : State) : State := { s with aln := { s.aln with stlim := v } }
def kcnt (s : State) : Word := at32 s.aln.kmiss.toNat 16 ||| at32 s.aln.kok.toNat 0
def stStat (s : State) : Word :=
  at32 s.aln.ststate.toNat 29 ||| at32 s.aln.pos.toNat 24 ||| at32 (ofBool s.aln.holdIn) 23

end Sys2Proof.Machine
end

