-- ==== Sys2Proof/Machine/Sleepy.lean ====
section
/-! DEFINITION. Sleepy leaves (09): margins, contact and drift, listening windows, misses and search, lingering,
keep-alives and the wake budget. -/
namespace Sys2Proof.Machine

/-! ### Margins (09 R295) -/

/-- J_lp in ns at the nominal frequency. -/
def slpJitter (s : State) : Nat := if nomHz s = 60 then 46300 else 55600
/-- FIX in ns. -/
def slpFix (s : State) : Nat := 1000 * fld s.slp.cfg 8 8
/-- Quires between the beacon wakes of an appointed leaf (09 R297). -/
def slpBevery (s : State) : Nat := 2 ^ fld s.slp.cfg 4 3
def slpMiss (s : State) : Nat := orOne (fld s.slp.cfg 0 4)
/-- LINGER as the leaf itself counts it: 1 while over budget (09 R315). -/
def slpLinger (s : State) : Nat := if s.slp.overBudget then 1 else orOne (fld s.slp.ctrl 8 4)
/-- Ticks since the last contact. -/
def slpSince (s : State) : Nat := s.now - s.slp.contactAt
def slpLearned (s : State) : Bool := (eDrift (entryAt s 0)).getLsbD 15
/-- DRIFT of an entry, in units of 2 ns per second (09 R292). -/
def driftOf (e : Entry) : Int := ((eDrift e).setWidth 15).toInt

/-- M in ns. -/
def slpMargin (s : State) : Nat :=
  let m := slpJitter s + slpFix s
  if slMode s 0 = 1 ∧ slpLearned s ∧ s.slp.quiresSince ≤ 2 * slpBevery s ∧ s.qr.st = .mains ∧ s.qrx.fwQuire.isNone ∧
      (phAt s (refSource s)).st = .locked then m
  else min (m + fld s.slp.cfg 16 16 * slpSince s / 400000000) (1000 * fld s.slp.lim 16 16)

/-! ### Contact (09 R290 to R294) -/

/-- The reference angle at the first-symbol boundary of a received frame. -/
def refAtFrame (f : RxFrame) (s : State) : Word := f.angle - (angleOf (phAt s f.port).acc - refAngle s)

/-- t_obs - t_nom in ns for a frame at the margin of a folio of this quire (09 R291). -/
def marginError (f : RxFrame) (folio : Nat) (s : State) : Int :=
  let fq := quireF s
  if fq = 0 then 0
  else match s.qrx.fwQuire with
    | some t0 => roundDiv (stamp256 (rxStamp f s)) 256 -
        ((t0 + folio * s.qr.fwPeriod.toNat / fq + 1000 * marginUs s : Nat) : Int)
    | none =>
      let d := sAng (refAtFrame f s - BitVec.ofNat 32 (folioMa fq (folio % fq) + marginMa s (marginUs s)))
      let hz := (runFreq (phAt s (refSource s))).toNat
      if hz = 0 then 0 else roundDiv (d * 1000000000) (hz * 256)

/-- DRIFT after a contact dt ticks after the one before, with the prediction off by e ns (09 R292). -/
def driftNext (d e : Int) (dt : Nat) : Int :=
  if dt < 400000000 then d
  else
    let x := d + roundDiv (e * 400000000) (16 * dt)
    if x > 16383 then 16383 else if x < -16383 then -16383 else x

/-- What the prediction misses: the error against the margin, less the drift over dt. -/
def predError (err d : Int) (dt : Nat) : Int := err - roundDiv (d * 2 * (dt : Int)) 400000000

/-- A contact of a sleepy leaf with its head (09 R290 to R293). -/
def slpContact (f : RxFrame) (folio : Nat) (s : State) : State :=
  let d := driftOf (entryAt s 0)
  let dt := slpSince s
  let e := predError (marginError f folio s) d dt
  let inside := decide (e.natAbs ≤ slpFix s)
  let i := if inside then s.slp.inFix + 1 else 0
  let o := if inside then 0 else s.slp.outFix + 1
  let old := slpLearned s
  let new := if 4 ≤ i then true else if 2 ≤ o then false else old
  let s := updEntry 0 (fun en => set512 (set512 en 224 15 (BitVec.ofInt 15 (driftNext d e dt)).toNat) 239 1 (ofBool new)) s
  let s := { s with slp := { s.slp with
    inFix := i
    outFix := o
    contactAt := s.now
    quiresSince := 0
    missed := 0
    window := none
    resync := false } }
  if new ≠ old then
    raise 0x0410 0xFF [(0, 2, s.ltx.myNum.toNat), (2, 1, ofBool new), (4, 2, (eDrift (entryAt s 0)).toNat)] s
  else s

/-- The head's estimate of a sleepy leaf's drift, from the frames the leaf sends at margins (09 R294). -/
def headDrift (f : RxFrame) (n : Nat) (s : State) : State :=
  let last := spGet 0 s.slph.lastFrom n
  let s := { s with slph := { s.slph with lastFrom := spPut 0 n (s.now + 1) s.slph.lastFrom } }
  if last = 0 then s
  else
    let d := driftOf (entryAt s n)
    let dt := s.now + 1 - last
    let e := predError (marginError f s.qr.folio s) d dt
    updEntry n (fun en => set512 en 224 15 (BitVec.ofInt 15 (driftNext d e dt)).toNat) s

/-! ### Awake time (09 R315) -/

def awakeStart (s : State) : State :=
  { s with slp := { s.slp with awakeFrom := some (s.slp.awakeFrom.getD s.now) } }

/-- The count of awake time ends, `more` ticks from now. -/
def awakeStop (more : Nat) (s : State) : State :=
  match s.slp.awakeFrom with
  | some t => { s with slp := { s.slp with awakeFrom := none, spentTicks := s.slp.spentTicks + (s.now - t) + more } }
  | none => s

/-- LT_SLP_SPENT in ms. -/
def slpSpent (s : State) : Nat :=
  (s.slp.spentTicks + (match s.slp.awakeFrom with
    | some t => s.now - t
    | none => 0)) / 400000

/-- The receiver has nothing to stay awake for. -/
def slpIdle (s : State) : Bool := s.slp.window.isNone && s.slp.linger.isNone && !s.slp.search

/-- A leaf that may not sleep stops counting once it neither listens nor lingers. -/
def awakeSettle (s : State) : State := if slpIdle s && !bitAt s.slp.ctrl 0 then awakeStop 0 s else s

/-! ### What a received frame does for a sleepy leaf, and for its head -/

def sleepyLeaf (s : State) : Bool := isLeaf s && isJoined s && decide (slMode s 0 ≠ 0)

/-- A frame for the leaf itself: it lingers (09 R305), this folio's end included. -/
def slpLingerNow (port : Nat) (s : State) : State :=
  awakeStart { s with slp := { s.slp with linger := some (slpLinger s + ofBool (decide (roleNow s port = rSleepy))) } }

/-- The contact and the linger of an authenticated frame from the head: a WAKE copy, or the first frame of a
SLEEPY_WINDOW folio (09 R290). A beacon's contact is taken with the beacon. -/
def slpHeard (o : Front) (s : State) : State :=
  let ty := o.h.ty
  if sleepyLeaf s && decide (o.h.src = 0) then
    let first := decide (ty = tyWake) || (decide (roleNow s o.f.port.val = rSleepy) && !s.slp.gotFolio)
    let s := if first && decide (ty ≠ tyBeacon) then slpContact o.f s.qr.folio s else s
    if o.h.dst = mySrc s && !(decide (ty = tyWake) && decide (slMode s 0 = 2)) then slpLingerNow o.f.port.val s else s
  else if isHead s && decide (o.cls = 1) && decide (ty = tyData) && decide (slMode s o.h.src.toNat ≠ 0) &&
      decide (roleNow s o.f.port.val = rContention) then headDrift o.f o.h.src.toNat s
  else s

/-- A frame heard at all: no later one of this folio is its first. -/
def slpFolioUsed (s : State) : State := { s with slp := { s.slp with gotFolio := true } }

/-! ### WAKE (09 R303, R304) -/

/-- A WAKE copy in sampled mode names the target; later copies of the episode are ignored. -/
def onWake (o : Front) (s : State) : State :=
  if isLeaf s && decide (slMode s 0 = 2) && s.slp.target.isNone then
    let qf := quireQ s * quireF s
    let t := folioNow s + leAt o.body 0 2
    if qf = 0 then s
    else { s with slp := { s.slp with target := some (BitVec.ofNat 32 (t / qf), t % qf) } }
  else s

/-! ### Keep-alives (09 R312, R313) -/

def keepAlive (s : State) : State :=
  let f := { txNew tyData 0 [] s with ackreq := true }
  contend f.id (submit f s)

def keepQueued (s : State) : Bool :=
  s.line.q.any fun f => decide (f.ty.toNat = tyData) && f.body.isEmpty && f.desc.isNone && f.raw.isNone

/-- KEEPALIVE_DUE (09 R313). -/
def execKeepaliveDue (s : State) : Out := run s fun s =>
  if sleepyLeaf s && decide (tSilent s * slPer s 0 / 2 ≤ s.slp.kaQuires) && !keepQueued s then keepAlive s else s

/-! ### Windows, misses and search (09 R296 to R311) -/

/-- LT_SLP_SEARCH. -/
def searchEvent (entered : Bool) (s : State) : State :=
  raise 0x0412 0xFF [(0, 1, ofBool entered), (4, 4, slpSince s / 400000)] s

/-- A spine beacon authenticates: search ends, and a keep-alive goes out at once (09 R309, R311). -/
def searchExit (s : State) : State :=
  if s.slp.search then
    let s := searchEvent false { s with slp := { s.slp with search := false, missed := 0 } }
    if keepQueued s then s else keepAlive s
  else s

/-- A miss; after MISS of them in a row the leaf searches (09 R309). -/
def countMiss (kind : Nat) (s : State) : State :=
  let m := if s.slp.missed = 255 then 255 else s.slp.missed + 1
  let s := { s with slp := { s.slp with missed := m } }
  let s := if s.slp.missOnce then s
    else raise 0x0411 0xFF [(0, 1, m.toNat), (1, 1, kind), (4, 2, slpMargin s / 1000)]
      { s with slp := { s.slp with missOnce := true } }
  if slpMiss s ≤ m.toNat ∧ !s.slp.search then
    awakeStart (searchEvent true { s with
      slp := { s.slp with search := true }
      ltx := { s.ltx with headMiss := 0 } })
  else s

/-- The leaf's opportunity lies in a SLEEPY_WINDOW folio of its map. -/
def oppHasWindow (s : State) : Bool :=
  (portList (ePorts (entryAt s 0))).all fun p => decide (roleAt s p (slFolio s 0) = rSleepy)

/-- Whether a window without contact is a miss, and of which kind: an appointment, a beacon wake, a resync; an
appointment that the map gives no window only when the quire is one of the beacon schedule (09, where things meet). -/
def missKind (k : WindowKind) (s : State) : Option Nat :=
  match k with
  | .opportunity =>
    if slMode s 0 = 1 ∧ (oppHasWindow s ∨ s.qr.qnum.toNat % slpBevery s = 0) then some 0 else none
  | .target => none
  | .beacon => some 1
  | .resync => some 2

/-- The wakes each mode has (09 R296, R297, R299, R303, R308): a sampled leaf that knows a target sleeps until it. -/
def windowDue (k : WindowKind) (s : State) : Bool :=
  match k with
  | .opportunity => !(decide (slMode s 0 = 2) && s.slp.target.isSome)
  | .target => s.slp.target.isSome
  | .beacon => decide (slMode s 0 = 1)
  | .resync => decide (slMode s 0 = 2) && s.slp.resync

/-- LISTEN_WINDOW_OPEN (09 R296, R297, R299). -/
def execListenWindowOpen (k : WindowKind) (s : State) : Out := run s fun s =>
  if sleepyLeaf s && decide (s.pwr.st = .active) && qrRunning s && s.slp.window.isNone && windowDue k s then
    awakeStart { s with slp := { s.slp with
      window := some k
      target := match k with
        | .target => none
        | _ => s.slp.target } }
  else s

/-- LISTEN_WINDOW_CLOSE (09 R296, R299, R309): no port is in a frame, so the window closes without contact. -/
def execListenWindowClose (s : State) : Out := run s fun s =>
  match s.slp.window with
  | none => s
  | some k =>
    if (List.range 3).any fun p => (portX s p).rxActive.isSome then s
    else
      let s := { s with slp := { s.slp with window := none } }
      awakeSettle (match missKind k s with
        | some m => countMiss m s
        | none => s)

/-- LINGER_END (09 R305): the leaf's own linger, or the head's count for leaf n, has run out. -/
def execLingerEnd (leaf : BitVec 12) (s : State) : Out := run s fun s =>
  if isLeaf s then
    if s.slp.linger = some 0 then awakeSettle { s with slp := { s.slp with linger := none } } else s
  else { s with slph := { s.slph with
    headLinger := s.slph.headLinger.filter fun x => decide (x.1 ≠ leaf.toNat ∨ 0 < x.2) } }

/-- RESYNC_DUE (09 R308). -/
def execResyncDue (s : State) : Out := run s fun s =>
  if sleepyLeaf s && decide (slMode s 0 = 2) &&
      (decide (orOne (fld s.slp.lim 0 16) ≤ s.slp.quiresSince) || decide (1000 * fld s.slp.lim 16 16 ≤ slpMargin s)) then
    { s with slp := { s.slp with resync := true } }
  else s

/-! ### The wake budget (09 R315) -/

/-- BUDGET_PERIOD_START. -/
def execBudgetPeriodStart (s : State) : Out := run s fun s =>
  { s with slp := { s.slp with
    spentTicks := 0
    awakeFrom := s.slp.awakeFrom.map fun _ => s.now
    overBudget := false } }

/-- BUDGET_REACHED: LT_SLP_BUDGET, LINGER 1, no frame of its own but keep-alives until the period ends. -/
def execBudgetReached (s : State) : Out := run s fun s =>
  if isLeaf s && !s.slp.overBudget && decide (fld s.slp.budget 0 20 ≤ slpSpent s) then
    raise 0x0415 0xFF [(0, 4, slpSpent s), (4, 4, fld s.slp.budget 0 20)]
      { s with slp := { s.slp with
        overBudget := true
        linger := s.slp.linger.map (min 1) } }
  else s

/-! ### Registers (09 Table 09.2): MOPEN and the time since contact are a sleepy leaf's, 0 at any other device -/

def slpStatus (s : State) : Word :=
  let st := if s.slp.search then 4 else if s.slp.linger.isSome then 3
    else match s.pwr.st with
      | .appointed => 1
      | .sampled => 2
      | _ => 0
  at32 (ofBool (slpLearned s)) 31 ||| at32 st 28 ||| at32 s.slp.missed.toNat 16 ||| at32 (if sleepyLeaf s then slpMargin s / 1000 % 65536 else 0) 0

def slpSinceMs (s : State) : Word := if sleepyLeaf s then BitVec.ofNat 32 (min 4294967295 (slpSince s / 400000)) else 0

end Sys2Proof.Machine
end

