-- ==== Sys2Proof/Machine/Quire.lean ====
section
/-! DEFINITION. The quire scheduler (02): role-map banks and swaps, beacons, starting and stopping, the boundaries of
folios and quires, realignment; and what every quire boundary turns over in the other blocks. -/
namespace Sys2Proof.Machine

/-! ### Banks and swaps (02 R68 to R73) -/

def updBank (b : Nat) (f : Bank → Bank) (s : State) : State := { s with qr := { s.qr with bank := vupd s.qr.bank b f } }

/-- A swap that was pending is cancelled (02 R72); the beacon of this quire still names it. -/
def cancelSwap (cause : Nat) (s : State) : State :=
  match s.qr.swapQ with
  | none => s
  | some qs =>
    let s := { s with
      qr := { s.qr with swapQ := none }
      qrx := { s.qrx with cancelled := some (s.qr.qnum, qs, bankDigest (bankAt s (inactive s))) } }
    raise 0x0207 0xFF [(0, 4, qs.toNat), (4, 1, cause)] s

/-- A write to a bank: to the active one it is ignored and shown in ACTIVE_WR (02 R68). -/
def bankWrite (b : Nat) (f : Bank → Bank) (s : State) : State :=
  if b = s.qr.active.val then { s with qr := { s.qr with activeWr := true } }
  else updBank b f (cancelSwap 1 s)

def qrGeomWrite (b : Nat) (v : Word) (s : State) : State := bankWrite b (fun k => { k with geom := v &&& 0x03FF031F }) s

def mapBankNo (a : Word) : Nat := fld a 12 1
def mapPhase (a : Word) : Nat := fld a 10 2
def mapWord (a : Word) : Nat := fld a 0 7

/-- Every access to QR_MAP_DATA advances WORD; from 95 it returns to 0 and PHASE advances (02 Table 02.8). -/
def mapAdvance (s : State) : State :=
  let a := s.qr.mapAddr
  let n := if 95 ≤ mapWord a then setFld (setFld a 0 7 0) 10 2 (if 2 ≤ mapPhase a then 0 else mapPhase a + 1)
    else setFld a 0 7 (mapWord a + 1)
  { s with qr := { s.qr with mapAddr := n } }

def mapAddrOk (a : Word) : Bool := decide (mapPhase a < 3) && decide (mapWord a < 96)

def mapDataWrite (v : Word) (s : State) : State :=
  let a := s.qr.mapAddr
  mapAdvance (if mapAddrOk a then
    bankWrite (mapBankNo a) (fun k => { k with roles := spPut 0 (96 * mapPhase a + mapWord a) (v &&& 0x77777777) k.roles }) s
    else s)

def mapDataRead (s : State) : Word × State :=
  let a := s.qr.mapAddr
  (if mapAddrOk a then spGet 0 (bankAt s (mapBankNo a)).roles (96 * mapPhase a + mapWord a) else 0, mapAdvance s)

/-- MAP_DATA_WRITE (02 R68). -/
def execMapDataWrite (r : MapReg) (v : Word) (s : State) : Out := runHost s fun s =>
  match r with
  | .data => mapDataWrite v s
  | .geom0 => qrGeomWrite 0 v s
  | .geom1 => qrGeomWrite 1 v s

/-- The runs that a partition grants to other heads: no folio 0, no overlap, inside the quire (02 R69). -/
def partOk (own q : Nat) (part : Vector Word 4) : Bool :=
  let runs := ((List.range 4).filter (· ≠ own)).map fun i => (fld (vget part i 0) 16 10, fld (vget part i 0) 0 10)
  let runs := runs.filter fun r => decide (r.2 ≠ 0)
  runs.all (fun r => decide (1 ≤ r.1) && decide (r.1 + r.2 ≤ q)) &&
    (List.range runs.length).all fun i => (List.range i).all fun j =>
      let a := runs.getD i (0, 0)
      let b := runs.getD j (0, 0)
      decide (a.1 + a.2 ≤ b.1) || decide (b.1 + b.2 ≤ a.1)

/-- The longest beacon: 43 bytes and every optional part (05 Table 05.6). -/
def longestBeacon : Nat := 63

/-- A bank is valid (02 R69). -/
def bankValid (s : State) (b : Nat) : Bool :=
  let g := (bankAt s b).geom
  let air := airtimeOf s (.robust (bcfg s)) (frameBytes tyBeacon bcast false longestBeacon)
  decide (fld g 0 5 ≠ 0) && decide (geomF g ≠ 0) && decide (50 ≤ geomBase g) && decide (geomBase g ≤ 1000) &&
    fitsNominal s (geomF g) (geomBase g) air && partOk (fld s.qr.part 0 2) (geomQ g * geomF g) s.qr.partPend

/-- A write to QR_MAP_SWAPQ (02 R70). -/
def mapSwapWrite (qs : Word) (s : State) : State :=
  let d := (qs - s.qr.qnum).toNat
  let refuse := fun cause => raise 0x0208 0xFF [(0, 4, qs.toNat), (4, 1, cause)] { s with qr := { s.qr with refused := true } }
  if !bankValid s (inactive s) then refuse 1
  else if d < 2 ∨ 2 ^ 31 < d then refuse 2
  else { s with
    qr := { s.qr with swapQ := some qs, swapReg := qs }
    qrx := { s.qrx with cancelled := none } }

/-- MAP_SWAP_REQUEST (02 R70). -/
def execMapSwapRequest (v : Word) (s : State) : Out := runHost s (mapSwapWrite v)

def qrPartnWrite (n : Nat) (v : Word) (s : State) : State :=
  let s := cancelSwap 2 s
  { s with qr := { s.qr with partPend := vupd s.qr.partPend n fun _ => v &&& 0x03FF03FF } }

/-- QR_PART_WRITE (02 R80, R72). -/
def execQrPartWrite (n : Fin 4) (v : Word) (s : State) : Out := runHost s (qrPartnWrite n.val v)

/-- The banks swap at the start of quire Qs, and the pending partition takes effect (02 R71); a device that follows
beacons has its partition from them. -/
def doSwap (s : State) : State :=
  let own := fld s.qr.part 0 2
  let s := { s with qr := { s.qr with
    active := 1 - s.qr.active
    swapQ := none
    partNow := if follows s then s.qr.partNow else vupd s.qr.partPend own fun _ => 0 } }
  raise 0x0206 0xFF [(0, 4, s.qr.qnum.toNat), (4, 1, s.qr.active.val), (8, 4, (bankDigest (actBank s)).toNat)] s

/-- A leaf swaps to a map it holds under the digest announced. -/
def leafHoldsPending (s : State) : Bool :=
  match s.qrx.last with
  | some b => decide (b.pendDigest = some (bankDigest (bankAt s (inactive s))))
  | none => false

def swapIfDue (s : State) : State :=
  match s.qr.swapQ with
  | none => s
  | some qs =>
    if (s.qr.qnum - qs).toNat < 2 ^ 31 then
      (if isLeaf s && !leafHoldsPending s then { s with qr := { s.qr with swapQ := none } } else doSwap s)
    else s

/-! ### Realignment (02 R90) -/

/-- A senior head must realign: a step is pending, or flywheel timing runs on while the mains has returned. -/
def needRealign (s : State) : Bool :=
  isHead s && !follows s && ((pendStep s.mpt).isSome || (decide (s.qr.st = .flywheel) && refValid s))

def announceCount (s : State) : Nat := orOne (fld s.qr.announce 0 4)

/-- Qr as announced: the quire after the last announcing one. -/
def announcedQr (s : State) : Word :=
  s.qrx.realignQ.getD (s.qr.qnum + BitVec.ofNat 32 (announceCount s - s.qrx.announced))

def lapseRealign (s : State) : State := { s with qrx := { s.qrx with announced := 0, realignQ := none } }

/-- A spine beacon that announces the realignment has gone out. -/
def announceSent (s : State) : State :=
  if needRealign s && s.qrx.realignQ.isNone then
    let s := if s.qrx.announced = 0 then raise 0x0204 0xFF [(0, 4, (announcedQr s).toNat), (4, 4, s.qrx.predSlip.toNat)] s else s
    let n := s.qrx.announced + 1
    { s with qrx := { s.qrx with
      announced := n
      realignQ := if announceCount s ≤ n then some (s.qr.qnum + 1) else none } }
  else s

/-! ### Beacons (02 R74 to R78, R82) -/

def sameQuire (s : State) : Option (Word × Word) :=
  match s.qr.swapQ with
  | some qs => some (bankDigest (bankAt s (inactive s)), qs)
  | none => match s.qrx.cancelled with
    | some (q, qs, dg) => if q = s.qr.qnum then some (dg, qs) else none
    | none => none

/-- The body of a beacon (05 Table 05.6): the spine beacon announces a realignment, the others repeat it. -/
def beaconBody (kind : Nat) (tod : Stamp) (s : State) : List Byte :=
  let fwRef := decide ((phAt s (refSource s)).st ≠ .locked)
  let fwQ := s.qrx.fwQuire.isSome
  let re := needRealign s && (decide (kind = 0) || decide (0 < s.qrx.announced))
  let sw := sameQuire s
  let own := if follows s then 4 else fld s.qr.part 0 2
  let g := actGeom s
  let flags := ofBool fwRef + 2 * ofBool fwQ + 4 * ofBool re + 8 * ofBool sw.isSome + 16 * ofBool s.qrx.seniorLost
  [BitVec.ofNat 8 kind, BitVec.ofNat 8 flags] ++ leBytes 4 s.qr.qnum.toNat ++
    [BitVec.ofNat 8 (fld g 0 5 + 32 * fCode g + 128 * ofBool (decide (nomHz s = 60)))] ++ leBytes 2 (geomBase g) ++
    leBytes 2 (fwAdd s) ++ leBytes 4 (bankDigest (actBank s)).toNat ++ leBytes 6 tod.sec.toNat ++ leBytes 4 tod.ns.toNat ++
    leBytes 2 tod.frac.toNat ++
    ((List.range 4).map fun i => leBytes 4 (if i = own then 0 else (partWord s i).toNat)).flatten ++
    (match sw with
     | some (dg, qs) => leBytes 4 dg.toNat ++ leBytes 4 qs.toNat
     | none => []) ++
    (if fwQ then leBytes 4 s.qr.fwPeriod.toNat else []) ++
    (if re then leBytes 4 (announcedQr s).toNat ++ leBytes 4 s.qrx.predSlip.toNat else [])

/-- A beacon that R74 or R82 puts at a margin is skipped (02 R76). -/
def beaconSkip (kind : Nat) (s : State) : State :=
  if kind = 2 then s
  else
    let s := { s with qr := { s.qr with beaconSkip := inc32 s.qr.beaconSkip } }
    raise 0x0209 0xFF [(0, 4, s.qr.qnum.toNat), (4, 4, s.qr.beaconSkip.toNat)] s

/-- AIR_BEACON_FROM_MAIN, once per quire, for the first band that draws on its main bucket (03 R116). -/
def beaconFromMain (bands : List Nat) (c : Nat) (s : State) : State :=
  match bands.find? fun b => decide (0 < beaconRest (bandAt s b) c) with
  | some b =>
    if s.air.onceMain then s
    else raise 0x0213 b [(0, 4, s.qr.qnum.toNat), (4, 4, beaconRest (bandAt s b) c)]
      { s with air := { s.air with onceMain := true } }
  | none => s

/-- The first-symbol boundary of a beacon sent now: T0 + M in a flywheel quire (02 R88), its transmit stamp
otherwise. -/
def beaconTod (kind : Nat) (ports : List Nat) (s : State) : Stamp :=
  match s.qrx.fwQuire with
  | some t0 =>
    if kind = 2 then txStamp s (portMask ports)
    else stampOf ((t0 + s.qr.folio * s.qr.fwPeriod.toNat / quireF s + 1000 * marginUs s) * 256)
  | none => txStamp s (portMask ports)

/-- The predicted slip, whose accuracy the spec leaves open: a free value for each announcement. -/
def predictSlip (kind : Nat) (s : State) : State :=
  if kind = 0 ∧ needRealign s then
    let (f, s) := draw s
    { s with qrx := { s.qrx with predSlip := f.setWidth 32 } }
  else s

/-- A beacon covered and sealed: its tokens taken, its first sample out on every port (02 R74, 03 R114). -/
def beaconOut (kind : Nat) (ports bands : List Nat) (air : Nat) (body : List Byte) (s : State) : State :=
  let m := Mode.robust (bcfg s)
  let f := { txNew tyBeacon bcast body s with ports := portMask ports, mode := m, airtime := air }
  match sealFrame (hdrFor f 0 false s) none 0 body s with
  | (.ok bytes inv, _, s) =>
    let c := ports.length * air
    let cost := costVec bands c
    let s := takeBands true cost (beaconFromMain bands c s)
    let s := if bands.contains 1 then cRun ports s.now s else s
    let f := { f with id := s.line.nextId, built := bytes, inv := BitVec.ofNat 40 inv, cost := cost, quire := s.qr.qnum }
    let s := goOnLine f (submit f s)
    if kind = 0 then announceSent s else s
  | (_, _, s) => s

/-- A beacon at the margin of its folio: skipped where it does not fit or is not covered (02 R76, 03 R115), withheld on
ports without band C access (R120), absent on ports that are down or while no GROUP key is held (log entry 43). -/
def sendBeacon (kind : Nat) (ports : List Nat) (s : State) : State :=
  if s.rbm.bad || (groupSlot s).isNone then s
  else
    let s := predictSlip kind s
    let m := Mode.robust (bcfg s)
    let bands := bandsOf s m
    let ready := ports.filter (portReady s)
    let body := beaconBody kind (beaconTod kind ready s) s
    let air := airtimeOf s m (frameBytes tyBeacon bcast false body.length)
    if ticksToEnd s < ticksUs air then beaconSkip kind s
    else
      let held := if bands.contains 1 then ready.filter fun p => !cMay s p s.now air else []
      let s := if held.isEmpty then s else cWithhold held true s
      let go := ready.filter fun p => !held.contains p
      if go.isEmpty then s
      else if bands.all fun b => coversBeacon (bandAt s b) (go.length * air) then beaconOut kind go bands air body s
      else beaconSkip kind s

/-- A junior head may transmit (02 R84). -/
def juniorReady (s : State) : Bool := s.mpt.leafValid && s.qrx.last.isSome

/-- FOLIO_MARGIN (02 R57): the beacon of a BEACON folio goes out (R74, R77, R82). -/
def execFolioMargin (s : State) : Out := run s fun s =>
  if !qrRunning s || s.qrx.marginDone then s
  else
    let s := { s with qrx := { s.qrx with marginDone := true } }
    let ps := (List.range 3).filter fun p => decide (roleNow s p = rBeacon)
    if isLeaf s || ps.isEmpty || s.pwr.st = .holdover || !lineOpen s then s
    else if !follows s then sendBeacon (if s.qr.folio = 0 then 0 else 2) ps s
    else if juniorReady s then
      sendBeacon (if s.qr.folio = fld (partWord s (myHeadId s)) 16 10 then 1 else 2) ps s
    else s

/-! ### Role-map broadcasts (02 R67, 05 R184) -/

def roleMapBody (pending : Bool) (phase seg nseg : Nat) (s : State) : List Byte :=
  let b := bankAt s (if pending then inactive s else s.qr.active.val)
  [BitVec.ofNat 8 (ofBool pending + 2 * phase), BitVec.ofNat 8 seg, BitVec.ofNat 8 nseg] ++
    leBytes 4 (bankDigest b).toNat ++ [BitVec.ofNat 8 (fld b.geom 0 5 + 32 * fCode b.geom)] ++ leBytes 2 (geomBase b.geom) ++
    leBytes 4 (if pending then (s.qr.swapQ.getD 0).toNat else 0) ++ ((mapBytes b phase).drop (256 * seg)).take 256

/-- Every segment of a bank for all three phases is queued, unless its last broadcast still waits. -/
def sendRoleMap (pending : Bool) (s : State) : State :=
  let b := bankAt s (if pending then inactive s else s.qr.active.val)
  let waits := s.line.q.any fun f => decide (f.ty.toNat = tyRolemap) && decide ((f.body.getD 0 0).getLsbD 0 = pending)
  let nseg := (geomQ b.geom * geomF b.geom / 2 + 255) / 256
  if waits then s
  else (List.range 3).foldl (fun s p => (List.range nseg).foldl (fun s k =>
    submit (txNew tyRolemap bcast (roleMapBody pending p k nseg s) s) s) s) s

def roleMaps (s : State) : State :=
  if isHead s then
    let s := if s.qr.swapQ.isSome then sendRoleMap true s else s
    if 3 ≤ s.qrx.roleMapAge then { sendRoleMap false s with qrx := { s.qrx with roleMapAge := 0 } }
    else { s with qrx := { s.qrx with roleMapAge := s.qrx.roleMapAge + 1 } }
  else s

/-! ### Folio boundaries -/

/-- Lingering folios counted at the end of a SLEEPY_WINDOW folio (09 R305). -/
def lingerStep (s : State) : State :=
  let here := fun (ports : BitVec 3) => (portList ports).any fun p => decide (roleNow s p = rSleepy)
  { s with
    slp := { s.slp with linger := if isLeaf s ∧ here (ePorts (entryAt s 0)) then s.slp.linger.map (· - 1) else s.slp.linger }
    slph := { s.slph with
      headLinger := s.slph.headLinger.map fun x =>
        if isHead s ∧ here (ePorts (entryAt s x.1)) then (x.1, x.2 - 1) else x } }

/-- The ports a waiting frame of a leaf contends on. -/
def contendPorts (f : TxFrame) (s : State) : BitVec 3 :=
  match f.raw with
  | some bs => (relayMode f.hop bs.length s).2
  | none => (modeOf f s).2

/-- A CONTENTION folio begins: frames that drew it may go now; a draw that passed unused is drawn anew (02 R65). -/
def contendStep (s : State) : State :=
  if isLeaf s then
    let past := s.line.q.filter fun f => decide (f.folio = some 0) && !inFlight f
    let s := past.foldl (fun s f => contend f.id s) s
    let opens := fun (f : TxFrame) =>
      !inFlight f && (portList (contendPorts f s)).any fun p => decide (roleNow s p = rContention)
    { s with line := { s.line with q := s.line.q.map fun f => (if opens f then { f with folio := f.folio.map (· - 1) } else f) } }
  else s

/-- OPPORTUNITY_SKIP (09 R287): LT_SLP_NOWINDOW, once per quire and leaf. -/
def oppSkips (s : State) : State :=
  if isHead s then
    (s.lt.mem.filter fun p => decide (2 ≤ eState p.2) && decide (eState p.2 ≤ 4) && decide (slMode s p.1 ≠ 0) &&
      isOpp s p.1 p.1 s.qr.qnum.toNat s.qr.folio && !sleepyFolio s (ePorts p.2) s.qr.folio &&
      !s.slph.noWinOnce.contains p.1).foldl (fun s p =>
        raise 0x0413 0xFF [(0, 2, p.1), (2, 2, s.qr.folio), (4, 4, s.qr.qnum.toNat)]
          { s with slph := { s.slph with noWinOnce := p.1 :: s.slph.noWinOnce } }) s
  else s

/-- The folio index at which a WAKE copy is due. -/
def wakeAt (s : State) (f : TxFrame) : Nat :=
  match episodeOf s f.dst.toNat with
  | some e => folioIndex s e.targetQ.toNat e.targetFolio - leAt f.body 0 2
  | none => 0

/-- WAKE copies whose folio has passed count as skipped; an episode of which no copy went out ends, to start again, and
so does one whose frame is gone (09 R301). -/
def wakeStep (s : State) : State :=
  let late := s.line.q.filter fun f => decide (f.ty.toNat = tyWake) && !inFlight f && decide (wakeAt s f < folioNow s)
  let s := late.foldl (fun s f => wakeSkip f s) s
  let waits := fun (e : Episode) => s.line.q.any fun f => decide (f.ty.toNat = tyWake) && decide (f.dst = e.leaf)
  let done := fun (e : Episode) => decide (folioIndex s e.targetQ.toNat e.targetFolio < folioNow s) && (frameAt s e.frame).isNone
  { s with slph := { s.slph with episodes := s.slph.episodes.filter fun e => (waits e || decide (0 < e.sent)) && !done e } }

/-- A target whose folio has passed is dropped (09 R303). -/
def targetStep (s : State) : State :=
  match s.slp.target with
  | some (q, n) => if folioIndex s q.toNat n < folioNow s then { s with slp := { s.slp with target := none } } else s
  | none => s

/-- An access won at a margin that no run used lapses with its folio (03 R118). -/
def cLapse (s : State) : State :=
  { s with air := { s.air with cst := s.air.cst.map fun c => if c.st = .waiting ∧ c.delay.isNone then { c with st := .off } else c } }

/-- A tamper beacon counts the CONTENTION folios it drew; one that passed unused is drawn anew (19 R599, 02 R65). -/
def tamperStep (s : State) : State :=
  if s.tmp.tbFolio ≠ 0 ∧ (List.range 3).any fun p => decide (roleNow s p = rContention) then
    if s.tmp.tbFolio = 1 then
      let (r, s) := draw s
      { s with tmp := { s.tmp with tbFolio := r.toNat % 4 + 1 } }
    else { s with tmp := { s.tmp with tbFolio := s.tmp.tbFolio - 1 } }
  else s

/-- A tamper beacon falls due every 2^TBPER quires of TAMPER_LOCKED (19 R599). -/
def tamperDue (s : State) : State :=
  if s.tmp.locked && bitAt s.tmp.cfg 28 then
    if s.tmp.tbQuire = none ∨ s.tmp.tbQuire = some s.qr.qnum then
      let (r, s) := draw s
      { s with tmp := { s.tmp with
          tbQuire := some (s.qr.qnum + BitVec.ofNat 32 (2 ^ fld s.tmp.cfg 29 3))
          tbFolio := r.toNat % 4 + 2 } }
    else s
  else { s with tmp := { s.tmp with tbQuire := none, tbFolio := 0 } }

/-- What the beginning of every folio does. -/
def folioEnter (s : State) : State :=
  let s := { s with
    qrx := { s.qrx with marginDone := false }
    slp := { s.slp with gotFolio := false }
    rbm := { s.rbm with held := s.rbm.held.filter fun h => decide (s.qr.folio ≤ h.2 + quireF s / 2) } }
  oppSkips (wakeStep (targetStep (tamperStep (contendStep (cLapse s)))))

/-- FOLIO_BOUNDARY (02 R54): the next folio of the quire begins. -/
def execFolioBoundary (s : State) : Out := run s fun s =>
  if qrRunning s && decide (s.qr.folio + 1 < quireQ s * quireF s) then
    let s := lingerStep s
    folioEnter { s with qr := { s.qr with folio := s.qr.folio + 1, cycle := (s.qr.folio + 1) / quireF s } }
  else s

/-! ### Quire boundaries -/

/-- Events that R188 and its like raise at most once per quire may be raised again. -/
def onceClear (s : State) : State :=
  { s with
    line := { s.line with once := [] }
    air := { s.air with onceMain := false, onceC := false, band := s.air.band.map fun a => { a with onceAck := false } }
    afe := { s.afe with p := s.afe.p.map fun p => { p with satOnce := false, clipOnce := false } }
    ofd := { s.ofd with fallOnce := [] }
    rbm := { s.rbm with held := [], p := s.rbm.p.map fun p => { p with trainOnce := false } }
    cx := { s.cx with unwrapOnce := [] }
    ltx := { s.ltx with rlyOnce := false }
    hi := { s.hi with rxOnce := false } }

/-- A GROUP key loaded since comes into use (13 R454). -/
def groupSwitch (s : State) : State :=
  match s.cx.groupNext with
  | none => s
  | some i =>
    let old := s.cx.groupNow
    let s := { s with cx := { s.cx with groupNow := some i, groupNext := none } }
    match old with
    | some j => retireSlot j s
    | none => s

/-- The counts of quires a leaf keeps (08 R260, R263, R265; 09 R308, R310, R313; 10 R339; 13 R453). -/
def leafTurn (s : State) : State :=
  let heard := s.qrx.bcnHeard
  let frozen := decide (s.pwr.st = .holdover) || (decide (slMode s 0 ≠ 0) && !s.slp.search)
  { s with
    lt := s.lt
    ltx := { s.ltx with
      headMiss := if heard then 0 else if frozen then s.ltx.headMiss else s.ltx.headMiss + 1
      noAnswer := if s.ltx.sentAck && !s.ltx.heardHead then s.ltx.noAnswer + 1 else 0
      sentAck := false
      heardHead := false
      tipWait := s.ltx.tipWait + 1 }
    tex := { s.tex with bcnMiss := if heard then 0 else s.tex.bcnMiss + 1 }
    slp := { s.slp with quiresSince := s.slp.quiresSince + 1, kaQuires := s.slp.kaQuires + 1, missOnce := false }
    qrx := { s.qrx with bcnHeard := false } }

/-- Quires without a frame, by entry (08 R252). -/
def quietTurn (s : State) : State :=
  (s.lt.mem.filter fun p => decide (eState p.2 = stActive) || decide (eState p.2 = stSilent)).foldl (fun s p =>
    { s with lt := { s.lt with quiet := spPut 0 p.1 (spGet 0 s.lt.quiet p.1 + 1) s.lt.quiet } }) s

/-- The counts of quires a head keeps (08 R252, R264; 09 R302; 02 R86), and the JOIN_RESP of every re-key again
(13 R452). -/
def headTurn (s : State) : State :=
  let s := quietTurn s
  let s := { s with
    lt := { s.lt with tip := s.lt.tip.map (fun (t : Nat × Nat × Bool) => (t.1, t.2.1 + 1, t.2.2)) }
    slph := { s.slph with wakeCopies := 0, noWinOnce := [] }
    qrx := { s.qrx with seniorMiss := if s.qrx.bcnHeard then 0 else s.qrx.seniorMiss + 1, bcnHeard := false } }
  s.lt.rekey.foldl (fun s n => sendJoinResp (eUid (entryAt s n)) n 0 s) s

/-- What the end of a quire turns over. -/
def quireEnd (s : State) : State :=
  let s := onceClear (lingerStep s)
  if isLeaf s then leafTurn s else headTurn s

/-- Quire q begins: flywheel time, swap, changes of SLEEPY, credits, GROUP key, role maps (02 R53, R56, R71, R88;
08 R270; 09 R318; 13 R454). -/
def beginQuire (q : Word) (s : State) : State :=
  let t0 := match s.qrx.fwQuire with
    | some t => t + quireQ s * s.qr.fwPeriod.toNat
    | none => nowNs s
  let s := { s with
    qr := { s.qr with qnum := q, cycle := 0, folio := 0, slipping := false }
    qrx := { s.qrx with
      fwQuire := if s.qr.st = .flywheel then some t0 else none
      cancelled := none }
    slph := { s.slph with change := [] } }
  let s := if s.qrx.realignQ.isNone && !needRealign s then lapseRealign s else s
  folioEnter (tamperDue (roleMaps (groupSwitch (creditReset (swapIfDue s)))))

/-- The scheduler stops (02 R95); an announcement lapses, queued frames stay. -/
def qrStop (s : State) : State :=
  let s := lapseRealign { s with
    qr := { s.qr with st := .stopped, slipping := false }
    qrx := { s.qrx with stopReq := false, fwQuire := none, seniorRealign := false } }
  raise 0x0202 0xFF [(0, 4, s.qr.qnum.toNat)] s

/-- The slip begins (02 R90): QUIET on all phases until the realigned quire begins. -/
def slipStart (s : State) : State :=
  { s with
    qr := { s.qr with slipping := true }
    qrx := { s.qrx with slipStart := s.now, fwQuire := none, seniorRealign := false } }

/-- The boundary at the end of the quire in progress: the stop, the realignment, or the next quire. -/
def quireNext (s : State) : State :=
  let q := s.qr.qnum + 1
  if s.qrx.stopReq then qrStop s
  else if isLeaf s then
    (match s.qrx.last with
     | some b => if b.qr = some q then slipStart s else beginQuire q s
     | none => beginQuire q s)
  else if s.qrx.seniorRealign then slipStart s
  else if s.qrx.realignQ = some q then
    (if needRealign s then slipStart (refStepApply s) else beginQuire q (lapseRealign s))
  else beginQuire q s

/-- QUIRE_BOUNDARY (02 R53, R56): the last folio of the quire ends. -/
def execQuireBoundary (s : State) : Out := run s fun s =>
  if qrRunning s && decide (s.qr.folio + 1 = quireQ s * quireF s) then quireNext (quireEnd s) else s

/-- QUIRE_REALIGN (02 R90): Qr begins, under mains timing; the slip is measured. A RUN cleared meanwhile stops the
scheduler here. -/
def execQuireRealign (s : State) : Out := run s fun s =>
  if s.qr.slipping then
    let us := (roundDiv ((s.now - s.qrx.slipStart : Nat) : Int) 400).toNat
    let q := s.qr.qnum + 1
    let s := lapseRealign { s with qr := { s.qr with st := .mains, slip := BitVec.ofNat 32 us, slipQ := q } }
    if s.qrx.stopReq then qrStop s
    else beginQuire q (raise 0x0205 0xFF [(0, 4, q.toNat), (4, 4, us)] s)
  else s

/-! ### Starting and stopping (02 R94 to R96) -/

/-- A write to QR_CTRL: NOMINAL holds while RUN is 1 (02 R96). -/
def qrCtrlWrite (v : Word) (s : State) : State :=
  let was := s.qr.run
  let on := bitAt v 0
  let s := { s with qr := { s.qr with nominal := if was then s.qr.nominal else bitAt v 1, run := on } }
  if on && !was then
    { s with
      qr := { s.qr with st := if s.qr.st = .stopped then .waiting else s.qr.st }
      qrx := { s.qrx with stopReq := false } }
  else if was && !on then
    (if s.qr.st = .waiting then { s with qr := { s.qr with st := .stopped } }
     else { s with qrx := { s.qrx with stopReq := decide (s.qr.st ≠ .stopped) } })
  else s

/-- QR_RUN (02 R94). -/
def execQrRun (v : Word) (s : State) : Out := runHost s (qrCtrlWrite (v ||| 1))

/-- QR_STOP_REQUEST (02 R95). -/
def execQrStopRequest (v : Word) (s : State) : Out := runHost s (qrCtrlWrite (v &&& 0xFFFFFFFE))

/-- QR_START (02 R94): the first quire begins at a wrap of the reference angle. Its number is QR_QNUM_INIT (R56), or
that of the beacon followed (R85). -/
def execQrStart (s : State) : Out := run s fun s =>
  if decide (s.qr.st = .waiting) && s.qr.run && refValid s && s.cln.confirmed &&
      (isLeaf s || !follows s || juniorReady s) then
    let q := match ledBy s with
      | some b => b.quire
      | none => s.qr.qnumInit
    let s := { s with
      qr := { s.qr with st := .mains }
      qrx := { s.qrx with fwQuire := none, stopReq := false } }
    beginQuire q (raise 0x0201 0xFF [(0, 4, q.toNat), (4, 1, 1), (5, 1, s.qr.active.val)] s)
  else s

/-- SENIOR_LOSS (02 R86). -/
def execSeniorLoss (s : State) : Out := run s fun s =>
  if isHead s && follows s && !s.qrx.seniorLost && decide (orOne (fld s.qr.part 8 8) ≤ s.qrx.seniorMiss) then
    raise 0x020A 0xFF [(0, 4, s.qr.qnum.toNat)] { s with qrx := { s.qrx with seniorLost := true } }
  else s

/-! ### Beacons received (02 R78, R81 to R86, R89; 01 R41; 05 R183) -/

def parseBeacon (b : List Byte) : BeaconInfo :=
  let f := b.getD 1 0
  let w := fun (o : Nat) => BitVec.ofNat 32 (leAt b o 4)
  let o1 := 43 + (if f.getLsbD 3 then 8 else 0)
  let o2 := o1 + (if f.getLsbD 1 then 4 else 0)
  { kind := (b.getD 0 0).setWidth 2, flags := f, quire := w 2, geom := b.getD 6 0, base := BitVec.ofNat 16 (leAt b 7 2),
    fwAdd := BitVec.ofNat 16 (leAt b 9 2), active := w 11,
    tod := { sec := BitVec.ofNat 48 (leAt b 15 6), ns := w 21, frac := BitVec.ofNat 16 (leAt b 25 2) },
    part := #v[w 27 &&& 0x03FF03FF, w 31 &&& 0x03FF03FF, w 35 &&& 0x03FF03FF, w 39 &&& 0x03FF03FF],
    pendDigest := if f.getLsbD 3 then some (w 43) else none, qs := if f.getLsbD 3 then some (w 47) else none,
    fwP := if f.getLsbD 1 then some (w o1) else none, qr := if f.getLsbD 2 then some (w o2) else none,
    predSlip := if f.getLsbD 2 then some (w (o2 + 4)) else none }

/-- The folio a beacon of its kind stands in: folio 0, or the first of the sender's run. -/
def beaconFolio (b : BeaconInfo) (headId : Nat) : Nat := if b.kind = 1 then fld (vget b.part headId 0) 16 10 else 0

/-- The time of the quire and the position in it, as the beacon gives them (02 R89, R41): flywheel timing from its own
time of day, mains timing while the device has a reference angle. -/
def placeQuire (b : BeaconInfo) (n : Nat) (s : State) : State :=
  let f := quireF s
  let p := (b.fwP.getD s.qr.fwPeriod).toNat
  let m := geomBase (actGeom s) + b.fwAdd.toNat % 1024
  let t0 := b.tod.sec.toNat * 1000000000 + b.tod.ns.toNat - n * p / f - 1000 * m
  let fw := b.flags.getLsbD 1
  let s := { s with
    qr := { s.qr with
      st := if fw then .flywheel else if refValid s then .mains else .waiting
      fwPeriod := BitVec.ofNat 32 p
      qnum := b.quire
      folio := n
      cycle := n / f
      slipping := false }
    qrx := { s.qrx with fwQuire := if fw then some t0 else none, marginDone := true } }
  s

/-- A raw offset from a beacon that R78 admits (01 R41). -/
def beaconRaw (f : RxFrame) (b : BeaconInfo) (n : Nat) (s : State) : State :=
  if b.flags.getLsbD 0 || b.flags.getLsbD 1 then s
  else leafRaw f.port (f.angle - BitVec.ofNat 32 (folioMa (quireF s) (n % quireF s) + marginMa s (geomBase (actGeom s)))) s

/-- The geometry of a beacon that can be followed. -/
def beaconUsable (b : BeaconInfo) : Bool := decide (b.geom.toNat % 32 ≠ 0) && decide (b.geom.toNat / 32 % 4 ≠ 3)

/-- A beacon of the leaf's own head (02 R81, R83; 08 R259): its content; and, unless it is a repeat (R77, R78), phase,
time, quire and contact. -/
def leafBeacon (o : Front) (b : BeaconInfo) (s : State) : State :=
  let kind := if b.kind.toNat ≤ 1 then b.kind else match s.qrx.last with
    | some l => l.kind
    | none => 0
  let s := { s with
    qr := { s.qr with partNow := b.part, swapQ := b.qs }
    qrx := { s.qrx with last := some { b with kind := kind } } }
  if 2 ≤ b.kind.toNat then s
  else
    let n := beaconFolio b o.h.headId
    let s := { s with
      lt := { s.lt with jstate := if s.lt.jstate = 3 then 2 else s.lt.jstate }
      ltx := { s.ltx with headMiss := 0 }
      slp := { s.slp with beaconHeard := true }
      qrx := { s.qrx with bcnHeard := true, joinCfg := if o.f.ofdm then s.qrx.joinCfg else o.f.fc } }
    let s := beaconMeasure (rxStamp o.f s) b.tod (beaconRaw o.f b n s)
    let s := placeQuire b n s
    if sleepyLeaf s then searchExit (slpContact o.f n s) else s

/-- QR_PARTITION_MISMATCH, once for each change of a word (02 R85). -/
def partCheck (b : BeaconInfo) (senior : Nat) (s : State) : State :=
  (List.range 4).foldl (fun s i =>
    let w := vget b.part i 0
    let own := vget s.qr.partPend i 0
    let known := s.qrx.mismatch.contains (i, w)
    if i = senior ∨ w = own then { s with qrx := { s.qrx with mismatch := s.qrx.mismatch.filter fun x => decide (x.1 ≠ i) } }
    else if known then s
    else raise 0x020C i [(0, 4, w.toNat), (4, 4, own.toNat)]
      { s with qrx := { s.qrx with mismatch := (i, w) :: s.qrx.mismatch.filter fun x => decide (x.1 ≠ i) } }) s

/-- The senior's spine beacon at a junior head (02 R84 to R86). -/
def juniorBeacon (o : Front) (b : BeaconInfo) (s : State) : State :=
  if b.kind ≠ 0 ∨ o.h.headId = myHeadId s then s
  else
    let differs := qrRunning s && (decide (s.qr.qnum ≠ b.quire) || decide (s.qr.folio ≠ 0))
    let s := partCheck b o.h.headId s
    let s := { s with
      qr := { s.qr with partNow := b.part, swapQ := b.qs }
      qrx := { s.qrx with last := some b, bcnHeard := true, seniorMiss := 0 } }
    let s := beaconRaw o.f b 0 s
    let lost := s.qrx.seniorLost
    let s := if lost then raise 0x020B 0xFF [(0, 4, b.quire.toNat), (4, 1, ofBool differs)]
      { s with qrx := { s.qrx with seniorLost := false, seniorRealign := differs } } else s
    if s.qr.st = .stopped ∨ s.qr.st = .waiting ∨ s.qrx.seniorRealign then s
    else if s.qr.slipping then
      let us := (roundDiv ((s.now - s.qrx.slipStart : Nat) : Int) 400).toNat
      let s := { s with qr := { s.qr with slip := BitVec.ofNat 32 us, slipQ := b.quire } }
      placeQuire b 0 (raise 0x0205 0xFF [(0, 4, b.quire.toNat), (4, 4, us)] s)
    else placeQuire b 0 s

def onBeacon (o : Front) (s : State) : State :=
  let b := parseBeacon o.body
  if !beaconUsable b then s
  else if isLeaf s then leafBeacon o b s
  else if follows s then juniorBeacon o b s
  else s

/-! ### Role maps received (05 R184) -/

def parseSeg (b : List Byte) : RmSeg :=
  { bank := (b.getD 0 0).getLsbD 0, phase := (b.getD 0 0).toNat / 2 % 4, seg := leAt b 1 1, nseg := leAt b 2 1,
    digest := BitVec.ofNat 32 (leAt b 3 4), geom := b.getD 7 0, base := BitVec.ofNat 16 (leAt b 8 2),
    qs := BitVec.ofNat 32 (leAt b 10 4), map := b.drop 14 }

/-- The role words of a phase from its map bytes. -/
def roleWords (phase : Nat) (bs : List Byte) : Sparse Word :=
  (List.range 96).foldl (fun m k => spPut 0 (96 * phase + k) (BitVec.ofNat 32 (leAt bs (4 * k) 4) &&& 0x77777777) m) []

/-- The map bytes of a phase once all its segments are there. -/
def phaseBytes (segs : List RmSeg) (phase : Nat) : Option (List Byte) :=
  match segs.find? fun g => decide (g.phase = phase) with
  | none => none
  | some g =>
    let parts := (List.range g.nseg).map fun k => segs.find? fun x => decide (x.phase = phase) && decide (x.seg = k)
    if parts.all Option.isSome then some ((parts.filterMap id).map (·.map)).flatten else none

/-- The bank that the segments of one digest make up. -/
def segBank (segs : List RmSeg) : Option Bank :=
  match segs.head?, phaseBytes segs 0, phaseBytes segs 1, phaseBytes segs 2 with
  | some g, some a, some b, some c =>
    let k : Bank := { geom := beaconGeom g.geom g.base, roles := roleWords 0 a ++ roleWords 1 b ++ roleWords 2 c }
    if bankDigest k = g.digest ∧ geomF k.geom ≠ 0 then some k else none
  | _, _, _, _ => none

/-- A segment is taken; a bank is adopted once its segments reproduce the digest: as the active one when the last
beacon, or the segment, says so. -/
def onRolemap (o : Front) (s : State) : State :=
  let g := parseSeg o.body
  if isHead s ∨ g.phase = 3 then s
  else
    let live := fun (x : RmSeg) => decide (x.digest = g.digest) || (match s.qrx.last with
      | some b => decide (x.digest = b.active) || decide (some x.digest = b.pendDigest)
      | none => false)
    let segs := g :: s.qrx.rmSegs.filter fun x =>
      live x && !(decide (x.digest = g.digest) && decide (x.phase = g.phase) && decide (x.seg = g.seg))
    let s := { s with qrx := { s.qrx with rmSegs := segs } }
    match segBank (segs.filter fun x => decide (x.digest = g.digest)) with
    | none => s
    | some k =>
      let active := match s.qrx.last with
        | some b => decide (b.active = g.digest) || (!g.bank && decide (b.pendDigest ≠ some g.digest))
        | none => !g.bank
      updBank (if active then s.qr.active.val else inactive s) (fun _ => k)
        { s with qrx := { s.qrx with rmSegs := segs.filter fun x => decide (x.digest ≠ g.digest) } }

/-! ### Registers (02 R98) -/

/-- A write to QR_PART (02 R96). A head that becomes the senior takes its own reference phase, whose bias keeps the
reference angle (01 R34). -/
def qrPartWrite (v : Word) (s : State) : State :=
  if s.qr.run then s
  else
    let was := usesLeafRef s
    let s := { s with qr := { s.qr with part := oneFld (v &&& 0xFF07) 8 8 } }
    if was && !usesLeafRef s then
      rechooseRef { s with mpt := { s.mpt with bias := angleOf s.mpt.refAcc - angleOf (phAt s s.mpt.refPhase).acc } }
    else syncLeafRef s

def qrSmallWrite (off : Nat) (v : Word) (s : State) : State :=
  match off with
  | 0x240C => { s with qr := { s.qr with qnumInit := v } }
  | 0x2410 => { s with qr := { s.qr with margin := v &&& 0x3FF } }
  | 0x2414 => { s with qr := { s.qr with announce := BitVec.ofNat 32 (orOne (fld v 0 4)) } }
  | 0x2418 => { s with qr := { s.qr with mapAddr := v &&& 0x1C7F } }
  | _ => s

def qrCode : QrSt → Nat
  | .stopped => 0
  | .mains => 1
  | .flywheel => 2
  | .waiting => 3

/-- QR_STATUS (02 Table 02.10). -/
def qrStatus (s : State) : Word :=
  at32 (qrCode s.qr.st) 30 ||| at32 (ofBool (decide (0 < s.qrx.announced))) 29 ||| at32 (ofBool s.qr.swapQ.isSome) 28 |||
    at32 s.qr.active.val 27 ||| at32 (ofBool s.qrx.seniorLost) 26 ||| at32 (s.qr.cycle % 32) 16 ||| at32 (s.qr.folio % 1024) 0

def qrMapStatus (s : State) : Word :=
  at32 (ofBool s.qr.refused) 2 ||| at32 (ofBool s.qr.activeWr) 1 ||| at32 (ofBool s.qr.swapQ.isSome) 0

def qrMapStatusWrite (v : Word) (s : State) : State :=
  { s with qr := { s.qr with refused := w1c s.qr.refused v 2, activeWr := w1c s.qr.activeWr v 1 } }

end Sys2Proof.Machine
end

