-- ==== Sys2Proof/Machine/Leaf.lean ====
section
/-! DEFINITION. The leaf table at the host's side (08 R253 to R258) and the timers of entries and of a leaf's own
tip-in (R259 to R265, 13 R453). -/
namespace Sys2Proof.Machine

/-! ### The two copies of the stage (08 R258) -/

def copyNo : LtCopy → Nat
  | .loc => 0
  | .rem => 1

def stageAt (s : State) (c : Nat) : LtStage := vget s.lt.stage c LtStage.reset
def updStage (c : Nat) (f : LtStage → LtStage) (s : State) : State :=
  { s with lt := { s.lt with stage := vupd s.lt.stage c f } }

def stageWrite (c w : Nat) (v : Word) (s : State) : State := updStage c (fun g => { g with words := spPut 0 w v g.words }) s

/-- A word of an entry. -/
def entryWord (e : Entry) (w : Nat) : Word := BitVec.ofNat 32 (bits512 e (32 * w) 32)

/-- The entry a commit leaves: the words its mask selects, the others kept (08 R255). -/
def commitWords (mask : BitVec 16) (words : Sparse Word) (e : Entry) : Entry :=
  (List.range 16).foldl (fun e w => if mask.getLsbD w then set512 e (32 * w) 32 (spGet 0 words w).toNat else e) e

/-! ### The checks of a COMMIT (08 R257, 09 R286) -/

/-- The route breaks R250, names the entry itself or a number twice, or is set with RELAY_EN on a sleepy entry. -/
def routeShape (n : Nat) (e : Entry) : Bool :=
  let r := eRoute e
  (decide (eRly e 1 = 0) || decide (eRly e 0 ≠ 0)) && (decide (eRly e 2 = 0) || decide (eRly e 1 ≠ 0)) &&
    !r.contains n && decide (r.eraseDups.length = r.length) &&
    !(eRelayEn e && decide ((eSleepy e).toNat / 16384 ≠ 0))

/-- Every relay of the route may serve, and has exactly the relays before it as its own route. -/
def routeRelays (s : State) (e : Entry) : Bool :=
  let r := eRoute e
  (List.range r.length).all fun h =>
    let k := entryAt s (r.getD h 0)
    (decide (eState k = stActive) || decide (eState k = stSilent)) && eRelayEn k &&
      decide ((eSleepy k).toNat / 16384 = 0) && decide (eRoute k = r.take h)

/-- Another entry, not FREE, is reached through this leaf. -/
def namedAsRelay (s : State) (n : Nat) : Bool :=
  s.lt.mem.any fun p => decide (p.1 ≠ n) && decide (eState p.2 ≠ stFree) && (eRoute p.2).contains n

/-- Why a COMMIT is refused: the causes of LT_STATUS in their order (log entry 44). -/
def commitFault (c n : Nat) (e : Entry) (s : State) : Option Nat :=
  let cur := entryAt s n
  if (stageAt s c).busy then some 1
  else if n = 0xFFF ∨ (n = 0 ∧ isHead s) then some 2
  else if eState e = 7 ∨ eRate e = 3 ∨ (eRcfg e).toNat / 64 % 4 = 3 ∨ (eSleepy e).toNat / 16384 = 3 then some 3
  else if !routeShape n e || !routeRelays s e then some 4
  else if (eRoute cur ≠ eRoute e ∨ eRelayEn cur ≠ eRelayEn e) ∧ namedAsRelay s n then some 5
  else if s.lt.mem.any fun p => decide (p.1 ≠ n) && decide (eState p.2 ≠ stFree) && decide (eUid p.2 = eUid e) then some 6
  else none

/-- The folio from which a commit written now takes effect (08 R254). -/
def commitDue (s : State) : Nat :=
  if s.qr.folio = 0 then folioIndex s (s.qr.qnum.toNat + 1) 1 else folioNow s + 1

def ltRefuse (c cause n : Nat) (s : State) : State :=
  raise 0x0409 0xFF [(0, 1, cause), (1, 2, n)] (updStage c (fun g => { g with refused := true, cause := BitVec.ofNat 3 cause }) s)

/-- A write of LT_CMD (08 R253, R254): the stage words of a commit are those at the write. -/
def ltCmdWrite (c : Nat) (v : Word) (s : State) : State :=
  let n := fld v 16 12
  let s := updStage c (fun g => { g with cmd := v &&& 0x3FFFFFFF }) s
  if !bitAt v 28 then
    let e := entryAt s n
    let words := (List.range 16).foldl (fun m w => spPut 0 w (entryWord e w) m) []
    updStage c (fun g => { g with words := words, busy := false }) s
  else
    let mask := BitVec.ofNat 16 (fld v 0 16)
    let words := (stageAt s c).words
    match commitFault c n (commitWords mask words (entryAt s n)) s with
    | some cause => ltRefuse c cause n s
    | none =>
      let w : LtCommitS := { index := BitVec.ofNat 12 n, mask := mask, words := words, ev := bitAt v 29, due := commitDue s }
      updStage c (fun g => { g with busy := true, waiting := g.waiting ++ [w] }) s

/-- LT_READ (08 R253). -/
def execLtRead (copy : LtCopy) (v : Word) (s : State) : Out := runHost s (ltCmdWrite (copyNo copy) (v &&& 0xEFFFFFFF))

/-- LT_COMMIT (08 R254). -/
def execLtCommit (copy : LtCopy) (v : Word) (s : State) : Out := runHost s (ltCmdWrite (copyNo copy) (v ||| 0x10000000))

/-! ### A commit takes effect -/

/-- What a change of STATE by the host does besides (08 Table 08.2, 13 R438). -/
def afterCommit (n : Nat) (old new : Entry) (s : State) : State :=
  let s := if eState old ≠ eState new then
      let s := { s with lt := { s.lt with
        quiet := spPut 0 n 0 s.lt.quiet
        tip := s.lt.tip.filter (fun t => decide (t.1 ≠ n))
        rekey := s.lt.rekey.filter (· ≠ n) } }
      if eState new = stTipping then { s with lt := { s.lt with tip := (n, 0, false) :: s.lt.tip } } else s
    else s
  let s := if eSleepy old ≠ eSleepy new && !(s.slph.change.any fun c => decide (c.1.toNat = n)) then
      { s with slph := { s.slph with change := (BitVec.ofNat 12 n, eSleepy old) :: s.slph.change } }
    else s
  let s := if eState new = stFree ∧ n ≠ 0 then updUse n (fun _ => KeyUse.zero) s else s
  sweepLeaf n s

/-- One commit: the selected words on one tick (08 R254, R255). -/
def commitApply (w : LtCommitS) (s : State) : State :=
  let n := w.index.toNat
  let old := entryAt s n
  let new := commitWords w.mask w.words old
  let s := afterCommit n old new (putEntry n new s)
  if w.ev then raise 0x0408 0xFF [(0, 2, n), (2, 2, w.mask.toNat), (4, 4, s.qr.qnum.toNat)] s else s

/-- The scheduler gives folio boundaries. -/
def qrTimed (s : State) : Bool := decide (s.qr.st = .mains) || decide (s.qr.st = .flywheel)

def commitReady (s : State) (w : LtCommitS) : Bool := !qrTimed s || decide (w.due ≤ folioNow s)

/-- LT_COMMIT_APPLY (08 R254): the commits of a copy that are due; BUSY clears with the last one waiting. -/
def execLtCommitApply (copy : LtCopy) (s : State) : Out := run s fun s =>
  let c := copyNo copy
  let go := (stageAt s c).waiting.filter (commitReady s)
  let rest := (stageAt s c).waiting.filter fun w => !commitReady s w
  let s := updStage c (fun g => { g with waiting := rest, busy := g.busy && !rest.isEmpty }) s
  go.foldl (fun s w => commitApply w s) s

/-! ### Entries and their timers (08 R252, R264; 09 R314) -/

def quietOf (s : State) (n : Nat) : Nat := spGet 0 s.lt.quiet n

/-- The factor 2^PER of a sleepy entry (09 R314). -/
def timerScale (s : State) (n : Nat) : Nat := if slMode s n = 0 then 1 else slPer s n

/-- ENTRY_SILENT (08 R252). -/
def execEntrySilent (leaf : BitVec 12) (s : State) : Out := run s fun s =>
  let n := leaf.toNat
  if isHead s && decide (eState (entryAt s n) = stActive) && decide (tSilent s * timerScale s n ≤ quietOf s n) then
    changeState n stSilent s
  else s

/-- ENTRY_GONE (08 R252): frames to the leaf complete REMOTE_TIMEOUT without being sent (Table 08.2). -/
def execEntryGone (leaf : BitVec 12) (s : State) : Out := run s fun s =>
  let n := leaf.toNat
  if isHead s && decide (eState (entryAt s n) = stSilent) && decide (tGone s * timerScale s n ≤ quietOf s n) then
    sweepLeaf n (changeState n stGone s)
  else s

/-- TIPIN_TIMEOUT (08 R264). -/
def execTipinTimeout (leaf : BitVec 12) (s : State) : Out := run s fun s =>
  let n := leaf.toNat
  match s.lt.tip.find? fun t => decide (t.1 = n) with
  | none => s
  | some (_, q, invited) =>
    if isHead s && decide (eState (entryAt s n) = stTipping) && decide (tTipWait s ≤ q) then
      let st := if invited then stInvited else stFree
      let uid := eUid (entryAt s n)
      let s := updEntry n (eSetState st) s
      let s := { s with lt := { s.lt with
        tip := s.lt.tip.filter (fun t => decide (t.1 ≠ n))
        rekey := s.lt.rekey.filter (· ≠ n) } }
      sweepLeaf n (raise 0x0403 0xFF [(0, 2, n), (2, 6, uid), (8, 1, st)] s)
    else s

/-! ### A leaf's own tip-in and its head -/

/-- A write of LT_JOIN: START begins tip-in at a leaf (08 R259). -/
def ltJoinWrite (v : Word) (s : State) : State :=
  let s := { s with lt := { s.lt with join := v &&& 0x3FFFF } }
  if bitAt v 31 && isLeaf s then retryTipin s else s

/-- TIPIN_START (08 R259). -/
def execTipinStart (v : Word) (s : State) : Out := runHost s (ltJoinWrite (v ||| 0x80000000))

/-- TIPIN_RETRY (08 R260). -/
def execTipinRetry (s : State) : Out := run s fun s =>
  if joining s && !s.ltx.confirmWait && decide (tTipWait s ≤ s.ltx.tipWait) then
    sendJoinReq { s with ltx := { s.ltx with tipWait := 0 } }
  else s

/-- The confirmation is no longer sent. -/
def dropConfirm (s : State) : State :=
  { s with line := { s.line with q := s.line.q.filter fun f =>
    !(decide (f.ty.toNat = tyData) && f.body.isEmpty && f.desc.isNone && f.raw.isNone && !inFlight f) } }

/-- CONFIRM_TIMEOUT (08 R263). -/
def execConfirmTimeout (s : State) : Out := run s fun s =>
  if isLeaf s && s.ltx.confirmWait && decide (tTipWait s ≤ s.ltx.tipWait) then retryTipin (dropConfirm s) else s

/-- HEAD_LOST (08 R265, 09 R310). -/
def execHeadLost (s : State) : Out := run s fun s =>
  if isLeaf s && decide (s.lt.jstate = 2) && decide (tSilent s ≤ s.ltx.headMiss) then
    raise 0x040A 0xFF [(0, 4, s.ltx.headMiss), (4, 2, (myEdition s).toNat)] { s with lt := { s.lt with jstate := 3 } }
  else s

/-- HEAD_GONE (08 R265). -/
def execHeadGone (s : State) : Out := run s fun s =>
  if isLeaf s && isJoined s && decide (tGone s ≤ s.ltx.headMiss) then retryTipin s else s

/-- LEAF_NO_ANSWER (13 R453). -/
def execLeafNoAnswer (s : State) : Out := run s fun s =>
  if isLeaf s && isJoined s && decide (tGone s ≤ s.ltx.noAnswer) then retryTipin s else s

/-! ### Registers (08 Table 08.5) -/

def ltStatus (c : Nat) (s : State) : Word :=
  let g := stageAt s c
  at32 (ofBool g.refused) 31 ||| at32 g.cause.toNat 28 ||| at32 (ofBool g.busy) 27 ||| at32 s.lt.jstate.toNat 24 |||
    at32 ((usedEntries s).length % 8192) 0

def ltStatusWrite (c : Nat) (v : Word) (s : State) : State := updStage c (fun g => { g with refused := w1c g.refused v 31 }) s

def ltApptWrite (k : Nat) (v : Word) (s : State) : State :=
  { s with lt := { s.lt with appt := spPut 0 k (v &&& 0x800303FF) s.lt.appt } }

end Sys2Proof.Machine
end

