-- ==== Sys2Proof/Machine/Cx.lean ====
section
/-! DEFINITION. The cipher cluster towards the host (13): host jobs and the cores that run them, key loads and unloads,
re-keys, fault hold, core resets, and the registers of the block. -/
namespace Sys2Proof.Machine

/-! ### Cores (R419, R447 to R450) -/

def coreAt (s : State) (c : Nat) : CxCore := vget s.cx.core c CxCore.reset
def updCore (c : Nat) (f : CxCore → CxCore) (s : State) : State := { s with cx := { s.cx with core := vupd s.cx.core c f } }

def coreCode : CoreSt → Nat
  | .off => 0
  | .idle => 1
  | .busy => 2
  | .faulted => 3

def cxStatus (s : State) : Word :=
  (List.range 4).foldl (fun w c => w ||| at32 (coreCode (coreAt s c).st) (2 * c)) 0

/-- CX_NO_CORE, once when the last core able to take jobs ceases to (R450). -/
def noCoreCheck (s : State) : State :=
  if anyCore s then { s with cx := { s.cx with noCore := false } }
  else if s.cx.noCore then s
  else raise 0x0707 0xFF [(0, 4, (cxStatus s).toNat)] { s with cx := { s.cx with noCore := true } }

/-- The state a core without a job returns to: idle, or off when it is not enabled. -/
def restState (s : State) (c : Nat) : CoreSt := if s.cx.coreEn.getLsbD c then .idle else .off

/-- A LEAF_CACHED, GROUP or JOIN key that is replaced leaves its slot with its last job (R430). -/
def slotSettle (i : Nat) (s : State) : State :=
  let k := slotAt s i
  if k.retire && decide (k.held = 0) then clearSlot i (dropKeyLedger (keyInst s i) s) else s

/-! ### Jobs -/

/-- What a decrypt job puts into the hold buffer (R444). -/
def jobHeld (k : Slot) (j : CxJob) : List Byte :=
  if j.decrypt then
    let ct := toNats (j.input.take (j.input.length - j.tlen))
    let keys := aesKeys (keyBytes k.size k.key)
    ofNats (if j.ccm then ccmCrypt keys (toNats j.nonce) ct else gcmCrypt keys (toNats j.nonce) ct)
  else []

/-- The output of a job: ciphertext and tag (R427), or plaintext when the tag verifies (R428). -/
def jobOutput (k : Slot) (j : CxJob) : Option (List Byte) :=
  if j.decrypt then
    let n := j.input.length - j.tlen
    if j.ccm then ccmDec k.size k.key j.nonce j.aad (j.input.take n) (j.input.drop n)
    else gcmDec k.size k.key j.nonce j.aad (j.input.take n) (j.input.drop n)
  else
    let (c, t) := if j.ccm then ccmEnc k.size k.key j.nonce j.aad j.input j.tlen
      else gcmEnc k.size k.key j.nonce j.aad j.input j.tlen
    some (c ++ t)

def freeCores (s : State) : List Nat :=
  (List.range 4).filter fun c => s.cx.coreEn.getLsbD c && decide ((coreAt s c).st = .idle)

/-- Waiting jobs go to idle cores in admission order, those on a key under fault hold wait (R419, R448). Which of the
idle cores takes a job the manual leaves open: a free value picks it. The first argument bounds the jobs. -/
def dispatchJobs : Nat → State → State
  | 0, s => s
  | n + 1, s =>
    match s.cx.jobs.find? (fun j => !(slotAt s j.slot).fhold), freeCores s with
    | some j, c0 :: cs =>
      let (r, s) := draw s
      let c := (c0 :: cs).getD (r.toNat % (cs.length + 1)) c0
      let s := { s with cx := { s.cx with jobs := s.cx.jobs.erase j } }
      dispatchJobs n (updCore c (fun x => { x with st := .busy, job := some j, hold := jobHeld (slotAt s j.slot) j }) s)
    | _, _ => s

def dispatchAll (s : State) : State := dispatchJobs s.cx.jobs.length s

/-- A job ends with a result, its key use returned (R455). -/
def endJob (j : CxJob) (res : Result) (s : State) : State :=
  slotSettle j.slot (finish j.ring j.desc res (jobDone j.slot s))

/-- The descriptor of the job is still outstanding: an FLR has not aborted it (15 R504). -/
def jobLive (s : State) (j : CxJob) : Bool :=
  match takenAt s j.ring j.desc with
  | some t => t.result.isNone
  | none => false

/-- A core finishes its job with the two computations equal: what it releases (R427, R428, R444). -/
def releaseJob (j : CxJob) (s : State) : State :=
  match jobOutput (slotAt s j.slot) j with
  | some out =>
    let s := if jobLive s j then hostWrite j.dst out s else s
    endJob j (resOk out.length) s
  | none => endJob j (resSt 0x21) s

/-- CIPHER_JOB_DONE (R427, R428, R444 to R447): core c ends its job; with a mismatch its output is discarded, the job
completes CIPHER_FAULT, the core is FAULTED and the key is under fault hold. The block index is a free value. -/
def execCipherJobDone (core : Fin 4) (fault : Bool) (s : State) : Out := run s fun s =>
  match (coreAt s core.val).job with
  | none => s
  | some j =>
    if fault then
      let (b, s) := draw s
      let s := updCore core.val (fun x => { x with st := .faulted, job := none, hold := [] }) s
      let s := updSlot j.slot (fun k => { k with fhold := true }) s
      let s := raise 0x0701 core.val [(0, 1, j.slot), (1, 1, 1), (4, 4, b.toNat)] s
      dispatchAll (noCoreCheck (endJob j (resSt 0x22) s))
    else
      let s := releaseJob j s
      let s := updCore core.val (fun x => { x with st := restState s core.val, job := none, hold := [] }) s
      dispatchAll (noCoreCheck s)

/-! ### Host jobs (R422 to R428) -/

/-- The fields of Table 13.1. -/
def jSlot (d : DescBytes) : Nat := dByte d 20 % 64
def jTlen (d : DescBytes) : Nat := dByte d 21
def jNlen (d : DescBytes) : Nat := dByte d 22
def jNgen (d : DescBytes) : Bool := (dByte d 23).testBit 0
def jAada (d : DescBytes) : Nat := field512 d 24 8
def jAadlen (d : DescBytes) : Nat := field512 d 32 4
def jDst (d : DescBytes) : Nat := field512 d 40 8
def jNonce (d : DescBytes) (n : Nat) : List Byte := leBytes n (field512 d 48 n)

/-- The checks of R424. -/
def jobBad (decrypt ccm : Bool) (d : DescBytes) (s : State) : Bool :=
  let tl := jTlen d
  let use := (slotAt s (jSlot d)).use
  (if ccm then decide (tl < 4) || decide (16 < tl) || decide (tl % 2 = 1) else decide (tl < 4) || decide (16 < tl)) ||
    (if ccm then decide (jNlen d < 7) || decide (13 < jNlen d) else decide (jNlen d ≠ 12)) ||
    (ccm && jNgen d) ||
    (ccm && (decide (65280 ≤ jAadlen d) || decide (2 ^ (8 * (15 - jNlen d)) ≤ dLen d))) ||
    (decrypt && decide (16384 < dLen d)) || (!decrypt && decide (16777215 < dLen d)) ||
    (decide (use ≠ useHost) && decide (use ≠ useEmpty))

/-- The admission of a host job with its data at hand (R426, R441). -/
def admitHost (decrypt ccm : Bool) (r id : Nat) (d : DescBytes) (bs : List Byte) (s : State) : State :=
  let slot := jSlot d
  let n := dLen d + (if decrypt then jTlen d else 0)
  let inv := (keyCounts s slot).1
  match admitJob slot (blocksOf (jAadlen d) (dLen d)) s with
  | (a, s) =>
    if a.ok then
      let j : CxJob :=
        { ring := r, desc := id, decrypt := decrypt, ccm := ccm, slot := slot,
          nonce := if jNgen d then jNonce d 4 ++ leBytes 8 inv else jNonce d (jNlen d),
          aad := bs.drop n, input := bs.take n, tlen := jTlen d, dst := jDst d }
      dispatchAll { s with cx := { s.cx with jobs := s.cx.jobs ++ [j] } }
    else finish r id (resSt 0x20) s

/-- One of the four job opcodes: the checks of R424, TAMPER_LOCKED (19 R597), the slot (R425), the buffers (15 R503,
R505), then the admission. -/
def hostJob (decrypt ccm : Bool) (d : DescBytes) (m : MemRead) (r id : Nat) (s : State) : State :=
  let n := dLen d + (if decrypt then jTlen d else 0)
  let k := slotAt s (jSlot d)
  if jobBad decrypt ccm d s then finish r id (resBad 9) s
  else if s.tmp.locked then finish r id (resSt 0x12) s
  else if decide (k.use = useEmpty) || k.unload.isSome then finish r id (resSt 0x23) s
  else
    withDst r id (jDst d) (if decrypt then dLen d else dLen d + jTlen d)
      (withDst r id (jAada d) (jAadlen d)
        (withDst r id (dAddr d) n
          (fun s => match m with
            | .err e => dmaError r id (dAddr d) (errCode e) s
            | .data bs => admitHost decrypt ccm r id d ((bs ++ List.replicate (n + jAadlen d - bs.length) 0).take (n + jAadlen d)) s))) s

/-- CX_GCM_ENC (R422 to R427). -/
def execCxGcmEnc (r : Fin 16) (d : DescBytes) (m : MemRead) (s : State) : Out :=
  run s (descRow (· == 0x0040) r d (fun id s => hostJob false false d m r.val id s))

/-- CX_GCM_DEC (R422 to R428). -/
def execCxGcmDec (r : Fin 16) (d : DescBytes) (m : MemRead) (s : State) : Out :=
  run s (descRow (· == 0x0041) r d (fun id s => hostJob true false d m r.val id s))

/-- CX_CCM_ENC (R422 to R427). -/
def execCxCcmEnc (r : Fin 16) (d : DescBytes) (m : MemRead) (s : State) : Out :=
  run s (descRow (· == 0x0042) r d (fun id s => hostJob false true d m r.val id s))

/-- CX_CCM_DEC (R422 to R428). -/
def execCxCcmDec (r : Fin 16) (d : DescBytes) (m : MemRead) (s : State) : Out :=
  run s (descRow (· == 0x0043) r d (fun id s => hostJob true true d m r.val id s))

/-! ### Key loads and unloads (R430, R431, R454) -/

/-- A load may name the slot: EMPTY, LEAF_CACHED, or the key of its own use in force; and no load waits for it. -/
def loadSlotOk (s : State) (slot : Nat) (use : BitVec 3) : Bool :=
  let k := slotAt s slot
  !(s.cx.loads.any fun l => decide (l.slot = slot)) &&
    (decide (k.use = useEmpty) || decide (k.use = useCached) ||
      ((decide (use = useGroup) || decide (use = useJoin)) && decide (k.use = use) && !k.retire))

/-- The fields of a load that are refused (R430, R440). -/
def loadBad (d : DescBytes) (s : State) : Bool :=
  let use := dByte d 21
  (decide (dLen d ≠ 16) && decide (dLen d ≠ 32)) || decide (63 < dByte d 20) || decide (use = 0) || decide (3 < use) ||
    decide (63 < dByte d 22) ||
    (decide (use = 1) && (decide (dByte d 24 < 16) || decide (64 < dByte d 24) || decide (dByte d 25 < 20) ||
      decide (64 < dByte d 25))) || !loadSlotOk s (dByte d 20) (BitVec.ofNat 3 use)

/-- The slot is free for the key: no admitted job on the key it holds, and no cached key under fault hold (R430, R447). -/
def loadReady (s : State) (slot : Nat) : Bool :=
  let k := slotAt s slot
  decide (k.held = 0) && !(decide (k.use = useCached) && k.fhold)

/-- The key takes its slot. A JOIN key that was in another slot is replaced; a GROUP key waits for R454. -/
def loadPlace (l : KeyLoadS) (s : State) : State :=
  let old := slotAt s l.slot
  let s := if old.use = useGroup ∨ old.use = useJoin then dropKeyLedger l.slot s else s
  let s := { s with cx := { s.cx with lru := s.cx.lru + 1 } }
  let s := setSlot l.slot { Slot.empty with
    use := l.use
    size := l.size
    gen := l.gen
    key := l.key
    inve := l.inve
    blke := l.blke
    lru := s.cx.lru } s
  if l.use = useJoin then
    (slotsWhere s fun k => decide (k.use = useJoin)).foldl (fun s i => if i = l.slot then s else retireSlot i s) s
  else s

def retireOpt (o : Option Nat) (slot : Nat) (s : State) : State :=
  match o with
  | some i => if i = slot then s else retireSlot i s
  | none => s

/-- A load completes: OK, and a GROUP key serves at once or from the next quire boundary (R454). -/
def loadDone (l : KeyLoadS) (s : State) : State :=
  let s := { s with cx := { s.cx with loads := s.cx.loads.filter fun x => decide (x.slot ≠ l.slot) } }
  let s := finish l.ring l.desc (resOk 0) s
  if l.use = useGroup ∧ s.cx.groupNow ≠ some l.slot then
    let s := retireOpt s.cx.groupNext l.slot s
    if isLeaf s ∨ s.cx.groupNow = none ∨ s.qr.st = .stopped then
      let s := retireOpt s.cx.groupNow l.slot s
      { s with cx := { s.cx with groupNow := some l.slot, groupNext := none } }
    else { s with cx := { s.cx with groupNext := some l.slot } }
  else s

/-- The key is placed and its schedule checked; after a mismatch it is under fault hold and the load waits for
CX_FAULT.CLR (R430, R446, R447). -/
def loadTry (l : KeyLoadS) (fault : Option (Fin 4)) (s : State) : State :=
  let s := loadPlace l s
  match fault with
  | none => loadDone l s
  | some c =>
    let s := { s with cx := { s.cx with
      loads := { l with placed := true } :: s.cx.loads.filter fun x => decide (x.slot ≠ l.slot) } }
    raise 0x0701 c.val [(0, 1, l.slot), (1, 1, 3), (4, 4, 0)] (updSlot l.slot (fun k => { k with fhold := true }) s)

def keyLoadBody (d : DescBytes) (m : MemRead) (fault : Option (Fin 4)) (r id : Nat) (s : State) : State :=
  if loadBad d s then finish r id (resBad 9) s
  else if s.tmp.locked then finish r id (resSt 0x12) s
  else
    withData m r id (dAddr d) (dLen d) (fun bs s =>
      let l : KeyLoadS :=
        { ring := r, desc := id, slot := dByte d 20, use := BitVec.ofNat 3 (dByte d 21), gen := BitVec.ofNat 6 (dByte d 22),
          size := decide (dLen d = 32), key := BitVec.ofNat 256 (ofLe bs), inve := dByte d 24, blke := dByte d 25,
          placed := false }
      if loadReady s l.slot then loadTry l fault s else { s with cx := { s.cx with loads := s.cx.loads ++ [l] } }) s

/-- CX_KEY_LOAD (R430): at once where no job holds the slot. The last operand: the core whose key-schedule check failed
(R447). -/
def execCxKeyLoad (r : Fin 16) (d : DescBytes) (m : MemRead) (fault : Option (Fin 4)) (s : State) : Out :=
  run s (descRow (· == 0x0044) r d (fun id s => keyLoadBody d m fault r.val id s))

/-- KEY_LOAD_DONE (R430): a load that waited for the jobs of its slot. -/
def execKeyLoadDone (slot : Fin 64) (fault : Option (Fin 4)) (s : State) : Out := run s fun s =>
  match s.cx.loads.find? fun l => decide (l.slot = slot.val) && !l.placed with
  | some l => if loadReady s slot.val then loadTry l fault s else s
  | none => s

/-- CX_KEY_UNLOAD (R431): the effect is fixed when the descriptor is taken. -/
def execCxKeyUnload (r : Fin 16) (d : DescBytes) (s : State) : Out :=
  run s (descRow (· == 0x0045) r d (fun id s =>
    if 63 < dByte d 20 then finish r.val id (resBad 4) s
    else updSlot (dByte d 20) (fun k => { k with unload := some ((k.unload.getD []) ++ [(r.val, id)]) }) s))

/-- A slot is no longer the device's GROUP key. -/
def forgetGroup (i : Nat) (s : State) : State :=
  { s with cx := { s.cx with
    groupNow := if s.cx.groupNow = some i then none else s.cx.groupNow
    groupNext := if s.cx.groupNext = some i then none else s.cx.groupNext } }

/-- KEY_UNLOAD_DONE (R431): the slot is overwritten and EMPTY once its admitted jobs have completed. -/
def execKeyUnloadDone (slot : Fin 64) (s : State) : Out := run s fun s =>
  let k := slotAt s slot.val
  match k.unload with
  | none => s
  | some ds =>
    if k.held = 0 then
      let s := if k.use = useCached ∨ k.use = useEmpty then s else dropKeyLedger slot.val s
      ds.foldl (fun s d => finish d.1 d.2 (resOk 0) s) (forgetGroup slot.val (clearSlot slot.val s))
    else s

/-- CX_REKEY (R452): without a KDK it completes KEY_EMPTY, or TAMPER while locked. -/
def execCxRekey (r : Fin 16) (d : DescBytes) (s : State) : Out :=
  run s (descRow (· == 0x0046) r d (fun id s =>
    let n := (dLeaf d).toNat
    let st := eState (entryAt s n)
    if s.tmp.locked then finish r.val id (resSt 0x12) s
    else if s.cx.kdk = none then finish r.val id (resSt 0x23) s
    else if st = stActive ∨ st = stSilent ∨ st = stGone then finish r.val id (resOk 0) (startRekey n 1 s)
    else finish r.val id (resSt 0x41) s))

/-- TICKET_UNWRAP (R435, R436): the key that the oldest waiting LEAF frame of leaf n needs is unwrapped into a slot; a
ticket that does not unwrap ends that frame KEY_EMPTY. -/
def execTicketUnwrap (leaf : BitVec 12) (s : State) : Out := run s fun s =>
  match s.line.q.find? fun f => decide (f.dst = leaf) && decide ((frameSec f.ty.toNat f.dst).1 = 1) && f.raw.isNone &&
      (decide (f.st = .queued) || decide (f.st = .held)) with
  | none => s
  | some f =>
    if isHead s && (cachedSlot s leaf.toNat).isNone && !s.tmp.locked then
      match leafKey leaf.toNat s with
      | (.empty, s) => sealFailed f .empty s
      | (_, s) => s
    else s

/-! ### Registers (R448 to R450, R457) -/

/-- CX_FAULT: with CLR the slot's fault hold is lifted, its waiting load completes and its jobs go on (R448). -/
def cxFaultWrite (v : Word) (s : State) : State :=
  let i := fld v 0 6
  let s := { s with cx := { s.cx with faultSlot := v &&& 0x3F } }
  if bitAt v 31 && (slotAt s i).fhold then
    let n := (s.cx.jobs.filter fun j => decide (j.slot = i)).length
    let s := raise 0x0702 i [(0, 4, n)] (updSlot i (fun k => { k with fhold := false }) s)
    let s := match s.cx.loads.find? fun l => decide (l.slot = i) && l.placed with
      | some l => loadDone l s
      | none => s
    dispatchAll s
  else s

/-- FAULT_HOLD_CLEAR (R448). -/
def execFaultHoldClear (v : Word) (s : State) : Out := runHost s (cxFaultWrite (v ||| 0x80000000))

/-- Core c is reset (R449, 17 R541): its job in flight completes ABORTED_RESET, and its test vector runs. -/
def coreReset (byHost : Bool) (c : Nat) (s : State) : State :=
  let job := (coreAt s c).job
  let s := updCore c (fun x => { x with st := .faulted, job := none, hold := [], selfTest := true }) s
  let ds := match job with
    | some j => if jobLive s j then [(j.ring, j.desc)] else []
    | none => []
  let s := resetBegin (0x20 + c) 1 byHost ds s
  let s := match job with
    | some j => endJob j (resSt 0x10) s
    | none => s
  resetsSettle (dispatchAll (noCoreCheck s))

/-- The enables of the cores change: a core that is cleared ends its job first (R450). -/
def coreEnables (en : BitVec 4) (s : State) : State :=
  let s := { s with cx := { s.cx with coreEn := en } }
  let s := (List.range 4).foldl (fun s c =>
    let x := coreAt s c
    if x.st = .idle ∨ x.st = .off then updCore c (fun x => { x with st := restState s c }) s else s) s
  dispatchAll (noCoreCheck s)

def cxCoreWrite (v : Word) (s : State) : State :=
  let s := coreEnables (BitVec.ofNat 4 (fld v 0 4)) s
  (List.range 4).foldl (fun s c => if bitAt v (8 + c) then coreReset false c s else s) s

/-- A write of CX_CORE by the host: it writes EN of every core, the field of the forced actions (18 R563). -/
def cxCoreHost (v : Word) (s : State) : State :=
  (List.range 4).foldl (fun s c => hostWrote (0x20 + c) s) (cxCoreWrite v s)

/-- CORE_RESET (R449). -/
def execCoreReset (v : Word) (s : State) : Out := runHost s (cxCoreHost v)

/-- CORE_DISABLE (R450). -/
def execCoreDisable (v : Word) (s : State) : Out := runHost s (cxCoreHost v)

/-- CORE_SELF_TEST_DONE (R449). The slot and the block that CX_CORE_FAULT names for a failed test are free values. -/
def execCoreSelfTestDone (core : Fin 4) (pass : Bool) (s : State) : Out := run s fun s =>
  if (coreAt s core.val).selfTest then
    if pass then
      let s := updCore core.val (fun x => { x with st := restState s core.val, selfTest := false }) s
      dispatchAll (noCoreCheck (raise 0x0708 core.val [] s))
    else
      let (a, s) := draw s
      let (b, s) := draw s
      let s := updCore core.val (fun x => { x with st := .faulted, selfTest := false }) s
      raise 0x0701 core.val [(0, 1, a.toNat), (1, 1, 2), (4, 4, b.toNat)] s
  else s

/-- The words of Table 13.5 that describe a slot or a leaf record. -/
def cxRecord (use : BitVec 3) (size warn exh fhold : Bool) (gen : Nat) (held owner inv blk : Nat) : CxInfo :=
  { info := at32 use.toNat 29 ||| at32 (ofBool size) 28 ||| at32 (ofBool warn) 27 ||| at32 (ofBool exh) 26 |||
      at32 (ofBool fhold) 25 ||| at32 (gen % 64) 16 ||| at32 (held % 65536) 0
    owner := BitVec.ofNat 32 owner
    inv := BitVec.ofNat 64 inv
    blk := BitVec.ofNat 64 blk }

def keyHeld (s : State) (inst : Nat) : Nat := (lgGet (7, inst) s.lg.inst).held.toNat

/-- CX_SLOT_SEL copies the record of a slot or a leaf (R457); a slot number above 63 copies free values. -/
def slotSelect (v : Word) (s : State) : State :=
  let i := fld v 0 12
  let s := { s with cx := { s.cx with slotSel := v &&& 0x80000FFF } }
  if bitAt v 31 then
    let u := useRec s i
    let hot := cachedSlot s i
    let fh := match hot with
      | some j => (slotAt s j).fhold
      | none => false
    let w := cxRecord (if hot.isSome then useCached else 0) u.size u.warn u.exh fh
      (tkGen (eTicket (entryAt s i))) (keyHeld s (0x1000 + i)) i u.inv u.blk
    { s with cx := { s.cx with info := w } }
  else if i < 64 then
    let k := slotAt s i
    let (inv, blk, warn, exh) := keyCounts s i
    let w := cxRecord k.use k.size warn exh k.fhold k.gen.toNat (keyHeld s (keyInst s i))
      (if k.use = useCached then k.owner.toNat else 0) inv blk
    { s with cx := { s.cx with info := w } }
  else
    let (a, s) := draw s
    let (b, s) := draw s
    let (c, s) := draw s
    { s with cx := { s.cx with info :=
      { info := a.setWidth 32 &&& 0xFE3FFFFF, owner := (a >>> 32).setWidth 32 &&& 0xFFF, inv := b, blk := c } } }

/-- SLOT_SELECT (R457). -/
def execSlotSelect (v : Word) (s : State) : Out := runHost s (slotSelect v)

def cxCtrlWrite (v : Word) (s : State) : State := { s with cx := { s.cx with ctrl := limFld (v &&& 0x130) 4 2 0 2 } }
/-- BLKE 20 to 48, INVE 16 to 40 (Table 13.5). -/
def cxLimNorm (v : Word) : Word := limFld (limFld (v &&& 0x3F3F) 8 6 20 48) 0 6 16 40
def cxLimLeafWrite (v : Word) (s : State) : State := { s with cx := { s.cx with limLeaf := cxLimNorm v } }
def cxLimNetWrite (v : Word) (s : State) : State := { s with cx := { s.cx with limNet := cxLimNorm v } }

/-- CX_FAULTMAP: bit i for slot i under fault hold. -/
def cxFaultMap (s : State) : BitVec 64 :=
  (List.range 64).foldl (fun m i => if (slotAt s i).fhold then m ||| BitVec.ofNat 64 (2 ^ i) else m) 0

/-- A tamper response (R451, 19 R592): every job completes TAMPER, the hold buffers are overwritten; waiting key loads
complete TAMPER too (19 R597). The descriptors concerned. -/
def cxTamper (s : State) : List (Nat × Nat) × State :=
  let inFlight := (List.range 4).filterMap fun c => (coreAt s c).job
  let js := inFlight ++ s.cx.jobs
  let ds := (js.filter (jobLive s)).map fun j => (j.ring, j.desc)
  let ls := s.cx.loads
  let s := { s with cx := { s.cx with jobs := [], loads := [] } }
  let s := (List.range 4).foldl (fun s c => updCore c (fun x => { x with
    st := if x.st = .busy then restState s c else x.st
    job := none
    hold := [] }) s) s
  let s := js.foldl (fun s j => endJob j (resSt 0x12) s) s
  let s := ls.foldl (fun s l => finish l.ring l.desc (resSt 0x12) s) s
  (ds ++ ls.map (fun l => (l.ring, l.desc)), s)

end Sys2Proof.Machine
end

