-- ==== Sys2Proof/Machine/Cv.lean ====
section
/-! DEFINITION. The check-value unit (14): the parameters of its eight channels, feeding, results and context. -/
namespace Sys2Proof.Machine

def cvAt (s : State) (c : Nat) : CvCh := vget s.cv.ch c (CvCh.reset 4)
def updCv (c : Nat) (f : CvCh → CvCh) (s : State) : State := { s with cv := { s.cv with ch := vupd s.cv.ch c f } }

def cvWidth (k : CvCh) : Nat := fld k.cfg 0 6
def cvMask (w : Nat) (v : Word) : Word := BitVec.ofNat 32 (v.toNat % 2 ^ w)

/-- A row of Table 14.1: width, POLY, INIT, REFIN and REFOUT, XOROUT. -/
def cvPreset : Nat → Nat × Word × Word × Bool × Word
  | 1 => (32, 0x04C11DB7, 0xFFFFFFFF, true, 0xFFFFFFFF)
  | 2 => (32, 0x1EDC6F41, 0xFFFFFFFF, true, 0xFFFFFFFF)
  | 3 => (32, 0x04C11DB7, 0xFFFFFFFF, false, 0xFFFFFFFF)
  | 4 => (16, 0x1021, 0xFFFF, true, 0xFFFF)
  | 5 => (16, 0x1021, 0xFFFF, false, 0)
  | 6 => (16, 0x8005, 0, true, 0)
  | 7 => (16, 0x1021, 0, true, 0)
  | _ => (8, 0x07, 0, false, 0)

/-- STATE is INIT again and COUNT 0 (R464, R470). -/
def cvReload (k : CvCh) : CvCh := { k with state := k.init, count := 0 }

def cvRefuse (c cause : Nat) (s : State) : State :=
  { s with cv := { s.cv with refused := true, cause := BitVec.ofNat 3 cause, chn := BitVec.ofNat 3 c } }

/-- The owner of a channel's parameters (R458, R459): the frame layer of 0 and 1, the Balton core of 2 and 3, the agent
that plays host of the others. `balton`: the write comes from the core's own side. -/
def cvOwned (c : Nat) (balton : Bool) : Bool := decide (4 ≤ c) || (balton && decide (2 ≤ c))

/-- A write of CVn_CFG (R462 to R464). A host write to a channel it does not own is refused; another agent's write to a
read-only register does nothing. -/
def cvCfg (c : Nat) (balton : Bool) (v : Word) (s : State) : State :=
  let w := fld v 0 6
  let p := fld v 16 4
  if !cvOwned c balton then (if balton then s else cvRefuse c 1 s)
  else if p = 0 ∨ 8 < p then
    if w = 0 ∨ 32 < w then cvRefuse c 2 s
    else if 8 < p then cvRefuse c 3 s
    else updCv c (fun k => cvReload { k with
      cfg := v &&& 0x33F
      poly := cvMask w k.poly
      init := cvMask w k.init
      xorout := cvMask w k.xorout }) s
  else
    let (w, poly, init, refl, xo) := cvPreset p
    updCv c (fun k => cvReload { k with
      cfg := at32 p 16 ||| at32 (3 * ofBool refl) 8 ||| at32 w 0
      poly := poly
      init := init
      xorout := xo }) s

/-- A write of CVn_POLY, CVn_INIT or CVn_XOROUT (R463, R464). -/
def cvParam (c : Nat) (balton : Bool) (r : CvReg) (v : Word) (s : State) : State :=
  if !cvOwned c balton then (if balton then s else cvRefuse c 1 s)
  else updCv c (fun k =>
    let m := cvMask (cvWidth k) v
    let k := { k with cfg := k.cfg &&& 0xFFFF }
    cvReload (match r with
      | .poly => { k with poly := m }
      | .init => { k with init := m }
      | .xorout => { k with xorout := m })) s

/-- One byte fed (R460). -/
def cvFeed (b : Byte) (k : CvCh) : CvCh :=
  { k with state := BitVec.ofNat 32 (crcByte (cvWidth k) k.poly.toNat (bitAt k.cfg 8) k.state.toNat b), count := inc32 k.count }

/-- The bytes of a write whose enables are set, in increasing address order (R465). -/
def enabledBytes (be : BitVec 4) (v : Word) : List Byte :=
  (List.range 4).filterMap fun i => if be.getLsbD i then some (BitVec.ofNat 8 (fld v (8 * i) 8)) else none

/-- A write to the data window of a host channel; channels 0 to 3 have none (R458, R465). -/
def cvData (c : Nat) (be : BitVec 4) (v : Word) (s : State) : State :=
  if 4 ≤ c then updCv c (fun k => (enabledBytes be v).foldl (fun k b => cvFeed b k) k) s else s

/-- A write of CVn_CTL (R470). -/
def cvCtl (c : Nat) (v : Word) (s : State) : State := if 4 ≤ c ∧ bitAt v 0 then updCv c cvReload s else s

/-- A write of CVn_STATE (R471). -/
def cvStateSet (c : Nat) (v : Word) (s : State) : State :=
  if 4 ≤ c then updCv c (fun k => { k with state := cvMask (cvWidth k) v }) s else s

/-- RESULT (R461). -/
def cvResult (k : CvCh) : Word :=
  let st := if bitAt k.cfg 9 then reflect (cvWidth k) k.state.toNat else k.state.toNat
  cvMask (cvWidth k) (BitVec.ofNat 32 st ^^^ k.xorout)

/-- What a read of a channel's window returns (R469). -/
def cvRead (s : State) (c : Nat) : CvRead → Word
  | .result => cvResult (cvAt s c)
  | .state => (cvAt s c).state
  | .count => (cvAt s c).count

def cvStatus (s : State) : Word :=
  at32 (ofBool s.cv.refused) 31 ||| at32 s.cv.cause.toNat 28 ||| at32 s.cv.chn.toNat 24
def cvStatusWrite (v : Word) (s : State) : State := { s with cv := { s.cv with refused := w1c s.cv.refused v 31 } }

/-- The host channels return to their reset values (R472). -/
def cvHostReset (s : State) : State :=
  { s with cv := { s.cv with ch := Vector.ofFn fun c : Fin 8 => if 4 ≤ c.val then CvCh.reset c.val else cvAt s c.val } }

/-- CV_CFG_WRITE (R462 to R464): a write by the agent that plays host. -/
def execCvCfgWrite (c : Fin 8) (v : Word) (s : State) : Out := runHost s (cvCfg c.val false v)

/-- CV_PARAM_WRITE (R463, R464). -/
def execCvParamWrite (c : Fin 8) (r : CvReg) (v : Word) (s : State) : Out := runHost s (cvParam c.val false r v)

/-- CV_DATA_WRITE (R460, R465). -/
def execCvDataWrite (c : Fin 8) (be : BitVec 4) (v : Word) (s : State) : Out := runHost s (cvData c.val be v)

/-- CV_RESTART (R470). -/
def execCvRestart (c : Fin 8) (v : Word) (s : State) : Out := runHost s (cvCtl c.val v)

/-- CV_STATE_WRITE (R471). -/
def execCvStateWrite (c : Fin 8) (v : Word) (s : State) : Out := runHost s (cvStateSet c.val v)

/-- CV_RESULT_READ (R469): a read answers and changes nothing else of the unit. -/
def execCvResultRead (c : Fin 8) (r : CvRead) (s : State) : Out := runHost s fun s =>
  { s with answer := some (cvRead s c.val r) }

end Sys2Proof.Machine
end

