-- ==== Sys2Proof/Machine/Hi.lean ====
section
/-! DEFINITION. The Merno rings (15): their configuration and doorbells, and the descriptors that have no unit of their
own: NOP, LINE_TX, RX_POST, the REMOTE ones, LEDGER_SNAP, MSS_REQUEST. -/
namespace Sys2Proof.Machine

/-! ### Configuration (15 R478 to R480) -/

/-- A refused write: HI_STATUS and HI_CFG_REFUSED (15 R479). -/
def hiRefuse (cause : Nat) (cq : Bool) (ring : Nat) (s : State) : State :=
  raise 0x0D05 0xFF [(0, 1, cause), (1, 1, ofBool cq), (2, 1, ring)]
    { s with hi := { s.hi with
        refused := true
        cause := BitVec.ofNat 3 cause
        causeCq := cq
        causeRing := BitVec.ofNat 4 ring } }

/-- A ring of this size at this base may be enabled: aligned, and in autonomous operation inside the host region
(15 R479, R505). -/
def baseOk (s : State) (base align entries : Nat) : Bool :=
  decide (base % align = 0) && regionOk s base (align * entries)

def sizeOk (cfg : Word) (lo : Nat) : Bool := decide (lo ≤ fld cfg 0 5) && decide (fld cfg 0 5 ≤ 16)

/-- The write only clears EN: every other field keeps its value. -/
def onlyClears (old new : Word) : Bool := !bitAt new 31 && decide (new.setWidth 31 = old.setWidth 31)

def sqBaseWrite (n : Nat) (base : BitVec 64) (s : State) : State :=
  if (sqAt s n).st = .disabled then updSq n (fun q => { q with base := base &&& 0xFFFFFFFFFFFFFFC0 }) s
  else hiRefuse 3 false n s

def cqBaseWrite (m : Nat) (base : BitVec 64) (s : State) : State :=
  if (cqAt s m).st = .disabled then updCq m (fun c => { c with base := base &&& 0xFFFFFFFFFFFFFFF0 }) s
  else hiRefuse 3 true m s

/-- The ring is DISABLED once no descriptor is taken (15, EN is cleared with work taken). -/
def sqStop (n : Nat) (s : State) : State :=
  updSq n (fun q => { q with st := if q.taken.isEmpty then .disabled else .stopping, fcause := 0 }) s

/-- Why HI_SQn_CFG may not set EN (15 R479); several at once: in this order (log entry 45). -/
def sqEnableCause (s : State) (n : Nat) (v : Word) : Option Nat :=
  if !baseOk s (sqAt s n).base.toNat 64 (2 ^ fld v 0 5) then some 1
  else if !sizeOk v 4 then some 2
  else if (cqAt s (fld v 16 4)).st ≠ .running then some 4
  else if sqClass v = 3 then some 6
  else none

def sqCfgWrite (n : Nat) (v : Word) (s : State) : State :=
  let v := v &&& 0x833F001F
  let q := sqAt s n
  if q.st ≠ .disabled then
    if onlyClears q.cfg v then sqStop n (updSq n (fun q => { q with cfg := v }) s) else hiRefuse 3 false n s
  else if bitAt v 31 then
    match sqEnableCause s n v with
    | some c => hiRefuse c false n s
    | none => updSq n (fun q => { q with cfg := v, st := .running, read := 0, tail := 0, bell := 0, taken := [] }) s
  else updSq n (fun q => { q with cfg := v }) s

/-- A submission ring that is not DISABLED names the completion ring (15 R479). -/
def cqInUse (s : State) (m : Nat) : Bool := s.hi.sq.toList.any fun q => decide (q.st ≠ .disabled) && decide (sqCq q = m)

def cqEnableCause (s : State) (m : Nat) (v : Word) : Option Nat :=
  if !baseOk s (cqAt s m).base.toNat 16 (2 ^ fld v 0 5) then some 1
  else if !sizeOk v 4 then some 2
  else none

/-- A completion ring disabled: every slot it still holds is returned (17 R536). -/
def cqDisable (m : Nat) (s : State) : State :=
  giveAll 2 m (updCq m (fun c => { c with st := .disabled, armed := false, reserved := 0, written := [] }) s)

def cqCfgWrite (m : Nat) (v : Word) (s : State) : State :=
  let v := oneFld (v &&& 0x8FFFFF1F) 8 8
  let c := cqAt s m
  if c.st ≠ .disabled then
    if !onlyClears c.cfg v then hiRefuse 3 true m s
    else if cqInUse s m then hiRefuse 5 true m s
    else cqDisable m (updCq m (fun c => { c with cfg := v }) s)
  else if bitAt v 31 then
    match cqEnableCause s m v with
    | some k => hiRefuse k true m s
    | none => updCq m (fun c => { c with
        cfg := v
        st := .running
        armed := false
        head := 0
        tail := 0
        seq := 1
        bell := 0
        reserved := 0
        written := [] }) s
  else updCq m (fun c => { c with cfg := v }) s

def ringCfgWrite (k : RingKind) (n : Nat) (v : Word) (s : State) : State :=
  match k with
  | .sq => sqCfgWrite n v s
  | .cq => cqCfgWrite n v s

/-- RING_ENABLE and RING_DISABLE: the write of HI_SQn_CFG or HI_CQn_CFG (15 R479, R480). -/
def execRingEnable (k : RingKind) (n : Fin 16) (v : Word) (s : State) : Out := runHost s (ringCfgWrite k n.val v)
def execRingDisable (k : RingKind) (n : Fin 16) (v : Word) (s : State) : Out := runHost s (ringCfgWrite k n.val v)

def stCode : RingSt → Nat
  | .disabled => 0
  | .running => 1
  | .stopping => 2
  | .fault => 3

def hiStatus (s : State) : Word :=
  at32 (ofBool s.hi.refused) 31 ||| at32 s.hi.cause.toNat 28 ||| at32 (ofBool s.hi.causeCq) 27 |||
    at32 s.hi.causeRing.toNat 23

def hiStatusWrite (v : Word) (s : State) : State := { s with hi := { s.hi with refused := w1c s.hi.refused v 31 } }

def sqStat (q : Sq) : Word :=
  at32 (stCode q.st) 30 ||| at32 q.fcause.toNat 28 ||| at32 (min 511 q.taken.length) 16 ||| at32 (q.read % 65536) 0

def cqStat (c : Cq) : Word :=
  at32 (stCode c.st) 30 ||| at32 (ofBool c.armed) 29 ||| at32 (c.tail % 65536) 0

/-! ### Doorbells (15 R482 to R486) -/

/-- HI_RING_FAULT (16 Table 16.16). -/
def ringFault (cq : Bool) (r fcause v : Nat) (s : State) : State :=
  raise 0x0D03 r [(0, 1, ofBool cq), (1, 1, fcause), (4, 4, v)] s

/-- The steps from index a to index b of a ring of S entries. -/
def ringGap (S a b : Nat) : Nat := (b + S - a) % S

/-- The position of the oldest descriptor that has not completed. -/
def sqOldest (q : Sq) : Nat := (q.read + ringSize q.cfg - q.taken.length % ringSize q.cfg) % ringSize q.cfg

def sqBell (n : Nat) (v : Word) (s : State) : State :=
  let q := sqAt s n
  let S := ringSize q.cfg
  let t := fld v 0 16
  if q.st ≠ .running then s
  else if t < S ∧ ringGap S (sqOldest q) q.tail ≤ ringGap S (sqOldest q) t then
    updSq n (fun q => { q with tail := t, bell := v &&& 0xFFFF }) s
  else ringFault false n 1 v.toNat (updSq n (fun q => { q with st := .fault, fcause := 1 }) s)

def cqBell (m : Nat) (v : Word) (s : State) : State :=
  let c := cqAt s m
  let S := ringSize c.cfg
  let h := fld v 0 16
  if c.st ≠ .running then s
  else if h < S ∧ ringGap S c.head h ≤ ringGap S c.head c.tail then
    let k := ringGap S c.head h
    let s := updCq m (fun c => { c with
      head := h
      bell := v &&& 0x8000FFFF
      armed := c.armed || bitAt v 31
      written := c.written.drop k }) s
    cqNotify m (giveBack 2 m k s)
  else ringFault true m 1 v.toNat (updCq m (fun c => { c with st := .fault }) s)

/-- SQ_DOORBELL (15 R482, R485). -/
def execSqDoorbell (n : Fin 16) (v : Word) (s : State) : Out := runHost s (sqBell n.val v)
/-- CQ_DOORBELL (15 R484, R485, R498). -/
def execCqDoorbell (m : Fin 16) (v : Word) (s : State) : Out := runHost s (cqBell m.val v)
/-- CQ_DELAY_EXPIRY (15 R498). -/
def execCqDelayExpiry (m : Fin 16) (s : State) : Out := run s fun s =>
  let c := cqAt s m.val
  if c.armed && decide (fld c.cfg 16 12 ≠ 0) && decide (cqUnconsumed c ≠ 0) then cqFire m.val s else s

/-! ### NOP, RX_POST and unknown opcodes -/

/-- NOP (15 Table 15.3): its record waits for the earlier ones of its ring (R495). -/
def execNop (r : Fin 16) (d : DescBytes) (s : State) : Out := run s <|
  descRow (· == 0x0000) r d fun id => finish r.val id (resOk 0)

/-- UNKNOWN_OPCODE (15 R493): completes BAD_DESCRIPTOR by the common checks. -/
def execUnknownOpcode (r : Fin 16) (d : DescBytes) (s : State) : Out := run s <|
  descRow (fun o => !knownOps.contains o) r d fun _ s => s

/-- DESCRIPTOR_READ_ERROR (15 R503): the descriptor is not taken, its ring enters FAULT. -/
def execDescriptorReadError (r : Fin 16) (s : State) : Out := run s fun s =>
  if isServed r.val s then
    ringFault false r.val 2 0 (updSq r.val (fun q => { q with st := .fault, fcause := 2 }) s)
  else s

/-- RX_POST (15 R500). -/
def execRxPost (r : Fin 16) (d : DescBytes) (s : State) : Out := run s <|
  descRow (· == 0x0011) r d fun id s =>
    if dLen d < 528 then finish r.val id (resBad 3) s
    else
      let p : RxPostS := { ring := r.val, desc := id, addr := dAddr d, len := dLen d }
      rxFillAll { s with hi := { s.hi with rxPosts := s.hi.rxPosts ++ [p] } }

/-! ### LINE_TX (15 Table 15.3, R492; 03 R112) -/

/-- The deadline of a frame: DEADLINE us after the descriptor is taken, or AIR_HOLDb of the lowest band it occupies. -/
def deadlineOf (f : TxFrame) (us : Nat) (s : State) : Nat :=
  if us ≠ 0 then s.now + ticksUs us
  else s.now + ticksMs (fld (bandAt s ((bandsOf s (effMode s (modeOf f s).1)).headD 0)).hold 0 14)

/-- A frame of a descriptor, queued with its buffer. -/
def descFrame (r id : Nat) (d : DescBytes) (ty : Nat) (dst : BitVec 12) (body : List Byte) (s : State) : TxFrame :=
  let f := txNew ty dst body s
  let f := { f with desc := some (r, id), tag := BitVec.ofNat 32 (dTag d), urgent := dExpress d, buffer := true }
  { f with deadline := some (deadlineOf f (field512 d 24 4) s) }

def lineTx (r id : Nat) (d : DescBytes) (m : MemRead) (s : State) : State :=
  let leaf := dLeaf d
  if 512 < dLen d then finish r id (resBad 3) s
  else if isLeaf s && decide (leaf ≠ 0) || isHead s && decide (leaf = 0) then finish r id (resBad 4) s
  else if s.tmp.locked then finish r id (resSt 0x12) s
  else
    let go := fun (bs : List Byte) (s : State) =>
      let s := takeBuf (dExpress d) s
      let f := { descFrame r id d tyData leaf bs s with ackreq := decide (leaf ≠ bcast) }
      let s := submit f s
      if isLeaf s then contend f.id s else sweepLeaf leaf.toNat s
    if dLen d = 0 then go [] s else withData m r id (dAddr d) (dLen d) go s

/-- LINE_TX: a frame buffer must be free for its payload to be read (15 R502; log entry 46). -/
def execLineTx (r : Fin 16) (d : DescBytes) (m : MemRead) (s : State) : Out := run s fun s =>
  if bufFree s (dExpress d) then descRow (· == 0x0010) r d (fun id => lineTx r.val id d m) s else s

/-! ### REMOTE_READ, REMOTE_WRITE, REMOTE_FENCE (08 R277 to R281) -/

/-- The body of a REMOTE frame (05 Table 05.8). -/
def remoteBody (op count : Nat) (pseq : Word) (off : Nat) (data : List Byte) : List Byte :=
  [BitVec.ofNat 8 op, BitVec.ofNat 8 count] ++ leBytes 4 pseq.toNat ++ leBytes 4 off ++ data

/-- LENGTH, LEAF and OFFSET of a REMOTE descriptor (15 Table 15.3, 05 Table 05.8). -/
def remoteCheck (d : DescBytes) : Option Nat :=
  if dLen d < 4 ∨ 64 < dLen d ∨ dLen d % 4 ≠ 0 then some 3
  else if dLeaf d = 0 ∨ dLeaf d = bcast ∨ field512 d 28 4 % 4 ≠ 0 then some 4
  else none

/-- PSEQ runs from 1 and wraps to 1 (08 R278). -/
def takePseq (n : Nat) (s : State) : Word × State :=
  let p := ePseq (entryAt s n)
  (p, updEntry n (eSetPseq (if p = 0xFFFFFFFF then 1 else p + 1)) s)

def remoteRead (r id : Nat) (d : DescBytes) (s : State) : State :=
  match remoteCheck d with
  | some x => finish r id (resBad x) s
  | none =>
    if s.tmp.locked then finish r id (resSt 0x12) s
    else
      let body := remoteBody 0 (dLen d / 4) 0 (field512 d 28 4) []
      let f := { descFrame r id d tyRemote (dLeaf d) body s with buffer := false }
      sweepLeaf (dLeaf d).toNat (submit f s)

def execRemoteRead (r : Fin 16) (d : DescBytes) (s : State) : Out := run s <|
  descRow (· == 0x0020) r d fun id => remoteRead r.val id d

def remoteWrite (r id : Nat) (d : DescBytes) (m : MemRead) (s : State) : State :=
  match remoteCheck d with
  | some x => finish r id (resBad x) s
  | none =>
    if s.tmp.locked then finish r id (resSt 0x12) s
    else
      withData m r id (dAddr d) (dLen d) (fun bs s =>
        let n := (dLeaf d).toNat
        let (pseq, s) := if dPosted d then takePseq n s else (0, s)
        let s := takeBuf (dExpress d) s
        let body := remoteBody (if dPosted d then 2 else 1) (dLen d / 4) pseq (field512 d 28 4) bs
        let f := { descFrame r id d tyRemote (dLeaf d) body s with posted := dPosted d, pseq := pseq }
        pfailSweep n (sweepLeaf n (submit f s))) s

/-- REMOTE_WRITE, POSTED or not (08 R277, R278). -/
def execRemoteWrite (r : Fin 16) (d : DescBytes) (m : MemRead) (s : State) : Out := run s fun s =>
  if bufFree s (dExpress d) then descRow (· == 0x0021) r d (fun id => remoteWrite r.val id d m) s else s

/-- REMOTE_FENCE (08 R281): it waits for every posted write to the leaf taken before it. -/
def execRemoteFence (r : Fin 16) (d : DescBytes) (s : State) : Out := run s <|
  descRow (· == 0x0022) r d fun id s =>
    let n := dLeaf d
    if n = 0 ∨ n = bcast then finish r.val id (resBad 4) s
    else if s.tmp.locked then finish r.val id (resSt 0x12) s
    else
      let w := (s.line.q.filter fun f => f.posted && decide (f.dst = n)).map (·.id)
      let f : Fence := { ring := r.val, desc := id, leaf := n, failed := false, waits := w }
      fencesSettle { s with ltx := { s.ltx with fences := s.ltx.fences ++ [f] } }

/-! ### LEDGER_SNAP (17 R537 to R540) -/

/-- EV_WSEQ: the SEQ of the next record to be written (16 Table 16.17). -/
def evWseq (s : State) : Word :=
  match s.ev.held with
  | r :: _ => r.seq
  | [] => s.ev.nextSeq

/-- EV_STAT.HELD (16 Table 16.17). -/
def evHeldField (s : State) : Nat := min 127 s.ev.held.length

/-- The keys whose ledger exists (13 R455, 17 R539): of the slots that hold a key of their own, of the leaf keys in the
table of a head, and of replaced keys that still hold jobs. -/
def keyLedgers (s : State) : List Nat :=
  let own := slotsWhere s fun k => decide (k.use ≠ useEmpty) && decide (k.use ≠ useCached)
  let leaf := if isHead s then (s.lt.mem.filter fun p => decide (tkKind (eTicket p.2) ≠ 0)).map (fun p => 0x1000 + p.1) else []
  let live := (s.lg.inst.filter fun e => decide (e.1.1 = 7)).map (·.1.2)
  (own ++ leaf ++ live).eraseDups.mergeSort (fun a b => decide (a ≤ b))

/-- The instances a snapshot lists, by class, then by instance (17 R539). -/
def snapKeys (s : State) : List (Nat × Nat) :=
  let pair := fun (k : Nat) (l : List Nat) => l.map fun i => (k, i)
  pair 1 (List.range 16) ++ pair 2 (List.range 16) ++ [(3, 0), (4, 0)] ++
    (s.lg.inst.filter fun e => decide (e.1.1 = 5) && decide (e.2.issued ≠ 0)).map (·.1) ++
    pair 6 (List.range 4) ++ pair 7 (keyLedgers s) ++ [(8, 0)]

/-- AUX (17 Table 17.3). -/
def snapAux (s : State) (k : Nat × Nat) : Nat :=
  match k.1 with
  | 1 => (sqAt s k.2).read
  | 2 => (cqAt s k.2).seq.toNat
  | 3 => evHeldField s
  | 4 => freeBufs s
  | 5 => spGet 0 s.ltx.creditSet k.2
  | 6 => (BitVec.ofInt 32 (bandAt s k.2).main).toNat
  | 8 => 32 - mailCount s
  | _ => 0

def classFaulted (s : State) (k : Nat) : Bool := s.lg.fault.getLsbD (k - 1)

/-- One entry (17 Table 17.3). -/
def snapEntry (s : State) (k : Nat × Nat) : List Byte :=
  let l := lgGet k s.lg.inst
  [BitVec.ofNat 8 k.1, BitVec.ofNat 8 (ofBool (classFaulted s k.1) + 2 * ofBool l.retiring)] ++ leBytes 2 k.2 ++
    leBytes 4 l.held.toNat ++ leBytes 8 l.issued.toNat ++ leBytes 8 l.returned.toNat ++ leBytes 4 (snapAux s k) ++
    leBytes 4 0

/-- The header (17 Table 17.2). -/
def snapHeader (s : State) (total written : Nat) : List Byte :=
  leBytes 4 s.lg.epoch.toNat ++ leBytes 4 s.lg.snapCnt.toNat ++ leBytes 4 s.te.sec.toNat ++ leBytes 4 s.te.ns ++
    leBytes 2 total ++ leBytes 2 written ++ [s.lg.fault, 0, 0, 0] ++ leBytes 4 (evWseq s).toNat ++ leBytes 4 0

def ledgerSnap (r id : Nat) (d : DescBytes) (s : State) : State :=
  if dAddr d % 32 ≠ 0 then finish r id (resBad 4) s
  else if dLen d < 32 then finish r id (resBad 3) s
  else
    let s' := { s with lg := { s.lg with snapCnt := inc32 s.lg.snapCnt } }
    let ks := snapKeys s'
    let n := min ks.length ((dLen d - 32) / 32)
    let bs := snapHeader s' ks.length n ++ ((ks.take n).map (snapEntry s')).flatten
    withDst r id (dAddr d) (dLen d) (fun s => finish r id (resOk bs.length)
      (hostWrite (dAddr d) bs { s with lg := { s.lg with snapCnt := inc32 s.lg.snapCnt } })) s

/-- LEDGER_SNAP (17 R537 to R540). -/
def execLedgerSnap (r : Fin 16) (d : DescBytes) (s : State) : Out := run s <|
  descRow (· == 0x0050) r d fun id => ledgerSnap r.val id d

/-! ### MSS_REQUEST (17 R535, R545) -/

/-- MSS_STATUS.STATE is READY (18 Table 18.9). -/
def mssUp (s : State) : Bool := decide (s.mss.st = 1)

/-- The request is placed in a mailbox slot on the tick it is taken (17 R535). -/
def placeMail (r id : Nat) (s : State) : State :=
  issue 8 0 1 (updSq r (fun q => { q with taken := q.taken.map fun t => if t.id = id then { t with mail := true } else t }) s)

def mssRequest (r id : Nat) (d : DescBytes) (m : MemRead) (s : State) : State :=
  if dLen d < 4 ∨ 256 < dLen d then finish r id (resBad 3) s
  else if 4096 < field512 d 32 4 then finish r id (resBad 4) s
  else if !mssUp s then finish r id (resSt 0x13) s
  else withData m r id (dAddr d) (dLen d) (fun bs s =>
    let q : Mail := { ring := r, desc := id, req := bs, addr := field512 d 24 8, cap := field512 d 32 4 }
    { s with mss := { s.mss with mail := s.mss.mail ++ [q] } }) s

/-! ### MSI-X (15 R475, 16 R518) -/

/-- A write of the table entry: address, data, vector control; a message pending is sent on unmasking. -/
def msixWrite (off : Nat) (v : Word) (s : State) : State :=
  let m := s.msix
  if off = 0 then { s with msix := { m with addr := (m.addr &&& 0xFFFFFFFF00000000) ||| (v &&& 0xFFFFFFFC).setWidth 64 } }
  else if off = 4 then { s with msix := { m with addr := (m.addr &&& 0xFFFFFFFF) ||| (v.setWidth 64 <<< 32) } }
  else if off = 8 then { s with msix := { m with data := v } }
  else
    let m := { m with mask := bitAt v 0 }
    { s with msix := if !m.mask && m.pend then { m with pend := false, sent := m.sent + 1 } else m }

/-- MSIX_UNMASK: the write of the vector control word (16 R518). -/
def execMsixUnmask (v : Word) (s : State) : Out := runHost s (msixWrite 12 v)

end Sys2Proof.Machine
end

