-- ==== Sys2Proof/Machine/Ev.lean ====
section
/-! DEFINITION. The event ring's configuration and doorbell (16 R512 to R517) and the ledgers' registers (17 R532, R533);
the event path itself stands in Ops.lean. -/
namespace Sys2Proof.Machine

/-! ### Configuration (16 R512, R513) -/

def evRefuse (cause : Nat) (s : State) : State :=
  raise 0x0D05 0xFF [(0, 1, cause), (3, 1, 1)]
    { s with ev := { s.ev with refused := true, cause := BitVec.ofNat 3 cause } }

def evBaseWrite (base : BitVec 64) (s : State) : State :=
  if s.ev.st = .disabled then { s with ev := { s.ev with base := base &&& 0xFFFFFFFFFFFFFFE0 } } else evRefuse 3 s

/-- The replay of the log at the first EV_RING_STARTED after a cold start (18 R570): records of earlier epochs, not
posted, of the catalogue, oldest first, with ORIGIN 3 and the time in the log. -/
def replayable (s : State) (l : LogRec) : Bool :=
  decide (l.epoch ≠ s.lg.epoch) && !l.posted && !([0x09F0, 0x09F1, 0x09F2, 0x09F3].contains l.code.toNat)

def evReplay (s : State) : State :=
  if s.mssx.replayed then s
  else
    let rs := s.mssx.log.filter (replayable s)
    let mark := fun (l : LogRec) => if replayable s l then { l with posted := true } else l
    let s := { s with mssx := { s.mssx with replayed := true, log := s.mssx.log.map mark } }
    rs.foldl (fun s l =>
      raiseRaw l.code.toNat (0x3000 + l.source.toNat % 256) (l.sec.setWidth 32) l.ns l.payload s) s

/-- EV_RING_STARTED takes its place behind every record held; it is never coalesced (16 R513). -/
def evStarted (s : State) : State :=
  let p := payload [(0, 1, s.ev.startCause.toNat), (4, 4, s.ev.held.length),
    (8, 4, s.ev.coal.foldl (fun n c => n + c.2.count.toNat) 0), (12, 4, s.lg.epoch.toNat)]
  let (r, s) := evForm evStartedCode.toNat 0x00FF (s.te.sec.setWidth 32) (BitVec.ofNat 32 s.te.ns) p s
  let e := s.ev
  { s with ev := { e with
      held := e.held ++ [r]
      mode := if e.mode = .coalescing then .coalescing else .holding
      startCause := 2 } }

def evEnable (v : Word) (s : State) : State :=
  let s := { s with ev := { s.ev with
    cfg := v
    st := .running
    armed := false
    head := 0
    tail := 0
    bell := 0
    written := [] } }
  evReplay (evDrainAll (evStarted s))

/-- The event ring disabled: every record it still holds is returned (17 R536). -/
def evDisable (s : State) : State :=
  let cause : Byte := if s.ev.st = .fault then 4 else s.ev.startCause
  giveAll 3 0 { s with ev := { s.ev with st := .disabled, armed := false, written := [], startCause := cause } }

def evCfgWrite (v : Word) (s : State) : State :=
  let v := oneFld (v &&& 0x8FFFFF1F) 8 8
  if s.ev.st ≠ .disabled then
    if onlyClears s.ev.cfg v then evDisable { s with ev := { s.ev with cfg := v } } else evRefuse 3 s
  else if bitAt v 31 then
    if !baseOk s s.ev.base.toNat 32 (2 ^ fld v 0 5) then evRefuse 1 s
    else if !sizeOk v 6 then evRefuse 2 s
    else evEnable v s
  else { s with ev := { s.ev with cfg := v } }

/-- EVENT_RING_ENABLE and EVENT_RING_DISABLE: the write of EV_CFG (16 R512, R513, R516). -/
def execEventRingEnable (v : Word) (s : State) : Out := runHost s (evCfgWrite v)
def execEventRingDisable (v : Word) (s : State) : Out := runHost s (evCfgWrite v)

/-! ### Doorbell (16 R515 to R517) -/

def evBell (v : Word) (s : State) : State :=
  let e := s.ev
  let S := ringSize e.cfg
  let h := fld v 0 16
  if e.st ≠ .running then s
  else if h < S ∧ ringGap S e.head h ≤ ringGap S e.head e.tail then
    let k := ringGap S e.head h
    let s := { s with ev := { e with
      head := h
      bell := v &&& 0x8000FFFF
      armed := e.armed || bitAt v 31
      written := e.written.drop k } }
    evNotify (evDrainAll (giveBack 3 0 k s))
  else { s with ev := { e with st := .fault } }

def execEventDoorbell (v : Word) (s : State) : Out := runHost s (evBell v)

/-- EVENT_RECORD_WRITE (16 R521): the records held or counted that the ring has room for. -/
def execEventRecordWrite (s : State) : Out := run s evDrainAll
/-- EVENT_NOTIFY_DELAY (16 R517). -/
def execEventNotifyDelay (s : State) : Out := run s fun s =>
  if s.ev.armed && evAwake s && decide (fld s.ev.cfg 16 12 ≠ 0) && decide (evUnconsumed s.ev ≠ 0) then evFire s else s

def evModeCode : EvMode → Nat
  | .normal => 0
  | .holding => 1
  | .coalescing => 2

def evStat (s : State) : Word :=
  at32 (ofBool s.ev.refused) 31 ||| at32 (stCode s.ev.st) 29 ||| at32 (ofBool s.ev.armed) 28 |||
    at32 (evModeCode s.ev.mode) 26 ||| at32 s.ev.cause.toNat 23 ||| at32 (evHeldField s) 16 ||| at32 (s.ev.tail % 65536) 0

def evStatWrite (v : Word) (s : State) : State := { s with ev := { s.ev with refused := w1c s.ev.refused v 31 } }

/-! ### Ledger faults (17 R532, R533) -/

/-- LEDGER_ECC_ERROR: the class is faulted; its counts are unspecified, here free values (log entry 27). Class 0 is
none. -/
def ledgerFault (c i : Nat) (s : State) : State :=
  let inst := if c = 1 ∨ c = 2 ∨ c = 6 then i % 256 else 0xFF
  let s := { s with lg := { s.lg with fault := s.lg.fault ||| BitVec.ofNat 8 (2 ^ (c - 1)) } }
  let ks := (snapKeys s).filter fun k => decide (k.1 = c)
  let s := ks.foldl (fun s k =>
    let (a, s) := draw s
    let (b, s) := draw s
    let (h, s) := draw s
    { s with lg := lgUpd k.1 k.2 (fun l => { l with issued := a, returned := b, held := h.setWidth 32 }) s.lg }) s
  raise 0x0802 0xFF [(0, 1, c), (1, 1, inst)] s

/-- The error strikes the storage of class c + 1; `i` is its instance, 0xFF when it cannot be traced. -/
def execLedgerEccError (c : Fin 8) (i : Nat) (s : State) : Out := run s (ledgerFault (c.val + 1) i)

/-- What an instance holds by the live state of the units that own it (17 R533, Table 17.4). -/
def liveHeld (s : State) (k : Nat × Nat) : Nat :=
  match k.1 with
  | 1 => (sqAt s k.2).taken.length
  | 2 => if (cqAt s k.2).st = .disabled then 0 else (cqAt s k.2).reserved + cqUnconsumed (cqAt s k.2)
  | 3 => if s.ev.st = .disabled then 0 else evUnconsumed s.ev
  | 4 => s.hi.bufsUsed
  | 5 => spGet 0 s.ltx.credits k.2 + (s.line.q.filter fun f => f.credit && decide (f.hop.toNat = k.2)).length
  | 6 => s.line.q.foldl (fun n f => if inFlight f && decide (f.st ≠ .waiting) then n + vget f.cost k.2 0 else n) 0
  | 7 => if k.2 < 64 then (slotAt s k.2).held
         else match cachedSlot s (k.2 - 0x1000) with
           | some i => (slotAt s i).held
           | none => 0
  | 8 => mailCount s
  | _ => 0

/-- A faulted class is re-initialised: issued becomes the recounted held, returned 0 (17 R533). -/
def ledgerReinit (c : Nat) (s : State) : State :=
  let ks := ((snapKeys s ++ s.lg.inst.map (·.1)).filter fun k => decide (k.1 = c)).eraseDups
  let s := ks.foldl (fun s k =>
    let h := liveHeld s k
    { s with lg := lgUpd k.1 k.2 (fun l =>
      { l with issued := BitVec.ofNat 64 h, returned := 0, held := BitVec.ofNat 32 h }) s.lg }) s
  raise 0x0803 0xFF [(0, 1, c), (1, 1, 0xFF)]
    { s with lg := { s.lg with fault := s.lg.fault &&& ~~~ BitVec.ofNat 8 (2 ^ (c - 1)) } }

def lgRefuse (cause : Nat) (s : State) : State :=
  { s with lg := { s.lg with refused := true, cause := BitVec.ofNat 3 cause } }

def lgReinitWrite (v : Word) (s : State) : State :=
  let c := fld v 0 4
  if !bitAt v 31 then s
  else if c = 0 ∨ 8 < c ∨ !classFaulted s c then lgRefuse 3 s
  else ledgerReinit c s

/-- LEDGER_REINIT: the write of LG_REINIT (17 R533). -/
def execLedgerReinit (v : Word) (s : State) : Out := runHost s (lgReinitWrite v)

/-- URESET_BUSY: a reset begun by LG_URESET has not raised its UNIT_RESET_DONE (17 R542). -/
def lgStatus (s : State) : Word :=
  at32 (ofBool s.lg.refused) 31 ||| at32 s.lg.cause.toNat 28 ||| at32 s.lg.fault.toNat 8 |||
    at32 (ofBool (s.lg.resets.any fun u => u.byHost)) 0

def lgStatusWrite (v : Word) (s : State) : State := { s with lg := { s.lg with refused := w1c s.lg.refused v 31 } }

end Sys2Proof.Machine
end

