-- ==== Sys2Proof/Machine/Mss.lean ====
section
/-! DEFINITION. The management subsystem (18): boot state and images in flash, restarts of the Balton core, sensors and
forced actions, unit views, the log. The mailbox commands stand in Mail.lean. Flash writes never fail in the model (log
entry 16). -/
namespace Sys2Proof.Machine

/-! ### The boot state (18 R551, R552) -/

/-- The copy in force: the valid one with the higher write count. -/
def bootCopy (s : State) : Option (Fin 2) :=
  let a := s.mssx.boot[0]
  let b := s.mssx.boot[1]
  if a.valid && (!b.valid || decide (b.count ≤ a.count)) then some 0 else if b.valid then some 1 else none

def bootState (s : State) : BootCopy :=
  match bootCopy s with
  | some i => s.mssx.boot[i.val]
  | none => BootCopy.blank

/-- An update is written to the copy that is not in force, with the next count. -/
def bootWrite (f : BootCopy → BootCopy) (s : State) : State :=
  let old := bootState s
  let new := f old
  let new := { new with valid := true, count := old.count + 1 }
  let i : Fin 2 := if bootCopy s = some 0 then 1 else 0
  { s with mssx := { s.mssx with boot := s.mssx.boot.set i.val new } }

/-- Slot codes of R575: 0 image A, 1 image B, 2 profile A, 3 profile B. -/
def imageSlot (b : Bool) : Nat := ofBool b
def profileSlot (b : Bool) : Nat := 2 + ofBool b

def slotValidSet (i : Nat) (v : Bool) (b : BootCopy) : BootCopy :=
  { b with slotValid := if v then b.slotValid ||| BitVec.ofNat 4 (2 ^ i) else b.slotValid &&& ~~~ BitVec.ofNat 4 (2 ^ i) }

/-! ### Endpapers and verification (18 R571, R572) -/

def imgAt (s : State) (i : Nat) : Image := vget s.mssx.img i []

/-- BODYLEN's range by KIND (18 Table 18.7). -/
def bodyLenOk (kind n : Nat) : Bool :=
  if kind = 1 then decide (1 ≤ n) && decide (n ≤ 393216) else decide (64 ≤ n) && decide (n ≤ 65408)

/-- Every field of the endpaper holds a permitted value, for an image of this kind (18 Table 18.7). -/
def paperOk (kind : Nat) (img : Image) : Bool :=
  decide (leAt img 0 4 = 0x50454C4E) && decide (leAt img 4 1 = kind) && decide (leAt img 5 1 = 0) &&
    decide (leAt img 6 2 = 128) && decide (leAt img 10 2 < 32768) && decide (leAt img 12 1 ≤ 63) &&
    decide (leAt img 14 2 = 0x7420) && bodyLenOk kind (leAt img 16 4) && decide (leAt img 52 12 = 0)

def imgBody (img : Image) : List Byte := (img.drop 128).take (leAt img 16 4)

/-- The key of a profile hashes to the value in OTP; a firmware key is in the boot ROM (18 R572). -/
def profileKeyOk (s : State) (img : Image) : Bool :=
  match s.mssx.otpKey with
  | some h => decide (Config.sha256 ((imgBody img).take 64) = leBytes 32 h.toNat)
  | none => false

/-- Why an image does not verify, as the RESULT of a COMMIT: 6, or 7 for its ROLLBACK; none: it verifies (18 R572). -/
def imgFault (s : State) (kind : Nat) (img : Image) : Option Nat :=
  if paperOk kind img && decide (leAt img 13 1 ≤ 0x0B) && decide (128 + leAt img 16 4 ≤ img.length) &&
      decide (Config.sha256 (imgBody img) = (img.drop 20).take 32) && Config.signatureValid img &&
      (decide (kind = 1) || profileKeyOk s img) then
    if leAt img 12 1 < s.mssx.otpRollback then some 7 else none
  else some 6

/-- CLN_FW of an image (00 R8, 18 worked example): MAJOR, MINOR, BUILD, SLOT. -/
def fwOf (img : Image) (slot : Bool) : Word :=
  at32 (leAt img 8 1) 24 ||| at32 (leAt img 9 1) 16 ||| at32 (leAt img 10 2 % 32768) 1 ||| at32 (ofBool slot) 0

/-! ### The boot ROM (18 R573, R575) -/

/-- The body of an image goes to MSS SRAM. -/
def loadImage (img : Image) (slot : Bool) (s : State) : State :=
  { s with mss := { s.mss with slot := slot, loaded := true, fw := fwOf img slot, fwRollback := leAt img 12 1 } }

/-- The slot boots when it is valid and its image verifies. -/
def bootsFrom (s : State) (slot : Bool) : Bool :=
  (bootState s).slotValid.getLsbD (imageSlot slot) && (imgFault s 1 (imgAt s (imageSlot slot))).isNone

/-- The ACTIVE slot, else the other valid one, else HALTED (18 R573). -/
def bootActive (s : State) : State :=
  let a := (bootState s).active
  let s := { s with mss := { s.mss with trial := false } }
  if bootsFrom s a then loadImage (imgAt s (imageSlot a)) a s
  else if bootsFrom s !a then loadImage (imgAt s (imageSlot !a)) (!a) s
  else { s with mss := { s.mss with st := 3, loaded := false } }

/-- The boot ROM clears PENDING and boots ACTIVE; MSS_UPDATE tells of it after MSS_READY (18 Table 18.8, step 5). -/
def trialFallback (outcome : Nat) (s : State) : State :=
  let slot := imageSlot !(bootState s).active
  let s := bootWrite (fun b => { b with pending := false, tries := 0 }) s
  let s := { s with mss := { s.mss with updateDue := s.mss.updateDue ++ [(5, outcome, slot)] } }
  bootActive s

/-- What the boot ROM boots: a PENDING image on trial once, else ACTIVE (18 Table 18.8). -/
def bootRom (s : State) : State :=
  let b := bootState s
  if b.pending then
    if b.tries = 1 then
      let s := bootWrite (fun b => { b with tries := 0 }) s
      if bootsFrom s !b.active then
        let s := loadImage (imgAt s (imageSlot !b.active)) (!b.active) s
        { s with mss := { s.mss with trial := true } }
      else trialFallback 0x10 s
    else trialFallback 0x10 s
  else bootActive s

/-! ### Restarts (17 R545, 18 R574, R576) -/

def mssUpdateEv (step outcome slot : Nat) (s : State) : State :=
  raiseMss 0x0906 0xFF [(0, 1, step), (1, 1, outcome), (2, 1, slot)] s

/-- The step of an open session last begun (18 Table 18.8). -/
def sessStep (x : Session) : Nat := if x.verified then 3 else if 0 < x.received then 2 else 1

def closeSession (s : State) : State :=
  { s with
    mss := { s.mss with sess := none }
    mssx := { s.mssx with sessMark := none } }

/-- The Balton core begins a restart: cause 1 update, 2 host request, 3 watchdog. Every request in a mailbox slot
completes MSS_RESTARTING; the boot ROM starts over. -/
def mssRestart (cause unitCause : Nat) (byHost : Bool) (s : State) : State :=
  let s := raiseMss 0x0902 0xFF [(0, 1, cause)] s
  let s := match s.mss.sess with
    | some x => closeSession { s with mss := { s.mss with updateDue := s.mss.updateDue ++ [(sessStep x, 0x11, x.target)] } }
    | none => s
  let ds := s.mss.mail.map fun m => (m.ring, m.desc)
  let start : Byte := if cause = 1 then 2 else if cause = 3 then 3 else 1
  let s := { s with mss := { s.mss with
    mail := []
    st := 2
    loaded := false
    trial := false
    startCause := start
    bootAt := s.now
    restartDue := none
    prof := s.mss.prof.filter fun x => x.bytes.isEmpty } }
  let s := resetBegin 0x38 unitCause byHost ds s
  let s := ds.foldl (fun s d => finish d.1 d.2 (resSt 0x13) s) s
  resetsSettle (bootRom s)

/-- WATCHDOG_EXPIRY (18 R576). -/
def execWatchdogExpiry (s : State) : Out := run s fun s =>
  if s.mss.loaded ∧ s.mss.st ≠ 3 then mssRestart 3 2 false s else s

/-- TRIAL_TIMEOUT (18 Table 18.8): no MSS_READY within 2 s of a trial boot. -/
def execTrialTimeout (s : State) : Out := run s fun s =>
  if s.mss.trial && !mssUp s then
    trialFallback 0x10 { s with mss := { s.mss with bootAt := s.now } }
  else s

/-! ### Units and their views (18 R565, R566) -/

/-- The units of 16 Table 16.3. -/
def units : List Nat :=
  (List.range 10).map (· + 1) ++ (List.range 9).map (· + 0x10) ++ (List.range 5).map (· + 0x20) ++ [0x28, 0x30, 0x38]

/-- An action of the MSS is in force on the unit, and the host has not written its field since. -/
def actedOn (s : State) (u : Nat) : Bool := s.mssx.acts.any fun a => decide (a.unit = u) && !a.hostWrote

/-- The hardware state of a unit, coded as in R565. -/
def hwState (s : State) (u : Nat) : Nat :=
  if s.lg.resets.any fun r => decide (r.unit.toNat = u) then 4
  else if 4 ≤ u ∧ u ≤ 6 then
    (match (portS s (u - 4)).st with
     | .off => 0
     | .fault => 3
     | _ => 1)
  else if 0x20 ≤ u ∧ u ≤ 0x23 then
    (match (coreAt s (u - 0x20)).st with
     | .off => if actedOn s u then 2 else 0
     | .faulted => 3
     | _ => 1)
  else if u = 0x38 then (if mssUp s then 1 else 4)
  else 1

/-- The MSS's view of a unit; RUNNING where none is listed. -/
def viewOf (s : State) (u : Nat) : Nat := spGet 1 s.mssx.view u
def setView (u v : Nat) (s : State) : State := { s with mssx := { s.mssx with view := spPut 1 u v s.mssx.view } }

/-- The view is made equal to the hardware (18 R566). -/
def ackView (u : Nat) (s : State) : State :=
  let s := setView u (hwState s u) s
  { s with mssx := { s.mssx with mism := s.mssx.mism.filter fun m => decide (m.1 ≠ u) } }

/-- How long the views of a unit have differed, in ms. -/
def mismMs (s : State) (u : Nat) : Nat :=
  match s.mssx.mism.find? fun m => decide (m.1 = u) with
  | some m => (s.now - m.2.1) / 400000
  | none => 0

/-- One unit of the comparison: a difference that has stood for 50 ms is reported once. -/
def compareUnit (s : State) (u : Nat) : State :=
  let h := hwState s u
  let v := viewOf s u
  let others := s.mssx.mism.filter fun m => decide (m.1 ≠ u)
  if h = v then { s with mssx := { s.mssx with mism := others } }
  else
    match s.mssx.mism.find? fun m => decide (m.1 = u) with
    | none => { s with mssx := { s.mssx with mism := others ++ [(u, s.now, false)] } }
    | some m =>
      if !m.2.2 ∧ m.2.1 + ticksMs 50 ≤ s.now then
        raiseMss 0x0903 u [(0, 1, h), (1, 1, v), (4, 4, mismMs s u)]
          { s with mssx := { s.mssx with mism := others ++ [(u, m.2.1, true)] } }
      else s

/-- UNIT_VIEW_COMPARE (18 R565, R566): not in a sleep state, where the units' power is the cause. -/
def execUnitViewCompare (s : State) : Out := run s fun s =>
  if mssUp s && evAwake s then units.foldl compareUnit s else s

/-! ### Sensors (18 R558 to R560) -/

/-- A reading that cannot be made. -/
def noReading : Word := 0x80000000

/-- Default low and high of 18 Table 18.4; a 3.3 V bank has its own. -/
def sensLimits (s : State) (i : Nat) : Option (Int × Int) :=
  if i ≤ 2 then some (-4000, 10000)
  else if i = 3 then some (810, 890)
  else if i = 4 ∨ i = 8 then some (1710, 1890)
  else if i ≤ 7 then (if vget s.pmx.bank (i - 5) .out = .v33 then some (3135, 3465) else some (1710, 1890))
  else if i = 9 then some (2000, 3600)
  else if i ≤ 12 then some (0, 5000)
  else if i ≤ 15 then some (0, 1400)
  else if i = 16 then some (-5000, 5000)
  else if i = 17 then some (-100, 100)
  else if i = 18 then some (-10000, 10000)
  else none

def sensDefault (s : State) (i : Nat) : Sensor :=
  { value := noReading, low := (sensLimits s i).map fun l => BitVec.ofInt 32 l.1,
    high := (sensLimits s i).map fun l => BitVec.ofInt 32 l.2, hyst := 0, side := 0, sideAt := 0, raw := 0, rawAt := 0 }

def sensKnown (i : Nat) : Bool := decide (i ≤ 18) || (decide (32 ≤ i) && decide (i ≤ 63))

def sensAt (s : State) (i : Nat) : Sensor :=
  match s.mssx.sens.find? fun x => decide (x.1 = i) with
  | some x => x.2
  | none => sensDefault s i

def setSens (i : Nat) (x : Sensor) (s : State) : State :=
  { s with mssx := { s.mssx with sens := (i, x) :: s.mssx.sens.filter fun y => decide (y.1 ≠ i) } }

/-- A reading can be made (18 R559): rms once its factor is set, offsets while the time engine is LOCKED, REF10M's while
it is present. -/
def sensReadable (s : State) (i : Nat) : Bool :=
  if 10 ≤ i ∧ i ≤ 12 then (vget s.mssx.mainscal (i - 10) none).isSome
  else if 16 ≤ i ∧ i ≤ 18 then decide (s.te.st = 2) && (decide (i ≠ 17) || s.clk.present.getLsbD 1)
  else true

/-- The side of a value against the thresholds: 1 above high, 2 below low, 0 between. -/
def sensSide (x : Sensor) (v : Word) : Nat :=
  match x.low, x.high with
  | some l, some h => if h.toInt < v.toInt then 1 else if v.toInt < l.toInt then 2 else 0
  | _, _ => 0

/-- Back between low + hysteresis and high - hysteresis. -/
def sensBack (x : Sensor) (v : Word) : Bool :=
  match x.low, x.high with
  | some l, some h => decide (l.toInt + x.hyst.toInt ≤ v.toInt) && decide (v.toInt ≤ h.toInt - x.hyst.toInt)
  | _, _ => true

def sensEvent (i kind : Nat) (v : Word) (th : Option Word) (s : State) : State :=
  raiseMss 0x0904 i [(0, 1, kind), (4, 4, v.toNat), (8, 4, (th.getD 0).toNat)] s

/-- One reading of a sensor (18 R560). -/
def sensTake (i : Nat) (value : Word) (s : State) : State :=
  let x := sensAt s i
  let v := if sensReadable s i then value else noReading
  if v = noReading then setSens i { x with value := noReading } s
  else
    let raw := sensSide x v
    let x := { x with value := v, raw := raw, rawAt := if raw = x.raw then x.rawAt else s.now }
    if x.side = 0 then
      if raw = 0 then setSens i x s
      else sensEvent i raw v (if raw = 1 then x.high else x.low) (setSens i { x with side := raw, sideAt := s.now } s)
    else if sensBack x v then
      sensEvent i 3 v (if x.side = 1 then x.high else x.low) (setSens i { x with side := 0, sideAt := s.now } s)
    else setSens i x s

/-! ### Forced actions (18 R562 to R564) -/

/-- The first die sensor whose reading is at or above a temperature in 0.01 degrees. -/
def dieHot (s : State) (t : Int) : Option Nat :=
  (List.range 3).find? fun i => decide ((sensAt s i).value ≠ noReading) && decide (t ≤ (sensAt s i).value.toInt)

def thThrot (s : State) : Int := 100 * (fld s.mss.thcfg 0 8 : Int)
def thGate (s : State) : Int := 100 * (fld s.mss.thcfg 8 8 : Int)
def hwTripTemp (s : State) : Int := 100 * (fld s.mss.hwthr 16 8 : Int)
def vddaMin (s : State) : Int := (fld s.mss.hwthr 0 12 : Int)

/-- The reading has stood on this side for so long. -/
def sideFor (s : State) (i side ms : Nat) : Bool :=
  decide ((sensAt s i).value ≠ noReading) && decide ((sensAt s i).raw = side) &&
    decide ((sensAt s i).rawAt + ticksMs ms ≤ s.now)

/-- The conditions of 18 Table 18.5 that hold, as (unit, cause, sensor). -/
def forcedDue (s : State) : List (Nat × Nat × Nat) :=
  (match dieHot s (thThrot s) with
   | some i => [(0x22, 1, i), (0x23, 1, i)]
   | none => []) ++
  (match dieHot s (thGate s) with
   | some i => [(4, 1, i), (5, 1, i), (6, 1, i)]
   | none => []) ++
  ([3, 4].filter fun i => sideFor s i 2 10).flatMap (fun i => [(4, 2, i), (5, 2, i), (6, 2, i)]) ++
  ((List.range 3).filter fun n => sideFor s (13 + n) 1 100).map fun n => (4 + n, 2, 13 + n)

/-- The field of a unit is set: EN of a port, its bit of CX_CORE.EN. -/
def unitEnabled (s : State) (u : Nat) : Bool :=
  if u ≤ 6 then bitAt (portS s (u - 4)).pctrl 0 else s.cx.coreEn.getLsbD (u - 0x20)

def clearUnit (u : Nat) (s : State) : State :=
  if u ≤ 6 then portDisable (u - 4) true s else coreEnables (s.cx.coreEn &&& ~~~ BitVec.ofNat 4 (2 ^ (u - 0x20))) s

def restoreUnit (u : Nat) (s : State) : State :=
  if u ≤ 6 then
    updPortX (u - 4) (fun y => { y with offPend := false }) (updPort (u - 4) (fun y => { y with pctrl := y.pctrl ||| 1 }) s)
  else coreEnables (s.cx.coreEn ||| BitVec.ofNat 4 (2 ^ (u - 0x20))) s

/-- Throttle for a core, gate for a port (18 Table 18.5), as MSS_UNIT_ACTION codes them. -/
def actCode (u : Nat) : Nat := if u ≤ 6 then 2 else 1

/-- A unit's field is cleared and the action noted; an earlier action on it ends. -/
def forceUnit (u cause sensor : Nat) (hw : Bool) (s : State) : State :=
  let a : Forced := { unit := u, sensor := sensor, cause := cause, hw := hw, hostWrote := false, clearSince := none,
                      lastAt := s.now }
  let s := clearUnit u s
  let s := { s with mssx := { s.mssx with acts := s.mssx.acts.filter (fun b => decide (b.unit ≠ u)) ++ [a] } }
  let p := [(0, 1, actCode u), (1, 1, cause), (2, 1, sensor)]
  if hw then raise 0x0905 u p s
  else raiseMss 0x0905 u p (setView u (if u ≤ 6 then 0 else 2) s)

/-- A condition that holds takes its action, again at most every 100 ms after the host has set the field (18 R563). -/
def forcedTake (s : State) (c : Nat × Nat × Nat) : State :=
  let recent := s.mssx.acts.any fun a => decide (a.unit = c.1) && decide (s.now < a.lastAt + ticksMs 100)
  if unitEnabled s c.1 && !recent then forceUnit c.1 c.2.1 c.2.2 false s else s

/-- The condition of an action has cleared (18 Table 18.5; a trip's, R564). -/
def forcedClear (s : State) (a : Forced) : Bool :=
  if a.cause = 1 then
    if a.hw then (dieHot s (hwTripTemp s)).isNone
    else (dieHot s ((if a.unit ≤ 6 then thGate s else thThrot s) - 1000)).isNone
  else if a.hw then decide ((sensAt s a.sensor).value ≠ noReading) && decide (vddaMin s ≤ (sensAt s a.sensor).value.toInt)
  else decide ((sensAt s a.sensor).value ≠ noReading) && decide ((sensAt s a.sensor).raw = 0)

/-- After a reading: the conditions that hold act, and those that have cleared are timed. -/
def forcedScan (s : State) : State :=
  let s := (forcedDue s).foldl forcedTake s
  let time := fun (a : Forced) => { a with clearSince := if forcedClear s a then some (a.clearSince.getD s.now) else none }
  { s with mssx := { s.mssx with acts := s.mssx.acts.map time } }

/-- SENSOR_SAMPLE (18 R558 to R562): `value` is the reading in the sensor's unit. -/
def execSensorSample (i : Nat) (value : Word) (s : State) : Out := run s fun s =>
  if mssUp s && sensKnown i then forcedScan (sensTake i value s) else s

/-- FORCED_ACTION_RESTORE (18 R563) of the i-th action in force, whose condition has cleared; the row is the end of its
delay. -/
def execForcedActionRestore (i : Nat) (s : State) : Out := run s fun s =>
  match s.mssx.acts[i]? with
  | none => s
  | some a =>
    if mssUp s && a.clearSince.isSome then
      let s := { s with mssx := { s.mssx with acts := s.mssx.acts.filter fun b => decide (b ≠ a) } }
      if a.hostWrote then s
      else raiseMss 0x0905 a.unit [(0, 1, 3), (1, 1, a.cause), (2, 1, a.sensor)] (setView a.unit 1 (restoreUnit a.unit s))
    else s

/-- HW_TRIP (18 R564): it acts whether or not the Balton core runs. The die sensor it names is the first whose reading is
at TRIP; where none is, a free value. -/
def execHwTrip (k : TripKind) (s : State) : Out := run s fun s =>
  match k with
  | .temp =>
    let (i, s) := match dieHot s (hwTripTemp s) with
      | some i => (i, s)
      | none => let (f, s) := draw s; (f.toNat % 3, s)
    [4, 5, 6, 0x21, 0x22, 0x23].foldl (fun s u => if unitEnabled s u then forceUnit u 1 i true s else s) s
  | .vdda => [4, 5, 6].foldl (fun s u => if unitEnabled s u then forceUnit u 2 4 true s else s) s

def mssGated (s : State) : Word :=
  let acted := fun (hw : Bool) (u : Nat) => ofBool (s.mssx.acts.any fun a =>
    decide (a.unit = u) && decide (a.hw = hw) && !a.hostWrote)
  let cores := fun (hw : Bool) => ofBool (s.mssx.acts.any fun a => decide (0x20 ≤ a.unit) && decide (a.hw = hw) && !a.hostWrote)
  at32 (cores true) 7 ||| at32 (acted true 4) 4 ||| at32 (acted true 5) 5 ||| at32 (acted true 6) 6 |||
    at32 (cores false) 3 ||| at32 (acted false 4) 0 ||| at32 (acted false 5) 1 ||| at32 (acted false 6) 2

/-! ### MSS_READY (18 R575, R576) -/

/-- The views equal the hardware when the MSS comes up (log entry 16); readings out of range are reported anew. -/
def mssFresh (s : State) : State :=
  let s := { s with mssx := { s.mssx with
    view := []
    mism := []
    sens := s.mssx.sens.map fun x => (x.1, { x.2 with side := 0 }) } }
  units.foldl (fun s u => setView u (hwState s u) s) s

/-- CONFIRM: the trial image becomes ACTIVE and its ROLLBACK the OTP counter's (18 Table 18.8). -/
def trialConfirm (s : State) : State :=
  if s.mss.trial ∧ s.mss.startCause = 2 then
    let slot := s.mss.slot
    let s := bootWrite (fun b => { b with active := slot, pending := false, tries := 0 }) s
    let s := { s with
      mss := { s.mss with trial := false }
      mssx := { s.mssx with otpRollback := max s.mssx.otpRollback s.mss.fwRollback } }
    mssUpdateEv 6 0 (imageSlot slot) s
  else s

/-- The firmware has started: it serves the mailbox and raises MSS_READY, then what the boot left to tell. -/
def mssReadyNow (s : State) : State :=
  let s := { s with
    mss := { s.mss with st := 1 }
    cln := { s.cln with fw := s.mss.fw }
    life := { s.life with mssReadySeen := true } }
  let s := mssFresh s
  let s := raiseMss 0x0901 0xFF [(0, 4, s.mss.fw.toNat), (4, 1, s.mss.startCause.toNat)] s
  let due := s.mss.updateDue
  let s := { s with mss := { s.mss with updateDue := [] } }
  trialConfirm (due.foldl (fun s u => mssUpdateEv u.1 u.2.1 u.2.2 s) s)

/-- The core is starting from a loaded image. -/
def mssStarting (s : State) : Bool :=
  (decide (s.mss.st = 0) || decide (s.mss.st = 2)) && s.mss.loaded && !s.mss.uart

/-! ### The log (18 R567, R569) -/

/-- A record of the log-only codes. -/
def logOnly (code : Nat) (p : BitVec 128) (s : State) : State :=
  logAdd code 0x10FF s.te.sec (BitVec.ofNat 32 s.te.ns) p 0 s

/-- A profile ends (18 R577): no further record is applied. -/
def profileEnd (s : State) : State :=
  { s with mss := { s.mss with prof := s.mss.prof.map fun p => { p with bytes := [], waitDesc := none } } }

/-- It stops at a record that fails and logs that record's index. The spec gives the log record no CODE and no layout: the
CODE is a free value (log entry 16). -/
def profileStop (s : State) : State :=
  let i := match s.mss.prof with
    | some p => p.index
    | none => 0
  let (c, s) := draw s
  profileEnd (logOnly (c.toNat % 65536) (BitVec.ofNat 128 (ofLe (Config.responseLayout 0x577 [i]))) s)

/-- A record is done: the next one's bytes and index. -/
def profileNext (n : Nat) (s : State) : State :=
  { s with mss := { s.mss with prof := s.mss.prof.map fun p =>
    { bytes := p.bytes.drop n, index := p.index + 1, waitDesc := none } } }

/-- A record written to flash: LOGSEQ, and a new sector erased first when none is free. -/
def logProgram (l : LogRec) (s : State) : State :=
  let full := s.mssx.logSeq.toNat % 64 = 0 ∧ 4096 < s.mssx.log.length + 64
  let log := if full then s.mssx.log.drop 64 else s.mssx.log
  { s with mssx := { s.mssx with
    log := log ++ [{ l with seq := s.mssx.logSeq }]
    logSeq := s.mssx.logSeq + 1 } }

/-- LOG_WRITE: the oldest buffered record; after the last one, LOG_OVERFLOW for those dropped. -/
def execLogWrite (s : State) : Out := run s fun s =>
  match s.mssx.logBuf with
  | [] => s
  | l :: rest =>
    let s := logProgram l { s with mssx := { s.mssx with logBuf := rest } }
    if rest.isEmpty ∧ s.mssx.logDropped ≠ 0 then
      logOnly 0x09F2 (payload [(0, 4, s.mssx.logDropped.toNat)]) { s with mssx := { s.mssx with logDropped := 0 } }
    else s

/-- The 64 bytes of a record (18 Table 18.6). -/
def logBytes (l : LogRec) : List Byte :=
  let a := leBytes 4 l.seq.toNat ++ leBytes 2 l.code.toNat ++ leBytes 2 l.source.toNat ++ leBytes 6 l.sec.toNat ++
    leBytes 4 l.ns.toNat ++ leBytes 16 l.payload.toNat ++ leBytes 4 l.epoch.toNat ++ leBytes 4 l.evseq.toNat
  let z := List.replicate 17 (0xFF : Byte)
  a ++ [if l.posted then 0x00 else 0xFF] ++ z ++ leBytes 4 (crc32 (a ++ z))

/-! ### Registers (18 Table 18.9) -/

def mssStatus (s : State) : Word :=
  at32 s.mss.st.toNat 30 ||| at32 (ofBool s.mss.slot) 29 ||| at32 (ofBool s.mss.trial) 28 |||
    at32 (ofBool s.mss.sess.isSome) 27 ||| at32 (32 - mailCount s) 16 ||| at32 (s.mssx.otpRollback % 64) 0

def hwthrWrite (v : Word) (s : State) : State :=
  if s.mss.lock then s else { s with mss := { s.mss with hwthr := v &&& 0x00FF0FFF } }

/-- TH_THROT below TH_GATE below TRIP, else the write is ignored (18 R582). -/
def thcfgWrite (v : Word) (s : State) : State :=
  if fld v 8 8 ≤ fld v 0 8 ∨ fld s.mss.hwthr 16 8 ≤ fld v 8 8 then s
  else { s with mss := { s.mss with thcfg := v &&& 0xFFFF } }

def smbcfgWrite (v : Word) (s : State) : State := { s with mss := { s.mss with smbcfg := v &&& 0x80000003 } }
def mssCtrlWrite (v : Word) (s : State) : State := { s with mss := { s.mss with lock := s.mss.lock || bitAt v 0 } }

/-- MSS_LOCK: the write of MSS_CTRL (18 R582). -/
def execMssLock (v : Word) (s : State) : Out := runHost s (mssCtrlWrite v)

/-! ### Unit resets by the host (17 R542) -/

/-- A generator channel is reset (11 R394): its staged retune ends ABORTED_RESET. A stitch slave that sends for the
channel enters LOST with cause 3 (16 Table 16.9, 12 R416; log entry 12). -/
def rgReset (n : Nat) (s : State) : State :=
  let c : Fin 8 := ⟨n % 8, Nat.mod_lt _ (by decide)⟩
  let (ds, s) := resetCh c s
  let s := if stSrc s = c ∧ stRole s = 2 ∧ s.aln.ststate ≠ 4 then stitchLost 3 s else s
  resetsSettle (resetBegin (0x10 + n) 1 true ds s)

def uresetWrite (v : Word) (s : State) : State :=
  let u := fld v 0 8
  if !bitAt v 31 then s
  else if !((decide (0x10 ≤ u) && decide (u ≤ 0x17)) || (decide (0x20 ≤ u) && decide (u ≤ 0x23)) || decide (u = 0x38)) then
    lgRefuse 2 s
  else if s.lg.resets.any fun r => decide (r.unit.toNat = u) then lgRefuse 1 s
  else if u = 0x38 then mssRestart 2 1 true s
  else if 0x20 ≤ u then coreReset true (u - 0x20) s
  else rgReset (u - 0x10) s

/-- UNIT_RESET: the write of LG_URESET. -/
def execUnitReset (v : Word) (s : State) : Out := runHost s (uresetWrite v)

end Sys2Proof.Machine
end

