-- ==== Sys2Proof/Machine/Mail.lean ====
section
/-! DEFINITION. The mailbox commands of the management subsystem (18 R555 to R557), the update procedure (R574, R575) and
the SMBus port (R578 to R580). -/
namespace Sys2Proof.Machine

/-! ### Serving (18 R555, R556) -/

/-- CMD of a request. -/
def mailCmd (m : Mail) : Nat := leAt m.req 0 2

/-- The commands of 18 Table 18.3. -/
def mailCmds : List Nat :=
  [0x01, 0x02, 0x03, 0x04, 0x05, 0x06, 0x07, 0x10, 0x20, 0x21, 0x22, 0x23, 0x24, 0x25, 0x30, 0x31]

/-- The request leaves the mailbox with a response; data that the capacity cannot hold turns it into a RESULT 0x02 of four
bytes. -/
def answerMail (m : Mail) (result : Nat) (data : List Byte) (s : State) : State :=
  let s := { s with mss := { s.mss with mail := s.mss.mail.drop 1 } }
  let fits := data.isEmpty || decide (4 + data.length ≤ m.cap)
  let bs := m.req.take 2 ++ [BitVec.ofNat 8 (if fits then result else 2), 0] ++ (if fits then data else [])
  withDst m.ring m.desc m.addr bs.length (fun s => finish m.ring m.desc (resOk bs.length) (hostWrite m.addr bs s)) s

/-- Requests at the front with a CMD that is none are answered RESULT 0x01. The first argument bounds them. -/
def mailUnknown : Nat → State → State
  | 0, s => s
  | n + 1, s =>
    match s.mss.mail with
    | m :: _ => if mssUp s && !mailCmds.contains (mailCmd m) then mailUnknown n (answerMail m 1 [] s) else s
    | [] => s

def mailSettle (s : State) : State := mailUnknown s.mss.mail.length s

/-- The command at the front of the mailbox, served in the order taken: `k` works on its parameters, of which there must
be at least `n` bytes (else RESULT 0x02). -/
def serve (cmd n : Nat) (k : Mail → List Byte → State → State) (s : State) : State :=
  match s.mss.mail with
  | m :: _ =>
    if mssUp s && decide (mailCmd m = cmd) then
      mailSettle (if m.req.length < 4 + n then answerMail m 2 [] s else k m (m.req.drop 4) s)
    else s
  | [] => s

/-- MSS_REQUEST is taken only while a mailbox slot is free (17 R535). -/
def execMssRequest (r : Fin 16) (d : DescBytes) (m : MemRead) (s : State) : Out := run s fun s =>
  if mailCount s < 32 then mailSettle (descRowPre (placeMail r.val) (· == 0x0060) r d (fun id => mssRequest r.val id d m) s) else s

/-! ### Information -/

/-- CLN_FW of an image slot, 0 when it is empty. -/
def slotFw (s : State) (b : Bool) : Nat :=
  if (bootState s).slotValid.getLsbD (imageSlot b) then (fwOf (imgAt s (imageSlot b)) b).toNat else 0

/-- GET_INFO: the values of 18 Table 18.3; their byte layout is the device's own (log entry 16). -/
def execGetInfo (s : State) : Out := run s <| serve 0x01 0 fun m _ s =>
  let b := bootState s
  answerMail m 0 (Config.responseLayout 0x01 [slotFw s false, slotFw s true, ofBool b.active, ofBool b.pending,
    s.mssx.otpRollback, b.cxBoot.toNat, b.epoch.toNat, ofBool b.wrapped, s.mssx.logSeq.toNat]) s

/-- The sensors of 18 Table 18.4. -/
def sensors : List Nat := List.range 19 ++ (List.range 32).map (· + 32)

def sensStatus (x : Sensor) : Nat := if x.value = noReading then 3 else x.raw

/-- READ_SENSORS (18 R561): one pass over sensors 0 to 15, whose readings the operand brings, with the latest of the
others. -/
def execReadSensors (sample : List Word) (s : State) : Out := run s <| serve 0x02 0 fun m _ s =>
  let s := (List.range 16).foldl (fun s i => match sample[i]? with
    | some v => sensTake i v s
    | none => s) s
  let s := forcedScan s
  answerMail m 0 (sensors.flatMap fun i =>
    [BitVec.ofNat 8 i, BitVec.ofNat 8 (sensStatus (sensAt s i)), 0, 0] ++ leBytes 4 (sensAt s i).value.toNat) s

/-- SET_THRESHOLD (18 R560). -/
def execSetThreshold (s : State) : Out := run s <| serve 0x03 13 fun m p s =>
  let i := leAt p 0 1
  let low : Word := BitVec.ofNat 32 (leAt p 1 4)
  let high : Word := BitVec.ofNat 32 (leAt p 5 4)
  let hyst : Word := BitVec.ofNat 32 (leAt p 9 4)
  if !sensKnown i || decide (high.toInt ≤ low.toInt) || decide (hyst.toInt < 0) ||
      decide (high.toInt - low.toInt ≤ 2 * hyst.toInt) then answerMail m 2 [] s
  else answerMail m 0 [] (setSens i { sensAt s i with low := some low, high := some high, hyst := hyst } s)

/-- SET_MAINSCAL (18 R559). -/
def execSetMainscal (s : State) : Out := run s <| serve 0x04 5 fun m p s =>
  let n := leAt p 0 1
  if 2 < n then answerMail m 2 [] s
  else
    let f : Word := BitVec.ofNat 32 (leAt p 1 4)
    answerMail m 0 [] { s with mssx := { s.mssx with mainscal := vupd s.mssx.mainscal n fun _ => some f } }

/-- GET_REPORT (18 R566): both views of every unit. -/
def execGetReport (s : State) : Out := run s <| serve 0x05 0 fun m _ s =>
  answerMail m 0 (units.flatMap fun u =>
    [BitVec.ofNat 8 u, BitVec.ofNat 8 (hwState s u), BitVec.ofNat 8 (viewOf s u), BitVec.ofNat 8 (ofBool (actedOn s u))] ++
      leBytes 4 (mismMs s u)) s

/-- ACK_MISMATCH (18 R566). -/
def execAckMismatch (s : State) : Out := run s <| serve 0x06 1 fun m p s =>
  if units.contains (leAt p 0 1) then answerMail m 0 [] (ackView (leAt p 0 1) s) else answerMail m 2 [] s

/-- RESTART: the restart follows the completion. -/
def execRestart (s : State) : Out := run s <| serve 0x07 0 fun m _ s =>
  answerMail m 0 [] { s with mss := { s.mss with restartDue := some (m.ring, m.desc, 2) } }

/-- LOG_READ (18 R567): the records that the log holds from a LOGSEQ on, oldest first. -/
def execLogRead (s : State) : Out := run s <| serve 0x10 5 fun m p s =>
  let n := leAt p 4 1
  if n = 0 ∨ 63 < n then answerMail m 2 [] s
  else answerMail m 0 (((s.mssx.log.filter fun l => decide (leAt p 0 4 ≤ l.seq.toNat)).take n).flatMap logBytes) s

/-! ### Updates (18 R574, R575) -/

/-- The slot that an update of a target writes: the one not active for its kind. -/
def updateSlot (s : State) (target : Nat) : Nat :=
  let b := bootState s
  if target = 0 then imageSlot (!b.active) else profileSlot (!(b.profile.getD true))

def updateLenOk (target n : Nat) : Bool :=
  decide (128 < n) && decide (n ≤ if target = 0 then 524288 else 65536)

/-- A step fails: the session closes and MSS_UPDATE tells the RESULT (18 R574, R575). -/
def updateFail (step result slot : Nat) (m : Mail) (s : State) : State :=
  answerMail m result [] (mssUpdateEv step result slot (closeSession s))

/-- UPDATE_BEGIN. -/
def execUpdateBegin (s : State) : Out := run s <| serve 0x20 5 fun m p s =>
  let t := leAt p 0 1
  let n := leAt p 1 4
  if s.mss.sess.isSome then answerMail m 3 [] s
  else if 1 < t then answerMail m 2 [] s
  else
    let slot := updateSlot s t
    let s := bootWrite (slotValidSet slot false) s
    if !updateLenOk t n then updateFail 1 2 slot m s
    else
      let x : Session := { target := slot, len := n, received := 0, data := [], verified := false }
      let s := { s with
        mss := { s.mss with sess := some x }
        mssx := { s.mssx with sessMark := some (1, slot), img := vupd s.mssx.img slot fun _ => [] } }
      answerMail m 0 (Config.responseLayout 0x20 [slot]) (mssUpdateEv 1 0 slot s)

/-- A step of the open session; none open is RESULT 0x04. -/
def inSession (m : Mail) (k : Session → State → State) (s : State) : State :=
  match s.mss.sess with
  | none => answerMail m 4 [] s
  | some x => k x s

def putSession (x : Session) (s : State) : State :=
  { s with
    mss := { s.mss with sess := some x }
    mssx := { s.mssx with sessMark := some (sessStep x, x.target) } }

/-- UPDATE_DATA: offsets run contiguously from 0. -/
def execUpdateData (s : State) : Out := run s <| serve 0x21 4 fun m p s => inSession m (fun x s =>
  let data := p.drop 4
  if leAt p 0 4 ≠ x.received ∨ data.isEmpty ∨ x.len < x.received + data.length then updateFail 2 2 x.target m s
  else
    let x := { x with received := x.received + data.length, data := x.data ++ data }
    answerMail m 0 [] (putSession x { s with mssx := { s.mssx with img := vupd s.mssx.img x.target fun _ => x.data } })) s

/-- UPDATE_COMMIT: every byte received and the image verifies. -/
def execUpdateCommit (s : State) : Out := run s <| serve 0x22 0 fun m _ s => inSession m (fun x s =>
  let fault := if x.received ≠ x.len then some 6 else imgFault s (if x.target < 2 then 1 else 2) x.data
  match fault with
  | some f => updateFail 3 f x.target m s
  | none =>
    answerMail m 0 [] (mssUpdateEv 3 0 x.target (bootWrite (slotValidSet x.target true) (putSession { x with verified := true } s)))) s

/-- UPDATE_ACTIVATE: a slot not committed cannot be activated; nothing changes then, with the one RESULT that 18
Table 18.8 gives the step. -/
def execUpdateActivate (s : State) : Out := run s <| serve 0x23 0 fun m _ s => inSession m (fun x s =>
  if !x.verified then updateFail 4 5 x.target m s
  else
    let s := closeSession s
    let s := if x.target < 2 then
        { bootWrite (fun b => { b with pending := true, tries := 1 }) s with
          mss := { s.mss with restartDue := some (m.ring, m.desc, 1) } }
      else bootWrite (fun b => { b with profile := some (decide (x.target = 3)) }) s
    answerMail m 0 [] (mssUpdateEv 4 0 x.target s)) s

/-- UPDATE_ABORT. -/
def execUpdateAbort (s : State) : Out := run s <| serve 0x24 0 fun m _ s => inSession m (fun _ s =>
  answerMail m 0 [] (closeSession s)) s

/-- OTP_PROFKEY (18 R557). -/
def execOtpProfkey (s : State) : Out := run s <| serve 0x25 0 fun m p s =>
  if s.mssx.otpKey.isSome ∨ leAt p 32 1 ≠ 0x5A ∨ leAt p 33 1 ≠ 0xA5 then answerMail m 8 [] s
  else answerMail m 0 [] { s with mssx := { s.mssx with otpKey := some (BitVec.ofNat 256 (leAt p 0 32)) } }

/-! ### SMBus (18 R578, R579) -/

def smbEn (s : State) : Bool := bitAt s.mss.smbcfg 31

/-- PEC: channel 3 with preset 8, a CRC-8 (18 R578, 14 Table 14.1). -/
def pecOf (bs : List Byte) : Nat := crcOf 8 0x07 0 0 false bs

/-- The protocols of SMBUS_XFER that read. -/
def smbReads (proto : Nat) : Bool := [2, 5, 6, 8, 9].contains proto

/-- The bytes on the bus before the data read, for the PEC of a read (SMBus 3). -/
def smbSent (addr proto : Nat) (cmd : Byte) (data : List Byte) : List Byte :=
  if proto = 2 then [BitVec.ofNat 8 (2 * addr + 1)]
  else [BitVec.ofNat 8 (2 * addr), cmd] ++ (if proto = 9 then data else []) ++ [BitVec.ofNat 8 (2 * addr + 1)]

def arbLostEv (addr : Nat) (cmd : Byte) (n : Nat) (at_ : Byte × Byte) (s : State) : State :=
  raiseMss 0x0907 0xFF [(0, 1, addr), (1, 1, cmd.toNat), (2, 1, at_.1.toNat), (3, 1, at_.2.toNat), (4, 1, n)] s

/-- How a transaction ends: RESULT and the bytes read. Arbitration is lost up to twice and retried; the third loss abandons
it (18 R579). -/
def smbEnd (addr : Nat) (cmd : Byte) : SmbAnswer → State → (Nat × List Byte) × State
  | .ok bs, s => ((0, bs), s)
  | .nack, s => ((9, []), s)
  | .timeout, s => ((0x0B, []), s)
  | .arbLost i b more final, s =>
    let s := arbLostEv addr cmd 1 (i, b) s
    match more with
    | [] => ((match final with
        | some bs => (0, bs)
        | none => (9, [])), s)
    | [x] => ((match final with
        | some bs => (0, bs)
        | none => (9, [])), arbLostEv addr cmd 2 x s)
    | x :: _ => ((0x0A, []), raiseMss 0x0908 0xFF [(0, 1, addr), (1, 1, cmd.toNat)] (arbLostEv addr cmd 2 x s))

/-- SMBUS_XFER. With the port disabled (MSS_SMBCFG.EN = 0) the RESULT is not stated: a free value, and nothing is sent. -/
def execSmbusXfer (a : SmbAnswer) (s : State) : Out := run s <| serve 0x30 5 fun m p s =>
  let addr := leAt p 0 1
  let proto := leAt p 1 1
  let cmd := p.getD 2 0
  let pec := decide (leAt p 3 1 ≠ 0)
  let len := leAt p 4 1
  let data := (p.drop 5).take len
  if 9 < proto ∨ 240 < len ∨ data.length < len then answerMail m 2 [] s
  else if !smbEn s then
    let (f, s) := draw s
    answerMail m (f.toNat % 256) [] s
  else
    let ((result, bs), s) := smbEnd addr cmd a s
    if result ≠ 0 ∨ !smbReads proto then answerMail m result [] s
    else if pec then
      let body := bs.dropLast
      if decide (bs ≠ []) && decide (pecOf (smbSent addr proto cmd data ++ body) = leAt bs body.length 1) then
        answerMail m 0 body s
      else answerMail m 0x0C [] s
    else answerMail m 0 bs s

/-- SMB_SENSOR: a board sensor is set; format 1 brings an exponent byte. -/
def execSmbSensor (s : State) : Out := run s <| serve 0x31 6 fun m p s =>
  let i := leAt p 0 1
  let fmt := leAt p 5 1
  if i < 32 ∨ 63 < i ∨ 1 < fmt ∨ (fmt = 1 ∧ p.length < 7) then answerMail m 2 [] s
  else
    let x : SmbSens := { idx := i, addr := p.getD 1 0, cmd := p.getD 2 0, fmt := BitVec.ofNat 8 fmt, exp := p.getD 6 0,
                         period := BitVec.ofNat 16 (leAt p 3 2) }
    answerMail m 0 [] { s with mssx := { s.mssx with smbSens := s.mssx.smbSens.filter (fun y => decide (y.idx ≠ i)) ++ [x] } }

/-- A five-bit exponent. -/
def exp5 (n : Nat) : Int := if n % 32 < 16 then (n % 32 : Int) else (n % 32 : Int) - 32

/-- Mantissa times a power of two, in thousandths, rounded down. -/
def linear (mant exp : Int) : Word :=
  BitVec.ofInt 32 (if 0 ≤ exp then mant * 1000 * 2 ^ exp.toNat else (mant * 1000) / 2 ^ (-exp).toNat)

/-- A PMBus reading in 0.001 of its unit (18 Table 18.4): LINEAR11 or LINEAR16, as PMBus lays them out (log entry 16). -/
def smbValue (x : SmbSens) (bs : List Byte) : Word :=
  let w := leAt bs 0 2
  if x.fmt = 0 then
    let m : Int := if w % 2048 < 1024 then (w % 2048 : Int) else (w % 2048 : Int) - 2048
    linear m (exp5 (w / 2048))
  else linear (w : Int) (exp5 x.exp.toNat)

/-- One reading of a board sensor over SMBus. -/
def smbPoll (x : SmbSens) (a : SmbAnswer) (s : State) : State :=
  let ((result, bs), s) := smbEnd x.addr.toNat x.cmd a s
  sensTake x.idx (if result = 0 ∧ 2 ≤ bs.length then smbValue x bs else noReading) s

/-- SMB_SENSOR_POLL of board sensor i (18 R558). -/
def execSmbSensorPoll (i : Nat) (a : SmbAnswer) (s : State) : Out := run s fun s =>
  match s.mssx.smbSens.find? fun x => decide (x.idx = i) with
  | some x => if mssUp s && smbEn s then smbPoll x a s else s
  | none => s

/-- SMB_ALERT (22 R655): SMB_ALERT_N low; every board sensor set is read at once. -/
def execSmbAlert (answers : List SmbAnswer) (s : State) : Out := run s fun s =>
  if mssUp s && smbEn s && !inputLevel s 17 then
    (s.mssx.smbSens.zip answers).foldl (fun s x => smbPoll x.1 x.2 s) s
  else s

/-- SMBUS_HOST_NOTIFY at address 0x08 (18 R578). -/
def execSmbusHostNotify (addr : Byte) (data : BitVec 16) (s : State) : Out := run s fun s =>
  if mssUp s && smbEn s && bitAt s.mss.smbcfg 1 then raiseMss 0x0909 0xFF [(0, 1, addr.toNat), (1, 2, data.toNat)] s else s

end Sys2Proof.Machine
end

