-- ==== Sys2Proof/Machine/Tmp.lean ====
section
/-! DEFINITION. Tamper response and the key store (19): alarms, the decision, zeroisation, TAMPER_LOCKED and its end. -/
namespace Sys2Proof.Machine

/-! ### The key store (19 R587, R588) -/

/-- The KDK of a KSMK: AES-256-ECB of K0 and K1 (19 R588). -/
def kdkOf (ksmk : BitVec 256) : BitVec 256 :=
  let k := fun (i : Byte) => aes256 ksmk ([0x4B, 0x44, 0x4B, i] ++ List.replicate 12 0)
  BitVec.ofNat 256 (ofLe (k 0 ++ k 1))

/-- A new KSMK from the random source of the always-on domain. -/
def drawKsmk (s : State) : State :=
  let (a, s) := draw s
  let (b, s) := draw s
  let (c, s) := draw s
  let (d, s) := draw s
  { s with tmp := { s.tmp with ksmk := some (a ++ b ++ c ++ d), ks := 1 } }

/-- The unseal: with the store EMPTY a new KSMK is drawn first (19 R588, R589, R600). -/
def keyUnseal (s : State) : State :=
  let s := if s.tmp.ks = 0 then drawKsmk s else s
  match s.tmp.ksmk with
  | some k => { s with
      tmp := { s.tmp with ks := 2 }
      cx := { s.cx with kdk := some (kdkOf k) } }
  | none => s

/-! ### Alarm conditions (19 R583, R585) -/

/-- EN and ACT of a source in TMP_CFG: TAMP0, TAMP1, voltage, clock, temperature. -/
def tmpEnBit (src : Nat) : Nat := [0, 8, 16, 20, 24].getD src 0
def tmpEn (s : State) (src : Nat) : Bool := bitAt s.tmp.cfg (tmpEnBit src)
def tmpAct (s : State) (src : Nat) : Bool := bitAt s.tmp.cfg (tmpEnBit src + 1)

/-- LIVE, asked for: no command tells the end of an alarm condition, so a source that has been in one still is or no
longer is by a free value; once over it stays over until its next alarm (log entry 17). -/
def observeLive (s : State) : State :=
  (List.range 5).foldl (fun s i =>
    if s.tmp.live.getLsbD i then
      let (r, s) := draw s
      if r.getLsbD 0 then s
      else { s with tmp := { s.tmp with live := s.tmp.live &&& ~~~ BitVec.ofNat 5 (2 ^ i) } }
    else s) s

def pwrCode : PwrSt → Nat
  | .active => 0
  | .appointed => 1
  | .sampled => 2
  | .holdover => 3
  | .dormant => 4

/-- An update session is open, or a trial boot is running (19 Table 19.2). -/
def updating (s : State) : Bool := s.mss.sess.isSome || s.mss.trial

/-- A cipher job is admitted or in flight. -/
def cipherBusy (s : State) : Bool :=
  !s.cx.jobs.isEmpty || !s.cx.loads.isEmpty || (List.range 4).any fun c => (coreAt s c).job.isSome

/-- The situation of a decision (19 Table 19.2, R594). -/
def situation (s : State) : Nat :=
  if s.pwr.st ≠ .active then 4
  else if !devUp s then 1
  else if updating s then 3
  else if cipherBusy s then 2
  else 0

/-! ### The decision (19 R590 to R593, R596, R597) -/

/-- Keys overwritten with zeros: KSMK, KDK, slots, key-use memory (19 R591). -/
def eraseKeys (s : State) : State :=
  let s := (List.range 64).foldl (fun s i =>
    let u := (slotAt s i).use
    clearSlot i (if u = useEmpty ∨ u = useCached then s else dropKeyLedger i s)) s
  { s with
    tmp := { s.tmp with ksmk := none, ks := 0 }
    cx := { s.cx with kdk := none, use := [], groupNow := none, groupNext := none, loads := [] } }

/-- The descriptors of fences and of frames that have not started end TAMPER; a posted write committed and not answered
fails as given up (19 R597, 08 R279). Frames on the line run to their end. Answers the descriptors ended. -/
def tamperFrames (s : State) : List (Nat × Nat) × State :=
  let fs := s.ltx.fences
  let s := fs.foldl (fun s f => finish f.ring f.desc (resSt 0x12) s) { s with ltx := { s.ltx with fences := [] } }
  let q := s.line.q.filter fun f => decide (f.st ≠ .onLine) && (f.desc.isSome || decide (f.st = .committed))
  let ds := (q.filter fun f => !(f.posted && everCommitted f)).filterMap (·.desc)
  let s := q.foldl (fun s f => failFrame f (resSt 0x12) 1 s) s
  (fs.map (fun f => (f.ring, f.desc)) ++ ds, { s with line := { s.line with acks := [] } })

/-- MSS_UNIT_ACTION of the three ports by cause tamper: action 2 gate, 3 restore (19 R598). The sensor byte is a free
value (log entry 17). -/
def gateEvents (action : Nat) (s : State) : State :=
  [4, 5, 6].foldl (fun s u =>
    let (f, s) := draw s
    raiseMss 0x0905 u [(0, 1, action), (1, 1, 3), (2, 1, f.toNat % 256)] s) s

/-- The events of the end of a zeroisation: TMP_ZEROISED, then TMP_LOCKED and the gate of the ports (19 R592, R598). -/
def zeroEvents (s : State) (z : Zeroise) : State :=
  let ns := (z.done.getD z.at_ - z.at_) * 5 / 2
  let s := raiseAon 0x0A02 0xFF (payload [(0, 4, z.jobs), (4, 4, ns)]) none s
  if z.enters then
    let s := raiseAon 0x0A03 z.source 0 none s
    if devUp s then gateEvents 2 s else s
  else s

/-- The zeroisation is complete and the last TAMPER completion it produced is posted (19 R592). -/
def zeroOver (z : Zeroise) : Bool := z.done.isSome && z.waits.isEmpty

def zeroSettle (s : State) : State :=
  let zs := s.tmp.zero.filter zeroOver
  zs.foldl zeroEvents { s with tmp := { s.tmp with zero := s.tmp.zero.filter fun z => !zeroOver z } }

/-- The update that a decision meets is aborted: the core restarts and boots ACTIVE (19 R596). -/
def tamperUpdate (s : State) : State :=
  let run := fun (s : State) =>
    let s := mssRestart 1 2 false s
    raise 0x0A05 0xFF [(0, 1, imageSlot s.mss.slot)] s
  match s.mss.sess with
  | some x =>
    let s := bootWrite (slotValidSet x.target false) (closeSession s)
    run (mssUpdateEv (sessStep x) 0x13 x.target s)
  | none =>
    if s.mss.trial then
      let slot := imageSlot s.mss.slot
      run (mssUpdateEv 5 0x13 slot (bootWrite (fun b => { b with pending := false, tries := 0 }) s))
    else s

/-- Zeroisation: every cipher job ends TAMPER, the keys are erased, the device is TAMPER_LOCKED, a sleep state ends. An
alarm within one zeroisation starts no other (19 R593). -/
def zeroise (src : Nat) (s : State) : State :=
  if s.tmp.zero.any fun z => z.done.isNone then s
  else
    let enters := !s.tmp.locked
    let (ds, s) := if devUp s then
        let (a, s) := cxTamper s
        let (b, s) := tamperFrames s
        (a ++ b, s)
      else ([], s)
    let live := ds.filter fun d => (takenAt s d.1 d.2).isSome
    let s := eraseKeys s
    let z : Zeroise := { at_ := s.now, jobs := live.length, waits := live, done := none, source := src, enters := enters }
    let s := { s with tmp := { s.tmp with locked := true, zero := s.tmp.zero ++ [z] } }
    let s := wakeBy 4 s
    if devUp s then tamperUpdate s else s

/-- A source reaches its alarm condition (19 R590). -/
def alarm (src : Nat) (s : State) : State :=
  let p := pwrCode s.pwr.st
  let c := situation s
  let first := decide (s.tmp.latch = 0)
  let act := tmpAct s src
  let s := { s with tmp := { s.tmp with
    latch := s.tmp.latch ||| BitVec.ofNat 5 (2 ^ src)
    live := if src = 2 ∨ src = 3 then s.tmp.live else s.tmp.live ||| BitVec.ofNat 5 (2 ^ src)
    causeReg := if first && act then at32 p 8 ||| at32 c 4 ||| at32 src 0 else s.tmp.causeReg
    stamp := if first && act then s.tmp.aon else s.tmp.stamp } }
  let s := raiseAon 0x0A01 src (payload [(0, 1, p), (1, 1, c), (4, 8, s.tmp.aon.toNat)]) (some s.tmp.aon) s
  if act then
    let s := zeroise src s
    -- a decision in DORMANT starts the device, as after PORST_N (20 R626)
    if s.pwr.st = .dormant then { s with pwr := { s.pwr with exiting := some (s.pwr.exiting.getD 4) } } else s
  else s

def tamperIdx : TamperIn → Nat
  | .tamp0 => 0
  | .tamp1 => 1

/-- TAMPER_INPUT_ALARM (19 R583): the input has met its window. -/
def execTamperInputAlarm (i : TamperIn) (s : State) : Out := runAon s fun s =>
  if tmpEn s (tamperIdx i) then alarm (tamperIdx i) s else s

def glitchIdx : Glitch → Nat
  | .voltage => 2
  | .clock => 3
  | .temperature => 4

/-- GLITCH_ALARM (19 R585, R586): the detectors stand beside the core's supplies and clocks; the voltage one is armed 1 ms
after PORST_N is released. -/
def execGlitchAlarm (k : Glitch) (s : State) : Out := runAon s fun s =>
  let armed := decide (k ≠ .voltage) || decide (s.life.upAt + ticksMs 1 ≤ s.now)
  if devUp s && tmpEn s (glitchIdx k) && armed then alarm (glitchIdx k) s else s

/-- ZEROISATION_DONE (19 R591, R592). -/
def execZeroisationDone (s : State) : Out := runAon s fun s =>
  let fin := fun (z : Zeroise) => if z.done.isNone then { z with done := some s.now } else z
  zeroSettle { s with tmp := { s.tmp with zero := s.tmp.zero.map fin } }

/-! ### Registers (19 R600, R603, Table 19.3) -/

def tmpRefuse (cause : Nat) (s : State) : State :=
  { s with tmp := { s.tmp with refused := true, cause := BitVec.ofNat 2 cause } }

/-- An accepted unlock (19 R598, R600). -/
def unlockNow (s : State) : State :=
  let s := keyUnseal s
  let s := { s with tmp := { s.tmp with locked := false, causeReg := 0, stamp := 0, tbQuire := none, tbFolio := 0 } }
  gateEvents 3 (raise 0x0A04 0xFF [] s)

def tmpCtrlWrite (v : Word) (s : State) : State :=
  let s := if bitAt v 31 then { s with tmp := { s.tmp with cfgLocked := true } } else s
  if !bitAt v 0 then s
  else
    let s := observeLive s
    if s.tmp.live ≠ 0 then tmpRefuse 1 s
    else if s.tmp.latch ≠ 0 then tmpRefuse 2 s
    else if !s.tmp.locked then tmpRefuse 3 s
    else unlockNow s

/-- TAMPER_UNLOCK and TAMPER_CFG_LOCK: writes of TMP_CTRL (19 R600, R603). -/
def execTamperUnlock (v : Word) (s : State) : Out := runHost s (tmpCtrlWrite v)
def execTamperCfgLock (v : Word) (s : State) : Out := runHost s (tmpCtrlWrite v)

/-- A source disabled is in no alarm condition. -/
def tmpCfgWrite (v : Word) (s : State) : State :=
  if s.tmp.cfgLocked then s
  else
    let s := { s with tmp := { s.tmp with cfg := v &&& 0xF3330F0F } }
    let keep := (List.range 5).foldl (fun (m : BitVec 5) i => if tmpEn s i then m ||| BitVec.ofNat 5 (2 ^ i) else m) 0
    { s with tmp := { s.tmp with live := s.tmp.live &&& keep } }

def tmpDebWrite (v : Word) (s : State) : State :=
  if s.tmp.cfgLocked then s else { s with tmp := { s.tmp with deb := oneFld (oneFld (v &&& 0xFFFF) 8 8) 0 8 } }

def tmpLatchWrite (v : Word) (s : State) : State :=
  { s with tmp := { s.tmp with latch := s.tmp.latch &&& ~~~ v.setWidth 5 } }

def tmpStatusWrite (v : Word) (s : State) : State :=
  { s with tmp := { s.tmp with refused := w1c s.tmp.refused v 28, aonpor := w1c s.tmp.aonpor v 25 } }

/-- A read of TMP_STATUS asks for the alarm conditions. -/
def tmpStatusRead (s : State) : Word × State :=
  let s := observeLive s
  (at32 (ofBool s.tmp.locked) 31 ||| at32 s.tmp.ks.toNat 29 ||| at32 (ofBool s.tmp.refused) 28 |||
    at32 s.tmp.cause.toNat 26 ||| at32 (ofBool s.tmp.aonpor) 25 ||| at32 (ofBool s.tmp.cfgLocked) 24 |||
    at32 s.tmp.live.toNat 0, s)

def tbCount (s : State) : Word := at32 s.tmp.tbNofit.toNat 16 ||| at32 s.tmp.tbSent.toNat 0

/-! ### The always-on domain's power (19 R587) -/

/-- Its registers after a power-up: KSMK drawn, the generator behind TAMP_OUT seeded, AONPOR set. The AON count starts at 0
(log entry 17). -/
def aonPowerUp (s : State) : State :=
  let (m, s) := draw s
  let s := { s with
    life := { s.life with aonUp := true }
    tmp := { Tmp.reset with mesh := m.setWidth 15 ||| (if m.setWidth 15 = (0 : BitVec 15) then 1 else 0), ksmk := none, ks := 0 } }
  drawKsmk s

end Sys2Proof.Machine
end

