-- ==== Sys2Proof/Machine/Post.lean ====
section
/-! DEFINITION. The completion records of a ring (15 R494 to R499) and the resets of the host side (15 R504, 17 R544, 21
R634, R645). -/
namespace Sys2Proof.Machine

/-! ### Completion records -/

/-- The 16 bytes of a completion record (15 R494). -/
def cplBytes (r : Nat) (t : Taken) (res : Result) (seq : Word) : List Byte :=
  leBytes 4 (dTag t.bytes) ++ [res.status, BitVec.ofNat 8 r] ++ leBytes 2 res.xstat.toNat ++ leBytes 4 res.len.toNat ++
    leBytes 4 seq.toNat

/-- What waits for a completion goes on once it is posted or discarded: unit resets (17 R541), a zeroisation (19 R592), a
restart of the Balton core (18 R556, R575), a profile (18 R577). -/
def afterPost (r : Nat) (t : Taken) (res : Result) (s : State) : State :=
  let s := zeroSettle (resetsSettle (resetsDrop r t.id s))
  let s := match s.mss.restartDue with
    | some (r', id, cause) => if r' = r ∧ id = t.id then mssRestart cause.toNat (if cause = 1 then 2 else 1) false s else s
    | none => s
  match s.mss.prof with
  | some p =>
    if r = 0 ∧ p.waitDesc = some t.id then (if res.status = 0 then profileNext 68 s else profileStop s) else s
  | none => s

/-- The record is written at the tail, before the events that concern the descriptor (15 R496, R499). -/
def writeCpl (r m : Nat) (t : Taken) (res : Result) (s : State) : State :=
  let c := cqAt s m
  let s := hostWrite (c.base.toNat + 16 * c.tail) (cplBytes r t res c.seq) s
  let s := updCq m (fun c => { c with
    tail := (c.tail + 1) % ringSize c.cfg
    seq := nextSeqNo c.seq
    reserved := c.reserved - 1
    written := c.written ++ [s.now] }) s
  let s := t.events.foldl (fun s e => raiseP e.1 e.2.1 e.2.2 s) s
  let s := if dEvent t.bytes then
      raise 0x0D02 r [(0, 4, dTag t.bytes), (4, 1, res.status.toNat), (5, 1, m), (8, 4, c.seq.toNat)] s
    else s
  cqNotify m s

/-- The record of a completion ring that faulted is discarded; its slot and descriptor are returned (15 R485). -/
def discardCpl (m : Nat) (t : Taken) (s : State) : State :=
  let s := giveBack 2 m 1 (updCq m (fun c => { c with reserved := c.reserved - 1 }) s)
  t.events.foldl (fun s e => raiseP e.1 e.2.1 e.2.2 s) s

/-- The oldest descriptor of a ring, its work done, is completed (15 R495); a stopping ring is DISABLED after its last
one. -/
def postOldest (r : Nat) (s : State) : State :=
  let q := sqAt s r
  match q.taken with
  | [] => s
  | t :: rest =>
    match t.result with
    | none => s
    | some res =>
      let m := sqCq q
      let s := updSq r (fun q => { q with
        taken := rest
        st := if q.st = .stopping ∧ rest.isEmpty then .disabled else q.st }) s
      let s := giveBack 1 r 1 s
      let s := if t.mail then giveBack 8 0 1 s else s
      let s := if (cqAt s m).st = .running then writeCpl r m t res s else discardCpl m t s
      afterPost r t res s

/-- COMPLETION_POST: one record of ring r (log entry 28). Nothing is written in a sleep state. -/
def execCompletionPost (r : Fin 16) (s : State) : Out := run s fun s => if evAwake s then postOldest r.val s else s

/-- Every record of a ring that can be posted; the first argument bounds them. -/
def postRing (r : Nat) : Nat → State → State
  | 0, s => s
  | n + 1, s => postRing r n (postOldest r s)

def postAll (s : State) : State := (List.range 16).foldl (fun s r => postRing r (sqAt s r).taken.length s) s

/-! ### A host-link reset -/

/-- A descriptor aborted by an FLR: it counts as completed; no record is written, the events that concern it are raised
(15 R504, 16 R520). -/
def abortTaken (r : Nat) (t : Taken) (s : State) : State :=
  let s := giveBack 1 r 1 s
  let s := if t.mail then giveBack 8 0 1 s else s
  let s := t.events.foldl (fun s e => raiseP e.1 e.2.1 e.2.2 s) s
  resetsDrop r t.id s

/-- A ring after an FLR; descriptor numbers are never used twice. -/
def sqAfterFlr (q : Sq) : Sq := { Sq.reset with nextId := q.nextId }

/-- The line work of aborted descriptors (17 R544): what is on the line ends there; a posted write committed and not yet
answered fails as given up. -/
def flrFrame (f : TxFrame) (s : State) : State :=
  let started := decide (f.st = .onLine) || (decide (f.st = .committed) && f.copy)
  let fail := f.posted && everCommitted f
  let f' := { f with desc := none }
  if started then
    let s := updFrame f.id (fun g => { g with desc := none, posted := false, ackreq := false, orphan := true }) s
    if fail then postedFailed f' 1 s else s
  else failFrame f' (resSt 0x10) 1 s

/-- What was waiting in the units for aborted descriptors: fences, host buffers, waiting cipher jobs and key loads, writes
to signature memory, staged retunes, mailbox requests. -/
def flrUnits (s : State) : State :=
  let js := s.cx.jobs
  let s := { s with
    ltx := { s.ltx with fences := [] }
    hi := { s.hi with rxPosts := [] }
    cx := { s.cx with jobs := [], loads := s.cx.loads.filter (·.placed) }
    rg := { s.rg with claims := [] }
    mss := { s.mss with mail := [] } }
  let s := js.foldl (fun s j => endJob j (resSt 0x10) s) s
  allCh.foldl (fun s c => updCh c (fun h => { h with retune := none }) s) s

/-- The registers of the host side after an FLR (15 R504, 23 R676). -/
def flrRegs (s : State) : State :=
  let h := s.hi
  let ev := { s.ev with
    base := Ev.reset.base
    cfg := Ev.reset.cfg
    st := .disabled
    startCause := if s.ev.startCause = 1 then 1 else 3 }
  { s with
    hi := { Hi.reset with
      sq := h.sq.map sqAfterFlr
      rxWait := h.rxWait
      rxOnce := h.rxOnce
      bufsUsed := h.bufsUsed
      bufsExpress := h.bufsExpress }
    ev := ev
    msix := { s.msix with mask := true, pend := false }
    cln := { s.cln with confirmPending := false, confirmRole := false }
    staging := s.staging.filter fun e => decide (e.1.1 ≠ .host) }

/-- The host side is reset. UNIT_RESET_DONE of the host interface names the descriptors aborted (17 R541). -/
def hostLinkReset (s : State) : State :=
  let due := s.mss.restartDue
  let all := (List.range 16).flatMap fun r => (sqAt s r).taken.map fun t => (r, t)
  let s := evDisable s
  let s := (List.range 16).foldl (fun s m => cqDisable m s) s
  let s := (List.range 16).foldl (fun s r => updSq r (fun q => { q with taken := [], st := .disabled }) s) s
  let s := all.foldl (fun s e => abortTaken e.1 e.2 s) s
  let s := (s.line.q.filter fun f => f.desc.isSome).foldl (fun s f => flrFrame f s) s
  let s := cvHostReset (flrRegs (flrUnits s))
  let s := raise 0x0801 0x30 [(0, 4, all.length), (4, 1, 4)] s
  let s := zeroSettle (resetsSettle s)
  match due with
  | some (_, _, cause) => mssRestart cause.toNat (if cause = 1 then 2 else 1) false s
  | none => s

/-- With HOSTMODE = 1 the endpoint is held in reset, and nothing of the link acts (15 R505). -/
def linkRow (s : State) (f : State → State) : Out := run s fun s => if s.cln.hostmode then s else f s

/-- FLR (15 R504). -/
def execFlr (s : State) : Out := linkRow s hostLinkReset

def linkLost (s : State) : State := hostLinkReset { s with life := { s.life with linkUp := false } }

/-- PE_PERST_ASSERT (21 R634). The configuration space is outside the model (log entry 14). -/
def execPePerstAssert (s : State) : Out := linkRow s linkLost
/-- HOT_RESET (21 R634). -/
def execHotReset (s : State) : Out := linkRow s linkLost
/-- LINK_DOWN (21 R634): a transition, so only of a link that is up. -/
def execLinkDown (s : State) : Out := linkRow s fun s => if s.life.linkUp then linkLost s else s

end Sys2Proof.Machine
end

