-- ==== Sys2Proof/Machine/Pmx.lean ====
section
/-! DEFINITION. The pin multiplexer (22): bank voltages, the functions of the pins, conflicts, outputs, the lock, and the
test access port. -/
namespace Sys2Proof.Machine

/-! ### Levels of the generator inputs that a command moves (22 R660) -/

def rgLevels (s : State) : List Bool := (List.range 16).map (inputLevel s)

/-- A change of the pins' selection, banks or levels reaches the generator inputs as ordinary edges. -/
def withInputs (f : State → State) (s : State) : State :=
  let before := rgLevels s
  let s := f s
  (List.range 16).foldl (fun s k =>
    let old := before.getD k false
    let new := inputLevel s k
    if old = new then s else rgInputEdge k new s) s

/-! ### Banks (22 R653, R654) -/

/-- The voltage that a rail at so many mV gives its bank. -/
def bankOf (mv : Nat) : BankVolt :=
  if 1710 ≤ mv ∧ mv ≤ 1890 then .v18 else if 3135 ≤ mv ∧ mv ≤ 3465 then .v33 else .out

def setBank (b : Nat) (v : BankVolt) (s : State) : State :=
  withInputs (fun s => { s with pmx := { s.pmx with bank := vupd s.pmx.bank b fun _ => v } }) s

def bankCode : BankVolt → Nat
  | .out => 0
  | .v18 => 1
  | .v33 => 2

def pmxStatus (s : State) : Word :=
  let b := fun (i : Nat) => bankCode (vget s.pmx.bank i .out)
  at32 (ofBool s.pmx.refused) 31 ||| at32 s.pmx.cause.toNat 28 ||| at32 (b 2) 4 ||| at32 (b 1) 2 ||| at32 (b 0) 0

/-! ### Conflicts (22 R658, R659) -/

def confBit (s : State) (x : Nat) : Bool := s.pmx.confMap.getLsbD x

/-- PMX_CONFx of the two lowest-numbered selecting pins. -/
def confWord (a b : Nat) : Word := at32 1 31 ||| at32 b 8 ||| at32 a 0

/-- An input function on which a conflict ended: its bit and VALID clear. -/
def confEnd (x : Nat) (s : State) : State :=
  match selectors s x with
  | [i] =>
    if confBit s x then
      raise 0x0C02 0xFF [(0, 1, x), (1, 1, i)] { s with pmx := { s.pmx with
        confMap := s.pmx.confMap &&& ~~~ BitVec.ofNat 18 (2 ^ x)
        conf := vupd s.pmx.conf x fun w => w &&& 0x7FFFFFFF } }
    else s
  | _ => s

/-- An input function in conflict: PMX_CONFx follows; the event only when the conflict begins. -/
def confBegin (x : Nat) (s : State) : State :=
  match selectors s x with
  | a :: b :: _ =>
    let new := !confBit s x
    let s := { s with pmx := { s.pmx with
      confMap := s.pmx.confMap ||| BitVec.ofNat 18 (2 ^ x)
      conf := vupd s.pmx.conf x fun _ => confWord a b } }
    if new then raise 0x0C01 0xFF [(0, 1, x), (1, 1, a), (2, 1, b)] s else s
  | _ => s

/-- Conflicts that end precede conflicts that begin. -/
def confSettle (s : State) : State :=
  (List.range 18).foldl (fun s x => confBegin x s) ((List.range 18).foldl (fun s x => confEnd x s) s)

/-! ### Pin configuration (22 R655 to R662, R665) -/

/-- PULL 0b11 is stored as 0b00 (00 R692). -/
def pinNorm (v : Word) : Word :=
  let v := v &&& 0x7FF
  if fld v 6 2 = 3 then setFld v 6 2 0 else v

def pmxRefuse (s : State) : State := { s with pmx := { s.pmx with refused := true, cause := 1 } }

def pinWrite (i : Nat) (v : Word) (s : State) : State :=
  if s.pmx.lock then pmxRefuse s
  else withInputs (fun s => confSettle { s with pmx := { s.pmx with pin := vupd s.pmx.pin i fun _ => pinNorm v } }) s

/-- PIN_FUNC_WRITE: the write of PMX_PINi. -/
def execPinFuncWrite (i : Fin 48) (v : Word) (s : State) : Out := runHost s (pinWrite i.val v)

def pmxCtrlWrite (v : Word) (s : State) : State := { s with pmx := { s.pmx with lock := s.pmx.lock || bitAt v 0 } }

/-- PMX_LOCK (R665). -/
def execPmxLock (v : Word) (s : State) : Out := runHost s (pmxCtrlWrite v)

def pmxStatusWrite (v : Word) (s : State) : State := { s with pmx := { s.pmx with refused := w1c s.pmx.refused v 31 } }

/-- Bits 0 to 31 or 32 to 47 of a word of pins replaced. -/
def setPins (hi : Bool) (v : Word) (w : BitVec 48) : BitVec 48 :=
  if hi then (w &&& 0xFFFFFFFF) ||| (v.setWidth 16).setWidth 48 <<< 32 else (w &&& 0xFFFF00000000) ||| v.setWidth 48

def pinsWord (hi : Bool) (w : BitVec 48) : Word := if hi then (w >>> 32).setWidth 32 else w.setWidth 32

def gpioOutWrite (hi : Bool) (v : Word) (s : State) : State :=
  { s with pmx := { s.pmx with gpioOut := setPins hi v s.pmx.gpioOut } }
def gpioOeWrite (hi : Bool) (v : Word) (s : State) : State :=
  { s with pmx := { s.pmx with gpioOe := setPins hi v s.pmx.gpioOe } }

/-! ### What the pins carry (22 Table 22.4) -/

/-- The reference angle has wrapped less than 1 ms ago. -/
def refZc (s : State) : Bool :=
  let f := (runFreq (phAt s (refSource s))).toNat
  refValid s && decide ((refAngle s).toNat * 1000 * 16777216 < f * 4294967296)

/-- The level a pin's function gives it; none: it is an input, or carries the 27 MHz clock, which has no level here. -/
def pinOut (s : State) (i : Nat) : Option Bool :=
  let slot := fun (k : Nat) => patternOut s ⟨k % 16, Nat.mod_lt _ (by decide)⟩
  match pinFunc s i with
  | 0 => if s.pmx.gpioOe.getLsbD i then some (s.pmx.gpioOut.getLsbD i) else none
  | 1 => some (slot i)
  | 3 => some (slot (i + 8))
  | 5 => some s.te.pps
  | 8 => some (refZc s)
  | 9 => some (qrRunning s && decide (s.qr.folio = 0))
  | 10 => some (portX s (i % 3)).ldEn
  | 12 => some s.tmp.locked
  | 13 => some (decide (s.te.st = 2))
  | 14 => some (decide (s.pwr.st = .holdover))
  | 15 => some ((List.range 3).any fun p => decide ((portS s p).st = .fault))
  | _ => none

/-- The pad level of a pin: what the device drives, else what stands at the pad; 0 on a bank without a valid voltage, and
an open-drain pin floats for high (R654, R661, R662). -/
def padLevel (s : State) (i : Nat) : Bool :=
  bankOk s i && (match pinOut s i with
    | some b => if b && bitAt (vget s.pmx.pin i 0) 10 then s.pmx.pad.getLsbD i else b
    | none => s.pmx.pad.getLsbD i)

/-- PMX_GPIO_IN. -/
def gpioIn (s : State) : BitVec 48 :=
  (List.range 48).foldl (fun (w : BitVec 48) i => if padLevel s i then w ||| BitVec.ofNat 48 (2 ^ i) else w) 0

/-- The pin that may wake a DORMANT device (R667): the one selector of PWR_WAKE, among GP44 to GP47. -/
def dormantPin (s : State) : Option (Fin 48) :=
  match selectors s 16 with
  | [i] => if h : i < 48 then (if 44 ≤ i then some ⟨i, h⟩ else none) else none
  | _ => none

/-! ### The test access port (22 R668 to R670) -/

/-- The instruction in effect: EXTEST, CLAMP and HIGHZ only while PORST_N is low; every other code acts as BYPASS. -/
def tapEffect (s : State) (ir : TapInstr) : TapInstr :=
  match ir with
  | .other => .bypass
  | .extest => if s.life.porstLow then .extest else .bypass
  | .clamp => if s.life.porstLow then .clamp else .bypass
  | .highz => if s.life.porstLow then .highz else .bypass
  | i => i

def tapSet (ir : TapInstr) (s : State) : State := { s with pmx := { s.pmx with tapIr := ir } }

/-- TAP_INSTRUCTION_LOAD: the port works whatever the other domains do. -/
def execTapInstructionLoad (ir : TapInstr) (s : State) : Out := .next { tapSet (tapEffect s ir) s with pending := s.pending }

/-- TAP_RESET: Test-Logic-Reset loads IDCODE, as IEEE 1149.1 has it. -/
def execTapReset (s : State) : Out := .next { tapSet .idcode s with pending := s.pending }

end Sys2Proof.Machine
end

