-- ==== Sys2Proof/Machine/Pwr.lean ====
section
/-! DEFINITION. Power states, rails and clocks (20). Each transition is one command; entry and exit times are the
sender's (log entry 18). -/
namespace Sys2Proof.Machine

def pwrRefuse (cause : Nat) (s : State) : State :=
  { s with pwr := { s.pwr with refused := true, cause := BitVec.ofNat 3 cause } }

/-! ### The line domain (20 R617) -/

/-- The frames of one port as R543 sets out, with no reset of the unit. -/
def dropPortFrames (p : Nat) (s : State) : State :=
  let s := s.line.q.foldl (fun s f => (frameOffPort p f s).2) s
  { s with line := { s.line with acks := s.line.acks.filter fun a => decide (a.port.val ≠ p) } }

/-- The line domain goes off: every port reads OFF, LD_EN low, no AFE_PORT_DOWN. -/
def lineOff (s : State) : State :=
  let s := [0, 1, 2].foldl (fun s p =>
    updPortX p (fun y => { y with ldEn := false, blank := false, offPend := false, rxActive := none })
      (updPort p (fun y => { y with st := .off, cause := 0 }) s)) s
  [0, 1, 2].foldl (fun s p => dropPortFrames p s) s

/-- The line domain is back: each port whose EN is 1 becomes IDLE, without AFE_PORT_UP. -/
def lineOn (s : State) : State :=
  [0, 1, 2].foldl (fun s p => if pEn (portS s p) ∧ (portS s p).st = .off then portIdle p s else s) s

/-! ### Transitions (20 R619) -/

/-- The PLLs that lock while their reference is there (R628, R630). -/
def pllsLocked (s : State) (line : Bool) : BitVec 4 :=
  let x := s.clk.present.getLsbD 0
  let f := if s.clk.onref then s.clk.present.getLsbD 1 else x
  BitVec.ofNat 4 (ofBool f + 2 * ofBool x + 4 * ofBool x + 8 * ofBool (line && f))

/-- The power state changes; PWR_STATE names the source (16 Table 16.14). -/
def setPwr (new : PwrSt) (src : Nat) (s : State) : State :=
  let old := s.pwr.st
  let ms := (s.now - s.pwr.since) / 400000
  let s := { s with pwr := { s.pwr with st := new, lastSrc := BitVec.ofNat 4 src, since := s.now } }
  raise 0x0B01 0xFF [(0, 1, pwrCode old), (1, 1, pwrCode new), (2, 1, src), (4, 4, ms)] s

/-! ### Sleep (20 R620 to R622) -/

/-- Ticks from the start of the folio in progress to now. -/
def folioTicks (s : State) : Nat :=
  let fq := quireF s
  if fq = 0 then 0
  else match s.qrx.fwQuire with
    | some t0 =>
      let start := t0 + s.qr.folio * s.qr.fwPeriod.toNat / fq
      (stamp256 (todNow s) / 256 - start) * 2 / 5
    | none =>
      let d := refAngle s - BitVec.ofNat 32 (folioMa fq (s.qr.folio % fq))
      d.toNat * periodTicks (runFreq (phAt s (refSource s))) / 4294967296

/-- Ticks of one folio. -/
def folioLen (s : State) : Nat :=
  match s.qrx.fwQuire with
  | some _ => s.qr.fwPeriod.toNat * 2 / 5 / orOne (quireF s)
  | none => periodTicks (runFreq (phAt s (refSource s))) / orOne (quireF s)

/-- Ticks until the window of the folio that lies k folios ahead of the one in progress opens; negative when it has. -/
def openingOf (s : State) (k : Int) (late : Nat) : Int :=
  k * folioLen s + (ticksUs (marginUs s) : Int) - folioTicks s - ((slpMargin s * 2 / 5 : Nat) : Int) + (late : Int)

/-- The opening of the next window of a kind that comes every `per` quires, first in quire `q`, in folio `f`. -/
def nextOpening (s : State) (q per f late : Nat) : Int :=
  let at_ := fun (q : Nat) => openingOf s ((folioIndex s q f : Int) - folioNow s) late
  if 0 < at_ q then at_ q else at_ (q + per)

/-- How much later a sampled leaf opens its sample window: 2M less what lies beyond 92T (09 R299). -/
def sampleLate (s : State) : Nat :=
  let t := ticksUs 1000000 / baudRate ((eRcfg (entryAt s 0)).toNat % 4)
  let m2 := 2 * (slpMargin s * 2 / 5)
  min m2 (92 * t)

/-- The openings of the windows that the leaf will listen in (09 R296, R297, R299, R303, R308). -/
def nextOpenings (s : State) : List Int :=
  let q := s.qr.qnum.toNat
  let n := s.ltx.myNum.toNat
  let opp := nextOpening s (q + (slPer s 0 - (q + n) % slPer s 0) % slPer s 0) (slPer s 0) (slFolio s 0)
  let bev := slpBevery s
  (if slMode s 0 = 1 then [opp 0, nextOpening s (q + (bev - q % bev) % bev) bev 0 0] else []) ++
  (if slMode s 0 = 2 then
    (match s.slp.target with
     | some (tq, tf) => [openingOf s ((folioIndex s tq.toNat tf : Int) - folioNow s) 0]
     | none => [opp (sampleLate s)]) ++ (if s.slp.resync then [nextOpening s q 1 0 0] else [])
   else [])

/-- The conditions of R620. -/
def maySleep (s : State) : Bool :=
  sleepyLeaf s && decide (s.pwr.st = .active) && bitAt s.slp.ctrl 0 && !s.pwr.pwrfail && slpIdle s && qrRunning s &&
    s.line.q.isEmpty && s.line.acks.isEmpty && ((List.range 3).all fun p => (portX s p).rxActive.isNone) &&
    (s.hi.sq.toList.all fun q => q.taken.all fun t => decide (dOp t.bytes = 0x0011)) &&
    !s.tmp.locked && ((nextOpenings s).all fun t => decide ((ticksUs (fld s.pwr.slpcfg 0 16) : Int) ≤ t))

/-- SLEEP_ENTRY (R619, R620): the awake time counted ends with the entry, 20 or 50 us from now (R622). -/
def execSleepEntry (s : State) : Out := run s fun s =>
  if maySleep s then
    if slMode s 0 = 1 then awakeStop (ticksUs 20) (setPwr .appointed 0 (lineOff s))
    else
      let s := setPwr .sampled 0 (lineOff s)
      awakeStop (ticksUs 50) { s with
        clk := { s.clk with pll := 0 }
        slp := { s.slp with beaconHeard := false } }
  else s

def asleep (s : State) : Bool := decide (s.pwr.st = .appointed) || decide (s.pwr.st = .sampled)

/-- The device is ACTIVE again; what was held in the sleep state is written (R617 to R619). -/
def sleepLeave (src : Nat) (s : State) : State :=
  let s := { s with
    pwr := { s.pwr with exiting := none }
    clk := { s.clk with pll := pllsLocked s true } }
  evNotify (evDrainAll (lineOn (setPwr .active src s)))

/-- SLEEP_WAKE_TIMER (R621). -/
def execSleepWakeTimer (s : State) : Out := run s fun s => if asleep s then wakeBy 1 s else s

/-- PWR_WAKE_INPUT (R621, R626, 22 R667): the input rises. -/
def execPwrWakeInput (s : State) : Out := runAon s fun s =>
  if s.pwr.st = .dormant then
    if bitAt s.pwr.cfg 0 ∧ s.pwr.wakePin.isSome then { s with pwr := { s.pwr with exiting := some (s.pwr.exiting.getD 3) } }
    else s
  else if devUp s then
    match inputPin s 16 with
    | some i => wakeBy 3 (setPad i true s)
    | none => s
  else s

/-- SLEEP_EXIT_DONE (R619). -/
def execSleepExitDone (s : State) : Out := run s fun s =>
  match s.pwr.exiting with
  | some src => if asleep s then sleepLeave src.toNat s else s
  | none => s

/-! ### HOLDOVER (20 R623, R624) -/

/-- Steps 2 to 4 of Table 20.5. -/
def holdoverIn (s : State) : State :=
  let s := rgHoldover s
  let s := awakeStop 0 { s with slp := { s.slp with window := none, linger := none } }
  let s := { s with
    pwr := { s.pwr with ldvGood := false }
    clk := { s.clk with pll := s.clk.pll &&& 7 } }
  setPwr .holdover 6 (lineOff s)

/-- HOLDOVER_ENTER: PWRFAIL_N has been low for 1 ms, and no frame is in progress; a sleep state is left first. -/
def execHoldoverEnter (s : State) : Out := run s fun s =>
  let s := { s with pwr := { s.pwr with pwrfail := true } }
  let busy := s.line.q.any fun f => decide (f.st = .onLine)
  if !bitAt s.pwr.cfg 31 || decide (s.pwr.st = .holdover) || busy then s
  else holdoverIn (if asleep s then sleepLeave (match s.pwr.exiting with
    | some x => x.toNat
    | none => 6) s else s)

/-- The time engine resumes its source, if that is present (10 R339, R357): it locks afresh. -/
def teResume (s : State) : State :=
  let src := if teSrc s = 3 then 2 else 0
  if teSrc s = 0 ∨ !s.te.srcOk.getLsbD src ∨ s.te.st = 0 then s
  else
    let s := srcBack src s
    { s with
      te := { s.te with st := 1 }
      tex := { s.tex with consIn := 0, consOut := 0 } }

/-- HOLDOVER_EXIT: PWRFAIL_N has been high for HOLD_EXIT x 10 ms, and the 2.1 ms of the exit are over. -/
def execHoldoverExit (s : State) : Out := run s fun s =>
  let s := { s with pwr := { s.pwr with pwrfail := false } }
  if s.pwr.st = .holdover then
    let s := { s with
      pwr := { s.pwr with ldvGood := bitAt s.pwr.ldv 31 }
      clk := { s.clk with pll := s.clk.pll ||| (pllsLocked s true &&& 8) } }
    teResume (lineOn (setPwr .active 7 s))
  else s

/-! ### The core held in reset (17 R530, 19 R588, 20 R609) -/

/-- PORST_N low, VDD_CORE lost or switched off: every ledger is zero, the KDK is lost and the key store SEALED again, the
link is down. -/
def coreDown (s : State) : State :=
  { s with
    lg := { s.lg with inst := [], resets := [] }
    cx := { s.cx with kdk := none }
    tmp := { s.tmp with ks := if s.tmp.ks = 2 then 1 else s.tmp.ks }
    life := { s.life with linkUp := false } }

/-! ### DORMANT (20 R625, R626) -/

/-- The device powers its core down: PWR_STATE, then every ledger is zero (17 R530) and the link goes down. -/
def dormantIn (s : State) : State :=
  let pin := dormantPin s
  let ms := (s.now - s.pwr.since) / 400000
  let s := raise 0x0B01 0xFF [(0, 1, pwrCode s.pwr.st), (1, 1, 4), (2, 1, 8), (4, 4, ms)] s
  coreDown { s with
    pwr := { s.pwr with st := .dormant, lastSrc := 8, since := s.now, wakePin := pin, exiting := none }
    clk := { s.clk with pll := 0 } }

def workOpen (s : State) : Bool :=
  s.hi.sq.toList.any fun q => q.taken.any fun t => decide (dOp t.bytes ≠ 0x0011)

/-- Every taken RX_POST completes UNIT_DOWN. -/
def rxPostsDown (s : State) : State :=
  let ps := s.hi.rxPosts
  let s := ps.foldl (fun s p => finish p.ring p.desc (resSt 0x11) s) { s with hi := { s.hi with rxPosts := [] } }
  postAll s

def pwrCtrlWrite (v : Word) (s : State) : State :=
  if !bitAt v 31 then s
  else
    let s := if asleep s then sleepLeave (match s.pwr.exiting with
      | some x => x.toNat
      | none => 2) s else s
    if workOpen s then pwrRefuse 2 s
    else if bitAt s.pwr.cfg 1 ∧ s.pwr.wakeAt.toNat < s.tmp.aon.toNat + 32768 then pwrRefuse 3 s
    else dormantIn (rxPostsDown s)

/-- DORMANT_REQUEST (R625). -/
def execDormantRequest (v : Word) (s : State) : Out := runHost s (pwrCtrlWrite v)

/-- DORMANT_WAKE (R626): the AON count has reached PWR_WAKE_AT. -/
def execDormantWake (s : State) : Out := runAon s fun s =>
  if s.pwr.st = .dormant ∧ bitAt s.pwr.cfg 1 ∧ s.pwr.wakeAt.toNat ≤ s.tmp.aon.toNat then
    { s with pwr := { s.pwr with exiting := some (s.pwr.exiting.getD 5) } }
  else s

/-! ### Rails (20 R608, R610) -/

def setRail (i : Nat) (b : Bool) (s : State) : State :=
  { s with pwr := { s.pwr with rails :=
    if b then s.pwr.rails ||| BitVec.ofNat 8 (2 ^ i) else s.pwr.rails &&& ~~~ BitVec.ofNat 8 (2 ^ i) } }

/-- RAIL_OUT_OF_RANGE: the comparator watches rails 0 to 5 and 7. -/
def execRailOutOfRange (i : Fin 8) (high : Bool) (mv : BitVec 16) (s : State) : Out := run s fun s =>
  if i = 6 then s
  else
    let s := setRail i.val false s
    let s := if 2 ≤ i.val ∧ i.val ≤ 4 then setBank (i.val - 2) .out s else s
    raise 0x0B02 i.val [(0, 1, if high then 1 else 2), (4, 4, mv.toNat)] s

/-- RAIL_IN_RANGE: a VDDIO bank is measured anew (22 R653). -/
def execRailInRange (i : Fin 8) (mv : BitVec 16) (s : State) : Out := run s fun s =>
  if i = 6 then s
  else
    let s := setRail i.val true s
    let s := if 2 ≤ i.val ∧ i.val ≤ 4 then setBank (i.val - 2) (bankOf mv.toNat) s else s
    raise 0x0B02 i.val [(0, 1, 3), (4, 4, mv.toNat)] s

/-- BACKUP_SWITCH (R610): VBAK is an analogue reading, a free value (log entry 24). -/
def execBackupSwitch (toBackup : Bool) (s : State) : Out := runAon s fun s =>
  if s.pwr.backup = toBackup then s
  else
    let (f, s) := draw s
    raiseAon 0x0B06 0xFF (payload [(0, 1, ofBool toBackup), (4, 4, f.toNat)]) none
      { s with pwr := { s.pwr with backup := toBackup } }

/-! ### The line-driver supply (20 R612 to R614) -/

/-- PWR_LDV as it is stored: FSW at the nearer limit of 6 to 20 (00 R692). -/
def ldvNorm (v : Word) : Word := limFld (v &&& 0xDF000FFF) 24 5 6 20

/-- Every enabled port behaves as if LD_FAULTn were low. -/
def ldvFault (s : State) : State :=
  [0, 1, 2].foldl (fun s p => if pEn (portS s p) then driverFault p 1 s else s) s

def ldvWrite (v : Word) (s : State) : State :=
  let old := s.pwr.ldv
  let v := ldvNorm v
  if bitAt old 31 ∧ (bitAt v 30 ≠ bitAt old 30 ∨ fld v 24 5 ≠ fld old 24 5) then pwrRefuse 4 s
  else
    let starts := bitAt v 31 && !bitAt old 31
    let s := { s with pwr := { s.pwr with ldv := v, ldvGood := bitAt v 31 && bitAt old 31 && s.pwr.ldvGood } }
    if starts then ldvFault s else s

/-- LDV_CFG_WRITE (R612, R614). -/
def execLdvCfgWrite (v : Word) (s : State) : Out := runHost s (ldvWrite v)

/-- LDV_REGULATION_CHANGE (R613): of a supply that is on. -/
def execLdvRegulationChange (good : Bool) (s : State) : Out := run s fun s =>
  if bitAt s.pwr.ldv 31 ∧ s.pwr.st ≠ .holdover then
    let s := { s with pwr := { s.pwr with ldvGood := good } }
    if good then s else ldvFault s
  else s

/-! ### Clocks (20 R627 to R630) -/

def setPresent (i : Nat) (b : Bool) (s : State) : State :=
  { s with clk := { s.clk with present :=
    if b then s.clk.present ||| BitVec.ofNat 3 (2 ^ i) else s.clk.present &&& ~~~ BitVec.ofNat 3 (2 ^ i) } }

/-- REF10M is absent: the fabric PLL returns to 27 MHz (R629), and the time engine loses it (10 R339). -/
def refLost (s : State) : State :=
  let s := srcOkSet 1 false { s with clk := { s.clk with onref := false } }
  if teSrc s = 2 ∧ !s.tex.srcLost.getLsbD 1 then
    raise 0x0506 0xFF [(0, 1, 1), (1, 1, s.te.st.toNat)]
      { s with tex := { s.tex with srcLost := s.tex.srcLost ||| 2 } }
  else s

/-- CLOCK_LOSS: of input i, 27 MHz, REF10M, 32.768 kHz (R627). -/
def execClockLoss (i : Fin 3) (s : State) : Out := run s fun s =>
  if s.clk.present.getLsbD i.val then
    let s := raise 0x0B03 i.val [] (setPresent i.val false s)
    if i = 1 then refLost s else s
  else s

/-- CLOCK_RESTORE (R627). -/
def execClockRestore (i : Fin 3) (s : State) : Out := run s fun s =>
  if s.clk.present.getLsbD i.val then s
  else
    let s := raise 0x0B04 i.val [] (setPresent i.val true s)
    if i = 1 then srcBack 1 (srcOkSet 1 true s) else s

/-- PLL i runs in the power state (Table 20.2). -/
def pllRuns (s : State) (i : Nat) : Bool :=
  match s.pwr.st with
  | .active => true
  | .appointed => true
  | .holdover => decide (i ≠ 3)
  | _ => false

/-- PLL_UNLOCK (R628). -/
def execPllUnlock (i : Fin 4) (s : State) : Out := run s fun s =>
  if pllRuns s i.val && s.clk.pll.getLsbD i.val then
    raise 0x0B05 i.val [] { s with clk := { s.clk with pll := s.clk.pll &&& ~~~ BitVec.ofNat 4 (2 ^ i.val) } }
  else s

/-- PLL_RELOCK (R630): its reference is there. -/
def execPllRelock (i : Fin 4) (s : State) : Out := run s fun s =>
  if pllRuns s i.val && (pllsLocked s true).getLsbD i.val then
    { s with clk := { s.clk with pll := s.clk.pll ||| BitVec.ofNat 4 (2 ^ i.val) } }
  else s

/-- FABRIC_REF_SWITCH (R629): REF10M has been present for 1 s. -/
def execFabricRefSwitch (s : State) : Out := run s fun s =>
  if s.clk.refsel && s.clk.present.getLsbD 1 then { s with clk := { s.clk with onref := true } } else s

/-! ### Registers (20 Table 20.8) -/

def pwrStatus (s : State) : Word :=
  at32 (ofBool s.pwr.refused) 31 ||| at32 s.pwr.cause.toNat 28 ||| at32 (ofBool s.pwr.ldvGood) 14 |||
    at32 (ofBool s.pwr.pwrfail) 13 ||| at32 (ofBool s.pwr.backup) 12 ||| at32 s.pwr.lastSrc.toNat 8 |||
    at32 (pwrCode s.pwr.st) 0
def pwrStatusWrite (v : Word) (s : State) : State := { s with pwr := { s.pwr with refused := w1c s.pwr.refused v 31 } }
def pwrCfgWrite (v : Word) (s : State) : State := { s with pwr := { s.pwr with cfg := oneFld (v &&& 0x80FF0003) 16 8 } }
def slpcfgWrite (v : Word) (s : State) : State := { s with pwr := { s.pwr with slpcfg := v &&& 0xFFFF } }
def wakeAtHiWrite (a : Agent) (v : Word) (s : State) : State :=
  let (lo, s) := takeLo a false 0xA00C (s.pwr.wakeAt.setWidth 32) s
  { s with pwr := { s.pwr with wakeAt := v ++ lo } }

/-- REFSEL cleared: the 27 MHz clock only. -/
def clkCfgWrite (v : Word) (s : State) : State :=
  { s with clk := { s.clk with refsel := bitAt v 0, onref := s.clk.onref && bitAt v 0 } }
def clkStatus (s : State) : Word :=
  at32 s.clk.present.toNat 16 ||| at32 (ofBool s.clk.onref) 8 ||| at32 s.clk.pll.toNat 0

end Sys2Proof.Machine
end

