-- ==== Sys2Proof/Machine/Start.lean ====
section
/-! DEFINITION. From power-on to ready (21): the cold start, the losses that hold the core in reset, the recovery boot, the
start of the management subsystem, and the confirmation of the role. -/
namespace Sys2Proof.Machine

/-! ### The losses that hold the core in reset (20 R609, 21 R633) -/

/-- PORST_ASSERT. -/
def execPorstAssert (s : State) : Out := runAon s fun s => coreDown { s with life := { s.life with porstLow := true } }

/-- VDD_CORE_LOSS (20 R609): not while DORMANT, which has switched the rail off. -/
def execVddCoreLoss (s : State) : Out := runAon s fun s =>
  if s.pwr.st = .dormant then s else coreDown { s with life := { s.life with coreLost := true } }

/-- AON_POWER_LOSS (19 R587, 20, VBAK is absent): the key store, the latch and every TMP register are gone; the next start
is a cold start. -/
def execAonPowerLoss (s : State) : Out := runAon s fun s =>
  let s := coreDown s
  { s with
    life := { s.life with aonUp := false, coreLost := true }
    pwr := { s.pwr with exiting := none }
    tmp := { Tmp.reset with ksmk := none, ks := 0, aonpor := false, mesh := 0 } }

/-- AON_POWER_UP (19 R587). -/
def execAonPowerUp (s : State) : Out := .next { (if s.life.aonUp then s else aonPowerUp s) with pending := s.pending }

/-! ### The cold start (21 Table 21.2) -/

/-- What survives in flash and OTP; sensors, the log's buffer and the MSS's own tables are SRAM. -/
def mssxCold (x : MssX) : MssX :=
  { MssX.reset with otpRollback := x.otpRollback, otpKey := x.otpKey, boot := x.boot, img := x.img, log := x.log,
                    logSeq := x.logSeq }

/-- What survives in the always-on domain (19 Table 19.3). -/
def tmpCold (t : Tmp) : Tmp :=
  { t with refused := false, cause := 0, ks := (if t.ksmk.isSome then 1 else 0), tbSent := 0, tbNofit := 0,
           zero := t.zero.map fun z => { z with waits := [] }, waiting := [], tbQuire := none, tbFolio := 0 }

/-- Step 4: every block at its reset values, the straps sampled, the banks measured (21 R638, R648, 22 R653). -/
def coldBlocks (st : Straps) (banks : Vector BankVolt 3) (s : State) : State :=
  let (e, s) := draw s
  let r := State.reset
  { r with
    cln := { Cln.reset with role := st.role, hostmode := st.hostmode, bootsrc := st.bootsrc }
    life := { Life.reset with upAt := s.now }
    te := { Te.reset with srcOk := if s.clk.present.getLsbD 1 then 2 else 0 }
    slp := { Slp.reset with contactAt := s.now }
    cx := { Cx.reset with bootEpoch := e }
    msix := { Msix.reset with sent := s.msix.sent }
    mss := { Mss.reset with bootAt := s.now }
    mssx := mssxCold s.mssx
    tmp := tmpCold s.tmp
    pwr := { Pwr.reset with backup := s.pwr.backup, rails := s.pwr.rails, pwrfail := s.pwr.pwrfail, since := s.now }
    clk := { Clk.reset with present := s.clk.present }
    pmx := { Pmx.reset with bank := banks, pad := s.pmx.pad, tapIr := tapEffect r s.pmx.tapIr }
    hostMem := s.hostMem
    answer := s.answer
    freeCtr := s.freeCtr
    now := s.now
    pending := s.pending }

/-- The cores' self-tests: one that fails stays FAULTED; the slot and the block it reports are free values (21 R639). -/
def coldTests (pass : BitVec 4) (s : State) : State :=
  noCoreCheck ((List.range 4).foldl (fun s c =>
    if pass.getLsbD c then s
    else
      let (a, s) := draw s
      let (b, s) := draw s
      raise 0x0701 c [(0, 1, a.toNat), (1, 1, 2), (4, 4, b.toNat)] (updCore c (fun x => { x with st := .faulted }) s)) s)

/-- Step 6: LEDGER_EPOCH and CX_BOOT advance in flash and show (18 R552, 21 R641). -/
def bootAdvance (s : State) : State :=
  let blank := (bootCopy s).isNone
  let s := bootWrite (fun b => { b with
    epoch := b.epoch + 1
    cxBoot := b.cxBoot + 1
    wrapped := b.wrapped || blank || decide (b.cxBoot = 4095) }) s
  let b := bootState s
  { s with lg := { s.lg with epoch := b.epoch }, cx := { s.cx with boot := b.cxBoot } }

/-- A log-only record whose payload the spec does not give: free values. -/
def logFree (code : Nat) (s : State) : State :=
  let (a, s) := draw s
  let (b, s) := draw s
  logOnly code (a ++ b) s

/-- Records of the always-on domain that waited for the event path, then PWR_STATE after DORMANT (19, 20 R610, R619). -/
def coldEvents (old : State) (s : State) : State :=
  let s := old.tmp.waiting.foldl (fun s w => raiseAon w.1 w.2.1 w.2.2.1 w.2.2.2 s) s
  match old.pwr.st, old.pwr.exiting with
  | .dormant, some src =>
    raise 0x0B01 0xFF [(0, 1, 4), (1, 1, 0), (2, 1, src.toNat), (4, 4, (s.now - old.pwr.since) / 400000)]
      { s with pwr := { s.pwr with lastSrc := src } }
  | _, _ => s

/-- Step 7: the tamper check and the unseal (19 R589); TAMPER_LOCKED gates the ports (R598). -/
def coldTamper (s : State) : State :=
  let s := observeLive s
  let s := if s.tmp.latch = 0 ∧ s.tmp.live = 0 then keyUnseal s else { s with tmp := { s.tmp with locked := true } }
  let s := zeroSettle s
  if s.tmp.locked then gateEvents 2 s else s

/-- Step 8: the image, or the wait for one on the recovery UART (21 R642). An update session that the power loss ended is
told of after MSS_READY (18 Table 18.8). -/
def coldBoot (old : State) (s : State) : State :=
  let s := match old.mssx.sessMark with
    | some (step, slot) => { s with mss := { s.mss with updateDue := [(step, 0x12, slot)] } }
    | none => s
  if s.cln.bootsrc then { s with mss := { s.mss with uart := true } } else bootRom s

def coldStart (st : Straps) (env : BootEnv) (old : State) : State :=
  let s := bootAdvance (coldBlocks st env.banks old)
  let s := coldTests env.corePass (coldEvents old s)
  coldBoot old (coldTamper (logFree 0x09F0 s))

/-- COLD_START: PORST_N is released, VDD_CORE has returned or the device leaves DORMANT; steps 1 to 8. -/
def execColdStart (st : Straps) (env : BootEnv) (s : State) : Out := runAon s (coldStart st env)

/-- LINK_UP (21 Table 21.2, step 5): not with HOSTMODE = 1. -/
def execLinkUp (s : State) : Out := linkRow s fun s => { s with life := { s.life with linkUp := true } }

/-- RECOVERY_IMAGE_RECEIVE (21 R642): an image that verifies is started from SRAM, as slot 0; another is discarded. -/
def execRecoveryImageReceive (img : Image) (s : State) : Out := run s fun s =>
  if s.mss.uart ∧ (imgFault s 1 img).isNone then
    let s := loadImage img false s
    { s with mss := { s.mss with uart := false } }
  else s

/-! ### The role (21 R643 to R645) -/

/-- Table 00.1 has no head that runs alone. -/
def strapsValid (s : State) : Bool := s.cln.role || !s.cln.hostmode

/-- CLN_STRAP.CONFIRMED becomes 1. -/
def confirmNow (s : State) : State := { s with cln := { s.cln with confirmed := true, confirmPending := false } }

/-- MSS_READY: the firmware comes up, a pending confirmation is accepted; with straps that are not valid it logs
STRAP_INVALID (00 R6). The firmware has reloaded check-value channels 2 and 3 (21 Table 21.3). -/
def execMssReady (s : State) : Out := run s fun s =>
  if mssStarting s then
    let s := updCv 3 (fun _ => CvCh.reset 3) (updCv 2 (fun _ => CvCh.reset 2) s)
    let s := mssReadyNow s
    let s := if strapsValid s then s else logFree 0x09F1 s
    if s.cln.confirmPending then confirmNow s else s
  else s

/-- A write of HI_CONFIRM (21 R643, R644, 00 R7). -/
def confirmWrite (v : Word) (s : State) : State :=
  if bitAt v 31 && s.cln.confirmed then s
  else
    let role := bitAt v 0
    let s := { s with cln := { s.cln with confirmRole := role } }
    if !bitAt v 31 || !strapsValid s then s
    else if role ≠ s.cln.role then
      raise 0x0D07 0xFF [(0, 1, ofBool s.cln.role), (1, 1, ofBool role)] { s with cln := { s.cln with confirmPending := false } }
    else if s.life.mssReadySeen then confirmNow s
    else { s with cln := { s.cln with confirmPending := true } }

/-- HI_CONFIRM. -/
def execHiConfirm (v : Word) (s : State) : Out := runHost s (confirmWrite v)

def confirmRead (s : State) : Word := at32 (ofBool s.cln.confirmPending) 31 ||| at32 (ofBool s.cln.confirmRole) 0

end Sys2Proof.Machine
end

