-- ==== Sys2Proof/Machine/Regs.lean ====
section
/-! DEFINITION. The register index (23): what a read of each offset of BAR0 and BAR2 returns and does, what a write does, the
_LO/_HI pairs (R675, R676), byte enables (15 R476) and the three agents (R681, R682). -/
namespace Sys2Proof.Machine

/-- The low and the high half of a pair. -/
def loHalf (n : Nat) : Word := BitVec.ofNat 32 n
def hiHalf (n : Nat) : Word := BitVec.ofNat 32 (n / 4294967296)

/-! ### Small registers that stand in no other file -/

def ltCfgWrite (v : Word) (s : State) : State := { s with lt := { s.lt with cfg := let w := v &&& 0xFFFF0013; if fld w 0 2 = 3 then setFld w 0 2 0 else w } }
def ltTimersWrite (v : Word) (s : State) : State :=
  { s with lt := { s.lt with timers := oneFld (oneFld (oneFld v 16 16) 8 8) 0 8 } }
def ltRemoteWrite (v : Word) (s : State) : State :=
  { s with lt := { s.lt with remote := oneFld (oneFld (v &&& 0xFFFF0F0F) 8 4) 0 4 } }
def slpCfgWrite (v : Word) (s : State) : State := { s with slp := { s.slp with cfg := oneFld (v &&& 0xFFFFFF7F) 0 4 } }
def slpLimWrite (v : Word) (s : State) : State := { s with slp := { s.slp with lim := oneFld v 0 16 } }
/-- LT_SLP_CTRL: clearing SLEEP_EN ends a sleep state (20 R621). -/
def slpCtrlWrite (v : Word) (s : State) : State :=
  let s := if bitAt s.slp.ctrl 0 && !bitAt v 0 then wakeBy 9 s else s
  { s with slp := { s.slp with ctrl := oneFld (v &&& 0xF01) 8 4 } }
def slpHeadWrite (v : Word) (s : State) : State := { s with slp := { s.slp with head := oneFld (v &&& 0xFF07) 0 3 } }
def rxcfgWrite (v : Word) (s : State) : State := { s with hi := { s.hi with rxcfg := oneFld (v &&& 0xFFFF) 0 16 } }
def zcDlyWrite (n : Phase) (v : Word) (s : State) : State := updPh n (fun p => { p with zcDly := v &&& 0xFFFFF }) s

/-! ### Reads, block by block -/

def rdCln (off : Nat) (s : State) : Word :=
  match off with
  | 0x0 => 0x74200B00
  | 0x4 => at32 (ofBool s.cln.confirmed) 4 ||| at32 (ofBool s.cln.bootsrc) 2 ||| at32 (ofBool s.cln.hostmode) 1 |||
      at32 (ofBool s.cln.role) 0
  | 0x8 => s.cln.fw
  | 0x400 => confirmRead s
  | 0x404 => hiStatus s
  | 0x408 => s.hi.rxcfg
  | 0x40C => s.hi.rxdrop
  | 0x410 => s.hi.badacc
  | 0x414 => s.hi.dmaerr
  | 0x800 => loHalf s.ev.base.toNat
  | 0x804 => hiHalf s.ev.base.toNat
  | 0x808 => s.ev.cfg
  | 0x80C => evStat s
  | 0x810 => evWseq s
  | 0x814 => s.ev.coalTotal
  | _ => 0

def rdSq (n off : Nat) (s : State) : Word :=
  let q := sqAt s n
  match off with
  | 0x0 => loHalf q.base.toNat
  | 0x4 => hiHalf q.base.toNat
  | 0x8 => q.cfg
  | 0xC => sqStat q
  | _ => 0

def rdCq (m off : Nat) (s : State) : Word :=
  let q := cqAt s m
  match off with
  | 0x0 => loHalf q.base.toNat
  | 0x4 => hiHalf q.base.toNat
  | 0x8 => q.cfg
  | 0xC => cqStat q
  | 0x10 => q.seq
  | _ => 0

/-- MPT (01 Table 01.4); offsets from 0x2000. -/
def rdMpt (off : Nat) (s : State) : Word :=
  let m := s.mpt
  match off with
  | 0x0 => m.ctrl
  | 0x4 => m.lock
  | 0x8 => mptStatus s
  | 0x10 => (phAt s 0).freq
  | 0x14 => (phAt s 1).freq
  | 0x18 => (phAt s 2).freq
  | 0x20 => (phAt s 0).zcDly
  | 0x24 => (phAt s 1).zcDly
  | 0x28 => (phAt s 2).zcDly
  | 0x34 => m.snapSeq
  | 0x80 => angleOf (phAt s 1).acc - angleOf (phAt s 0).acc
  | 0x84 => angleOf (phAt s 2).acc - angleOf (phAt s 0).acc
  | 0x88 => m.bias
  | 0x8C => match pendStep m with
    | some x => BitVec.ofNat 32 (stepWord x)
    | none => 0
  | 0x90 => m.prio
  | 0xA0 => mptLeafPhase m
  | 0xA4 => m.leafOfs
  | _ =>
    if 0x40 ≤ off ∧ off < 0x80 then
      let n := (off - 0x40) / 16
      match off % 16 with
      | 0 => vget m.snap.angle n 0
      | 4 => loHalf (vget m.snap.cyc n 0).toNat
      | 8 => hiHalf (vget m.snap.cyc n 0).toNat
      | _ => 0
    else 0

/-- QR (02 Table 02.8); offsets from 0x2400. -/
def rdQr (off : Nat) (s : State) : Word :=
  let q := s.qr
  match off with
  | 0x0 => at32 (ofBool q.nominal) 1 ||| at32 (ofBool q.run) 0
  | 0x4 => qrStatus s
  | 0x8 => q.qnum
  | 0xC => q.qnumInit
  | 0x10 => q.margin
  | 0x14 => q.announce
  | 0x18 => q.mapAddr
  | 0x1C => (mapDataRead s).1
  | 0x20 => (bankAt s 0).geom
  | 0x24 => (bankAt s 1).geom
  | 0x28 => q.swapReg
  | 0x2C => qrMapStatus s
  | 0x30 => bankDigest (bankAt s 0)
  | 0x34 => bankDigest (bankAt s 1)
  | 0x40 => q.part
  | 0x44 => vget q.partPend 0 0
  | 0x48 => vget q.partPend 1 0
  | 0x4C => vget q.partPend 2 0
  | 0x50 => vget q.partPend 3 0
  | 0x60 => q.slip
  | 0x64 => q.slipQ
  | 0x68 => q.fwPeriod
  | 0x6C => q.beaconSkip
  | _ => 0

/-- AIR (03 Table 03.4); offsets from 0x2800. -/
def rdAir (off : Nat) (s : State) : Word :=
  let a := s.air
  if 0x10 ≤ off ∧ off < 0x80 then
    let x := bandAt s (off / 4 % 4)
    match off / 16 with
    | 1 => x.rate
    | 2 => x.window
    | 3 => x.bres
    | 4 => x.hold
    | 5 => BitVec.ofInt 32 x.main
    | 6 => BitVec.ofNat 32 x.beacon
    | _ => x.ackSupp
  else match off with
    | 0x0 => a.ctrl
    | 0x4 => airStatus s
    | 0x8 => airCstate s
    | 0x80 => a.cdet
    | 0x84 => a.cthr
    | 0x88 => a.ctime
    | 0x8C => a.cacc
    | 0x90 => a.cWithheld
    | _ => 0

/-- AFE (04 Table 04.3): the common registers, and the block of port p. -/
def rdAfe (off : Nat) (s : State) : Word :=
  match off with
  | 0x0 => at32 (ofBool s.afe.lock) 0
  | 0x4 => afeStatus s
  | 0x8 => s.afe.firAddr
  | 0xC => firDataRead s
  | 0x10 => s.afe.cpwrAddr
  | 0x14 => cpwrDataRead s
  | _ => 0

def rdPort (p off : Nat) (s : State) : Word :=
  let x := portS s p
  match off with
  | 0x0 => x.pctrl
  | 0x4 => pstat x
  | 0x8 => x.txgain
  | 0xC => x.txcal
  | 0x10 => x.txceil
  | 0x14 => x.rxcal
  | 0x18 => x.txdly
  | 0x1C => x.rxdly
  | 0x20 => x.ldcfg
  | 0x24 => x.rxsat
  | 0x28 => x.txclip
  | _ => if 0x40 ≤ off ∧ off < 0x60 then vget (portX s p).notch ((off - 0x40) / 4) 0 else 0

/-- OFD and RBM (06 Table 06.7, 07 Table 07.4). -/
def rdOfd (off : Nat) (s : State) : Word :=
  match off with
  | 0x0 => at32 s.ofd.rxen.toNat 0
  | 0x4 => ofdStatus s
  | 0x8 => s.ofd.tmAddr
  | 0xC => tmDataRead s
  | 0x10 => s.ofd.valid.setWidth 32
  | 0x14 => s.ofd.bcast
  | _ => 0

def rdOfdPort (p off : Nat) (s : State) : Word :=
  let x := vget s.ofd.p p OfdPort.reset
  match off with
  | 0x0 => x.rxok
  | 0x4 => x.hcsfail
  | 0x8 => x.rsfail
  | 0xC => x.fcsfail
  | 0x10 => x.fcfail
  | 0x14 => x.rscorr
  | 0x18 => x.ofs
  | 0x1C => x.snr
  | _ => 0

def rdRbm (off : Nat) (s : State) : Word :=
  match off with
  | 0x0 => s.rbm.ctrl
  | 0x4 => rbmStatus s
  | 0x8 => s.rbm.fc
  | 0xC => s.rbm.bcfg
  | 0x10 => s.rbm.dcfg
  | _ => 0

def rdRbmPort (p off : Nat) (s : State) : Word :=
  let x := vget s.rbm.p p RbmPort.reset
  match off with
  | 0x0 => x.rxok
  | 0x4 => x.hcsfail
  | 0x8 => x.rsfail
  | 0xC => x.fcsfail
  | 0x10 => x.rfcfail
  | 0x14 => x.comb
  | 0x18 => x.snr
  | _ => 0

/-- LT (08 Table 08.5); c is the copy of LT_STATUS, LT_CMD and the stage (R258); offsets from 0x4800. -/
def rdLt (c off : Nat) (s : State) : Word :=
  match off with
  | 0x0 => s.lt.cfg
  | 0x4 => s.lt.timers
  | 0x8 => s.lt.remote
  | 0xC => ltStatus c s
  | 0x10 => s.lt.join
  | 0x14 => s.lt.rlyDrop
  | 0x18 => s.lt.bcGap
  | 0x20 => (stageAt s c).cmd
  | _ =>
    if 0x40 ≤ off ∧ off < 0x80 then spGet 0 (stageAt s c).words ((off - 0x40) / 4)
    else if 0x80 ≤ off ∧ off < 0x100 then spGet 0 s.lt.appt ((off - 0x80) / 4)
    else 0

/-- Sleepy leaves (09 Table 09.2); offsets from 0x4900. -/
def rdSlp (off : Nat) (s : State) : Word :=
  match off with
  | 0x0 => s.slp.cfg
  | 0x4 => s.slp.lim
  | 0x8 => s.slp.ctrl
  | 0xC => s.slp.head
  | 0x10 => s.slp.budget
  | 0x14 => slpStatus s
  | 0x18 => slpSinceMs s
  | 0x1C => BitVec.ofNat 32 (slpSpent s)
  | 0x20 => s.slp.wskip
  | _ => 0

/-- TE (10 Table 10.4): BAR0 from 0x5000. -/
def rdTe (off : Nat) (s : State) : Word :=
  let t := s.te
  match off with
  | 0x0 => t.ctrl
  | 0x4 => teStatus s
  | 0x8 => t.disc
  | 0xC => t.ppsCfg
  | 0x10 => t.ppsinDly
  | 0x14 => s.tex.ppsinErr
  | 0x18 => t.utc
  | 0x1C => t.leapCtrl
  | 0x20 => loHalf t.leapAt.toNat
  | 0x24 => hiHalf t.leapAt.toNat
  | 0x28 => t.tc
  | 0x2C => loHalf t.tcEpoch.toNat
  | 0x30 => hiHalf t.tcEpoch.toNat
  | 0x40 => t.rngCfg
  | 0x44 => t.rngLim
  | 0x48 => t.rngNow
  | 0x4C => s.tex.theta
  | 0x50 => s.tex.bcnOfs
  | 0x54 => s.tex.rngOk
  | 0x58 => s.tex.rngFail
  | 0x5C => s.tex.rngRej
  | 0x60 => s.tex.ppsinBad
  | _ => 0

/-- TE: the registers of BAR2. -/
def rdTe2 (off : Nat) (s : State) : Word :=
  let n := s.te.snap
  match off with
  | 0x804 => s.te.snapSeq
  | 0x808 => loHalf n.sec.toNat
  | 0x80C => hiHalf n.sec.toNat
  | 0x810 => n.ns
  | 0x814 => n.frac.setWidth 32
  | 0x818 => n.ma
  | 0x81C => loHalf n.mcyc.toNat
  | 0x820 => hiHalf n.mcyc.toNat
  | 0x824 => at32 n.leap.toNat 31 ||| n.utc
  | 0x830 => loHalf s.te.setSec.toNat
  | 0x834 => hiHalf s.te.setSec.toNat
  | 0x838 => s.te.setNs
  | 0x83C => s.te.setFrac
  | 0x848 => loHalf s.te.s.toNat
  | 0x84C => hiHalf s.te.s.toNat
  | _ => 0

/-- RGC and alignment (11 Table 11.5, 12 Table 12.4); offsets from 0x6000. -/
def rdRgc (off : Nat) (s : State) : Word :=
  match off with
  | 0x4 => rgcStatus s
  | 0x8 => s.rg.incfg
  | 0x10 => vget s.rg.vdac 0 0
  | 0x14 => vget s.rg.vdac 1 0
  | 0x100 => s.aln.gofs
  | 0x104 => s.aln.kcfg
  | 0x108 => s.aln.kexp
  | 0x10C => s.aln.kdly
  | 0x110 => s.aln.kmax
  | 0x114 => s.aln.kmeas
  | 0x118 => kcnt s
  | 0x120 => s.aln.stcfg
  | 0x124 => s.aln.stdly
  | 0x128 => s.aln.stlim
  | 0x12C => stStat s
  | 0x130 => s.aln.sterr
  | 0x134 => s.aln.stcrc.setWidth 32
  | _ => if 0x40 ≤ off ∧ off < 0x80 then vget s.rg.patsel ((off - 0x40) / 4) 0 else 0

/-- RGn (11 Table 11.5). -/
def rdRg (c : Fin 8) (off : Nat) (s : State) : Word :=
  let h := chAt s c
  let k : Fin 2 := if off / 16 % 2 = 1 then 0 else 1
  match off with
  | 0x0 => h.ctrl
  | 0x4 => rgStatus s c
  | 0x8 => loHalf h.ftw.toNat
  | 0xC => hiHalf h.ftw.toNat
  | 0x10 => h.seqAddr
  | 0x14 => (seqDataRead c s).1
  | 0x18 => h.ltc
  | 0x1C => h.ltcUb
  | 0x20 => vget h.cntld 0 0
  | 0x24 => vget h.cntld 1 0
  | 0x28 => vget h.cntld 2 0
  | 0x2C => vget h.cntld 3 0
  | 0x30 | 0x40 => h.maAng[k.val]
  | 0x34 | 0x44 => h.maQ[k.val]
  | 0x38 | 0x48 => maCfgRead s c k
  | 0x50 | 0x60 => loHalf h.todSec[k.val].toNat
  | 0x54 | 0x64 => todSecHiRead s c k
  | 0x58 | 0x68 => h.todNs[k.val]
  | _ => if 0x80 ≤ off ∧ off < 0xC0 then vget h.ts ((off - 0x80) / 4) 0 else 0

/-- CX (13 Table 13.5); offsets from 0x7000. -/
def rdCx (off : Nat) (s : State) : Word :=
  let x := s.cx
  match off with
  | 0x0 => x.ctrl
  | 0x4 => cxStatus s
  | 0x8 => x.coreEn.setWidth 32
  | 0xC => x.limLeaf
  | 0x10 => x.limNet
  | 0x14 => x.boot.setWidth 32
  | 0x18 => x.faultSlot
  | 0x1C => loHalf (cxFaultMap s).toNat
  | 0x20 => hiHalf (cxFaultMap s).toNat
  | 0x24 => x.slotSel
  | 0x28 => x.info.info
  | 0x2C => x.info.owner
  | 0x30 => loHalf x.info.inv.toNat
  | 0x34 => hiHalf x.info.inv.toNat
  | 0x38 => loHalf x.info.blk.toNat
  | 0x3C => hiHalf x.info.blk.toNat
  | 0x40 => x.rxHeld
  | 0x44 => x.unwrapFail
  | 0x48 => x.replay
  | _ => 0

/-- CV (14 Table 14.2): the parameters of channel c. -/
def rdCv (c off : Nat) (s : State) : Word :=
  let k := cvAt s c
  match off with
  | 0x0 => k.cfg
  | 0x4 => k.poly
  | 0x8 => k.init
  | 0xC => k.xorout
  | _ => 0

/-- CV: the block of channel c in BAR2 (R468, R469). -/
def rdCv2 (c off : Nat) (s : State) : Word :=
  match off with
  | 0x80 => cvRead s c .result
  | 0x84 => cvRead s c .state
  | 0x8C => cvRead s c .count
  | _ => 0

/-- CV_STATUS, LG, MSS, TMP, PWR, CLK (14, 17, 18, 19, 20). -/
def rdSys (off : Nat) (s : State) : Word :=
  match off with
  | 0x7900 => cvStatus s
  | 0x8000 => s.lg.epoch
  | 0x8004 => lgStatus s
  | 0x8010 => s.lg.snapCnt
  | 0x9000 => mssStatus s
  | 0x9004 => s.mss.hwthr
  | 0x9008 => s.mss.thcfg
  | 0x900C => mssGated s
  | 0x9010 => s.mss.smbcfg
  | 0x9804 => (tmpStatusRead s).1
  | 0x9808 => s.tmp.latch.setWidth 32
  | 0x980C => s.tmp.cfg
  | 0x9810 => s.tmp.deb
  | 0x9814 => loHalf s.tmp.stamp.toNat
  | 0x9818 => hiHalf s.tmp.stamp.toNat
  | 0x981C => s.tmp.causeReg
  | 0x9820 => loHalf s.tmp.aon.toNat
  | 0x9824 => hiHalf s.tmp.aon.toNat
  | 0x9828 => loHalf s.tmp.ppsAon.toNat
  | 0x982C => hiHalf s.tmp.ppsAon.toNat
  | 0x9830 => loHalf s.tmp.ppsSec.toNat
  | 0x9834 => tbCount s
  | 0xA004 => pwrStatus s
  | 0xA008 => s.pwr.cfg
  | 0xA00C => loHalf s.pwr.wakeAt.toNat
  | 0xA010 => hiHalf s.pwr.wakeAt.toNat
  | 0xA014 => s.pwr.slpcfg
  | 0xA018 => s.pwr.ldv
  | 0xA01C => s.pwr.rails.setWidth 32
  | 0xA040 => at32 (ofBool s.clk.refsel) 0
  | 0xA044 => clkStatus s
  | _ => 0

/-- PMX (22 Table 22.7), the MSI-X structures and the doorbells (15 R475, R486). -/
def rdPmx (off : Nat) (s : State) : Word :=
  match off with
  | 0x0 => at32 (ofBool s.pmx.lock) 0
  | 0x4 => pmxStatus s
  | 0x10 => pinsWord false s.pmx.gpioOut
  | 0x14 => pinsWord true s.pmx.gpioOut
  | 0x18 => pinsWord false s.pmx.gpioOe
  | 0x1C => pinsWord true s.pmx.gpioOe
  | 0x20 => pinsWord false (gpioIn s)
  | 0x24 => pinsWord true (gpioIn s)
  | 0x28 => s.pmx.confMap.setWidth 32
  | _ =>
    if 0x80 ≤ off ∧ off < 0x140 then vget s.pmx.pin ((off - 0x80) / 4) 0
    else if 0x180 ≤ off ∧ off < 0x1C8 then vget s.pmx.conf ((off - 0x180) / 4) 0
    else 0

def rdBell (off : Nat) (s : State) : Word :=
  if off = 0xE000 then loHalf s.msix.addr.toNat
  else if off = 0xE004 then hiHalf s.msix.addr.toNat
  else if off = 0xE008 then s.msix.data
  else if off = 0xE00C then at32 (ofBool s.msix.mask) 0
  else if off = 0xE800 then at32 (ofBool s.msix.pend) 0
  else if off < 0xF000 then 0
  else if off < 0xF080 then (if off % 8 = 0 then (sqAt s ((off - 0xF000) / 8)).bell else 0)
  else if off < 0xF100 then 0
  else if off < 0xF180 then (if off % 8 = 0 then (cqAt s ((off - 0xF100) / 8)).bell else 0)
  else if off = 0xF200 then s.ev.bell
  else 0

/-- The copy of LT_STATUS, LT_CMD and the stage an agent reaches (08 R258). -/
def ltCopyOf (a : Agent) : Nat := if a = .remote then 1 else 0

/-- The live value of the register at a dword-aligned BAR0 offset (R673); no register: 0. -/
def rdBar0 (a : Agent) (off : Nat) (s : State) : Word :=
  if off < 0x1000 then rdCln off s
  else if off < 0x1400 then rdSq ((off - 0x1000) / 0x40) (off % 0x40) s
  else if off < 0x1800 then rdCq ((off - 0x1400) / 0x40) (off % 0x40) s
  else if off < 0x2000 then 0
  else if off < 0x2400 then rdMpt (off - 0x2000) s
  else if off < 0x2800 then rdQr (off - 0x2400) s
  else if off < 0x3000 then rdAir (off - 0x2800) s
  else if off < 0x3100 then rdAfe (off - 0x3000) s
  else if off < 0x3400 then rdPort ((off - 0x3100) / 0x100) (off % 0x100) s
  else if off < 0x3800 then 0
  else if off < 0x3900 then rdOfd (off - 0x3800) s
  else if off < 0x39C0 then rdOfdPort ((off - 0x3900) / 0x40) (off % 0x40) s
  else if off < 0x4000 then 0
  else if off < 0x4100 then rdRbm (off - 0x4000) s
  else if off < 0x41C0 then rdRbmPort ((off - 0x4100) / 0x40) (off % 0x40) s
  else if off < 0x4800 then 0
  else if off < 0x4900 then rdLt (ltCopyOf a) (off - 0x4800) s
  else if off < 0x5000 then rdSlp (off - 0x4900) s
  else if off < 0x6000 then rdTe (off - 0x5000) s
  else if off < 0x6400 then rdRgc (off - 0x6000) s
  else if off < 0x6C00 then rdRg (Fin.ofNat 8 ((off - 0x6400) / 0x100)) (off % 0x100) s
  else if off < 0x7000 then 0
  else if off < 0x7800 then rdCx (off - 0x7000) s
  else if off < 0x7900 then rdCv ((off - 0x7800) / 0x20) (off % 0x20) s
  else if off < 0xB000 then rdSys off s
  else if off < 0xE000 then rdPmx (off - 0xB000) s
  else rdBell off s

/-- The live value at a BAR2 offset. -/
def rdBar2 (off : Nat) (s : State) : Word :=
  if off < 0x400 then rdCv2 (4 + off / 0x100) (off % 0x100) s else rdTe2 off s

/-- What an access reaches (R673): BAR2 is 4 KiB, and REMOTE accesses reach BAR0 only. -/
def rdLive (a : Agent) (bar2 : Bool) (off : Nat) (s : State) : Word :=
  if off % 4 ≠ 0 then 0
  else if bar2 then (if a = .remote then 0 else rdBar2 off s)
  else rdBar0 a off s

/-! ### Pairs (R675, R676) -/

/-- The _LO registers of the pairs of BAR0 that can be written: `rw`; the others are read only. -/
def isLo0 (rw : Bool) (off : Nat) : Bool :=
  let ring := decide (0x1000 ≤ off) && decide (off < 0x1800) && decide (off % 0x40 = 0)
  let rg := decide (0x6400 ≤ off) && decide (off < 0x6C00) && [0x08, 0x50, 0x60].contains (off % 0x100)
  if rw then ring || rg || [0x800, 0x5020, 0x502C, 0xA00C, 0xB010, 0xB018].contains off
  else [0x2044, 0x2054, 0x2064, 0x2074, 0x701C, 0x7030, 0x7038, 0x9814, 0x9820, 0x9828, 0xB020].contains off

def isLo2 (rw : Bool) (off : Nat) : Bool := if rw then [0x830, 0x848].contains off else [0x808, 0x81C].contains off

def isLoRw (bar2 : Bool) (off : Nat) : Bool := if bar2 then isLo2 true off else isLo0 true off
def isLo (bar2 : Bool) (off : Nat) : Bool := isLoRw bar2 off || (if bar2 then isLo2 false off else isLo0 false off)

/-- What a read returns: a _HI register returns the agent's shadow, live while it has not read the _LO register (R675). -/
def rdValue (a : Agent) (bar2 : Bool) (off : Nat) (s : State) : Word :=
  if 4 ≤ off ∧ isLo bar2 (off - 4) then (pairGet (a, bar2, off - 4) s.shadow).getD (rdLive a bar2 off s)
  else rdLive a bar2 off s

/-- What a read does besides: addresses advance (02, 04, 06, 11), the alarm conditions are asked for (19), and a _LO read
fills the shadow (R675). -/
def rdEffect (a : Agent) (bar2 : Bool) (off : Nat) (s : State) : State :=
  if isLo bar2 off then
    { s with shadow := ((a, bar2, off), rdLive a bar2 (off + 4) s) :: pairDrop (a, bar2, off) s.shadow }
  else if bar2 then s
  else if off = 0x241C then (mapDataRead s).2
  else if off = 0x300C then firAdvance s
  else if off = 0x3014 then cpwrAdvance s
  else if off = 0x380C then tmAdvance s
  else if off = 0x9804 then (tmpStatusRead s).2
  else if 0x6400 ≤ off ∧ off < 0x6C00 ∧ off % 0x100 = 0x14 then (seqDataRead (Fin.ofNat 8 ((off - 0x6400) / 0x100)) s).2
  else s

/-- A read of a register by an agent. -/
def readReg (a : Agent) (bar2 : Bool) (off : Nat) (s : State) : Word × State := (rdValue a bar2 off s, rdEffect a bar2 off s)

/-! ### Writes, block by block -/

def wrHi (a : Agent) (off : Nat) (v : Word) (s : State) : State :=
  match off with
  | 0x400 => confirmWrite v s
  | 0x404 => hiStatusWrite v s
  | 0x408 => rxcfgWrite v s
  | 0x804 => let (lo, s) := takeLo a false 0x800 (loHalf s.ev.base.toNat) s; evBaseWrite (v ++ lo) s
  | 0x808 => evCfgWrite v s
  | 0x80C => evStatWrite v s
  | _ => s

def wrRing (a : Agent) (cq : Bool) (off : Nat) (v : Word) (s : State) : State :=
  let n := off / 0x40 % 16
  if off % 0x40 = 4 then
    if cq then let (lo, s) := takeLo a false (off - 4) (loHalf (cqAt s n).base.toNat) s; cqBaseWrite n (v ++ lo) s
    else let (lo, s) := takeLo a false (off - 4) (loHalf (sqAt s n).base.toNat) s; sqBaseWrite n (v ++ lo) s
  else if off % 0x40 = 8 then (if cq then cqCfgWrite n v s else sqCfgWrite n v s)
  else s

def wrMpt (off : Nat) (v : Word) (s : State) : State :=
  match off with
  | 0x0 => mptCtrlWrite v s
  | 0x4 => mptLockWrite v s
  | 0x20 => zcDlyWrite 0 v s
  | 0x24 => zcDlyWrite 1 v s
  | 0x28 => zcDlyWrite 2 v s
  | 0x30 => mptSnap v s
  | 0x90 => mptPrioWrite v s
  | _ => s

def wrQr (off : Nat) (v : Word) (s : State) : State :=
  match off with
  | 0x0 => qrCtrlWrite v s
  | 0x1C => mapDataWrite v s
  | 0x20 => qrGeomWrite 0 v s
  | 0x24 => qrGeomWrite 1 v s
  | 0x28 => mapSwapWrite v s
  | 0x2C => qrMapStatusWrite v s
  | 0x40 => qrPartWrite v s
  | 0x44 => qrPartnWrite 0 v s
  | 0x48 => qrPartnWrite 1 v s
  | 0x4C => qrPartnWrite 2 v s
  | 0x50 => qrPartnWrite 3 v s
  | _ => qrSmallWrite (0x2400 + off) v s

def wrAir (off : Nat) (v : Word) (s : State) : State :=
  let b : Fin 4 := Fin.ofNat 4 (off / 4)
  if off = 0x0 then airCtrlWrite v s
  else if off = 0x4 then airStatusWrite v s
  else if 0x10 ≤ off ∧ off < 0x20 then airBudgetWrite .rate b v s
  else if 0x20 ≤ off ∧ off < 0x30 then airBudgetWrite .window b v s
  else if 0x30 ≤ off ∧ off < 0x40 then airBudgetWrite .bres b v s
  else if 0x40 ≤ off ∧ off < 0x50 then updBand b.val (fun x => { x with hold := v &&& 0x3FFF }) s
  else if off = 0x80 then { s with air := { s.air with cdet := v &&& 0x03FF03FF } }
  else if off = 0x84 then { s with air := { s.air with cthr := v &&& 0x00FF00FF } }
  else if off = 0x88 then { s with air := { s.air with ctime := v &&& 0x0FFF0FFF } }
  else if off = 0x8C then { s with air := { s.air with cacc := v &&& 0x0FFF0FFF } }
  else s

def wrAfe (off : Nat) (v : Word) (s : State) : State :=
  match off with
  | 0x0 => afeCtrlWrite v s
  | 0x4 => afeStatusWrite v s
  | 0x8 => { s with afe := { s.afe with firAddr := v &&& 0x37F } }
  | 0xC => firDataWrite v s
  | 0x10 => { s with afe := { s.afe with cpwrAddr := v &&& 0x31F } }
  | 0x14 => cpwrDataWrite v s
  | _ => s

/-- The block of port p; a write of AFE_PCTRL by the host counts for the forced actions (18 R563). -/
def wrPort (a : Agent) (p : Port) (off : Nat) (v : Word) (s : State) : State :=
  match off with
  | 0x0 => if a = hostAgent s then pctrlHost p v s else pctrlWrite p v s
  | 0x4 => pstatWrite p v s
  | 0x8 => txLevelWrite p .gain v s
  | 0xC => txLevelWrite p .cal v s
  | 0x10 => txLevelWrite p .ceil v s
  | 0x14 => updPort p.val (fun x => { x with rxcal := v &&& 0x3FF }) s
  | 0x18 => updPort p.val (fun x => { x with txdly := v }) s
  | 0x1C => updPort p.val (fun x => { x with rxdly := v }) s
  | 0x20 => updPort p.val (fun x => { x with ldcfg := ldcfgNorm v }) s
  | _ => if 0x40 ≤ off ∧ off < 0x60 then notchWrite p (Fin.ofNat 8 ((off - 0x40) / 4)) v s else s

def wrOfdRbm (off : Nat) (v : Word) (s : State) : State :=
  match off with
  | 0x3800 => ofdCtrlWrite v s
  | 0x3804 => ofdStatusWrite v s
  | 0x3808 => ofdAddrWrite v s
  | 0x380C => tmDataWrite v s
  | 0x3810 => tmValidWrite v s
  | 0x3814 => ofdBcastWrite v s
  | 0x4000 => rbmCtrlWrite v s
  | 0x4004 => rbmStatusWrite v s
  | 0x4008 => rbmFcWrite v s
  | 0x400C => rbmBcfgWrite v s
  | 0x4010 => rbmDcfgWrite v s
  | _ => s

def wrLt (c off : Nat) (v : Word) (s : State) : State :=
  match off with
  | 0x0 => ltCfgWrite v s
  | 0x4 => ltTimersWrite v s
  | 0x8 => ltRemoteWrite v s
  | 0xC => ltStatusWrite c v s
  | 0x10 => ltJoinWrite v s
  | 0x20 => ltCmdWrite c v s
  | _ =>
    if 0x40 ≤ off ∧ off < 0x80 then stageWrite c ((off - 0x40) / 4) v s
    else if 0x80 ≤ off ∧ off < 0x100 then ltApptWrite ((off - 0x80) / 4) v s
    else s

def wrSlp (off : Nat) (v : Word) (s : State) : State :=
  match off with
  | 0x0 => slpCfgWrite v s
  | 0x4 => slpLimWrite v s
  | 0x8 => slpCtrlWrite v s
  | 0xC => slpHeadWrite v s
  | 0x10 => { s with slp := { s.slp with budget := v &&& 0xFFFFF } }
  | _ => s

def wrTe (a : Agent) (off : Nat) (v : Word) (s : State) : State :=
  match off with
  | 0x0 => teCtrlWrite v s
  | 0x4 => teStatusWrite v s
  | 0x8 => teDiscWrite v s
  | 0xC => ppsCfgWrite v s
  | 0x10 => ppsinDlyWrite v s
  | 0x18 => utcWrite v s
  | 0x1C => leapCtrlWrite v s
  | 0x24 => leapAtHiWrite a v s
  | 0x28 => tcWrite v s
  | 0x30 => epochHiWrite a v s
  | 0x40 => rngCfgWrite v s
  | 0x44 => rngLimWrite v s
  | 0x48 => rngNowWrite v s
  | _ => s

def wrTe2 (a : Agent) (off : Nat) (v : Word) (s : State) : State :=
  match off with
  | 0x800 => teCaptureWrite v s
  | 0x834 => teSetSecHi a v s
  | 0x838 => teSetNs v s
  | 0x83C => teSetFrac v s
  | 0x840 => teApplyWrite v s
  | 0x84C => teFreqHiWrite a v s
  | 0x850 => teSlewWrite v s
  | _ => s

def wrRgc (off : Nat) (v : Word) (s : State) : State :=
  match off with
  | 0x0 => rgcCtrlWrite v s
  | 0x4 => rgcStatusWrite v s
  | 0x8 => incfgWrite v s
  | 0x10 => vdacWrite 0 v s
  | 0x14 => vdacWrite 1 v s
  | 0x100 => gofsWrite v s
  | 0x104 => kcfgWrite v s
  | 0x108 => kexpWrite v s
  | 0x10C => kdlyWrite v s
  | 0x110 => kmaxWrite v s
  | 0x120 => stcfgWrite v s
  | 0x124 => stdlyWrite v s
  | 0x128 => stlimWrite v s
  | _ => if 0x40 ≤ off ∧ off < 0x80 then patselWrite (Fin.ofNat 16 ((off - 0x40) / 4)) v s else s

def wrRg (a : Agent) (c : Fin 8) (off : Nat) (v : Word) (s : State) : State :=
  let k : Fin 2 := if off / 16 % 2 = 1 then 0 else 1
  match off with
  | 0x0 => rgCtrlWrite c v s
  | 0xC => ftwHiWrite a c v s
  | 0x10 => seqAddrWrite c v s
  | 0x14 => seqDataWrite c v s
  | 0x18 => rgLtcWrite c v s
  | 0x1C => rgLtcUbWrite c v s
  | 0x20 => cntldWrite c 0 v s
  | 0x24 => cntldWrite c 1 v s
  | 0x28 => cntldWrite c 2 v s
  | 0x2C => cntldWrite c 3 v s
  | 0x30 | 0x40 => maAngWrite c k v s
  | 0x34 | 0x44 => maQWrite c k v s
  | 0x38 | 0x48 => maCfgWrite c k v s
  | 0x54 | 0x64 => todSecHiWrite a c k v s
  | 0x58 | 0x68 => todNsWrite c k v s
  | _ =>
    if 0x80 ≤ off ∧ off < 0xC0 then tsetWrite c (Fin.ofNat 4 ((off - 0x80) / 16)) (Fin.ofNat 4 (off / 4 % 4)) v s else s

/-- CX; a write of CX_CORE by the host counts for the forced actions (18 R563). -/
def wrCx (a : Agent) (off : Nat) (v : Word) (s : State) : State :=
  match off with
  | 0x0 => cxCtrlWrite v s
  | 0x8 => if a = hostAgent s then cxCoreHost v s else cxCoreWrite v s
  | 0xC => cxLimLeafWrite v s
  | 0x10 => cxLimNetWrite v s
  | 0x18 => cxFaultWrite v s
  | 0x24 => slotSelect v s
  | _ => s

/-- CV (14 R458, R459): the Balton core owns channels 2 and 3. -/
def wrCv (a : Agent) (c off : Nat) (v : Word) (s : State) : State :=
  let b := decide (a = .balton) && !s.cln.hostmode
  match off with
  | 0x0 => cvCfg c b v s
  | 0x4 => cvParam c b .poly v s
  | 0x8 => cvParam c b .init v s
  | 0xC => cvParam c b .xorout v s
  | _ => s

/-- The BAR2 block of channel c (R465, R470, R471). -/
def wrCv2 (c : Nat) (be : BitVec 4) (off : Nat) (v : Word) (s : State) : State :=
  if off < 0x80 then cvData c be v s
  else if off = 0x84 then cvStateSet c v s
  else if off = 0x88 then cvCtl c v s
  else s

def wrSys (a : Agent) (off : Nat) (v : Word) (s : State) : State :=
  match off with
  | 0x7900 => cvStatusWrite v s
  | 0x8004 => lgStatusWrite v s
  | 0x8008 => lgReinitWrite v s
  | 0x800C => uresetWrite v s
  | 0x9004 => hwthrWrite v s
  | 0x9008 => thcfgWrite v s
  | 0x9010 => smbcfgWrite v s
  | 0x9014 => mssCtrlWrite v s
  | 0x9800 => tmpCtrlWrite v s
  | 0x9804 => tmpStatusWrite v s
  | 0x9808 => tmpLatchWrite v s
  | 0x980C => tmpCfgWrite v s
  | 0x9810 => tmpDebWrite v s
  | 0xA000 => pwrCtrlWrite v s
  | 0xA004 => pwrStatusWrite v s
  | 0xA008 => pwrCfgWrite v s
  | 0xA010 => wakeAtHiWrite a v s
  | 0xA014 => slpcfgWrite v s
  | 0xA018 => ldvWrite v s
  | 0xA040 => clkCfgWrite v s
  | _ => s

def wrPmx (a : Agent) (off : Nat) (v : Word) (s : State) : State :=
  match off with
  | 0x0 => pmxCtrlWrite v s
  | 0x4 => pmxStatusWrite v s
  | 0x14 => let (lo, s) := takeLo a false 0xB010 (pinsWord false s.pmx.gpioOut) s; gpioOutWrite true v (gpioOutWrite false lo s)
  | 0x1C => let (lo, s) := takeLo a false 0xB018 (pinsWord false s.pmx.gpioOe) s; gpioOeWrite true v (gpioOeWrite false lo s)
  | _ => if 0x80 ≤ off ∧ off < 0x140 then pinWrite ((off - 0x80) / 4) v s else s

def wrBell (off : Nat) (v : Word) (s : State) : State :=
  if 0xE000 ≤ off ∧ off < 0xE010 then msixWrite (off - 0xE000) v s
  else if off < 0xF000 then s
  else if off < 0xF080 then (if off % 8 = 0 then sqBell ((off - 0xF000) / 8) v s else s)
  else if off < 0xF100 then s
  else if off < 0xF180 then (if off % 8 = 0 then cqBell ((off - 0xF100) / 8) v s else s)
  else if off = 0xF200 then evBell v s
  else s

def wrBar0 (a : Agent) (off : Nat) (v : Word) (s : State) : State :=
  if off < 0x1000 then wrHi a off v s
  else if off < 0x1400 then wrRing a false off v s
  else if off < 0x1800 then wrRing a true off v s
  else if off < 0x2000 then s
  else if off < 0x2400 then wrMpt (off - 0x2000) v s
  else if off < 0x2800 then wrQr (off - 0x2400) v s
  else if off < 0x3000 then wrAir (off - 0x2800) v s
  else if off < 0x3100 then wrAfe (off - 0x3000) v s
  else if off < 0x3400 then wrPort a (Fin.ofNat 3 ((off - 0x3100) / 0x100)) (off % 0x100) v s
  else if off < 0x4800 then wrOfdRbm off v s
  else if off < 0x4900 then wrLt (ltCopyOf a) (off - 0x4800) v s
  else if off < 0x5000 then wrSlp (off - 0x4900) v s
  else if off < 0x6000 then wrTe a (off - 0x5000) v s
  else if off < 0x6400 then wrRgc (off - 0x6000) v s
  else if off < 0x6C00 then wrRg a (Fin.ofNat 8 ((off - 0x6400) / 0x100)) (off % 0x100) v s
  else if off < 0x7000 then s
  else if off < 0x7800 then wrCx a (off - 0x7000) v s
  else if off < 0x7900 then wrCv a ((off - 0x7800) / 0x20) (off % 0x20) v s
  else if off < 0xB000 then wrSys a off v s
  else if off < 0xE000 then wrPmx a (off - 0xB000) v s
  else wrBell off v s

def wrBar2 (a : Agent) (be : BitVec 4) (off : Nat) (v : Word) (s : State) : State :=
  if off < 0x400 then wrCv2 (4 + off / 0x100) be (off % 0x100) v s else wrTe2 a off v s

/-- A write with its byte enables: a CV data window takes any (14 R465); elsewhere one whose byte enables are not all set
is discarded and counted (15 R476). A _LO register of a read-write pair is held (R676). -/
def writeReg (a : Agent) (bar2 : Bool) (off : Nat) (be : BitVec 4) (v : Word) (s : State) : State :=
  let window := bar2 && decide (off < 0x400) && decide (off % 0x100 < 0x80)
  if bar2 && decide (a = .remote) then s
  else if be ≠ 0xF ∧ !window then { s with hi := { s.hi with badacc := inc32 s.hi.badacc } }
  else if off % 4 ≠ 0 then s
  else if isLoRw bar2 off then stageLo a bar2 off v s
  else if bar2 then wrBar2 a be off v s
  else wrBar0 a off v s

/-- An access by an agent: one by the agent that plays host wakes the device (20 R621). -/
def runAgent (a : Agent) (s : State) (f : State → State) : Out :=
  run s fun s => f (if a = hostAgent s then wakeBy 2 s else s)

/-- REGISTER_WRITE (R673, R677 to R682). -/
def execRegisterWrite (a : Agent) (bar2 : Bool) (off : BitVec 16) (be : BitVec 4) (v : Word) (s : State) : Out :=
  runAgent a s (writeReg a bar2 off.toNat be v)

/-- LO_READ_SHADOW (R675): a read of a register; of a _LO register, its _HI is latched for the agent. -/
def execLoReadShadow (a : Agent) (bar2 : Bool) (off : BitVec 16) (s : State) : Out :=
  runAgent a s fun s =>
    let (w, s) := readReg a bar2 off.toNat s
    { s with answer := some w }

/-- HI_WRITE_APPLY (R676): a write of the _HI register of a read-write pair applies both halves. -/
def execHiWriteApply (a : Agent) (bar2 : Bool) (off : BitVec 16) (v : Word) (s : State) : Out :=
  runAgent a s fun s => if 4 ≤ off.toNat ∧ isLoRw bar2 (off.toNat - 4) then writeReg a bar2 off.toNat 0xF v s else s

end Sys2Proof.Machine
end

