-- ==== Sys2Proof/Machine/Profile.lean ====
section
/-! DEFINITION. Zungo profiles (18 R577): in autonomous operation the Balton core applies the active profile at start-up, one
record a command. -/
namespace Sys2Proof.Machine

/-- The records of the active profile, when it verifies (18 R572, R573). -/
def activeProfile (s : State) : Option (List Byte) :=
  match (bootState s).profile with
  | none => none
  | some b =>
    let img := imgAt s (profileSlot b)
    if (bootState s).slotValid.getLsbD (profileSlot b) && (imgFault s 2 img).isNone then some ((imgBody img).drop 64) else none

/-- PROFILE_APPLY: with HOSTMODE = 1, the core is READY and no profile has been started since the last cold start. -/
def execProfileApply (s : State) : Out := run s fun s =>
  if s.cln.hostmode && mssUp s && s.mss.prof.isNone then
    match activeProfile s with
    | some bs => { s with mss := { s.mss with prof := some { bytes := bs, index := 0, waitDesc := none } } }
    | none => s
  else s

/-- The record due, with its content, when it is of a type and nothing is waited for. -/
def profileRecord (ty : Nat) (s : State) : Option (List Byte) :=
  match s.mss.prof with
  | some p =>
    if mssUp s && p.waitDesc.isNone && !p.bytes.isEmpty && decide (leAt p.bytes 0 1 = ty) then
      some ((p.bytes.drop 4).take (leAt p.bytes 2 2))
    else none
  | none => none

/-- The REFUSED bits of every block, and the state with all of them 0. -/
def anyRefused (s : State) : Bool :=
  s.qr.refused || s.air.refused || s.afe.refused || s.ofd.refused || s.rbm.refused || (stageAt s 0).refused || (stageAt s 1).refused ||
    s.te.refused || s.rg.refused || s.cv.refused || s.hi.refused || s.ev.refused || s.lg.refused || s.tmp.refused ||
    s.pwr.refused || s.pmx.refused

def noneRefused (s : State) : State :=
  updStage 0 (fun g => { g with refused := false }) <| updStage 1 (fun g => { g with refused := false }) { s with
    qr := { s.qr with refused := false }, air := { s.air with refused := false }
    afe := { s.afe with refused := false }, ofd := { s.ofd with refused := false }
    rbm := { s.rbm with refused := false }, te := { s.te with refused := false }
    rg := { s.rg with refused := false }, cv := { s.cv with refused := false }
    hi := { s.hi with refused := false }, ev := { s.ev with refused := false }
    lg := { s.lg with refused := false }, tmp := { s.tmp with refused := false }
    pwr := { s.pwr with refused := false }, pmx := { s.pmx with refused := false } }

/-- A write by the Balton core, and whether it is refused: whether it sets a REFUSED bit where none is set. -/
def baltonWrite (bar2 : Bool) (off : Nat) (v : Word) (s : State) : State := writeReg .balton bar2 off 0xF v s
def baltonRefused (bar2 : Bool) (off : Nat) (v : Word) (s : State) : Bool := anyRefused (baltonWrite bar2 off v (noneRefused s))

/-- PROFILE_WRITE: BAR, offset and value as the record has them. An offset beyond the BAR holds no register. -/
def execProfileWrite (bar : Bool) (off : BitVec 16) (v : Word) (s : State) : Out := run s fun s =>
  match profileRecord 1 s with
  | none => s
  | some r =>
    let o := leAt r 4 4
    if decide (leAt r 0 1 = 2) = bar ∧ o % 65536 = off.toNat ∧ leAt r 8 4 = v.toNat then
      let n := 4 + r.length
      if 65536 ≤ o then profileNext n s
      else if baltonRefused bar o v s then profileStop (baltonWrite bar o v s)
      else profileNext n (baltonWrite bar o v s)
    else s

/-- PROFILE_DATA: bytes that would leave the autonomous host region count as a refused write. -/
def execProfileData (addr : Word) (data : List Byte) (s : State) : Out := run s fun s =>
  match profileRecord 2 s with
  | none => s
  | some r =>
    if leAt r 0 4 = addr.toNat ∧ r.drop 4 = data then
      if regionOk s addr.toNat data.length then profileNext (4 + r.length) (hostWrite addr.toNat data s) else profileStop s
    else s

/-- PROFILE_DESC: the descriptor stands at ring 0's tail and its doorbell is rung; a ring that is not RUNNING, or is full,
is waited for. The record ends with the descriptor's completion (Post.lean). -/
def execProfileDesc (d : DescBytes) (s : State) : Out := run s fun s =>
  match profileRecord 3 s, s.mss.prof with
  | some r, some p =>
    let q := sqAt s 0
    let S := ringSize q.cfg
    let ahead := ringGap S q.read q.tail
    if leAt r 0 64 = d.toNat ∧ q.st = .running ∧ q.taken.length + ahead + 1 < S then
      let s := hostWrite (q.base.toNat + 64 * q.tail) (leBytes 64 d.toNat) s
      let s := { s with mss := { s.mss with prof := some { p with waitDesc := some (q.nextId + ahead) } } }
      sqBell 0 (BitVec.ofNat 32 ((q.tail + 1) % S)) s
    else s
  | _, _ => s

/-- PROFILE_CONFIRM: the strapped role is confirmed (21, step 10). -/
def execProfileConfirm (role : Bool) (s : State) : Out := run s fun s =>
  match profileRecord 4 s with
  | some r => if role = s.cln.role then profileNext (4 + r.length) (confirmWrite (at32 1 31 ||| at32 (ofBool role) 0) s) else s
  | none => s

/-- PROFILE_END. -/
def execProfileEnd (s : State) : Out := run s fun s =>
  match profileRecord 0 s with
  | some _ => profileEnd s
  | none => s

end Sys2Proof.Machine
end

