-- ==== Sys2Proof/Machine/LineRx.lean ====
section
/-! DEFINITION. The rows that receive a line frame (05 R179, 06 R219, 07 R239 to R242): each opens the frame and hands it to
its type, and REMOTE frames at a leaf act on its registers (05 R187, 08 R258, R275 to R277). -/
namespace Sys2Proof.Machine

/-! ### REMOTE at a leaf (05 R169, R187; 08 R275) -/

/-- A register that a lock of 23 Table 23.4 makes read-only now. -/
def regLocked (off : Nat) (s : State) : Bool :=
  (s.afe.lock && [0x3110, 0x3210, 0x3310].contains off) || (s.mss.lock && decide (off = 0x9004)) ||
    (s.pmx.lock && decide (0xB080 ≤ off) && decide (off < 0xB140)) ||
    (s.tmp.cfgLocked && (decide (off = 0x980C) || decide (off = 0x9810)))

/-- One word written by the head, and its STATUS (05 Table 05.8): 2 locked, 3 refused. -/
def remoteWriteWord (off : Nat) (v : Word) (s : State) : Nat × State :=
  let st := if regLocked off s then 2
    else if anyRefused (writeReg .remote false off 0xF v (noneRefused s)) then 3 else 0
  (st, writeReg .remote false off 0xF v s)

/-- The words in increasing order of address; the first STATUS that is not 0 is answered (DEDUCED, log entry 47). -/
def remoteWriteWords : Nat → Nat → List Byte → State → Nat × State
  | 0, _, _, s => (0, s)
  | n + 1, off, bs, s =>
    let (a, s) := remoteWriteWord off (BitVec.ofNat 32 (leAt bs 0 4)) s
    let (b, s) := remoteWriteWords n (off + 4) (bs.drop 4) s
    (if a ≠ 0 then a else b, s)

def remoteReadWords : Nat → Nat → State → List Byte × State
  | 0, _, s => ([], s)
  | n + 1, off, s =>
    let (w, s) := readReg .remote false off s
    let (bs, s) := remoteReadWords n (off + 4) s
    (leBytes 4 w.toNat ++ bs, s)

/-- STATUS and read data of one REMOTE: OP 3 is refused; COUNT outside 1 to 16, a misaligned OFFSET and words beyond BAR0 are
a bad offset (log entry 47). -/
def remoteAct (b : List Byte) (s : State) : Nat × List Byte × State :=
  let op := leAt b 0 1 % 4
  let n := leAt b 1 1
  let off := leAt b 6 4
  if op = 3 then (3, [], s)
  else if n = 0 ∨ 16 < n ∨ off % 4 ≠ 0 ∨ 65536 < off + 4 * n then (1, [], s)
  else if op = 0 then
    let (bs, s) := remoteReadWords n off s
    (0, bs, s)
  else
    let (st, s) := remoteWriteWords n off (b.drop 10) s
    (st, [], s)

/-- The data of a REMOTE matches COUNT x 4 (05 R186). -/
def remoteLenOk (b : List Byte) : Bool :=
  let op := leAt b 0 1 % 4
  decide (b.length = 10 + (if op = 1 ∨ op = 2 then 4 * leAt b 1 1 else 0))

/-- REMOTE_RESP goes to the head as the leaf's own frame (02 R65). -/
def sendRemoteResp (body : List Byte) (s : State) : State :=
  let f := txNew tyRemoteResp 0 body s
  contend f.id (submit f s)

def onRemote (o : Front) (s : State) : State :=
  if isHead s || !remoteLenOk o.body then s
  else
    let d := (o.h.seq - s.ltx.remE).toNat
    if d = 0 then
      let (st, data, s) := remoteAct o.body s
      let body := [BitVec.ofNat 8 (leAt o.body 0 1 % 4), BitVec.ofNat 8 st] ++ (o.body.drop 2).take 8 ++ data
      sendRemoteResp body { s with ltx := { s.ltx with remE := s.ltx.remE + 1, respCache := some (o.h.seq, body) } }
    else if 128 ≤ d then
      match s.ltx.respCache with
      | some (q, body) => if q = o.h.seq then sendRemoteResp body s else s
      | none => s
    else pushAck o s.ltx.remE 3 s

/-! ### REMOTE_RESP at the head (08 R277) -/

/-- The REMOTE that a REMOTE_RESP answers: sent, not on the line, with its OP, PSEQ and OFFSET (08 R273). -/
def answeredBy (o : Front) (s : State) : Option TxFrame :=
  s.line.q.find? fun f => decide (f.ty.toNat = tyRemote) && decide (f.dst = o.h.src) && everCommitted f &&
    !decide (f.st = .onLine) && !decide (f.st = .committed) &&
    decide (leAt f.body 0 1 = leAt o.body 0 1 % 4) && decide ((f.body.drop 2).take 8 = (o.body.drop 2).take 8)

/-- What the descriptor of a REMOTE completes with; a read's data go to its buffer. -/
def remoteDone (f : TxFrame) (data : List Byte) (s : State) : State :=
  let n := 4 * leAt f.body 1 1
  match f.desc with
  | none => s
  | some (r, id) =>
    match takenAt s r id with
    | none => s
    | some t =>
      if dOp t.bytes = 0x0020 then
        withDst r id (dAddr t.bytes) n (fun s => finish r id (resOk n) (hostWrite (dAddr t.bytes) data s)) s
      else finish r id (resOk n) s

def onRemoteResp (o : Front) (s : State) : State :=
  if isLeaf s then s
  else
    match answeredBy o s with
    | none => s
    | some f =>
      let st := leAt o.body 1 1
      let data := o.body.drop 10
      let want := if leAt f.body 0 1 = 0 ∧ st = 0 then 4 * leAt f.body 1 1 else 0
      if data.length ≠ want then s
      else
        let s := if st = 0 then s else
          raiseFor f.desc 0x0407 (match f.desc with
            | some d => d.1
            | none => 0xFF) [(0, 4, f.tag.toNat), (4, 2, f.dst.toNat), (6, 1, st), (8, 4, leAt f.body 6 4)] s
        let s := if f.posted then fenceDrop f.id false s
          else if st = 0 then remoteDone f data s
          else finishOpt f.desc (resBad (0x0A00 + st)) s
        endFrame f s

/-! ### The rows -/

/-- A second copy whose first is held is not decoded on its own (07 R241). -/
def pairHeld (f : RxFrame) (s : State) : Bool :=
  !f.ofdm && f.copy && s.rbm.held.any fun x => decide (x.1 = f.port.val)

/-- A frame that opens goes on to k when it satisfies `ok`; a frame that fails its checks has the effect of its failure;
one of another kind is no such command. -/
def rxRow (ok : Front → State → Bool) (k : Front → State → State) (f : RxFrame) (s : State) : State :=
  if pairHeld f s then s
  else
    match rxOpen f s with
    | (none, t) => if canHear f s then slpFolioUsed t else t
    | (some o, t) => if ok o t then k o t else s

/-- A frame for this device, of one type: the sleepy leaf's part (09 R290, R305), then the type's. -/
def rxTyped (ty : Nat) (k : Front → State → State) : RxFrame → State → State :=
  rxRow (fun o s => decide (o.h.ty = ty) && !mustRelay s o.h o.rt o.hops)
    fun o s => k o (slpFolioUsed (slpHeard o s))

/-- A frame for the next actor (05 R171). -/
def isRanging (o : Front) : Bool := decide (o.h.ty = tyRangeReq) || decide (o.h.ty = tyRangeResp)

/-- A ranging leg at a relay, which sends the next one itself (10 R344); at its end, what the type does. -/
def rxLeg (ty : Nat) (k : Front → State → State) : RxFrame → State → State :=
  rxRow (fun o _ => decide (o.h.ty = ty)) fun o s =>
    if mustRelay s o.h o.rt o.hops then onRangeLeg o true (noteGrant o (countOk o.f s)) else k o (slpFolioUsed (slpHeard o s))

/-- A leg at its leaf. -/
def onRangeReq (o : Front) (s : State) : State := if isLeaf s then onRangeLeg o false s else s
def rangeRespHead (o : Front) (s : State) : State := if isHead s then onRangeResp o s else s
def rangeResultLeaf (o : Front) (s : State) : State := if isLeaf s then onRangeResult o s else s
def joinReqHead (o : Front) (s : State) : State := if isHead s then onJoinReq o s else s

/-- What a frame of any type does. -/
def onFrame (o : Front) (s : State) : State :=
  if mustRelay s o.h o.rt o.hops then
    (if isRanging o then onRangeLeg o true (noteGrant o (countOk o.f s)) else onRelay o s)
  else
    let s := slpFolioUsed (slpHeard o s)
    match o.h.ty with
    | 0 => onBeacon o s
    | 1 => onRolemap o s
    | 2 => onData o s
    | 3 => onAck o s
    | 4 => joinReqHead o s
    | 5 => onJoinResp o s
    | 6 => onRangeReq o s
    | 7 => rangeRespHead o s
    | 8 => rangeResultLeaf o s
    | 9 => onWake o s
    | 10 => onRemote o s
    | 11 => onRemoteResp o s
    | _ => s

/-- FRAME_DISCARD (05 R179, 06 R219): a frame that fails a check. -/
def execFrameDiscard (f : RxFrame) (s : State) : Out := run s (rxRow (fun _ _ => false) (fun _ s => s) f)

/-- BEACON_RECEIVE (02 R77 to R86, 10 R340). -/
def execBeaconReceive (f : RxFrame) (s : State) : Out := run s (rxTyped tyBeacon onBeacon f)

/-- ROLEMAP_RECEIVE (05 R184). -/
def execRolemapReceive (f : RxFrame) (s : State) : Out := run s (rxTyped tyRolemap onRolemap f)

/-- DATA_RECEIVE (05 R169). -/
def execDataReceive (f : RxFrame) (s : State) : Out := run s (rxTyped tyData onData f)

/-- ACK_RECEIVE (08 R273 to R275). -/
def execAckReceive (f : RxFrame) (s : State) : Out := run s (rxTyped tyAck onAck f)

/-- JOIN_REQ_RECEIVE (08 R261). -/
def execJoinReqReceive (f : RxFrame) (s : State) : Out := run s (rxTyped tyJoinReq joinReqHead f)

/-- JOIN_RESP_RECEIVE (08 R263). -/
def execJoinRespReceive (f : RxFrame) (s : State) : Out := run s (rxTyped tyJoinResp onJoinResp f)

/-- RANGE_REQ_RECEIVE (10 R344). -/
def execRangeReqReceive (f : RxFrame) (s : State) : Out := run s (rxLeg tyRangeReq onRangeReq f)

/-- RANGE_RESP_RECEIVE (10 R344, R349). -/
def execRangeRespReceive (f : RxFrame) (s : State) : Out := run s (rxLeg tyRangeResp rangeRespHead f)

/-- RANGE_RESULT_RECEIVE (10 R350). -/
def execRangeResultReceive (f : RxFrame) (s : State) : Out := run s (rxTyped tyRangeResult rangeResultLeaf f)

/-- WAKE_RECEIVE (09 R303). -/
def execWakeReceive (f : RxFrame) (s : State) : Out := run s (rxTyped tyWake onWake f)

/-- REMOTE_RECEIVE (05 R187). -/
def execRemoteReceive (f : RxFrame) (s : State) : Out := run s (rxTyped tyRemote onRemote f)

/-- REMOTE_RESP_RECEIVE (08 R277). -/
def execRemoteRespReceive (f : RxFrame) (s : State) : Out := run s (rxTyped tyRemoteResp onRemoteResp f)

/-- RELAY_FRAME_RECEIVE (05 R171): any frame but a ranging leg. -/
def execRelayFrameReceive (f : RxFrame) (s : State) : Out := run s <|
  rxRow (fun o s => mustRelay s o.h o.rt o.hops && !isRanging o) onRelay f

/-- HC_PAIR_DECODE (07 R241): at the end of the second copy's folio, half a cycle behind the first, what both copies decode
to together. -/
def execHcPairDecode (f : RxFrame) (s : State) : Out := run s fun s =>
  let due := fun (x : Nat × Nat) => decide (x.1 = f.port.val) &&
    (!qrRunning s || (decide (x.2 + quireF s / 2 ≤ s.qr.folio) && decide (s.qr.folio ≤ x.2 + quireF s / 2 + 1)))
  if f.copy && s.rbm.held.any due then
    rxRow (fun _ _ => true) onFrame f { s with rbm := { s.rbm with held := s.rbm.held.filter fun x => decide (x.1 ≠ f.port.val) } }
  else s

end Sys2Proof.Machine
end

