-- ==== Sys2Proof/Machine/Clock.lean ====
section
/-! DEFINITION. One tick of the 400 MHz fabric clock (10 R323), which the block takes when no command waits (log entries
1 and 22): the angles, the time of day, the airtime refill, the generators' sample clocks and the always-on count advance. -/
namespace Sys2Proof.Machine

/-- A clock of `hz` has an edge between fabric ticks t and t + 1. -/
def edgeIn (hz t : Nat) : Bool := decide (hz * t / 400000000 < hz * (t + 1) / 400000000)

/-! ### Angles (01 R10, R21, R23) -/

def phaseTick (p : PhaseS) : PhaseS := { p with acc := p.acc + angleGain p, pull := p.pull - pullTick p }

def mptTick (s : State) : State :=
  { s with mpt := { s.mpt with
      ph := s.mpt.ph.map phaseTick
      refAcc := s.mpt.refAcc + angleGain (phAt s (refSource s)) } }

/-! ### Airtime (03 R103) -/

/-- One microsecond's refill of a band: into the beacon bucket until it is full, then into the main bucket. -/
def bandRefill (a : AirBand) : AirBand :=
  let x := fld a.rate 0 18 + a.frac
  let k := x / 65536
  let b := min k (fld a.bres 0 20 - a.beacon)
  { a with frac := x % 65536, beacon := a.beacon + b, main := max a.main (min (mainCap a : Int) (a.main + (k - b : Nat))) }

def airTick (s : State) : State :=
  if edgeIn 1000000 s.now then { s with air := { s.air with band := s.air.band.map bandRefill } } else s

/-! ### The time of day (10 R323, R324) -/

/-- What a tick adds, in 2^-48 ns: 2.5 ns at the rate in force. -/
def todInc (s : State) : Nat := (5 * (281474976710656 + teRate s) / 2).toNat

/-- What is left of the slew after a tick. -/
def slewTick (x : Int) : Int :=
  if (slewShare : Int) < x then x - slewShare else if x < -(slewShare : Int) then x + slewShare else x

/-- A tick of the time engine; a second that passes brings what R334 and its like name. -/
def teTick (s : State) : State :=
  let t := { setTod48 (tod48 s.te + todInc s) s.te with slew := slewTick s.te.slew }
  let passed := decide (t.sec ≠ s.te.sec)
  let s := { s with te := t }
  if passed then secondPassed s else s

/-! ### Generators (11 R360, R379): 297 MHz -/

/-- The oscillator of a RUNNING channel advances; its carry is a sample clock. -/
def chTick (c : Fin 8) (s : State) : State :=
  let h := chAt s c
  if h.st = .running ∧ (chMode h = 0 ∨ chMode h = 3) then
    let n := h.nco.toNat + ftwEff s h
    let s := updCh c (fun h => { h with nco := BitVec.ofNat 48 n }) s
    if 281474976710656 ≤ n ∧ chMode h = 0 then sampleClock c s else s
  else s

def rgTick (s : State) : State := if edgeIn 297000000 s.now then allCh.foldl (fun s c => chTick c s) s else s

/-! ### Limits of once per 160 ms while the scheduler is stopped (04 R137, 05 R188) -/

def onceTick (s : State) : State := if !qrRunning s && decide ((s.now + 1) % 64000000 = 0) then onceClear s else s

/-! ### The always-on domain (19 R583, R604) -/

/-- x^15 + x^14 + 1, one bit an AON tick. -/
def meshNext (w : BitVec 15) : BitVec 15 := (w <<< 1) ||| BitVec.ofNat 15 (ofBool (w.getLsbD 14 != w.getLsbD 13))

def aonTick (s : State) : State :=
  if s.life.aonUp && edgeIn 32768 s.now then
    { s with tmp := { s.tmp with aon := s.tmp.aon + 1, mesh := meshNext s.tmp.mesh } }
  else s

/-- One tick of everything that a clock drives. Nothing joins the queue. -/
def State.tick (s : State) : State :=
  let t := aonTick (if devUp s then onceTick (rgTick (airTick (teTick (mptTick s)))) else s)
  { t with now := s.now + 1, pending := s.pending }

end Sys2Proof.Machine
end

