-- ==== Sys2Proof/Machine/Dispatch.lean ====
section
/-! DEFINITION. The dispatch of commands: one arm per constructor of Instr, one meaning per arm. -/
namespace Sys2Proof.Machine

def exec (i : Instr) (s : State) : Host.Outcome State Fault Refusal :=
  match i with
  | .coldStart st env => Sys2Proof.Machine.execColdStart st env s
  | .recoveryImageReceive img => Sys2Proof.Machine.execRecoveryImageReceive img s
  | .hiConfirm v => Sys2Proof.Machine.execHiConfirm v s
  | .zcEdge n => Sys2Proof.Machine.execZcEdge n s
  | .phaseAngleWrap n m => Sys2Proof.Machine.execPhaseAngleWrap n m s
  | .mptLocked n => Sys2Proof.Machine.execMptLocked n s
  | .mptFlywheel n => Sys2Proof.Machine.execMptFlywheel n s
  | .acquireAbandon n => Sys2Proof.Machine.execAcquireAbandon n s
  | .mptFreqRange n freq => Sys2Proof.Machine.execMptFreqRange n freq s
  | .mptLost n => Sys2Proof.Machine.execMptLost n s
  | .lockRegain n angle => Sys2Proof.Machine.execLockRegain n angle s
  | .biasClr v => Sys2Proof.Machine.execBiasClr v s
  | .refModeChange v => Sys2Proof.Machine.execRefModeChange v s
  | .phaseDisable v => Sys2Proof.Machine.execPhaseDisable v s
  | .mptSnapCapture v => Sys2Proof.Machine.execMptSnapCapture v s
  | .qrRun v => Sys2Proof.Machine.execQrRun v s
  | .qrStopRequest v => Sys2Proof.Machine.execQrStopRequest v s
  | .ltCommitApply copy => Sys2Proof.Machine.execLtCommitApply copy s
  | .mapDataWrite r v => Sys2Proof.Machine.execMapDataWrite r v s
  | .mapSwapRequest v => Sys2Proof.Machine.execMapSwapRequest v s
  | .qrPartWrite n v => Sys2Proof.Machine.execQrPartWrite n v s
  | .airCtrlWrite v => Sys2Proof.Machine.execAirCtrlWrite v s
  | .airBudgetWrite r b v => Sys2Proof.Machine.execAirBudgetWrite r b v s
  | .frameCommit id => Sys2Proof.Machine.execFrameCommit id s
  | .frameDeadlineExpiry id => Sys2Proof.Machine.execFrameDeadlineExpiry id s
  | .cbandBusyDetect p => Sys2Proof.Machine.execCbandBusyDetect p s
  | .cbandAccessDelayEnd p => Sys2Proof.Machine.execCbandAccessDelayEnd p s
  | .cbandRunEnd p => Sys2Proof.Machine.execCbandRunEnd p s
  | .frameTxStart id => Sys2Proof.Machine.execFrameTxStart id s
  | .frameTxEnd id => Sys2Proof.Machine.execFrameTxEnd id s
  | .ldEnRaise p => Sys2Proof.Machine.execLdEnRaise p s
  | .ldEnFall p => Sys2Proof.Machine.execLdEnFall p s
  | .rxUnblank p => Sys2Proof.Machine.execRxUnblank p s
  | .ackSend p => Sys2Proof.Machine.execAckSend p s
  | .rxSaturation p => Sys2Proof.Machine.execRxSaturation p s
  | .txClip p count => Sys2Proof.Machine.execTxClip p count s
  | .driverFault p byCurrent => Sys2Proof.Machine.execDriverFault p byCurrent s
  | .faultAutoRetry p => Sys2Proof.Machine.execFaultAutoRetry p s
  | .faultClr p v => Sys2Proof.Machine.execFaultClr p v s
  | .portDisable p v => Sys2Proof.Machine.execPortDisable p v s
  | .portOff p => Sys2Proof.Machine.execPortOff p s
  | .portEnable p v => Sys2Proof.Machine.execPortEnable p v s
  | .portUp p => Sys2Proof.Machine.execPortUp p s
  | .firCoeffWrite v => Sys2Proof.Machine.execFirCoeffWrite v s
  | .firSelWrite p v => Sys2Proof.Machine.execFirSelWrite p v s
  | .firBankSwap p => Sys2Proof.Machine.execFirBankSwap p s
  | .notchWrite p ix v => Sys2Proof.Machine.execNotchWrite p ix v s
  | .txLevelWrite p r v => Sys2Proof.Machine.execTxLevelWrite p r v s
  | .afeLock v => Sys2Proof.Machine.execAfeLock v s
  | .frameDiscard f => Sys2Proof.Machine.execFrameDiscard f s
  | .beaconReceive f => Sys2Proof.Machine.execBeaconReceive f s
  | .rolemapReceive f => Sys2Proof.Machine.execRolemapReceive f s
  | .dataReceive f => Sys2Proof.Machine.execDataReceive f s
  | .ackReceive f => Sys2Proof.Machine.execAckReceive f s
  | .joinReqReceive f => Sys2Proof.Machine.execJoinReqReceive f s
  | .joinRespReceive f => Sys2Proof.Machine.execJoinRespReceive f s
  | .rangeReqReceive f => Sys2Proof.Machine.execRangeReqReceive f s
  | .rangeRespReceive f => Sys2Proof.Machine.execRangeRespReceive f s
  | .rangeResultReceive f => Sys2Proof.Machine.execRangeResultReceive f s
  | .wakeReceive f => Sys2Proof.Machine.execWakeReceive f s
  | .remoteReceive f => Sys2Proof.Machine.execRemoteReceive f s
  | .remoteRespReceive f => Sys2Proof.Machine.execRemoteRespReceive f s
  | .relayFrameReceive f => Sys2Proof.Machine.execRelayFrameReceive f s
  | .relayForward id => Sys2Proof.Machine.execRelayForward id s
  | .hcPairDecode f => Sys2Proof.Machine.execHcPairDecode f s
  | .responseTimeout id => Sys2Proof.Machine.execResponseTimeout id s
  | .ltRead copy v => Sys2Proof.Machine.execLtRead copy v s
  | .ltCommit copy v => Sys2Proof.Machine.execLtCommit copy v s
  | .tipinStart v => Sys2Proof.Machine.execTipinStart v s
  | .tipinTimeout leaf => Sys2Proof.Machine.execTipinTimeout leaf s
  | .entrySilent leaf => Sys2Proof.Machine.execEntrySilent leaf s
  | .entryGone leaf => Sys2Proof.Machine.execEntryGone leaf s
  | .listenWindowOpen k => Sys2Proof.Machine.execListenWindowOpen k s
  | .lingerEnd leaf => Sys2Proof.Machine.execLingerEnd leaf s
  | .teCapture v => Sys2Proof.Machine.execTeCapture v s
  | .teSetWrite r v => Sys2Proof.Machine.execTeSetWrite r v s
  | .applyImmediate v => Sys2Proof.Machine.execApplyImmediate v s
  | .applyAtNextSecond v => Sys2Proof.Machine.execApplyAtNextSecond v s
  | .applyCancel v => Sys2Proof.Machine.execApplyCancel v s
  | .teSlew v => Sys2Proof.Machine.execTeSlew v s
  | .teFreqWrite v => Sys2Proof.Machine.execTeFreqWrite v s
  | .teSrcSelect v => Sys2Proof.Machine.execTeSrcSelect v s
  | .ppsInEdge sub => Sys2Proof.Machine.execPpsInEdge sub s
  | .rangingStart p => Sys2Proof.Machine.execRangingStart p s
  | .teRngNow v => Sys2Proof.Machine.execTeRngNow v s
  | .rangeLegSend p => Sys2Proof.Machine.execRangeLegSend p s
  | .rangingTimeout p => Sys2Proof.Machine.execRangingTimeout p s
  | .leapArm v => Sys2Proof.Machine.execLeapArm v s
  | .rgArm c v => Sys2Proof.Machine.execRgArm c v s
  | .rgStart c => Sys2Proof.Machine.execRgStart c s
  | .rgStopRequest c v => Sys2Proof.Machine.execRgStopRequest c v s
  | .rgStop c => Sys2Proof.Machine.execRgStop c s
  | .seqStepWrite c v => Sys2Proof.Machine.execSeqStepWrite c v s
  | .timingSetWrite c t w v => Sys2Proof.Machine.execTimingSetWrite c t w v s
  | .rgStepStart c => Sys2Proof.Machine.execRgStepStart c s
  | .rgStepEnd c => Sys2Proof.Machine.execRgStepEnd c s
  | .rgInputEdge k rising => Sys2Proof.Machine.execRgInputEdge k rising s
  | .maCompareFire c k => Sys2Proof.Machine.execMaCompareFire c k s
  | .todCompareFire c k => Sys2Proof.Machine.execTodCompareFire c k s
  | .maCompareArm c k v => Sys2Proof.Machine.execMaCompareArm c k v s
  | .todCompareArm c k v => Sys2Proof.Machine.execTodCompareArm c k v s
  | .vdacFault m => Sys2Proof.Machine.execVdacFault m s
  | .vdacClear v => Sys2Proof.Machine.execVdacClear v s
  | .ltcFrameStart c => Sys2Proof.Machine.execLtcFrameStart c s
  | .ltcFrameDecode k frame rate at_ => Sys2Proof.Machine.execLtcFrameDecode k frame rate at_ s
  | .ltcLoss k => Sys2Proof.Machine.execLtcLoss k s
  | .telegramSend c => Sys2Proof.Machine.execTelegramSend c s
  | .gofsWrite v => Sys2Proof.Machine.execGofsWrite v s
  | .kettleEdge sub => Sys2Proof.Machine.execKettleEdge sub s
  | .kettleCfgWrite v => Sys2Proof.Machine.execKettleCfgWrite v s
  | .stitchCfgWrite v => Sys2Proof.Machine.execStitchCfgWrite v s
  | .stitchWordReceive w => Sys2Proof.Machine.execStitchWordReceive w s
  | .cxGcmEnc r d m => Sys2Proof.Machine.execCxGcmEnc r d m s
  | .cxGcmDec r d m => Sys2Proof.Machine.execCxGcmDec r d m s
  | .cxCcmEnc r d m => Sys2Proof.Machine.execCxCcmEnc r d m s
  | .cxCcmDec r d m => Sys2Proof.Machine.execCxCcmDec r d m s
  | .cipherJobDone core fault => Sys2Proof.Machine.execCipherJobDone core fault s
  | .cxKeyLoad r d m fault => Sys2Proof.Machine.execCxKeyLoad r d m fault s
  | .keyLoadDone slot fault => Sys2Proof.Machine.execKeyLoadDone slot fault s
  | .cxKeyUnload r d => Sys2Proof.Machine.execCxKeyUnload r d s
  | .keyUnloadDone slot => Sys2Proof.Machine.execKeyUnloadDone slot s
  | .cxRekey r d => Sys2Proof.Machine.execCxRekey r d s
  | .ticketUnwrap leaf => Sys2Proof.Machine.execTicketUnwrap leaf s
  | .faultHoldClear v => Sys2Proof.Machine.execFaultHoldClear v s
  | .coreReset v => Sys2Proof.Machine.execCoreReset v s
  | .coreSelfTestDone core pass => Sys2Proof.Machine.execCoreSelfTestDone core pass s
  | .coreDisable v => Sys2Proof.Machine.execCoreDisable v s
  | .slotSelect v => Sys2Proof.Machine.execSlotSelect v s
  | .cvCfgWrite c v => Sys2Proof.Machine.execCvCfgWrite c v s
  | .cvParamWrite c r v => Sys2Proof.Machine.execCvParamWrite c r v s
  | .cvDataWrite c be v => Sys2Proof.Machine.execCvDataWrite c be v s
  | .cvRestart c v => Sys2Proof.Machine.execCvRestart c v s
  | .cvStateWrite c v => Sys2Proof.Machine.execCvStateWrite c v s
  | .cvResultRead c r => Sys2Proof.Machine.execCvResultRead c r s
  | .ringEnable k n v => Sys2Proof.Machine.execRingEnable k n v s
  | .ringDisable k n v => Sys2Proof.Machine.execRingDisable k n v s
  | .sqDoorbell n v => Sys2Proof.Machine.execSqDoorbell n v s
  | .cqDoorbell m v => Sys2Proof.Machine.execCqDoorbell m v s
  | .nop r d => Sys2Proof.Machine.execNop r d s
  | .lineTx r d m => Sys2Proof.Machine.execLineTx r d m s
  | .rxPost r d => Sys2Proof.Machine.execRxPost r d s
  | .remoteRead r d => Sys2Proof.Machine.execRemoteRead r d s
  | .remoteWrite r d m => Sys2Proof.Machine.execRemoteWrite r d m s
  | .remoteFence r d => Sys2Proof.Machine.execRemoteFence r d s
  | .sigWrite r d m => Sys2Proof.Machine.execSigWrite r d m s
  | .sigWriteDone r => Sys2Proof.Machine.execSigWriteDone r s
  | .rgFlag r d => Sys2Proof.Machine.execRgFlag r d s
  | .rgRetune r d => Sys2Proof.Machine.execRgRetune r d s
  | .ledgerSnap r d => Sys2Proof.Machine.execLedgerSnap r d s
  | .mssRequest r d m => Sys2Proof.Machine.execMssRequest r d m s
  | .unknownOpcode r d => Sys2Proof.Machine.execUnknownOpcode r d s
  | .descriptorReadError r => Sys2Proof.Machine.execDescriptorReadError r s
  | .completionPost r => Sys2Proof.Machine.execCompletionPost r s
  | .cqDelayExpiry m => Sys2Proof.Machine.execCqDelayExpiry m s
  | .msixUnmask v => Sys2Proof.Machine.execMsixUnmask v s
  | .eventRingEnable v => Sys2Proof.Machine.execEventRingEnable v s
  | .eventRingDisable v => Sys2Proof.Machine.execEventRingDisable v s
  | .eventDoorbell v => Sys2Proof.Machine.execEventDoorbell v s
  | .ledgerReinit v => Sys2Proof.Machine.execLedgerReinit v s
  | .unitReset v => Sys2Proof.Machine.execUnitReset v s
  | .ledgerEccError c ix => Sys2Proof.Machine.execLedgerEccError c ix s
  | .readSensors sample => Sys2Proof.Machine.execReadSensors sample s
  | .smbusXfer a => Sys2Proof.Machine.execSmbusXfer a s
  | .smbSensorPoll ix a => Sys2Proof.Machine.execSmbSensorPoll ix a s
  | .smbusHostNotify addr data => Sys2Proof.Machine.execSmbusHostNotify addr data s
  | .smbAlert answers => Sys2Proof.Machine.execSmbAlert answers s
  | .sensorSample ix value => Sys2Proof.Machine.execSensorSample ix value s
  | .forcedActionRestore ix => Sys2Proof.Machine.execForcedActionRestore ix s
  | .hwTrip k => Sys2Proof.Machine.execHwTrip k s
  | .profileWrite bar off v => Sys2Proof.Machine.execProfileWrite bar off v s
  | .profileData addr data => Sys2Proof.Machine.execProfileData addr data s
  | .profileDesc d => Sys2Proof.Machine.execProfileDesc d s
  | .profileConfirm role => Sys2Proof.Machine.execProfileConfirm role s
  | .mssLock v => Sys2Proof.Machine.execMssLock v s
  | .tamperInputAlarm ix => Sys2Proof.Machine.execTamperInputAlarm ix s
  | .glitchAlarm k => Sys2Proof.Machine.execGlitchAlarm k s
  | .tamperUnlock v => Sys2Proof.Machine.execTamperUnlock v s
  | .tamperCfgLock v => Sys2Proof.Machine.execTamperCfgLock v s
  | .railOutOfRange ix high mv => Sys2Proof.Machine.execRailOutOfRange ix high mv s
  | .railInRange ix mv => Sys2Proof.Machine.execRailInRange ix mv s
  | .backupSwitch toBackup => Sys2Proof.Machine.execBackupSwitch toBackup s
  | .ldvCfgWrite v => Sys2Proof.Machine.execLdvCfgWrite v s
  | .ldvRegulationChange good => Sys2Proof.Machine.execLdvRegulationChange good s
  | .dormantRequest v => Sys2Proof.Machine.execDormantRequest v s
  | .clockLoss ix => Sys2Proof.Machine.execClockLoss ix s
  | .clockRestore ix => Sys2Proof.Machine.execClockRestore ix s
  | .pllUnlock ix => Sys2Proof.Machine.execPllUnlock ix s
  | .pllRelock ix => Sys2Proof.Machine.execPllRelock ix s
  | .pinFuncWrite ix v => Sys2Proof.Machine.execPinFuncWrite ix v s
  | .pmxLock v => Sys2Proof.Machine.execPmxLock v s
  | .tapInstructionLoad ir => Sys2Proof.Machine.execTapInstructionLoad ir s
  | .registerWrite a bar2 off be v => Sys2Proof.Machine.execRegisterWrite a bar2 off be v s
  | .loReadShadow a bar2 off => Sys2Proof.Machine.execLoReadShadow a bar2 off s
  | .hiWriteApply a bar2 off v => Sys2Proof.Machine.execHiWriteApply a bar2 off v s
  | .preambleDetection p ofdm => Sys2Proof.Machine.execPreambleDetection p ofdm s
  | .mptAcquiring n => Sys2Proof.Machine.execMptAcquiring n s
  | .porstAssert => Sys2Proof.Machine.execPorstAssert s
  | .linkUp => Sys2Proof.Machine.execLinkUp s
  | .mssReady => Sys2Proof.Machine.execMssReady s
  | .vddCoreLoss => Sys2Proof.Machine.execVddCoreLoss s
  | .aonPowerUp => Sys2Proof.Machine.execAonPowerUp s
  | .qrStart => Sys2Proof.Machine.execQrStart s
  | .quireBoundary => Sys2Proof.Machine.execQuireBoundary s
  | .folioBoundary => Sys2Proof.Machine.execFolioBoundary s
  | .folioMargin => Sys2Proof.Machine.execFolioMargin s
  | .quireRealign => Sys2Proof.Machine.execQuireRealign s
  | .seniorLoss => Sys2Proof.Machine.execSeniorLoss s
  | .tipinRetry => Sys2Proof.Machine.execTipinRetry s
  | .confirmTimeout => Sys2Proof.Machine.execConfirmTimeout s
  | .headLost => Sys2Proof.Machine.execHeadLost s
  | .headGone => Sys2Proof.Machine.execHeadGone s
  | .leafNoAnswer => Sys2Proof.Machine.execLeafNoAnswer s
  | .listenWindowClose => Sys2Proof.Machine.execListenWindowClose s
  | .resyncDue => Sys2Proof.Machine.execResyncDue s
  | .keepaliveDue => Sys2Proof.Machine.execKeepaliveDue s
  | .budgetPeriodStart => Sys2Proof.Machine.execBudgetPeriodStart s
  | .budgetReached => Sys2Proof.Machine.execBudgetReached s
  | .todRollover => Sys2Proof.Machine.execTodRollover s
  | .ppsWidthEnd => Sys2Proof.Machine.execPpsWidthEnd s
  | .slewDone => Sys2Proof.Machine.execSlewDone s
  | .ppsInLoss => Sys2Proof.Machine.execPpsInLoss s
  | .beaconSourceLoss => Sys2Proof.Machine.execBeaconSourceLoss s
  | .kettleDrive => Sys2Proof.Machine.execKettleDrive s
  | .stitchWordSend => Sys2Proof.Machine.execStitchWordSend s
  | .stitchLoss => Sys2Proof.Machine.execStitchLoss s
  | .rxHoldExpiry => Sys2Proof.Machine.execRxHoldExpiry s
  | .flr => Sys2Proof.Machine.execFlr s
  | .pePerstAssert => Sys2Proof.Machine.execPePerstAssert s
  | .hotReset => Sys2Proof.Machine.execHotReset s
  | .linkDown => Sys2Proof.Machine.execLinkDown s
  | .eventRecordWrite => Sys2Proof.Machine.execEventRecordWrite s
  | .eventNotifyDelay => Sys2Proof.Machine.execEventNotifyDelay s
  | .getInfo => Sys2Proof.Machine.execGetInfo s
  | .setThreshold => Sys2Proof.Machine.execSetThreshold s
  | .setMainscal => Sys2Proof.Machine.execSetMainscal s
  | .getReport => Sys2Proof.Machine.execGetReport s
  | .ackMismatch => Sys2Proof.Machine.execAckMismatch s
  | .restart => Sys2Proof.Machine.execRestart s
  | .logRead => Sys2Proof.Machine.execLogRead s
  | .updateBegin => Sys2Proof.Machine.execUpdateBegin s
  | .updateData => Sys2Proof.Machine.execUpdateData s
  | .updateCommit => Sys2Proof.Machine.execUpdateCommit s
  | .updateActivate => Sys2Proof.Machine.execUpdateActivate s
  | .updateAbort => Sys2Proof.Machine.execUpdateAbort s
  | .otpProfkey => Sys2Proof.Machine.execOtpProfkey s
  | .smbSensor => Sys2Proof.Machine.execSmbSensor s
  | .unitViewCompare => Sys2Proof.Machine.execUnitViewCompare s
  | .logWrite => Sys2Proof.Machine.execLogWrite s
  | .watchdogExpiry => Sys2Proof.Machine.execWatchdogExpiry s
  | .trialTimeout => Sys2Proof.Machine.execTrialTimeout s
  | .profileApply => Sys2Proof.Machine.execProfileApply s
  | .profileEnd => Sys2Proof.Machine.execProfileEnd s
  | .zeroisationDone => Sys2Proof.Machine.execZeroisationDone s
  | .sleepEntry => Sys2Proof.Machine.execSleepEntry s
  | .sleepWakeTimer => Sys2Proof.Machine.execSleepWakeTimer s
  | .pwrWakeInput => Sys2Proof.Machine.execPwrWakeInput s
  | .sleepExitDone => Sys2Proof.Machine.execSleepExitDone s
  | .holdoverEnter => Sys2Proof.Machine.execHoldoverEnter s
  | .holdoverExit => Sys2Proof.Machine.execHoldoverExit s
  | .dormantWake => Sys2Proof.Machine.execDormantWake s
  | .fabricRefSwitch => Sys2Proof.Machine.execFabricRefSwitch s
  | .tapReset => Sys2Proof.Machine.execTapReset s
  | .aonPowerLoss => Sys2Proof.Machine.execAonPowerLoss s

end Sys2Proof.Machine
end

