-- ==== Sys2Proof/Machine/Step.lean ====
section
/-! DEFINITION. The step of the block: the command at the front of its queue, or one tick of the fabric clock when none
waits. -/
namespace Sys2Proof.Machine

/-- The state with a word's command in front of its queue; unchanged where the word spells none. -/
def State.withFetchWord (s : State) (nbits w : Nat) : State :=
  match Sys2Proof.decodeTableWord nbits w with
  | some c => { s with pending := c :: s.pending }
  | none => s

/-- One step: the command at the front of the queue acts on the state with the rest of the queue; with no command the
fabric clock ticks (log entry 22). -/
def step (s : State) : Host.Outcome State Fault Refusal :=
  match s.pending with
  | [] => .next s.tick
  | c :: rest => Sys2Proof.Machine.exec c { s with pending := rest }

end Sys2Proof.Machine
end

