-- ==== Sys2Proof/Safety.lean ====
section
/-! DEFINITION. What counts as a safe run, in the terms the statements use: a command completes, a step goes on; what a
command leaves as it was; the invariant of the block. -/
namespace Sys2Proof.Machine

/-- The outcome is a next state. -/
def goesOn (o : Host.Outcome State Fault Refusal) : Prop := ∃ t, o = .next t

/-- The command answers a next state of which P holds. -/
def Completes (c : Instr) (s : State) (P : State → Prop) : Prop := ∃ t, exec c s = .next t ∧ P t

/-- `t` with every component of `s` but those of the event path: the event ring, its records in host memory, the message,
the ledgers, and the log with the rest of the management subsystem's memory (16, 17 R524, 18 R569). -/
def onEvents (s t : State) : State :=
  { s with ev := t.ev, msix := t.msix, lg := t.lg, mssx := t.mssx, hostMem := t.hostMem }

/-- The records of the event ring, 32 bytes each (16 R512). -/
def Ev.inRing (e : Ev) (a : Nat) : Prop := e.base.toNat ≤ a ∧ a < e.base.toNat + 32 * ringSize e.cfg

/-- A running ring's tail lies in it (16 R514). -/
def Ev.TailIn (e : Ev) : Prop := e.st = .running → e.tail < ringSize e.cfg

/-- The event ring stays where it is, and host memory outside its records reads as before. -/
structure RingOnly (e f : Ev) (m n : List Host.Cell) : Prop where
  base : f.base = e.base
  size : ringSize f.cfg = ringSize e.cfg
  tail : e.TailIn → f.TailIn
  mem : e.TailIn → ∀ a, ¬ e.inRing a → spGet 0 n a = spGet 0 m a

/-- The components of State that a command may change: each but the last is a field of State, and the queue is none of them. The last,
dma, is host memory outside the records of the event ring, with the ring's place and size. -/
inductive Part where
  | cln | life | mpt | qr | qrx | air | afe | line | ofd | rbm | lt | ltx | slp | slph | te | tex | rg | aln | cx | cv | hi
  | msix | ev | lg | mss | mssx | tmp | pwr | clk | pmx | shadow | staging | hostMem | answer | freeCtr | now | dma
  deriving DecidableEq, Repr

/-- The two states agree in a component. -/
def Part.agree (s t : State) : Part → Prop
  | .cln => t.cln = s.cln
  | .life => t.life = s.life
  | .mpt => t.mpt = s.mpt
  | .qr => t.qr = s.qr
  | .qrx => t.qrx = s.qrx
  | .air => t.air = s.air
  | .afe => t.afe = s.afe
  | .line => t.line = s.line
  | .ofd => t.ofd = s.ofd
  | .rbm => t.rbm = s.rbm
  | .lt => t.lt = s.lt
  | .ltx => t.ltx = s.ltx
  | .slp => t.slp = s.slp
  | .slph => t.slph = s.slph
  | .te => t.te = s.te
  | .tex => t.tex = s.tex
  | .rg => t.rg = s.rg
  | .aln => t.aln = s.aln
  | .cx => t.cx = s.cx
  | .cv => t.cv = s.cv
  | .hi => t.hi = s.hi
  | .msix => t.msix = s.msix
  | .ev => t.ev = s.ev
  | .lg => t.lg = s.lg
  | .mss => t.mss = s.mss
  | .mssx => t.mssx = s.mssx
  | .tmp => t.tmp = s.tmp
  | .pwr => t.pwr = s.pwr
  | .clk => t.clk = s.clk
  | .pmx => t.pmx = s.pmx
  | .shadow => t.shadow = s.shadow
  | .staging => t.staging = s.staging
  | .hostMem => t.hostMem = s.hostMem
  | .answer => t.answer = s.answer
  | .freeCtr => t.freeCtr = s.freeCtr
  | .now => t.now = s.now
  | .dma => RingOnly s.ev t.ev s.hostMem t.hostMem

/-- `t` is `s` in every component outside the list. -/
structure Same (l : List Part) (s t : State) : Prop where
  of ::
  agree : ∀ p, p ∉ l → p.agree s t

/-- What a record of the event log may change: the log, the interrupts and the ledgers of the event, the log pages, and host memory
(16 R514 to R519). -/
def eventParts : List Part := [.ev, .msix, .lg, .mssx, .hostMem]

/-! ### Descriptors -/

/-- The number the next descriptor of a ring gets stands for no descriptor that is still taken. -/
def idFresh (r : Fin 16) (s : State) : Bool := (sqAt s r.val).taken.all fun k => decide (k.id ≠ (sqAt s r.val).nextId)

/-- The number of the next descriptor of a ring. -/
def newId (r : Fin 16) (s : State) : Nat := (sqAt s r.val).nextId

/-- Descriptor d, with this opcode, is the next of ring r to be taken (15 R487, R488, R490), and passes the checks that no field of
the opcode takes part in (15 R481, R493). -/
def accepts (r : Fin 16) (d : DescBytes) (op : Nat) (s : State) : Bool :=
  isServed r.val s && fenceOk r.val d s && decide (dOp d = op) && (descCheck r.val d s).isNone && idFresh r s

/-- The result of a taken descriptor whose work has ended; its record is posted in ring order (15 R495). -/
def resultAt (s : State) (r : Fin 16) (id : Nat) : Option Result := (takenAt s r.val id).bind (·.result)

/-- The four job opcodes: decrypt, CCM (13 R422). -/
def cxOp (decrypt ccm : Bool) : Fin 16 → DescBytes → MemRead → Instr :=
  match decrypt, ccm with
  | false, false => .cxGcmEnc
  | true, false => .cxGcmDec
  | false, true => .cxCcmEnc
  | true, true => .cxCcmDec

/-- Their opcodes (15 Table 15.3). -/
def cxOpcode (decrypt ccm : Bool) : Nat := 0x40 + ofBool decrypt + 2 * ofBool ccm

/-- The host jobs that wait or run (13 R419). -/
def jobsOf (s : State) : List CxJob := s.cx.jobs ++ s.cx.core.toList.filterMap (·.job)

/-- Request m is at the front of the mailbox, has this command and at least n bytes of parameters, and is served: the core is READY,
and what follows it is not answered unknown (18 R555, R556). -/
def serving (cmd n : Nat) (m : Mail) (s : State) : Bool :=
  mssUp s && decide (s.mss.mail.head? = some m) && decide (mailCmd m = cmd) && decide (4 + n ≤ m.req.length) &&
    (s.mss.mail.drop 1).all (fun k => mailCmds.contains (mailCmd k))

/-- The descriptor of a request is outstanding, and its response may be written (15 R505). -/
def mailLive (m : Mail) (s : State) : Bool :=
  decide ((takenAt s m.ring m.desc).map (·.result) = some none) && !s.cln.hostmode

/-- The response to a request (18 R556). -/
def reply (m : Mail) (result : Nat) (data : List Byte) : List Byte := m.req.take 2 ++ [BitVec.ofNat 8 result, 0] ++ data

/-- The write count of the boot state has not run out (18 R551). -/
def bootCounts (s : State) : Bool := decide ((bootState s).count ≠ 0xFFFFFFFF)

/-- Request m is answered with n bytes: it leaves the mailbox and its descriptor is done. -/
abbrev Answered (m : Mail) (n : Nat) (s t : State) : Prop :=
  t.mss.mail = s.mss.mail.drop 1 ∧ (takenAt t m.ring m.desc).bind (·.result) = some (resOk n)

/-! ### What each command may change -/

/-- The components of State outside which a command changes nothing. Every command that may raise an event may change the
event parts. -/
def mayChange : Instr → List Part
  | .coldStart _ _ =>
    .dma :: .cln :: .life :: .mpt :: .qr :: .qrx :: .air :: .afe :: .line :: .ofd :: .rbm :: .lt :: .ltx :: .slp :: .slph ::
    .te :: .tex :: .rg :: .aln :: .cx :: .cv :: .hi :: .mss :: .tmp :: .pwr :: .clk :: .pmx :: .shadow :: .staging ::
    .answer :: .freeCtr :: .now :: eventParts
  | .recoveryImageReceive _ => [.mss]
  | .hiConfirm _ => .cln :: .slp :: .pwr :: eventParts
  | .zcEdge _ | .phaseAngleWrap _ _ => .mpt :: eventParts
  | .mptLocked _ | .mptFlywheel _ => .mpt :: .qr :: .qrx :: eventParts
  | .acquireAbandon _ => [.mpt]
  | .mptFreqRange _ _ | .mptLost _ | .lockRegain _ _ => .mpt :: .qr :: .qrx :: eventParts
  | .biasClr _ | .refModeChange _ | .phaseDisable _ => .mpt :: .qr :: .qrx :: .slp :: .pwr :: eventParts
  | .mptSnapCapture _ => [.mpt, .slp, .pwr]
  | .qrRun _ | .qrStopRequest _ => [.qr, .qrx, .slp, .pwr]
  | .ltCommitApply _ => .air :: .line :: .lt :: .ltx :: .slph :: .cx :: .hi :: eventParts
  | .mapDataWrite _ _ => .qr :: .qrx :: .slp :: .pwr :: eventParts
  | .mapSwapRequest _ => .qr :: .qrx :: .air :: .slp :: .pwr :: eventParts
  | .qrPartWrite _ _ => .qr :: .qrx :: .slp :: .pwr :: eventParts
  | .airCtrlWrite _ => .air :: .ofd :: .rbm :: .slp :: .pwr :: eventParts
  | .airBudgetWrite _ _ _ => .air :: .slp :: .pwr :: eventParts
  | .frameCommit _ =>
    .air :: .line :: .ofd :: .lt :: .ltx :: .slp :: .slph :: .tex :: .cx :: .hi :: .tmp :: .freeCtr :: eventParts
  | .frameDeadlineExpiry _ => .air :: .line :: .lt :: .ltx :: .hi :: eventParts
  | .cbandBusyDetect _ | .cbandAccessDelayEnd _ | .cbandRunEnd _ => [.air]
  | .frameTxStart _ => [.afe, .line, .slph]
  | .frameTxEnd _ => .air :: .afe :: .line :: .ltx :: .slph :: .hi :: eventParts
  | .ldEnRaise _ | .ldEnFall _ | .rxUnblank _ => [.afe]
  | .ackSend _ => .air :: .afe :: .line :: .lt :: .ltx :: .cx :: .hi :: .freeCtr :: eventParts
  | .rxSaturation _ | .txClip _ _ => .afe :: eventParts
  | .driverFault _ _ => .air :: .afe :: .line :: .lt :: .ltx :: .hi :: .freeCtr :: eventParts
  | .faultAutoRetry _ => .afe :: eventParts
  | .faultClr _ _ => .afe :: .slp :: .pwr :: eventParts
  | .portDisable _ _ => .air :: .afe :: .line :: .lt :: .ltx :: .slp :: .hi :: .pwr :: eventParts
  | .portOff _ => .air :: .afe :: .line :: .lt :: .ltx :: .hi :: eventParts
  | .portEnable _ _ => .air :: .afe :: .line :: .lt :: .ltx :: .slp :: .hi :: .pwr :: eventParts
  | .portUp _ => .air :: .afe :: .line :: .lt :: .ltx :: .hi :: .freeCtr :: eventParts
  | .firCoeffWrite _ => .afe :: .slp :: .pwr :: eventParts
  | .firSelWrite _ _ => .air :: .afe :: .line :: .lt :: .ltx :: .slp :: .hi :: .pwr :: eventParts
  | .firBankSwap _ => [.afe]
  | .notchWrite _ _ _ | .txLevelWrite _ _ _ => .afe :: .slp :: .pwr :: eventParts
  | .afeLock _ => [.afe, .slp, .pwr]
  | .frameDiscard _ =>
    .air :: .afe :: .line :: .ofd :: .rbm :: .lt :: .ltx :: .slp :: .cx :: .hi :: .freeCtr :: eventParts
  | .beaconReceive _ =>
    .mpt :: .qr :: .qrx :: .air :: .afe :: .line :: .ofd :: .rbm :: .lt :: .ltx :: .slp :: .slph :: .te :: .tex ::
    .rg :: .cx :: .hi :: .tmp :: .freeCtr :: eventParts
  | .rolemapReceive _ =>
    .qr :: .qrx :: .air :: .afe :: .line :: .ofd :: .rbm :: .lt :: .ltx :: .slp :: .slph :: .cx :: .hi :: .freeCtr ::
    eventParts
  | .dataReceive _ =>
    .dma :: .air :: .afe :: .line :: .ofd :: .rbm :: .lt :: .ltx :: .slp :: .slph :: .cx :: .hi :: .freeCtr :: eventParts
  | .ackReceive _ | .joinReqReceive _ | .joinRespReceive _ =>
    .air :: .afe :: .line :: .ofd :: .rbm :: .lt :: .ltx :: .slp :: .slph :: .cx :: .hi :: .freeCtr :: eventParts
  | .rangeReqReceive _ | .rangeRespReceive _ =>
    .air :: .afe :: .line :: .ofd :: .rbm :: .lt :: .ltx :: .slp :: .slph :: .tex :: .cx :: .hi :: .freeCtr ::
    eventParts
  | .rangeResultReceive _ =>
    .air :: .afe :: .line :: .ofd :: .rbm :: .lt :: .ltx :: .slp :: .slph :: .te :: .tex :: .rg :: .cx :: .hi ::
    .tmp :: .freeCtr :: eventParts
  | .wakeReceive _ =>
    .air :: .afe :: .line :: .ofd :: .rbm :: .lt :: .ltx :: .slp :: .slph :: .cx :: .hi :: .freeCtr :: eventParts
  | .remoteReceive _ =>
    .dma :: .cln :: .life :: .mpt :: .qr :: .qrx :: .air :: .afe :: .line :: .ofd :: .rbm :: .lt :: .ltx :: .slp :: .slph ::
    .te :: .tex :: .rg :: .aln :: .cx :: .cv :: .hi :: .mss :: .tmp :: .pwr :: .clk :: .pmx :: .shadow :: .staging ::
    .freeCtr :: eventParts
  | .remoteRespReceive _ =>
    .dma :: .air :: .afe :: .line :: .ofd :: .rbm :: .lt :: .ltx :: .slp :: .slph :: .cx :: .hi :: .freeCtr :: eventParts
  | .relayFrameReceive _ =>
    .air :: .afe :: .line :: .ofd :: .rbm :: .lt :: .ltx :: .slp :: .cx :: .hi :: .freeCtr :: eventParts
  | .relayForward _ => .air :: .line :: .ofd :: .ltx :: .hi :: .freeCtr :: eventParts
  | .hcPairDecode _ =>
    .dma :: .cln :: .life :: .mpt :: .qr :: .qrx :: .air :: .afe :: .line :: .ofd :: .rbm :: .lt :: .ltx :: .slp :: .slph ::
    .te :: .tex :: .rg :: .aln :: .cx :: .cv :: .hi :: .mss :: .tmp :: .pwr :: .clk :: .pmx :: .shadow :: .staging ::
    .freeCtr :: eventParts
  | .responseTimeout _ => .air :: .line :: .lt :: .ltx :: .slph :: .hi :: .freeCtr :: eventParts
  | .ltRead _ _ | .ltCommit _ _ => .lt :: .slp :: .pwr :: eventParts
  | .tipinStart _ => .line :: .lt :: .ltx :: .slp :: .tex :: .pwr :: .freeCtr :: eventParts
  | .tipinTimeout _ => .air :: .line :: .lt :: .ltx :: .hi :: eventParts
  | .entrySilent _ => .lt :: eventParts
  | .entryGone _ => .air :: .line :: .lt :: .ltx :: .hi :: eventParts
  | .listenWindowOpen _ => [.slp]
  | .lingerEnd _ => [.slp, .slph]
  | .teCapture _ => [.slp, .te, .pwr]
  | .teSetWrite _ _ => .slp :: .te :: .pwr :: .staging :: eventParts
  | .applyImmediate _ | .applyAtNextSecond _ | .applyCancel _ =>
    .slp :: .te :: .tex :: .rg :: .hi :: .tmp :: .pwr :: eventParts
  | .teSlew _ => .slp :: .te :: .pwr :: eventParts
  | .teFreqWrite _ => .slp :: .te :: .pwr :: .staging :: eventParts
  | .teSrcSelect _ => .slp :: .te :: .tex :: .pwr :: eventParts
  | .ppsInEdge _ => .te :: .tex :: .rg :: .hi :: .tmp :: .freeCtr :: eventParts
  | .rangingStart _ => .air :: .afe :: .line :: .tex :: .cx :: eventParts
  | .teRngNow _ => .slp :: .te :: .tex :: .pwr :: eventParts
  | .rangeLegSend _ => .air :: .afe :: .line :: .ltx :: .tex :: .cx :: eventParts
  | .rangingTimeout _ => .tex :: eventParts
  | .leapArm _ => .slp :: .te :: .pwr :: eventParts
  | .rgArm _ _ => .slp :: .rg :: .pwr :: eventParts
  | .rgStart _ => .rg :: .hi :: eventParts
  | .rgStopRequest _ _ => .slp :: .rg :: .pwr :: eventParts
  | .rgStop _ => .rg :: eventParts
  | .seqStepWrite _ _ | .timingSetWrite _ _ _ _ => .slp :: .rg :: .pwr :: eventParts
  | .rgStepStart _ => .rg :: .hi :: eventParts
  | .rgStepEnd _ => .rg :: eventParts
  | .rgInputEdge _ _ => [.rg, .pmx]
  | .maCompareFire _ _ | .todCompareFire _ _ => .rg :: .hi :: eventParts
  | .maCompareArm _ _ _ => .slp :: .rg :: .hi :: .pwr :: eventParts
  | .todCompareArm _ _ _ => .slp :: .rg :: .hi :: .pwr :: .staging :: eventParts
  | .vdacFault _ => .rg :: eventParts
  | .vdacClear _ => .slp :: .rg :: .pwr :: eventParts
  | .ltcFrameStart _ | .ltcFrameDecode _ _ _ _ | .ltcLoss _ => .rg :: eventParts
  | .telegramSend _ => [.rg]
  | .gofsWrite _ => .slp :: .rg :: .aln :: .hi :: .pwr :: .freeCtr :: eventParts
  | .kettleEdge _ => .rg :: .aln :: .hi :: eventParts
  | .kettleCfgWrite _ | .stitchCfgWrite _ => .slp :: .rg :: .aln :: .pwr :: .freeCtr :: eventParts
  | .stitchWordReceive _ => .rg :: .aln :: .hi :: .freeCtr :: eventParts
  | .cipherJobDone _ _ =>
    .dma :: .cx :: .hi :: .freeCtr :: eventParts
  | .cxGcmEnc _ _ _ | .cxGcmDec _ _ _ | .cxCcmEnc _ _ _ | .cxCcmDec _ _ _ | .cxKeyLoad _ _ _ _ => .cx :: .hi :: .freeCtr :: eventParts
  | .keyLoadDone _ _ => .cx :: .hi :: eventParts
  | .cxKeyUnload _ _ | .keyUnloadDone _ => [.cx, .hi, .lg]
  | .cxRekey _ _ => .air :: .line :: .lt :: .ltx :: .cx :: .hi :: .freeCtr :: eventParts
  | .ticketUnwrap _ => .air :: .line :: .lt :: .ltx :: .slp :: .tex :: .cx :: .hi :: .freeCtr :: eventParts
  | .faultHoldClear _ | .coreReset _ => .slp :: .cx :: .hi :: .pwr :: .freeCtr :: eventParts
  | .coreSelfTestDone _ _ => .cx :: .freeCtr :: eventParts
  | .coreDisable _ => .slp :: .cx :: .hi :: .pwr :: .freeCtr :: eventParts
  | .slotSelect _ => [.slp, .cx, .pwr, .freeCtr]
  | .cvCfgWrite _ _ | .cvParamWrite _ _ _ | .cvDataWrite _ _ _ | .cvRestart _ _ | .cvStateWrite _ _ => [.slp, .cv, .pwr]
  | .cvResultRead _ _ => [.slp, .pwr, .answer]
  | .ringEnable _ _ _ | .ringDisable _ _ _ | .sqDoorbell _ _ | .cqDoorbell _ _ => .slp :: .hi :: .pwr :: eventParts
  | .nop _ _ => [.hi, .lg]
  | .lineTx _ _ _ => .air :: .line :: .lt :: .ltx :: .hi :: .freeCtr :: eventParts
  | .rxPost _ _ =>
    .dma :: .hi :: .freeCtr :: eventParts
  | .remoteRead _ _ => .air :: .line :: .lt :: .ltx :: .hi :: eventParts
  | .remoteWrite _ _ _ => .air :: .line :: .lt :: .ltx :: .hi :: .freeCtr :: eventParts
  | .remoteFence _ _ => [.ltx, .hi, .lg]
  | .sigWrite _ _ _ => .rg :: .hi :: .freeCtr :: eventParts
  | .sigWriteDone _ => [.rg, .hi]
  | .rgFlag _ _ | .rgRetune _ _ => [.rg, .hi, .lg]
  | .ledgerSnap _ _ =>
    .dma :: .hi :: .freeCtr :: eventParts
  | .mssRequest _ _ _ =>
    .dma :: .hi :: .mss :: .freeCtr :: eventParts
  | .unknownOpcode _ _ => [.hi, .lg]
  | .descriptorReadError _ => .hi :: eventParts
  | .completionPost _ =>
    .dma :: .hi :: .mss :: .tmp :: .freeCtr :: eventParts
  | .cqDelayExpiry _ => .hi :: eventParts
  | .msixUnmask _ => [.slp, .msix, .pwr]
  | .eventRingEnable _ | .eventRingDisable _ =>
    .dma :: .line :: .slp :: .cx :: .pwr :: eventParts
  | .eventDoorbell _ | .ledgerReinit _ => .slp :: .pwr :: eventParts
  | .unitReset _ => .slp :: .rg :: .aln :: .cx :: .hi :: .mss :: .pwr :: .freeCtr :: eventParts
  | .ledgerEccError _ _ => .freeCtr :: eventParts
  | .readSensors _ =>
    .dma :: .air :: .afe :: .line :: .lt :: .ltx :: .cx :: .hi :: .mss :: .freeCtr :: eventParts
  | .smbusXfer _ =>
    .dma :: .hi :: .mss :: .freeCtr :: eventParts
  | .smbSensorPoll _ _ | .smbusHostNotify _ _ | .smbAlert _ => eventParts
  | .sensorSample _ _ => .air :: .afe :: .line :: .lt :: .ltx :: .cx :: .hi :: .freeCtr :: eventParts
  | .forcedActionRestore _ => .afe :: .cx :: .freeCtr :: eventParts
  | .hwTrip _ => .air :: .afe :: .line :: .lt :: .ltx :: .cx :: .hi :: .freeCtr :: eventParts
  | .profileWrite _ _ _ =>
    .dma :: .cln :: .life :: .mpt :: .qr :: .qrx :: .air :: .afe :: .line :: .ofd :: .rbm :: .lt :: .ltx :: .slp :: .te ::
    .tex :: .rg :: .aln :: .cx :: .cv :: .hi :: .mss :: .tmp :: .pwr :: .clk :: .pmx :: .staging :: .freeCtr ::
    eventParts
  | .profileData _ _ =>
    [.dma, .mss, .mssx, .hostMem, .freeCtr]
  | .profileDesc _ =>
    .dma :: .hi :: .mss :: eventParts
  | .profileConfirm _ => .cln :: .mss :: eventParts
  | .mssLock _ => [.slp, .mss, .pwr]
  | .tamperInputAlarm _ | .glitchAlarm _ =>
    .air :: .line :: .lt :: .ltx :: .slp :: .cx :: .hi :: .mss :: .tmp :: .pwr :: eventParts
  | .tamperUnlock _ | .tamperCfgLock _ => .slp :: .cx :: .tmp :: .pwr :: .freeCtr :: eventParts
  | .railOutOfRange _ _ _ | .railInRange _ _ => .rg :: .pwr :: .pmx :: eventParts
  | .backupSwitch _ => .tmp :: .pwr :: .freeCtr :: eventParts
  | .ldvCfgWrite _ => .air :: .afe :: .line :: .lt :: .ltx :: .slp :: .hi :: .pwr :: .freeCtr :: eventParts
  | .ldvRegulationChange _ => .air :: .afe :: .line :: .lt :: .ltx :: .hi :: .pwr :: .freeCtr :: eventParts
  | .dormantRequest _ =>
    .dma :: .life :: .air :: .afe :: .line :: .lt :: .ltx :: .slp :: .cx :: .hi :: .mss :: .tmp :: .pwr :: .clk :: .freeCtr ::
    eventParts
  | .clockLoss _ | .clockRestore _ => .te :: .tex :: .clk :: eventParts
  | .pllUnlock _ => .clk :: eventParts
  | .pllRelock _ => [.clk]
  | .pinFuncWrite _ _ => .slp :: .rg :: .pwr :: .pmx :: eventParts
  | .pmxLock _ => [.slp, .pwr, .pmx]
  | .tapInstructionLoad _ => [.pmx]
  | .registerWrite _ _ _ _ _ =>
    .dma :: .cln :: .life :: .mpt :: .qr :: .qrx :: .air :: .afe :: .line :: .ofd :: .rbm :: .lt :: .ltx :: .slp :: .te ::
    .tex :: .rg :: .aln :: .cx :: .cv :: .hi :: .mss :: .tmp :: .pwr :: .clk :: .pmx :: .staging :: .freeCtr ::
    eventParts
  | .loReadShadow _ _ _ => [.qr, .afe, .ofd, .slp, .rg, .tmp, .pwr, .shadow, .answer, .freeCtr]
  | .hiWriteApply _ _ _ _ =>
    .dma :: .cln :: .life :: .mpt :: .qr :: .qrx :: .air :: .afe :: .line :: .ofd :: .rbm :: .lt :: .ltx :: .slp :: .te ::
    .tex :: .rg :: .aln :: .cx :: .cv :: .hi :: .mss :: .tmp :: .pwr :: .clk :: .pmx :: .staging :: .freeCtr ::
    eventParts
  | .preambleDetection _ _ => [.afe]
  | .mptAcquiring _ => [.mpt]
  | .porstAssert => [.life, .cx, .lg, .tmp]
  | .linkUp => [.life]
  | .mssReady => .cln :: .life :: .cv :: .mss :: .freeCtr :: eventParts
  | .vddCoreLoss => [.life, .cx, .lg, .tmp]
  | .aonPowerUp => [.life, .tmp, .freeCtr]
  | .qrStart => .qr :: .qrx :: .air :: .line :: .rbm :: .ltx :: .slp :: .slph :: .cx :: .tmp :: .freeCtr :: eventParts
  | .quireBoundary =>
    .mpt :: .qr :: .qrx :: .air :: .afe :: .line :: .ofd :: .rbm :: .lt :: .ltx :: .slp :: .slph :: .tex :: .cx ::
    .hi :: .tmp :: .freeCtr :: eventParts
  | .folioBoundary => .qr :: .qrx :: .air :: .line :: .rbm :: .slp :: .slph :: .tmp :: .freeCtr :: eventParts
  | .folioMargin => .qr :: .qrx :: .air :: .afe :: .line :: .cx :: .freeCtr :: eventParts
  | .quireRealign =>
    .qr :: .qrx :: .air :: .line :: .rbm :: .ltx :: .slp :: .slph :: .cx :: .tmp :: .freeCtr :: eventParts
  | .seniorLoss => .qrx :: eventParts
  | .tipinRetry => [.line, .ltx, .freeCtr]
  | .confirmTimeout => .line :: .lt :: .ltx :: .slp :: .tex :: .freeCtr :: eventParts
  | .headLost => .lt :: eventParts
  | .headGone | .leafNoAnswer => .line :: .lt :: .ltx :: .slp :: .tex :: .freeCtr :: eventParts
  | .listenWindowClose => .ltx :: .slp :: eventParts
  | .resyncDue => [.slp]
  | .keepaliveDue => [.line, .freeCtr]
  | .budgetPeriodStart => [.slp]
  | .budgetReached => .slp :: eventParts
  | .todRollover => .te :: .tex :: .rg :: .hi :: .tmp :: eventParts
  | .ppsWidthEnd | .slewDone => [.te]
  | .ppsInLoss | .beaconSourceLoss => .te :: .tex :: eventParts
  | .kettleDrive | .stitchWordSend => [.aln]
  | .stitchLoss => .aln :: eventParts
  | .rxHoldExpiry => .hi :: eventParts
  | .flr =>
    .dma :: .cln :: .air :: .line :: .lt :: .ltx :: .rg :: .cx :: .cv :: .hi :: .mss :: .tmp :: .staging :: .freeCtr ::
    eventParts
  | .pePerstAssert | .hotReset | .linkDown =>
    .dma :: .cln :: .life :: .air :: .line :: .lt :: .ltx :: .rg :: .cx :: .cv :: .hi :: .mss :: .tmp :: .staging ::
    .freeCtr :: eventParts
  | .eventRecordWrite => eventParts
  | .eventNotifyDelay => [.msix, .ev]
  | .getInfo | .setThreshold | .setMainscal | .getReport | .ackMismatch | .restart | .logRead | .updateBegin
  | .updateData | .updateCommit | .updateActivate | .updateAbort | .otpProfkey | .smbSensor =>
    .dma :: .hi :: .mss :: .freeCtr :: eventParts
  | .unitViewCompare => eventParts
  | .logWrite => [.mssx]
  | .watchdogExpiry => .hi :: .mss :: eventParts
  | .trialTimeout => [.mss, .mssx]
  | .profileApply | .profileEnd => [.mss]
  | .zeroisationDone => .tmp :: .freeCtr :: eventParts
  | .sleepEntry => .air :: .afe :: .line :: .lt :: .ltx :: .slp :: .hi :: .pwr :: .clk :: eventParts
  | .sleepWakeTimer => [.slp, .pwr]
  | .pwrWakeInput => [.slp, .pwr, .pmx]
  | .sleepExitDone => .air :: .afe :: .line :: .lt :: .ltx :: .hi :: .pwr :: .clk :: .freeCtr :: eventParts
  | .holdoverEnter =>
    .air :: .afe :: .line :: .lt :: .ltx :: .slp :: .rg :: .hi :: .pwr :: .clk :: .freeCtr :: eventParts
  | .holdoverExit =>
    .air :: .afe :: .line :: .lt :: .ltx :: .te :: .tex :: .hi :: .pwr :: .clk :: .freeCtr :: eventParts
  | .dormantWake => [.pwr]
  | .fabricRefSwitch => [.clk]
  | .tapReset => [.pmx]
  | .aonPowerLoss => [.life, .cx, .lg, .tmp, .pwr]

/-! ### What every step keeps -/

/-- issued = returned + held, as far as the 32 bits of held show it (17 R528). -/
def Ledger.balanced (l : Ledger) : Prop := l.issued.setWidth 32 = l.returned.setWidth 32 + l.held

/-- The ledgers are listed by class and instance, each once (17 R539), and every ledger of a class whose storage has not
failed balances (17 R528, R533; the counts of a failed class are free values, log entry 27). -/
structure LedgersOk (g : Lg) : Prop where
  order : g.inst.Pairwise fun a b => lgBefore a.1 b.1 = true
  balance : ∀ e ∈ g.inst, 1 ≤ e.1.1 → e.1.1 ≤ 8 → g.fault.getLsbD (e.1.1 - 1) = false → e.2.balanced

/-- A role is confirmed only with straps that are valid and after MSS_READY (00 R6, 21 R643). -/
structure ConfirmOk (c : Cln) (l : Life) : Prop where
  straps : c.confirmed = true ∨ c.confirmPending = true → (c.role || !c.hostmode) = true
  ready : c.confirmed = true → l.mssReadySeen = true

/-- What every step keeps: host memory in its canonical form, the ledgers balanced, the confirmation in its order, the tail of the
event ring in the ring. -/
structure Sound (s : State) : Prop where
  mem : spWf 0 s.hostMem = true
  ledgers : LedgersOk s.lg
  confirm : ConfirmOk s.cln s.life
  ring : s.ev.TailIn

end Sys2Proof.Machine
end

