-- ==== Sys2Proof/WellFormed.lean ====
section
/-! DEFINITION. Which commands are well formed: the bit that makes a register write the command of its row is set, a
descriptor carries its row's opcode and as many bytes of data as it names, a frame is no longer than a line frame can
be, a register offset is a dword's. -/
namespace Sys2Proof

namespace WellFormed

def bitAt (w : Word) (i : Nat) : Bool := w.getLsbD i

/-- The opcode of a descriptor (15 R491). -/
def opIs (n : Nat) (d : DescBytes) : Bool := decide (d.toNat % 65536 = n)

/-- LENGTH and, for a cipher job, TLEN and AADLEN (15 R491, 13 Table 13.1). -/
def lenOf (d : DescBytes) : Nat := (d.toNat >>> 128) % 2 ^ 32
def tlenOf (d : DescBytes) : Nat := (d.toNat >>> 168) % 256
def aadOf (d : DescBytes) : Nat := (d.toNat >>> 256) % 2 ^ 32

/-- The opcodes of 15 Table 15.3. -/
def knownOpcode (d : DescBytes) : Bool :=
  [0x0000, 0x0010, 0x0011, 0x0020, 0x0021, 0x0022, 0x0030, 0x0031, 0x0032, 0x0040, 0x0041, 0x0042, 0x0043, 0x0044,
   0x0045, 0x0046, 0x0050, 0x0060].contains (d.toNat % 65536)

/-- A read that succeeds returns the bytes asked for. -/
def readFits (m : MemRead) (n : Nat) : Bool :=
  match m with
  | .data bs => decide (bs.length = n)
  | .err _ => true

/-- At most 12 + 8 + 8 + 512 + 16 + 4 bytes (05, how line frames are built). -/
def frameFits (f : RxFrame) : Bool := decide (f.bytes.length ≤ 560)

/-- A leaf number of a head, 0x001 to 0xFFE (08). -/
def realLeaf (l : BitVec 12) : Bool := decide (l ≠ 0) && decide (l ≠ 0xFFF)

end WellFormed

open WellFormed in
/-- The well-formed commands. -/
def wellFormed (i : Instr) : Bool :=
  match i with
  | .coldStart _ _ => true
  | .recoveryImageReceive _ => true
  | .hiConfirm _ => true
  | .zcEdge _ => true
  | .phaseAngleWrap _ _ => true
  | .mptLocked _ => true
  | .mptFlywheel _ => true
  | .acquireAbandon _ => true
  | .mptFreqRange _ _ => true
  | .mptLost _ => true
  | .lockRegain _ _ => true
  | .biasClr v => bitAt v 17
  | .refModeChange _ => true
  | .phaseDisable _ => true
  | .mptSnapCapture v => bitAt v 0
  | .qrRun v => bitAt v 0
  | .qrStopRequest v => !bitAt v 0
  | .ltCommitApply _ => true
  | .mapDataWrite _ _ => true
  | .mapSwapRequest _ => true
  | .qrPartWrite _ _ => true
  | .airCtrlWrite _ => true
  | .airBudgetWrite _ _ _ => true
  | .frameCommit _ => true
  | .frameDeadlineExpiry _ => true
  | .cbandBusyDetect _ => true
  | .cbandAccessDelayEnd _ => true
  | .cbandRunEnd _ => true
  | .frameTxStart _ => true
  | .frameTxEnd _ => true
  | .ldEnRaise _ => true
  | .ldEnFall _ => true
  | .rxUnblank _ => true
  | .ackSend _ => true
  | .rxSaturation _ => true
  | .txClip _ count => decide (0 < count)
  | .driverFault _ _ => true
  | .faultAutoRetry _ => true
  | .faultClr _ v => bitAt v 31
  | .portDisable _ v => !bitAt v 0
  | .portOff _ => true
  | .portEnable _ v => bitAt v 0
  | .portUp _ => true
  | .firCoeffWrite _ => true
  | .firSelWrite _ _ => true
  | .firBankSwap _ => true
  | .notchWrite _ _ _ => true
  | .txLevelWrite _ _ _ => true
  | .afeLock v => bitAt v 0
  | .frameDiscard f => frameFits f
  | .beaconReceive f => frameFits f
  | .rolemapReceive f => frameFits f
  | .dataReceive f => frameFits f
  | .ackReceive f => frameFits f
  | .joinReqReceive f => frameFits f
  | .joinRespReceive f => frameFits f
  | .rangeReqReceive f => frameFits f
  | .rangeRespReceive f => frameFits f
  | .rangeResultReceive f => frameFits f
  | .wakeReceive f => frameFits f
  | .remoteReceive f => frameFits f
  | .remoteRespReceive f => frameFits f
  | .relayFrameReceive f => frameFits f
  | .relayForward _ => true
  | .hcPairDecode f => frameFits f
  | .responseTimeout _ => true
  | .ltRead _ v => !bitAt v 28
  | .ltCommit _ v => bitAt v 28
  | .tipinStart v => bitAt v 31
  | .tipinTimeout leaf => realLeaf leaf
  | .entrySilent leaf => realLeaf leaf
  | .entryGone leaf => realLeaf leaf
  | .listenWindowOpen _ => true
  | .lingerEnd _ => true
  | .teCapture v => bitAt v 0
  | .teSetWrite _ _ => true
  | .applyImmediate _ => true
  | .applyAtNextSecond _ => true
  | .applyCancel _ => true
  | .teSlew _ => true
  | .teFreqWrite _ => true
  | .teSrcSelect _ => true
  | .ppsInEdge _ => true
  | .rangingStart _ => true
  | .teRngNow _ => true
  | .rangeLegSend _ => true
  | .rangingTimeout _ => true
  | .leapArm _ => true
  | .rgArm _ v => bitAt v 31
  | .rgStart _ => true
  | .rgStopRequest _ v => !bitAt v 31
  | .rgStop _ => true
  | .seqStepWrite _ _ => true
  | .timingSetWrite _ _ _ _ => true
  | .rgStepStart _ => true
  | .rgStepEnd _ => true
  | .rgInputEdge _ _ => true
  | .maCompareFire _ _ => true
  | .todCompareFire _ _ => true
  | .maCompareArm _ _ _ => true
  | .todCompareArm _ _ _ => true
  | .vdacFault _ => true
  | .vdacClear _ => true
  | .ltcFrameStart _ => true
  | .ltcFrameDecode _ _ _ _ => true
  | .ltcLoss _ => true
  | .telegramSend _ => true
  | .gofsWrite _ => true
  | .kettleEdge _ => true
  | .kettleCfgWrite _ => true
  | .stitchCfgWrite _ => true
  | .stitchWordReceive _ => true
  | .cxGcmEnc _ d m => opIs 0x40 d && readFits m (lenOf d + aadOf d)
  | .cxGcmDec _ d m => opIs 0x41 d && readFits m (lenOf d + tlenOf d + aadOf d)
  | .cxCcmEnc _ d m => opIs 0x42 d && readFits m (lenOf d + aadOf d)
  | .cxCcmDec _ d m => opIs 0x43 d && readFits m (lenOf d + tlenOf d + aadOf d)
  | .cipherJobDone _ _ => true
  | .cxKeyLoad _ d m _ => opIs 0x44 d && readFits m (lenOf d)
  | .keyLoadDone _ _ => true
  | .cxKeyUnload _ d => opIs 0x45 d
  | .keyUnloadDone _ => true
  | .cxRekey _ d => opIs 0x46 d
  | .ticketUnwrap leaf => realLeaf leaf
  | .faultHoldClear v => bitAt v 31
  | .coreReset _ => true
  | .coreSelfTestDone _ _ => true
  | .coreDisable _ => true
  | .slotSelect _ => true
  | .cvCfgWrite _ _ => true
  | .cvParamWrite _ _ _ => true
  | .cvDataWrite _ _ _ => true
  | .cvRestart _ _ => true
  | .cvStateWrite _ _ => true
  | .cvResultRead _ _ => true
  | .ringEnable _ _ v => bitAt v 31
  | .ringDisable _ _ v => !bitAt v 31
  | .sqDoorbell _ _ => true
  | .cqDoorbell _ _ => true
  | .nop _ d => opIs 0 d
  | .lineTx _ d m => opIs 0x10 d && readFits m (lenOf d)
  | .rxPost _ d => opIs 0x11 d
  | .remoteRead _ d => opIs 0x20 d
  | .remoteWrite _ d m => opIs 0x21 d && readFits m (lenOf d)
  | .remoteFence _ d => opIs 0x22 d
  | .sigWrite _ d m => opIs 0x30 d && readFits m (lenOf d)
  | .sigWriteDone _ => true
  | .rgFlag _ d => opIs 0x31 d
  | .rgRetune _ d => opIs 0x32 d
  | .ledgerSnap _ d => opIs 0x50 d
  | .mssRequest _ d m => opIs 0x60 d && readFits m (lenOf d)
  | .unknownOpcode _ d => !knownOpcode d
  | .descriptorReadError _ => true
  | .completionPost _ => true
  | .cqDelayExpiry _ => true
  | .msixUnmask v => !bitAt v 0
  | .eventRingEnable v => bitAt v 31
  | .eventRingDisable v => !bitAt v 31
  | .eventDoorbell _ => true
  | .ledgerReinit v => bitAt v 31
  | .unitReset v => bitAt v 31
  | .ledgerEccError _ i => decide (i ≤ 0x1FFE)
  | .readSensors sample => decide (sample.length ≤ 64)
  | .smbusXfer _ => true
  | .smbSensorPoll _ _ => true
  | .smbusHostNotify _ _ => true
  | .smbAlert answers => decide (answers.length ≤ 32)
  | .sensorSample _ _ => true
  | .forcedActionRestore _ => true
  | .hwTrip _ => true
  | .profileWrite _ off _ => decide (off.toNat % 4 = 0)
  | .profileData _ data => decide (data.length ≤ 65536)
  | .profileDesc _ => true
  | .profileConfirm _ => true
  | .mssLock _ => true
  | .tamperInputAlarm _ => true
  | .glitchAlarm _ => true
  | .tamperUnlock _ => true
  | .tamperCfgLock _ => true
  | .railOutOfRange _ _ _ => true
  | .railInRange _ _ => true
  | .backupSwitch _ => true
  | .ldvCfgWrite _ => true
  | .ldvRegulationChange _ => true
  | .dormantRequest _ => true
  | .clockLoss _ => true
  | .clockRestore _ => true
  | .pllUnlock _ => true
  | .pllRelock _ => true
  | .pinFuncWrite _ _ => true
  | .pmxLock _ => true
  | .tapInstructionLoad _ => true
  | .registerWrite _ _ off _ _ => decide (off.toNat % 4 = 0)
  | .loReadShadow _ _ off => decide (off.toNat % 4 = 0)
  | .hiWriteApply _ _ off _ => decide (off.toNat % 4 = 0)
  | .preambleDetection _ _ => true
  | .mptAcquiring _ => true
  | .porstAssert => true
  | .linkUp => true
  | .mssReady => true
  | .vddCoreLoss => true
  | .aonPowerUp => true
  | .qrStart => true
  | .quireBoundary => true
  | .folioBoundary => true
  | .folioMargin => true
  | .quireRealign => true
  | .seniorLoss => true
  | .tipinRetry => true
  | .confirmTimeout => true
  | .headLost => true
  | .headGone => true
  | .leafNoAnswer => true
  | .listenWindowClose => true
  | .resyncDue => true
  | .keepaliveDue => true
  | .budgetPeriodStart => true
  | .budgetReached => true
  | .todRollover => true
  | .ppsWidthEnd => true
  | .slewDone => true
  | .ppsInLoss => true
  | .beaconSourceLoss => true
  | .kettleDrive => true
  | .stitchWordSend => true
  | .stitchLoss => true
  | .rxHoldExpiry => true
  | .flr => true
  | .pePerstAssert => true
  | .hotReset => true
  | .linkDown => true
  | .eventRecordWrite => true
  | .eventNotifyDelay => true
  | .getInfo => true
  | .setThreshold => true
  | .setMainscal => true
  | .getReport => true
  | .ackMismatch => true
  | .restart => true
  | .logRead => true
  | .updateBegin => true
  | .updateData => true
  | .updateCommit => true
  | .updateActivate => true
  | .updateAbort => true
  | .otpProfkey => true
  | .smbSensor => true
  | .unitViewCompare => true
  | .logWrite => true
  | .watchdogExpiry => true
  | .trialTimeout => true
  | .profileApply => true
  | .profileEnd => true
  | .zeroisationDone => true
  | .sleepEntry => true
  | .sleepWakeTimer => true
  | .pwrWakeInput => true
  | .sleepExitDone => true
  | .holdoverEnter => true
  | .holdoverExit => true
  | .dormantWake => true
  | .fabricRefSwitch => true
  | .tapReset => true
  | .aonPowerLoss => true

end Sys2Proof
end

