-- ==== Sys2Proof/Certificates/Slice0/Obligations.lean ====
section
/-! DEFINITION. The statements for the provers: the general ones, then those of each block.
Every statement of a command's result has as its conclusion that exec answers a next state (Completes) and what it holds. -/
open Sys2Proof Sys2Proof.Machine

/-- A step runs the command at the front of the queue on the state with the rest of the queue. -/
def Obligations.StepTakesFront : Prop :=
  ∀ (c : Instr) (rest : List Instr) (s : State), step { s with pending := c :: rest } = exec c { s with pending := rest }

/-- With nothing waiting the block idles for one tick of its clocks (the model's choice, log entry 22): the queue stays empty, the
always-on count moves by at most one, and the components that no clock drives stay as they were. -/
def Obligations.IdleTick : Prop := ∀ s : State, s.pending = [] → ∃ t, step s = .next t ∧ t.pending = [] ∧ t.now = s.now + 1 ∧
  (t.tmp.aon = s.tmp.aon ∨ t.tmp.aon = s.tmp.aon + 1) ∧
  Same (.mpt :: .air :: .afe :: .line :: .ofd :: .rbm :: .ltx :: .te :: .tex :: .rg :: .cx :: .hi :: .tmp :: .now :: eventParts) s t

/-- No command faults or is refused, and none touches the queue. The model's own choices in it: log entry 21. -/
def Obligations.EveryCommandAnswers : Prop := ∀ (c : Instr) (s : State), Completes c s fun t => t.pending = s.pending

/-- The frame of every command: outside the components that mayChange names for it, a command leaves the state as it was. Where the
list holds no dma, every byte of host memory outside the records of the event ring reads as before. -/
def Obligations.CommandFrame : Prop := ∀ (c : Instr) (s t : State), exec c s = .next t → Same (mayChange c) s t

/-- Memory, ledgers, confirmation and the event ring stay sound over every step: host memory sorted with no byte 0 listed; issued =
returned + held in every ledger whose class has not failed (17 R528; the counts of a failed class are the model's free values, log entry
27); a role is confirmed only with straps that 00 R6 allows; the tail of a running event ring lies in it. -/
def Obligations.SoundStep : Prop := ∀ s t : State, Sound s → step s = .next t → Sound t

/-- They hold at reset. The model's own choices in it: log entry 15. -/
def Obligations.SoundReset : Prop := Sound State.reset

/-- CONFIRMED (21 R644). -/
def Obligations.ConfirmedStays : Prop :=
  (∀ (s : State) (v : Word), s.cln.confirmed = true → bitAt v 31 = true → Completes (.hiConfirm v) s fun t => t.cln = s.cln) ∧
  (∀ (c : Instr) (s t : State), s.cln.confirmed = true → exec c s = .next t → t.cln.confirmed = false → ∃ a b, c = .coldStart a b)

/-- Writes that are ignored: MPT_PRIO with a phase named twice or phase 3 (01 R52); NOMINAL and QR_PART while RUN is 1 (02 R96). -/
def Obligations.IgnoredWrites : Prop := ∀ (s : State) (a : Agent) (v : Word),
  (fld v 0 2 = fld v 2 2 ∨ fld v 2 2 = fld v 4 2 ∨ fld v 0 2 = fld v 4 2 ∨ fld v 0 2 = 3 ∨ fld v 2 2 = 3 ∨ fld v 4 2 = 3 →
    Completes (.registerWrite a false 0x2090 0xF v) s fun t => t.mpt = s.mpt) ∧
  (s.qr.run = true → Completes (.registerWrite a false 0x2400 0xF v) s fun t => t.qr.nominal = s.qr.nominal) ∧
  (s.qr.run = true → Completes (.registerWrite a false 0x2440 0xF v) s fun t => t.qr = s.qr ∧ t.mpt = s.mpt) ∧
  (s.qr.run = true → Completes (.qrRun v) s fun t => t.qr.nominal = s.qr.nominal) ∧
  (s.qr.run = true → Completes (.qrStopRequest v) s fun t => t.qr.nominal = s.qr.nominal)

/-- What registers of every block read after reset (the Reset columns of the spec's register tables). -/
def Obligations.ResetValues : Prop := ∀ e ∈ ([(0x0408, 0x64), (0x0808, 0x106), (0x0810, 1), (0x2000, 0xF), (0x4804, 0x01001008),
    (0x4808, 0x04020204), (0x4900, 0x07D01433), (0x4904, 0x0FA01000), (0x4908, 0x400), (0x490C, 0x1002), (0x4910, 0x8CA0),
    (0x5000, 0x10), (0x5008, 0x00A3E824), (0x500C, 0x64), (0x5028, 1), (0x5040, 0x82000400), (0x5044, 0x7D0), (0x6104, 0x0400000A),
    (0x6108, 0x1DCD6500), (0x6110, 0x3E8), (0x6120, 0x2400), (0x6128, 0x03E80200), (0x7000, 0x110), (0x7004, 0x55), (0x7008, 0xF),
    (0x700C, 0x2420), (0x7010, 0x221C), (0x9000, 0x00200000), (0x9004, 0x007D0654), (0x9008, 0x7369), (0x9010, 0x80000002),
    (0x980C, 0x03330000), (0x9810, 0xA0A), (0xA008, 0x800A0001), (0xA014, 0x7D0), (0xA018, 0x0A000320)] : List (Nat × Word)),
  rdLive .host false e.1 State.reset = e.2

/-- A phase that changes state, and the others (01 Table 01.3, R18 to R20, R22 to R24). The model's own choices in it: log entries 29,
30. -/
def Obligations.PhaseStateChanges : Prop := ∀ (n : Phase) (s : State), devUp s = true →
  let p := phAt s n
  let becomes := fun (st : PhSt) (t : State) => ∀ m, (phAt t m).st = if m = n then st else (phAt s m).st
  (p.st = .unlocked → mptEn s n = true → p.inRange = true → p.noX = 0 →
    Completes (.mptAcquiring n) s (becomes .acquiring)) ∧
  (p.st = .acquiring → lossCycles s ≤ p.noX → Completes (.acquireAbandon n) s (becomes .unlocked)) ∧
  (p.st = .acquiring → p.tracked = false → p.inRange = true → mptEn s n = true → lockCycles s ≤ p.good →
    Completes (.mptLocked n) s (becomes .locked)) ∧
  (p.st = .locked → lossCycles s ≤ p.noX ∨ lossCycles s ≤ p.bad → Completes (.mptFlywheel n) s (becomes .flywheel)) ∧
  (p.st = .flywheel → fwLimit s ≤ p.fw → Completes (.mptLost n) s (becomes .unlocked)) ∧
  (∀ f, p.st = .locked → p.inRange = true → freqInRange f = false →
    Completes (.mptFreqRange n f) s (becomes .flywheel)) ∧
  (∀ f, p.st = .acquiring → p.inRange = true → freqInRange f = false →
    Completes (.mptFreqRange n f) s (becomes .unlocked)) ∧
  (∀ a, p.st = .flywheel → p.tracked = true → p.inRange = true → mptEn s n = true →
    Completes (.lockRegain n a) s (becomes .locked))

/-- Edges taken, blanked and spurious (01 R16, R17, R693), the counts at a wrap (R11) and the snapshot (R38). The model's own choices
in it: log entries 29, 30. -/
def Obligations.CyclesAndSnapshots : Prop := ∀ (n : Phase) (s : State), devUp s = true →
  let p := phAt s n
  let off := edgeOffset p
  (blanked p s.now = false → tracksPhase p.st = true → within off tenPercent = true → p.edge = none → 0 ≤ sAng off →
    Completes (.zcEdge n) s fun t => (phAt t n).edge = some off ∧ (phAt t n).edgeAt = some s.now) ∧
  (blanked p s.now = false → tracksPhase p.st = true → within off tenPercent = false → p.edge = none →
    p.edgeEarly = none → p.spurQuiet ≠ 0 →
    Completes (.zcEdge n) s fun t => phAt t n = { p with spur := p.spur + 1 }) ∧
  (blanked p s.now = true → Completes (.zcEdge n) s fun t => t.mpt = s.mpt) ∧
  (∀ m, p.step = none → Completes (.phaseAngleWrap ⟨n.val, by omega⟩ m) s fun t =>
    (phAt t n).cyc = p.cyc + 1 ∧ (phAt t n).acc = p.acc - cycle48) ∧
  (∀ m, pendStep s.mpt = none → Completes (.phaseAngleWrap 3 m) s fun t =>
    t.mpt.refCyc = s.mpt.refCyc + 1 ∧ t.mpt.refAcc = s.mpt.refAcc - cycle48) ∧
  (∀ v, bitAt v 0 = true → Completes (.mptSnapCapture v) s fun t => t.mpt.snapSeq = s.mpt.snapSeq + 1 ∧
    t.mpt.snap = { angle := #v[angleOf (phAt s 0).acc, angleOf (phAt s 1).acc, angleOf (phAt s 2).acc, refAngle s]
                   cyc := #v[(phAt s 0).cyc, (phAt s 1).cyc, (phAt s 2).cyc, refCycle s]
                   st := #v[(phAt s 0).st, (phAt s 1).st, (phAt s 2).st] })

/-- The writes of MPT_CTRL that clear the bias (01 R35), force the reference (R33, R48) and disable a phase (R49). The model's own
choices in it: log entry 30. -/
def Obligations.MptControl : Prop := ∀ (s : State) (v : Word), devUp s = true → usesLeafRef s = false →
  let old := s.mpt.ctrl
  let new := mptCtrlValue old v
  (mptCtrlValue old (v ||| 0x20000) = old → Completes (.biasClr v) s fun t =>
    t.mpt.stepBias = some (wrapSigned (-(sAng s.mpt.bias))) ∧ t.mpt.bias = s.mpt.bias) ∧
  (bitAt v 17 = false → (∀ n : Phase, bitAt old n.val = true → bitAt new n.val = true) → (old ^^^ new) &&& 0x3C0 ≠ 0 →
    fld new 8 2 = 1 → Completes (.refModeChange v) s fun t => t.mpt.refPhase = phaseOf (fld new 6 2)) ∧
  (∀ n : Phase, bitAt old n.val = true → bitAt new n.val = false →
    Completes (.phaseDisable v) s fun t => (phAt t n).st = .unlocked)

/-- The boundaries of folios and quires: the numbers they leave (02 R53, R54, R56, R90, R94). The model's own choices in it: log entry
58. -/
def Obligations.QuireBoundaries : Prop := ∀ s : State, devUp s = true →
  (qrRunning s = true → s.qr.folio + 1 < quireQ s * quireF s → Completes .folioBoundary s fun t =>
    t.qr = { s.qr with folio := s.qr.folio + 1, cycle := (s.qr.folio + 1) / quireF s }) ∧
  (qrRunning s = true → s.qr.folio + 1 = quireQ s * quireF s → isLeaf s = false → s.qrx.stopReq = false →
    s.qrx.seniorRealign = false → s.qrx.realignQ = none → Completes .quireBoundary s fun t =>
    t.qr.qnum = s.qr.qnum + 1 ∧ t.qr.folio = 0 ∧ t.qr.cycle = 0 ∧ t.qr.st = s.qr.st) ∧
  (s.qr.slipping = true → s.qrx.stopReq = false → Completes .quireRealign s fun t =>
    t.qr.qnum = s.qr.qnum + 1 ∧ t.qr.folio = 0 ∧ t.qr.st = .mains ∧ t.qr.slipping = false ∧ t.qr.slipQ = s.qr.qnum + 1) ∧
  (s.qr.st = .waiting → s.qr.run = true → refValid s = true → s.cln.confirmed = true → isLeaf s = false →
    follows s = false → Completes .qrStart s fun t =>
    t.qr.qnum = s.qr.qnumInit ∧ t.qr.folio = 0 ∧ t.qr.st = .mains ∧ t.qr.run = true) ∧
  (qrRunning s = true → s.qrx.marginDone = false → isLeaf s = false →
    (∀ p, p < 3 → roleNow s p ≠ rBeacon) → Completes .folioMargin s fun t => t.qr = s.qr ∧ t.line = s.line ∧ t.air = s.air) ∧
  (qrRunning s = true → s.qrx.marginDone = false → isLeaf s = false → follows s = false → s.qr.folio = 0 →
    ((List.range 3).any fun p => decide (roleNow s p = rBeacon)) = true → s.pwr.st ≠ .holdover → lineOpen s = true → s.rbm.bad = false →
    (groupSlot s).isSome = true → needRealign s = false →
    let up := ((List.range 3).filter fun p => decide (roleNow s p = rBeacon)).filter (portReady s)
    ticksToEnd s < ticksUs (airtimeOf s (.robust (bcfg s)) (frameBytes tyBeacon bcast false (beaconBody 0 (beaconTod 0 up s) s).length)) →
    Completes .folioMargin s fun t => t.qr = { s.qr with beaconSkip := inc32 s.qr.beaconSkip } ∧ t.line = s.line)

/-- Role maps, partitions and the scheduler's run bit (02 R68, R70, R72, R80, R86, R94, R95). -/
def Obligations.QuireControl : Prop := ∀ (s : State) (v : Word), devUp s = true →
  let a := s.qr.mapAddr
  (mapAddrOk a = true → mapBankNo a ≠ s.qr.active.val → s.qr.swapQ = none → mapBankNo a < 2 →
    Completes (.mapDataWrite .data v) s fun t =>
      (bankAt t (mapBankNo a)).roles = spPut 0 (96 * mapPhase a + mapWord a) (v &&& 0x77777777) (bankAt s (mapBankNo a)).roles) ∧
  (∀ g : Fin 2, g ≠ s.qr.active → s.qr.swapQ = none →
    Completes (.mapDataWrite (if g = 0 then .geom0 else .geom1) v) s fun t =>
      (bankAt t g.val).geom = v &&& 0x03FF031F ∧ t.qr.active = s.qr.active) ∧
  (Completes (.mapSwapRequest v) s fun t =>
    t.qr = if bankValid s (inactive s) = true ∧ 2 ≤ (v - s.qr.qnum).toNat ∧ (v - s.qr.qnum).toNat ≤ 2 ^ 31 then
      { s.qr with swapQ := some v, swapReg := v } else { s.qr with refused := true }) ∧
  (∀ n : Fin 4, Completes (.qrPartWrite n v) s fun t =>
    t.qr.swapQ = none ∧ t.qr.partPend = vupd s.qr.partPend n.val fun _ => v &&& 0x03FF03FF) ∧
  (s.qr.run = false → s.qr.st = .stopped → Completes (.qrRun v) s fun t =>
    t.qr = { s.qr with run := true, nominal := bitAt v 1, st := .waiting } ∧ t.qrx.stopReq = false) ∧
  (s.qr.run = true → s.qr.st = .mains ∨ s.qr.st = .flywheel → Completes (.qrStopRequest v) s fun t =>
    t.qr = { s.qr with run := false } ∧ t.qrx = { s.qrx with stopReq := true }) ∧
  (isHead s = true → follows s = true → s.qrx.seniorLost = false → orOne (fld s.qr.part 8 8) ≤ s.qrx.seniorMiss →
    Completes .seniorLoss s fun t => t.qrx = { s.qrx with seniorLost := true } ∧ t.qr = s.qr)

/-- Writes of the governor's registers, accepted and refused (03 R100, R104). The model's own choices in it: log entry 36. -/
def Obligations.AirRegisters : Prop := ∀ (s : State) (v : Word), devUp s = true →
  (airCtrlFault s v = none → Completes (.airCtrlWrite v) s fun t => t.air.ctrl = v &&& 0x71F03 ∧ t.air.band = s.air.band ∧
    t.air.refused = s.air.refused) ∧
  (∀ c, airCtrlFault s v = some c → Completes (.airCtrlWrite v) s fun t =>
    t.air = { s.air with refused := true, cause := BitVec.ofNat 3 c }) ∧
  (∀ r (b : Fin 4), budgetOk (airSetReg r v s.air.band[b]) = true → Completes (.airBudgetWrite r b v) s fun t =>
    let a := airSetReg r v s.air.band[b]
    bandAt t b = { a with beacon := min a.beacon (fld a.bres 0 20), main := min a.main (mainCap a : Int) } ∧
      ∀ k : Fin 4, k ≠ b → bandAt t k = bandAt s k) ∧
  (∀ r (b : Fin 4), budgetOk (airSetReg r v s.air.band[b]) = false → Completes (.airBudgetWrite r b v) s fun t =>
    t.air = { s.air with refused := true, cause := 5 })

/-- A frame is committed, expires, or an acknowledgement goes out (02 R59, 03 R107, R108, R113, 05 R182). The model's own choices in
it: log entries 49, 50. -/
def Obligations.FramesCommitted : Prop := ∀ s : State, devUp s = true →
  (∀ id f p i, frameAt s id = some f → s.tmp.locked = false → isHead s = true → f.ty.toNat = tyData → f.dst ≠ bcast →
    f.raw = none → f.deadline = none → f.posted = false → inFlight f = false → slMode s f.dst.toNat = 0 →
    eState (entryAt s f.dst.toNat) = stActive → fitsNone f s = false → s.rbm.bad = false → planFor f s = some p →
    (modeOf f s).1 = p.mode → effMode s p.mode = p.mode → pathOf f s = (none, f.dst) →
    inTurn s f p.ports = true → blockedBehind s f p = false → isPair p.mode = false →
    (∀ b ∈ bandsOf s p.mode, b ≠ 1 ∧ covers (bandAt s b) ((portList p.ports).length * p.air) = true) →
    cachedSlot s f.dst.toNat = some i → (slotAt s i).unload = none → (slotAt s i).fhold = false → anyCore s = true →
    (useRec s f.dst.toNat).exh = false →
    (useRec s f.dst.toNat).inv + 1 ≤ (keyLimits s (slotAt s i)).1 →
    (useRec s f.dst.toNat).blk + lineBlocks f.ty.toNat f.dst false f.body.length ≤ (keyLimits s (slotAt s i)).2 →
    bitAt s.cx.ctrl 8 = false ∨ (useRec s f.dst.toNat).warn = true ∨
      8 * ((useRec s f.dst.toNat).inv + 1) < 7 * (keyLimits s (slotAt s i)).1 ∧
      8 * ((useRec s f.dst.toNat).blk + lineBlocks f.ty.toNat f.dst false f.body.length) < 7 * (keyLimits s (slotAt s i)).2 →
    Completes (.frameCommit id) s fun t => ∃ g ∈ t.line.q, g.id = id ∧ g.st = .committed ∧ g.mode = p.mode ∧
      g.ports = p.ports ∧ g.start = p.start ∧ g.airtime = p.air ∧ g.attempts = f.attempts + 1) ∧
  (∀ id f d, frameAt s id = some f → f.deadline = some d → inFlight f = false → f.posted = false → f.desc = none →
    f.buffer = false → Completes (.frameDeadlineExpiry id) s fun t => t.line.q = s.line.q.filter fun g => g.id ≠ id) ∧
  (∀ (p : Port) a, s.line.acks.find? (fun a => decide (a.port = p)) = some a → ackPermitted s p.val = false →
    Completes (.ackSend p) s fun t => t = { s with line := { s.line with acks := s.line.acks.erase a } }) ∧
  (∀ (p : Port) a i, s.line.acks.find? (fun a => decide (a.port = p)) = some a → isHead s = true → lineOpen s = true →
    ackPermitted s p.val = true → portUsable s p.val = true → a.route = none →
    ticksUs (airtimeOf s a.rate (frameBytes tyAck a.dst false 4)) ≤ ticksToEnd s →
    (∀ b ∈ bandsOf s a.rate, 0 ≤ (bandAt s b).main) →
    cachedSlot s a.dst.toNat = some i → (slotAt s i).unload = none → (slotAt s i).fhold = false → anyCore s = true →
    (useRec s a.dst.toNat).exh = false →
    (useRec s a.dst.toNat).inv + 1 ≤ (keyLimits s (slotAt s i)).1 →
    (useRec s a.dst.toNat).blk + lineBlocks tyAck a.dst false 4 ≤ (keyLimits s (slotAt s i)).2 →
    bitAt s.cx.ctrl 8 = false ∨ (useRec s a.dst.toNat).warn = true ∨
      8 * ((useRec s a.dst.toNat).inv + 1) < 7 * (keyLimits s (slotAt s i)).1 ∧
      8 * ((useRec s a.dst.toNat).blk + lineBlocks tyAck a.dst false 4) < 7 * (keyLimits s (slotAt s i)).2 →
    Completes (.ackSend p) s fun t => t.line.acks = s.line.acks.erase a ∧
      ∃ g ∈ t.line.q, g.id = s.line.nextId ∧ g.ty.toNat = tyAck ∧ g.st = .onLine ∧ g.dst = a.dst ∧ g.start = s.now)

/-- Band C access (03 R117 to R119), and the first and last sample of a frame (04 R126 to R133, 03 R123). The model's own choices in
it: log entry 21. -/
def Obligations.BandCAndSamples : Prop := ∀ s : State, devUp s = true →
  (∀ p : Port, cAccess s p = true → (cportAt s p).st = .waiting → (cportAt s p).delay.isSome = true → (portX s p).blank = false →
    Completes (.cbandBusyDetect p) s fun t => cportAt t p = { cportAt s p with busyInDelay := true }) ∧
  (∀ p : Port, (cportAt s p).st = .waiting → (cportAt s p).delay.isSome = true →
    Completes (.cbandAccessDelayEnd p) s fun t =>
      cportAt t p = { cportAt s p with delay := none, busyInDelay := false, st := if (cportAt s p).busyInDelay then .off else .waiting }) ∧
  (∀ p : Port, (cportAt s p).st = .run → onLineAt s p = false →
    Completes (.cbandRunEnd p) s fun t => cportAt t p = { cportAt s p with st := .pause }) ∧
  (∀ id f, frameAt s id = some f → f.st = .committed → Completes (.frameTxStart id) s fun t =>
    (∃ g ∈ t.line.q, g.id = id ∧ g.st = .onLine ∧ g.start = s.now ∧ g.endAt = s.now + ticksUs f.airtime) ∧
    (∃ o, t.line.out = some o ∧ o.port = f.ports ∧ o.mode = f.mode ∧ o.bytes = f.built) ∧
    ∀ p : Port, f.ports.getLsbD p = true → (portS s p).st = .idle → (portS t p).st = .tx) ∧
  (∀ id f, frameAt s id = some f → f.st = .onLine → isPair f.mode = false → f.ackreq = true → f.ty.toNat = tyData →
    f.dst ≠ bcast → f.raw = none → f.orphan = false → Completes (.frameTxEnd id) s fun t =>
      (∃ g ∈ t.line.q, g.id = id ∧ g.st = .waiting ∧ g.cost = Vector.replicate 4 0) ∧
      ∀ p : Port, f.ports.getLsbD p = true → (portX t p).lastTxEnd = some s.now)

/-- The states of a line port (04 R131, R133, R134, R143, R145). The model's own choices in it: log entry 8. -/
def Obligations.LinePorts : Prop := ∀ (s : State) (p : Port), devUp s = true →
  let x := portS s p
  (portUsable s p = true → Completes (.ldEnRaise p) s fun t => (portS t p).st = .tx ∧ (portX t p).ldEn = true ∧ (portX t p).blank = true) ∧
  (onLineAt s p = false → Completes (.ldEnFall p) s fun t => (portX t p).ldEn = false ∧
    portS t p = { x with st := if x.st = .tx then .idle else x.st }) ∧
  ((portX s p).ldEn = false → Completes (.rxUnblank p) s fun t => portX t p = { portX s p with blank := false }) ∧
  (∀ ofdm, x.st = .idle → (portX s p).blank = false → rxEnabled s p ofdm = true →
    Completes (.preambleDetection p ofdm) s fun t => portS t p = { x with st := .rx } ∧ (portX t p).rxActive = some ofdm) ∧
  (x.st = .off → pEn x = true → s.pwr.st = .active → ldvBad s = false → Completes (.portUp p) s fun t =>
    portS t p = { x with st := .idle }) ∧
  ((portX s p).offPend = true → onLineAt s p = false → Completes (.portOff p) s fun t => (portS t p).st = .off ∧
    (portX t p).ldEn = false ∧ (portX t p).offPend = false ∧ ∀ f ∈ t.line.q, f.st = .onLine → f.ports.getLsbD p = false) ∧
  (∀ v, bitAt v 0 = false → x.st ≠ .off → pEn x = true → Completes (.portDisable p v) s fun t => pEn (portS t p) = false ∧
    (if onLineAt s p then (portS t p).st = x.st ∧ (portX t p).offPend = true else (portS t p).st = .off)) ∧
  (∀ v, bitAt v 0 = true → Completes (.portEnable p v) s fun t => (portS t p).pctrl = pctrlNorm v ∧ (portS t p).st = x.st ∧
    (portX t p).offPend = false)

/-- Driver faults and their end, saturation and clipping (04 R137, R139 to R142, R156). The model's own choices in it: log entry 37. -/
def Obligations.DriverFaults : Prop := ∀ (s : State) (p : Port), devUp s = true →
  let x := portS s p
  let recent := (portX s p).autoRet.filter fun t => decide (s.now < t + 4000000000)
  (∀ c, x.st ≠ .off → x.st ≠ .fault → Completes (.driverFault p c) s fun t =>
    portS t p = { x with st := .fault, cause := if c then 2 else 1 } ∧ (portX t p).ldEn = false) ∧
  (∀ c, x.st = .fault → Completes (.driverFault p c) s fun t => portS t p = { x with cause := x.cause ||| (if c then 2 else 1) }) ∧
  (x.st = .fault → bitAt x.pctrl 3 = true → recent.length < 3 → ldvBad s = false → Completes (.faultAutoRetry p) s fun t =>
    portS t p = { x with st := .idle, cause := 0 } ∧ (portX t p).autoRet = s.now :: recent) ∧
  (∀ v, bitAt v 31 = true → x.st = .fault → ldvBad s = false → Completes (.faultClr p v) s fun t =>
    portS t p = { x with st := .idle, cause := 0 } ∧ portX t p = portX s p) ∧
  (x.st ≠ .off → Completes (.rxSaturation p) s fun t => portS t p = { x with rxsat := inc32 x.rxsat, satOnce := true }) ∧
  (∀ n, x.st ≠ .off → 0 < n → Completes (.txClip p n) s fun t =>
    portS t p = { x with txclip := x.txclip + BitVec.ofNat 32 n, clipOnce := true })

/-- The FIR banks, the notches, the levels and the lock of the ceiling (04 R147, R148, R151, R155, R158). -/
def Obligations.AfeRegisters : Prop := ∀ (s : State) (p : Port) (v : Word), devUp s = true →
  let x := portS s p
  (fld s.afe.firAddr 8 2 = p.val → x.firAct.val ≠ fld s.afe.firAddr 6 1 → Completes (.firCoeffWrite v) s fun t =>
    (portX t p).fir = spPut 0 (firKey s) (v.setWidth 18) (portX s p).fir ∧ fld t.afe.firAddr 0 6 = (fld s.afe.firAddr 0 6 + 1) % 64) ∧
  (fld s.afe.firAddr 8 2 = p.val → x.firAct.val = fld s.afe.firAddr 6 1 → Completes (.firCoeffWrite v) s fun t =>
    t.afe.refused = true ∧ t.afe.cause = 3 ∧ t.afe.x = s.afe.x) ∧
  (bitAt v 0 = true → fld (pctrlNorm v) 4 1 ≠ x.firAct.val → Completes (.firSelWrite p v) s fun t =>
    (portS t p).firReq = some (if bitAt v 4 then 1 else 0) ∧ (portS t p).firAct = x.firAct) ∧
  (∀ b, x.firReq = some b → onLineAt s p = false → Completes (.firBankSwap p) s fun t =>
    portS t p = { x with firAct := b, firReq := none }) ∧
  (∀ i : Fin 8, notchOk v = true → Completes (.notchWrite p i v) s fun t =>
    portX t p = { portX s p with notch := (portX s p).notch.set i (v &&& 0xF7F7FFFF) }) ∧
  (∀ i : Fin 8, notchOk v = false → Completes (.notchWrite p i v) s fun t =>
    t.afe = { s.afe with refused := true, cause := 2, port := BitVec.ofNat 2 p.val }) ∧
  (levelOk { x with txgain := BitVec.ofNat 32 (min 192 (fld v 0 8)) } = true → Completes (.txLevelWrite p .gain v) s fun t =>
    portS t p = { x with txgain := BitVec.ofNat 32 (min 192 (fld v 0 8)) }) ∧
  (levelOk { x with txcal := v &&& 0x3FF } = false → Completes (.txLevelWrite p .cal v) s fun t =>
    t.afe = { s.afe with refused := true, cause := 1, port := BitVec.ofNat 2 p.val }) ∧
  (s.afe.lock = true → Completes (.txLevelWrite p .ceil v) s fun t =>
    t.afe = { s.afe with refused := true, cause := 4, port := BitVec.ofNat 2 p.val }) ∧
  Completes (.afeLock v) s fun t => t.afe = { s.afe with lock := s.afe.lock || bitAt v 0 }

/-- Beacons, role maps, data and acknowledgements received (02 R81, R83, 05 R169, R184, 08 R273). The model's own choices in it: log
entry 38. -/
def Obligations.FramesReceived : Prop := ∀ (f : RxFrame) (s : State) (o : Front), devUp s = true →
  let u := (rxOpen f s).2
  pairHeld f s = false → (rxOpen f s).1 = some o → mustRelay u o.h o.rt o.hops = false →
  (o.h.ty = tyBeacon → beaconUsable (parseBeacon o.body) = true → isLeaf s = true → (parseBeacon o.body).kind.toNat ≤ 1 →
    Completes (.beaconReceive f) s fun t => t.qrx.last = some (parseBeacon o.body) ∧ t.qr.qnum = (parseBeacon o.body).quire ∧
      t.qr.partNow = (parseBeacon o.body).part ∧ t.qr.swapQ = (parseBeacon o.body).qs ∧ t.ltx.headMiss = 0) ∧
  (o.h.ty = tyRolemap → isLeaf s = true → (parseSeg o.body).phase ≠ 3 → Completes (.rolemapReceive f) s fun t =>
    parseSeg o.body ∈ t.qrx.rmSegs ∨ ∃ b : Fin 2, bankDigest (bankAt t b.val) = (parseSeg o.body).digest) ∧
  (o.h.ty = tyData → isHead s = true → o.h.dst ≠ bcast → eState (entryAt u o.h.src.toNat) = stActive →
    o.h.seq = eDseqRx (entryAt u o.h.src.toNat) → 0 < o.h.len → bufFree u false = true → Completes (.dataReceive f) s fun t =>
      eDseqRx (entryAt t o.h.src.toNat) = o.h.seq + 1 ∧
      (wantsAck o = true → ∃ a ∈ t.line.acks, a.dst = o.h.src ∧ a.seq = o.h.seq ∧ a.status = 0 ∧ a.port = f.port)) ∧
  (∀ p ps, o.h.ty = tyData → isHead s = true → o.h.dst ≠ bcast → eState (entryAt u o.h.src.toNat) = stActive →
    o.h.seq = eDseqRx (entryAt u o.h.src.toNat) → 0 < o.h.len → bufFree u false = true → u.hi.rxWait = [] → u.hi.rxPosts = p :: ps →
    regionOk u p.addr (16 + o.body.length) = true → Completes (.dataReceive f) s fun t => t.hi.rxPosts = ps ∧
      t.hostMem = spPutBytes u.hostMem p.addr (rxHeader o u ++ o.body) ∧
      ((takenAt u p.ring p.desc).map (·.result) = some none →
        (takenAt t p.ring p.desc).bind (·.result) = some (resOk (16 + o.body.length)))) ∧
  (∀ g, o.h.ty = tyAck → leAt o.body 1 1 = 0 → g.ty.toNat = tyData → u.line.q.find? (fun x => decide (x.st = .waiting) &&
      decide (x.dst = o.h.src) && (decide (0 = 3) || decide (x.seq = some (o.body.getD 0 0)))) = some g →
    Completes (.ackReceive f) s fun t => (∀ x ∈ t.line.q, x.id ≠ g.id) ∧ t.line.cw = spPut 4 g.dst.toNat 4 s.line.cw)

/-- Tip-in, wake and remote frames received (08 R261 to R263, R275, R277, 09 R303, 05 R187). The model's own choices in it: log entries
34, 38, 47. -/
def Obligations.NetworkFramesReceived : Prop := ∀ (f : RxFrame) (s : State) (o : Front), devUp s = true →
  let u := (rxOpen f s).2
  pairHeld f s = false → (rxOpen f s).1 = some o → mustRelay u o.h o.rt o.hops = false →
  (∀ n, o.h.ty = tyJoinReq → isHead s = true → entryOfUid u (leAt o.body 0 6) = none → joinMode u = 2 → u.cx.kdk ≠ none →
    freeNumber u (leAt o.body 8 2 % 4096) = some n → Completes (.joinReqReceive f) s fun t =>
      eState (entryAt t n) = stTipping ∧ eUid (entryAt t n) = leAt o.body 0 6 ∧ ∃ x ∈ t.line.q, x.ty.toNat = tyJoinResp) ∧
  (∀ a b, o.h.ty = tyJoinResp → isLeaf s = true → leAt o.body 0 6 = u.ltx.uid.toNat → u.lt.jstate ≠ 0 → leAt o.body 8 1 = 0 →
    alreadyInstalled o u = false → pickSlot u [] = some a → pickSlot u [a] = some b → Completes (.joinRespReceive f) s fun t =>
      t.ltx.myNum = BitVec.ofNat 12 (leAt o.body 6 2) ∧ t.ltx.confirmWait = true ∧ t.lt.jstate = 1 ∧ t.cx.groupNow = some b) ∧
  (o.h.ty = tyWake → isLeaf s = true → slMode u 0 = 2 → u.slp.target = none → quireQ u * quireF u ≠ 0 →
    Completes (.wakeReceive f) s fun t => t.slp.target = some (BitVec.ofNat 32 ((folioNow u + leAt o.body 0 2) / (quireQ u * quireF u)),
      (folioNow u + leAt o.body 0 2) % (quireQ u * quireF u))) ∧
  (o.h.ty = tyRemote → isLeaf s = true → remoteLenOk o.body = true → o.h.seq = u.ltx.remE → leAt o.body 0 1 % 4 = 0 →
    Completes (.remoteReceive f) s fun t => t.ltx.remE = u.ltx.remE + 1 ∧ ∃ x ∈ t.line.q, x.ty.toNat = tyRemoteResp) ∧
  (∀ g, o.h.ty = tyRemoteResp → isHead s = true → answeredBy o u = some g → g.posted = false → leAt g.body 0 1 = 1 →
    o.body.length = 10 → Completes (.remoteRespReceive f) s fun t => ∀ x ∈ t.line.q, x.id ≠ g.id) ∧
  (∀ g r id k, o.h.ty = tyRemoteResp → isHead s = true → answeredBy o u = some g → g.posted = false → leAt g.body 0 1 = 0 →
    leAt o.body 1 1 = 0 → o.body.length = 10 + 4 * leAt g.body 1 1 → g.desc = some (r, id) → takenAt u r id = some k → k.result = none →
    dOp k.bytes = 0x20 → regionOk u (dAddr k.bytes) (4 * leAt g.body 1 1) = true → Completes (.remoteRespReceive f) s fun t =>
      t.hostMem = spPutBytes u.hostMem (dAddr k.bytes) (o.body.drop 10) ∧
      (takenAt t r id).bind (·.result) = some (resOk (4 * leAt g.body 1 1)))

/-- Legs and results of a ranging exchange received (10 R344, R349, R350). The model's own choices in it: log entry 41. -/
def Obligations.RangingReceived : Prop := ∀ (f : RxFrame) (s : State) (o : Front), devUp s = true →
  let u := (rxOpen f s).2
  pairHeld f s = false → (rxOpen f s).1 = some o → mustRelay u o.h o.rt o.hops = false →
  (o.h.ty = tyRangeReq → isLeaf s = true → legInFolio o (folioJ u) u = true → Completes (.rangeReqReceive f) s fun t =>
    ∃ e ∈ t.tex.exch, e.exch = o.body.getD 0 0 ∧ e.leg = (o.rt.map (·.idx)).getD 0 + 1 ∧ e.initiator = false ∧
      e.due = some (stamp256 (rxStamp f u) + 256 * e.p)) ∧
  (∀ e, o.h.ty = tyRangeResp → isHead s = true → u.tex.exch.find? (fun e => e.initiator && decide (e.exch = o.body.getD 0 0) &&
      decide (e.leaf = o.h.src)) = some e → legInFolio o e.folio u = true → Completes (.rangeRespReceive f) s fun t =>
      t.tex.rngOk = inc32 u.tex.rngOk ∧ e ∉ t.tex.exch ∧ ∃ x ∈ t.line.q, x.ty.toNat = tyRangeResult ∧ x.dst = e.leaf) ∧
  (∀ x t2 t3 m, o.h.ty = tyRangeResult → isLeaf s = true → u.tex.lastResp = some (x, t2, t3, m) → o.body.getD 0 0 = x →
    m = u.tex.stepMark → (u.tex.firstDone = false ∨ 3 ≤ u.tex.rejRun) → Completes (.rangeResultReceive f) s fun t =>
      t.te.ranged = true ∧ t.tex.firstDone = true ∧ t.tex.rejRun = 0)

/-- Discards, relayed frames, half-cycle pairs and the timers of waiting frames (05 R171, R179, 06 R219, 07 R241, 08 R268, R274, 15
R501). The model's own choices in it: log entries 46, 48. -/
def Obligations.RelaysAndTimers : Prop := ∀ s : State, devUp s = true →
  (∀ f, canHear f s = true → pairHeld f s = false → f.ofdm = true → fcValid f s = true → f.bytes.length < 12 →
    Completes (.frameDiscard f) s fun t => vget t.ofd.p f.port OfdPort.reset =
      { vget s.ofd.p f.port OfdPort.reset with hcsfail := inc32 (vget s.ofd.p f.port OfdPort.reset).hcsfail } ∧ t.line = s.line) ∧
  (∀ f o r, pairHeld f s = false → (rxOpen f s).1 = some o → mustRelay (rxOpen f s).2 o.h o.rt o.hops = true → isRanging o = false →
    o.rt = some r → bufFree s false = true → Completes (.relayFrameReceive f) s fun t =>
      ∃ x ∈ t.line.q, x.id = s.line.nextId ∧ x.raw = some f.bytes ∧ x.buffer = true ∧
        x.hop = nextActor { r with idx := r.idx + 1 } o.hops o.h.dst) ∧
  (∀ f, f.copy = true → s.rbm.held.any (fun x => decide (x.1 = f.port.val) &&
      (!qrRunning s || (decide (x.2 + quireF s / 2 ≤ s.qr.folio) && decide (s.qr.folio ≤ x.2 + quireF s / 2 + 1)))) = true →
    Completes (.hcPairDecode f) s fun t => t.rbm.held = s.rbm.held.filter fun x => x.1 ≠ f.port.val) ∧
  (∀ w ws, s.hi.rxWait = w :: ws → Completes .rxHoldExpiry s fun t => t.hi.rxWait = ws ∧ t.hi.rxdrop = inc32 s.hi.rxdrop) ∧
  (∀ id x, frameAt s id = some x → x.st = .waiting → s.tmp.locked = false → isHead s = true → x.attempts < retries s →
    Completes (.responseTimeout id) s fun t => ∃ y ∈ t.line.q, y.id = id ∧ y.st = .queued) ∧
  (∀ id x bs r, frameAt s id = some x → x.raw = some bs → x.route = some r → inFlight x = false → lineOpen s = true →
    let m := effMode s (relayMode x.hop bs.length s).1
    let ps := usePorts s m (relayMode x.hop bs.length s).2
    let l := airtimeOf s m bs.length
    fitsNominal s (quireF s) (geomBase (actGeom s)) l = true → ps ≠ 0 → qrRunning s = true → s.rbm.bad = false → isPair m = false →
    ((portList ps).all fun p => decide (roleNow s p = rContention)) = true → x.folio = some 0 →
    startOn s ps + ticksUs l ≤ s.now + ticksToEnd s → (x.hop = x.dst ∨ creditOf s x.hop.toNat ≠ 0) →
    (∀ b ∈ bandsOf s m, b ≠ 1 ∧ covers (bandAt s b) ((portList ps).length * l) = true) →
    blockedBehind s x { mode := m, ports := ps, air := l, start := startOn s ps, bytes := bs.length } = false →
    Completes (.relayForward id) s fun t => ∃ y ∈ t.line.q, y.id = id ∧ y.st = .committed ∧ y.ports = ps ∧
      y.built = relayRebuild bs (r.idx + 1) (grantNow s).1)

/-- The stage of the leaf table, its commits and the timers of entries (08 R252 to R257, R264, Table 08.5). The model's own choices in
it: log entry 44. -/
def Obligations.LeafTable : Prop := ∀ s : State, devUp s = true →
  (∀ c v, Completes (.ltRead c v) s fun t =>
    (stageAt t (copyNo c)).busy = false ∧
    (stageAt t (copyNo c)).words = (List.range 16).foldl (fun m w => spPut 0 w (entryWord (entryAt s (fld v 16 12)) w) m) []) ∧
  (∀ c v, bitAt v 28 = true →
    commitFault (copyNo c) (fld v 16 12) (commitWords (BitVec.ofNat 16 (fld v 0 16)) (stageAt s (copyNo c)).words (entryAt s (fld v 16 12))) s = none →
    Completes (.ltCommit c v) s fun t => (stageAt t (copyNo c)).busy = true ∧ t.lt.mem = s.lt.mem) ∧
  (∀ c v k, bitAt v 28 = true →
    commitFault (copyNo c) (fld v 16 12) (commitWords (BitVec.ofNat 16 (fld v 0 16)) (stageAt s (copyNo c)).words (entryAt s (fld v 16 12))) s = some k →
    Completes (.ltCommit c v) s fun t => (stageAt t (copyNo c)).refused = true ∧ (stageAt t (copyNo c)).cause = BitVec.ofNat 3 k ∧
      t.lt.mem = s.lt.mem) ∧
  (∀ c w, (stageAt s (copyNo c)).waiting = [w] → commitReady s w = true →
    eState (commitWords w.mask w.words (entryAt s w.index.toNat)) = stActive →
    Completes (.ltCommitApply c) s fun t => entryAt t w.index.toNat = commitWords w.mask w.words (entryAt s w.index.toNat) ∧
      (stageAt t (copyNo c)).busy = false ∧ (stageAt t (copyNo c)).waiting = []) ∧
  (∀ n : BitVec 12, isHead s = true → eState (entryAt s n.toNat) = stActive → tSilent s * timerScale s n.toNat ≤ quietOf s n.toNat →
    Completes (.entrySilent n) s fun t => eState (entryAt t n.toNat) = stSilent ∧ ∀ m, m ≠ n.toNat → entryAt t m = entryAt s m) ∧
  (∀ n : BitVec 12, isHead s = true → eState (entryAt s n.toNat) = stSilent → tGone s * timerScale s n.toNat ≤ quietOf s n.toNat →
    Completes (.entryGone n) s fun t => eState (entryAt t n.toNat) = stGone ∧
      ∀ f ∈ t.line.q, f.dst = n → f.raw = none → f.desc ≠ none → f.st = .onLine ∨ f.st = .waiting) ∧
  (∀ (n : BitVec 12) q b, isHead s = true → s.lt.tip.find? (fun t => decide (t.1 = n.toNat)) = some (n.toNat, q, b) →
    eState (entryAt s n.toNat) = stTipping → tTipWait s ≤ q → b = true → Completes (.tipinTimeout n) s fun t =>
      eState (entryAt t n.toNat) = stInvited ∧ ∀ x ∈ t.lt.tip, x.1 ≠ n.toNat)

/-- A leaf's own tip-in, its confirmation and the loss of its head (08 R259, R260, R263, R265, 13 R453). The model's own choices in it:
log entry 34. -/
def Obligations.TipIn : Prop := ∀ s : State, devUp s = true → isLeaf s = true →
  let again := fun (t : State) => t.lt.jstate = 1 ∧ t.ltx.confirmWait = false ∧ ∃ f ∈ t.line.q, f.ty.toNat = tyJoinReq ∧ f.folio ≠ none
  (∀ v, Completes (.tipinStart v) s fun t => again t ∧ t.lt.join = v &&& 0x3FFFF) ∧
  (s.lt.jstate = 1 → s.ltx.confirmWait = false → tTipWait s ≤ s.ltx.tipWait → Completes .tipinRetry s fun t =>
    t.ltx.tipWait = 0 ∧ ∃ f ∈ t.line.q, f.ty.toNat = tyJoinReq ∧ f.id = s.line.nextId) ∧
  (s.ltx.confirmWait = true → tTipWait s ≤ s.ltx.tipWait → Completes .confirmTimeout s again) ∧
  (s.lt.jstate = 2 → tSilent s ≤ s.ltx.headMiss → Completes .headLost s fun t => t.lt = { s.lt with jstate := 3 }) ∧
  (2 ≤ s.lt.jstate.toNat → tGone s ≤ s.ltx.headMiss → Completes .headGone s again) ∧
  (2 ≤ s.lt.jstate.toNat → tGone s ≤ s.ltx.noAnswer → Completes .leafNoAnswer s again)

/-- A sleepy leaf's windows, lingering, resync, keep-alives and wake budget (09 R296, R299, R303, R305, R308, R309, R313, R315). The
model's own choices in it: log entries 42, 57. -/
def Obligations.SleepyLeaf : Prop := ∀ s : State, devUp s = true →
  (sleepyLeaf s = true → tSilent s * slPer s 0 / 2 ≤ s.slp.kaQuires → keepQueued s = false → Completes .keepaliveDue s fun t =>
    ∃ f ∈ t.line.q, f.id = s.line.nextId ∧ f.ty.toNat = tyData ∧ f.body = [] ∧ f.ackreq = true) ∧
  (∀ k, sleepyLeaf s = true → s.pwr.st = .active → qrRunning s = true → s.slp.window = none → windowDue k s = true →
    Completes (.listenWindowOpen k) s fun t => t.slp.window = some k ∧ t.slp.awakeFrom = some (s.slp.awakeFrom.getD s.now)) ∧
  (∀ k, s.slp.window = some k → (∀ p, p < 3 → (portX s p).rxActive = none) → missKind k s = none →
    Completes .listenWindowClose s fun t => t.slp.window = none ∧ t.slp.missed = s.slp.missed) ∧
  (∀ k m, s.slp.window = some k → (∀ p, p < 3 → (portX s p).rxActive = none) → missKind k s = some m →
    Completes .listenWindowClose s fun t => t.slp.window = none ∧ t.slp.missed = (if s.slp.missed = 255 then 255 else s.slp.missed + 1) ∧
      (slpMiss s ≤ t.slp.missed.toNat → t.slp.search = true)) ∧
  (isLeaf s = true → s.slp.linger = some 0 → ∀ n, Completes (.lingerEnd n) s fun t => t.slp.linger = none) ∧
  (∀ n, isHead s = true → Completes (.lingerEnd n) s fun t =>
    t.slph.headLinger = s.slph.headLinger.filter fun x => decide (x.1 ≠ n.toNat ∨ 0 < x.2)) ∧
  (sleepyLeaf s = true → slMode s 0 = 2 → orOne (fld s.slp.lim 0 16) ≤ s.slp.quiresSince → Completes .resyncDue s fun t =>
    t.slp = { s.slp with resync := true }) ∧
  (Completes .budgetPeriodStart s fun t => t.slp.spentTicks = 0 ∧ t.slp.overBudget = false) ∧
  (isLeaf s = true → s.slp.overBudget = false → fld s.slp.budget 0 20 ≤ slpSpent s → Completes .budgetReached s fun t =>
    t.slp = { s.slp with overBudget := true, linger := s.slp.linger.map (min 1) })

/-- Capture and the setting registers, and the applies (10 R326 to R332). The model's own choices in it: log entry 11. -/
def Obligations.TimeSetting : Prop := ∀ (s : State) (v : Word), devUp s = true →
  (bitAt v 0 = true → Completes (.teCapture v) s fun t => t.te = { s.te with
      snapSeq := s.te.snapSeq + 1
      snap := { sec := s.te.sec, ns := BitVec.ofNat 32 s.te.ns, frac := s.te.frac, ma := refAngle s, mcyc := refCycle s,
                utc := s.te.utc, leap := at32 (ofBool s.te.leap) 0 } }) ∧
  (s.te.armed = none → v.toNat < 1000000000 → Completes (.teSetWrite .ns v) s fun t => t.te = { s.te with setNs := v }) ∧
  (∀ m, s.te.armed = some m → Completes (.teSetWrite .ns v) s fun t => t.te = { s.te with refused := true, cause := 1 }) ∧
  (s.te.armed = none → 1000000000 ≤ v.toNat → Completes (.teSetWrite .ns v) s fun t =>
    t.te = { s.te with refused := true, cause := 2 }) ∧
  (s.te.armed = none → Completes (.teSetWrite .frac v) s fun t => t.te = { s.te with setFrac := v &&& 0xFFFF }) ∧
  (s.te.armed = none → s.te.setNs.toNat < 1000000000 → leapArmed s = false → Completes (.applyImmediate v) s fun t =>
    t.te.sec = s.te.setSec ∧ t.te.ns = s.te.setNs.toNat ∧ t.te.frac = BitVec.ofNat 16 (fld s.te.setFrac 0 16) ∧ t.te.sub = 0 ∧ t.te.slew = 0 ∧
      t.te.armed = none) ∧
  (s.te.armed = none → Completes (.applyAtNextSecond v) s fun t => t.te = { s.te with armed := some 2 }) ∧
  (∀ m, s.te.armed = some m → Completes (.applyAtNextSecond v) s fun t => t.te = { s.te with refused := true, cause := 3 }) ∧
  (Completes (.applyCancel v) s fun t => t.te = { s.te with armed := none })

/-- Steering, the source, the discipline and its losses (10 R324, R335 to R339). The model's own choices in it: log entry 11. -/
def Obligations.TimeSteering : Prop := ∀ (s : State) (v : Word), devUp s = true →
  (teSrc s = 0 → Completes (.teSlew v) s fun t => t.te = { s.te with slew := s.te.slew + v.toInt * (u48 : Int) }) ∧
  (teSrc s ≠ 0 → Completes (.teSlew v) s fun t => t.te = { s.te with refused := true, cause := 6 }) ∧
  (s.te.slew.natAbs ≤ slewShare → Completes .slewDone s fun t => t.te = { s.te with slew := 0 }) ∧
  (teSrc s = 0 → s.staging = [] → Completes (.teFreqWrite v) s fun t => t.te =
    { s.te with s := BitVec.ofNat 40 ((s.te.s.setWidth 32).toNat + 4294967296 * fld v 0 8) }) ∧
  (fld v 0 3 = 3 → isHead s = true → Completes (.teSrcSelect v) s fun t => t.te = { s.te with refused := true, cause := 4 }) ∧
  (fld v 0 3 ≠ 3 ∨ isLeaf s = true → Completes (.teSrcSelect v) s fun t => t.te = { s.te with ctrl := v &&& 0x17 }) ∧
  (teSrc s ≠ 1 → teSrc s ≠ 2 → s.tex.lastEdge = none → ∀ sub, Completes (.ppsInEdge sub) s fun t => t.te.srcOk.getLsbD 0 = true ∧
    t.tex.lastEdge = some ((stamp256 (todNow s) : Int) + (sub.toNat * 64 / 5 : Nat) - s.te.ppsinDly.toNat) ∧
    t.tex.ppsinBad = s.tex.ppsinBad) ∧
  (∀ e (sub : BitVec 6), s.tex.lastEdge = some e →
    256000000 < ((stamp256 (todNow s) : Int) + (sub.toNat * 64 / 5 : Nat) - s.te.ppsinDly.toNat - e - sec256).natAbs →
    Completes (.ppsInEdge sub) s fun t => t.tex = { s.tex with ppsinBad := inc32 s.tex.ppsinBad } ∧ t.te = s.te) ∧
  (teSrc s = 1 → s.tex.srcLost.getLsbD 0 = false → Completes .ppsInLoss s fun t => t.te.st = 3 ∧ t.te.srcOk.getLsbD 0 = false ∧
    t.tex.lastEdge = none ∧ t.tex.srcLost.getLsbD 0 = true) ∧
  (isLeaf s = true → 8 ≤ s.tex.bcnMiss → teSrc s = 3 → s.tex.srcLost.getLsbD 2 = false → Completes .beaconSourceLoss s fun t =>
    t.te.st = 3 ∧ t.te.srcOk.getLsbD 2 = false ∧ t.tex.srcLost.getLsbD 2 = true)

/-- The second, the 1PPS and the leap (10 R323, R332, R334, R353, 19 R604). The model's own choices in it: log entry 11. -/
def Obligations.Seconds : Prop := ∀ s : State, devUp s = true →
  (s.te.armed = none → leapArmed s = false → Completes .todRollover s fun t => t.te.sec = s.te.sec + 1 ∧
    t.te.ns = s.te.ns - 1000000000 ∧ t.te.pps = (s.te.pps || bitAt s.te.ctrl 4) ∧ t.tmp.ppsAon = s.tmp.aon ∧
    t.tmp.ppsSec = s.te.sec + 1 ∧ t.tmp.ppsValid = true) ∧
  (s.te.armed = some 2 → leapArmed s = false → s.te.ns - 1000000000 < 1000000000 → Completes .todRollover s fun t =>
    t.te.sec = s.te.setSec ∧ t.te.ns = s.te.ns - 1000000000 ∧ t.te.armed = none) ∧
  (s.te.armed = none → leapArmed s = true → leapDir s = false → s.te.leapAt = s.te.sec + 1 → Completes .todRollover s fun t =>
    t.te.leap = true ∧ t.te.leapCtrl = s.te.leapCtrl) ∧
  (Completes .ppsWidthEnd s fun t => t = { s with te := { s.te with pps := false } }) ∧
  (∀ v, s.te.sec.toNat + 2 < s.te.leapAt.toNat → Completes (.leapArm v) s fun t =>
    t.te = { s.te with leapCtrl := (v ||| 0x80000000) &&& 0xC0000000 }) ∧
  (∀ v, s.te.leapAt.toNat ≤ s.te.sec.toNat + 2 → Completes (.leapArm v) s fun t => t.te = { s.te with refused := true, cause := 5 })

/-- Ranging: an exchange asked for, begun, answered by the leaf, and timed out (10 R342, R344 to R346). The model's own choices in it:
log entry 41. -/
def Obligations.Ranging : Prop := ∀ s : State, devUp s = true →
  (∀ v, bitAt v 31 = true → isHead s = true → rngEligible s (fld v 0 12) = true → Completes (.teRngNow v) s fun t =>
    t.tex = { s.tex with first := some (BitVec.ofNat 12 (fld v 0 12)) } ∧ t.te = { s.te with rngNow := v &&& 0xFFF }) ∧
  (∀ v, bitAt v 31 = true → isHead s = true → rngEligible s (fld v 0 12) = false → Completes (.teRngNow v) s fun t =>
    t.tex = { s.tex with rngFail := inc32 s.tex.rngFail }) ∧
  (∀ (p : Port) n i, isHead s = true → qrRunning s = true → rngPick s p = some n → eRoute (entryAt s n) = [] → n < 4096 →
    legsOpen s n = true → legsFit s n = true →
    let m := legMode (entryAt s n) (frameBytes tyRangeReq 0 false 2) s
    ticksUs (airtimeOf s m (frameBytes tyRangeReq 0 false 2)) ≤ ticksToEnd s →
    portReady s p = true → (∀ b ∈ bandsOf s m, b ≠ 1 ∧ covers (bandAt s b) (airtimeOf s m (frameBytes tyRangeReq 0 false 2)) = true) →
    cachedSlot s n = some i → (slotAt s i).unload = none → (slotAt s i).fhold = false → anyCore s = true →
    (useRec s n).exh = false → (useRec s n).inv + 1 ≤ (keyLimits s (slotAt s i)).1 →
    (useRec s n).blk + lineBlocks tyRangeReq 0 false 2 ≤ (keyLimits s (slotAt s i)).2 →
    Completes (.rangingStart p) s fun t => t.tex.nextExch = s.tex.nextExch + 1 ∧
      ∃ e ∈ t.tex.exch, e.leaf = BitVec.ofNat 12 n ∧ e.exch = s.tex.nextExch ∧ e.initiator = true ∧ e.leg = 1 ∧ e.port = p) ∧
  (∀ (p : Port) e i, s.tex.exch.find? (fun e => decide (e.port = p) && e.due.isSome) = some e → lineOpen s = true → isLeaf s = true →
    roleNow s p = rRanging → e.mark = s.tex.stepMark → e.raw = [] → e.route = none →
    let m := legMode (entryAt s e.hop.toNat) (frameBytes tyRangeResp 0 false 14) s
    portReady s p = true → (∀ b ∈ bandsOf s m, b ≠ 1 ∧ covers (bandAt s b) (airtimeOf s m (frameBytes tyRangeResp 0 false 14)) = true) →
    pinnedSlot s = some i → (slotAt s i).unload = none → (slotAt s i).fhold = false → anyCore s = true → (slotAt s i).exh = false →
    (slotAt s i).inv + 1 ≤ (keyLimits s (slotAt s i)).1 →
    (slotAt s i).blk + lineBlocks tyRangeResp 0 false 14 ≤ (keyLimits s (slotAt s i)).2 →
    Completes (.rangeLegSend p) s fun t => t.tex.lastResp = some (e.exch, e.t2, e.due.getD 0 % 2 ^ 48, e.mark) ∧
      t.tex.exch = s.tex.exch.filter (fun x => decide (x ≠ e)) ∧ ∃ f ∈ t.line.q, f.id = s.line.nextId ∧ f.ty.toNat = tyRangeResp ∧ f.st = .onLine) ∧
  (∀ (p : Port) e, s.tex.exch.find? (fun e => e.initiator && decide (e.port = p) && decide (e.last ≤ folioNow s)) = some e →
    Completes (.rangingTimeout p) s fun t => t.tex = { s.tex with
      exch := s.tex.exch.filter (fun x => decide (x ≠ e))
      rngFail := inc32 s.tex.rngFail })

/-- Arming, starting and stopping a channel; its step memory and timing sets (11 R361 to R363, R369, R370, R383, R397). The model's own
choices in it: log entry 12. -/
def Obligations.GeneratorChannels : Prop := ∀ (s : State) (c : Fin 8) (v : Word), devUp s = true →
  ((chAt s c).st = .stopped → fld v 4 2 = 1 ∨ fld v 4 2 = 2 ∨ ((chAt s c).ftw ≠ 0 ∧ (chAt s c).ftw.toNat ≤ 140737488355328) →
    Completes (.rgArm c v) s fun t =>
      t.rg.ch = upd s.rg.ch c (fun h => { h with ctrl := (v ||| 0x80000000) &&& 0xE0FF0330, st := .armed }) ∧
      (chX t c).stopReq = false ∧ (chX t c).activeSig = (if fld v 4 2 = 0 then marksOf (chAt s c) (fld v 16 8) else [])) ∧
  ((chAt s c).st = .stopped → (fld v 4 2 = 0 ∨ fld v 4 2 = 3) → ((chAt s c).ftw = 0 ∨ 140737488355328 < (chAt s c).ftw.toNat) →
    Completes (.rgArm c v) s fun t => t.rg = { s.rg with refused := true, cause := 5, chn := BitVec.ofNat 3 c.val }) ∧
  ((chAt s c).st ≠ .stopped → ((chAt s c).ctrl ^^^ v) &&& 0x00FF0330 ≠ 0 →
    Completes (.rgStopRequest c v) s fun t => t.rg = { s.rg with refused := true, cause := 1, chn := BitVec.ofNat 3 c.val }) ∧
  ((chAt s c).st = .running → ((chAt s c).ctrl ^^^ v) &&& 0x00FF0330 = 0 → Completes (.rgStopRequest c v) s fun t =>
    t.rg.ch = upd s.rg.ch c (fun h => { h with ctrl := v &&& 0x60FF0330 }) ∧ t.rg.x = upd s.rg.x c (fun x => { x with stopReq := true })) ∧
  ((chAt s c).st = .running → (chX s c).stopReq = true → Completes (.rgStop c) s fun t =>
    t.rg.ch = upd s.rg.ch c (fun h => { h with st := .stopped }) ∧ (chX t c).out = (chX s c).out ∧ (chX t c).stopReq = false ∧
      (chX t c).activeSig = []) ∧
  ((chAt s c).st = .armed → chMode (chAt s c) = 0 → s.rg.claims = [] → (chAt s c).retune = none →
    Completes (.rgStart c) s fun t => chAt t c = { chAt s c with
        st := .running
        nco := 0
        ftwNow := (chAt s c).ftw
        step := BitVec.ofNat 8 (chEntry (chAt s c))
        tset := sTset (stepAt (chAt s c) (chEntry (chAt s c))) } ∧
      (chX t c).out = sampleOf s (sSig (stepAt (chAt s c) (chEntry (chAt s c)))) (sFirst (stepAt (chAt s c) (chEntry (chAt s c)))) ∧
      (chX t c).pos = 0 ∧ (chX t c).reps = 0) ∧
  ((chAt s c).st = .armed → 2 ≤ chMode (chAt s c) → Completes (.rgStart c) s fun t =>
    t.rg.ch = upd s.rg.ch c (fun h => { h with st := .running, nco := 0, ftwNow := h.ftw })) ∧
  (stepBad (v ++ (chAt s c).seqLow) = false → stepUsed (chAt s c) (fld (chAt s c).seqAddr 0 8) = false →
    Completes (.seqStepWrite c v) s fun t => t.rg = (updCh c (fun h => { h with
        steps := spPut 0 (fld h.seqAddr 0 8) (v ++ h.seqLow) h.steps
        seqAddr := (h.seqAddr + 1) &&& 0xFF
        seqHi := false }) s).rg) ∧
  (stepBad (v ++ (chAt s c).seqLow) = true → Completes (.seqStepWrite c v) s fun t =>
    t.rg.refused = true ∧ t.rg.cause = 2 ∧ (chAt t c).steps = (chAt s c).steps) ∧
  (stepBad (v ++ (chAt s c).seqLow) = false → stepUsed (chAt s c) (fld (chAt s c).seqAddr 0 8) = true →
    Completes (.seqStepWrite c v) s fun t => t.rg.refused = true ∧ t.rg.cause = 3 ∧ (chAt t c).steps = (chAt s c).steps) ∧
  (∀ k w : Fin 4, ¬((chAt s c).st = .running ∧ (chAt s c).tset.toNat = k.val) → Completes (.timingSetWrite c k w v) s fun t =>
    t.rg = (updCh c (fun h => { h with ts := vupd h.ts (4 * k.val + w.val) fun _ => v &&& 0x7F7F7F7F }) s).rg) ∧
  (∀ k w : Fin 4, (chAt s c).st = .running → (chAt s c).tset.toNat = k.val → Completes (.timingSetWrite c k w v) s fun t =>
    t.rg = { s.rg with refused := true, cause := 4, chn := BitVec.ofNat 3 c.val })

/-- Steps of a running sequence: a seam ends, a step begins or meets a claimed signature, a step ends (11 R367, R371 to R374). The
model's own choices in it: log entry 12. -/
def Obligations.GeneratorSteps : Prop := ∀ (s : State) (c : Fin 8), devUp s = true → (chAt s c).st = .running → chMode (chAt s c) = 0 →
  (∀ n, (chX s c).next = some n → s.rg.claims = [] → (chAt s c).retune = none → Completes (.rgStepStart c) s fun t =>
    chAt t c = { chAt s c with
      step := n
      tset := if (chX s c).taken then (chAt s c).tset else sTset (stepAt (chAt s c) n.toNat) } ∧
    (chX t c).out = sampleOf s (sSig (stepAt (chAt s c) n.toNat)) (sFirst (stepAt (chAt s c) n.toNat)) ∧
    (chX t c).activeSig = marksOf (chAt s c) n.toNat ∧ (chX t c).next = none) ∧
  (∀ (n : Byte) k, (chX s c).next = some n → k ∈ s.rg.claims → k.2.2.1 ∈ marksOf (chAt s c) n.toNat → Completes (.rgStepStart c) s fun t =>
    t.rg.ch = upd s.rg.ch c (fun h => { h with st := .halted }) ∧ (chX t c).out = (chX s c).out) ∧
  ((chX s c).next = none → sCond (stepAt (chAt s c) (chAt s c).step.toNat) = 8 → (chX s c).tsetWait = none →
    Completes (.rgStepEnd c) s fun t => t.rg.ch = upd s.rg.ch c (fun h => { h with st := .halted }) ∧
      (chX t c).out = sampleOf s (sSig (stepAt (chAt s c) (chAt s c).step.toNat))
        (sFirst (stepAt (chAt s c) (chAt s c).step.toNat) + sLen (stepAt (chAt s c) (chAt s c).step.toNat))) ∧
  ((chX s c).next = none → (chX s c).stopReq = false → sCond (stepAt (chAt s c) (chAt s c).step.toNat) = 0 →
    sWait (stepAt (chAt s c) (chAt s c).step.toNat) = false → sCpol (stepAt (chAt s c) (chAt s c).step.toNat) = false →
    Completes (.rgStepEnd c) s fun t => (chX t c).next = some (BitVec.ofNat 8 ((chAt s c).step.toNat + 1)) ∧ (chX t c).taken = false ∧
      (chAt t c).st = .running) ∧
  ((chX s c).next = none → (chX s c).stopReq = false → sCond (stepAt (chAt s c) (chAt s c).step.toNat) = 3 →
    sWait (stepAt (chAt s c) (chAt s c).step.toNat) = false → sCpol (stepAt (chAt s c) (chAt s c).step.toNat) = false →
    sArg (stepAt (chAt s c) (chAt s c).step.toNat) < 4 → vget (chX s c).cnt (sArg (stepAt (chAt s c) (chAt s c).step.toNat)) 0 ≠ 0 →
    Completes (.rgStepEnd c) s fun t =>
      (chX t c).next = some (BitVec.ofNat 8 (sTarget (stepAt (chAt s c) (chAt s c).step.toNat))) ∧ (chX t c).taken = true ∧
      (chX t c).cnt = vupd (chX s c).cnt (sArg (stepAt (chAt s c) (chAt s c).step.toNat)) fun v => v - 1) ∧
  ((chX s c).next = none → (chX s c).stopReq = true → sCond (stepAt (chAt s c) (chAt s c).step.toNat) = 1 →
    sWait (stepAt (chAt s c) (chAt s c).step.toNat) = false → Completes (.rgStepEnd c) s fun t => (chAt t c).st = .stopped)

/-- Inputs, compares, VDAC faults, timecode and the telegram (11 R374, R377, R378, R387, R389 to R391). The model's own choices in it:
log entry 12. -/
def Obligations.GeneratorInputs : Prop := ∀ (s : State) (c : Fin 8) (k : Fin 2), devUp s = true →
  (∀ (n : Fin 16) i, inputPin s n.val = some i → s.pmx.pad.getLsbD i = false →
    fld s.rg.incfg (2 * n.val) 2 = 1 ∨ fld s.rg.incfg (2 * n.val) 2 = 3 → Completes (.rgInputEdge n true) s fun t =>
      t.pmx.pad.getLsbD i = true ∧ ∀ j : Fin 8, chX t j = { chX s j with pinL := (chX s j).pinL ||| BitVec.ofNat 16 (2 ^ n.val) }) ∧
  ((chX s c).maArm.getLsbD k.val = true → maMayFire s (chAt s c) k.val = true → (chAt s c).retune = none → chStart (chAt s c) ≠ 3 →
    Completes (.maCompareFire c k) s fun t => (chX t c).maL = (chX s c).maL ||| BitVec.ofNat 2 (2 ^ k.val) ∧
      (maQen (chAt s c) k.val = true → (chX t c).maArm.getLsbD k.val = false)) ∧
  ((chX s c).todArm.getLsbD k.val = true → (chAt s c).retune = none → chStart (chAt s c) ≠ 2 → Completes (.todCompareFire c k) s fun t =>
    chX t c = { chX s c with
      todArm := (chX s c).todArm &&& ~~~(BitVec.ofNat 2 (2 ^ k.val))
      todL := (chX s c).todL ||| BitVec.ofNat 2 (2 ^ k.val) }) ∧
  (∀ v, bitAt v 9 = false → Completes (.maCompareArm c k v) s fun t =>
    chX t c = { chX s c with maArm := (chX s c).maArm ||| BitVec.ofNat 2 (2 ^ k.val) } ∧
    (chAt t c).maCfg = upd (chAt s c).maCfg k fun _ => v &&& 0x31F) ∧
  (∀ v, s.staging = [] →
    let x : BitVec 48 := BitVec.ofNat 48 (((chAt s c).todSec[k.val].setWidth 32).toNat + 4294967296 * fld v 0 16)
    genTime s < ((x.toNat : Int) * 1000000000 + (vget (chAt s c).todNs k.val 0).toNat) * 256 →
    Completes (.todCompareArm c k v) s fun t => chX t c = { chX s c with todArm := (chX s c).todArm ||| BitVec.ofNat 2 (2 ^ k.val) } ∧
      (chAt t c).todSec = upd (chAt s c).todSec k fun _ => x) ∧
  (Completes (.vdacFault k) s fun t =>
    t.rg = { s.rg with vfault := true, vtrip := s.rg.vtrip ||| BitVec.ofNat 2 (2 ^ k.val) } ∧ ∀ m, vdacCode t m = 2048) ∧
  (∀ v, bitAt v 8 = true → s.rg.vfault = true → Completes (.vdacClear v) s fun t => t.rg = { s.rg with vfault := false, vtrip := 0 }) ∧
  (chMode (chAt s c) = 1 → (chAt s c).st = .running → Completes (.ltcFrameStart c) s fun t =>
    t.rg = (updChX c (fun x => { x with
      frame := some (ltcFrame (chAt s c).ltc (chAt s c).ltcUb (fld s.te.tc 0 2) (labelNow s))
      frameRate := fld s.te.tc 0 2 }) s).rg) ∧
  (∀ (n : Fin 16) (f : BitVec 80) r p, chMode (chAt s c) = 2 → (chAt s c).st = .running → fld (chAt s c).ltc 16 4 = n.val →
    f.toNat / 2 ^ 64 = 0xBFFC → Completes (.ltcFrameDecode n f r p) s fun t => (chX t c).frame = some f ∧ (chX t c).ltcHeard = true) ∧
  (∀ n : Fin 16, chMode (chAt s c) = 2 → (chAt s c).st = .running → fld (chAt s c).ltc 16 4 = n.val → Completes (.ltcLoss n) s fun t =>
    (chX t c).ltcHeard = false) ∧
  (chMode (chAt s c) = 3 → (chAt s c).st = .running → Completes (.telegramSend c) s fun t =>
    t.rg = (updChX c (fun x => { x with frame := some (BitVec.ofNat 80 (telegram s)) }) s).rg)

/-- The descriptors SIG_WRITE and RG_RETUNE (11 R364, R366, R381). The model's own choices in it: log entry 12. -/
def Obligations.GeneratorDescriptors : Prop := ∀ (s : State) (r : Fin 16) (d : DescBytes), devUp s = true →
  (accepts r d 0x30 s = true → 2 ≤ dLen d → dLen d ≤ 4096 → dLen d % 2 = 0 → field512 d 22 2 % 2 = 0 → field512 d 22 2 + dLen d ≤ 4096 →
    sigActive s (dByte d 20) = false → regionOk s (dAddr d) (dLen d) = true → ∀ bs : List Byte, bs.length = dLen d →
      Completes (.sigWrite r d (.data bs)) s fun t =>
        t.rg = { s.rg with claims := s.rg.claims ++ [(r.val, newId r s, dByte d 20, field512 d 22 2, bs)] } ∧
        (takenAt t r.val (newId r s)).isSome = true) ∧
  (accepts r d 0x30 s = true → 2 ≤ dLen d → dLen d ≤ 4096 → dLen d % 2 = 0 → field512 d 22 2 % 2 = 0 → field512 d 22 2 + dLen d ≤ 4096 →
    sigActive s (dByte d 20) = true → ∀ m, Completes (.sigWrite r d m) s fun t => t.rg = s.rg ∧
      resultAt t r (newId r s) = some (resSt 0x30)) ∧
  (∀ id g o (bs : List Byte) l, s.rg.claims = (r.val, id, g, o, bs) :: l → Completes (.sigWriteDone r) s fun t =>
    t.rg = { s.rg with sig := spPutBytes s.rg.sig (4096 * g + o) bs, claims := l } ∧
    ((takenAt s r.val id).isSome = true → resultAt s r id = none → resultAt t r id = some (resOk bs.length))) ∧
  (accepts r d 0x32 s = true → field512 d 24 6 ≤ 140737488355328 → (chAt s (descCh d)).retune = none → dByte d 21 = 0 →
    Completes (.rgRetune r d) s fun t =>
      t.rg.ch = upd s.rg.ch (descCh d) (fun h => { h with
        nco := h.nco + BitVec.ofNat 48 (field512 d 32 6)
        ftwNow := if field512 d 24 6 = 0 then h.ftwNow else BitVec.ofNat 48 (field512 d 24 6)
        retune := none }) ∧
      resultAt t r (newId r s) = some (resOk 0)) ∧
  (accepts r d 0x32 s = true → field512 d 24 6 ≤ 140737488355328 → (chAt s (descCh d)).retune = none → 1 ≤ dByte d 21 → dByte d 21 ≤ 5 →
    Completes (.rgRetune r d) s fun t => (chAt t (descCh d)).retune = some
      { ftw := BitVec.ofNat 48 (field512 d 24 6), phi := BitVec.ofNat 48 (field512 d 32 6), when_ := dByte d 21, desc := (r.val, newId r s) } ∧
      (chAt t (descCh d)).nco = (chAt s (descCh d)).nco)

/-- RG_FLAG (11 R392). -/
def Obligations.FlagDescriptor : Prop := ∀ (s : State) (r : Fin 16) (d : DescBytes), devUp s = true → accepts r d 0x31 s = true →
  Completes (.rgFlag r d) s fun t =>
    t.rg = (updChX (descCh d) (fun x => { x with flags := x.flags ||| BitVec.ofNat 4 (2 ^ (dByte d 21 % 4)) }) s).rg ∧
    resultAt t r (newId r s) = some (resOk 0)

/-- The generator offset, kettle mode and the stitch chain (12 R399 to R404, R407 to R413, R418). The model's own choices in it: log
entry 12. -/
def Obligations.Alignment : Prop := ∀ s : State, devUp s = true →
  (∀ v, kAuto s = false → stRole s ≠ 2 → Completes (.gofsWrite v) s fun t => t.aln = { s.aln with gofs := v }) ∧
  (∀ v, kAuto s = true ∨ stRole s = 2 → Completes (.gofsWrite v) s fun t => t.aln = s.aln ∧ t.rg.refused = true ∧ t.rg.cause = 6) ∧
  (∀ sub : BitVec 6, kEn s = true → s.pwr.st ≠ .holdover → refPresent s = true → justJumped s = false →
    let e := fromSecond (genTime s + (sub.toNat * 64 / 5 : Nat) - s.aln.kdly.toInt - (fld s.aln.kexp 0 30 * 256 : Nat))
    e.natAbs ≤ kWin s * 256000 → s.aln.kn + 1 < 2 ^ kAvg s → Completes (.kettleEdge sub) s fun t =>
      t.aln = { s.aln with kok := incSat16 s.aln.kok, ksum := s.aln.ksum + e, kn := s.aln.kn + 1 }) ∧
  (∀ sub : BitVec 6, kEn s = true → s.pwr.st ≠ .holdover → refPresent s = true → justJumped s = false →
    let e := fromSecond (genTime s + (sub.toNat * 64 / 5 : Nat) - s.aln.kdly.toInt - (fld s.aln.kexp 0 30 * 256 : Nat))
    let m := roundDiv (s.aln.ksum + e) (2 ^ kAvg s)
    e.natAbs ≤ kWin s * 256000 → 2 ^ kAvg s ≤ s.aln.kn + 1 → m.natAbs ≤ fld s.aln.kmax 0 16 * 256 → kAuto s = true → kOnce s = false →
      Completes (.kettleEdge sub) s fun t => t.aln.gofs = BitVec.ofInt 32 (s.aln.gofs.toInt + m) ∧ t.aln.kn = 0 ∧ t.aln.ksum = 0 ∧
        t.aln.kmeas = BitVec.ofNat 32 (satO m)) ∧
  (∀ sub : BitVec 6, kEn s = true → s.pwr.st ≠ .holdover → refPresent s = true → justJumped s = false →
    kWin s * 256000 < (fromSecond (genTime s + (sub.toNat * 64 / 5 : Nat) - s.aln.kdly.toInt - (fld s.aln.kexp 0 30 * 256 : Nat))).natAbs →
      Completes (.kettleEdge sub) s fun t => t.aln.kmiss = incSat16 s.aln.kmiss ∧ t.aln.kok = s.aln.kok ∧ t.aln.ksum = s.aln.ksum ∧
        t.aln.gofs = s.aln.gofs) ∧
  (kDrive s = true → Completes .kettleDrive s fun t => t = { s with aln := { s.aln with kout := some s.now } }) ∧
  (∀ v : Word, fld v 29 2 ≠ 3 → (bitAt v 29 = false ∨ stRole s ≠ 2) → fld v 0 8 ≠ 0 → fld v 24 3 ≠ 7 → kEn s = true →
    Completes (.kettleCfgWrite v) s fun t => t.aln = { s.aln with kcfg := v &&& 0xF70000FF }) ∧
  (∀ v : Word, fld v 29 2 = 3 → Completes (.kettleCfgWrite v) s fun t => t.aln = s.aln ∧ t.rg.refused = true ∧ t.rg.cause = 6) ∧
  (∀ v : Word, fld v 30 2 = 2 → (kEn s = false ∨ kAuto s = false) → stRole s ≠ 2 → fld v 16 3 ≤ 4 → fld v 8 4 ≠ 0 →
    Completes (.stitchCfgWrite v) s fun t =>
      t.aln = { s.aln with stcfg := v &&& 0xE7073F00, ststate := 1, lockRun := 0, deep := false }) ∧
  (∀ v : Word, fld v 30 2 = 2 → kEn s = true → kAuto s = true → Completes (.stitchCfgWrite v) s fun t =>
    t.aln = s.aln ∧ t.rg.refused = true ∧ t.rg.cause = 6) ∧
  (stRole s = 1 → s.pwr.st ≠ .holdover → Completes .stitchWordSend s fun t => t.aln = { s.aln with
    seqno := s.aln.seqno + 1
    lastWord := some (BitVec.ofNat 128 (ofLe (stitchBytes 0 (decide ((chAt s (stSrc s)).st ≠ .running)) s.aln.seqno
      (markNs s / 1000000000) (markNs s % 1000000000)))) }) ∧
  (∀ w : StitchRx, stRole s = 2 → s.pwr.st ≠ .holdover → (leBytes 16 w.word.toNat).getD 0 0 ≠ 0xD5 →
    Completes (.stitchWordReceive w) s fun t => t.aln = { s.aln with stcrc := incSat16 s.aln.stcrc }) ∧
  (∀ w : StitchRx, stRole s = 2 → s.pwr.st ≠ .holdover → (leBytes 16 w.word.toNat).getD 0 0 = 0xD5 →
    hcs ((leBytes 16 w.word.toNat).take 14) = leAt (leBytes 16 w.word.toNat) 14 2 → leAt (leBytes 16 w.word.toNat) 1 1 < 7 →
    let e := (stamp256 w.mark : Int) - s.aln.gofs.toInt - s.aln.stdly.toNat -
      ((leAt (leBytes 16 w.word.toNat) 4 6 * 1000000000 + leAt (leBytes 16 w.word.toNat) 10 4) * 256 : Nat)
    Completes (.stitchWordReceive w) s fun t =>
      t.aln.pos = BitVec.ofNat 3 (leAt (leBytes 16 w.word.toNat) 1 1 + 1) ∧ t.aln.sterr = BitVec.ofNat 32 (satO e) ∧
      (s.aln.ststate = 1 → t.aln.ststate = 2 ∧ t.aln.gofs = BitVec.ofInt 32 (s.aln.gofs.toInt + e)) ∧
      (s.aln.ststate = 3 → stMax s < e.natAbs → t.aln.ststate = 1 ∧ t.aln.gofs = s.aln.gofs) ∧
      (s.aln.ststate = 2 → e.natAbs ≤ stMax s → e.natAbs ≤ stLock s → s.aln.lockRun = 3 → t.aln.ststate = 3)) ∧
  (stRole s = 2 → s.aln.ststate ≠ 4 → s.pwr.st ≠ .holdover → Completes .stitchLoss s fun t =>
    t.aln = { s.aln with ststate := 4, lockRun := 0 })

/-- Host jobs: admitted, refused before admission, and ended by a core (13 R422 to R428, R441, R444 to R448, 19 R597). The commands are
CX_GCM_ENC, CX_GCM_DEC, CX_CCM_ENC and CX_CCM_DEC, as cxOp names them by dec and ccm. The model's own choices in it: log entry 51. -/
def Obligations.CipherJobs : Prop := ∀ (s : State) (r : Fin 16) (d : DescBytes) (dec ccm : Bool), devUp s = true →
  (∀ bs : List Byte, accepts r d (cxOpcode dec ccm) s = true → jobBad dec ccm d s = false → s.tmp.locked = false →
    (slotAt s (jSlot d)).use = useHost → (slotAt s (jSlot d)).unload = none → s.cln.hostmode = false →
    let n := dLen d + (if dec then jTlen d else 0)
    let k := slotAt s (jSlot d)
    let b := blocksOf (jAadlen d) (dLen d)
    bs.length = n + jAadlen d → k.exh = false → k.inv + 1 ≤ 2 ^ k.inve → k.blk + b ≤ 2 ^ k.blke →
    Completes (cxOp dec ccm r d (.data bs)) s fun t =>
      (slotAt t (jSlot d)).inv = k.inv + 1 ∧ (slotAt t (jSlot d)).blk = k.blk + b ∧ (slotAt t (jSlot d)).held = k.held + 1 ∧
      ({ ring := r.val, desc := newId r s, decrypt := dec, ccm := ccm, slot := jSlot d,
         nonce := if jNgen d then jNonce d 4 ++ leBytes 8 k.inv else jNonce d (jNlen d), aad := bs.drop n, input := bs.take n, tlen := jTlen d,
         dst := jDst d } : CxJob) ∈ jobsOf t) ∧
  (∀ m, accepts r d (cxOpcode dec ccm) s = true → jobBad dec ccm d s = true → Completes (cxOp dec ccm r d m) s fun t =>
    t.cx = s.cx ∧ resultAt t r (newId r s) = some (resBad 9)) ∧
  (∀ m, accepts r d (cxOpcode dec ccm) s = true → jobBad dec ccm d s = false → s.tmp.locked = true → Completes (cxOp dec ccm r d m) s fun t =>
    t.cx = s.cx ∧ resultAt t r (newId r s) = some (resSt 0x12)) ∧
  (∀ m, accepts r d (cxOpcode dec ccm) s = true → jobBad dec ccm d s = false → s.tmp.locked = false →
    (slotAt s (jSlot d)).use = useEmpty → Completes (cxOp dec ccm r d m) s fun t =>
      t.cx = s.cx ∧ resultAt t r (newId r s) = some (resSt 0x23)) ∧
  (∀ bs : List Byte, accepts r d (cxOpcode dec ccm) s = true → jobBad dec ccm d s = false → s.tmp.locked = false →
    (slotAt s (jSlot d)).use = useHost → (slotAt s (jSlot d)).unload = none → s.cln.hostmode = false →
    (slotAt s (jSlot d)).exh = true → Completes (cxOp dec ccm r d (.data bs)) s fun t =>
      t.cx = s.cx ∧ resultAt t r (newId r s) = some (resSt 0x20))

/-- A core ends its job (13 R427, R428, R444 to R447, R455). The model's own choices in it: log entry 51. -/
def Obligations.CipherCores : Prop := ∀ (s : State) (c : Fin 4) (j : CxJob), devUp s = true → (coreAt s c.val).job = some j →
  (∀ out, s.cx.coreEn.getLsbD c.val = true → s.cx.jobs = [] → jobOutput (slotAt s j.slot) j = some out → jobLive s j = true →
    Completes (.cipherJobDone c false) s fun t => (takenAt t j.ring j.desc).bind (·.result) = some (resOk out.length) ∧
      t.hostMem = spPutBytes s.hostMem j.dst out ∧ coreAt t c.val = { coreAt s c.val with st := .idle, job := none, hold := [] }) ∧
  (s.cx.coreEn.getLsbD c.val = true → s.cx.jobs = [] → jobOutput (slotAt s j.slot) j = none → jobLive s j = true →
    Completes (.cipherJobDone c false) s fun t => (takenAt t j.ring j.desc).bind (·.result) = some (resSt 0x21) ∧
      t.hostMem = s.hostMem ∧ (coreAt t c.val).job = none ∧ (coreAt t c.val).hold = []) ∧
  (jobLive s j = true → (slotAt s j.slot).retire = false → j.slot < 64 → Completes (.cipherJobDone c true) s fun t =>
    (takenAt t j.ring j.desc).bind (·.result) = some (resSt 0x22) ∧
    coreAt t c.val = { coreAt s c.val with st := .faulted, job := none, hold := [] } ∧ (slotAt t j.slot).fhold = true) ∧
  (∀ v, bitAt v (8 + c.val) = true → (coreAt s c.val).st = .busy → jobLive s j = true →
    Completes (.coreReset v) s fun t => (takenAt t j.ring j.desc).bind (·.result) = some (resSt 0x10) ∧ (coreAt t c.val).st = .faulted ∧
      (coreAt t c.val).selfTest = true ∧ (coreAt t c.val).job = none) ∧
  (∀ v, fld v 8 4 = 0 → bitAt v c.val = false → (coreAt s c.val).st = .busy → Completes (.coreDisable v) s fun t =>
    t.cx.coreEn = BitVec.ofNat 4 (fld v 0 4) ∧ coreAt t c.val = coreAt s c.val)

/-- Key loads and unloads, re-keys, unwraps, fault hold, core tests and the slot window (13 R430, R431, R435, R436, R447 to R450, R452,
R457). The model's own choices in it: log entries 33, 51. -/
def Obligations.Keys : Prop := ∀ (s : State) (r : Fin 16) (d : DescBytes), devUp s = true →
  (∀ bs : List Byte, accepts r d 0x44 s = true → loadBad d s = false → s.tmp.locked = false → s.cln.hostmode = false → bs.length = dLen d →
    dByte d 21 = 1 → loadReady s (dByte d 20) = true → Completes (.cxKeyLoad r d (.data bs) none) s fun t =>
      slotAt t (dByte d 20) = { Slot.empty with
        use := useHost
        size := decide (dLen d = 32)
        gen := BitVec.ofNat 6 (dByte d 22)
        key := BitVec.ofNat 256 (ofLe bs)
        inve := dByte d 24
        blke := dByte d 25
        lru := s.cx.lru + 1
        netCtr := (slotAt s (dByte d 20)).netCtr } ∧
      resultAt t r (newId r s) = some (resOk 0)) ∧
  (∀ m f, accepts r d 0x44 s = true → loadBad d s = true → Completes (.cxKeyLoad r d m f) s fun t =>
    t.cx = s.cx ∧ resultAt t r (newId r s) = some (resBad 9)) ∧
  (∀ (bs : List Byte) c, accepts r d 0x44 s = true → loadBad d s = false → s.tmp.locked = false → s.cln.hostmode = false → bs.length = dLen d →
    loadReady s (dByte d 20) = true → Completes (.cxKeyLoad r d (.data bs) (some c)) s fun t => (slotAt t (dByte d 20)).fhold = true ∧
      (slotAt t (dByte d 20)).key = BitVec.ofNat 256 (ofLe bs) ∧ (takenAt t r.val (newId r s)).isSome = true ∧
      resultAt t r (newId r s) = none) ∧
  (∀ (i : Fin 64) l, s.cx.loads.find? (fun l => decide (l.slot = i.val) && !l.placed) = some l → loadReady s i.val = true → l.use = useHost →
    Completes (.keyLoadDone i none) s fun t => (slotAt t i.val).use = useHost ∧ (slotAt t i.val).key = l.key ∧
      t.cx.loads = s.cx.loads.filter fun x => decide (x.slot ≠ i.val)) ∧
  (accepts r d 0x45 s = true → dByte d 20 < 64 → Completes (.cxKeyUnload r d) s fun t =>
    t.cx = (updSlot (dByte d 20) (fun k => { k with unload := some ((k.unload.getD []) ++ [(r.val, newId r s)]) }) s).cx) ∧
  (∀ (i : Fin 64) ds, (slotAt s i.val).unload = some ds → (slotAt s i.val).held = 0 → Completes (.keyUnloadDone i) s fun t =>
    slotAt t i.val = { Slot.empty with netCtr := (slotAt s i.val).netCtr } ∧
    ∀ x ∈ ds, (takenAt s x.1 x.2).isSome = true → ((takenAt t x.1 x.2).bind (·.result)).isSome = true) ∧
  (accepts r d 0x46 s = true → s.tmp.locked = false → s.cx.kdk = none → Completes (.cxRekey r d) s fun t =>
    t.cx = s.cx ∧ t.lt = s.lt ∧ resultAt t r (newId r s) = some (resSt 0x23)) ∧
  (accepts r d 0x46 s = true → s.tmp.locked = false → s.cx.kdk.isSome = true →
    eState (entryAt s (dLeaf d).toNat) = stActive ∨ eState (entryAt s (dLeaf d).toNat) = stSilent ∨ eState (entryAt s (dLeaf d).toNat) = stGone →
    Completes (.cxRekey r d) s fun t => resultAt t r (newId r s) = some (resOk 0) ∧ (dLeaf d).toNat ∈ t.lt.rekey) ∧
  (∀ (leaf : BitVec 12) kdk i, (s.line.q.any fun f => decide (f.dst = leaf) && decide ((frameSec f.ty.toNat f.dst).1 = 1) && f.raw.isNone &&
      (decide (f.st = .queued) || decide (f.st = .held))) = true →
    isHead s = true → cachedSlot s leaf.toNat = none → s.tmp.locked = false → s.cx.kdk = some kdk →
    tkFault s leaf.toNat (eTicket (entryAt s leaf.toNat)) kdk = none → pickSlot s [] = some i →
    let k := eTicket (entryAt s leaf.toNat)
    Completes (.ticketUnwrap leaf) s fun t => (slotAt t i).use = useCached ∧ (slotAt t i).owner = leaf ∧ (slotAt t i).size = tkSize k ∧
      (slotAt t i).gen = BitVec.ofNat 6 (tkGen k) ∧ (slotAt t i).key = tkKey kdk leaf.toNat (tkGen k) (tkSize k) (tkSeed k)) ∧
  (∀ v, (slotAt s (fld v 0 6)).fhold = true → s.cx.loads = [] → s.cx.jobs = [] → Completes (.faultHoldClear v) s fun t =>
    t.cx.slot = vupd s.cx.slot (fld v 0 6) fun k => { k with fhold := false }) ∧
  (∀ c : Fin 4, (coreAt s c.val).selfTest = true → s.cx.jobs = [] → Completes (.coreSelfTestDone c true) s fun t =>
    (coreAt t c.val).selfTest = false ∧ (coreAt t c.val).st = restState s c.val) ∧
  (∀ c : Fin 4, (coreAt s c.val).selfTest = true → Completes (.coreSelfTestDone c false) s fun t =>
    (coreAt t c.val).selfTest = false ∧ (coreAt t c.val).st = .faulted) ∧
  (∀ v, bitAt v 31 = false → fld v 0 12 < 64 → (slotAt s (fld v 0 12)).use ≠ useCached → Completes (.slotSelect v) s fun t => t.cx = { s.cx with
    slotSel := v &&& 0x80000FFF
    info := cxRecord (slotAt s (fld v 0 12)).use (slotAt s (fld v 0 12)).size (slotAt s (fld v 0 12)).warn (slotAt s (fld v 0 12)).exh
      (slotAt s (fld v 0 12)).fhold (slotAt s (fld v 0 12)).gen.toNat (keyHeld s (fld v 0 12)) 0 (slotAt s (fld v 0 12)).inv
      (slotAt s (fld v 0 12)).blk })

/-- The check-value unit: parameters, feeding, restart, context, reads (14 R458 to R465, R469 to R471). -/
def Obligations.CheckValues : Prop := ∀ (s : State) (c : Fin 8) (v : Word), devUp s = true →
  (4 ≤ c.val → fld v 16 4 = 0 → (fld v 0 6 = 0 ∨ 32 < fld v 0 6) → Completes (.cvCfgWrite c v) s fun t =>
    t.cv = { s.cv with refused := true, cause := 2, chn := BitVec.ofNat 3 c.val }) ∧
  (4 ≤ c.val → 8 < fld v 16 4 → 0 < fld v 0 6 → fld v 0 6 ≤ 32 → Completes (.cvCfgWrite c v) s fun t =>
    t.cv = { s.cv with refused := true, cause := 3, chn := BitVec.ofNat 3 c.val }) ∧
  (c.val < 4 → Completes (.cvCfgWrite c v) s fun t => t.cv = { s.cv with refused := true, cause := 1, chn := BitVec.ofNat 3 c.val }) ∧
  (4 ≤ c.val → fld v 16 4 = 0 → fld v 0 6 ≠ 0 → fld v 0 6 ≤ 32 → Completes (.cvCfgWrite c v) s fun t =>
    t.cv.ch = vupd s.cv.ch c.val (fun k => { k with
      cfg := v &&& 0x33F
      poly := cvMask (fld v 0 6) k.poly
      init := cvMask (fld v 0 6) k.init
      xorout := cvMask (fld v 0 6) k.xorout
      state := cvMask (fld v 0 6) k.init
      count := 0 })) ∧
  (4 ≤ c.val → fld v 16 4 = 2 → Completes (.cvCfgWrite c v) s fun t =>
    cvAt t c.val = { cfg := 0x20320, poly := 0x1EDC6F41, init := 0xFFFFFFFF, xorout := 0xFFFFFFFF, state := 0xFFFFFFFF, count := 0 }) ∧
  (4 ≤ c.val → Completes (.cvParamWrite c .init v) s fun t => t.cv.ch = vupd s.cv.ch c.val (fun k => { k with
    cfg := k.cfg &&& 0xFFFF
    init := cvMask (cvWidth k) v
    state := cvMask (cvWidth k) v
    count := 0 })) ∧
  (4 ≤ c.val → Completes (.cvDataWrite c 0xF v) s fun t => t.cv.ch = vupd s.cv.ch c.val fun k =>
    cvFeed (BitVec.ofNat 8 (fld v 24 8)) (cvFeed (BitVec.ofNat 8 (fld v 16 8)) (cvFeed (BitVec.ofNat 8 (fld v 8 8))
      (cvFeed (BitVec.ofNat 8 (fld v 0 8)) k)))) ∧
  (4 ≤ c.val → Completes (.cvDataWrite c 0x4 v) s fun t => (cvAt t c.val).count = inc32 (cvAt s c.val).count ∧
    (cvAt t c.val).state = BitVec.ofNat 32 (crcByte (cvWidth (cvAt s c.val)) (cvAt s c.val).poly.toNat (bitAt (cvAt s c.val).cfg 8)
      (cvAt s c.val).state.toNat (BitVec.ofNat 8 (fld v 16 8)))) ∧
  (c.val < 4 → ∀ be, Completes (.cvDataWrite c be v) s fun t => t.cv = s.cv) ∧
  (4 ≤ c.val → bitAt v 0 = true → Completes (.cvRestart c v) s fun t => t.cv.ch = vupd s.cv.ch c.val fun k => { k with state := k.init, count := 0 }) ∧
  (c.val < 4 → Completes (.cvRestart c v) s fun t => t.cv = s.cv) ∧
  (c.val < 4 → Completes (.cvStateWrite c v) s fun t => t.cv = s.cv) ∧
  (4 ≤ c.val → Completes (.cvStateWrite c v) s fun t => t.cv.ch = vupd s.cv.ch c.val fun k => { k with state := cvMask (cvWidth k) v }) ∧
  (Completes (.cvResultRead c .result) s fun t => t.answer = some (cvResult (cvAt s c.val)) ∧ t.cv = s.cv) ∧
  (Completes (.cvResultRead c .state) s fun t => t.answer = some (cvAt s c.val).state ∧ t.cv = s.cv) ∧
  (Completes (.cvResultRead c .count) s fun t => t.answer = some (cvAt s c.val).count ∧ t.cv = s.cv)

/-- Rings enabled and disabled, and their doorbells (15 R478 to R480, R482 to R486, R498). The model's own choices in it: log entry 45.
-/
def Obligations.Rings : Prop := ∀ (s : State) (n : Fin 16) (v : Word), devUp s = true →
  ((sqAt s n.val).st = .disabled → bitAt v 31 = true → s.cln.hostmode = false → (sqAt s n.val).base.toNat % 64 = 0 → 4 ≤ fld v 0 5 →
    fld v 0 5 ≤ 16 → (cqAt s (fld v 16 4)).st = .running → fld v 24 2 ≠ 3 → Completes (.ringEnable .sq n v) s fun t =>
      t.hi.sq = vupd s.hi.sq n.val (fun q => { q with cfg := v &&& 0x833F001F, st := .running, read := 0, tail := 0, bell := 0, taken := [] })) ∧
  ((sqAt s n.val).st = .disabled → bitAt v 31 = true → s.cln.hostmode = false → (sqAt s n.val).base.toNat % 64 = 0 →
    (fld v 0 5 < 4 ∨ 16 < fld v 0 5) → Completes (.ringEnable .sq n v) s fun t => t.hi.sq = s.hi.sq ∧ t.hi.refused = true ∧ t.hi.cause = 2 ∧
      t.hi.causeCq = false ∧ t.hi.causeRing = BitVec.ofNat 4 n.val) ∧
  ((sqAt s n.val).st = .disabled → bitAt v 31 = true → s.cln.hostmode = false → (sqAt s n.val).base.toNat % 64 = 0 → 4 ≤ fld v 0 5 →
    fld v 0 5 ≤ 16 → (cqAt s (fld v 16 4)).st ≠ .running → Completes (.ringEnable .sq n v) s fun t => t.hi.sq = s.hi.sq ∧
      t.hi.refused = true ∧ t.hi.cause = 4) ∧
  ((cqAt s n.val).st = .disabled → bitAt v 31 = true → s.cln.hostmode = false → (cqAt s n.val).base.toNat % 16 = 0 → 4 ≤ fld v 0 5 →
    fld v 0 5 ≤ 16 → fld v 8 8 ≠ 0 → Completes (.ringEnable .cq n v) s fun t => t.hi.cq = vupd s.hi.cq n.val (fun c => { c with
      cfg := v &&& 0x8FFFFF1F
      st := .running
      armed := false
      head := 0
      tail := 0
      seq := 1
      bell := 0
      reserved := 0
      written := [] })) ∧
  ((sqAt s n.val).st ≠ .disabled → bitAt v 31 = false → (v &&& 0x833F001F).setWidth 31 = (sqAt s n.val).cfg.setWidth 31 →
    Completes (.ringDisable .sq n v) s fun t => t.hi.sq = vupd s.hi.sq n.val (fun q => { q with
      cfg := v &&& 0x833F001F
      st := if q.taken.isEmpty then .disabled else .stopping
      fcause := 0 })) ∧
  ((sqAt s n.val).st ≠ .disabled → bitAt v 31 = true → Completes (.ringDisable .sq n v) s fun t => t.hi.sq = s.hi.sq ∧
    t.hi.refused = true ∧ t.hi.cause = 3) ∧
  ((cqAt s n.val).st ≠ .disabled → bitAt v 31 = false → fld v 8 8 ≠ 0 → (v &&& 0x8FFFFF1F).setWidth 31 = (cqAt s n.val).cfg.setWidth 31 →
    cqInUse s n.val = true → Completes (.ringDisable .cq n v) s fun t => t.hi.cq = s.hi.cq ∧ t.hi.refused = true ∧ t.hi.cause = 5) ∧
  ((cqAt s n.val).st ≠ .disabled → bitAt v 31 = false → fld v 8 8 ≠ 0 → (v &&& 0x8FFFFF1F).setWidth 31 = (cqAt s n.val).cfg.setWidth 31 →
    cqInUse s n.val = false → Completes (.ringDisable .cq n v) s fun t => (cqAt t n.val).st = .disabled ∧ (cqAt t n.val).reserved = 0) ∧
  ((sqAt s n.val).st = .running → fld v 0 16 < ringSize (sqAt s n.val).cfg →
    ringGap (ringSize (sqAt s n.val).cfg) (sqOldest (sqAt s n.val)) (sqAt s n.val).tail ≤
      ringGap (ringSize (sqAt s n.val).cfg) (sqOldest (sqAt s n.val)) (fld v 0 16) →
    Completes (.sqDoorbell n v) s fun t => t.hi = (updSq n.val (fun q => { q with tail := fld v 0 16, bell := v &&& 0xFFFF }) s).hi) ∧
  ((sqAt s n.val).st = .running → ringSize (sqAt s n.val).cfg ≤ fld v 0 16 → Completes (.sqDoorbell n v) s fun t =>
    t.hi = (updSq n.val (fun q => { q with st := .fault, fcause := 1 }) s).hi) ∧
  ((sqAt s n.val).st ≠ .running → Completes (.sqDoorbell n v) s fun t => t.hi = s.hi) ∧
  ((cqAt s n.val).st = .running → bitAt v 31 = true → fld v 0 16 = (cqAt s n.val).tail → (cqAt s n.val).tail < ringSize (cqAt s n.val).cfg →
    cqDue { cqAt s n.val with head := (cqAt s n.val).tail, written := (cqAt s n.val).written.drop (ringGap (ringSize (cqAt s n.val).cfg) (cqAt s n.val).head (cqAt s n.val).tail) } s.now = false →
    Completes (.cqDoorbell n v) s fun t => (cqAt t n.val).head = fld v 0 16 ∧ (cqAt t n.val).armed = true) ∧
  ((cqAt s n.val).st = .running → ringSize (cqAt s n.val).cfg ≤ fld v 0 16 → Completes (.cqDoorbell n v) s fun t =>
    (cqAt t n.val).st = .fault) ∧
  ((cqAt s n.val).armed = true → fld (cqAt s n.val).cfg 16 12 ≠ 0 → cqUnconsumed (cqAt s n.val) ≠ 0 → Completes (.cqDelayExpiry n) s fun t =>
    t.hi = (updCq n.val (fun c => { c with armed := false }) s).hi) ∧
  (bitAt v 0 = false → s.msix.pend = true → Completes (.msixUnmask v) s fun t =>
    t.msix = { s.msix with mask := false, pend := false, sent := s.msix.sent + 1 })

/-- Descriptors: NOP, unknown opcodes, read errors, LINE_TX, RX_POST, the REMOTE ones, LEDGER_SNAP, MSS_REQUEST, and the completion
record (15 R492 to R496, R499, R500, R502, R503; 08 R277 to R281; 17 R535, R537 to R540). The model's own choices in it: log entries
25, 26, 28, 46. -/
def Obligations.Descriptors : Prop := ∀ (s : State) (r : Fin 16) (d : DescBytes), devUp s = true →
  (accepts r d 0 s = true → Completes (.nop r d) s fun t => resultAt t r (newId r s) = some (resOk 0) ∧
    (sqAt t r.val).read = ((sqAt s r.val).read + 1) % ringSize (sqAt s r.val).cfg ∧
    (cqAt t (sqCq (sqAt s r.val))).reserved = (cqAt s (sqCq (sqAt s r.val))).reserved + 1) ∧
  (isServed r.val s = true → fenceOk r.val d s = true → knownOps.contains (dOp d) = false → idFresh r s = true →
    Completes (.unknownOpcode r d) s fun t => resultAt t r (newId r s) = some (resBad 1)) ∧
  (isServed r.val s = true → Completes (.descriptorReadError r) s fun t =>
    t.hi = (updSq r.val (fun q => { q with st := .fault, fcause := 2 }) s).hi) ∧
  (accepts r d 0x11 s = true → 528 ≤ dLen d → s.hi.rxWait = [] → Completes (.rxPost r d) s fun t =>
    t.hi.rxPosts = s.hi.rxPosts ++ [{ ring := r.val, desc := newId r s, addr := dAddr d, len := dLen d }] ∧
    (takenAt t r.val (newId r s)).isSome = true) ∧
  (∀ bs : List Byte, bufFree s (dExpress d) = true → accepts r d 0x10 s = true → bs.length = dLen d → dLen d ≤ 512 → s.cln.hostmode = false →
    s.tmp.locked = false → isHead s = true → dLeaf d ≠ 0 →
    dLeaf d = bcast ∨ (eState (entryAt s (dLeaf d).toNat) ≠ stFree ∧ eState (entryAt s (dLeaf d).toNat) ≠ stGone) →
    Completes (.lineTx r d (.data bs)) s fun t =>
      t.line.q = s.line.q ++ [{ descFrame r.val (newId r s) d tyData (dLeaf d) bs s with ackreq := decide (dLeaf d ≠ bcast) }] ∧
      t.hi.bufsUsed = s.hi.bufsUsed + 1) ∧
  (∀ m, bufFree s (dExpress d) = true → accepts r d 0x10 s = true → 512 < dLen d → Completes (.lineTx r d m) s fun t =>
    t.line = s.line ∧ resultAt t r (newId r s) = some (resBad 3)) ∧
  (accepts r d 0x20 s = true → remoteCheck d = none → s.tmp.locked = false → isHead s = true →
    eState (entryAt s (dLeaf d).toNat) ≠ stFree → eState (entryAt s (dLeaf d).toNat) ≠ stGone → Completes (.remoteRead r d) s fun t =>
      t.line.q = s.line.q ++
        [{ descFrame r.val (newId r s) d tyRemote (dLeaf d) (remoteBody 0 (dLen d / 4) 0 (field512 d 28 4) []) s with buffer := false }]) ∧
  (∀ bs : List Byte, bufFree s (dExpress d) = true → accepts r d 0x21 s = true → remoteCheck d = none → dPosted d = false →
    s.tmp.locked = false → s.cln.hostmode = false → bs.length = dLen d → isHead s = true → eState (entryAt s (dLeaf d).toNat) ≠ stFree →
    eState (entryAt s (dLeaf d).toNat) ≠ stGone → ePfail (entryAt s (dLeaf d).toNat) = false → Completes (.remoteWrite r d (.data bs)) s fun t =>
      t.line.q = s.line.q ++
        [{ descFrame r.val (newId r s) d tyRemote (dLeaf d) (remoteBody 1 (dLen d / 4) 0 (field512 d 28 4) bs) s with posted := false }] ∧
      t.hi.bufsUsed = s.hi.bufsUsed + 1) ∧
  (accepts r d 0x22 s = true → dLeaf d ≠ 0 → dLeaf d ≠ bcast → s.tmp.locked = false → s.ltx.fences = [] →
    (s.line.q.any fun f => f.posted && decide (f.dst = dLeaf d)) = false → ePfail (entryAt s (dLeaf d).toNat) = false →
    Completes (.remoteFence r d) s fun t => resultAt t r (newId r s) = some (resOk 0) ∧ t.ltx.fences = []) ∧
  (accepts r d 0x50 s = true → dAddr d % 32 = 0 → 32 ≤ dLen d → s.cln.hostmode = false →
    let k := (takeDesc r.val d s).2
    let u := { k with lg := { k.lg with snapCnt := inc32 s.lg.snapCnt } }
    let n := min (snapKeys u).length ((dLen d - 32) / 32)
    Completes (.ledgerSnap r d) s fun t => resultAt t r (newId r s) = some (resOk (32 + 32 * n)) ∧ t.lg = u.lg ∧
      t.hostMem = spPutBytes s.hostMem (dAddr d) (snapHeader u (snapKeys u).length n ++ (((snapKeys u).take n).map (snapEntry u)).flatten)) ∧
  (∀ bs : List Byte, mailCount s < 32 → accepts r d 0x60 s = true → 4 ≤ dLen d → dLen d ≤ 256 → field512 d 32 4 ≤ 4096 → s.mss.st = 1 →
    s.cln.hostmode = false → bs.length = dLen d → mailCmds.contains (leAt bs 0 2) = true →
    (s.mss.mail.all fun m => mailCmds.contains (mailCmd m)) = true → Completes (.mssRequest r d (.data bs)) s fun t =>
      t.mss.mail = s.mss.mail ++ [{ ring := r.val, desc := newId r s, req := bs, addr := field512 d 24 8, cap := field512 d 32 4 }] ∧
      ((takenAt t r.val (newId r s)).map (·.mail)) = some true) ∧
  (∀ bs : List Byte, mailCount s < 32 → accepts r d 0x60 s = true → 4 ≤ dLen d → dLen d ≤ 256 → field512 d 32 4 ≤ 4096 → s.mss.st = 1 →
    s.cln.hostmode = false → bs.length = dLen d → mailCmds.contains (leAt bs 0 2) = false → s.mss.mail = [] →
    Completes (.mssRequest r d (.data bs)) s fun t => t.mss.mail = [] ∧ resultAt t r (newId r s) = some (resOk 4) ∧
      t.hostMem = spPutBytes s.hostMem (field512 d 24 8) (bs.take 2 ++ [1, 0])) ∧
  (∀ k l res, (sqAt s r.val).taken = k :: l → k.result = some res → evAwake s = true → (cqAt s (sqCq (sqAt s r.val))).st = .running →
    s.mss.restartDue = none → s.mss.prof = none → s.tmp.zero = [] → s.lg.resets = [] → k.events = [] → dEvent k.bytes = false →
    (cqAt s (sqCq (sqAt s r.val))).armed = false → Completes (.completionPost r) s fun t =>
      (sqAt t r.val).taken = l ∧
      (cqAt t (sqCq (sqAt s r.val))).tail = ((cqAt s (sqCq (sqAt s r.val))).tail + 1) % ringSize (cqAt s (sqCq (sqAt s r.val))).cfg ∧
      t.hostMem = spPutBytes s.hostMem ((cqAt s (sqCq (sqAt s r.val))).base.toNat + 16 * (cqAt s (sqCq (sqAt s r.val))).tail)
        (cplBytes r.val k res (cqAt s (sqCq (sqAt s r.val))).seq))

/-- The event ring and the ledgers (16 R510, R512 to R517, R521; 17 R532, R533, R541, R542). The model's own choices in it: log entry
27. -/
def Obligations.EventRing : Prop := ∀ (s : State) (v : Word), devUp s = true →
  (s.ev.st = .disabled → bitAt v 31 = true → s.cln.hostmode = false → s.ev.base.toNat % 32 = 0 → 6 ≤ fld v 0 5 → fld v 0 5 ≤ 16 →
    fld v 8 8 ≠ 0 → s.ev.held = [] → s.ev.coal = [] → s.ev.mode = .normal → s.mssx.replayed = true → evAwake s = true →
    Completes (.eventRingEnable v) s fun t => t.ev.st = .running ∧ t.ev.cfg = v &&& 0x8FFFFF1F ∧ t.ev.tail = 1 ∧
      t.ev.nextSeq = nextSeqNo s.ev.nextSeq ∧ t.hostMem = spPutBytes s.hostMem s.ev.base.toNat (recBytes
        { seq := s.ev.nextSeq, code := 0x0D09, source := 0x00FF, sec := s.te.sec.setWidth 32, ns := BitVec.ofNat 32 s.te.ns,
          payload := payload [(0, 1, s.ev.startCause.toNat), (4, 4, 0), (8, 4, 0), (12, 4, s.lg.epoch.toNat)] })) ∧
  (s.ev.st = .disabled → bitAt v 31 = true → s.cln.hostmode = false → s.ev.base.toNat % 32 = 0 → (fld v 0 5 < 6 ∨ 16 < fld v 0 5) →
    Completes (.eventRingEnable v) s fun t => t.ev.st = .disabled ∧ t.ev.refused = true ∧ t.ev.cause = 2) ∧
  (s.ev.st ≠ .disabled → bitAt v 31 = false → fld v 8 8 ≠ 0 → (v &&& 0x8FFFFF1F).setWidth 31 = s.ev.cfg.setWidth 31 →
    Completes (.eventRingDisable v) s fun t => t.ev.st = .disabled ∧ t.ev.armed = false ∧ t.ev.held = s.ev.held) ∧
  (s.ev.st ≠ .disabled → bitAt v 31 = true → Completes (.eventRingDisable v) s fun t => t.ev.refused = true ∧ t.ev.cause = 3 ∧
    t.ev.st = s.ev.st ∧ t.ev.cfg = s.ev.cfg) ∧
  (s.ev.st = .running → s.ev.held = [] → s.ev.coal = [] → s.ev.mode = .normal → s.ev.armed = false → bitAt v 31 = false →
    fld v 0 16 < ringSize s.ev.cfg →
    ringGap (ringSize s.ev.cfg) s.ev.head (fld v 0 16) ≤ ringGap (ringSize s.ev.cfg) s.ev.head s.ev.tail →
    Completes (.eventDoorbell v) s fun t => t.ev = { s.ev with
      head := fld v 0 16
      bell := v &&& 0x8000FFFF
      written := s.ev.written.drop (ringGap (ringSize s.ev.cfg) s.ev.head (fld v 0 16)) }) ∧
  (s.ev.st = .running → ringSize s.ev.cfg ≤ fld v 0 16 → Completes (.eventDoorbell v) s fun t => t.ev = { s.ev with st := .fault }) ∧
  (∀ r, s.ev.held = [r] → s.ev.mode = .holding → s.ev.armed = false → evMayWrite s = true → Completes .eventRecordWrite s fun t =>
    t.ev.held = [] ∧ t.ev.mode = .normal ∧ t.ev.tail = (s.ev.tail + 1) % ringSize s.ev.cfg ∧
    t.hostMem = spPutBytes s.hostMem (s.ev.base.toNat + 32 * s.ev.tail) (recBytes r)) ∧
  (s.ev.armed = true → evAwake s = true → fld s.ev.cfg 16 12 ≠ 0 → evUnconsumed s.ev ≠ 0 → s.msix.mask = false →
    Completes .eventNotifyDelay s fun t => t.ev = { s.ev with armed := false } ∧ t.msix = { s.msix with sent := s.msix.sent + 1 }) ∧
  (∀ (c : Fin 8) i, Completes (.ledgerEccError c i) s fun t => t.lg.fault.getLsbD c.val = true) ∧
  (bitAt v 31 = true → fld v 0 4 = 4 → classFaulted s 4 = true → 0 < s.hi.bufsUsed → s.hi.bufsUsed < 4294967296 →
    Completes (.ledgerReinit v) s fun t => classFaulted t 4 = false ∧ lgGet (4, 0) t.lg.inst = { lgGet (4, 0) s.lg.inst with
      issued := BitVec.ofNat 64 s.hi.bufsUsed
      returned := 0
      held := BitVec.ofNat 32 s.hi.bufsUsed }) ∧
  (bitAt v 31 = true → 1 ≤ fld v 0 4 → fld v 0 4 ≤ 8 → classFaulted s (fld v 0 4) = false → Completes (.ledgerReinit v) s fun t =>
    t.lg = { s.lg with refused := true, cause := 3 }) ∧
  (bitAt v 31 = true → 0x10 ≤ fld v 0 8 → fld v 0 8 ≤ 0x17 → (s.lg.resets.any fun r => decide (r.unit.toNat = fld v 0 8)) = false →
    Completes (.unitReset v) s fun t => (chAt t (Fin.ofNat 8 (fld v 0 8 - 0x10))).st = .stopped ∧
      (chAt t (Fin.ofNat 8 (fld v 0 8 - 0x10))).retune = none ∧
      (chAt t (Fin.ofNat 8 (fld v 0 8 - 0x10))).steps = (chAt s (Fin.ofNat 8 (fld v 0 8 - 0x10))).steps) ∧
  (bitAt v 31 = true → 0x20 ≤ fld v 0 8 → fld v 0 8 ≤ 0x23 → (s.lg.resets.any fun r => decide (r.unit.toNat = fld v 0 8)) = false →
    Completes (.unitReset v) s fun t => (coreAt t (fld v 0 8 - 0x20)).st = .faulted ∧ (coreAt t (fld v 0 8 - 0x20)).selfTest = true ∧
      (coreAt t (fld v 0 8 - 0x20)).job = none) ∧
  (bitAt v 31 = true → (fld v 0 8 < 0x10 ∨ (0x17 < fld v 0 8 ∧ fld v 0 8 < 0x20) ∨ (0x23 < fld v 0 8 ∧ fld v 0 8 ≠ 0x38)) →
    Completes (.unitReset v) s fun t => t.lg = { s.lg with refused := true, cause := 2 } ∧ t.rg = s.rg ∧ t.cx = s.cx ∧ t.mss = s.mss)

/-- Sensors, forced actions, trips, unit views, the log, the watchdog and the trial boot (18 R558 to R569, R575, R576, R582). The
model's own choices in it: log entry 16. -/
def Obligations.Management : Prop := ∀ s : State, devUp s = true →
  (∀ i (v : Word), mssUp s = true → sensKnown i = true → sensReadable s i = true → v ≠ noReading → Completes (.sensorSample i v) s fun t =>
    (sensAt t i).value = v ∧ (sensAt t i).raw = sensSide (sensAt s i) v ∧
    ((sensAt s i).side = 0 → (sensAt t i).side = sensSide (sensAt s i) v)) ∧
  (∀ i a, s.mssx.acts[i]? = some a → mssUp s = true → a.clearSince.isSome = true → a.hostWrote = false → 4 ≤ a.unit → a.unit ≤ 6 →
    Completes (.forcedActionRestore i) s fun t => bitAt (portS t (a.unit - 4)).pctrl 0 = true ∧
      t.mssx.acts = s.mssx.acts.filter fun b => decide (b ≠ a)) ∧
  (∀ i a, s.mssx.acts[i]? = some a → mssUp s = true → a.clearSince.isSome = true → a.hostWrote = true →
    Completes (.forcedActionRestore i) s fun t => t.mssx.acts = (s.mssx.acts.filter fun b => decide (b ≠ a)) ∧ t.afe = s.afe ∧ t.cx = s.cx) ∧
  (Completes (.hwTrip .vdda) s fun t => ∀ p : Fin 3, bitAt (portS t p.val).pctrl 0 = false) ∧
  (Completes (.hwTrip .temp) s fun t => (∀ p : Fin 3, bitAt (portS t p.val).pctrl 0 = false) ∧ t.cx.coreEn = s.cx.coreEn &&& 1) ∧
  (mssUp s = true → evAwake s = true → Completes .unitViewCompare s fun t => ∀ u ∈ units,
    (hwState s u = viewOf s u → (t.mssx.mism.any fun m => decide (m.1 = u)) = false) ∧
    (hwState s u ≠ viewOf s u → (s.mssx.mism.any fun m => decide (m.1 = u)) = false → (u, s.now, false) ∈ t.mssx.mism)) ∧
  (∀ l r, s.mssx.logBuf = l :: r → (s.mssx.logSeq.toNat % 64 ≠ 0 ∨ s.mssx.log.length + 64 ≤ 4096) → s.mssx.logDropped = 0 →
    Completes .logWrite s fun t => t.mssx = { s.mssx with
      logBuf := r
      log := s.mssx.log ++ [{ l with seq := s.mssx.logSeq }]
      logSeq := s.mssx.logSeq + 1 }) ∧
  (s.mss.loaded = true → s.mss.st ≠ 3 → Completes .watchdogExpiry s fun t => t.mss.startCause = 3 ∧ t.mss.mail = [] ∧ t.mss.sess = none ∧
    t.mss.bootAt = s.now ∧ (t.mss.st = 2 ∨ t.mss.st = 3)) ∧
  (s.mss.trial = true → mssUp s = false → bootCounts s = true → Completes .trialTimeout s fun t => (bootState t).pending = false ∧ (bootState t).tries = 0 ∧
    t.mss.bootAt = s.now ∧ t.mss.trial = false ∧ (5, 0x10, imageSlot !(bootState s).active) ∈ t.mss.updateDue) ∧
  (∀ v, bitAt v 0 = true → Completes (.mssLock v) s fun t => t.mss = { s.mss with lock := true })

/-- Mailbox commands of information, sensors and restart (18 R555, R556, R559 to R561, R566, R567, Table 18.3). The model's own choices
in it: log entry 16. -/
def Obligations.Mailbox : Prop := ∀ (s : State) (m : Mail), devUp s = true → mailLive m s = true →
  (serving 0x01 0 m s = true → Completes .getInfo s fun t => t.mss.mail = s.mss.mail.drop 1 ∧
    ((takenAt t m.ring m.desc).bind (·.result)).isSome = true) ∧
  (∀ l, serving 0x02 0 m s = true → 412 ≤ m.cap → Completes (.readSensors l) s fun t => t.mss.mail = s.mss.mail.drop 1 ∧
    ((takenAt t m.ring m.desc).bind (·.result)).isSome = true ∧
    ∀ i : Fin 16, i.val < l.length → sensReadable s i.val = true → (sensAt t i.val).value = l.getD i.val 0) ∧
  (serving 0x03 13 m s = true → sensKnown (leAt m.req 4 1) = true →
    let low : Word := BitVec.ofNat 32 (leAt m.req 5 4)
    let high : Word := BitVec.ofNat 32 (leAt m.req 9 4)
    let hyst : Word := BitVec.ofNat 32 (leAt m.req 13 4)
    low.toInt < high.toInt → 0 ≤ hyst.toInt → 2 * hyst.toInt < high.toInt - low.toInt → Completes .setThreshold s fun t => Answered m 4 s t ∧
      sensAt t (leAt m.req 4 1) = { sensAt s (leAt m.req 4 1) with low := some low, high := some high, hyst := hyst } ∧
      t.hostMem = spPutBytes s.hostMem m.addr (reply m 0 [])) ∧
  (serving 0x04 5 m s = true → leAt m.req 4 1 ≤ 2 → Completes .setMainscal s fun t => Answered m 4 s t ∧
    t.mssx.mainscal = vupd s.mssx.mainscal (leAt m.req 4 1) fun _ => some (BitVec.ofNat 32 (leAt m.req 5 4))) ∧
  (serving 0x05 0 m s = true → 4 + 8 * units.length ≤ m.cap → Completes .getReport s fun t => Answered m (4 + 8 * units.length) s t ∧
    t.hostMem = spPutBytes s.hostMem m.addr (reply m 0 (units.flatMap fun u =>
      [BitVec.ofNat 8 u, BitVec.ofNat 8 (hwState s u), BitVec.ofNat 8 (viewOf s u), BitVec.ofNat 8 (ofBool (actedOn s u))] ++
        leBytes 4 (mismMs s u)))) ∧
  (serving 0x06 1 m s = true → units.contains (leAt m.req 4 1) = true → Completes .ackMismatch s fun t => Answered m 4 s t ∧
    t.mssx.view = spPut 1 (leAt m.req 4 1) (hwState s (leAt m.req 4 1)) s.mssx.view ∧
    t.mssx.mism = s.mssx.mism.filter fun x => decide (x.1 ≠ leAt m.req 4 1)) ∧
  (serving 0x07 0 m s = true → Completes .restart s fun t => Answered m 4 s t ∧ t.mss.restartDue = some (m.ring, m.desc, 2)) ∧
  (serving 0x10 5 m s = true → 1 ≤ leAt m.req 8 1 → leAt m.req 8 1 ≤ 63 →
    let l := ((s.mssx.log.filter fun l => decide (leAt m.req 4 4 ≤ l.seq.toNat)).take (leAt m.req 8 1)).flatMap logBytes
    (4 + l.length ≤ m.cap) → Completes .logRead s fun t => Answered m (4 + l.length) s t ∧
      t.hostMem = spPutBytes s.hostMem m.addr (reply m 0 l))

/-- The update procedure and the OTP key (18 R557, R574, R575, Table 18.8). The model's own choices in it: log entry 16. -/
def Obligations.Updates : Prop := ∀ (s : State) (m : Mail), devUp s = true → mailLive m s = true →
  (serving 0x20 5 m s = true → s.mss.sess = none → leAt m.req 4 1 ≤ 1 → updateLenOk (leAt m.req 4 1) (leAt m.req 5 4) = true →
    bootCounts s = true → Completes .updateBegin s fun t => t.mss.mail = s.mss.mail.drop 1 ∧
      t.mss.sess = some { target := updateSlot s (leAt m.req 4 1), len := leAt m.req 5 4, received := 0, data := [], verified := false } ∧
      (bootState t).slotValid.getLsbD (updateSlot s (leAt m.req 4 1)) = false ∧ imgAt t (updateSlot s (leAt m.req 4 1)) = []) ∧
  (serving 0x20 5 m s = true → s.mss.sess.isSome = true → Completes .updateBegin s fun t => Answered m 4 s t ∧ t.mss.sess = s.mss.sess ∧
    t.hostMem = spPutBytes s.hostMem m.addr (reply m 3 [])) ∧
  (∀ x, serving 0x21 4 m s = true → s.mss.sess = some x → leAt m.req 4 4 = x.received → m.req.drop 8 ≠ [] →
    x.received + (m.req.drop 8).length ≤ x.len → Completes .updateData s fun t => Answered m 4 s t ∧
      t.mss.sess = some { x with received := x.received + (m.req.drop 8).length, data := x.data ++ m.req.drop 8 }) ∧
  (∀ x, serving 0x22 0 m s = true → s.mss.sess = some x → x.received = x.len → bootCounts s = true → Completes .updateCommit s fun t => Answered m 4 s t ∧
    t.mss.sess = (if (imgFault s (if x.target < 2 then 1 else 2) x.data).isNone then some { x with verified := true } else none) ∧
    (x.target < 4 → imgFault s (if x.target < 2 then 1 else 2) x.data = none → (bootState t).slotValid.getLsbD x.target = true)) ∧
  (∀ x, serving 0x22 0 m s = true → s.mss.sess = some x → x.received ≠ x.len → Completes .updateCommit s fun t => Answered m 4 s t ∧
    t.mss.sess = none) ∧
  (∀ x, serving 0x23 0 m s = true → s.mss.sess = some x → x.verified = true → x.target < 2 → bootCounts s = true → Completes .updateActivate s fun t =>
    Answered m 4 s t ∧ t.mss.sess = none ∧ (bootState t).pending = true ∧ (bootState t).tries = 1 ∧
    t.mss.restartDue = some (m.ring, m.desc, 1)) ∧
  (∀ x, serving 0x23 0 m s = true → s.mss.sess = some x → x.verified = true → 2 ≤ x.target → bootCounts s = true → Completes .updateActivate s fun t =>
    Answered m 4 s t ∧ t.mss.sess = none ∧ (bootState t).profile = some (decide (x.target = 3)) ∧ t.mss.restartDue = s.mss.restartDue) ∧
  (∀ x, serving 0x24 0 m s = true → s.mss.sess = some x → Completes .updateAbort s fun t => Answered m 4 s t ∧ t.mss.sess = none ∧
    t.mssx.boot = s.mssx.boot) ∧
  (serving 0x24 0 m s = true → s.mss.sess = none → Completes .updateAbort s fun t => Answered m 4 s t ∧
    t.hostMem = spPutBytes s.hostMem m.addr (reply m 4 [])) ∧
  (serving 0x25 0 m s = true → s.mssx.otpKey = none → leAt m.req 36 1 = 0x5A → leAt m.req 37 1 = 0xA5 → Completes .otpProfkey s fun t =>
    Answered m 4 s t ∧ t.mssx.otpKey = some (BitVec.ofNat 256 (leAt m.req 4 32))) ∧
  (serving 0x25 0 m s = true → s.mssx.otpKey.isSome = true → Completes .otpProfkey s fun t => Answered m 4 s t ∧
    t.mssx.otpKey = s.mssx.otpKey ∧ t.hostMem = spPutBytes s.hostMem m.addr (reply m 8 []))

/-- SMBus (18 R558, R578 to R580, 22 R655). The model's own choices in it: log entry 16. -/
def Obligations.Smbus : Prop := ∀ (s : State) (m : Mail), devUp s = true →
  (∀ (bs : List Byte), mailLive m s = true → serving 0x30 5 m s = true → smbEn s = true → smbReads (leAt m.req 5 1) = true →
    leAt m.req 7 1 = 0 → leAt m.req 8 1 = 0 → 4 + bs.length ≤ m.cap → Completes (.smbusXfer (.ok bs)) s fun t =>
      Answered m (4 + bs.length) s t ∧ t.hostMem = spPutBytes s.hostMem m.addr (reply m 0 bs)) ∧
  (mailLive m s = true → serving 0x30 5 m s = true → smbEn s = true → leAt m.req 5 1 ≤ 9 → leAt m.req 8 1 = 0 →
    Completes (.smbusXfer .nack) s fun t => Answered m 4 s t ∧ t.hostMem = spPutBytes s.hostMem m.addr (reply m 9 [])) ∧
  (mailLive m s = true → serving 0x31 6 m s = true → 32 ≤ leAt m.req 4 1 → leAt m.req 4 1 ≤ 63 → leAt m.req 9 1 = 0 →
    Completes .smbSensor s fun t => Answered m 4 s t ∧ t.mssx.smbSens = s.mssx.smbSens.filter (fun y => decide (y.idx ≠ leAt m.req 4 1)) ++
      [{ idx := leAt m.req 4 1, addr := m.req.getD 5 0, cmd := m.req.getD 6 0, fmt := 0, exp := m.req.getD 10 0,
         period := BitVec.ofNat 16 (leAt m.req 7 2) }]) ∧
  (∀ i x bs, s.mssx.smbSens.find? (fun x => decide (x.idx = i)) = some x → 32 ≤ i → mssUp s = true → smbEn s = true → 2 ≤ bs.length →
    Completes (.smbSensorPoll i (.ok bs)) s fun t => (sensAt t i).value = smbValue x bs) ∧
  (∀ i x, s.mssx.smbSens.find? (fun x => decide (x.idx = i)) = some x → 32 ≤ i → mssUp s = true → smbEn s = true →
    Completes (.smbSensorPoll i .nack) s fun t => (sensAt t i).value = noReading) ∧
  (∀ x bs, s.mssx.smbSens = [x] → 32 ≤ x.idx → mssUp s = true → smbEn s = true → inputLevel s 17 = false → 2 ≤ bs.length →
    Completes (.smbAlert [.ok bs]) s fun t => (sensAt t x.idx).value = smbValue x bs) ∧
  (∀ (a : Byte) (v : BitVec 16), mssUp s = true → smbEn s = true → bitAt s.mss.smbcfg 1 = true → s.ev.mode = .holding →
    Completes (.smbusHostNotify a v) s fun t => 
      let r : EvRec := { seq := s.ev.nextSeq, code := 0x0909, source := 0x10FF, sec := s.te.sec.setWidth 32, ns := BitVec.ofNat 32 s.te.ns, payload := payload [(0, 1, a.toNat), (1, 2, v.toNat)] }
      t.ev.held = s.ev.held ++ [r])

/-- The registers of a profile are applied in autonomous operation, record by record (18 R577). The model's own choices in it: log
entry 16. -/
def Obligations.Profiles : Prop := ∀ s : State, devUp s = true →
  (s.cln.hostmode = true → mssUp s = true → s.mss.prof = none → Completes .profileApply s fun t =>
    t.mss.prof = (activeProfile s).map fun bs => { bytes := bs, index := 0, waitDesc := none }) ∧
  (∀ (b : Bool) (off : BitVec 16) v r p, profileRecord 1 s = some r → s.mss.prof = some p → decide (leAt r 0 1 = 2) = b →
    leAt r 4 4 = off.toNat → leAt r 8 4 = v.toNat → baltonRefused b off.toNat v s = false → Completes (.profileWrite b off v) s fun t =>
      t = profileNext (4 + r.length) (writeReg .balton b off.toNat 0xF v s)) ∧
  (∀ (b : Bool) (off : BitVec 16) v r, profileRecord 1 s = some r → decide (leAt r 0 1 = 2) = b →
    leAt r 4 4 = off.toNat → leAt r 8 4 = v.toNat → baltonRefused b off.toNat v s = true → Completes (.profileWrite b off v) s fun t =>
      (t.mss.prof.all fun q => q.bytes.isEmpty) = true) ∧
  (∀ a (bs : List Byte) r p, profileRecord 2 s = some r → s.mss.prof = some p → leAt r 0 4 = a.toNat → r.drop 4 = bs →
    regionOk s a.toNat bs.length = true → Completes (.profileData a bs) s fun t => t.hostMem = spPutBytes s.hostMem a.toNat bs ∧
      t.mss.prof = some { bytes := p.bytes.drop (4 + r.length), index := p.index + 1, waitDesc := none }) ∧
  (∀ (d : DescBytes) r p, profileRecord 3 s = some r → s.mss.prof = some p → leAt r 0 64 = d.toNat → (sqAt s 0).st = .running →
    (sqAt s 0).tail = (sqAt s 0).read → (sqAt s 0).read < ringSize (sqAt s 0).cfg → fld (sqAt s 0).cfg 0 5 ≤ 16 →
    (sqAt s 0).taken.length + 1 < ringSize (sqAt s 0).cfg → Completes (.profileDesc d) s fun t =>
      t.hostMem = spPutBytes s.hostMem ((sqAt s 0).base.toNat + 64 * (sqAt s 0).tail) (leBytes 64 d.toNat) ∧
      (sqAt t 0).tail = ((sqAt s 0).tail + 1) % ringSize (sqAt s 0).cfg ∧
      t.mss.prof = some { p with waitDesc := some (sqAt s 0).nextId }) ∧
  (∀ r p, profileRecord 4 s = some r → s.mss.prof = some p → s.cln.confirmed = true → Completes (.profileConfirm s.cln.role) s fun t =>
    t.mss.prof = some { bytes := p.bytes.drop (4 + r.length), index := p.index + 1, waitDesc := none }) ∧
  (∀ r p, profileRecord 4 s = some r → s.mss.prof = some p → s.cln.confirmed = false → strapsValid s = true → s.life.mssReadySeen = true →
    Completes (.profileConfirm s.cln.role) s fun t => t.cln.confirmed = true) ∧
  (∀ r p, profileRecord 0 s = some r → s.mss.prof = some p → Completes .profileEnd s fun t =>
    t.mss.prof = some { p with bytes := [], waitDesc := none })

/-- Register accesses: byte enables, the two halves of a register pair, and plain writes (15 R476, 23 R673, R675 to R682). The model's
own choices in it: log entry 53. -/
def Obligations.RegisterAccess : Prop := ∀ (s : State) (a : Agent) (b : Bool) (off : BitVec 16) (v : Word), devUp s = true →
  (∀ be : BitVec 4, be ≠ 0xF → Completes (.registerWrite a false off be v) s fun t =>
    t = { (if a = hostAgent s then wakeBy 2 s else s) with hi := { s.hi with badacc := inc32 s.hi.badacc } }) ∧
  (isLoRw b off.toNat = true → (b = false ∨ a ≠ .remote) → Completes (.registerWrite a b off 0xF v) s fun t =>
    t.staging = ((a, b, off.toNat), v) :: pairDrop (a, b, off.toNat) s.staging ∧ t.te = s.te ∧ t.rg = s.rg ∧ t.hi = s.hi ∧ t.pmx = s.pmx) ∧
  (Completes (.registerWrite a false 0x7010 0xF v) s fun t => t.cx.limNet = limFld (limFld (v &&& 0x3F3F) 8 6 20 48) 0 6 16 40) ∧
  (Completes (.registerWrite a false 0x6104 0xF (v &&& 0x9FFFFFFF)) s fun t => t.aln.kcfg.getLsbD 31 = v.getLsbD 31) ∧
  (Completes (.registerWrite .remote true off 0xF v) s fun t => t.te = s.te ∧ t.cv = s.cv ∧ t.staging = s.staging) ∧
  (∀ lo, a ≠ .remote → pairGet (a, true, 0x830) s.staging = some lo → s.te.armed = none → Completes (.hiWriteApply a true 0x834 v) s fun t =>
    t.te = { s.te with setSec := BitVec.ofNat 48 (lo.toNat + 4294967296 * fld v 0 16) } ∧ pairGet (a, true, 0x830) t.staging = none) ∧
  (∀ lo m, a ≠ .remote → pairGet (a, true, 0x830) s.staging = some lo → s.te.armed = some m → Completes (.hiWriteApply a true 0x834 v) s fun t =>
    t.te = { s.te with refused := true, cause := 1 } ∧ pairGet (a, true, 0x830) t.staging = none) ∧
  (Completes (.teSetWrite .secLo v) s fun t => pairGet (hostAgent s, true, 0x830) t.staging = some v ∧ t.te = s.te) ∧
  (s.te.armed = none → pairGet (hostAgent s, true, 0x830) s.staging = none → Completes (.teSetWrite .secHi v) s fun t =>
    t.te = { s.te with setSec := BitVec.ofNat 48 ((s.te.setSec.setWidth 32).toNat + 4294967296 * fld v 0 16) }) ∧
  (isLo b off.toNat = true → Completes (.loReadShadow a b off) s fun t => pairGet (a, b, off.toNat) t.shadow =
    some (rdLive a b (off.toNat + 4) (if a = hostAgent s then wakeBy 2 s else s))) ∧
  (∀ w, 4 ≤ off.toNat → isLo b (off.toNat - 4) = true → pairGet (a, b, off.toNat - 4) s.shadow = some w →
    Completes (.loReadShadow a b off) s fun t => t.answer = some w) ∧
  (Completes (.loReadShadow a false 0x7010) s fun t => t.answer = some s.cx.limNet ∧ t.cx = s.cx)

/-- What holds the core in reset, and the always-on domain (20 R609, 17 R530, 19 R587, R588). The model's own choices in it: log entry
56. -/
def Obligations.CoreHeldInReset : Prop := ∀ s : State,
  (s.life.aonUp = true → Completes .porstAssert s fun t => devUp t = false ∧ t.life = { s.life with porstLow := true, linkUp := false } ∧
    t.lg.inst = [] ∧ t.cx = { s.cx with kdk := none } ∧ t.tmp = { s.tmp with ks := if s.tmp.ks = 2 then 1 else s.tmp.ks }) ∧
  (s.life.aonUp = true → s.pwr.st ≠ .dormant → Completes .vddCoreLoss s fun t => devUp t = false ∧
    t.life = { s.life with coreLost := true, linkUp := false } ∧ t.lg.inst = [] ∧ t.cx = { s.cx with kdk := none }) ∧
  (s.life.aonUp = true → Completes .aonPowerLoss s fun t => t.life.aonUp = false ∧ t.lg.inst = [] ∧ t.tmp.ksmk = none ∧
    t.tmp.ks = 0 ∧ t.tmp.latch = 0 ∧ t.cx.kdk = none) ∧
  (s.life.aonUp = false → Completes .aonPowerUp s fun t => t.life = { s.life with aonUp := true } ∧ t.tmp.ksmk.isSome = true ∧
    t.tmp.ks = 1 ∧ t.tmp.aonpor = true ∧ t.tmp.latch = 0 ∧ t.cx = s.cx)

/-- The cold start, the link, the recovery boot, MSS_READY and the confirmation (21 R638, R642, R643, Table 21.2; 00 R6). The model's
own choices in it: log entries 3, 55. -/
def Obligations.PowerOnToReady : Prop := ∀ s : State,
  (∀ st env, s.life.aonUp = true → Completes (.coldStart st env) s fun t => t.cln.role = st.role ∧ t.cln.hostmode = st.hostmode ∧
    t.cln.bootsrc = st.bootsrc ∧ t.cln.confirmed = false ∧ t.life.porstLow = false ∧ t.life.coreLost = false ∧
    t.mpt = State.reset.mpt ∧ t.qr = State.reset.qr ∧ t.air = State.reset.air ∧ t.lt = State.reset.lt) ∧
  (devUp s = true → s.cln.hostmode = false → Completes .linkUp s fun t => t = { s with life := { s.life with linkUp := true } }) ∧
  (∀ img, devUp s = true → s.mss.uart = true → Completes (.recoveryImageReceive img) s fun t =>
    t.mss.uart = (imgFault s 1 img).isSome ∧ (imgFault s 1 img = none → t.mss.loaded = true ∧ t.mss.slot = false ∧
      t.mss.fw = fwOf img false)) ∧
  (devUp s = true → mssStarting s = true → Completes .mssReady s fun t => mssStarting t = false ∧ t.life.mssReadySeen = true ∧
    t.cln.confirmed = (s.cln.confirmed || s.cln.confirmPending)) ∧
  (∀ v, devUp s = true → bitAt v 31 = true → s.cln.confirmed = false → bitAt v 0 = s.cln.role →
    (s.cln.role = true ∨ s.cln.hostmode = false) →
    Completes (.hiConfirm v) s fun t =>
      t.cln = { s.cln with confirmRole := s.cln.role, confirmed := s.life.mssReadySeen, confirmPending := !s.life.mssReadySeen }) ∧
  (∀ v, devUp s = true → bitAt v 31 = true → s.cln.confirmed = false → bitAt v 0 ≠ s.cln.role →
    (s.cln.role = true ∨ s.cln.hostmode = false) →
    Completes (.hiConfirm v) s fun t => t.cln = { s.cln with confirmRole := !s.cln.role, confirmPending := false })

/-- The resets of the host link (15 R504, R505, 21 R634) and the posting of a completion record (15 R494, R495). The model's own
choices in it: log entry 54. -/
def Obligations.HostLinkResets : Prop := ∀ s : State, devUp s = true →
  let cleared := fun (t : State) => (∀ r : Fin 16, (sqAt t r).st = .disabled ∧ (sqAt t r).taken = []) ∧ t.hi.rxPosts = [] ∧
    t.mss.mail = [] ∧ t.msix.mask = true ∧ t.cln.confirmed = s.cln.confirmed
  (s.cln.hostmode = false → Completes .flr s fun t => cleared t ∧ t.life.linkUp = s.life.linkUp) ∧
  (s.cln.hostmode = false → Completes .pePerstAssert s fun t => cleared t ∧ t.life.linkUp = false) ∧
  (s.cln.hostmode = false → Completes .hotReset s fun t => cleared t ∧ t.life.linkUp = false) ∧
  (s.cln.hostmode = false → s.life.linkUp = true → Completes .linkDown s fun t => cleared t ∧ t.life.linkUp = false) ∧
  (s.cln.hostmode = true → Completes .flr s fun t => t = s)

/-- Sleep and HOLDOVER (20 R619 to R624). The model's own choices in it: log entry 18. -/
def Obligations.PowerStates : Prop := ∀ s : State, devUp s = true →
  (maySleep s = true → Completes .sleepEntry s fun t =>
    t.pwr.st = (if slMode s 0 = 1 then PwrSt.appointed else .sampled) ∧ ∀ p < 3, (portS t p).st = .off) ∧
  (asleep s = true → s.pwr.exiting = none → Completes .sleepWakeTimer s fun t =>
    t.pwr = { s.pwr with exiting := some 1 } ∧ t.slp.awakeFrom = some (s.slp.awakeFrom.getD s.now)) ∧
  (∀ i : Fin 48, inputPin s 16 = some i → asleep s = true → s.pwr.exiting = none →
    Completes .pwrWakeInput s fun t => t.pwr = { s.pwr with exiting := some 3 }) ∧
  (∀ src, asleep s = true → s.pwr.exiting = some src → Completes .sleepExitDone s fun t =>
    t.pwr.st = .active ∧ t.pwr.lastSrc = src ∧ t.pwr.exiting = none) ∧
  (bitAt s.pwr.cfg 31 = true → s.pwr.st = .active → (∀ f ∈ s.line.q, f.st ≠ .onLine) → Completes .holdoverEnter s fun t =>
    t.pwr.st = .holdover ∧ t.pwr.pwrfail = true ∧ t.pwr.ldvGood = false ∧ ∀ p < 3, (portS t p).st = .off) ∧
  (s.pwr.st = .holdover → Completes .holdoverExit s fun t => t.pwr.st = .active ∧ t.pwr.pwrfail = false ∧
    t.pwr.ldvGood = bitAt s.pwr.ldv 31)

/-- DORMANT, rails and the line-driver supply (20 R610, R612 to R614, R625, R626, 22 R653). The model's own choices in it: log entry
18. -/
def Obligations.DormantAndRails : Prop := ∀ s : State,
  (∀ v, devUp s = true → bitAt v 31 = true → s.pwr.st = .active → workOpen s = false →
    (bitAt s.pwr.cfg 1 = false ∨ s.tmp.aon.toNat + 32768 ≤ s.pwr.wakeAt.toNat) →
    Completes (.dormantRequest v) s fun t => t.pwr.st = .dormant ∧ t.lg.inst = [] ∧ t.cx.kdk = none ∧ t.clk.pll = 0) ∧
  (∀ v, devUp s = true → bitAt v 31 = true → s.pwr.st = .active → workOpen s = true →
    Completes (.dormantRequest v) s fun t => t = { s with pwr := { s.pwr with refused := true, cause := 2 } }) ∧
  (s.life.aonUp = true → s.pwr.st = .dormant → bitAt s.pwr.cfg 1 = true → s.pwr.wakeAt.toNat ≤ s.tmp.aon.toNat →
    s.pwr.exiting = none → Completes .dormantWake s fun t => t = { s with pwr := { s.pwr with exiting := some 5 } }) ∧
  (∀ (i : Fin 8) high mv, devUp s = true → i ≠ 6 → Completes (.railOutOfRange i high mv) s fun t =>
    t.pwr = { s.pwr with rails := s.pwr.rails &&& ~~~ BitVec.ofNat 8 (2 ^ i.val) } ∧
    (2 ≤ i.val → i.val ≤ 4 → vget t.pmx.bank (i.val - 2) .v18 = .out)) ∧
  (∀ (i : Fin 8) mv, devUp s = true → i ≠ 6 → Completes (.railInRange i mv) s fun t =>
    t.pwr = { s.pwr with rails := s.pwr.rails ||| BitVec.ofNat 8 (2 ^ i.val) }) ∧
  (∀ b, s.life.aonUp = true → s.pwr.backup ≠ b → Completes (.backupSwitch b) s fun t => t.pwr = { s.pwr with backup := b }) ∧
  (∀ v, devUp s = true → bitAt s.pwr.ldv 31 = false → bitAt v 31 = false → Completes (.ldvCfgWrite v) s fun t =>
    t.pwr.ldv = ldvNorm v ∧ t.pwr.ldvGood = false ∧ t.afe = s.afe) ∧
  (∀ good, devUp s = true → bitAt s.pwr.ldv 31 = true → s.pwr.st ≠ .holdover →
    Completes (.ldvRegulationChange good) s fun t => t.pwr = { s.pwr with ldvGood := good })

/-- Clock inputs and PLLs (20 R627 to R630). The model's own choices in it: log entry 18. -/
def Obligations.Clocks : Prop := ∀ s : State, devUp s = true →
  (∀ i : Fin 3, s.clk.present.getLsbD i = true → Completes (.clockLoss i) s fun t =>
    t.clk = { s.clk with present := s.clk.present &&& ~~~ BitVec.ofNat 3 (2 ^ i.val), onref := if i = 1 then false else s.clk.onref }) ∧
  (∀ i : Fin 3, s.clk.present.getLsbD i = false → Completes (.clockRestore i) s fun t =>
    t.clk = { s.clk with present := s.clk.present ||| BitVec.ofNat 3 (2 ^ i.val) }) ∧
  (∀ i : Fin 4, pllRuns s i = true → s.clk.pll.getLsbD i = true → Completes (.pllUnlock i) s fun t =>
    t.clk = { s.clk with pll := s.clk.pll &&& ~~~ BitVec.ofNat 4 (2 ^ i.val) }) ∧
  (∀ i : Fin 4, pllRuns s i = true → (pllsLocked s true).getLsbD i = true → Completes (.pllRelock i) s fun t =>
    t = { s with clk := { s.clk with pll := s.clk.pll ||| BitVec.ofNat 4 (2 ^ i.val) } }) ∧
  (s.clk.refsel = true → s.clk.present.getLsbD 1 = true → Completes .fabricRefSwitch s fun t =>
    t = { s with clk := { s.clk with onref := true } })

/-- The pins and the test access port (22 R655 to R657, R665, R668 to R670). The model's own choices in it: log entry 19. -/
def Obligations.PinsAndTap : Prop := ∀ s : State,
  (∀ (i : Fin 48) v, devUp s = true → s.pmx.lock = false → Completes (.pinFuncWrite i v) s fun t =>
    t.pmx.pin = vupd s.pmx.pin i.val fun _ => pinNorm v) ∧
  (∀ (i : Fin 48) v, devUp s = true → s.pmx.lock = true → Completes (.pinFuncWrite i v) s fun t =>
    t.pmx = { s.pmx with refused := true, cause := 1 }) ∧
  (∀ v, devUp s = true → Completes (.pmxLock v) s fun t => t.pmx = { s.pmx with lock := s.pmx.lock || bitAt v 0 }) ∧
  (∀ ir, Completes (.tapInstructionLoad ir) s fun t => t = { s with pmx := { s.pmx with tapIr := tapEffect s ir } }) ∧
  Completes .tapReset s fun t => t = { s with pmx := { s.pmx with tapIr := .idcode } }

/-- Tamper alarms, their zeroisation, the unlock and the lock of the configuration (19 R583, R585, R590 to R592, R600, R603). The
model's own choices in it: log entry 17. -/
def Obligations.Tamper : Prop := ∀ s : State,
  (∀ i, s.life.aonUp = true → tmpEn s (tamperIdx i) = true → Completes (.tamperInputAlarm i) s fun t =>
    t.tmp.latch = s.tmp.latch ||| BitVec.ofNat 5 (2 ^ tamperIdx i) ∧
    (tmpAct s (tamperIdx i) = true → (∀ z ∈ s.tmp.zero, z.done ≠ none) → t.tmp.locked = true ∧ t.tmp.ksmk = none ∧
      t.tmp.ks = 0 ∧ t.cx.kdk = none ∧ t.cx.use = [])) ∧
  (∀ k, s.life.aonUp = true → devUp s = true → tmpEn s (glitchIdx k) = true → s.life.upAt + ticksMs 1 ≤ s.now →
    Completes (.glitchAlarm k) s fun t => t.tmp.latch = s.tmp.latch ||| BitVec.ofNat 5 (2 ^ glitchIdx k)) ∧
  (s.life.aonUp = true → Completes .zeroisationDone s fun t =>
    (∀ z ∈ t.tmp.zero, z.done.isSome = true ∧ z.waits ≠ []) ∧ t.tmp.locked = s.tmp.locked) ∧
  (∀ v, devUp s = true → bitAt v 31 = false → bitAt v 0 = true → s.tmp.live = 0 → s.tmp.latch = 0 → s.tmp.locked = true →
    (s.tmp.ks = 0 ∨ s.tmp.ksmk.isSome = true) → Completes (.tamperUnlock v) s fun t => t.tmp.locked = false ∧ t.tmp.causeReg = 0 ∧ t.tmp.ks = 2 ∧ t.cx.kdk.isSome = true) ∧
  (∀ v, devUp s = true → bitAt v 31 = true → bitAt v 0 = false →
    Completes (.tamperCfgLock v) s fun t => t.tmp = { s.tmp with cfgLocked := true })
end

