-- ==== Sys2Proof/Laws/State.lean ====
section
/-! SUPPORT. What each named update of State leaves as it was: one lemma per field per update, true by rfl, so that no later
proof unfolds a record update. -/
namespace Sys2Proof.Machine

/-! ### updSq -/

@[simp] theorem updSq_cln (r : Nat) (f : Sq → Sq) (s : State) : (updSq r f s).cln = s.cln := rfl
@[simp] theorem updSq_life (r : Nat) (f : Sq → Sq) (s : State) : (updSq r f s).life = s.life := rfl
@[simp] theorem updSq_mpt (r : Nat) (f : Sq → Sq) (s : State) : (updSq r f s).mpt = s.mpt := rfl
@[simp] theorem updSq_qr (r : Nat) (f : Sq → Sq) (s : State) : (updSq r f s).qr = s.qr := rfl
@[simp] theorem updSq_qrx (r : Nat) (f : Sq → Sq) (s : State) : (updSq r f s).qrx = s.qrx := rfl
@[simp] theorem updSq_air (r : Nat) (f : Sq → Sq) (s : State) : (updSq r f s).air = s.air := rfl
@[simp] theorem updSq_afe (r : Nat) (f : Sq → Sq) (s : State) : (updSq r f s).afe = s.afe := rfl
@[simp] theorem updSq_line (r : Nat) (f : Sq → Sq) (s : State) : (updSq r f s).line = s.line := rfl
@[simp] theorem updSq_ofd (r : Nat) (f : Sq → Sq) (s : State) : (updSq r f s).ofd = s.ofd := rfl
@[simp] theorem updSq_rbm (r : Nat) (f : Sq → Sq) (s : State) : (updSq r f s).rbm = s.rbm := rfl
@[simp] theorem updSq_lt (r : Nat) (f : Sq → Sq) (s : State) : (updSq r f s).lt = s.lt := rfl
@[simp] theorem updSq_ltx (r : Nat) (f : Sq → Sq) (s : State) : (updSq r f s).ltx = s.ltx := rfl
@[simp] theorem updSq_slp (r : Nat) (f : Sq → Sq) (s : State) : (updSq r f s).slp = s.slp := rfl
@[simp] theorem updSq_slph (r : Nat) (f : Sq → Sq) (s : State) : (updSq r f s).slph = s.slph := rfl
@[simp] theorem updSq_te (r : Nat) (f : Sq → Sq) (s : State) : (updSq r f s).te = s.te := rfl
@[simp] theorem updSq_tex (r : Nat) (f : Sq → Sq) (s : State) : (updSq r f s).tex = s.tex := rfl
@[simp] theorem updSq_rg (r : Nat) (f : Sq → Sq) (s : State) : (updSq r f s).rg = s.rg := rfl
@[simp] theorem updSq_aln (r : Nat) (f : Sq → Sq) (s : State) : (updSq r f s).aln = s.aln := rfl
@[simp] theorem updSq_cx (r : Nat) (f : Sq → Sq) (s : State) : (updSq r f s).cx = s.cx := rfl
@[simp] theorem updSq_cv (r : Nat) (f : Sq → Sq) (s : State) : (updSq r f s).cv = s.cv := rfl
@[simp] theorem updSq_msix (r : Nat) (f : Sq → Sq) (s : State) : (updSq r f s).msix = s.msix := rfl
@[simp] theorem updSq_ev (r : Nat) (f : Sq → Sq) (s : State) : (updSq r f s).ev = s.ev := rfl
@[simp] theorem updSq_lg (r : Nat) (f : Sq → Sq) (s : State) : (updSq r f s).lg = s.lg := rfl
@[simp] theorem updSq_mss (r : Nat) (f : Sq → Sq) (s : State) : (updSq r f s).mss = s.mss := rfl
@[simp] theorem updSq_mssx (r : Nat) (f : Sq → Sq) (s : State) : (updSq r f s).mssx = s.mssx := rfl
@[simp] theorem updSq_tmp (r : Nat) (f : Sq → Sq) (s : State) : (updSq r f s).tmp = s.tmp := rfl
@[simp] theorem updSq_pwr (r : Nat) (f : Sq → Sq) (s : State) : (updSq r f s).pwr = s.pwr := rfl
@[simp] theorem updSq_clk (r : Nat) (f : Sq → Sq) (s : State) : (updSq r f s).clk = s.clk := rfl
@[simp] theorem updSq_pmx (r : Nat) (f : Sq → Sq) (s : State) : (updSq r f s).pmx = s.pmx := rfl
@[simp] theorem updSq_shadow (r : Nat) (f : Sq → Sq) (s : State) : (updSq r f s).shadow = s.shadow := rfl
@[simp] theorem updSq_staging (r : Nat) (f : Sq → Sq) (s : State) : (updSq r f s).staging = s.staging := rfl
@[simp] theorem updSq_hostMem (r : Nat) (f : Sq → Sq) (s : State) : (updSq r f s).hostMem = s.hostMem := rfl
@[simp] theorem updSq_answer (r : Nat) (f : Sq → Sq) (s : State) : (updSq r f s).answer = s.answer := rfl
@[simp] theorem updSq_freeCtr (r : Nat) (f : Sq → Sq) (s : State) : (updSq r f s).freeCtr = s.freeCtr := rfl
@[simp] theorem updSq_now (r : Nat) (f : Sq → Sq) (s : State) : (updSq r f s).now = s.now := rfl
@[simp] theorem updSq_pending (r : Nat) (f : Sq → Sq) (s : State) : (updSq r f s).pending = s.pending := rfl

/-! ### updCq -/

@[simp] theorem updCq_cln (m : Nat) (f : Cq → Cq) (s : State) : (updCq m f s).cln = s.cln := rfl
@[simp] theorem updCq_life (m : Nat) (f : Cq → Cq) (s : State) : (updCq m f s).life = s.life := rfl
@[simp] theorem updCq_mpt (m : Nat) (f : Cq → Cq) (s : State) : (updCq m f s).mpt = s.mpt := rfl
@[simp] theorem updCq_qr (m : Nat) (f : Cq → Cq) (s : State) : (updCq m f s).qr = s.qr := rfl
@[simp] theorem updCq_qrx (m : Nat) (f : Cq → Cq) (s : State) : (updCq m f s).qrx = s.qrx := rfl
@[simp] theorem updCq_air (m : Nat) (f : Cq → Cq) (s : State) : (updCq m f s).air = s.air := rfl
@[simp] theorem updCq_afe (m : Nat) (f : Cq → Cq) (s : State) : (updCq m f s).afe = s.afe := rfl
@[simp] theorem updCq_line (m : Nat) (f : Cq → Cq) (s : State) : (updCq m f s).line = s.line := rfl
@[simp] theorem updCq_ofd (m : Nat) (f : Cq → Cq) (s : State) : (updCq m f s).ofd = s.ofd := rfl
@[simp] theorem updCq_rbm (m : Nat) (f : Cq → Cq) (s : State) : (updCq m f s).rbm = s.rbm := rfl
@[simp] theorem updCq_lt (m : Nat) (f : Cq → Cq) (s : State) : (updCq m f s).lt = s.lt := rfl
@[simp] theorem updCq_ltx (m : Nat) (f : Cq → Cq) (s : State) : (updCq m f s).ltx = s.ltx := rfl
@[simp] theorem updCq_slp (m : Nat) (f : Cq → Cq) (s : State) : (updCq m f s).slp = s.slp := rfl
@[simp] theorem updCq_slph (m : Nat) (f : Cq → Cq) (s : State) : (updCq m f s).slph = s.slph := rfl
@[simp] theorem updCq_te (m : Nat) (f : Cq → Cq) (s : State) : (updCq m f s).te = s.te := rfl
@[simp] theorem updCq_tex (m : Nat) (f : Cq → Cq) (s : State) : (updCq m f s).tex = s.tex := rfl
@[simp] theorem updCq_rg (m : Nat) (f : Cq → Cq) (s : State) : (updCq m f s).rg = s.rg := rfl
@[simp] theorem updCq_aln (m : Nat) (f : Cq → Cq) (s : State) : (updCq m f s).aln = s.aln := rfl
@[simp] theorem updCq_cx (m : Nat) (f : Cq → Cq) (s : State) : (updCq m f s).cx = s.cx := rfl
@[simp] theorem updCq_cv (m : Nat) (f : Cq → Cq) (s : State) : (updCq m f s).cv = s.cv := rfl
@[simp] theorem updCq_msix (m : Nat) (f : Cq → Cq) (s : State) : (updCq m f s).msix = s.msix := rfl
@[simp] theorem updCq_ev (m : Nat) (f : Cq → Cq) (s : State) : (updCq m f s).ev = s.ev := rfl
@[simp] theorem updCq_lg (m : Nat) (f : Cq → Cq) (s : State) : (updCq m f s).lg = s.lg := rfl
@[simp] theorem updCq_mss (m : Nat) (f : Cq → Cq) (s : State) : (updCq m f s).mss = s.mss := rfl
@[simp] theorem updCq_mssx (m : Nat) (f : Cq → Cq) (s : State) : (updCq m f s).mssx = s.mssx := rfl
@[simp] theorem updCq_tmp (m : Nat) (f : Cq → Cq) (s : State) : (updCq m f s).tmp = s.tmp := rfl
@[simp] theorem updCq_pwr (m : Nat) (f : Cq → Cq) (s : State) : (updCq m f s).pwr = s.pwr := rfl
@[simp] theorem updCq_clk (m : Nat) (f : Cq → Cq) (s : State) : (updCq m f s).clk = s.clk := rfl
@[simp] theorem updCq_pmx (m : Nat) (f : Cq → Cq) (s : State) : (updCq m f s).pmx = s.pmx := rfl
@[simp] theorem updCq_shadow (m : Nat) (f : Cq → Cq) (s : State) : (updCq m f s).shadow = s.shadow := rfl
@[simp] theorem updCq_staging (m : Nat) (f : Cq → Cq) (s : State) : (updCq m f s).staging = s.staging := rfl
@[simp] theorem updCq_hostMem (m : Nat) (f : Cq → Cq) (s : State) : (updCq m f s).hostMem = s.hostMem := rfl
@[simp] theorem updCq_answer (m : Nat) (f : Cq → Cq) (s : State) : (updCq m f s).answer = s.answer := rfl
@[simp] theorem updCq_freeCtr (m : Nat) (f : Cq → Cq) (s : State) : (updCq m f s).freeCtr = s.freeCtr := rfl
@[simp] theorem updCq_now (m : Nat) (f : Cq → Cq) (s : State) : (updCq m f s).now = s.now := rfl
@[simp] theorem updCq_pending (m : Nat) (f : Cq → Cq) (s : State) : (updCq m f s).pending = s.pending := rfl

/-! ### updPh -/

@[simp] theorem updPh_cln (n : Phase) (f : PhaseS → PhaseS) (s : State) : (updPh n f s).cln = s.cln := rfl
@[simp] theorem updPh_life (n : Phase) (f : PhaseS → PhaseS) (s : State) : (updPh n f s).life = s.life := rfl
@[simp] theorem updPh_qr (n : Phase) (f : PhaseS → PhaseS) (s : State) : (updPh n f s).qr = s.qr := rfl
@[simp] theorem updPh_qrx (n : Phase) (f : PhaseS → PhaseS) (s : State) : (updPh n f s).qrx = s.qrx := rfl
@[simp] theorem updPh_air (n : Phase) (f : PhaseS → PhaseS) (s : State) : (updPh n f s).air = s.air := rfl
@[simp] theorem updPh_afe (n : Phase) (f : PhaseS → PhaseS) (s : State) : (updPh n f s).afe = s.afe := rfl
@[simp] theorem updPh_line (n : Phase) (f : PhaseS → PhaseS) (s : State) : (updPh n f s).line = s.line := rfl
@[simp] theorem updPh_ofd (n : Phase) (f : PhaseS → PhaseS) (s : State) : (updPh n f s).ofd = s.ofd := rfl
@[simp] theorem updPh_rbm (n : Phase) (f : PhaseS → PhaseS) (s : State) : (updPh n f s).rbm = s.rbm := rfl
@[simp] theorem updPh_lt (n : Phase) (f : PhaseS → PhaseS) (s : State) : (updPh n f s).lt = s.lt := rfl
@[simp] theorem updPh_ltx (n : Phase) (f : PhaseS → PhaseS) (s : State) : (updPh n f s).ltx = s.ltx := rfl
@[simp] theorem updPh_slp (n : Phase) (f : PhaseS → PhaseS) (s : State) : (updPh n f s).slp = s.slp := rfl
@[simp] theorem updPh_slph (n : Phase) (f : PhaseS → PhaseS) (s : State) : (updPh n f s).slph = s.slph := rfl
@[simp] theorem updPh_te (n : Phase) (f : PhaseS → PhaseS) (s : State) : (updPh n f s).te = s.te := rfl
@[simp] theorem updPh_tex (n : Phase) (f : PhaseS → PhaseS) (s : State) : (updPh n f s).tex = s.tex := rfl
@[simp] theorem updPh_rg (n : Phase) (f : PhaseS → PhaseS) (s : State) : (updPh n f s).rg = s.rg := rfl
@[simp] theorem updPh_aln (n : Phase) (f : PhaseS → PhaseS) (s : State) : (updPh n f s).aln = s.aln := rfl
@[simp] theorem updPh_cx (n : Phase) (f : PhaseS → PhaseS) (s : State) : (updPh n f s).cx = s.cx := rfl
@[simp] theorem updPh_cv (n : Phase) (f : PhaseS → PhaseS) (s : State) : (updPh n f s).cv = s.cv := rfl
@[simp] theorem updPh_hi (n : Phase) (f : PhaseS → PhaseS) (s : State) : (updPh n f s).hi = s.hi := rfl
@[simp] theorem updPh_msix (n : Phase) (f : PhaseS → PhaseS) (s : State) : (updPh n f s).msix = s.msix := rfl
@[simp] theorem updPh_ev (n : Phase) (f : PhaseS → PhaseS) (s : State) : (updPh n f s).ev = s.ev := rfl
@[simp] theorem updPh_lg (n : Phase) (f : PhaseS → PhaseS) (s : State) : (updPh n f s).lg = s.lg := rfl
@[simp] theorem updPh_mss (n : Phase) (f : PhaseS → PhaseS) (s : State) : (updPh n f s).mss = s.mss := rfl
@[simp] theorem updPh_mssx (n : Phase) (f : PhaseS → PhaseS) (s : State) : (updPh n f s).mssx = s.mssx := rfl
@[simp] theorem updPh_tmp (n : Phase) (f : PhaseS → PhaseS) (s : State) : (updPh n f s).tmp = s.tmp := rfl
@[simp] theorem updPh_pwr (n : Phase) (f : PhaseS → PhaseS) (s : State) : (updPh n f s).pwr = s.pwr := rfl
@[simp] theorem updPh_clk (n : Phase) (f : PhaseS → PhaseS) (s : State) : (updPh n f s).clk = s.clk := rfl
@[simp] theorem updPh_pmx (n : Phase) (f : PhaseS → PhaseS) (s : State) : (updPh n f s).pmx = s.pmx := rfl
@[simp] theorem updPh_shadow (n : Phase) (f : PhaseS → PhaseS) (s : State) : (updPh n f s).shadow = s.shadow := rfl
@[simp] theorem updPh_staging (n : Phase) (f : PhaseS → PhaseS) (s : State) : (updPh n f s).staging = s.staging := rfl
@[simp] theorem updPh_hostMem (n : Phase) (f : PhaseS → PhaseS) (s : State) : (updPh n f s).hostMem = s.hostMem := rfl
@[simp] theorem updPh_answer (n : Phase) (f : PhaseS → PhaseS) (s : State) : (updPh n f s).answer = s.answer := rfl
@[simp] theorem updPh_freeCtr (n : Phase) (f : PhaseS → PhaseS) (s : State) : (updPh n f s).freeCtr = s.freeCtr := rfl
@[simp] theorem updPh_now (n : Phase) (f : PhaseS → PhaseS) (s : State) : (updPh n f s).now = s.now := rfl
@[simp] theorem updPh_pending (n : Phase) (f : PhaseS → PhaseS) (s : State) : (updPh n f s).pending = s.pending := rfl

/-! ### updBand -/

@[simp] theorem updBand_cln (b : Nat) (f : AirBand → AirBand) (s : State) : (updBand b f s).cln = s.cln := rfl
@[simp] theorem updBand_life (b : Nat) (f : AirBand → AirBand) (s : State) : (updBand b f s).life = s.life := rfl
@[simp] theorem updBand_mpt (b : Nat) (f : AirBand → AirBand) (s : State) : (updBand b f s).mpt = s.mpt := rfl
@[simp] theorem updBand_qr (b : Nat) (f : AirBand → AirBand) (s : State) : (updBand b f s).qr = s.qr := rfl
@[simp] theorem updBand_qrx (b : Nat) (f : AirBand → AirBand) (s : State) : (updBand b f s).qrx = s.qrx := rfl
@[simp] theorem updBand_afe (b : Nat) (f : AirBand → AirBand) (s : State) : (updBand b f s).afe = s.afe := rfl
@[simp] theorem updBand_line (b : Nat) (f : AirBand → AirBand) (s : State) : (updBand b f s).line = s.line := rfl
@[simp] theorem updBand_ofd (b : Nat) (f : AirBand → AirBand) (s : State) : (updBand b f s).ofd = s.ofd := rfl
@[simp] theorem updBand_rbm (b : Nat) (f : AirBand → AirBand) (s : State) : (updBand b f s).rbm = s.rbm := rfl
@[simp] theorem updBand_lt (b : Nat) (f : AirBand → AirBand) (s : State) : (updBand b f s).lt = s.lt := rfl
@[simp] theorem updBand_ltx (b : Nat) (f : AirBand → AirBand) (s : State) : (updBand b f s).ltx = s.ltx := rfl
@[simp] theorem updBand_slp (b : Nat) (f : AirBand → AirBand) (s : State) : (updBand b f s).slp = s.slp := rfl
@[simp] theorem updBand_slph (b : Nat) (f : AirBand → AirBand) (s : State) : (updBand b f s).slph = s.slph := rfl
@[simp] theorem updBand_te (b : Nat) (f : AirBand → AirBand) (s : State) : (updBand b f s).te = s.te := rfl
@[simp] theorem updBand_tex (b : Nat) (f : AirBand → AirBand) (s : State) : (updBand b f s).tex = s.tex := rfl
@[simp] theorem updBand_rg (b : Nat) (f : AirBand → AirBand) (s : State) : (updBand b f s).rg = s.rg := rfl
@[simp] theorem updBand_aln (b : Nat) (f : AirBand → AirBand) (s : State) : (updBand b f s).aln = s.aln := rfl
@[simp] theorem updBand_cx (b : Nat) (f : AirBand → AirBand) (s : State) : (updBand b f s).cx = s.cx := rfl
@[simp] theorem updBand_cv (b : Nat) (f : AirBand → AirBand) (s : State) : (updBand b f s).cv = s.cv := rfl
@[simp] theorem updBand_hi (b : Nat) (f : AirBand → AirBand) (s : State) : (updBand b f s).hi = s.hi := rfl
@[simp] theorem updBand_msix (b : Nat) (f : AirBand → AirBand) (s : State) : (updBand b f s).msix = s.msix := rfl
@[simp] theorem updBand_ev (b : Nat) (f : AirBand → AirBand) (s : State) : (updBand b f s).ev = s.ev := rfl
@[simp] theorem updBand_lg (b : Nat) (f : AirBand → AirBand) (s : State) : (updBand b f s).lg = s.lg := rfl
@[simp] theorem updBand_mss (b : Nat) (f : AirBand → AirBand) (s : State) : (updBand b f s).mss = s.mss := rfl
@[simp] theorem updBand_mssx (b : Nat) (f : AirBand → AirBand) (s : State) : (updBand b f s).mssx = s.mssx := rfl
@[simp] theorem updBand_tmp (b : Nat) (f : AirBand → AirBand) (s : State) : (updBand b f s).tmp = s.tmp := rfl
@[simp] theorem updBand_pwr (b : Nat) (f : AirBand → AirBand) (s : State) : (updBand b f s).pwr = s.pwr := rfl
@[simp] theorem updBand_clk (b : Nat) (f : AirBand → AirBand) (s : State) : (updBand b f s).clk = s.clk := rfl
@[simp] theorem updBand_pmx (b : Nat) (f : AirBand → AirBand) (s : State) : (updBand b f s).pmx = s.pmx := rfl
@[simp] theorem updBand_shadow (b : Nat) (f : AirBand → AirBand) (s : State) : (updBand b f s).shadow = s.shadow := rfl
@[simp] theorem updBand_staging (b : Nat) (f : AirBand → AirBand) (s : State) : (updBand b f s).staging = s.staging := rfl
@[simp] theorem updBand_hostMem (b : Nat) (f : AirBand → AirBand) (s : State) : (updBand b f s).hostMem = s.hostMem := rfl
@[simp] theorem updBand_answer (b : Nat) (f : AirBand → AirBand) (s : State) : (updBand b f s).answer = s.answer := rfl
@[simp] theorem updBand_freeCtr (b : Nat) (f : AirBand → AirBand) (s : State) : (updBand b f s).freeCtr = s.freeCtr := rfl
@[simp] theorem updBand_now (b : Nat) (f : AirBand → AirBand) (s : State) : (updBand b f s).now = s.now := rfl
@[simp] theorem updBand_pending (b : Nat) (f : AirBand → AirBand) (s : State) : (updBand b f s).pending = s.pending := rfl

/-! ### updPort -/

@[simp] theorem updPort_cln (p : Nat) (f : PortS → PortS) (s : State) : (updPort p f s).cln = s.cln := rfl
@[simp] theorem updPort_life (p : Nat) (f : PortS → PortS) (s : State) : (updPort p f s).life = s.life := rfl
@[simp] theorem updPort_mpt (p : Nat) (f : PortS → PortS) (s : State) : (updPort p f s).mpt = s.mpt := rfl
@[simp] theorem updPort_qr (p : Nat) (f : PortS → PortS) (s : State) : (updPort p f s).qr = s.qr := rfl
@[simp] theorem updPort_qrx (p : Nat) (f : PortS → PortS) (s : State) : (updPort p f s).qrx = s.qrx := rfl
@[simp] theorem updPort_air (p : Nat) (f : PortS → PortS) (s : State) : (updPort p f s).air = s.air := rfl
@[simp] theorem updPort_line (p : Nat) (f : PortS → PortS) (s : State) : (updPort p f s).line = s.line := rfl
@[simp] theorem updPort_ofd (p : Nat) (f : PortS → PortS) (s : State) : (updPort p f s).ofd = s.ofd := rfl
@[simp] theorem updPort_rbm (p : Nat) (f : PortS → PortS) (s : State) : (updPort p f s).rbm = s.rbm := rfl
@[simp] theorem updPort_lt (p : Nat) (f : PortS → PortS) (s : State) : (updPort p f s).lt = s.lt := rfl
@[simp] theorem updPort_ltx (p : Nat) (f : PortS → PortS) (s : State) : (updPort p f s).ltx = s.ltx := rfl
@[simp] theorem updPort_slp (p : Nat) (f : PortS → PortS) (s : State) : (updPort p f s).slp = s.slp := rfl
@[simp] theorem updPort_slph (p : Nat) (f : PortS → PortS) (s : State) : (updPort p f s).slph = s.slph := rfl
@[simp] theorem updPort_te (p : Nat) (f : PortS → PortS) (s : State) : (updPort p f s).te = s.te := rfl
@[simp] theorem updPort_tex (p : Nat) (f : PortS → PortS) (s : State) : (updPort p f s).tex = s.tex := rfl
@[simp] theorem updPort_rg (p : Nat) (f : PortS → PortS) (s : State) : (updPort p f s).rg = s.rg := rfl
@[simp] theorem updPort_aln (p : Nat) (f : PortS → PortS) (s : State) : (updPort p f s).aln = s.aln := rfl
@[simp] theorem updPort_cx (p : Nat) (f : PortS → PortS) (s : State) : (updPort p f s).cx = s.cx := rfl
@[simp] theorem updPort_cv (p : Nat) (f : PortS → PortS) (s : State) : (updPort p f s).cv = s.cv := rfl
@[simp] theorem updPort_hi (p : Nat) (f : PortS → PortS) (s : State) : (updPort p f s).hi = s.hi := rfl
@[simp] theorem updPort_msix (p : Nat) (f : PortS → PortS) (s : State) : (updPort p f s).msix = s.msix := rfl
@[simp] theorem updPort_ev (p : Nat) (f : PortS → PortS) (s : State) : (updPort p f s).ev = s.ev := rfl
@[simp] theorem updPort_lg (p : Nat) (f : PortS → PortS) (s : State) : (updPort p f s).lg = s.lg := rfl
@[simp] theorem updPort_mss (p : Nat) (f : PortS → PortS) (s : State) : (updPort p f s).mss = s.mss := rfl
@[simp] theorem updPort_mssx (p : Nat) (f : PortS → PortS) (s : State) : (updPort p f s).mssx = s.mssx := rfl
@[simp] theorem updPort_tmp (p : Nat) (f : PortS → PortS) (s : State) : (updPort p f s).tmp = s.tmp := rfl
@[simp] theorem updPort_pwr (p : Nat) (f : PortS → PortS) (s : State) : (updPort p f s).pwr = s.pwr := rfl
@[simp] theorem updPort_clk (p : Nat) (f : PortS → PortS) (s : State) : (updPort p f s).clk = s.clk := rfl
@[simp] theorem updPort_pmx (p : Nat) (f : PortS → PortS) (s : State) : (updPort p f s).pmx = s.pmx := rfl
@[simp] theorem updPort_shadow (p : Nat) (f : PortS → PortS) (s : State) : (updPort p f s).shadow = s.shadow := rfl
@[simp] theorem updPort_staging (p : Nat) (f : PortS → PortS) (s : State) : (updPort p f s).staging = s.staging := rfl
@[simp] theorem updPort_hostMem (p : Nat) (f : PortS → PortS) (s : State) : (updPort p f s).hostMem = s.hostMem := rfl
@[simp] theorem updPort_answer (p : Nat) (f : PortS → PortS) (s : State) : (updPort p f s).answer = s.answer := rfl
@[simp] theorem updPort_freeCtr (p : Nat) (f : PortS → PortS) (s : State) : (updPort p f s).freeCtr = s.freeCtr := rfl
@[simp] theorem updPort_now (p : Nat) (f : PortS → PortS) (s : State) : (updPort p f s).now = s.now := rfl
@[simp] theorem updPort_pending (p : Nat) (f : PortS → PortS) (s : State) : (updPort p f s).pending = s.pending := rfl

/-! ### updPortX -/

@[simp] theorem updPortX_cln (p : Nat) (f : PortX → PortX) (s : State) : (updPortX p f s).cln = s.cln := rfl
@[simp] theorem updPortX_life (p : Nat) (f : PortX → PortX) (s : State) : (updPortX p f s).life = s.life := rfl
@[simp] theorem updPortX_mpt (p : Nat) (f : PortX → PortX) (s : State) : (updPortX p f s).mpt = s.mpt := rfl
@[simp] theorem updPortX_qr (p : Nat) (f : PortX → PortX) (s : State) : (updPortX p f s).qr = s.qr := rfl
@[simp] theorem updPortX_qrx (p : Nat) (f : PortX → PortX) (s : State) : (updPortX p f s).qrx = s.qrx := rfl
@[simp] theorem updPortX_air (p : Nat) (f : PortX → PortX) (s : State) : (updPortX p f s).air = s.air := rfl
@[simp] theorem updPortX_line (p : Nat) (f : PortX → PortX) (s : State) : (updPortX p f s).line = s.line := rfl
@[simp] theorem updPortX_ofd (p : Nat) (f : PortX → PortX) (s : State) : (updPortX p f s).ofd = s.ofd := rfl
@[simp] theorem updPortX_rbm (p : Nat) (f : PortX → PortX) (s : State) : (updPortX p f s).rbm = s.rbm := rfl
@[simp] theorem updPortX_lt (p : Nat) (f : PortX → PortX) (s : State) : (updPortX p f s).lt = s.lt := rfl
@[simp] theorem updPortX_ltx (p : Nat) (f : PortX → PortX) (s : State) : (updPortX p f s).ltx = s.ltx := rfl
@[simp] theorem updPortX_slp (p : Nat) (f : PortX → PortX) (s : State) : (updPortX p f s).slp = s.slp := rfl
@[simp] theorem updPortX_slph (p : Nat) (f : PortX → PortX) (s : State) : (updPortX p f s).slph = s.slph := rfl
@[simp] theorem updPortX_te (p : Nat) (f : PortX → PortX) (s : State) : (updPortX p f s).te = s.te := rfl
@[simp] theorem updPortX_tex (p : Nat) (f : PortX → PortX) (s : State) : (updPortX p f s).tex = s.tex := rfl
@[simp] theorem updPortX_rg (p : Nat) (f : PortX → PortX) (s : State) : (updPortX p f s).rg = s.rg := rfl
@[simp] theorem updPortX_aln (p : Nat) (f : PortX → PortX) (s : State) : (updPortX p f s).aln = s.aln := rfl
@[simp] theorem updPortX_cx (p : Nat) (f : PortX → PortX) (s : State) : (updPortX p f s).cx = s.cx := rfl
@[simp] theorem updPortX_cv (p : Nat) (f : PortX → PortX) (s : State) : (updPortX p f s).cv = s.cv := rfl
@[simp] theorem updPortX_hi (p : Nat) (f : PortX → PortX) (s : State) : (updPortX p f s).hi = s.hi := rfl
@[simp] theorem updPortX_msix (p : Nat) (f : PortX → PortX) (s : State) : (updPortX p f s).msix = s.msix := rfl
@[simp] theorem updPortX_ev (p : Nat) (f : PortX → PortX) (s : State) : (updPortX p f s).ev = s.ev := rfl
@[simp] theorem updPortX_lg (p : Nat) (f : PortX → PortX) (s : State) : (updPortX p f s).lg = s.lg := rfl
@[simp] theorem updPortX_mss (p : Nat) (f : PortX → PortX) (s : State) : (updPortX p f s).mss = s.mss := rfl
@[simp] theorem updPortX_mssx (p : Nat) (f : PortX → PortX) (s : State) : (updPortX p f s).mssx = s.mssx := rfl
@[simp] theorem updPortX_tmp (p : Nat) (f : PortX → PortX) (s : State) : (updPortX p f s).tmp = s.tmp := rfl
@[simp] theorem updPortX_pwr (p : Nat) (f : PortX → PortX) (s : State) : (updPortX p f s).pwr = s.pwr := rfl
@[simp] theorem updPortX_clk (p : Nat) (f : PortX → PortX) (s : State) : (updPortX p f s).clk = s.clk := rfl
@[simp] theorem updPortX_pmx (p : Nat) (f : PortX → PortX) (s : State) : (updPortX p f s).pmx = s.pmx := rfl
@[simp] theorem updPortX_shadow (p : Nat) (f : PortX → PortX) (s : State) : (updPortX p f s).shadow = s.shadow := rfl
@[simp] theorem updPortX_staging (p : Nat) (f : PortX → PortX) (s : State) : (updPortX p f s).staging = s.staging := rfl
@[simp] theorem updPortX_hostMem (p : Nat) (f : PortX → PortX) (s : State) : (updPortX p f s).hostMem = s.hostMem := rfl
@[simp] theorem updPortX_answer (p : Nat) (f : PortX → PortX) (s : State) : (updPortX p f s).answer = s.answer := rfl
@[simp] theorem updPortX_freeCtr (p : Nat) (f : PortX → PortX) (s : State) : (updPortX p f s).freeCtr = s.freeCtr := rfl
@[simp] theorem updPortX_now (p : Nat) (f : PortX → PortX) (s : State) : (updPortX p f s).now = s.now := rfl
@[simp] theorem updPortX_pending (p : Nat) (f : PortX → PortX) (s : State) : (updPortX p f s).pending = s.pending := rfl

/-! ### updCh -/

@[simp] theorem updCh_cln (c : Fin 8) (f : RgCh → RgCh) (s : State) : (updCh c f s).cln = s.cln := rfl
@[simp] theorem updCh_life (c : Fin 8) (f : RgCh → RgCh) (s : State) : (updCh c f s).life = s.life := rfl
@[simp] theorem updCh_mpt (c : Fin 8) (f : RgCh → RgCh) (s : State) : (updCh c f s).mpt = s.mpt := rfl
@[simp] theorem updCh_qr (c : Fin 8) (f : RgCh → RgCh) (s : State) : (updCh c f s).qr = s.qr := rfl
@[simp] theorem updCh_qrx (c : Fin 8) (f : RgCh → RgCh) (s : State) : (updCh c f s).qrx = s.qrx := rfl
@[simp] theorem updCh_air (c : Fin 8) (f : RgCh → RgCh) (s : State) : (updCh c f s).air = s.air := rfl
@[simp] theorem updCh_afe (c : Fin 8) (f : RgCh → RgCh) (s : State) : (updCh c f s).afe = s.afe := rfl
@[simp] theorem updCh_line (c : Fin 8) (f : RgCh → RgCh) (s : State) : (updCh c f s).line = s.line := rfl
@[simp] theorem updCh_ofd (c : Fin 8) (f : RgCh → RgCh) (s : State) : (updCh c f s).ofd = s.ofd := rfl
@[simp] theorem updCh_rbm (c : Fin 8) (f : RgCh → RgCh) (s : State) : (updCh c f s).rbm = s.rbm := rfl
@[simp] theorem updCh_lt (c : Fin 8) (f : RgCh → RgCh) (s : State) : (updCh c f s).lt = s.lt := rfl
@[simp] theorem updCh_ltx (c : Fin 8) (f : RgCh → RgCh) (s : State) : (updCh c f s).ltx = s.ltx := rfl
@[simp] theorem updCh_slp (c : Fin 8) (f : RgCh → RgCh) (s : State) : (updCh c f s).slp = s.slp := rfl
@[simp] theorem updCh_slph (c : Fin 8) (f : RgCh → RgCh) (s : State) : (updCh c f s).slph = s.slph := rfl
@[simp] theorem updCh_te (c : Fin 8) (f : RgCh → RgCh) (s : State) : (updCh c f s).te = s.te := rfl
@[simp] theorem updCh_tex (c : Fin 8) (f : RgCh → RgCh) (s : State) : (updCh c f s).tex = s.tex := rfl
@[simp] theorem updCh_aln (c : Fin 8) (f : RgCh → RgCh) (s : State) : (updCh c f s).aln = s.aln := rfl
@[simp] theorem updCh_cx (c : Fin 8) (f : RgCh → RgCh) (s : State) : (updCh c f s).cx = s.cx := rfl
@[simp] theorem updCh_cv (c : Fin 8) (f : RgCh → RgCh) (s : State) : (updCh c f s).cv = s.cv := rfl
@[simp] theorem updCh_hi (c : Fin 8) (f : RgCh → RgCh) (s : State) : (updCh c f s).hi = s.hi := rfl
@[simp] theorem updCh_msix (c : Fin 8) (f : RgCh → RgCh) (s : State) : (updCh c f s).msix = s.msix := rfl
@[simp] theorem updCh_ev (c : Fin 8) (f : RgCh → RgCh) (s : State) : (updCh c f s).ev = s.ev := rfl
@[simp] theorem updCh_lg (c : Fin 8) (f : RgCh → RgCh) (s : State) : (updCh c f s).lg = s.lg := rfl
@[simp] theorem updCh_mss (c : Fin 8) (f : RgCh → RgCh) (s : State) : (updCh c f s).mss = s.mss := rfl
@[simp] theorem updCh_mssx (c : Fin 8) (f : RgCh → RgCh) (s : State) : (updCh c f s).mssx = s.mssx := rfl
@[simp] theorem updCh_tmp (c : Fin 8) (f : RgCh → RgCh) (s : State) : (updCh c f s).tmp = s.tmp := rfl
@[simp] theorem updCh_pwr (c : Fin 8) (f : RgCh → RgCh) (s : State) : (updCh c f s).pwr = s.pwr := rfl
@[simp] theorem updCh_clk (c : Fin 8) (f : RgCh → RgCh) (s : State) : (updCh c f s).clk = s.clk := rfl
@[simp] theorem updCh_pmx (c : Fin 8) (f : RgCh → RgCh) (s : State) : (updCh c f s).pmx = s.pmx := rfl
@[simp] theorem updCh_shadow (c : Fin 8) (f : RgCh → RgCh) (s : State) : (updCh c f s).shadow = s.shadow := rfl
@[simp] theorem updCh_staging (c : Fin 8) (f : RgCh → RgCh) (s : State) : (updCh c f s).staging = s.staging := rfl
@[simp] theorem updCh_hostMem (c : Fin 8) (f : RgCh → RgCh) (s : State) : (updCh c f s).hostMem = s.hostMem := rfl
@[simp] theorem updCh_answer (c : Fin 8) (f : RgCh → RgCh) (s : State) : (updCh c f s).answer = s.answer := rfl
@[simp] theorem updCh_freeCtr (c : Fin 8) (f : RgCh → RgCh) (s : State) : (updCh c f s).freeCtr = s.freeCtr := rfl
@[simp] theorem updCh_now (c : Fin 8) (f : RgCh → RgCh) (s : State) : (updCh c f s).now = s.now := rfl
@[simp] theorem updCh_pending (c : Fin 8) (f : RgCh → RgCh) (s : State) : (updCh c f s).pending = s.pending := rfl

/-! ### updChX -/

@[simp] theorem updChX_cln (c : Fin 8) (f : RgX → RgX) (s : State) : (updChX c f s).cln = s.cln := rfl
@[simp] theorem updChX_life (c : Fin 8) (f : RgX → RgX) (s : State) : (updChX c f s).life = s.life := rfl
@[simp] theorem updChX_mpt (c : Fin 8) (f : RgX → RgX) (s : State) : (updChX c f s).mpt = s.mpt := rfl
@[simp] theorem updChX_qr (c : Fin 8) (f : RgX → RgX) (s : State) : (updChX c f s).qr = s.qr := rfl
@[simp] theorem updChX_qrx (c : Fin 8) (f : RgX → RgX) (s : State) : (updChX c f s).qrx = s.qrx := rfl
@[simp] theorem updChX_air (c : Fin 8) (f : RgX → RgX) (s : State) : (updChX c f s).air = s.air := rfl
@[simp] theorem updChX_afe (c : Fin 8) (f : RgX → RgX) (s : State) : (updChX c f s).afe = s.afe := rfl
@[simp] theorem updChX_line (c : Fin 8) (f : RgX → RgX) (s : State) : (updChX c f s).line = s.line := rfl
@[simp] theorem updChX_ofd (c : Fin 8) (f : RgX → RgX) (s : State) : (updChX c f s).ofd = s.ofd := rfl
@[simp] theorem updChX_rbm (c : Fin 8) (f : RgX → RgX) (s : State) : (updChX c f s).rbm = s.rbm := rfl
@[simp] theorem updChX_lt (c : Fin 8) (f : RgX → RgX) (s : State) : (updChX c f s).lt = s.lt := rfl
@[simp] theorem updChX_ltx (c : Fin 8) (f : RgX → RgX) (s : State) : (updChX c f s).ltx = s.ltx := rfl
@[simp] theorem updChX_slp (c : Fin 8) (f : RgX → RgX) (s : State) : (updChX c f s).slp = s.slp := rfl
@[simp] theorem updChX_slph (c : Fin 8) (f : RgX → RgX) (s : State) : (updChX c f s).slph = s.slph := rfl
@[simp] theorem updChX_te (c : Fin 8) (f : RgX → RgX) (s : State) : (updChX c f s).te = s.te := rfl
@[simp] theorem updChX_tex (c : Fin 8) (f : RgX → RgX) (s : State) : (updChX c f s).tex = s.tex := rfl
@[simp] theorem updChX_aln (c : Fin 8) (f : RgX → RgX) (s : State) : (updChX c f s).aln = s.aln := rfl
@[simp] theorem updChX_cx (c : Fin 8) (f : RgX → RgX) (s : State) : (updChX c f s).cx = s.cx := rfl
@[simp] theorem updChX_cv (c : Fin 8) (f : RgX → RgX) (s : State) : (updChX c f s).cv = s.cv := rfl
@[simp] theorem updChX_hi (c : Fin 8) (f : RgX → RgX) (s : State) : (updChX c f s).hi = s.hi := rfl
@[simp] theorem updChX_msix (c : Fin 8) (f : RgX → RgX) (s : State) : (updChX c f s).msix = s.msix := rfl
@[simp] theorem updChX_ev (c : Fin 8) (f : RgX → RgX) (s : State) : (updChX c f s).ev = s.ev := rfl
@[simp] theorem updChX_lg (c : Fin 8) (f : RgX → RgX) (s : State) : (updChX c f s).lg = s.lg := rfl
@[simp] theorem updChX_mss (c : Fin 8) (f : RgX → RgX) (s : State) : (updChX c f s).mss = s.mss := rfl
@[simp] theorem updChX_mssx (c : Fin 8) (f : RgX → RgX) (s : State) : (updChX c f s).mssx = s.mssx := rfl
@[simp] theorem updChX_tmp (c : Fin 8) (f : RgX → RgX) (s : State) : (updChX c f s).tmp = s.tmp := rfl
@[simp] theorem updChX_pwr (c : Fin 8) (f : RgX → RgX) (s : State) : (updChX c f s).pwr = s.pwr := rfl
@[simp] theorem updChX_clk (c : Fin 8) (f : RgX → RgX) (s : State) : (updChX c f s).clk = s.clk := rfl
@[simp] theorem updChX_pmx (c : Fin 8) (f : RgX → RgX) (s : State) : (updChX c f s).pmx = s.pmx := rfl
@[simp] theorem updChX_shadow (c : Fin 8) (f : RgX → RgX) (s : State) : (updChX c f s).shadow = s.shadow := rfl
@[simp] theorem updChX_staging (c : Fin 8) (f : RgX → RgX) (s : State) : (updChX c f s).staging = s.staging := rfl
@[simp] theorem updChX_hostMem (c : Fin 8) (f : RgX → RgX) (s : State) : (updChX c f s).hostMem = s.hostMem := rfl
@[simp] theorem updChX_answer (c : Fin 8) (f : RgX → RgX) (s : State) : (updChX c f s).answer = s.answer := rfl
@[simp] theorem updChX_freeCtr (c : Fin 8) (f : RgX → RgX) (s : State) : (updChX c f s).freeCtr = s.freeCtr := rfl
@[simp] theorem updChX_now (c : Fin 8) (f : RgX → RgX) (s : State) : (updChX c f s).now = s.now := rfl
@[simp] theorem updChX_pending (c : Fin 8) (f : RgX → RgX) (s : State) : (updChX c f s).pending = s.pending := rfl

/-! ### updCore -/

@[simp] theorem updCore_cln (c : Nat) (f : CxCore → CxCore) (s : State) : (updCore c f s).cln = s.cln := rfl
@[simp] theorem updCore_life (c : Nat) (f : CxCore → CxCore) (s : State) : (updCore c f s).life = s.life := rfl
@[simp] theorem updCore_mpt (c : Nat) (f : CxCore → CxCore) (s : State) : (updCore c f s).mpt = s.mpt := rfl
@[simp] theorem updCore_qr (c : Nat) (f : CxCore → CxCore) (s : State) : (updCore c f s).qr = s.qr := rfl
@[simp] theorem updCore_qrx (c : Nat) (f : CxCore → CxCore) (s : State) : (updCore c f s).qrx = s.qrx := rfl
@[simp] theorem updCore_air (c : Nat) (f : CxCore → CxCore) (s : State) : (updCore c f s).air = s.air := rfl
@[simp] theorem updCore_afe (c : Nat) (f : CxCore → CxCore) (s : State) : (updCore c f s).afe = s.afe := rfl
@[simp] theorem updCore_line (c : Nat) (f : CxCore → CxCore) (s : State) : (updCore c f s).line = s.line := rfl
@[simp] theorem updCore_ofd (c : Nat) (f : CxCore → CxCore) (s : State) : (updCore c f s).ofd = s.ofd := rfl
@[simp] theorem updCore_rbm (c : Nat) (f : CxCore → CxCore) (s : State) : (updCore c f s).rbm = s.rbm := rfl
@[simp] theorem updCore_lt (c : Nat) (f : CxCore → CxCore) (s : State) : (updCore c f s).lt = s.lt := rfl
@[simp] theorem updCore_ltx (c : Nat) (f : CxCore → CxCore) (s : State) : (updCore c f s).ltx = s.ltx := rfl
@[simp] theorem updCore_slp (c : Nat) (f : CxCore → CxCore) (s : State) : (updCore c f s).slp = s.slp := rfl
@[simp] theorem updCore_slph (c : Nat) (f : CxCore → CxCore) (s : State) : (updCore c f s).slph = s.slph := rfl
@[simp] theorem updCore_te (c : Nat) (f : CxCore → CxCore) (s : State) : (updCore c f s).te = s.te := rfl
@[simp] theorem updCore_tex (c : Nat) (f : CxCore → CxCore) (s : State) : (updCore c f s).tex = s.tex := rfl
@[simp] theorem updCore_rg (c : Nat) (f : CxCore → CxCore) (s : State) : (updCore c f s).rg = s.rg := rfl
@[simp] theorem updCore_aln (c : Nat) (f : CxCore → CxCore) (s : State) : (updCore c f s).aln = s.aln := rfl
@[simp] theorem updCore_cv (c : Nat) (f : CxCore → CxCore) (s : State) : (updCore c f s).cv = s.cv := rfl
@[simp] theorem updCore_hi (c : Nat) (f : CxCore → CxCore) (s : State) : (updCore c f s).hi = s.hi := rfl
@[simp] theorem updCore_msix (c : Nat) (f : CxCore → CxCore) (s : State) : (updCore c f s).msix = s.msix := rfl
@[simp] theorem updCore_ev (c : Nat) (f : CxCore → CxCore) (s : State) : (updCore c f s).ev = s.ev := rfl
@[simp] theorem updCore_lg (c : Nat) (f : CxCore → CxCore) (s : State) : (updCore c f s).lg = s.lg := rfl
@[simp] theorem updCore_mss (c : Nat) (f : CxCore → CxCore) (s : State) : (updCore c f s).mss = s.mss := rfl
@[simp] theorem updCore_mssx (c : Nat) (f : CxCore → CxCore) (s : State) : (updCore c f s).mssx = s.mssx := rfl
@[simp] theorem updCore_tmp (c : Nat) (f : CxCore → CxCore) (s : State) : (updCore c f s).tmp = s.tmp := rfl
@[simp] theorem updCore_pwr (c : Nat) (f : CxCore → CxCore) (s : State) : (updCore c f s).pwr = s.pwr := rfl
@[simp] theorem updCore_clk (c : Nat) (f : CxCore → CxCore) (s : State) : (updCore c f s).clk = s.clk := rfl
@[simp] theorem updCore_pmx (c : Nat) (f : CxCore → CxCore) (s : State) : (updCore c f s).pmx = s.pmx := rfl
@[simp] theorem updCore_shadow (c : Nat) (f : CxCore → CxCore) (s : State) : (updCore c f s).shadow = s.shadow := rfl
@[simp] theorem updCore_staging (c : Nat) (f : CxCore → CxCore) (s : State) : (updCore c f s).staging = s.staging := rfl
@[simp] theorem updCore_hostMem (c : Nat) (f : CxCore → CxCore) (s : State) : (updCore c f s).hostMem = s.hostMem := rfl
@[simp] theorem updCore_answer (c : Nat) (f : CxCore → CxCore) (s : State) : (updCore c f s).answer = s.answer := rfl
@[simp] theorem updCore_freeCtr (c : Nat) (f : CxCore → CxCore) (s : State) : (updCore c f s).freeCtr = s.freeCtr := rfl
@[simp] theorem updCore_now (c : Nat) (f : CxCore → CxCore) (s : State) : (updCore c f s).now = s.now := rfl
@[simp] theorem updCore_pending (c : Nat) (f : CxCore → CxCore) (s : State) : (updCore c f s).pending = s.pending := rfl

/-! ### updSlot -/

@[simp] theorem updSlot_cln (i : Nat) (f : Slot → Slot) (s : State) : (updSlot i f s).cln = s.cln := rfl
@[simp] theorem updSlot_life (i : Nat) (f : Slot → Slot) (s : State) : (updSlot i f s).life = s.life := rfl
@[simp] theorem updSlot_mpt (i : Nat) (f : Slot → Slot) (s : State) : (updSlot i f s).mpt = s.mpt := rfl
@[simp] theorem updSlot_qr (i : Nat) (f : Slot → Slot) (s : State) : (updSlot i f s).qr = s.qr := rfl
@[simp] theorem updSlot_qrx (i : Nat) (f : Slot → Slot) (s : State) : (updSlot i f s).qrx = s.qrx := rfl
@[simp] theorem updSlot_air (i : Nat) (f : Slot → Slot) (s : State) : (updSlot i f s).air = s.air := rfl
@[simp] theorem updSlot_afe (i : Nat) (f : Slot → Slot) (s : State) : (updSlot i f s).afe = s.afe := rfl
@[simp] theorem updSlot_line (i : Nat) (f : Slot → Slot) (s : State) : (updSlot i f s).line = s.line := rfl
@[simp] theorem updSlot_ofd (i : Nat) (f : Slot → Slot) (s : State) : (updSlot i f s).ofd = s.ofd := rfl
@[simp] theorem updSlot_rbm (i : Nat) (f : Slot → Slot) (s : State) : (updSlot i f s).rbm = s.rbm := rfl
@[simp] theorem updSlot_lt (i : Nat) (f : Slot → Slot) (s : State) : (updSlot i f s).lt = s.lt := rfl
@[simp] theorem updSlot_ltx (i : Nat) (f : Slot → Slot) (s : State) : (updSlot i f s).ltx = s.ltx := rfl
@[simp] theorem updSlot_slp (i : Nat) (f : Slot → Slot) (s : State) : (updSlot i f s).slp = s.slp := rfl
@[simp] theorem updSlot_slph (i : Nat) (f : Slot → Slot) (s : State) : (updSlot i f s).slph = s.slph := rfl
@[simp] theorem updSlot_te (i : Nat) (f : Slot → Slot) (s : State) : (updSlot i f s).te = s.te := rfl
@[simp] theorem updSlot_tex (i : Nat) (f : Slot → Slot) (s : State) : (updSlot i f s).tex = s.tex := rfl
@[simp] theorem updSlot_rg (i : Nat) (f : Slot → Slot) (s : State) : (updSlot i f s).rg = s.rg := rfl
@[simp] theorem updSlot_aln (i : Nat) (f : Slot → Slot) (s : State) : (updSlot i f s).aln = s.aln := rfl
@[simp] theorem updSlot_cv (i : Nat) (f : Slot → Slot) (s : State) : (updSlot i f s).cv = s.cv := rfl
@[simp] theorem updSlot_hi (i : Nat) (f : Slot → Slot) (s : State) : (updSlot i f s).hi = s.hi := rfl
@[simp] theorem updSlot_msix (i : Nat) (f : Slot → Slot) (s : State) : (updSlot i f s).msix = s.msix := rfl
@[simp] theorem updSlot_ev (i : Nat) (f : Slot → Slot) (s : State) : (updSlot i f s).ev = s.ev := rfl
@[simp] theorem updSlot_lg (i : Nat) (f : Slot → Slot) (s : State) : (updSlot i f s).lg = s.lg := rfl
@[simp] theorem updSlot_mss (i : Nat) (f : Slot → Slot) (s : State) : (updSlot i f s).mss = s.mss := rfl
@[simp] theorem updSlot_mssx (i : Nat) (f : Slot → Slot) (s : State) : (updSlot i f s).mssx = s.mssx := rfl
@[simp] theorem updSlot_tmp (i : Nat) (f : Slot → Slot) (s : State) : (updSlot i f s).tmp = s.tmp := rfl
@[simp] theorem updSlot_pwr (i : Nat) (f : Slot → Slot) (s : State) : (updSlot i f s).pwr = s.pwr := rfl
@[simp] theorem updSlot_clk (i : Nat) (f : Slot → Slot) (s : State) : (updSlot i f s).clk = s.clk := rfl
@[simp] theorem updSlot_pmx (i : Nat) (f : Slot → Slot) (s : State) : (updSlot i f s).pmx = s.pmx := rfl
@[simp] theorem updSlot_shadow (i : Nat) (f : Slot → Slot) (s : State) : (updSlot i f s).shadow = s.shadow := rfl
@[simp] theorem updSlot_staging (i : Nat) (f : Slot → Slot) (s : State) : (updSlot i f s).staging = s.staging := rfl
@[simp] theorem updSlot_hostMem (i : Nat) (f : Slot → Slot) (s : State) : (updSlot i f s).hostMem = s.hostMem := rfl
@[simp] theorem updSlot_answer (i : Nat) (f : Slot → Slot) (s : State) : (updSlot i f s).answer = s.answer := rfl
@[simp] theorem updSlot_freeCtr (i : Nat) (f : Slot → Slot) (s : State) : (updSlot i f s).freeCtr = s.freeCtr := rfl
@[simp] theorem updSlot_now (i : Nat) (f : Slot → Slot) (s : State) : (updSlot i f s).now = s.now := rfl
@[simp] theorem updSlot_pending (i : Nat) (f : Slot → Slot) (s : State) : (updSlot i f s).pending = s.pending := rfl

/-! ### updStage -/

@[simp] theorem updStage_cln (c : Nat) (f : LtStage → LtStage) (s : State) : (updStage c f s).cln = s.cln := rfl
@[simp] theorem updStage_life (c : Nat) (f : LtStage → LtStage) (s : State) : (updStage c f s).life = s.life := rfl
@[simp] theorem updStage_mpt (c : Nat) (f : LtStage → LtStage) (s : State) : (updStage c f s).mpt = s.mpt := rfl
@[simp] theorem updStage_qr (c : Nat) (f : LtStage → LtStage) (s : State) : (updStage c f s).qr = s.qr := rfl
@[simp] theorem updStage_qrx (c : Nat) (f : LtStage → LtStage) (s : State) : (updStage c f s).qrx = s.qrx := rfl
@[simp] theorem updStage_air (c : Nat) (f : LtStage → LtStage) (s : State) : (updStage c f s).air = s.air := rfl
@[simp] theorem updStage_afe (c : Nat) (f : LtStage → LtStage) (s : State) : (updStage c f s).afe = s.afe := rfl
@[simp] theorem updStage_line (c : Nat) (f : LtStage → LtStage) (s : State) : (updStage c f s).line = s.line := rfl
@[simp] theorem updStage_ofd (c : Nat) (f : LtStage → LtStage) (s : State) : (updStage c f s).ofd = s.ofd := rfl
@[simp] theorem updStage_rbm (c : Nat) (f : LtStage → LtStage) (s : State) : (updStage c f s).rbm = s.rbm := rfl
@[simp] theorem updStage_ltx (c : Nat) (f : LtStage → LtStage) (s : State) : (updStage c f s).ltx = s.ltx := rfl
@[simp] theorem updStage_slp (c : Nat) (f : LtStage → LtStage) (s : State) : (updStage c f s).slp = s.slp := rfl
@[simp] theorem updStage_slph (c : Nat) (f : LtStage → LtStage) (s : State) : (updStage c f s).slph = s.slph := rfl
@[simp] theorem updStage_te (c : Nat) (f : LtStage → LtStage) (s : State) : (updStage c f s).te = s.te := rfl
@[simp] theorem updStage_tex (c : Nat) (f : LtStage → LtStage) (s : State) : (updStage c f s).tex = s.tex := rfl
@[simp] theorem updStage_rg (c : Nat) (f : LtStage → LtStage) (s : State) : (updStage c f s).rg = s.rg := rfl
@[simp] theorem updStage_aln (c : Nat) (f : LtStage → LtStage) (s : State) : (updStage c f s).aln = s.aln := rfl
@[simp] theorem updStage_cx (c : Nat) (f : LtStage → LtStage) (s : State) : (updStage c f s).cx = s.cx := rfl
@[simp] theorem updStage_cv (c : Nat) (f : LtStage → LtStage) (s : State) : (updStage c f s).cv = s.cv := rfl
@[simp] theorem updStage_hi (c : Nat) (f : LtStage → LtStage) (s : State) : (updStage c f s).hi = s.hi := rfl
@[simp] theorem updStage_msix (c : Nat) (f : LtStage → LtStage) (s : State) : (updStage c f s).msix = s.msix := rfl
@[simp] theorem updStage_ev (c : Nat) (f : LtStage → LtStage) (s : State) : (updStage c f s).ev = s.ev := rfl
@[simp] theorem updStage_lg (c : Nat) (f : LtStage → LtStage) (s : State) : (updStage c f s).lg = s.lg := rfl
@[simp] theorem updStage_mss (c : Nat) (f : LtStage → LtStage) (s : State) : (updStage c f s).mss = s.mss := rfl
@[simp] theorem updStage_mssx (c : Nat) (f : LtStage → LtStage) (s : State) : (updStage c f s).mssx = s.mssx := rfl
@[simp] theorem updStage_tmp (c : Nat) (f : LtStage → LtStage) (s : State) : (updStage c f s).tmp = s.tmp := rfl
@[simp] theorem updStage_pwr (c : Nat) (f : LtStage → LtStage) (s : State) : (updStage c f s).pwr = s.pwr := rfl
@[simp] theorem updStage_clk (c : Nat) (f : LtStage → LtStage) (s : State) : (updStage c f s).clk = s.clk := rfl
@[simp] theorem updStage_pmx (c : Nat) (f : LtStage → LtStage) (s : State) : (updStage c f s).pmx = s.pmx := rfl
@[simp] theorem updStage_shadow (c : Nat) (f : LtStage → LtStage) (s : State) : (updStage c f s).shadow = s.shadow := rfl
@[simp] theorem updStage_staging (c : Nat) (f : LtStage → LtStage) (s : State) : (updStage c f s).staging = s.staging := rfl
@[simp] theorem updStage_hostMem (c : Nat) (f : LtStage → LtStage) (s : State) : (updStage c f s).hostMem = s.hostMem := rfl
@[simp] theorem updStage_answer (c : Nat) (f : LtStage → LtStage) (s : State) : (updStage c f s).answer = s.answer := rfl
@[simp] theorem updStage_freeCtr (c : Nat) (f : LtStage → LtStage) (s : State) : (updStage c f s).freeCtr = s.freeCtr := rfl
@[simp] theorem updStage_now (c : Nat) (f : LtStage → LtStage) (s : State) : (updStage c f s).now = s.now := rfl
@[simp] theorem updStage_pending (c : Nat) (f : LtStage → LtStage) (s : State) : (updStage c f s).pending = s.pending := rfl

/-! ### updEntry -/

@[simp] theorem updEntry_cln (n : Nat) (f : Entry → Entry) (s : State) : (updEntry n f s).cln = s.cln := rfl
@[simp] theorem updEntry_life (n : Nat) (f : Entry → Entry) (s : State) : (updEntry n f s).life = s.life := rfl
@[simp] theorem updEntry_mpt (n : Nat) (f : Entry → Entry) (s : State) : (updEntry n f s).mpt = s.mpt := rfl
@[simp] theorem updEntry_qr (n : Nat) (f : Entry → Entry) (s : State) : (updEntry n f s).qr = s.qr := rfl
@[simp] theorem updEntry_qrx (n : Nat) (f : Entry → Entry) (s : State) : (updEntry n f s).qrx = s.qrx := rfl
@[simp] theorem updEntry_air (n : Nat) (f : Entry → Entry) (s : State) : (updEntry n f s).air = s.air := rfl
@[simp] theorem updEntry_afe (n : Nat) (f : Entry → Entry) (s : State) : (updEntry n f s).afe = s.afe := rfl
@[simp] theorem updEntry_line (n : Nat) (f : Entry → Entry) (s : State) : (updEntry n f s).line = s.line := rfl
@[simp] theorem updEntry_ofd (n : Nat) (f : Entry → Entry) (s : State) : (updEntry n f s).ofd = s.ofd := rfl
@[simp] theorem updEntry_rbm (n : Nat) (f : Entry → Entry) (s : State) : (updEntry n f s).rbm = s.rbm := rfl
@[simp] theorem updEntry_ltx (n : Nat) (f : Entry → Entry) (s : State) : (updEntry n f s).ltx = s.ltx := rfl
@[simp] theorem updEntry_slp (n : Nat) (f : Entry → Entry) (s : State) : (updEntry n f s).slp = s.slp := rfl
@[simp] theorem updEntry_slph (n : Nat) (f : Entry → Entry) (s : State) : (updEntry n f s).slph = s.slph := rfl
@[simp] theorem updEntry_te (n : Nat) (f : Entry → Entry) (s : State) : (updEntry n f s).te = s.te := rfl
@[simp] theorem updEntry_tex (n : Nat) (f : Entry → Entry) (s : State) : (updEntry n f s).tex = s.tex := rfl
@[simp] theorem updEntry_rg (n : Nat) (f : Entry → Entry) (s : State) : (updEntry n f s).rg = s.rg := rfl
@[simp] theorem updEntry_aln (n : Nat) (f : Entry → Entry) (s : State) : (updEntry n f s).aln = s.aln := rfl
@[simp] theorem updEntry_cx (n : Nat) (f : Entry → Entry) (s : State) : (updEntry n f s).cx = s.cx := rfl
@[simp] theorem updEntry_cv (n : Nat) (f : Entry → Entry) (s : State) : (updEntry n f s).cv = s.cv := rfl
@[simp] theorem updEntry_hi (n : Nat) (f : Entry → Entry) (s : State) : (updEntry n f s).hi = s.hi := rfl
@[simp] theorem updEntry_msix (n : Nat) (f : Entry → Entry) (s : State) : (updEntry n f s).msix = s.msix := rfl
@[simp] theorem updEntry_ev (n : Nat) (f : Entry → Entry) (s : State) : (updEntry n f s).ev = s.ev := rfl
@[simp] theorem updEntry_lg (n : Nat) (f : Entry → Entry) (s : State) : (updEntry n f s).lg = s.lg := rfl
@[simp] theorem updEntry_mss (n : Nat) (f : Entry → Entry) (s : State) : (updEntry n f s).mss = s.mss := rfl
@[simp] theorem updEntry_mssx (n : Nat) (f : Entry → Entry) (s : State) : (updEntry n f s).mssx = s.mssx := rfl
@[simp] theorem updEntry_tmp (n : Nat) (f : Entry → Entry) (s : State) : (updEntry n f s).tmp = s.tmp := rfl
@[simp] theorem updEntry_pwr (n : Nat) (f : Entry → Entry) (s : State) : (updEntry n f s).pwr = s.pwr := rfl
@[simp] theorem updEntry_clk (n : Nat) (f : Entry → Entry) (s : State) : (updEntry n f s).clk = s.clk := rfl
@[simp] theorem updEntry_pmx (n : Nat) (f : Entry → Entry) (s : State) : (updEntry n f s).pmx = s.pmx := rfl
@[simp] theorem updEntry_shadow (n : Nat) (f : Entry → Entry) (s : State) : (updEntry n f s).shadow = s.shadow := rfl
@[simp] theorem updEntry_staging (n : Nat) (f : Entry → Entry) (s : State) : (updEntry n f s).staging = s.staging := rfl
@[simp] theorem updEntry_hostMem (n : Nat) (f : Entry → Entry) (s : State) : (updEntry n f s).hostMem = s.hostMem := rfl
@[simp] theorem updEntry_answer (n : Nat) (f : Entry → Entry) (s : State) : (updEntry n f s).answer = s.answer := rfl
@[simp] theorem updEntry_freeCtr (n : Nat) (f : Entry → Entry) (s : State) : (updEntry n f s).freeCtr = s.freeCtr := rfl
@[simp] theorem updEntry_now (n : Nat) (f : Entry → Entry) (s : State) : (updEntry n f s).now = s.now := rfl
@[simp] theorem updEntry_pending (n : Nat) (f : Entry → Entry) (s : State) : (updEntry n f s).pending = s.pending := rfl

/-! ### updCv -/

@[simp] theorem updCv_cln (c : Nat) (f : CvCh → CvCh) (s : State) : (updCv c f s).cln = s.cln := rfl
@[simp] theorem updCv_life (c : Nat) (f : CvCh → CvCh) (s : State) : (updCv c f s).life = s.life := rfl
@[simp] theorem updCv_mpt (c : Nat) (f : CvCh → CvCh) (s : State) : (updCv c f s).mpt = s.mpt := rfl
@[simp] theorem updCv_qr (c : Nat) (f : CvCh → CvCh) (s : State) : (updCv c f s).qr = s.qr := rfl
@[simp] theorem updCv_qrx (c : Nat) (f : CvCh → CvCh) (s : State) : (updCv c f s).qrx = s.qrx := rfl
@[simp] theorem updCv_air (c : Nat) (f : CvCh → CvCh) (s : State) : (updCv c f s).air = s.air := rfl
@[simp] theorem updCv_afe (c : Nat) (f : CvCh → CvCh) (s : State) : (updCv c f s).afe = s.afe := rfl
@[simp] theorem updCv_line (c : Nat) (f : CvCh → CvCh) (s : State) : (updCv c f s).line = s.line := rfl
@[simp] theorem updCv_ofd (c : Nat) (f : CvCh → CvCh) (s : State) : (updCv c f s).ofd = s.ofd := rfl
@[simp] theorem updCv_rbm (c : Nat) (f : CvCh → CvCh) (s : State) : (updCv c f s).rbm = s.rbm := rfl
@[simp] theorem updCv_lt (c : Nat) (f : CvCh → CvCh) (s : State) : (updCv c f s).lt = s.lt := rfl
@[simp] theorem updCv_ltx (c : Nat) (f : CvCh → CvCh) (s : State) : (updCv c f s).ltx = s.ltx := rfl
@[simp] theorem updCv_slp (c : Nat) (f : CvCh → CvCh) (s : State) : (updCv c f s).slp = s.slp := rfl
@[simp] theorem updCv_slph (c : Nat) (f : CvCh → CvCh) (s : State) : (updCv c f s).slph = s.slph := rfl
@[simp] theorem updCv_te (c : Nat) (f : CvCh → CvCh) (s : State) : (updCv c f s).te = s.te := rfl
@[simp] theorem updCv_tex (c : Nat) (f : CvCh → CvCh) (s : State) : (updCv c f s).tex = s.tex := rfl
@[simp] theorem updCv_rg (c : Nat) (f : CvCh → CvCh) (s : State) : (updCv c f s).rg = s.rg := rfl
@[simp] theorem updCv_aln (c : Nat) (f : CvCh → CvCh) (s : State) : (updCv c f s).aln = s.aln := rfl
@[simp] theorem updCv_cx (c : Nat) (f : CvCh → CvCh) (s : State) : (updCv c f s).cx = s.cx := rfl
@[simp] theorem updCv_hi (c : Nat) (f : CvCh → CvCh) (s : State) : (updCv c f s).hi = s.hi := rfl
@[simp] theorem updCv_msix (c : Nat) (f : CvCh → CvCh) (s : State) : (updCv c f s).msix = s.msix := rfl
@[simp] theorem updCv_ev (c : Nat) (f : CvCh → CvCh) (s : State) : (updCv c f s).ev = s.ev := rfl
@[simp] theorem updCv_lg (c : Nat) (f : CvCh → CvCh) (s : State) : (updCv c f s).lg = s.lg := rfl
@[simp] theorem updCv_mss (c : Nat) (f : CvCh → CvCh) (s : State) : (updCv c f s).mss = s.mss := rfl
@[simp] theorem updCv_mssx (c : Nat) (f : CvCh → CvCh) (s : State) : (updCv c f s).mssx = s.mssx := rfl
@[simp] theorem updCv_tmp (c : Nat) (f : CvCh → CvCh) (s : State) : (updCv c f s).tmp = s.tmp := rfl
@[simp] theorem updCv_pwr (c : Nat) (f : CvCh → CvCh) (s : State) : (updCv c f s).pwr = s.pwr := rfl
@[simp] theorem updCv_clk (c : Nat) (f : CvCh → CvCh) (s : State) : (updCv c f s).clk = s.clk := rfl
@[simp] theorem updCv_pmx (c : Nat) (f : CvCh → CvCh) (s : State) : (updCv c f s).pmx = s.pmx := rfl
@[simp] theorem updCv_shadow (c : Nat) (f : CvCh → CvCh) (s : State) : (updCv c f s).shadow = s.shadow := rfl
@[simp] theorem updCv_staging (c : Nat) (f : CvCh → CvCh) (s : State) : (updCv c f s).staging = s.staging := rfl
@[simp] theorem updCv_hostMem (c : Nat) (f : CvCh → CvCh) (s : State) : (updCv c f s).hostMem = s.hostMem := rfl
@[simp] theorem updCv_answer (c : Nat) (f : CvCh → CvCh) (s : State) : (updCv c f s).answer = s.answer := rfl
@[simp] theorem updCv_freeCtr (c : Nat) (f : CvCh → CvCh) (s : State) : (updCv c f s).freeCtr = s.freeCtr := rfl
@[simp] theorem updCv_now (c : Nat) (f : CvCh → CvCh) (s : State) : (updCv c f s).now = s.now := rfl
@[simp] theorem updCv_pending (c : Nat) (f : CvCh → CvCh) (s : State) : (updCv c f s).pending = s.pending := rfl

/-! ### updFrame -/

@[simp] theorem updFrame_cln (id : Nat) (g : TxFrame → TxFrame) (s : State) : (updFrame id g s).cln = s.cln := rfl
@[simp] theorem updFrame_life (id : Nat) (g : TxFrame → TxFrame) (s : State) : (updFrame id g s).life = s.life := rfl
@[simp] theorem updFrame_mpt (id : Nat) (g : TxFrame → TxFrame) (s : State) : (updFrame id g s).mpt = s.mpt := rfl
@[simp] theorem updFrame_qr (id : Nat) (g : TxFrame → TxFrame) (s : State) : (updFrame id g s).qr = s.qr := rfl
@[simp] theorem updFrame_qrx (id : Nat) (g : TxFrame → TxFrame) (s : State) : (updFrame id g s).qrx = s.qrx := rfl
@[simp] theorem updFrame_air (id : Nat) (g : TxFrame → TxFrame) (s : State) : (updFrame id g s).air = s.air := rfl
@[simp] theorem updFrame_afe (id : Nat) (g : TxFrame → TxFrame) (s : State) : (updFrame id g s).afe = s.afe := rfl
@[simp] theorem updFrame_ofd (id : Nat) (g : TxFrame → TxFrame) (s : State) : (updFrame id g s).ofd = s.ofd := rfl
@[simp] theorem updFrame_rbm (id : Nat) (g : TxFrame → TxFrame) (s : State) : (updFrame id g s).rbm = s.rbm := rfl
@[simp] theorem updFrame_lt (id : Nat) (g : TxFrame → TxFrame) (s : State) : (updFrame id g s).lt = s.lt := rfl
@[simp] theorem updFrame_ltx (id : Nat) (g : TxFrame → TxFrame) (s : State) : (updFrame id g s).ltx = s.ltx := rfl
@[simp] theorem updFrame_slp (id : Nat) (g : TxFrame → TxFrame) (s : State) : (updFrame id g s).slp = s.slp := rfl
@[simp] theorem updFrame_slph (id : Nat) (g : TxFrame → TxFrame) (s : State) : (updFrame id g s).slph = s.slph := rfl
@[simp] theorem updFrame_te (id : Nat) (g : TxFrame → TxFrame) (s : State) : (updFrame id g s).te = s.te := rfl
@[simp] theorem updFrame_tex (id : Nat) (g : TxFrame → TxFrame) (s : State) : (updFrame id g s).tex = s.tex := rfl
@[simp] theorem updFrame_rg (id : Nat) (g : TxFrame → TxFrame) (s : State) : (updFrame id g s).rg = s.rg := rfl
@[simp] theorem updFrame_aln (id : Nat) (g : TxFrame → TxFrame) (s : State) : (updFrame id g s).aln = s.aln := rfl
@[simp] theorem updFrame_cx (id : Nat) (g : TxFrame → TxFrame) (s : State) : (updFrame id g s).cx = s.cx := rfl
@[simp] theorem updFrame_cv (id : Nat) (g : TxFrame → TxFrame) (s : State) : (updFrame id g s).cv = s.cv := rfl
@[simp] theorem updFrame_hi (id : Nat) (g : TxFrame → TxFrame) (s : State) : (updFrame id g s).hi = s.hi := rfl
@[simp] theorem updFrame_msix (id : Nat) (g : TxFrame → TxFrame) (s : State) : (updFrame id g s).msix = s.msix := rfl
@[simp] theorem updFrame_ev (id : Nat) (g : TxFrame → TxFrame) (s : State) : (updFrame id g s).ev = s.ev := rfl
@[simp] theorem updFrame_lg (id : Nat) (g : TxFrame → TxFrame) (s : State) : (updFrame id g s).lg = s.lg := rfl
@[simp] theorem updFrame_mss (id : Nat) (g : TxFrame → TxFrame) (s : State) : (updFrame id g s).mss = s.mss := rfl
@[simp] theorem updFrame_mssx (id : Nat) (g : TxFrame → TxFrame) (s : State) : (updFrame id g s).mssx = s.mssx := rfl
@[simp] theorem updFrame_tmp (id : Nat) (g : TxFrame → TxFrame) (s : State) : (updFrame id g s).tmp = s.tmp := rfl
@[simp] theorem updFrame_pwr (id : Nat) (g : TxFrame → TxFrame) (s : State) : (updFrame id g s).pwr = s.pwr := rfl
@[simp] theorem updFrame_clk (id : Nat) (g : TxFrame → TxFrame) (s : State) : (updFrame id g s).clk = s.clk := rfl
@[simp] theorem updFrame_pmx (id : Nat) (g : TxFrame → TxFrame) (s : State) : (updFrame id g s).pmx = s.pmx := rfl
@[simp] theorem updFrame_shadow (id : Nat) (g : TxFrame → TxFrame) (s : State) : (updFrame id g s).shadow = s.shadow := rfl
@[simp] theorem updFrame_staging (id : Nat) (g : TxFrame → TxFrame) (s : State) : (updFrame id g s).staging = s.staging := rfl
@[simp] theorem updFrame_hostMem (id : Nat) (g : TxFrame → TxFrame) (s : State) : (updFrame id g s).hostMem = s.hostMem := rfl
@[simp] theorem updFrame_answer (id : Nat) (g : TxFrame → TxFrame) (s : State) : (updFrame id g s).answer = s.answer := rfl
@[simp] theorem updFrame_freeCtr (id : Nat) (g : TxFrame → TxFrame) (s : State) : (updFrame id g s).freeCtr = s.freeCtr := rfl
@[simp] theorem updFrame_now (id : Nat) (g : TxFrame → TxFrame) (s : State) : (updFrame id g s).now = s.now := rfl
@[simp] theorem updFrame_pending (id : Nat) (g : TxFrame → TxFrame) (s : State) : (updFrame id g s).pending = s.pending := rfl

/-! ### issue -/

@[simp] theorem issue_cln (cls inst n : Nat) (s : State) : (issue cls inst n s).cln = s.cln := rfl
@[simp] theorem issue_life (cls inst n : Nat) (s : State) : (issue cls inst n s).life = s.life := rfl
@[simp] theorem issue_mpt (cls inst n : Nat) (s : State) : (issue cls inst n s).mpt = s.mpt := rfl
@[simp] theorem issue_qr (cls inst n : Nat) (s : State) : (issue cls inst n s).qr = s.qr := rfl
@[simp] theorem issue_qrx (cls inst n : Nat) (s : State) : (issue cls inst n s).qrx = s.qrx := rfl
@[simp] theorem issue_air (cls inst n : Nat) (s : State) : (issue cls inst n s).air = s.air := rfl
@[simp] theorem issue_afe (cls inst n : Nat) (s : State) : (issue cls inst n s).afe = s.afe := rfl
@[simp] theorem issue_line (cls inst n : Nat) (s : State) : (issue cls inst n s).line = s.line := rfl
@[simp] theorem issue_ofd (cls inst n : Nat) (s : State) : (issue cls inst n s).ofd = s.ofd := rfl
@[simp] theorem issue_rbm (cls inst n : Nat) (s : State) : (issue cls inst n s).rbm = s.rbm := rfl
@[simp] theorem issue_lt (cls inst n : Nat) (s : State) : (issue cls inst n s).lt = s.lt := rfl
@[simp] theorem issue_ltx (cls inst n : Nat) (s : State) : (issue cls inst n s).ltx = s.ltx := rfl
@[simp] theorem issue_slp (cls inst n : Nat) (s : State) : (issue cls inst n s).slp = s.slp := rfl
@[simp] theorem issue_slph (cls inst n : Nat) (s : State) : (issue cls inst n s).slph = s.slph := rfl
@[simp] theorem issue_te (cls inst n : Nat) (s : State) : (issue cls inst n s).te = s.te := rfl
@[simp] theorem issue_tex (cls inst n : Nat) (s : State) : (issue cls inst n s).tex = s.tex := rfl
@[simp] theorem issue_rg (cls inst n : Nat) (s : State) : (issue cls inst n s).rg = s.rg := rfl
@[simp] theorem issue_aln (cls inst n : Nat) (s : State) : (issue cls inst n s).aln = s.aln := rfl
@[simp] theorem issue_cx (cls inst n : Nat) (s : State) : (issue cls inst n s).cx = s.cx := rfl
@[simp] theorem issue_cv (cls inst n : Nat) (s : State) : (issue cls inst n s).cv = s.cv := rfl
@[simp] theorem issue_hi (cls inst n : Nat) (s : State) : (issue cls inst n s).hi = s.hi := rfl
@[simp] theorem issue_msix (cls inst n : Nat) (s : State) : (issue cls inst n s).msix = s.msix := rfl
@[simp] theorem issue_ev (cls inst n : Nat) (s : State) : (issue cls inst n s).ev = s.ev := rfl
@[simp] theorem issue_mss (cls inst n : Nat) (s : State) : (issue cls inst n s).mss = s.mss := rfl
@[simp] theorem issue_mssx (cls inst n : Nat) (s : State) : (issue cls inst n s).mssx = s.mssx := rfl
@[simp] theorem issue_tmp (cls inst n : Nat) (s : State) : (issue cls inst n s).tmp = s.tmp := rfl
@[simp] theorem issue_pwr (cls inst n : Nat) (s : State) : (issue cls inst n s).pwr = s.pwr := rfl
@[simp] theorem issue_clk (cls inst n : Nat) (s : State) : (issue cls inst n s).clk = s.clk := rfl
@[simp] theorem issue_pmx (cls inst n : Nat) (s : State) : (issue cls inst n s).pmx = s.pmx := rfl
@[simp] theorem issue_shadow (cls inst n : Nat) (s : State) : (issue cls inst n s).shadow = s.shadow := rfl
@[simp] theorem issue_staging (cls inst n : Nat) (s : State) : (issue cls inst n s).staging = s.staging := rfl
@[simp] theorem issue_hostMem (cls inst n : Nat) (s : State) : (issue cls inst n s).hostMem = s.hostMem := rfl
@[simp] theorem issue_answer (cls inst n : Nat) (s : State) : (issue cls inst n s).answer = s.answer := rfl
@[simp] theorem issue_freeCtr (cls inst n : Nat) (s : State) : (issue cls inst n s).freeCtr = s.freeCtr := rfl
@[simp] theorem issue_now (cls inst n : Nat) (s : State) : (issue cls inst n s).now = s.now := rfl
@[simp] theorem issue_pending (cls inst n : Nat) (s : State) : (issue cls inst n s).pending = s.pending := rfl

/-! ### giveBack -/

@[simp] theorem giveBack_cln (cls inst n : Nat) (s : State) : (giveBack cls inst n s).cln = s.cln := rfl
@[simp] theorem giveBack_life (cls inst n : Nat) (s : State) : (giveBack cls inst n s).life = s.life := rfl
@[simp] theorem giveBack_mpt (cls inst n : Nat) (s : State) : (giveBack cls inst n s).mpt = s.mpt := rfl
@[simp] theorem giveBack_qr (cls inst n : Nat) (s : State) : (giveBack cls inst n s).qr = s.qr := rfl
@[simp] theorem giveBack_qrx (cls inst n : Nat) (s : State) : (giveBack cls inst n s).qrx = s.qrx := rfl
@[simp] theorem giveBack_air (cls inst n : Nat) (s : State) : (giveBack cls inst n s).air = s.air := rfl
@[simp] theorem giveBack_afe (cls inst n : Nat) (s : State) : (giveBack cls inst n s).afe = s.afe := rfl
@[simp] theorem giveBack_line (cls inst n : Nat) (s : State) : (giveBack cls inst n s).line = s.line := rfl
@[simp] theorem giveBack_ofd (cls inst n : Nat) (s : State) : (giveBack cls inst n s).ofd = s.ofd := rfl
@[simp] theorem giveBack_rbm (cls inst n : Nat) (s : State) : (giveBack cls inst n s).rbm = s.rbm := rfl
@[simp] theorem giveBack_lt (cls inst n : Nat) (s : State) : (giveBack cls inst n s).lt = s.lt := rfl
@[simp] theorem giveBack_ltx (cls inst n : Nat) (s : State) : (giveBack cls inst n s).ltx = s.ltx := rfl
@[simp] theorem giveBack_slp (cls inst n : Nat) (s : State) : (giveBack cls inst n s).slp = s.slp := rfl
@[simp] theorem giveBack_slph (cls inst n : Nat) (s : State) : (giveBack cls inst n s).slph = s.slph := rfl
@[simp] theorem giveBack_te (cls inst n : Nat) (s : State) : (giveBack cls inst n s).te = s.te := rfl
@[simp] theorem giveBack_tex (cls inst n : Nat) (s : State) : (giveBack cls inst n s).tex = s.tex := rfl
@[simp] theorem giveBack_rg (cls inst n : Nat) (s : State) : (giveBack cls inst n s).rg = s.rg := rfl
@[simp] theorem giveBack_aln (cls inst n : Nat) (s : State) : (giveBack cls inst n s).aln = s.aln := rfl
@[simp] theorem giveBack_cx (cls inst n : Nat) (s : State) : (giveBack cls inst n s).cx = s.cx := rfl
@[simp] theorem giveBack_cv (cls inst n : Nat) (s : State) : (giveBack cls inst n s).cv = s.cv := rfl
@[simp] theorem giveBack_hi (cls inst n : Nat) (s : State) : (giveBack cls inst n s).hi = s.hi := rfl
@[simp] theorem giveBack_msix (cls inst n : Nat) (s : State) : (giveBack cls inst n s).msix = s.msix := rfl
@[simp] theorem giveBack_ev (cls inst n : Nat) (s : State) : (giveBack cls inst n s).ev = s.ev := rfl
@[simp] theorem giveBack_mss (cls inst n : Nat) (s : State) : (giveBack cls inst n s).mss = s.mss := rfl
@[simp] theorem giveBack_mssx (cls inst n : Nat) (s : State) : (giveBack cls inst n s).mssx = s.mssx := rfl
@[simp] theorem giveBack_tmp (cls inst n : Nat) (s : State) : (giveBack cls inst n s).tmp = s.tmp := rfl
@[simp] theorem giveBack_pwr (cls inst n : Nat) (s : State) : (giveBack cls inst n s).pwr = s.pwr := rfl
@[simp] theorem giveBack_clk (cls inst n : Nat) (s : State) : (giveBack cls inst n s).clk = s.clk := rfl
@[simp] theorem giveBack_pmx (cls inst n : Nat) (s : State) : (giveBack cls inst n s).pmx = s.pmx := rfl
@[simp] theorem giveBack_shadow (cls inst n : Nat) (s : State) : (giveBack cls inst n s).shadow = s.shadow := rfl
@[simp] theorem giveBack_staging (cls inst n : Nat) (s : State) : (giveBack cls inst n s).staging = s.staging := rfl
@[simp] theorem giveBack_hostMem (cls inst n : Nat) (s : State) : (giveBack cls inst n s).hostMem = s.hostMem := rfl
@[simp] theorem giveBack_answer (cls inst n : Nat) (s : State) : (giveBack cls inst n s).answer = s.answer := rfl
@[simp] theorem giveBack_freeCtr (cls inst n : Nat) (s : State) : (giveBack cls inst n s).freeCtr = s.freeCtr := rfl
@[simp] theorem giveBack_now (cls inst n : Nat) (s : State) : (giveBack cls inst n s).now = s.now := rfl
@[simp] theorem giveBack_pending (cls inst n : Nat) (s : State) : (giveBack cls inst n s).pending = s.pending := rfl

/-! ### giveAll -/

@[simp] theorem giveAll_cln (cls inst : Nat) (s : State) : (giveAll cls inst s).cln = s.cln := rfl
@[simp] theorem giveAll_life (cls inst : Nat) (s : State) : (giveAll cls inst s).life = s.life := rfl
@[simp] theorem giveAll_mpt (cls inst : Nat) (s : State) : (giveAll cls inst s).mpt = s.mpt := rfl
@[simp] theorem giveAll_qr (cls inst : Nat) (s : State) : (giveAll cls inst s).qr = s.qr := rfl
@[simp] theorem giveAll_qrx (cls inst : Nat) (s : State) : (giveAll cls inst s).qrx = s.qrx := rfl
@[simp] theorem giveAll_air (cls inst : Nat) (s : State) : (giveAll cls inst s).air = s.air := rfl
@[simp] theorem giveAll_afe (cls inst : Nat) (s : State) : (giveAll cls inst s).afe = s.afe := rfl
@[simp] theorem giveAll_line (cls inst : Nat) (s : State) : (giveAll cls inst s).line = s.line := rfl
@[simp] theorem giveAll_ofd (cls inst : Nat) (s : State) : (giveAll cls inst s).ofd = s.ofd := rfl
@[simp] theorem giveAll_rbm (cls inst : Nat) (s : State) : (giveAll cls inst s).rbm = s.rbm := rfl
@[simp] theorem giveAll_lt (cls inst : Nat) (s : State) : (giveAll cls inst s).lt = s.lt := rfl
@[simp] theorem giveAll_ltx (cls inst : Nat) (s : State) : (giveAll cls inst s).ltx = s.ltx := rfl
@[simp] theorem giveAll_slp (cls inst : Nat) (s : State) : (giveAll cls inst s).slp = s.slp := rfl
@[simp] theorem giveAll_slph (cls inst : Nat) (s : State) : (giveAll cls inst s).slph = s.slph := rfl
@[simp] theorem giveAll_te (cls inst : Nat) (s : State) : (giveAll cls inst s).te = s.te := rfl
@[simp] theorem giveAll_tex (cls inst : Nat) (s : State) : (giveAll cls inst s).tex = s.tex := rfl
@[simp] theorem giveAll_rg (cls inst : Nat) (s : State) : (giveAll cls inst s).rg = s.rg := rfl
@[simp] theorem giveAll_aln (cls inst : Nat) (s : State) : (giveAll cls inst s).aln = s.aln := rfl
@[simp] theorem giveAll_cx (cls inst : Nat) (s : State) : (giveAll cls inst s).cx = s.cx := rfl
@[simp] theorem giveAll_cv (cls inst : Nat) (s : State) : (giveAll cls inst s).cv = s.cv := rfl
@[simp] theorem giveAll_hi (cls inst : Nat) (s : State) : (giveAll cls inst s).hi = s.hi := rfl
@[simp] theorem giveAll_msix (cls inst : Nat) (s : State) : (giveAll cls inst s).msix = s.msix := rfl
@[simp] theorem giveAll_ev (cls inst : Nat) (s : State) : (giveAll cls inst s).ev = s.ev := rfl
@[simp] theorem giveAll_mss (cls inst : Nat) (s : State) : (giveAll cls inst s).mss = s.mss := rfl
@[simp] theorem giveAll_mssx (cls inst : Nat) (s : State) : (giveAll cls inst s).mssx = s.mssx := rfl
@[simp] theorem giveAll_tmp (cls inst : Nat) (s : State) : (giveAll cls inst s).tmp = s.tmp := rfl
@[simp] theorem giveAll_pwr (cls inst : Nat) (s : State) : (giveAll cls inst s).pwr = s.pwr := rfl
@[simp] theorem giveAll_clk (cls inst : Nat) (s : State) : (giveAll cls inst s).clk = s.clk := rfl
@[simp] theorem giveAll_pmx (cls inst : Nat) (s : State) : (giveAll cls inst s).pmx = s.pmx := rfl
@[simp] theorem giveAll_shadow (cls inst : Nat) (s : State) : (giveAll cls inst s).shadow = s.shadow := rfl
@[simp] theorem giveAll_staging (cls inst : Nat) (s : State) : (giveAll cls inst s).staging = s.staging := rfl
@[simp] theorem giveAll_hostMem (cls inst : Nat) (s : State) : (giveAll cls inst s).hostMem = s.hostMem := rfl
@[simp] theorem giveAll_answer (cls inst : Nat) (s : State) : (giveAll cls inst s).answer = s.answer := rfl
@[simp] theorem giveAll_freeCtr (cls inst : Nat) (s : State) : (giveAll cls inst s).freeCtr = s.freeCtr := rfl
@[simp] theorem giveAll_now (cls inst : Nat) (s : State) : (giveAll cls inst s).now = s.now := rfl
@[simp] theorem giveAll_pending (cls inst : Nat) (s : State) : (giveAll cls inst s).pending = s.pending := rfl

/-! ### hostWrite -/

@[simp] theorem hostWrite_cln (addr : Nat) (bs : List Byte) (s : State) : (hostWrite addr bs s).cln = s.cln := rfl
@[simp] theorem hostWrite_life (addr : Nat) (bs : List Byte) (s : State) : (hostWrite addr bs s).life = s.life := rfl
@[simp] theorem hostWrite_mpt (addr : Nat) (bs : List Byte) (s : State) : (hostWrite addr bs s).mpt = s.mpt := rfl
@[simp] theorem hostWrite_qr (addr : Nat) (bs : List Byte) (s : State) : (hostWrite addr bs s).qr = s.qr := rfl
@[simp] theorem hostWrite_qrx (addr : Nat) (bs : List Byte) (s : State) : (hostWrite addr bs s).qrx = s.qrx := rfl
@[simp] theorem hostWrite_air (addr : Nat) (bs : List Byte) (s : State) : (hostWrite addr bs s).air = s.air := rfl
@[simp] theorem hostWrite_afe (addr : Nat) (bs : List Byte) (s : State) : (hostWrite addr bs s).afe = s.afe := rfl
@[simp] theorem hostWrite_line (addr : Nat) (bs : List Byte) (s : State) : (hostWrite addr bs s).line = s.line := rfl
@[simp] theorem hostWrite_ofd (addr : Nat) (bs : List Byte) (s : State) : (hostWrite addr bs s).ofd = s.ofd := rfl
@[simp] theorem hostWrite_rbm (addr : Nat) (bs : List Byte) (s : State) : (hostWrite addr bs s).rbm = s.rbm := rfl
@[simp] theorem hostWrite_lt (addr : Nat) (bs : List Byte) (s : State) : (hostWrite addr bs s).lt = s.lt := rfl
@[simp] theorem hostWrite_ltx (addr : Nat) (bs : List Byte) (s : State) : (hostWrite addr bs s).ltx = s.ltx := rfl
@[simp] theorem hostWrite_slp (addr : Nat) (bs : List Byte) (s : State) : (hostWrite addr bs s).slp = s.slp := rfl
@[simp] theorem hostWrite_slph (addr : Nat) (bs : List Byte) (s : State) : (hostWrite addr bs s).slph = s.slph := rfl
@[simp] theorem hostWrite_te (addr : Nat) (bs : List Byte) (s : State) : (hostWrite addr bs s).te = s.te := rfl
@[simp] theorem hostWrite_tex (addr : Nat) (bs : List Byte) (s : State) : (hostWrite addr bs s).tex = s.tex := rfl
@[simp] theorem hostWrite_rg (addr : Nat) (bs : List Byte) (s : State) : (hostWrite addr bs s).rg = s.rg := rfl
@[simp] theorem hostWrite_aln (addr : Nat) (bs : List Byte) (s : State) : (hostWrite addr bs s).aln = s.aln := rfl
@[simp] theorem hostWrite_cx (addr : Nat) (bs : List Byte) (s : State) : (hostWrite addr bs s).cx = s.cx := rfl
@[simp] theorem hostWrite_cv (addr : Nat) (bs : List Byte) (s : State) : (hostWrite addr bs s).cv = s.cv := rfl
@[simp] theorem hostWrite_hi (addr : Nat) (bs : List Byte) (s : State) : (hostWrite addr bs s).hi = s.hi := rfl
@[simp] theorem hostWrite_msix (addr : Nat) (bs : List Byte) (s : State) : (hostWrite addr bs s).msix = s.msix := rfl
@[simp] theorem hostWrite_ev (addr : Nat) (bs : List Byte) (s : State) : (hostWrite addr bs s).ev = s.ev := rfl
@[simp] theorem hostWrite_lg (addr : Nat) (bs : List Byte) (s : State) : (hostWrite addr bs s).lg = s.lg := rfl
@[simp] theorem hostWrite_mss (addr : Nat) (bs : List Byte) (s : State) : (hostWrite addr bs s).mss = s.mss := rfl
@[simp] theorem hostWrite_mssx (addr : Nat) (bs : List Byte) (s : State) : (hostWrite addr bs s).mssx = s.mssx := rfl
@[simp] theorem hostWrite_tmp (addr : Nat) (bs : List Byte) (s : State) : (hostWrite addr bs s).tmp = s.tmp := rfl
@[simp] theorem hostWrite_pwr (addr : Nat) (bs : List Byte) (s : State) : (hostWrite addr bs s).pwr = s.pwr := rfl
@[simp] theorem hostWrite_clk (addr : Nat) (bs : List Byte) (s : State) : (hostWrite addr bs s).clk = s.clk := rfl
@[simp] theorem hostWrite_pmx (addr : Nat) (bs : List Byte) (s : State) : (hostWrite addr bs s).pmx = s.pmx := rfl
@[simp] theorem hostWrite_shadow (addr : Nat) (bs : List Byte) (s : State) : (hostWrite addr bs s).shadow = s.shadow := rfl
@[simp] theorem hostWrite_staging (addr : Nat) (bs : List Byte) (s : State) : (hostWrite addr bs s).staging = s.staging := rfl
@[simp] theorem hostWrite_answer (addr : Nat) (bs : List Byte) (s : State) : (hostWrite addr bs s).answer = s.answer := rfl
@[simp] theorem hostWrite_freeCtr (addr : Nat) (bs : List Byte) (s : State) : (hostWrite addr bs s).freeCtr = s.freeCtr := rfl
@[simp] theorem hostWrite_now (addr : Nat) (bs : List Byte) (s : State) : (hostWrite addr bs s).now = s.now := rfl
@[simp] theorem hostWrite_pending (addr : Nat) (bs : List Byte) (s : State) : (hostWrite addr bs s).pending = s.pending := rfl

/-! ### takeBuf -/

@[simp] theorem takeBuf_cln (express : Bool) (s : State) : (takeBuf express s).cln = s.cln := rfl
@[simp] theorem takeBuf_life (express : Bool) (s : State) : (takeBuf express s).life = s.life := rfl
@[simp] theorem takeBuf_mpt (express : Bool) (s : State) : (takeBuf express s).mpt = s.mpt := rfl
@[simp] theorem takeBuf_qr (express : Bool) (s : State) : (takeBuf express s).qr = s.qr := rfl
@[simp] theorem takeBuf_qrx (express : Bool) (s : State) : (takeBuf express s).qrx = s.qrx := rfl
@[simp] theorem takeBuf_air (express : Bool) (s : State) : (takeBuf express s).air = s.air := rfl
@[simp] theorem takeBuf_afe (express : Bool) (s : State) : (takeBuf express s).afe = s.afe := rfl
@[simp] theorem takeBuf_line (express : Bool) (s : State) : (takeBuf express s).line = s.line := rfl
@[simp] theorem takeBuf_ofd (express : Bool) (s : State) : (takeBuf express s).ofd = s.ofd := rfl
@[simp] theorem takeBuf_rbm (express : Bool) (s : State) : (takeBuf express s).rbm = s.rbm := rfl
@[simp] theorem takeBuf_lt (express : Bool) (s : State) : (takeBuf express s).lt = s.lt := rfl
@[simp] theorem takeBuf_ltx (express : Bool) (s : State) : (takeBuf express s).ltx = s.ltx := rfl
@[simp] theorem takeBuf_slp (express : Bool) (s : State) : (takeBuf express s).slp = s.slp := rfl
@[simp] theorem takeBuf_slph (express : Bool) (s : State) : (takeBuf express s).slph = s.slph := rfl
@[simp] theorem takeBuf_te (express : Bool) (s : State) : (takeBuf express s).te = s.te := rfl
@[simp] theorem takeBuf_tex (express : Bool) (s : State) : (takeBuf express s).tex = s.tex := rfl
@[simp] theorem takeBuf_rg (express : Bool) (s : State) : (takeBuf express s).rg = s.rg := rfl
@[simp] theorem takeBuf_aln (express : Bool) (s : State) : (takeBuf express s).aln = s.aln := rfl
@[simp] theorem takeBuf_cx (express : Bool) (s : State) : (takeBuf express s).cx = s.cx := rfl
@[simp] theorem takeBuf_cv (express : Bool) (s : State) : (takeBuf express s).cv = s.cv := rfl
@[simp] theorem takeBuf_msix (express : Bool) (s : State) : (takeBuf express s).msix = s.msix := rfl
@[simp] theorem takeBuf_ev (express : Bool) (s : State) : (takeBuf express s).ev = s.ev := rfl
@[simp] theorem takeBuf_mss (express : Bool) (s : State) : (takeBuf express s).mss = s.mss := rfl
@[simp] theorem takeBuf_mssx (express : Bool) (s : State) : (takeBuf express s).mssx = s.mssx := rfl
@[simp] theorem takeBuf_tmp (express : Bool) (s : State) : (takeBuf express s).tmp = s.tmp := rfl
@[simp] theorem takeBuf_pwr (express : Bool) (s : State) : (takeBuf express s).pwr = s.pwr := rfl
@[simp] theorem takeBuf_clk (express : Bool) (s : State) : (takeBuf express s).clk = s.clk := rfl
@[simp] theorem takeBuf_pmx (express : Bool) (s : State) : (takeBuf express s).pmx = s.pmx := rfl
@[simp] theorem takeBuf_shadow (express : Bool) (s : State) : (takeBuf express s).shadow = s.shadow := rfl
@[simp] theorem takeBuf_staging (express : Bool) (s : State) : (takeBuf express s).staging = s.staging := rfl
@[simp] theorem takeBuf_hostMem (express : Bool) (s : State) : (takeBuf express s).hostMem = s.hostMem := rfl
@[simp] theorem takeBuf_answer (express : Bool) (s : State) : (takeBuf express s).answer = s.answer := rfl
@[simp] theorem takeBuf_freeCtr (express : Bool) (s : State) : (takeBuf express s).freeCtr = s.freeCtr := rfl
@[simp] theorem takeBuf_now (express : Bool) (s : State) : (takeBuf express s).now = s.now := rfl
@[simp] theorem takeBuf_pending (express : Bool) (s : State) : (takeBuf express s).pending = s.pending := rfl

/-! ### giveBuf -/

@[simp] theorem giveBuf_cln (express : Bool) (s : State) : (giveBuf express s).cln = s.cln := rfl
@[simp] theorem giveBuf_life (express : Bool) (s : State) : (giveBuf express s).life = s.life := rfl
@[simp] theorem giveBuf_mpt (express : Bool) (s : State) : (giveBuf express s).mpt = s.mpt := rfl
@[simp] theorem giveBuf_qr (express : Bool) (s : State) : (giveBuf express s).qr = s.qr := rfl
@[simp] theorem giveBuf_qrx (express : Bool) (s : State) : (giveBuf express s).qrx = s.qrx := rfl
@[simp] theorem giveBuf_air (express : Bool) (s : State) : (giveBuf express s).air = s.air := rfl
@[simp] theorem giveBuf_afe (express : Bool) (s : State) : (giveBuf express s).afe = s.afe := rfl
@[simp] theorem giveBuf_line (express : Bool) (s : State) : (giveBuf express s).line = s.line := rfl
@[simp] theorem giveBuf_ofd (express : Bool) (s : State) : (giveBuf express s).ofd = s.ofd := rfl
@[simp] theorem giveBuf_rbm (express : Bool) (s : State) : (giveBuf express s).rbm = s.rbm := rfl
@[simp] theorem giveBuf_lt (express : Bool) (s : State) : (giveBuf express s).lt = s.lt := rfl
@[simp] theorem giveBuf_ltx (express : Bool) (s : State) : (giveBuf express s).ltx = s.ltx := rfl
@[simp] theorem giveBuf_slp (express : Bool) (s : State) : (giveBuf express s).slp = s.slp := rfl
@[simp] theorem giveBuf_slph (express : Bool) (s : State) : (giveBuf express s).slph = s.slph := rfl
@[simp] theorem giveBuf_te (express : Bool) (s : State) : (giveBuf express s).te = s.te := rfl
@[simp] theorem giveBuf_tex (express : Bool) (s : State) : (giveBuf express s).tex = s.tex := rfl
@[simp] theorem giveBuf_rg (express : Bool) (s : State) : (giveBuf express s).rg = s.rg := rfl
@[simp] theorem giveBuf_aln (express : Bool) (s : State) : (giveBuf express s).aln = s.aln := rfl
@[simp] theorem giveBuf_cx (express : Bool) (s : State) : (giveBuf express s).cx = s.cx := rfl
@[simp] theorem giveBuf_cv (express : Bool) (s : State) : (giveBuf express s).cv = s.cv := rfl
@[simp] theorem giveBuf_msix (express : Bool) (s : State) : (giveBuf express s).msix = s.msix := rfl
@[simp] theorem giveBuf_ev (express : Bool) (s : State) : (giveBuf express s).ev = s.ev := rfl
@[simp] theorem giveBuf_mss (express : Bool) (s : State) : (giveBuf express s).mss = s.mss := rfl
@[simp] theorem giveBuf_mssx (express : Bool) (s : State) : (giveBuf express s).mssx = s.mssx := rfl
@[simp] theorem giveBuf_tmp (express : Bool) (s : State) : (giveBuf express s).tmp = s.tmp := rfl
@[simp] theorem giveBuf_pwr (express : Bool) (s : State) : (giveBuf express s).pwr = s.pwr := rfl
@[simp] theorem giveBuf_clk (express : Bool) (s : State) : (giveBuf express s).clk = s.clk := rfl
@[simp] theorem giveBuf_pmx (express : Bool) (s : State) : (giveBuf express s).pmx = s.pmx := rfl
@[simp] theorem giveBuf_shadow (express : Bool) (s : State) : (giveBuf express s).shadow = s.shadow := rfl
@[simp] theorem giveBuf_staging (express : Bool) (s : State) : (giveBuf express s).staging = s.staging := rfl
@[simp] theorem giveBuf_hostMem (express : Bool) (s : State) : (giveBuf express s).hostMem = s.hostMem := rfl
@[simp] theorem giveBuf_answer (express : Bool) (s : State) : (giveBuf express s).answer = s.answer := rfl
@[simp] theorem giveBuf_freeCtr (express : Bool) (s : State) : (giveBuf express s).freeCtr = s.freeCtr := rfl
@[simp] theorem giveBuf_now (express : Bool) (s : State) : (giveBuf express s).now = s.now := rfl
@[simp] theorem giveBuf_pending (express : Bool) (s : State) : (giveBuf express s).pending = s.pending := rfl

end Sys2Proof.Machine
end

