-- ==== Sys2Proof/Laws/Ops.lean ====
section
/-! SUPPORT. Spec lemmas of the shared operations: how a command runs, sparse memories, ledgers, the event path. -/
namespace Sys2Proof.Machine

/-! ### How a command runs -/

theorem run_next {s : State} (f : State → State) (h : devUp s = true) :
    run s f = .next { f s with pending := s.pending } := by simp [run, h]

/-- While the core is held in reset a command of its domains changes nothing. -/
theorem run_held {s : State} (f : State → State) (h : devUp s = false) : run s f = .next s := by simp [run, h]

theorem runHost_next {s : State} (f : State → State) (h : devUp s = true) :
    runHost s f = .next { f (wakeBy 2 s) with pending := s.pending } := by simp [runHost, run, h]

theorem runAon_next {s : State} (f : State → State) (h : s.life.aonUp = true) :
    runAon s f = .next { f s with pending := s.pending } := by simp [runAon, h]

theorem runAgent_next {s : State} (a : Agent) (f : State → State) (h : devUp s = true) :
    runAgent a s f = .next { f (if a = hostAgent s then wakeBy 2 s else s) with pending := s.pending } := by
  simp [runAgent, run, h]

theorem run_pending {s t : State} {f : State → State} (h : run s f = .next t) : t.pending = s.pending := by
  simp only [run, Host.Outcome.next.injEq] at h; subst h; rfl

theorem runAon_pending {s t : State} {f : State → State} (h : runAon s f = .next t) : t.pending = s.pending := by
  simp only [runAon, Host.Outcome.next.injEq] at h; subst h; rfl

/-- A command that runs completes with whatever holds of its effect, the queue being what it was. -/
theorem completes_run {c : Instr} {s : State} {f : State → State} {P : State → Prop} (e : exec c s = run s f)
    (h : devUp s = true) (p : P { f s with pending := s.pending }) : Completes c s P := ⟨_, e.trans (run_next f h), p⟩

theorem completes_runHost {c : Instr} {s : State} {f : State → State} {P : State → Prop} (e : exec c s = runHost s f)
    (h : devUp s = true) (p : P { f (wakeBy 2 s) with pending := s.pending }) : Completes c s P :=
  ⟨_, e.trans (runHost_next f h), p⟩

theorem completes_runAon {c : Instr} {s : State} {f : State → State} {P : State → Prop} (e : exec c s = runAon s f)
    (h : s.life.aonUp = true) (p : P { f s with pending := s.pending }) : Completes c s P :=
  ⟨_, e.trans (runAon_next f h), p⟩

/-! ### An access by the host wakes the device -/

/-- What a wake changes: the exit of a sleep state begins, and awake time counts. -/
theorem wakeBy_frame (n : Nat) (s : State) :
    wakeBy n s = { s with pwr := (wakeBy n s).pwr, slp := (wakeBy n s).slp } := by
  unfold wakeBy; split <;> rfl

theorem wakeBy_awake {n : Nat} {s : State} (h : s.pwr.st ≠ .appointed ∧ s.pwr.st ≠ .sampled) : wakeBy n s = s := by
  simp [wakeBy, h.1, h.2]

/-! ### Sparse memories -/

section
variable {α : Type} [DecidableEq α] {d : α}

theorem spWfFrom_le {lo lo' : Nat} (hl : lo' ≤ lo) : {m : Sparse α} → spWfFrom d lo m = true → spWfFrom d lo' m = true
  | [], _ => rfl
  | (k, v) :: t, h => by
    simp only [spWfFrom, Bool.and_eq_true, decide_eq_true_eq] at h ⊢
    exact ⟨⟨Nat.le_trans hl h.1.1, h.1.2⟩, h.2⟩

theorem spWfFrom_put {i : Nat} {v : α} : {lo : Nat} → {m : Sparse α} → lo ≤ i → spWfFrom d lo m = true →
    spWfFrom d lo (spPut d i v m) = true
  | lo, [], hi, _ => by
    by_cases hv : v = d <;> simp [spPut, spWfFrom, hv, hi]
  | lo, (k, w) :: t, hi, h => by
    simp only [spWfFrom, Bool.and_eq_true, decide_eq_true_eq] at h
    obtain ⟨⟨hk, hw⟩, ht⟩ := h
    unfold spPut
    split
    · rename_i hik
      split
      · simp [spWfFrom, hk, hw, ht]
      · rename_i hv
        simp [spWfFrom, hv, hi, hw, ht, Nat.succ_le_of_lt hik]
    · split
      · rename_i hik
        subst hik
        split
        · exact spWfFrom_le (by omega) ht
        · rename_i hv
          simp [spWfFrom, hv, hi, ht]
      · simp only [spWfFrom, Bool.and_eq_true, decide_eq_true_eq]
        exact ⟨⟨hk, hw⟩, spWfFrom_put (by omega) ht⟩

/-- A write keeps the canonical form. -/
theorem spWf_put {i : Nat} {v : α} {m : Sparse α} (h : spWf d m = true) : spWf d (spPut d i v m) = true :=
  spWfFrom_put (Nat.zero_le i) h

theorem spGet_lt {i : Nat} : {lo : Nat} → {m : Sparse α} → spWfFrom d lo m = true → i < lo → spGet d m i = d
  | _, [], _, _ => rfl
  | lo, (k, v) :: t, h, hi => by
    simp only [spWfFrom, Bool.and_eq_true, decide_eq_true_eq] at h
    obtain ⟨⟨hk, _⟩, ht⟩ := h
    rw [spGet, if_neg (by omega)]
    exact spGet_lt ht (by omega)

/-- A write leaves every other place alone, whatever the form of the list. -/
theorem spGet_put_ne {i j : Nat} {v : α} (h : j ≠ i) : (m : Sparse α) → spGet d (spPut d i v m) j = spGet d m j
  | [] => by unfold spPut; split <;> simp [spGet, h.symm]
  | (k, w) :: t => by
    unfold spPut
    split
    · split <;> simp [spGet, h.symm]
    · split
      · rename_i _ e
        subst e
        split <;> simp [spGet, h.symm]
      · simp [spGet, spGet_put_ne h t]

/-- A read after a write: the value written at its own address, what stood there at every other. -/
theorem spGet_put {i j : Nat} {v : α} : {lo : Nat} → {m : Sparse α} → spWfFrom d lo m = true →
    spGet d (spPut d i v m) j = if j = i then v else spGet d m j
  | _, [], _ => by
    unfold spPut
    by_cases hv : v = d <;> by_cases hj : j = i
    all_goals simp [spGet, hv, hj, eq_comm]
    intro e; exact absurd e.symm hj
  | lo, (k, w) :: t, h => by
    simp only [spWfFrom, Bool.and_eq_true, decide_eq_true_eq] at h
    obtain ⟨⟨hk, hw⟩, ht⟩ := h
    have low : ∀ j, j ≤ k → spGet d t j = d := fun j hj => spGet_lt ht (by omega)
    unfold spPut
    by_cases hj : j = i
    · subst hj
      split
      · rename_i hik
        split
        · rename_i hv; rw [spGet, if_neg (by omega), low _ (by omega), if_pos rfl, hv]
        · simp [spGet]
      · split
        · rename_i hik
          split
          · rename_i hv; rw [low _ (by omega), if_pos rfl, hv]
          · simp [spGet]
        · rename_i h1 h2
          rw [spGet, if_neg (fun e => h2 e.symm), spGet_put ht, if_pos rfl, if_pos rfl]
    · rw [if_neg hj]
      have hj' : ¬ i = j := fun e => hj e.symm
      split
      · split
        · rfl
        · simp [spGet, hj']
      · split
        · rename_i hik
          subst hik
          split
          · simp [spGet, hj']
          · simp [spGet, hj']
        · by_cases e : k = j
          · simp [spGet, e]
          · simp only [spGet, e, if_false]
            rw [spGet_put ht, if_neg hj]

end

/-- A run of bytes written leaves every other address alone. -/
theorem spGet_putBytes_ne {j : Nat} : (bs : List Byte) → (m : Sparse Byte) → (a : Nat) → (∀ k, k < bs.length → a + k ≠ j) →
    spGet 0 (spPutBytes m a bs) j = spGet 0 m j
  | [], _, _, _ => rfl
  | b :: bs, m, a, h => by
    unfold spPutBytes
    rw [spGet_putBytes_ne bs _ _ fun k hk => by have := h (k + 1) (by simpa using hk); omega]
    exact spGet_put_ne (by have := h 0 (by simp); omega) m

/-- Writing bytes keeps the canonical form. -/
theorem spWf_putBytes {a : Nat} : {bs : List Byte} → {m : Sparse Byte} → spWf 0 m = true →
    spWf 0 (spPutBytes m a bs) = true
  | [], _, h => h
  | b :: bs, m, h => spWf_putBytes (a := a + 1) (bs := bs) (m := spPut 0 a b m) (spWf_put h)

/-- A byte after a run of bytes is written: the one written, or what stood there. -/
theorem spGet_putBytes {a j : Nat} : {bs : List Byte} → {m : Sparse Byte} → spWf 0 m = true →
    spGet 0 (spPutBytes m a bs) j = if a ≤ j ∧ j < a + bs.length then bs.getD (j - a) 0 else spGet 0 m j
  | [], m, _ => by simp [spPutBytes]
  | b :: bs, m, h => by
    rw [spPutBytes, spGet_putBytes (spWf_put h), spGet_put h]
    by_cases h1 : j = a
    · subst h1; simp
    · by_cases h2 : a + 1 ≤ j ∧ j < a + 1 + bs.length
      · have e : j - a = (j - (a + 1)) + 1 := by omega
        simp [h2, show a ≤ j ∧ j < a + (bs.length + 1) by omega, e]
      · rw [if_neg h2, if_neg h1, if_neg (by simp only [List.length_cons]; omega)]

/-! ### Vectors -/

@[simp] theorem vget_vupd {α : Type} {n : Nat} (v : Vector α n) (i j : Nat) (f : α → α) (d : α) :
    vget (vupd v i f) j d = if i = j ∧ j < n then f (vget v j d) else vget v j d := by
  unfold vget vupd
  by_cases hi : i < n <;> by_cases hj : j < n <;> simp [hi, hj, Vector.getElem_set]
  · split
    · rename_i e; subst e; rfl
    · rfl
  · intro e; omega

@[simp] theorem upd_get {α : Type} {n : Nat} (v : Vector α n) (i : Fin n) (f : α → α) (j : Nat) (hj : j < n) :
    (upd v i f)[j] = if i.val = j then f v[j] else v[j] := by
  unfold upd
  rw [Vector.getElem_set]
  split
  · rename_i e; subst e; rfl
  · rfl

/-! ### Ledgers (17 R527 to R529) -/

theorem Ledger.zero_balanced : Ledger.zero.balanced := by simp [Ledger.balanced, Ledger.zero]

theorem Ledger.issue_balanced {l : Ledger} (n : Nat) (h : l.balanced) : (l.issue n).balanced := by
  simp only [Ledger.balanced, Ledger.issue] at h ⊢
  rw [BitVec.setWidth_add _ _ (by decide), h, BitVec.setWidth_ofNat_of_le (by decide)]
  ac_rfl

theorem Ledger.give_balanced {l : Ledger} (n : Nat) (h : l.balanced) : (l.give n).balanced := by
  simp only [Ledger.balanced, Ledger.give] at h ⊢
  rw [BitVec.setWidth_add _ _ (by decide), h, BitVec.setWidth_ofNat_of_le (by decide)]
  rw [BitVec.add_assoc]
  congr 1
  rw [BitVec.add_comm, BitVec.sub_add_cancel]

theorem lgGet_mem (k : Nat × Nat) : (l : List ((Nat × Nat) × Ledger)) → (k, lgGet k l) ∈ l ∨ lgGet k l = Ledger.zero
  | [] => .inr rfl
  | (k', x) :: t => by
    by_cases h : k' = k
    · subst h; simp [lgGet]
    · simp only [lgGet, h, if_false]
      exact (lgGet_mem k t).imp (List.mem_cons_of_mem _) id

theorem mem_lgSet {k : Nat × Nat} {v : Ledger} {e : (Nat × Nat) × Ledger} :
    {l : List ((Nat × Nat) × Ledger)} → e ∈ lgSet k v l → e = (k, v) ∨ e ∈ l
  | [], h => by
    unfold lgSet at h
    split at h
    · cases h
    · exact .inl (by simpa using h)
  | (k', x) :: t, h => by
    unfold lgSet at h
    split at h
    · split at h
      · exact .inr h
      · exact (List.mem_cons.1 h).imp id id
    · split at h
      · split at h
        · exact .inr (List.mem_cons_of_mem _ h)
        · exact (List.mem_cons.1 h).imp id (List.mem_cons_of_mem _)
      · rcases List.mem_cons.1 h with h | h
        · exact .inr (h ▸ List.mem_cons_self ..)
        · exact (mem_lgSet h).imp id (List.mem_cons_of_mem _)

/-! ### The event path changes nothing else (16) -/

theorem logMark_onEvents (p : LogRec → Bool) (s : State) : logMark p s = onEvents s (logMark p s) := rfl

theorem evNotify_onEvents (s : State) : evNotify s = onEvents s (evNotify s) := by
  unfold evNotify; split <;> rfl

theorem onEvents_trans {s t u : State} (h : t = onEvents s t) (k : u = onEvents t u) : u = onEvents s u := by
  rw [k, h]; rfl

theorem issue_onEvents (c i n : Nat) (s : State) : issue c i n s = onEvents s (issue c i n s) := rfl

theorem hostWrite_onEvents (a : Nat) (bs : List Byte) (s : State) : hostWrite a bs s = onEvents s (hostWrite a bs s) := rfl

/-- A record's slot and its place in the ring, before its ledger and the message. -/
theorem evSlot_onEvents (a : Nat) (bs : List Byte) (f : Ev → Ev) (s : State) :
    { hostWrite a bs s with ev := f s.ev } = onEvents s { hostWrite a bs s with ev := f s.ev } := rfl

theorem evWrite_onEvents (r : EvRec) (s : State) : evWrite r s = onEvents s (evWrite r s) := by
  unfold evWrite
  dsimp only
  refine onEvents_trans ?_ (evNotify_onEvents _)
  refine onEvents_trans ?_ (issue_onEvents ..)
  refine onEvents_trans ?_ (logMark_onEvents ..)
  exact evSlot_onEvents _ _ (fun e => { e with
    tail := (e.tail + 1) % ringSize e.cfg
    written := e.written ++ [(hostWrite (s.ev.base.toNat + 32 * s.ev.tail) (recBytes r) s).now] }) s

theorem evHold_onEvents (r : EvRec) (s : State) : evHold r s = onEvents s (evHold r s) := rfl

theorem raiseRaw_onEvents (c src : Nat) (sec ns : Word) (p : BitVec 128) (s : State) :
    raiseRaw c src sec ns p s = onEvents s (raiseRaw c src sec ns p s) := by
  unfold raiseRaw
  split
  · rfl
  · rfl
  · dsimp only [evForm]
    split
    · exact onEvents_trans (t := { s with ev := { s.ev with nextSeq := nextSeqNo s.ev.nextSeq } }) rfl (evWrite_onEvents _ _)
    · rfl

theorem logAdd_onEvents (c src : Nat) (sec : BitVec 48) (ns : Word) (p : BitVec 128) (q : Word) (s : State) :
    logAdd c src sec ns p q s = onEvents s (logAdd c src sec ns p q s) := by
  unfold logAdd; split <;> rfl

theorem raiseAt_onEvents (c src : Nat) (sec : BitVec 48) (ns : Word) (p : BitVec 128) (s : State) :
    raiseAt c src sec ns p s = onEvents s (raiseAt c src sec ns p s) := by
  unfold raiseAt
  refine onEvents_trans (t := if logged c then
      logAdd c src sec ns p (if s.ev.mode = .coalescing then 0 else s.ev.nextSeq) s else s) ?_ (raiseRaw_onEvents ..)
  split
  · exact logAdd_onEvents ..
  · rfl

theorem raiseP_onEvents (c i : Nat) (p : BitVec 128) (s : State) : raiseP c i p s = onEvents s (raiseP c i p s) :=
  raiseAt_onEvents ..

/-- Raising an event changes the event path alone. -/
theorem raise_onEvents (c i : Nat) (fs : List (Nat × Nat × Nat)) (s : State) :
    raise c i fs s = onEvents s (raise c i fs s) := raiseP_onEvents ..

theorem raiseMss_onEvents (c i : Nat) (fs : List (Nat × Nat × Nat)) (s : State) :
    raiseMss c i fs s = onEvents s (raiseMss c i fs s) := raiseAt_onEvents ..

theorem evDrain_onEvents : (n : Nat) → (s : State) → evDrain n s = onEvents s (evDrain n s)
  | 0, _ => rfl
  | n + 1, s => by
    unfold evDrain
    split
    · split
      · refine onEvents_trans ?_ (evDrain_onEvents n _)
        exact onEvents_trans (t := { s with ev := { s.ev with held := _ } }) rfl (evWrite_onEvents _ _)
      · rfl
    · split
      · split
        · rfl
        · split
          · refine onEvents_trans ?_ (evDrain_onEvents n _)
            unfold evCoalesced
            dsimp only [evForm]
            refine onEvents_trans (t := evWrite _ _) ?_ (logMark_onEvents _ _)
            exact onEvents_trans (t := { s with ev := _ }) rfl (evWrite_onEvents _ _)
          · rfl
      · rfl

theorem evDrainAll_onEvents (s : State) : evDrainAll s = onEvents s (evDrainAll s) := evDrain_onEvents _ s

end Sys2Proof.Machine
end

