-- ==== Sys2Proof/Laws/Events.lean ====
section
/-! SUPPORT. Raising an event leaves every component but those of the event path as it was (16): one lemma per field, from
the frame lemmas of Laws/Ops.lean. -/
namespace Sys2Proof.Machine

@[simp] theorem raise_cln (c i : Nat) (fs : List (Nat × Nat × Nat)) (s : State) : (raise c i fs s).cln = s.cln := (congrArg State.cln (raise_onEvents c i fs s) :)
@[simp] theorem raise_life (c i : Nat) (fs : List (Nat × Nat × Nat)) (s : State) : (raise c i fs s).life = s.life := (congrArg State.life (raise_onEvents c i fs s) :)
@[simp] theorem raise_mpt (c i : Nat) (fs : List (Nat × Nat × Nat)) (s : State) : (raise c i fs s).mpt = s.mpt := (congrArg State.mpt (raise_onEvents c i fs s) :)
@[simp] theorem raise_qr (c i : Nat) (fs : List (Nat × Nat × Nat)) (s : State) : (raise c i fs s).qr = s.qr := (congrArg State.qr (raise_onEvents c i fs s) :)
@[simp] theorem raise_qrx (c i : Nat) (fs : List (Nat × Nat × Nat)) (s : State) : (raise c i fs s).qrx = s.qrx := (congrArg State.qrx (raise_onEvents c i fs s) :)
@[simp] theorem raise_air (c i : Nat) (fs : List (Nat × Nat × Nat)) (s : State) : (raise c i fs s).air = s.air := (congrArg State.air (raise_onEvents c i fs s) :)
@[simp] theorem raise_afe (c i : Nat) (fs : List (Nat × Nat × Nat)) (s : State) : (raise c i fs s).afe = s.afe := (congrArg State.afe (raise_onEvents c i fs s) :)
@[simp] theorem raise_line (c i : Nat) (fs : List (Nat × Nat × Nat)) (s : State) : (raise c i fs s).line = s.line := (congrArg State.line (raise_onEvents c i fs s) :)
@[simp] theorem raise_ofd (c i : Nat) (fs : List (Nat × Nat × Nat)) (s : State) : (raise c i fs s).ofd = s.ofd := (congrArg State.ofd (raise_onEvents c i fs s) :)
@[simp] theorem raise_rbm (c i : Nat) (fs : List (Nat × Nat × Nat)) (s : State) : (raise c i fs s).rbm = s.rbm := (congrArg State.rbm (raise_onEvents c i fs s) :)
@[simp] theorem raise_lt (c i : Nat) (fs : List (Nat × Nat × Nat)) (s : State) : (raise c i fs s).lt = s.lt := (congrArg State.lt (raise_onEvents c i fs s) :)
@[simp] theorem raise_ltx (c i : Nat) (fs : List (Nat × Nat × Nat)) (s : State) : (raise c i fs s).ltx = s.ltx := (congrArg State.ltx (raise_onEvents c i fs s) :)
@[simp] theorem raise_slp (c i : Nat) (fs : List (Nat × Nat × Nat)) (s : State) : (raise c i fs s).slp = s.slp := (congrArg State.slp (raise_onEvents c i fs s) :)
@[simp] theorem raise_slph (c i : Nat) (fs : List (Nat × Nat × Nat)) (s : State) : (raise c i fs s).slph = s.slph := (congrArg State.slph (raise_onEvents c i fs s) :)
@[simp] theorem raise_te (c i : Nat) (fs : List (Nat × Nat × Nat)) (s : State) : (raise c i fs s).te = s.te := (congrArg State.te (raise_onEvents c i fs s) :)
@[simp] theorem raise_tex (c i : Nat) (fs : List (Nat × Nat × Nat)) (s : State) : (raise c i fs s).tex = s.tex := (congrArg State.tex (raise_onEvents c i fs s) :)
@[simp] theorem raise_rg (c i : Nat) (fs : List (Nat × Nat × Nat)) (s : State) : (raise c i fs s).rg = s.rg := (congrArg State.rg (raise_onEvents c i fs s) :)
@[simp] theorem raise_aln (c i : Nat) (fs : List (Nat × Nat × Nat)) (s : State) : (raise c i fs s).aln = s.aln := (congrArg State.aln (raise_onEvents c i fs s) :)
@[simp] theorem raise_cx (c i : Nat) (fs : List (Nat × Nat × Nat)) (s : State) : (raise c i fs s).cx = s.cx := (congrArg State.cx (raise_onEvents c i fs s) :)
@[simp] theorem raise_cv (c i : Nat) (fs : List (Nat × Nat × Nat)) (s : State) : (raise c i fs s).cv = s.cv := (congrArg State.cv (raise_onEvents c i fs s) :)
@[simp] theorem raise_hi (c i : Nat) (fs : List (Nat × Nat × Nat)) (s : State) : (raise c i fs s).hi = s.hi := (congrArg State.hi (raise_onEvents c i fs s) :)
@[simp] theorem raise_mss (c i : Nat) (fs : List (Nat × Nat × Nat)) (s : State) : (raise c i fs s).mss = s.mss := (congrArg State.mss (raise_onEvents c i fs s) :)
@[simp] theorem raise_tmp (c i : Nat) (fs : List (Nat × Nat × Nat)) (s : State) : (raise c i fs s).tmp = s.tmp := (congrArg State.tmp (raise_onEvents c i fs s) :)
@[simp] theorem raise_pwr (c i : Nat) (fs : List (Nat × Nat × Nat)) (s : State) : (raise c i fs s).pwr = s.pwr := (congrArg State.pwr (raise_onEvents c i fs s) :)
@[simp] theorem raise_clk (c i : Nat) (fs : List (Nat × Nat × Nat)) (s : State) : (raise c i fs s).clk = s.clk := (congrArg State.clk (raise_onEvents c i fs s) :)
@[simp] theorem raise_pmx (c i : Nat) (fs : List (Nat × Nat × Nat)) (s : State) : (raise c i fs s).pmx = s.pmx := (congrArg State.pmx (raise_onEvents c i fs s) :)
@[simp] theorem raise_shadow (c i : Nat) (fs : List (Nat × Nat × Nat)) (s : State) : (raise c i fs s).shadow = s.shadow := (congrArg State.shadow (raise_onEvents c i fs s) :)
@[simp] theorem raise_staging (c i : Nat) (fs : List (Nat × Nat × Nat)) (s : State) : (raise c i fs s).staging = s.staging := (congrArg State.staging (raise_onEvents c i fs s) :)
@[simp] theorem raise_answer (c i : Nat) (fs : List (Nat × Nat × Nat)) (s : State) : (raise c i fs s).answer = s.answer := (congrArg State.answer (raise_onEvents c i fs s) :)
@[simp] theorem raise_freeCtr (c i : Nat) (fs : List (Nat × Nat × Nat)) (s : State) : (raise c i fs s).freeCtr = s.freeCtr := (congrArg State.freeCtr (raise_onEvents c i fs s) :)
@[simp] theorem raise_now (c i : Nat) (fs : List (Nat × Nat × Nat)) (s : State) : (raise c i fs s).now = s.now := (congrArg State.now (raise_onEvents c i fs s) :)
@[simp] theorem raise_pending (c i : Nat) (fs : List (Nat × Nat × Nat)) (s : State) : (raise c i fs s).pending = s.pending := (congrArg State.pending (raise_onEvents c i fs s) :)

@[simp] theorem raiseP_cln (c i : Nat) (p : BitVec 128) (s : State) : (raiseP c i p s).cln = s.cln := (congrArg State.cln (raiseP_onEvents c i p s) :)
@[simp] theorem raiseP_life (c i : Nat) (p : BitVec 128) (s : State) : (raiseP c i p s).life = s.life := (congrArg State.life (raiseP_onEvents c i p s) :)
@[simp] theorem raiseP_mpt (c i : Nat) (p : BitVec 128) (s : State) : (raiseP c i p s).mpt = s.mpt := (congrArg State.mpt (raiseP_onEvents c i p s) :)
@[simp] theorem raiseP_qr (c i : Nat) (p : BitVec 128) (s : State) : (raiseP c i p s).qr = s.qr := (congrArg State.qr (raiseP_onEvents c i p s) :)
@[simp] theorem raiseP_qrx (c i : Nat) (p : BitVec 128) (s : State) : (raiseP c i p s).qrx = s.qrx := (congrArg State.qrx (raiseP_onEvents c i p s) :)
@[simp] theorem raiseP_air (c i : Nat) (p : BitVec 128) (s : State) : (raiseP c i p s).air = s.air := (congrArg State.air (raiseP_onEvents c i p s) :)
@[simp] theorem raiseP_afe (c i : Nat) (p : BitVec 128) (s : State) : (raiseP c i p s).afe = s.afe := (congrArg State.afe (raiseP_onEvents c i p s) :)
@[simp] theorem raiseP_line (c i : Nat) (p : BitVec 128) (s : State) : (raiseP c i p s).line = s.line := (congrArg State.line (raiseP_onEvents c i p s) :)
@[simp] theorem raiseP_ofd (c i : Nat) (p : BitVec 128) (s : State) : (raiseP c i p s).ofd = s.ofd := (congrArg State.ofd (raiseP_onEvents c i p s) :)
@[simp] theorem raiseP_rbm (c i : Nat) (p : BitVec 128) (s : State) : (raiseP c i p s).rbm = s.rbm := (congrArg State.rbm (raiseP_onEvents c i p s) :)
@[simp] theorem raiseP_lt (c i : Nat) (p : BitVec 128) (s : State) : (raiseP c i p s).lt = s.lt := (congrArg State.lt (raiseP_onEvents c i p s) :)
@[simp] theorem raiseP_ltx (c i : Nat) (p : BitVec 128) (s : State) : (raiseP c i p s).ltx = s.ltx := (congrArg State.ltx (raiseP_onEvents c i p s) :)
@[simp] theorem raiseP_slp (c i : Nat) (p : BitVec 128) (s : State) : (raiseP c i p s).slp = s.slp := (congrArg State.slp (raiseP_onEvents c i p s) :)
@[simp] theorem raiseP_slph (c i : Nat) (p : BitVec 128) (s : State) : (raiseP c i p s).slph = s.slph := (congrArg State.slph (raiseP_onEvents c i p s) :)
@[simp] theorem raiseP_te (c i : Nat) (p : BitVec 128) (s : State) : (raiseP c i p s).te = s.te := (congrArg State.te (raiseP_onEvents c i p s) :)
@[simp] theorem raiseP_tex (c i : Nat) (p : BitVec 128) (s : State) : (raiseP c i p s).tex = s.tex := (congrArg State.tex (raiseP_onEvents c i p s) :)
@[simp] theorem raiseP_rg (c i : Nat) (p : BitVec 128) (s : State) : (raiseP c i p s).rg = s.rg := (congrArg State.rg (raiseP_onEvents c i p s) :)
@[simp] theorem raiseP_aln (c i : Nat) (p : BitVec 128) (s : State) : (raiseP c i p s).aln = s.aln := (congrArg State.aln (raiseP_onEvents c i p s) :)
@[simp] theorem raiseP_cx (c i : Nat) (p : BitVec 128) (s : State) : (raiseP c i p s).cx = s.cx := (congrArg State.cx (raiseP_onEvents c i p s) :)
@[simp] theorem raiseP_cv (c i : Nat) (p : BitVec 128) (s : State) : (raiseP c i p s).cv = s.cv := (congrArg State.cv (raiseP_onEvents c i p s) :)
@[simp] theorem raiseP_hi (c i : Nat) (p : BitVec 128) (s : State) : (raiseP c i p s).hi = s.hi := (congrArg State.hi (raiseP_onEvents c i p s) :)
@[simp] theorem raiseP_mss (c i : Nat) (p : BitVec 128) (s : State) : (raiseP c i p s).mss = s.mss := (congrArg State.mss (raiseP_onEvents c i p s) :)
@[simp] theorem raiseP_tmp (c i : Nat) (p : BitVec 128) (s : State) : (raiseP c i p s).tmp = s.tmp := (congrArg State.tmp (raiseP_onEvents c i p s) :)
@[simp] theorem raiseP_pwr (c i : Nat) (p : BitVec 128) (s : State) : (raiseP c i p s).pwr = s.pwr := (congrArg State.pwr (raiseP_onEvents c i p s) :)
@[simp] theorem raiseP_clk (c i : Nat) (p : BitVec 128) (s : State) : (raiseP c i p s).clk = s.clk := (congrArg State.clk (raiseP_onEvents c i p s) :)
@[simp] theorem raiseP_pmx (c i : Nat) (p : BitVec 128) (s : State) : (raiseP c i p s).pmx = s.pmx := (congrArg State.pmx (raiseP_onEvents c i p s) :)
@[simp] theorem raiseP_shadow (c i : Nat) (p : BitVec 128) (s : State) : (raiseP c i p s).shadow = s.shadow := (congrArg State.shadow (raiseP_onEvents c i p s) :)
@[simp] theorem raiseP_staging (c i : Nat) (p : BitVec 128) (s : State) : (raiseP c i p s).staging = s.staging := (congrArg State.staging (raiseP_onEvents c i p s) :)
@[simp] theorem raiseP_answer (c i : Nat) (p : BitVec 128) (s : State) : (raiseP c i p s).answer = s.answer := (congrArg State.answer (raiseP_onEvents c i p s) :)
@[simp] theorem raiseP_freeCtr (c i : Nat) (p : BitVec 128) (s : State) : (raiseP c i p s).freeCtr = s.freeCtr := (congrArg State.freeCtr (raiseP_onEvents c i p s) :)
@[simp] theorem raiseP_now (c i : Nat) (p : BitVec 128) (s : State) : (raiseP c i p s).now = s.now := (congrArg State.now (raiseP_onEvents c i p s) :)
@[simp] theorem raiseP_pending (c i : Nat) (p : BitVec 128) (s : State) : (raiseP c i p s).pending = s.pending := (congrArg State.pending (raiseP_onEvents c i p s) :)

@[simp] theorem raiseMss_cln (c i : Nat) (fs : List (Nat × Nat × Nat)) (s : State) : (raiseMss c i fs s).cln = s.cln := (congrArg State.cln (raiseMss_onEvents c i fs s) :)
@[simp] theorem raiseMss_life (c i : Nat) (fs : List (Nat × Nat × Nat)) (s : State) : (raiseMss c i fs s).life = s.life := (congrArg State.life (raiseMss_onEvents c i fs s) :)
@[simp] theorem raiseMss_mpt (c i : Nat) (fs : List (Nat × Nat × Nat)) (s : State) : (raiseMss c i fs s).mpt = s.mpt := (congrArg State.mpt (raiseMss_onEvents c i fs s) :)
@[simp] theorem raiseMss_qr (c i : Nat) (fs : List (Nat × Nat × Nat)) (s : State) : (raiseMss c i fs s).qr = s.qr := (congrArg State.qr (raiseMss_onEvents c i fs s) :)
@[simp] theorem raiseMss_qrx (c i : Nat) (fs : List (Nat × Nat × Nat)) (s : State) : (raiseMss c i fs s).qrx = s.qrx := (congrArg State.qrx (raiseMss_onEvents c i fs s) :)
@[simp] theorem raiseMss_air (c i : Nat) (fs : List (Nat × Nat × Nat)) (s : State) : (raiseMss c i fs s).air = s.air := (congrArg State.air (raiseMss_onEvents c i fs s) :)
@[simp] theorem raiseMss_afe (c i : Nat) (fs : List (Nat × Nat × Nat)) (s : State) : (raiseMss c i fs s).afe = s.afe := (congrArg State.afe (raiseMss_onEvents c i fs s) :)
@[simp] theorem raiseMss_line (c i : Nat) (fs : List (Nat × Nat × Nat)) (s : State) : (raiseMss c i fs s).line = s.line := (congrArg State.line (raiseMss_onEvents c i fs s) :)
@[simp] theorem raiseMss_ofd (c i : Nat) (fs : List (Nat × Nat × Nat)) (s : State) : (raiseMss c i fs s).ofd = s.ofd := (congrArg State.ofd (raiseMss_onEvents c i fs s) :)
@[simp] theorem raiseMss_rbm (c i : Nat) (fs : List (Nat × Nat × Nat)) (s : State) : (raiseMss c i fs s).rbm = s.rbm := (congrArg State.rbm (raiseMss_onEvents c i fs s) :)
@[simp] theorem raiseMss_lt (c i : Nat) (fs : List (Nat × Nat × Nat)) (s : State) : (raiseMss c i fs s).lt = s.lt := (congrArg State.lt (raiseMss_onEvents c i fs s) :)
@[simp] theorem raiseMss_ltx (c i : Nat) (fs : List (Nat × Nat × Nat)) (s : State) : (raiseMss c i fs s).ltx = s.ltx := (congrArg State.ltx (raiseMss_onEvents c i fs s) :)
@[simp] theorem raiseMss_slp (c i : Nat) (fs : List (Nat × Nat × Nat)) (s : State) : (raiseMss c i fs s).slp = s.slp := (congrArg State.slp (raiseMss_onEvents c i fs s) :)
@[simp] theorem raiseMss_slph (c i : Nat) (fs : List (Nat × Nat × Nat)) (s : State) : (raiseMss c i fs s).slph = s.slph := (congrArg State.slph (raiseMss_onEvents c i fs s) :)
@[simp] theorem raiseMss_te (c i : Nat) (fs : List (Nat × Nat × Nat)) (s : State) : (raiseMss c i fs s).te = s.te := (congrArg State.te (raiseMss_onEvents c i fs s) :)
@[simp] theorem raiseMss_tex (c i : Nat) (fs : List (Nat × Nat × Nat)) (s : State) : (raiseMss c i fs s).tex = s.tex := (congrArg State.tex (raiseMss_onEvents c i fs s) :)
@[simp] theorem raiseMss_rg (c i : Nat) (fs : List (Nat × Nat × Nat)) (s : State) : (raiseMss c i fs s).rg = s.rg := (congrArg State.rg (raiseMss_onEvents c i fs s) :)
@[simp] theorem raiseMss_aln (c i : Nat) (fs : List (Nat × Nat × Nat)) (s : State) : (raiseMss c i fs s).aln = s.aln := (congrArg State.aln (raiseMss_onEvents c i fs s) :)
@[simp] theorem raiseMss_cx (c i : Nat) (fs : List (Nat × Nat × Nat)) (s : State) : (raiseMss c i fs s).cx = s.cx := (congrArg State.cx (raiseMss_onEvents c i fs s) :)
@[simp] theorem raiseMss_cv (c i : Nat) (fs : List (Nat × Nat × Nat)) (s : State) : (raiseMss c i fs s).cv = s.cv := (congrArg State.cv (raiseMss_onEvents c i fs s) :)
@[simp] theorem raiseMss_hi (c i : Nat) (fs : List (Nat × Nat × Nat)) (s : State) : (raiseMss c i fs s).hi = s.hi := (congrArg State.hi (raiseMss_onEvents c i fs s) :)
@[simp] theorem raiseMss_mss (c i : Nat) (fs : List (Nat × Nat × Nat)) (s : State) : (raiseMss c i fs s).mss = s.mss := (congrArg State.mss (raiseMss_onEvents c i fs s) :)
@[simp] theorem raiseMss_tmp (c i : Nat) (fs : List (Nat × Nat × Nat)) (s : State) : (raiseMss c i fs s).tmp = s.tmp := (congrArg State.tmp (raiseMss_onEvents c i fs s) :)
@[simp] theorem raiseMss_pwr (c i : Nat) (fs : List (Nat × Nat × Nat)) (s : State) : (raiseMss c i fs s).pwr = s.pwr := (congrArg State.pwr (raiseMss_onEvents c i fs s) :)
@[simp] theorem raiseMss_clk (c i : Nat) (fs : List (Nat × Nat × Nat)) (s : State) : (raiseMss c i fs s).clk = s.clk := (congrArg State.clk (raiseMss_onEvents c i fs s) :)
@[simp] theorem raiseMss_pmx (c i : Nat) (fs : List (Nat × Nat × Nat)) (s : State) : (raiseMss c i fs s).pmx = s.pmx := (congrArg State.pmx (raiseMss_onEvents c i fs s) :)
@[simp] theorem raiseMss_shadow (c i : Nat) (fs : List (Nat × Nat × Nat)) (s : State) : (raiseMss c i fs s).shadow = s.shadow := (congrArg State.shadow (raiseMss_onEvents c i fs s) :)
@[simp] theorem raiseMss_staging (c i : Nat) (fs : List (Nat × Nat × Nat)) (s : State) : (raiseMss c i fs s).staging = s.staging := (congrArg State.staging (raiseMss_onEvents c i fs s) :)
@[simp] theorem raiseMss_answer (c i : Nat) (fs : List (Nat × Nat × Nat)) (s : State) : (raiseMss c i fs s).answer = s.answer := (congrArg State.answer (raiseMss_onEvents c i fs s) :)
@[simp] theorem raiseMss_freeCtr (c i : Nat) (fs : List (Nat × Nat × Nat)) (s : State) : (raiseMss c i fs s).freeCtr = s.freeCtr := (congrArg State.freeCtr (raiseMss_onEvents c i fs s) :)
@[simp] theorem raiseMss_now (c i : Nat) (fs : List (Nat × Nat × Nat)) (s : State) : (raiseMss c i fs s).now = s.now := (congrArg State.now (raiseMss_onEvents c i fs s) :)
@[simp] theorem raiseMss_pending (c i : Nat) (fs : List (Nat × Nat × Nat)) (s : State) : (raiseMss c i fs s).pending = s.pending := (congrArg State.pending (raiseMss_onEvents c i fs s) :)

@[simp] theorem evDrainAll_cln (s : State) : (evDrainAll s).cln = s.cln := (congrArg State.cln (evDrainAll_onEvents s) :)
@[simp] theorem evDrainAll_life (s : State) : (evDrainAll s).life = s.life := (congrArg State.life (evDrainAll_onEvents s) :)
@[simp] theorem evDrainAll_mpt (s : State) : (evDrainAll s).mpt = s.mpt := (congrArg State.mpt (evDrainAll_onEvents s) :)
@[simp] theorem evDrainAll_qr (s : State) : (evDrainAll s).qr = s.qr := (congrArg State.qr (evDrainAll_onEvents s) :)
@[simp] theorem evDrainAll_qrx (s : State) : (evDrainAll s).qrx = s.qrx := (congrArg State.qrx (evDrainAll_onEvents s) :)
@[simp] theorem evDrainAll_air (s : State) : (evDrainAll s).air = s.air := (congrArg State.air (evDrainAll_onEvents s) :)
@[simp] theorem evDrainAll_afe (s : State) : (evDrainAll s).afe = s.afe := (congrArg State.afe (evDrainAll_onEvents s) :)
@[simp] theorem evDrainAll_line (s : State) : (evDrainAll s).line = s.line := (congrArg State.line (evDrainAll_onEvents s) :)
@[simp] theorem evDrainAll_ofd (s : State) : (evDrainAll s).ofd = s.ofd := (congrArg State.ofd (evDrainAll_onEvents s) :)
@[simp] theorem evDrainAll_rbm (s : State) : (evDrainAll s).rbm = s.rbm := (congrArg State.rbm (evDrainAll_onEvents s) :)
@[simp] theorem evDrainAll_lt (s : State) : (evDrainAll s).lt = s.lt := (congrArg State.lt (evDrainAll_onEvents s) :)
@[simp] theorem evDrainAll_ltx (s : State) : (evDrainAll s).ltx = s.ltx := (congrArg State.ltx (evDrainAll_onEvents s) :)
@[simp] theorem evDrainAll_slp (s : State) : (evDrainAll s).slp = s.slp := (congrArg State.slp (evDrainAll_onEvents s) :)
@[simp] theorem evDrainAll_slph (s : State) : (evDrainAll s).slph = s.slph := (congrArg State.slph (evDrainAll_onEvents s) :)
@[simp] theorem evDrainAll_te (s : State) : (evDrainAll s).te = s.te := (congrArg State.te (evDrainAll_onEvents s) :)
@[simp] theorem evDrainAll_tex (s : State) : (evDrainAll s).tex = s.tex := (congrArg State.tex (evDrainAll_onEvents s) :)
@[simp] theorem evDrainAll_rg (s : State) : (evDrainAll s).rg = s.rg := (congrArg State.rg (evDrainAll_onEvents s) :)
@[simp] theorem evDrainAll_aln (s : State) : (evDrainAll s).aln = s.aln := (congrArg State.aln (evDrainAll_onEvents s) :)
@[simp] theorem evDrainAll_cx (s : State) : (evDrainAll s).cx = s.cx := (congrArg State.cx (evDrainAll_onEvents s) :)
@[simp] theorem evDrainAll_cv (s : State) : (evDrainAll s).cv = s.cv := (congrArg State.cv (evDrainAll_onEvents s) :)
@[simp] theorem evDrainAll_hi (s : State) : (evDrainAll s).hi = s.hi := (congrArg State.hi (evDrainAll_onEvents s) :)
@[simp] theorem evDrainAll_mss (s : State) : (evDrainAll s).mss = s.mss := (congrArg State.mss (evDrainAll_onEvents s) :)
@[simp] theorem evDrainAll_tmp (s : State) : (evDrainAll s).tmp = s.tmp := (congrArg State.tmp (evDrainAll_onEvents s) :)
@[simp] theorem evDrainAll_pwr (s : State) : (evDrainAll s).pwr = s.pwr := (congrArg State.pwr (evDrainAll_onEvents s) :)
@[simp] theorem evDrainAll_clk (s : State) : (evDrainAll s).clk = s.clk := (congrArg State.clk (evDrainAll_onEvents s) :)
@[simp] theorem evDrainAll_pmx (s : State) : (evDrainAll s).pmx = s.pmx := (congrArg State.pmx (evDrainAll_onEvents s) :)
@[simp] theorem evDrainAll_shadow (s : State) : (evDrainAll s).shadow = s.shadow := (congrArg State.shadow (evDrainAll_onEvents s) :)
@[simp] theorem evDrainAll_staging (s : State) : (evDrainAll s).staging = s.staging := (congrArg State.staging (evDrainAll_onEvents s) :)
@[simp] theorem evDrainAll_answer (s : State) : (evDrainAll s).answer = s.answer := (congrArg State.answer (evDrainAll_onEvents s) :)
@[simp] theorem evDrainAll_freeCtr (s : State) : (evDrainAll s).freeCtr = s.freeCtr := (congrArg State.freeCtr (evDrainAll_onEvents s) :)
@[simp] theorem evDrainAll_now (s : State) : (evDrainAll s).now = s.now := (congrArg State.now (evDrainAll_onEvents s) :)
@[simp] theorem evDrainAll_pending (s : State) : (evDrainAll s).pending = s.pending := (congrArg State.pending (evDrainAll_onEvents s) :)

@[simp] theorem evNotify_cln (s : State) : (evNotify s).cln = s.cln := (congrArg State.cln (evNotify_onEvents s) :)
@[simp] theorem evNotify_life (s : State) : (evNotify s).life = s.life := (congrArg State.life (evNotify_onEvents s) :)
@[simp] theorem evNotify_mpt (s : State) : (evNotify s).mpt = s.mpt := (congrArg State.mpt (evNotify_onEvents s) :)
@[simp] theorem evNotify_qr (s : State) : (evNotify s).qr = s.qr := (congrArg State.qr (evNotify_onEvents s) :)
@[simp] theorem evNotify_qrx (s : State) : (evNotify s).qrx = s.qrx := (congrArg State.qrx (evNotify_onEvents s) :)
@[simp] theorem evNotify_air (s : State) : (evNotify s).air = s.air := (congrArg State.air (evNotify_onEvents s) :)
@[simp] theorem evNotify_afe (s : State) : (evNotify s).afe = s.afe := (congrArg State.afe (evNotify_onEvents s) :)
@[simp] theorem evNotify_line (s : State) : (evNotify s).line = s.line := (congrArg State.line (evNotify_onEvents s) :)
@[simp] theorem evNotify_ofd (s : State) : (evNotify s).ofd = s.ofd := (congrArg State.ofd (evNotify_onEvents s) :)
@[simp] theorem evNotify_rbm (s : State) : (evNotify s).rbm = s.rbm := (congrArg State.rbm (evNotify_onEvents s) :)
@[simp] theorem evNotify_lt (s : State) : (evNotify s).lt = s.lt := (congrArg State.lt (evNotify_onEvents s) :)
@[simp] theorem evNotify_ltx (s : State) : (evNotify s).ltx = s.ltx := (congrArg State.ltx (evNotify_onEvents s) :)
@[simp] theorem evNotify_slp (s : State) : (evNotify s).slp = s.slp := (congrArg State.slp (evNotify_onEvents s) :)
@[simp] theorem evNotify_slph (s : State) : (evNotify s).slph = s.slph := (congrArg State.slph (evNotify_onEvents s) :)
@[simp] theorem evNotify_te (s : State) : (evNotify s).te = s.te := (congrArg State.te (evNotify_onEvents s) :)
@[simp] theorem evNotify_tex (s : State) : (evNotify s).tex = s.tex := (congrArg State.tex (evNotify_onEvents s) :)
@[simp] theorem evNotify_rg (s : State) : (evNotify s).rg = s.rg := (congrArg State.rg (evNotify_onEvents s) :)
@[simp] theorem evNotify_aln (s : State) : (evNotify s).aln = s.aln := (congrArg State.aln (evNotify_onEvents s) :)
@[simp] theorem evNotify_cx (s : State) : (evNotify s).cx = s.cx := (congrArg State.cx (evNotify_onEvents s) :)
@[simp] theorem evNotify_cv (s : State) : (evNotify s).cv = s.cv := (congrArg State.cv (evNotify_onEvents s) :)
@[simp] theorem evNotify_hi (s : State) : (evNotify s).hi = s.hi := (congrArg State.hi (evNotify_onEvents s) :)
@[simp] theorem evNotify_mss (s : State) : (evNotify s).mss = s.mss := (congrArg State.mss (evNotify_onEvents s) :)
@[simp] theorem evNotify_tmp (s : State) : (evNotify s).tmp = s.tmp := (congrArg State.tmp (evNotify_onEvents s) :)
@[simp] theorem evNotify_pwr (s : State) : (evNotify s).pwr = s.pwr := (congrArg State.pwr (evNotify_onEvents s) :)
@[simp] theorem evNotify_clk (s : State) : (evNotify s).clk = s.clk := (congrArg State.clk (evNotify_onEvents s) :)
@[simp] theorem evNotify_pmx (s : State) : (evNotify s).pmx = s.pmx := (congrArg State.pmx (evNotify_onEvents s) :)
@[simp] theorem evNotify_shadow (s : State) : (evNotify s).shadow = s.shadow := (congrArg State.shadow (evNotify_onEvents s) :)
@[simp] theorem evNotify_staging (s : State) : (evNotify s).staging = s.staging := (congrArg State.staging (evNotify_onEvents s) :)
@[simp] theorem evNotify_answer (s : State) : (evNotify s).answer = s.answer := (congrArg State.answer (evNotify_onEvents s) :)
@[simp] theorem evNotify_freeCtr (s : State) : (evNotify s).freeCtr = s.freeCtr := (congrArg State.freeCtr (evNotify_onEvents s) :)
@[simp] theorem evNotify_now (s : State) : (evNotify s).now = s.now := (congrArg State.now (evNotify_onEvents s) :)
@[simp] theorem evNotify_pending (s : State) : (evNotify s).pending = s.pending := (congrArg State.pending (evNotify_onEvents s) :)

@[simp] theorem wakeBy_cln (n : Nat) (s : State) : (wakeBy n s).cln = s.cln := (congrArg State.cln (wakeBy_frame n s) :)
@[simp] theorem wakeBy_life (n : Nat) (s : State) : (wakeBy n s).life = s.life := (congrArg State.life (wakeBy_frame n s) :)
@[simp] theorem wakeBy_mpt (n : Nat) (s : State) : (wakeBy n s).mpt = s.mpt := (congrArg State.mpt (wakeBy_frame n s) :)
@[simp] theorem wakeBy_qr (n : Nat) (s : State) : (wakeBy n s).qr = s.qr := (congrArg State.qr (wakeBy_frame n s) :)
@[simp] theorem wakeBy_qrx (n : Nat) (s : State) : (wakeBy n s).qrx = s.qrx := (congrArg State.qrx (wakeBy_frame n s) :)
@[simp] theorem wakeBy_air (n : Nat) (s : State) : (wakeBy n s).air = s.air := (congrArg State.air (wakeBy_frame n s) :)
@[simp] theorem wakeBy_afe (n : Nat) (s : State) : (wakeBy n s).afe = s.afe := (congrArg State.afe (wakeBy_frame n s) :)
@[simp] theorem wakeBy_line (n : Nat) (s : State) : (wakeBy n s).line = s.line := (congrArg State.line (wakeBy_frame n s) :)
@[simp] theorem wakeBy_ofd (n : Nat) (s : State) : (wakeBy n s).ofd = s.ofd := (congrArg State.ofd (wakeBy_frame n s) :)
@[simp] theorem wakeBy_rbm (n : Nat) (s : State) : (wakeBy n s).rbm = s.rbm := (congrArg State.rbm (wakeBy_frame n s) :)
@[simp] theorem wakeBy_lt (n : Nat) (s : State) : (wakeBy n s).lt = s.lt := (congrArg State.lt (wakeBy_frame n s) :)
@[simp] theorem wakeBy_ltx (n : Nat) (s : State) : (wakeBy n s).ltx = s.ltx := (congrArg State.ltx (wakeBy_frame n s) :)
@[simp] theorem wakeBy_slph (n : Nat) (s : State) : (wakeBy n s).slph = s.slph := (congrArg State.slph (wakeBy_frame n s) :)
@[simp] theorem wakeBy_te (n : Nat) (s : State) : (wakeBy n s).te = s.te := (congrArg State.te (wakeBy_frame n s) :)
@[simp] theorem wakeBy_tex (n : Nat) (s : State) : (wakeBy n s).tex = s.tex := (congrArg State.tex (wakeBy_frame n s) :)
@[simp] theorem wakeBy_rg (n : Nat) (s : State) : (wakeBy n s).rg = s.rg := (congrArg State.rg (wakeBy_frame n s) :)
@[simp] theorem wakeBy_aln (n : Nat) (s : State) : (wakeBy n s).aln = s.aln := (congrArg State.aln (wakeBy_frame n s) :)
@[simp] theorem wakeBy_cx (n : Nat) (s : State) : (wakeBy n s).cx = s.cx := (congrArg State.cx (wakeBy_frame n s) :)
@[simp] theorem wakeBy_cv (n : Nat) (s : State) : (wakeBy n s).cv = s.cv := (congrArg State.cv (wakeBy_frame n s) :)
@[simp] theorem wakeBy_hi (n : Nat) (s : State) : (wakeBy n s).hi = s.hi := (congrArg State.hi (wakeBy_frame n s) :)
@[simp] theorem wakeBy_msix (n : Nat) (s : State) : (wakeBy n s).msix = s.msix := (congrArg State.msix (wakeBy_frame n s) :)
@[simp] theorem wakeBy_ev (n : Nat) (s : State) : (wakeBy n s).ev = s.ev := (congrArg State.ev (wakeBy_frame n s) :)
@[simp] theorem wakeBy_lg (n : Nat) (s : State) : (wakeBy n s).lg = s.lg := (congrArg State.lg (wakeBy_frame n s) :)
@[simp] theorem wakeBy_mss (n : Nat) (s : State) : (wakeBy n s).mss = s.mss := (congrArg State.mss (wakeBy_frame n s) :)
@[simp] theorem wakeBy_mssx (n : Nat) (s : State) : (wakeBy n s).mssx = s.mssx := (congrArg State.mssx (wakeBy_frame n s) :)
@[simp] theorem wakeBy_tmp (n : Nat) (s : State) : (wakeBy n s).tmp = s.tmp := (congrArg State.tmp (wakeBy_frame n s) :)
@[simp] theorem wakeBy_clk (n : Nat) (s : State) : (wakeBy n s).clk = s.clk := (congrArg State.clk (wakeBy_frame n s) :)
@[simp] theorem wakeBy_pmx (n : Nat) (s : State) : (wakeBy n s).pmx = s.pmx := (congrArg State.pmx (wakeBy_frame n s) :)
@[simp] theorem wakeBy_shadow (n : Nat) (s : State) : (wakeBy n s).shadow = s.shadow := (congrArg State.shadow (wakeBy_frame n s) :)
@[simp] theorem wakeBy_staging (n : Nat) (s : State) : (wakeBy n s).staging = s.staging := (congrArg State.staging (wakeBy_frame n s) :)
@[simp] theorem wakeBy_hostMem (n : Nat) (s : State) : (wakeBy n s).hostMem = s.hostMem := (congrArg State.hostMem (wakeBy_frame n s) :)
@[simp] theorem wakeBy_answer (n : Nat) (s : State) : (wakeBy n s).answer = s.answer := (congrArg State.answer (wakeBy_frame n s) :)
@[simp] theorem wakeBy_freeCtr (n : Nat) (s : State) : (wakeBy n s).freeCtr = s.freeCtr := (congrArg State.freeCtr (wakeBy_frame n s) :)
@[simp] theorem wakeBy_now (n : Nat) (s : State) : (wakeBy n s).now = s.now := (congrArg State.now (wakeBy_frame n s) :)
@[simp] theorem wakeBy_pending (n : Nat) (s : State) : (wakeBy n s).pending = s.pending := (congrArg State.pending (wakeBy_frame n s) :)

end Sys2Proof.Machine
end

