-- ==== Sys2Proof/Laws/Sound.lean ====
section
/-! SUPPORT. What the ledgers, host memory and the confirmation keep, update by update. -/
namespace Sys2Proof.Machine

theorem lgBefore_trans {a b c : Nat × Nat} (h : lgBefore a b = true) (k : lgBefore b c = true) : lgBefore a c = true := by
  simp only [lgBefore, Bool.or_eq_true, Bool.and_eq_true, decide_eq_true_eq] at h k ⊢
  omega

theorem lgBefore_total {a b : Nat × Nat} (h : ¬ lgBefore a b = true) (k : a ≠ b) : lgBefore b a = true := by
  obtain ⟨a1, a2⟩ := a; obtain ⟨b1, b2⟩ := b
  simp only [lgBefore, Bool.or_eq_true, Bool.and_eq_true, decide_eq_true_eq, ne_eq, Prod.mk.injEq] at h k ⊢
  omega

/-- Setting a ledger keeps the list in its order. -/
theorem lgSet_order {k : Nat × Nat} {v : Ledger} : {l : List ((Nat × Nat) × Ledger)} →
    l.Pairwise (fun a b => lgBefore a.1 b.1 = true) → (lgSet k v l).Pairwise fun a b => lgBefore a.1 b.1 = true
  | [], _ => by unfold lgSet; split <;> simp
  | (k', x) :: t, h => by
    have ht := List.pairwise_cons.1 h
    unfold lgSet
    split
    · rename_i hk
      split
      · exact h
      · refine List.pairwise_cons.2 ⟨fun e he => ?_, h⟩
        rcases List.mem_cons.1 he with rfl | he
        · exact hk
        · exact lgBefore_trans hk (ht.1 e he)
    · rename_i hk
      split
      · rename_i hkk
        subst hkk
        split
        · exact ht.2
        · exact List.pairwise_cons.2 ⟨ht.1, ht.2⟩
      · rename_i hkk
        refine List.pairwise_cons.2 ⟨fun e he => ?_, lgSet_order ht.2⟩
        rcases mem_lgSet he with rfl | he
        · exact lgBefore_total hk hkk
        · exact ht.1 e he

theorem lgBefore_irrefl (a : Nat × Nat) : ¬ lgBefore a a = true := by
  simp only [lgBefore, Bool.or_eq_true, Bool.and_eq_true, decide_eq_true_eq]; omega

/-- After a ledger is set its instance has no other entry. -/
theorem lgSet_self {k : Nat × Nat} {v : Ledger} {e : (Nat × Nat) × Ledger} : {l : List ((Nat × Nat) × Ledger)} →
    l.Pairwise (fun a b => lgBefore a.1 b.1 = true) → e ∈ lgSet k v l → e.1 = k → e = (k, v)
  | [], _, he, _ => (mem_lgSet he).resolve_right (by simp)
  | (k', x) :: t, h, he, hk => by
    have ht := List.pairwise_cons.1 h
    have ne : ∀ e' ∈ t, lgBefore k k' = true ∨ k = k' → e'.1 ≠ k := by
      rintro e' m (b | rfl) rfl
      · exact lgBefore_irrefl _ (lgBefore_trans b (ht.1 e' m))
      · exact lgBefore_irrefl _ (ht.1 e' m)
    unfold lgSet at he
    split at he
    · rename_i hb
      have nk : e ≠ (k', x) := by
        rintro rfl
        exact lgBefore_irrefl _ (hk ▸ hb)
      split at he
      · exact absurd hk (ne e ((List.mem_cons.1 he).resolve_left nk) (.inl hb))
      · rcases List.mem_cons.1 he with rfl | he
        · rfl
        · exact absurd hk (ne e ((List.mem_cons.1 he).resolve_left nk) (.inl hb))
    · split at he
      · rename_i hkk
        split at he
        · exact absurd hk (ne e he (.inr hkk))
        · rcases List.mem_cons.1 he with rfl | he
          · rfl
          · exact absurd hk (ne e he (.inr hkk))
      · rename_i hkk
        rcases List.mem_cons.1 he with rfl | he
        · exact absurd hk.symm hkk
        · exact lgSet_self ht.2 he hk

theorem lgUpd_ok {c i : Nat} {f : Ledger → Ledger} {g : Lg}
    (hf : ∀ x : Ledger, x.balanced → (f x).balanced) (h : LedgersOk g) : LedgersOk (lgUpd c i f g) where
  order := lgSet_order h.order
  balance := fun e he h1 h8 hc => by
    rcases mem_lgSet he with rfl | he
    · refine hf _ ?_
      rcases lgGet_mem (c, i) g.inst with m | m
      · exact h.balance _ m h1 h8 hc
      · rw [m]; exact Ledger.zero_balanced
    · exact h.balance e he h1 h8 hc

/-- A class whose storage has failed may hold anything. -/
theorem lgUpd_faulted {c i : Nat} {f : Ledger → Ledger} {g : Lg} (hc : 1 ≤ c → c ≤ 8 → g.fault.getLsbD (c - 1) = true)
    (h : LedgersOk g) : LedgersOk (lgUpd c i f g) where
  order := lgSet_order h.order
  balance := fun e he h1 h8 hz => by
    rcases mem_lgSet he with rfl | he
    · simp [hc h1 h8, lgUpd] at hz
    · exact h.balance e he h1 h8 hz

theorem hostWrite_ok {m : Sparse Byte} (a : Nat) (bs : List Byte) (h : spWf 0 m = true) :
    spWf 0 (spPutBytes m a bs) = true := spWf_putBytes h

end Sys2Proof.Machine
end

