-- ==== Sys2Proof/Laws/Keeps.lean ====
section
/-! SUPPORT. The algebra of frames: `Keeps l s t` says that `t` is `s` outside the components listed and is sound where `s`
is; how it composes, and one lemma for the update of each component. -/
namespace Sys2Proof.Machine

structure Keeps (l : List Part) (s t : State) : Prop where
  of ::
  same : Same l s t
  sound : Sound s → Sound t

theorem RingOnly.refl (e : Ev) (m : List Host.Cell) : RingOnly e e m m := ⟨rfl, rfl, id, fun _ _ _ => rfl⟩

theorem RingOnly.trans {e f g : Ev} {m n o : List Host.Cell} (h : RingOnly e f m n) (k : RingOnly f g n o) : RingOnly e g m o :=
  ⟨k.base.trans h.base, k.size.trans h.size, fun x => k.tail (h.tail x), fun x a ha => by
    refine (k.mem (h.tail x) a ?_).trans (h.mem x a ha)
    unfold Ev.inRing at ha ⊢
    rwa [h.base, h.size]⟩

/-- An update of the event path that leaves the ring where it is. -/
structure RingKept (e f : Ev) : Prop where
  base : f.base = e.base
  size : ringSize f.cfg = ringSize e.cfg
  tail : e.TailIn → f.TailIn

theorem RingKept.after {e f g : Ev} {m n : List Host.Cell} (k : RingKept f g) (h : RingOnly e f m n) : RingOnly e g m n :=
  h.trans ⟨k.base, k.size, k.tail, fun _ _ _ => rfl⟩

theorem Same.refl (l : List Part) (s : State) : Same l s s :=
  ⟨fun p _ => by cases p <;> first | rfl | exact RingOnly.refl _ _⟩

theorem Same.trans {l : List Part} {s t u : State} (h : Same l s t) (k : Same l t u) : Same l s u := ⟨fun p hp => by
  have a := h.agree p hp; have b := k.agree p hp
  cases p <;> first | exact Eq.trans b a | exact RingOnly.trans a b⟩

theorem Same.mono {l m : List Part} (hl : l ⊆ m) {s t : State} (h : Same l s t) : Same m s t :=
  ⟨fun p hp => h.agree p fun q => hp (hl q)⟩

theorem Keeps.refl (l : List Part) (s : State) : Keeps l s s := ⟨Same.refl l s, id⟩

theorem Keeps.mono {l m : List Part} (hl : l ⊆ m) {s t : State} (h : Keeps l s t) : Keeps m s t :=
  ⟨h.same.mono hl, h.sound⟩

/-- A function of its own frame, applied to a state reached within a wider one. -/
theorem Keeps.step {l m : List Part} {s t u : State} (k : Keeps l t u) (hl : l ⊆ m) (h : Keeps m s t) : Keeps m s u :=
  ⟨h.same.trans (k.same.mono hl), fun a => k.sound (h.sound a)⟩

theorem Keeps.ite {c : Prop} [Decidable c] {l : List Part} {s t u : State} (h : Keeps l s t) (k : Keeps l s u) :
    Keeps l s (if c then t else u) := by split <;> assumption

theorem Keeps.ite2 {α : Type} {c : Prop} [Decidable c] {l : List Part} {s : State} {a b : α × State}
    (h : Keeps l s a.2) (k : Keeps l s b.2) : Keeps l s (if c then a else b).2 := by split <;> assumption

theorem Keeps.ite3 {α β : Type} {c : Prop} [Decidable c] {l : List Part} {s : State} {a b : α × β × State}
    (h : Keeps l s a.2.2) (k : Keeps l s b.2.2) : Keeps l s (if c then a else b).2.2 := by split <;> assumption

theorem Keeps.foldl {α : Type} {l : List Part} {s t : State} {f : State → α → State} {xs : List α} (h : Keeps l s t)
    (k : ∀ u x, Keeps l s u → Keeps l s (f u x)) : Keeps l s (xs.foldl f t) := by
  induction xs generalizing t with
  | nil => exact h
  | cons x xs ih => exact ih (k t x h)

theorem Keeps.snd {α : Type} {l : List Part} {s t : State} {p : α × State} {a : α} (e : p = (a, t)) (h : Keeps l s p.2) :
    Keeps l s t := by rw [e] at h; exact h

theorem Keeps.snd2 {α β : Type} {l : List Part} {s t : State} {p : α × β × State} {a : α} {b : β} (e : p = (a, b, t))
    (h : Keeps l s p.2.2) : Keeps l s t := by rw [e] at h; exact h

theorem Keeps.mk {α : Type} {l : List Part} {s t : State} {a : α} (h : Keeps l s t) : Keeps l s (a, t).2 := h

theorem Keeps.mk2 {α β : Type} {l : List Part} {s : State} {a : α} {p : β × State} (h : Keeps l s p.2) :
    Keeps l s (a, p).2.2 := h

/-- An outcome's state. -/
theorem Keeps.next {l : List Part} {s t u : State} (h : Keeps l s t) (e : (.next t : Out) = .next u) : Keeps l s u := by
  cases e; exact h

theorem Keeps.queue {l : List Part} {s t : State} {q : List Instr} (h : Keeps l s t) :
    Keeps l s { t with pending := q } :=
  ⟨⟨fun p hp => by have a := h.same.agree p hp; cases p <;> exact a⟩,
    fun k => let a := h.sound k; ⟨a.mem, a.ledgers, a.confirm, a.ring⟩⟩

theorem Keeps.cln {l : List Part} {s t : State} (h : Keeps l s t)
    (hcln : Part.cln ∈ l) {xcln}
    (kcln : ConfirmOk t.cln t.life → ConfirmOk xcln t.life) :
    Keeps l s { t with cln := xcln } :=
  ⟨⟨fun p hp => by
    have a := h.same.agree p hp
    cases p <;> first | exact absurd hcln hp | exact a⟩,
    fun k => let k := h.sound k; ⟨k.mem, k.ledgers, kcln k.confirm, k.ring⟩⟩

theorem Keeps.life {l : List Part} {s t : State} (h : Keeps l s t)
    (hlife : Part.life ∈ l) {xlife}
    (kcln : ConfirmOk t.cln t.life → ConfirmOk t.cln xlife) :
    Keeps l s { t with life := xlife } :=
  ⟨⟨fun p hp => by
    have a := h.same.agree p hp
    cases p <;> first | exact absurd hlife hp | exact a⟩,
    fun k => let k := h.sound k; ⟨k.mem, k.ledgers, kcln k.confirm, k.ring⟩⟩

theorem Keeps.mpt {l : List Part} {s t : State} (h : Keeps l s t)
    (hmpt : Part.mpt ∈ l) {xmpt} :
    Keeps l s { t with mpt := xmpt } :=
  ⟨⟨fun p hp => by
    have a := h.same.agree p hp
    cases p <;> first | exact absurd hmpt hp | exact a⟩,
    fun k => let k := h.sound k; ⟨k.mem, k.ledgers, k.confirm, k.ring⟩⟩

theorem Keeps.qr {l : List Part} {s t : State} (h : Keeps l s t)
    (hqr : Part.qr ∈ l) {xqr} :
    Keeps l s { t with qr := xqr } :=
  ⟨⟨fun p hp => by
    have a := h.same.agree p hp
    cases p <;> first | exact absurd hqr hp | exact a⟩,
    fun k => let k := h.sound k; ⟨k.mem, k.ledgers, k.confirm, k.ring⟩⟩

theorem Keeps.qrx {l : List Part} {s t : State} (h : Keeps l s t)
    (hqrx : Part.qrx ∈ l) {xqrx} :
    Keeps l s { t with qrx := xqrx } :=
  ⟨⟨fun p hp => by
    have a := h.same.agree p hp
    cases p <;> first | exact absurd hqrx hp | exact a⟩,
    fun k => let k := h.sound k; ⟨k.mem, k.ledgers, k.confirm, k.ring⟩⟩

theorem Keeps.air {l : List Part} {s t : State} (h : Keeps l s t)
    (hair : Part.air ∈ l) {xair} :
    Keeps l s { t with air := xair } :=
  ⟨⟨fun p hp => by
    have a := h.same.agree p hp
    cases p <;> first | exact absurd hair hp | exact a⟩,
    fun k => let k := h.sound k; ⟨k.mem, k.ledgers, k.confirm, k.ring⟩⟩

theorem Keeps.afe {l : List Part} {s t : State} (h : Keeps l s t)
    (hafe : Part.afe ∈ l) {xafe} :
    Keeps l s { t with afe := xafe } :=
  ⟨⟨fun p hp => by
    have a := h.same.agree p hp
    cases p <;> first | exact absurd hafe hp | exact a⟩,
    fun k => let k := h.sound k; ⟨k.mem, k.ledgers, k.confirm, k.ring⟩⟩

theorem Keeps.line {l : List Part} {s t : State} (h : Keeps l s t)
    (hline : Part.line ∈ l) {xline} :
    Keeps l s { t with line := xline } :=
  ⟨⟨fun p hp => by
    have a := h.same.agree p hp
    cases p <;> first | exact absurd hline hp | exact a⟩,
    fun k => let k := h.sound k; ⟨k.mem, k.ledgers, k.confirm, k.ring⟩⟩

theorem Keeps.ofd {l : List Part} {s t : State} (h : Keeps l s t)
    (hofd : Part.ofd ∈ l) {xofd} :
    Keeps l s { t with ofd := xofd } :=
  ⟨⟨fun p hp => by
    have a := h.same.agree p hp
    cases p <;> first | exact absurd hofd hp | exact a⟩,
    fun k => let k := h.sound k; ⟨k.mem, k.ledgers, k.confirm, k.ring⟩⟩

theorem Keeps.rbm {l : List Part} {s t : State} (h : Keeps l s t)
    (hrbm : Part.rbm ∈ l) {xrbm} :
    Keeps l s { t with rbm := xrbm } :=
  ⟨⟨fun p hp => by
    have a := h.same.agree p hp
    cases p <;> first | exact absurd hrbm hp | exact a⟩,
    fun k => let k := h.sound k; ⟨k.mem, k.ledgers, k.confirm, k.ring⟩⟩

theorem Keeps.lt {l : List Part} {s t : State} (h : Keeps l s t)
    (hlt : Part.lt ∈ l) {xlt} :
    Keeps l s { t with lt := xlt } :=
  ⟨⟨fun p hp => by
    have a := h.same.agree p hp
    cases p <;> first | exact absurd hlt hp | exact a⟩,
    fun k => let k := h.sound k; ⟨k.mem, k.ledgers, k.confirm, k.ring⟩⟩

theorem Keeps.ltx {l : List Part} {s t : State} (h : Keeps l s t)
    (hltx : Part.ltx ∈ l) {xltx} :
    Keeps l s { t with ltx := xltx } :=
  ⟨⟨fun p hp => by
    have a := h.same.agree p hp
    cases p <;> first | exact absurd hltx hp | exact a⟩,
    fun k => let k := h.sound k; ⟨k.mem, k.ledgers, k.confirm, k.ring⟩⟩

theorem Keeps.slp {l : List Part} {s t : State} (h : Keeps l s t)
    (hslp : Part.slp ∈ l) {xslp} :
    Keeps l s { t with slp := xslp } :=
  ⟨⟨fun p hp => by
    have a := h.same.agree p hp
    cases p <;> first | exact absurd hslp hp | exact a⟩,
    fun k => let k := h.sound k; ⟨k.mem, k.ledgers, k.confirm, k.ring⟩⟩

theorem Keeps.slph {l : List Part} {s t : State} (h : Keeps l s t)
    (hslph : Part.slph ∈ l) {xslph} :
    Keeps l s { t with slph := xslph } :=
  ⟨⟨fun p hp => by
    have a := h.same.agree p hp
    cases p <;> first | exact absurd hslph hp | exact a⟩,
    fun k => let k := h.sound k; ⟨k.mem, k.ledgers, k.confirm, k.ring⟩⟩

theorem Keeps.te {l : List Part} {s t : State} (h : Keeps l s t)
    (hte : Part.te ∈ l) {xte} :
    Keeps l s { t with te := xte } :=
  ⟨⟨fun p hp => by
    have a := h.same.agree p hp
    cases p <;> first | exact absurd hte hp | exact a⟩,
    fun k => let k := h.sound k; ⟨k.mem, k.ledgers, k.confirm, k.ring⟩⟩

theorem Keeps.tex {l : List Part} {s t : State} (h : Keeps l s t)
    (htex : Part.tex ∈ l) {xtex} :
    Keeps l s { t with tex := xtex } :=
  ⟨⟨fun p hp => by
    have a := h.same.agree p hp
    cases p <;> first | exact absurd htex hp | exact a⟩,
    fun k => let k := h.sound k; ⟨k.mem, k.ledgers, k.confirm, k.ring⟩⟩

theorem Keeps.rg {l : List Part} {s t : State} (h : Keeps l s t)
    (hrg : Part.rg ∈ l) {xrg} :
    Keeps l s { t with rg := xrg } :=
  ⟨⟨fun p hp => by
    have a := h.same.agree p hp
    cases p <;> first | exact absurd hrg hp | exact a⟩,
    fun k => let k := h.sound k; ⟨k.mem, k.ledgers, k.confirm, k.ring⟩⟩

theorem Keeps.aln {l : List Part} {s t : State} (h : Keeps l s t)
    (haln : Part.aln ∈ l) {xaln} :
    Keeps l s { t with aln := xaln } :=
  ⟨⟨fun p hp => by
    have a := h.same.agree p hp
    cases p <;> first | exact absurd haln hp | exact a⟩,
    fun k => let k := h.sound k; ⟨k.mem, k.ledgers, k.confirm, k.ring⟩⟩

theorem Keeps.cx {l : List Part} {s t : State} (h : Keeps l s t)
    (hcx : Part.cx ∈ l) {xcx} :
    Keeps l s { t with cx := xcx } :=
  ⟨⟨fun p hp => by
    have a := h.same.agree p hp
    cases p <;> first | exact absurd hcx hp | exact a⟩,
    fun k => let k := h.sound k; ⟨k.mem, k.ledgers, k.confirm, k.ring⟩⟩

theorem Keeps.cv {l : List Part} {s t : State} (h : Keeps l s t)
    (hcv : Part.cv ∈ l) {xcv} :
    Keeps l s { t with cv := xcv } :=
  ⟨⟨fun p hp => by
    have a := h.same.agree p hp
    cases p <;> first | exact absurd hcv hp | exact a⟩,
    fun k => let k := h.sound k; ⟨k.mem, k.ledgers, k.confirm, k.ring⟩⟩

theorem Keeps.hi {l : List Part} {s t : State} (h : Keeps l s t)
    (hhi : Part.hi ∈ l) {xhi} :
    Keeps l s { t with hi := xhi } :=
  ⟨⟨fun p hp => by
    have a := h.same.agree p hp
    cases p <;> first | exact absurd hhi hp | exact a⟩,
    fun k => let k := h.sound k; ⟨k.mem, k.ledgers, k.confirm, k.ring⟩⟩

theorem Keeps.msix {l : List Part} {s t : State} (h : Keeps l s t)
    (hmsix : Part.msix ∈ l) {xmsix} :
    Keeps l s { t with msix := xmsix } :=
  ⟨⟨fun p hp => by
    have a := h.same.agree p hp
    cases p <;> first | exact absurd hmsix hp | exact a⟩,
    fun k => let k := h.sound k; ⟨k.mem, k.ledgers, k.confirm, k.ring⟩⟩

theorem Keeps.ev {l : List Part} {s t : State} (h : Keeps l s t)
    (hev : Part.ev ∈ l) {xev}
    (kev : RingKept t.ev xev := by exact ⟨rfl, rfl, id⟩) :
    Keeps l s { t with ev := xev } :=
  ⟨⟨fun p hp => by
    have a := h.same.agree p hp
    cases p <;> first | exact absurd hev hp | exact kev.after a | exact a⟩,
    fun k => let k := h.sound k; ⟨k.mem, k.ledgers, k.confirm, kev.tail k.ring⟩⟩

/-- An update that moves the event ring. -/
theorem Keeps.evMove {l : List Part} {s t : State} (h : Keeps l s t)
    (hev : Part.ev ∈ l) (hdma : Part.dma ∈ l) {xev} (kev : xev.TailIn) :
    Keeps l s { t with ev := xev } :=
  ⟨⟨fun p hp => by
    have a := h.same.agree p hp
    cases p <;> first | exact absurd hev hp | exact absurd hdma hp | exact a⟩,
    fun k => let k := h.sound k; ⟨k.mem, k.ledgers, k.confirm, kev⟩⟩

/-- A record written at the tail of a running ring. -/
theorem Keeps.evRecord {l : List Part} {s t : State} (h : Keeps l s t)
    (hev : Part.ev ∈ l) (hmem : Part.hostMem ∈ l) {xev} (bs : List Byte) (hr : t.ev.st = .running)
    (hb : xev.base = t.ev.base) (hc : xev.cfg = t.ev.cfg) (hl : bs.length ≤ 32)
    (ht : t.ev.TailIn → xev.TailIn) :
    Keeps l s { t with hostMem := spPutBytes t.hostMem (t.ev.base.toNat + 32 * t.ev.tail) bs, ev := xev } :=
  ⟨⟨fun p hp => by
    have a := h.same.agree p hp
    cases p <;> first | exact absurd hev hp | exact absurd hmem hp | exact a | skip
    refine RingOnly.trans a ⟨hb, by rw [hc], ht, fun x b hn => spGet_putBytes_ne _ _ _ fun k hk e => hn ?_⟩
    have := x hr
    unfold Ev.inRing
    omega⟩,
    fun k => let k := h.sound k; ⟨spWf_putBytes k.mem, k.ledgers, k.confirm, ht k.ring⟩⟩

theorem Keeps.lg {l : List Part} {s t : State} (h : Keeps l s t)
    (hlg : Part.lg ∈ l) {xlg}
    (klg : LedgersOk t.lg → LedgersOk xlg) :
    Keeps l s { t with lg := xlg } :=
  ⟨⟨fun p hp => by
    have a := h.same.agree p hp
    cases p <;> first | exact absurd hlg hp | exact a⟩,
    fun k => let k := h.sound k; ⟨k.mem, klg k.ledgers, k.confirm, k.ring⟩⟩

theorem Keeps.mss {l : List Part} {s t : State} (h : Keeps l s t)
    (hmss : Part.mss ∈ l) {xmss} :
    Keeps l s { t with mss := xmss } :=
  ⟨⟨fun p hp => by
    have a := h.same.agree p hp
    cases p <;> first | exact absurd hmss hp | exact a⟩,
    fun k => let k := h.sound k; ⟨k.mem, k.ledgers, k.confirm, k.ring⟩⟩

theorem Keeps.mssx {l : List Part} {s t : State} (h : Keeps l s t)
    (hmssx : Part.mssx ∈ l) {xmssx} :
    Keeps l s { t with mssx := xmssx } :=
  ⟨⟨fun p hp => by
    have a := h.same.agree p hp
    cases p <;> first | exact absurd hmssx hp | exact a⟩,
    fun k => let k := h.sound k; ⟨k.mem, k.ledgers, k.confirm, k.ring⟩⟩

theorem Keeps.tmp {l : List Part} {s t : State} (h : Keeps l s t)
    (htmp : Part.tmp ∈ l) {xtmp} :
    Keeps l s { t with tmp := xtmp } :=
  ⟨⟨fun p hp => by
    have a := h.same.agree p hp
    cases p <;> first | exact absurd htmp hp | exact a⟩,
    fun k => let k := h.sound k; ⟨k.mem, k.ledgers, k.confirm, k.ring⟩⟩

theorem Keeps.pwr {l : List Part} {s t : State} (h : Keeps l s t)
    (hpwr : Part.pwr ∈ l) {xpwr} :
    Keeps l s { t with pwr := xpwr } :=
  ⟨⟨fun p hp => by
    have a := h.same.agree p hp
    cases p <;> first | exact absurd hpwr hp | exact a⟩,
    fun k => let k := h.sound k; ⟨k.mem, k.ledgers, k.confirm, k.ring⟩⟩

theorem Keeps.clk {l : List Part} {s t : State} (h : Keeps l s t)
    (hclk : Part.clk ∈ l) {xclk} :
    Keeps l s { t with clk := xclk } :=
  ⟨⟨fun p hp => by
    have a := h.same.agree p hp
    cases p <;> first | exact absurd hclk hp | exact a⟩,
    fun k => let k := h.sound k; ⟨k.mem, k.ledgers, k.confirm, k.ring⟩⟩

theorem Keeps.pmx {l : List Part} {s t : State} (h : Keeps l s t)
    (hpmx : Part.pmx ∈ l) {xpmx} :
    Keeps l s { t with pmx := xpmx } :=
  ⟨⟨fun p hp => by
    have a := h.same.agree p hp
    cases p <;> first | exact absurd hpmx hp | exact a⟩,
    fun k => let k := h.sound k; ⟨k.mem, k.ledgers, k.confirm, k.ring⟩⟩

theorem Keeps.shadow {l : List Part} {s t : State} (h : Keeps l s t)
    (hshadow : Part.shadow ∈ l) {xshadow} :
    Keeps l s { t with shadow := xshadow } :=
  ⟨⟨fun p hp => by
    have a := h.same.agree p hp
    cases p <;> first | exact absurd hshadow hp | exact a⟩,
    fun k => let k := h.sound k; ⟨k.mem, k.ledgers, k.confirm, k.ring⟩⟩

theorem Keeps.staging {l : List Part} {s t : State} (h : Keeps l s t)
    (hstaging : Part.staging ∈ l) {xstaging} :
    Keeps l s { t with staging := xstaging } :=
  ⟨⟨fun p hp => by
    have a := h.same.agree p hp
    cases p <;> first | exact absurd hstaging hp | exact a⟩,
    fun k => let k := h.sound k; ⟨k.mem, k.ledgers, k.confirm, k.ring⟩⟩

theorem Keeps.hostMem {l : List Part} {s t : State} (h : Keeps l s t)
    (hhostMem : Part.hostMem ∈ l) {xhostMem}
    (khostMem : spWf 0 t.hostMem = true → spWf 0 xhostMem = true)
    (hdma : Part.dma ∈ l) :
    Keeps l s { t with hostMem := xhostMem } :=
  ⟨⟨fun p hp => by
    have a := h.same.agree p hp
    cases p <;> first | exact absurd hhostMem hp | exact absurd hdma hp | exact a⟩,
    fun k => let k := h.sound k; ⟨khostMem k.mem, k.ledgers, k.confirm, k.ring⟩⟩

theorem Keeps.answer {l : List Part} {s t : State} (h : Keeps l s t)
    (hanswer : Part.answer ∈ l) {xanswer} :
    Keeps l s { t with answer := xanswer } :=
  ⟨⟨fun p hp => by
    have a := h.same.agree p hp
    cases p <;> first | exact absurd hanswer hp | exact a⟩,
    fun k => let k := h.sound k; ⟨k.mem, k.ledgers, k.confirm, k.ring⟩⟩

theorem Keeps.freeCtr {l : List Part} {s t : State} (h : Keeps l s t)
    (hfreeCtr : Part.freeCtr ∈ l) {xfreeCtr} :
    Keeps l s { t with freeCtr := xfreeCtr } :=
  ⟨⟨fun p hp => by
    have a := h.same.agree p hp
    cases p <;> first | exact absurd hfreeCtr hp | exact a⟩,
    fun k => let k := h.sound k; ⟨k.mem, k.ledgers, k.confirm, k.ring⟩⟩

theorem Keeps.now {l : List Part} {s t : State} (h : Keeps l s t)
    (hnow : Part.now ∈ l) {xnow} :
    Keeps l s { t with now := xnow } :=
  ⟨⟨fun p hp => by
    have a := h.same.agree p hp
    cases p <;> first | exact absurd hnow hp | exact a⟩,
    fun k => let k := h.sound k; ⟨k.mem, k.ledgers, k.confirm, k.ring⟩⟩

theorem Keeps.air_afe_line_ofd_rbm_ltx_cx_hi {l : List Part} {s t : State} (h : Keeps l s t)
    (hair : Part.air ∈ l) (hafe : Part.afe ∈ l) (hline : Part.line ∈ l) (hofd : Part.ofd ∈ l) (hrbm : Part.rbm ∈ l) (hltx : Part.ltx ∈ l) (hcx : Part.cx ∈ l) (hhi : Part.hi ∈ l) {xair xafe xline xofd xrbm xltx xcx xhi} :
    Keeps l s { t with air := xair, afe := xafe, line := xline, ofd := xofd, rbm := xrbm, ltx := xltx, cx := xcx, hi := xhi } :=
  ⟨⟨fun p hp => by
    have a := h.same.agree p hp
    cases p <;> first | exact absurd hair hp  | exact absurd hafe hp  | exact absurd hline hp  | exact absurd hofd hp  | exact absurd hrbm hp  | exact absurd hltx hp  | exact absurd hcx hp  | exact absurd hhi hp | exact a⟩,
    fun k => let k := h.sound k; ⟨k.mem, k.ledgers, k.confirm, k.ring⟩⟩

theorem Keeps.cln_hi_msix_ev_staging {l : List Part} {s t : State} (h : Keeps l s t)
    (hcln : Part.cln ∈ l) (hhi : Part.hi ∈ l) (hmsix : Part.msix ∈ l) (hev : Part.ev ∈ l) (hstaging : Part.staging ∈ l) {xcln xhi xmsix xev xstaging}
    (kcln : ConfirmOk t.cln t.life → ConfirmOk xcln t.life)
    (hdma : Part.dma ∈ l) (kev : xev.TailIn) :
    Keeps l s { t with cln := xcln, hi := xhi, msix := xmsix, ev := xev, staging := xstaging } :=
  ⟨⟨fun p hp => by
    have a := h.same.agree p hp
    cases p <;> first | exact absurd hcln hp  | exact absurd hhi hp  | exact absurd hmsix hp  | exact absurd hev hp  | exact absurd hstaging hp | exact absurd hdma hp | exact a⟩,
    fun k => let k := h.sound k; ⟨k.mem, k.ledgers, kcln k.confirm, kev⟩⟩

theorem Keeps.cln_life_mss {l : List Part} {s t : State} (h : Keeps l s t)
    (hcln : Part.cln ∈ l) (hlife : Part.life ∈ l) (hmss : Part.mss ∈ l) {xcln xlife xmss}
    (kcln : ConfirmOk t.cln t.life → ConfirmOk xcln xlife) :
    Keeps l s { t with cln := xcln, life := xlife, mss := xmss } :=
  ⟨⟨fun p hp => by
    have a := h.same.agree p hp
    cases p <;> first | exact absurd hcln hp  | exact absurd hlife hp  | exact absurd hmss hp | exact a⟩,
    fun k => let k := h.sound k; ⟨k.mem, k.ledgers, kcln k.confirm, k.ring⟩⟩

theorem Keeps.cx_lg {l : List Part} {s t : State} (h : Keeps l s t)
    (hcx : Part.cx ∈ l) (hlg : Part.lg ∈ l) {xcx xlg}
    (klg : LedgersOk t.lg → LedgersOk xlg) :
    Keeps l s { t with cx := xcx, lg := xlg } :=
  ⟨⟨fun p hp => by
    have a := h.same.agree p hp
    cases p <;> first | exact absurd hcx hp  | exact absurd hlg hp | exact a⟩,
    fun k => let k := h.sound k; ⟨k.mem, klg k.ledgers, k.confirm, k.ring⟩⟩

theorem Keeps.cx_tmp {l : List Part} {s t : State} (h : Keeps l s t)
    (hcx : Part.cx ∈ l) (htmp : Part.tmp ∈ l) {xcx xtmp} :
    Keeps l s { t with cx := xcx, tmp := xtmp } :=
  ⟨⟨fun p hp => by
    have a := h.same.agree p hp
    cases p <;> first | exact absurd hcx hp  | exact absurd htmp hp | exact a⟩,
    fun k => let k := h.sound k; ⟨k.mem, k.ledgers, k.confirm, k.ring⟩⟩

theorem Keeps.lg_tmp {l : List Part} {s t : State} (h : Keeps l s t)
    (hlg : Part.lg ∈ l) (htmp : Part.tmp ∈ l) {xlg xtmp}
    (klg : LedgersOk t.lg → LedgersOk xlg) :
    Keeps l s { t with lg := xlg, tmp := xtmp } :=
  ⟨⟨fun p hp => by
    have a := h.same.agree p hp
    cases p <;> first | exact absurd hlg hp  | exact absurd htmp hp | exact a⟩,
    fun k => let k := h.sound k; ⟨k.mem, klg k.ledgers, k.confirm, k.ring⟩⟩

theorem Keeps.life_cx_lg_tmp {l : List Part} {s t : State} (h : Keeps l s t)
    (hlife : Part.life ∈ l) (hcx : Part.cx ∈ l) (hlg : Part.lg ∈ l) (htmp : Part.tmp ∈ l) {xlife xcx xlg xtmp}
    (klg : LedgersOk t.lg → LedgersOk xlg) (kcln : ConfirmOk t.cln t.life → ConfirmOk t.cln xlife) :
    Keeps l s { t with life := xlife, cx := xcx, lg := xlg, tmp := xtmp } :=
  ⟨⟨fun p hp => by
    have a := h.same.agree p hp
    cases p <;> first | exact absurd hlife hp  | exact absurd hcx hp  | exact absurd hlg hp  | exact absurd htmp hp | exact a⟩,
    fun k => let k := h.sound k; ⟨k.mem, klg k.ledgers, kcln k.confirm, k.ring⟩⟩

theorem Keeps.life_tmp {l : List Part} {s t : State} (h : Keeps l s t)
    (hlife : Part.life ∈ l) (htmp : Part.tmp ∈ l) {xlife xtmp}
    (kcln : ConfirmOk t.cln t.life → ConfirmOk t.cln xlife) :
    Keeps l s { t with life := xlife, tmp := xtmp } :=
  ⟨⟨fun p hp => by
    have a := h.same.agree p hp
    cases p <;> first | exact absurd hlife hp  | exact absurd htmp hp | exact a⟩,
    fun k => let k := h.sound k; ⟨k.mem, k.ledgers, kcln k.confirm, k.ring⟩⟩

theorem Keeps.life_tmp_pwr {l : List Part} {s t : State} (h : Keeps l s t)
    (hlife : Part.life ∈ l) (htmp : Part.tmp ∈ l) (hpwr : Part.pwr ∈ l) {xlife xtmp xpwr}
    (kcln : ConfirmOk t.cln t.life → ConfirmOk t.cln xlife) :
    Keeps l s { t with life := xlife, tmp := xtmp, pwr := xpwr } :=
  ⟨⟨fun p hp => by
    have a := h.same.agree p hp
    cases p <;> first | exact absurd hlife hp  | exact absurd htmp hp  | exact absurd hpwr hp | exact a⟩,
    fun k => let k := h.sound k; ⟨k.mem, k.ledgers, kcln k.confirm, k.ring⟩⟩

theorem Keeps.lt_ltx {l : List Part} {s t : State} (h : Keeps l s t)
    (hlt : Part.lt ∈ l) (hltx : Part.ltx ∈ l) {xlt xltx} :
    Keeps l s { t with lt := xlt, ltx := xltx } :=
  ⟨⟨fun p hp => by
    have a := h.same.agree p hp
    cases p <;> first | exact absurd hlt hp  | exact absurd hltx hp | exact a⟩,
    fun k => let k := h.sound k; ⟨k.mem, k.ledgers, k.confirm, k.ring⟩⟩

theorem Keeps.lt_ltx_slp_tex {l : List Part} {s t : State} (h : Keeps l s t)
    (hlt : Part.lt ∈ l) (hltx : Part.ltx ∈ l) (hslp : Part.slp ∈ l) (htex : Part.tex ∈ l) {xlt xltx xslp xtex} :
    Keeps l s { t with lt := xlt, ltx := xltx, slp := xslp, tex := xtex } :=
  ⟨⟨fun p hp => by
    have a := h.same.agree p hp
    cases p <;> first | exact absurd hlt hp  | exact absurd hltx hp  | exact absurd hslp hp  | exact absurd htex hp | exact a⟩,
    fun k => let k := h.sound k; ⟨k.mem, k.ledgers, k.confirm, k.ring⟩⟩

theorem Keeps.ltx_rg_cx_hi_mss {l : List Part} {s t : State} (h : Keeps l s t)
    (hltx : Part.ltx ∈ l) (hrg : Part.rg ∈ l) (hcx : Part.cx ∈ l) (hhi : Part.hi ∈ l) (hmss : Part.mss ∈ l) {xltx xrg xcx xhi xmss} :
    Keeps l s { t with ltx := xltx, rg := xrg, cx := xcx, hi := xhi, mss := xmss } :=
  ⟨⟨fun p hp => by
    have a := h.same.agree p hp
    cases p <;> first | exact absurd hltx hp  | exact absurd hrg hp  | exact absurd hcx hp  | exact absurd hhi hp  | exact absurd hmss hp | exact a⟩,
    fun k => let k := h.sound k; ⟨k.mem, k.ledgers, k.confirm, k.ring⟩⟩

theorem Keeps.ltx_slp {l : List Part} {s t : State} (h : Keeps l s t)
    (hltx : Part.ltx ∈ l) (hslp : Part.slp ∈ l) {xltx xslp} :
    Keeps l s { t with ltx := xltx, slp := xslp } :=
  ⟨⟨fun p hp => by
    have a := h.same.agree p hp
    cases p <;> first | exact absurd hltx hp  | exact absurd hslp hp | exact a⟩,
    fun k => let k := h.sound k; ⟨k.mem, k.ledgers, k.confirm, k.ring⟩⟩

theorem Keeps.msix_ev {l : List Part} {s t : State} (h : Keeps l s t)
    (hmsix : Part.msix ∈ l) (hev : Part.ev ∈ l) {xmsix xev}
    (kev : RingKept t.ev xev := by exact ⟨rfl, rfl, id⟩) :
    Keeps l s { t with msix := xmsix, ev := xev } :=
  ⟨⟨fun p hp => by
    have a := h.same.agree p hp
    cases p <;> first | exact absurd hmsix hp  | exact absurd hev hp | exact kev.after a | exact a⟩,
    fun k => let k := h.sound k; ⟨k.mem, k.ledgers, k.confirm, kev.tail k.ring⟩⟩

theorem Keeps.mss_mssx {l : List Part} {s t : State} (h : Keeps l s t)
    (hmss : Part.mss ∈ l) (hmssx : Part.mssx ∈ l) {xmss xmssx} :
    Keeps l s { t with mss := xmss, mssx := xmssx } :=
  ⟨⟨fun p hp => by
    have a := h.same.agree p hp
    cases p <;> first | exact absurd hmss hp  | exact absurd hmssx hp | exact a⟩,
    fun k => let k := h.sound k; ⟨k.mem, k.ledgers, k.confirm, k.ring⟩⟩

theorem Keeps.pwr_clk {l : List Part} {s t : State} (h : Keeps l s t)
    (hpwr : Part.pwr ∈ l) (hclk : Part.clk ∈ l) {xpwr xclk} :
    Keeps l s { t with pwr := xpwr, clk := xclk } :=
  ⟨⟨fun p hp => by
    have a := h.same.agree p hp
    cases p <;> first | exact absurd hpwr hp  | exact absurd hclk hp | exact a⟩,
    fun k => let k := h.sound k; ⟨k.mem, k.ledgers, k.confirm, k.ring⟩⟩

theorem Keeps.qr_air_afe_ofd_rbm_te_rg_cv_hi_ev_lg_tmp_pwr_pmx {l : List Part} {s t : State} (h : Keeps l s t)
    (hqr : Part.qr ∈ l) (hair : Part.air ∈ l) (hafe : Part.afe ∈ l) (hofd : Part.ofd ∈ l) (hrbm : Part.rbm ∈ l) (hte : Part.te ∈ l) (hrg : Part.rg ∈ l) (hcv : Part.cv ∈ l) (hhi : Part.hi ∈ l) (hev : Part.ev ∈ l) (hlg : Part.lg ∈ l) (htmp : Part.tmp ∈ l) (hpwr : Part.pwr ∈ l) (hpmx : Part.pmx ∈ l) {xqr xair xafe xofd xrbm xte xrg xcv xhi xev xlg xtmp xpwr xpmx}
    (klg : LedgersOk t.lg → LedgersOk xlg)
    (kev : RingKept t.ev xev := by exact ⟨rfl, rfl, id⟩) :
    Keeps l s { t with qr := xqr, air := xair, afe := xafe, ofd := xofd, rbm := xrbm, te := xte, rg := xrg, cv := xcv, hi := xhi, ev := xev, lg := xlg, tmp := xtmp, pwr := xpwr, pmx := xpmx } :=
  ⟨⟨fun p hp => by
    have a := h.same.agree p hp
    cases p <;> first | exact absurd hqr hp  | exact absurd hair hp  | exact absurd hafe hp  | exact absurd hofd hp  | exact absurd hrbm hp  | exact absurd hte hp  | exact absurd hrg hp  | exact absurd hcv hp  | exact absurd hhi hp  | exact absurd hev hp  | exact absurd hlg hp  | exact absurd htmp hp  | exact absurd hpwr hp  | exact absurd hpmx hp | exact kev.after a | exact a⟩,
    fun k => let k := h.sound k; ⟨k.mem, klg k.ledgers, k.confirm, kev.tail k.ring⟩⟩

theorem Keeps.qr_qrx {l : List Part} {s t : State} (h : Keeps l s t)
    (hqr : Part.qr ∈ l) (hqrx : Part.qrx ∈ l) {xqr xqrx} :
    Keeps l s { t with qr := xqr, qrx := xqrx } :=
  ⟨⟨fun p hp => by
    have a := h.same.agree p hp
    cases p <;> first | exact absurd hqr hp  | exact absurd hqrx hp | exact a⟩,
    fun k => let k := h.sound k; ⟨k.mem, k.ledgers, k.confirm, k.ring⟩⟩

theorem Keeps.qr_qrx_slph {l : List Part} {s t : State} (h : Keeps l s t)
    (hqr : Part.qr ∈ l) (hqrx : Part.qrx ∈ l) (hslph : Part.slph ∈ l) {xqr xqrx xslph} :
    Keeps l s { t with qr := xqr, qrx := xqrx, slph := xslph } :=
  ⟨⟨fun p hp => by
    have a := h.same.agree p hp
    cases p <;> first | exact absurd hqr hp  | exact absurd hqrx hp  | exact absurd hslph hp | exact a⟩,
    fun k => let k := h.sound k; ⟨k.mem, k.ledgers, k.confirm, k.ring⟩⟩

theorem Keeps.qrx_lt_ltx_slp {l : List Part} {s t : State} (h : Keeps l s t)
    (hqrx : Part.qrx ∈ l) (hlt : Part.lt ∈ l) (hltx : Part.ltx ∈ l) (hslp : Part.slp ∈ l) {xqrx xlt xltx xslp} :
    Keeps l s { t with qrx := xqrx, lt := xlt, ltx := xltx, slp := xslp } :=
  ⟨⟨fun p hp => by
    have a := h.same.agree p hp
    cases p <;> first | exact absurd hqrx hp  | exact absurd hlt hp  | exact absurd hltx hp  | exact absurd hslp hp | exact a⟩,
    fun k => let k := h.sound k; ⟨k.mem, k.ledgers, k.confirm, k.ring⟩⟩

theorem Keeps.qrx_lt_slph {l : List Part} {s t : State} (h : Keeps l s t)
    (hqrx : Part.qrx ∈ l) (hlt : Part.lt ∈ l) (hslph : Part.slph ∈ l) {xqrx xlt xslph} :
    Keeps l s { t with qrx := xqrx, lt := xlt, slph := xslph } :=
  ⟨⟨fun p hp => by
    have a := h.same.agree p hp
    cases p <;> first | exact absurd hqrx hp  | exact absurd hlt hp  | exact absurd hslph hp | exact a⟩,
    fun k => let k := h.sound k; ⟨k.mem, k.ledgers, k.confirm, k.ring⟩⟩

theorem Keeps.qrx_ltx_slp_tex {l : List Part} {s t : State} (h : Keeps l s t)
    (hqrx : Part.qrx ∈ l) (hltx : Part.ltx ∈ l) (hslp : Part.slp ∈ l) (htex : Part.tex ∈ l) {xqrx xltx xslp xtex} :
    Keeps l s { t with qrx := xqrx, ltx := xltx, slp := xslp, tex := xtex } :=
  ⟨⟨fun p hp => by
    have a := h.same.agree p hp
    cases p <;> first | exact absurd hqrx hp  | exact absurd hltx hp  | exact absurd hslp hp  | exact absurd htex hp | exact a⟩,
    fun k => let k := h.sound k; ⟨k.mem, k.ledgers, k.confirm, k.ring⟩⟩

theorem Keeps.qrx_rbm_slp {l : List Part} {s t : State} (h : Keeps l s t)
    (hqrx : Part.qrx ∈ l) (hrbm : Part.rbm ∈ l) (hslp : Part.slp ∈ l) {xqrx xrbm xslp} :
    Keeps l s { t with qrx := xqrx, rbm := xrbm, slp := xslp } :=
  ⟨⟨fun p hp => by
    have a := h.same.agree p hp
    cases p <;> first | exact absurd hqrx hp  | exact absurd hrbm hp  | exact absurd hslp hp | exact a⟩,
    fun k => let k := h.sound k; ⟨k.mem, k.ledgers, k.confirm, k.ring⟩⟩

theorem Keeps.slp_clk {l : List Part} {s t : State} (h : Keeps l s t)
    (hslp : Part.slp ∈ l) (hclk : Part.clk ∈ l) {xslp xclk} :
    Keeps l s { t with slp := xslp, clk := xclk } :=
  ⟨⟨fun p hp => by
    have a := h.same.agree p hp
    cases p <;> first | exact absurd hslp hp  | exact absurd hclk hp | exact a⟩,
    fun k => let k := h.sound k; ⟨k.mem, k.ledgers, k.confirm, k.ring⟩⟩

theorem Keeps.slp_pwr {l : List Part} {s t : State} (h : Keeps l s t)
    (hslp : Part.slp ∈ l) (hpwr : Part.pwr ∈ l) {xslp xpwr} :
    Keeps l s { t with slp := xslp, pwr := xpwr } :=
  ⟨⟨fun p hp => by
    have a := h.same.agree p hp
    cases p <;> first | exact absurd hslp hp  | exact absurd hpwr hp | exact a⟩,
    fun k => let k := h.sound k; ⟨k.mem, k.ledgers, k.confirm, k.ring⟩⟩

theorem Keeps.slp_slph {l : List Part} {s t : State} (h : Keeps l s t)
    (hslp : Part.slp ∈ l) (hslph : Part.slph ∈ l) {xslp xslph} :
    Keeps l s { t with slp := xslp, slph := xslph } :=
  ⟨⟨fun p hp => by
    have a := h.same.agree p hp
    cases p <;> first | exact absurd hslp hp  | exact absurd hslph hp | exact a⟩,
    fun k => let k := h.sound k; ⟨k.mem, k.ledgers, k.confirm, k.ring⟩⟩

theorem Keeps.te_tex {l : List Part} {s t : State} (h : Keeps l s t)
    (hte : Part.te ∈ l) (htex : Part.tex ∈ l) {xte xtex} :
    Keeps l s { t with te := xte, tex := xtex } :=
  ⟨⟨fun p hp => by
    have a := h.same.agree p hp
    cases p <;> first | exact absurd hte hp  | exact absurd htex hp | exact a⟩,
    fun k => let k := h.sound k; ⟨k.mem, k.ledgers, k.confirm, k.ring⟩⟩

end Sys2Proof.Machine
end

