-- ==== Sys2Proof/Laws/FrameBase.lean ====
section
/-! SUPPORT. The frames of the functions of shared operations, the phase tracker, keys and frames: outside the components listed
each changes nothing, and it leaves a sound state sound. -/
namespace Sys2Proof.Machine

/-! ### Machine/Ops.lean -/

theorem draw_keeps (s : State) :
    Keeps ([.freeCtr]) s (draw s).2 := by
  unfold draw
  try with_reducible refine Keeps.mk ?_
  refine Keeps.freeCtr ?_ (by decide)
  exact Keeps.refl _ _

theorem run_keeps {L : List Part} {s t : State} {f : State → State} (_ : [] ⊆ L) (k : ∀ u, Keeps L s u → Keeps L s (f u))
    (h : run s f = .next t) : Keeps L s t := by
  unfold run at h
  exact Keeps.next (Keeps.queue (Keeps.ite (k _ (Keeps.refl _ _)) (Keeps.refl _ _))) h

theorem runAon_keeps {L : List Part} {s t : State} {f : State → State} (_ : [] ⊆ L) (k : ∀ u, Keeps L s u → Keeps L s (f u))
    (h : runAon s f = .next t) : Keeps L s t := by
  unfold runAon at h
  exact Keeps.next (Keeps.queue (Keeps.ite (k _ (Keeps.refl _ _)) (Keeps.refl _ _))) h

theorem issue_keeps (cls inst n : Nat) (s : State) : Keeps ([.lg]) s (issue cls inst n s) :=
  Keeps.lg (Keeps.refl _ _) (by decide) (fun h => lgUpd_ok (fun _ => Ledger.issue_balanced _) h)

theorem giveBack_keeps (cls inst n : Nat) (s : State) : Keeps ([.lg]) s (giveBack cls inst n s) :=
  Keeps.lg (Keeps.refl _ _) (by decide) (fun h => lgUpd_ok (fun _ => Ledger.give_balanced _) h)

theorem giveAll_keeps (cls inst : Nat) (s : State) : Keeps ([.lg]) s (giveAll cls inst s) :=
  Keeps.lg (Keeps.refl _ _) (by decide) (fun h => lgUpd_ok (fun _ => Ledger.give_balanced _) h)

theorem hostWrite_keeps (addr : Nat) (bs : List Byte) (s : State) :
    Keeps ([.hostMem, .dma]) s (hostWrite addr bs s) := by
  unfold hostWrite
  refine Keeps.hostMem ?_ (by decide) (fun h => hostWrite_ok _ _ h) (by decide)
  exact Keeps.refl _ _

theorem evFire_keeps (s : State) :
    Keeps ([.msix, .ev]) s (evFire s) := by
  unfold evFire
  refine Keeps.msix_ev ?_ (by decide) (by decide)
  exact Keeps.refl _ _

theorem evNotify_keeps (s : State) :
    Keeps ([.msix, .ev]) s (evNotify s) := by
  unfold evNotify
  refine Keeps.ite ?_ ?_
  · refine (evFire_keeps ..).step (by decide) ?_
    exact Keeps.refl _ _
  · exact Keeps.refl _ _

theorem logMark_keeps (p : LogRec → Bool) (s : State) :
    Keeps ([.mssx]) s (logMark p s) := by
  unfold logMark
  extract_lets -merge +onlyGivenNames x0
  refine Keeps.mssx ?_ (by decide)
  exact Keeps.refl _ _

theorem evHasSlot_running {e : Ev} (h : evHasSlot e = true) : e.st = .running := by
  unfold evHasSlot at h
  simp only [Bool.and_eq_true, decide_eq_true_eq] at h
  exact h.1

theorem evMayWrite_running {s : State} (h : evMayWrite s = true) : s.ev.st = .running := by
  unfold evMayWrite at h
  exact evHasSlot_running (Bool.and_eq_true .. ▸ h).1

theorem recBytes_length (r : EvRec) : (recBytes r).length = 32 := by
  simp [recBytes, leBytes]

/-- The event ring after a record is written at its tail. -/
theorem evTail_in (e : Ev) (now : Nat) :
    ({ e with tail := (e.tail + 1) % ringSize e.cfg, written := e.written ++ [now] } : Ev).TailIn :=
  fun _ => Nat.mod_lt _ (Nat.two_pow_pos _)

theorem evRecord_keeps (r : EvRec) (s : State) (hr : s.ev.st = .running) :
    Keeps eventParts s { s with
      hostMem := spPutBytes s.hostMem (s.ev.base.toNat + 32 * s.ev.tail) (recBytes r)
      ev := { s.ev with tail := (s.ev.tail + 1) % ringSize s.ev.cfg, written := s.ev.written ++ [s.now] } } :=
  Keeps.evRecord (Keeps.refl eventParts s) (by decide) (by decide) (recBytes r) hr rfl rfl (Nat.le_of_eq (recBytes_length r))
    (fun _ => evTail_in s.ev s.now)

theorem evWrite_keeps (r : EvRec) (s : State) (hr : s.ev.st = .running) :
    Keeps (eventParts) s (evWrite r s) := by
  have h4 := evRecord_keeps r s hr
  unfold evWrite hostWrite
  dsimp only
  refine (evNotify_keeps ..).step (by decide) ?_
  refine (issue_keeps ..).step (by decide) ?_
  refine (logMark_keeps ..).step (by decide) ?_
  exact h4

theorem evForm_keeps (code source : Nat) (sec ns : Word) (p : BitVec 128) (s : State) :
    Keeps ([.ev]) s (evForm code source sec ns p s).2 := by
  unfold evForm
  try with_reducible refine Keeps.mk ?_
  refine Keeps.ev ?_ (by decide)
  exact Keeps.refl _ _

theorem evHold_keeps (r : EvRec) (s : State) :
    Keeps ([.ev]) s (evHold r s) := by
  unfold evHold
  extract_lets -merge +onlyGivenNames x0 x1
  refine Keeps.ev ?_ (by decide)
  exact Keeps.refl _ _

theorem raiseRaw_keeps (code source : Nat) (sec ns : Word) (p : BitVec 128) (s : State) :
    Keeps (eventParts) s (raiseRaw code source sec ns p s) := by
  unfold raiseRaw
  split
  · refine Keeps.ev ?_ (by decide)
    exact Keeps.refl _ _
  · split
    rename_i v0 v1 e3
    have hv2 : Keeps (eventParts) s v1 := by
      refine Keeps.snd e3 ?_
      refine (evForm_keeps ..).step (by decide) ?_
      exact Keeps.refl _ _
    clear e3
    refine (evHold_keeps ..).step (by decide) ?_
    exact hv2
  · split
    rename_i v4 v5 e7
    have hv6 : Keeps (eventParts) s v5 := by
      refine Keeps.snd e7 ?_
      refine (evForm_keeps ..).step (by decide) ?_
      exact Keeps.refl _ _
    clear e7
    split
    · rename_i hw
      refine (evWrite_keeps _ _ (evMayWrite_running hw)).step (by decide) ?_
      exact hv6
    · refine (evHold_keeps ..).step (by decide) ?_
      exact hv6

theorem logAdd_keeps (code source : Nat) (sec : BitVec 48) (ns : Word) (p : BitVec 128) (evseq : Word) (s : State) :
    Keeps ([.mssx]) s (logAdd code source sec ns p evseq s) := by
  unfold logAdd
  refine Keeps.ite ?_ ?_
  · extract_lets -merge +onlyGivenNames x0
    refine Keeps.mssx ?_ (by decide)
    exact Keeps.refl _ _
  · refine Keeps.mssx ?_ (by decide)
    exact Keeps.refl _ _

theorem raiseAt_keeps (code source : Nat) (sec : BitVec 48) (ns : Word) (p : BitVec 128) (s : State) :
    Keeps (eventParts) s (raiseAt code source sec ns p s) := by
  unfold raiseAt
  extract_lets -merge +onlyGivenNames x0
  have h1 : Keeps (eventParts) s x0 := by
    refine Keeps.ite ?_ ?_
    · refine (logAdd_keeps ..).step (by decide) ?_
      exact Keeps.refl _ _
    · exact Keeps.refl _ _
  refine (raiseRaw_keeps ..).step (by decide) ?_
  exact h1

theorem raiseP_keeps (code inst : Nat) (p : BitVec 128) (s : State) :
    Keeps (eventParts) s (raiseP code inst p s) := by
  unfold raiseP
  refine (raiseAt_keeps ..).step (by decide) ?_
  exact Keeps.refl _ _

theorem raise_keeps (code inst : Nat) (fs : List (Nat × Nat × Nat)) (s : State) :
    Keeps (eventParts) s (raise code inst fs s) := by
  unfold raise
  refine (raiseP_keeps ..).step (by decide) ?_
  exact Keeps.refl _ _

theorem raiseMss_keeps (code inst : Nat) (fs : List (Nat × Nat × Nat)) (s : State) :
    Keeps (eventParts) s (raiseMss code inst fs s) := by
  unfold raiseMss
  refine (raiseAt_keeps ..).step (by decide) ?_
  exact Keeps.refl _ _

theorem raiseAon_keeps (code inst : Nat) (p : BitVec 128) (stamp : Option (BitVec 64)) (s : State) :
    Keeps (.tmp :: eventParts) s (raiseAon code inst p stamp s) := by
  unfold raiseAon
  refine Keeps.ite ?_ ?_
  · split
    · refine (raiseAt_keeps ..).step (by decide) ?_
      exact Keeps.refl _ _
    · refine (raiseP_keeps ..).step (by decide) ?_
      exact Keeps.refl _ _
  · refine Keeps.tmp ?_ (by decide)
    exact Keeps.refl _ _

theorem evCoalesced_keeps (code : Nat) (c : Coal) (s : State) (hr : s.ev.st = .running) :
    Keeps (eventParts) s (evCoalesced code c s) := by
  unfold evCoalesced
  extract_lets -merge +onlyGivenNames x0
  split
  rename_i v1 v2 e4
  have hv3 : Keeps (eventParts) s v2 := by
    refine Keeps.snd e4 ?_
    refine (evForm_keeps ..).step (by decide) ?_
    exact Keeps.refl _ _
  have hr2 : v2.ev.st = .running := by
    have := congrArg (fun p : EvRec × State => p.2.ev.st) e4
    exact this.symm.trans hr
  clear e4
  extract_lets -merge +onlyGivenNames x5
  extract_lets -merge +onlyGivenNames x6
  have h7 : Keeps (eventParts) s x6 := by
    refine Keeps.ev ?_ (by decide)
    exact hv3
  refine (logMark_keeps ..).step (by decide) ?_
  refine (evWrite_keeps _ x6 (show x6.ev.st = .running from hr2)).step (by decide) ?_
  exact h7

theorem evDrain_keeps (n : Nat) (s : State) : Keeps eventParts s (evDrain n s) := by
  induction n generalizing s with
  | zero => exact Keeps.refl _ _
  | succ n ih =>
    unfold evDrain
    split
    · split
      · rename_i hw
        refine (ih _).step (by decide) ((evWrite_keeps _ _ ?_).step (by decide) (Keeps.ev (Keeps.refl _ s) (by decide)))
        exact evMayWrite_running hw
      · exact Keeps.refl _ _
    · split
      · split
        · exact Keeps.ev (Keeps.refl _ _) (by decide)
        · split
          · rename_i hw
            exact (ih _).step (by decide) ((evCoalesced_keeps _ _ _ (evMayWrite_running hw)).step (by decide) (Keeps.refl _ _))
          · exact Keeps.refl _ _
      · exact Keeps.ev (Keeps.refl _ _) (by decide)

theorem evDrainAll_keeps (s : State) :
    Keeps (eventParts) s (evDrainAll s) := by
  unfold evDrainAll
  refine (evDrain_keeps ..).step (by decide) ?_
  exact Keeps.refl _ _

theorem stageLo_keeps (a : Agent) (bar2 : Bool) (off : Nat) (v : Word) (s : State) :
    Keeps ([.staging]) s (stageLo a bar2 off v s) := by
  unfold stageLo
  refine Keeps.staging ?_ (by decide)
  exact Keeps.refl _ _

theorem takeLo_keeps (a : Agent) (bar2 : Bool) (off : Nat) (live : Word) (s : State) :
    Keeps ([.staging]) s (takeLo a bar2 off live s).2 := by
  unfold takeLo
  try with_reducible refine Keeps.mk ?_
  refine Keeps.staging ?_ (by decide)
  exact Keeps.refl _ _

theorem wakeBy_keeps (src : Nat) (s : State) :
    Keeps ([.slp, .pwr]) s (wakeBy src s) := by
  unfold wakeBy
  refine Keeps.ite ?_ ?_
  · refine Keeps.slp_pwr ?_ (by decide) (by decide)
    exact Keeps.refl _ _
  · exact Keeps.refl _ _

theorem runHost_keeps {L : List Part} {s t : State} {f : State → State} (hL : [.slp, .pwr] ⊆ L)
    (k : ∀ u, Keeps L s u → Keeps L s (f u)) (h : runHost s f = .next t) : Keeps L s t :=
  run_keeps (by simp) (fun u hu => k _ ((wakeBy_keeps ..).step hL hu)) h

theorem setPad_keeps (i : Nat) (b : Bool) (s : State) :
    Keeps ([.pmx]) s (setPad i b s) := by
  unfold setPad
  refine Keeps.pmx ?_ (by decide)
  exact Keeps.refl _ _

/-! ### Machine/Rings.lean -/

theorem updSq_keeps (r : Nat) (f : Sq → Sq) (s : State) :
    Keeps ([.hi]) s (updSq r f s) := by
  unfold updSq
  refine Keeps.hi ?_ (by decide)
  exact Keeps.refl _ _

theorem updCq_keeps (m : Nat) (f : Cq → Cq) (s : State) :
    Keeps ([.hi]) s (updCq m f s) := by
  unfold updCq
  refine Keeps.hi ?_ (by decide)
  exact Keeps.refl _ _

theorem takeDesc_keeps (r : Nat) (d : DescBytes) (s : State) :
    Keeps ([.hi, .lg]) s (takeDesc r d s).2 := by
  unfold takeDesc
  extract_lets -merge +onlyGivenNames x0
  extract_lets -merge +onlyGivenNames x1
  have h2 : Keeps ([.hi, .lg]) s x1 := by
    unfold x1
    refine (updSq_keeps ..).step (by decide) ?_
    exact Keeps.refl _ _
  extract_lets -merge +onlyGivenNames x3
  have h4 : Keeps ([.hi, .lg]) s x3 := by
    unfold x3
    refine (updCq_keeps ..).step (by decide) ?_
    exact h2
  extract_lets -merge +onlyGivenNames x5
  extract_lets -merge +onlyGivenNames x6
  have h7 : Keeps ([.hi, .lg]) s x6 := by
    refine Keeps.hi ?_ (by decide)
    exact h4
  try with_reducible refine Keeps.mk ?_
  refine (issue_keeps ..).step (by decide) ?_
  refine (issue_keeps ..).step (by decide) ?_
  exact h7

theorem finish_keeps (r id : Nat) (res : Result) (s : State) :
    Keeps ([.hi]) s (finish r id res s) := by
  unfold finish
  refine (updSq_keeps ..).step (by decide) ?_
  exact Keeps.refl _ _

theorem finishOpt_keeps (d : Option (Nat × Nat)) (res : Result) (s : State) :
    Keeps ([.hi]) s (finishOpt d res s) := by
  unfold finishOpt
  split
  · refine (finish_keeps ..).step (by decide) ?_
    exact Keeps.refl _ _
  · exact Keeps.refl _ _

theorem raiseFor_keeps (o : Option (Nat × Nat)) (code inst : Nat) (fs : List (Nat × Nat × Nat)) (s : State) :
    Keeps (.hi :: eventParts) s (raiseFor o code inst fs s) := by
  unfold raiseFor
  split
  · refine (raise_keeps ..).step (by decide) ?_
    exact Keeps.refl _ _
  · refine Keeps.ite ?_ ?_
    · refine (updSq_keeps ..).step (by decide) ?_
      exact Keeps.refl _ _
    · refine (raise_keeps ..).step (by decide) ?_
      exact Keeps.refl _ _

theorem dmaError_keeps (r id addr kind : Nat) (s : State) :
    Keeps (.hi :: eventParts) s (dmaError r id addr kind s) := by
  unfold dmaError
  extract_lets -merge +onlyGivenNames x0
  extract_lets -merge +onlyGivenNames x1
  have h2 : Keeps (.hi :: eventParts) s x1 := by
    refine Keeps.hi ?_ (by decide)
    exact Keeps.refl _ _
  extract_lets -merge +onlyGivenNames x3
  have h4 : Keeps (.hi :: eventParts) s x3 := by
    unfold x3
    refine (raiseFor_keeps ..).step (by decide) ?_
    exact h2
  refine (finish_keeps ..).step (by decide) ?_
  exact h4

theorem withData_keeps {L : List Part} {s t : State} {m : MemRead} {r id addr len : Nat} {k : List Byte → State → State}
    (hL : .hi :: .freeCtr :: eventParts ⊆ L) (hk : ∀ b u, Keeps L s u → Keeps L s (k b u)) (h : Keeps L s t) :
    Keeps L s (withData m r id addr len k t) := by
  unfold withData
  split
  · split
    · exact (dmaError_keeps ..).step (List.Subset.trans (by decide) hL) h
    · exact hk _ _ h
  · exact (dmaError_keeps ..).step (List.Subset.trans (by decide) hL) ((draw_keeps ..).step (List.Subset.trans (by decide) hL) h)

theorem withDst_keeps {L : List Part} {s t : State} {r id addr len : Nat} {k : State → State}
    (hL : .hi :: .freeCtr :: eventParts ⊆ L) (hk : ∀ u, Keeps L s u → Keeps L s (k u)) (h : Keeps L s t) :
    Keeps L s (withDst r id addr len k t) := by
  unfold withDst
  split
  · exact hk _ h
  · exact (dmaError_keeps ..).step (List.Subset.trans (by decide) hL) ((draw_keeps ..).step (List.Subset.trans (by decide) hL) h)

theorem descRowPre_keeps {L : List Part} {s t : State} {pre : Nat → State → State} {ok : Nat → Bool} {r : Fin 16}
    {d : DescBytes} {body : Nat → State → State} (hL : [.hi, .lg] ⊆ L)
    (hp : ∀ n u, Keeps L s u → Keeps L s (pre n u)) (hk : ∀ n u, Keeps L s u → Keeps L s (body n u)) (h : Keeps L s t) :
    Keeps L s (descRowPre pre ok r d body t) := by
  unfold descRowPre
  refine Keeps.ite ?_ h
  have a := hp (takeDesc r.val d t).1 (takeDesc r.val d t).2 ((takeDesc_keeps ..).step (List.Subset.trans (by decide) hL) h)
  generalize takeDesc r.val d t = p at a ⊢
  obtain ⟨id, u⟩ := p
  dsimp only at a ⊢
  split
  · exact (finish_keeps ..).step (List.Subset.trans (by decide) hL) a
  · exact hk _ _ a

theorem descRow_keeps {L : List Part} {s t : State} {ok : Nat → Bool} {r : Fin 16} {d : DescBytes}
    {body : Nat → State → State} (hL : [.hi, .lg] ⊆ L) (hk : ∀ n u, Keeps L s u → Keeps L s (body n u))
    (h : Keeps L s t) : Keeps L s (descRow ok r d body t) :=
  descRowPre_keeps hL (fun _ _ h => h) hk h

theorem cqFire_keeps (m : Nat) (s : State) :
    Keeps (.hi :: eventParts) s (cqFire m s) := by
  unfold cqFire
  extract_lets -merge +onlyGivenNames x0
  extract_lets -merge +onlyGivenNames x1
  have h2 : Keeps (.hi :: eventParts) s x1 := by
    unfold x1
    refine (updCq_keeps ..).step (by decide) ?_
    exact Keeps.refl _ _
  refine (raise_keeps ..).step (by decide) ?_
  exact h2

theorem cqNotify_keeps (m : Nat) (s : State) :
    Keeps (.hi :: eventParts) s (cqNotify m s) := by
  unfold cqNotify
  refine Keeps.ite ?_ ?_
  · refine (cqFire_keeps ..).step (by decide) ?_
    exact Keeps.refl _ _
  · exact Keeps.refl _ _

theorem resetsSettle_keeps (s : State) :
    Keeps (eventParts) s (resetsSettle s) := by
  unfold resetsSettle
  extract_lets -merge +onlyGivenNames x0 x1
  extract_lets -merge +onlyGivenNames x2
  have h3 : Keeps (eventParts) s x2 := by
    refine Keeps.lg ?_ (by decide) (fun h => ⟨h.order, h.balance⟩)
    exact Keeps.refl _ _
  refine Keeps.foldl ?_ (fun u4 _ hu5 => ?_)
  · exact h3
  · try beta_reduce
    refine (raise_keeps ..).step (by decide) ?_
    exact hu5

theorem resetBegin_keeps (unit cause : Nat) (byHost : Bool) (ds : List (Nat × Nat)) (s : State) :
    Keeps ([.lg]) s (resetBegin unit cause byHost ds s) := by
  unfold resetBegin
  extract_lets -merge +onlyGivenNames x0 x1
  refine Keeps.lg ?_ (by decide) (fun h => ⟨h.order, h.balance⟩)
  exact Keeps.refl _ _

theorem resetsDrop_keeps (r id : Nat) (s : State) :
    Keeps ([.lg, .tmp]) s (resetsDrop r id s) := by
  unfold resetsDrop
  extract_lets -merge +onlyGivenNames x0 x1 x2
  refine Keeps.lg_tmp ?_ (by decide) (by decide) (fun h => ⟨h.order, h.balance⟩)
  exact Keeps.refl _ _

/-! ### Machine/Mpt.lean -/

theorem updPh_keeps (n : Phase) (f : PhaseS → PhaseS) (s : State) :
    Keeps ([.mpt]) s (updPh n f s) := by
  unfold updPh
  refine Keeps.mpt ?_ (by decide)
  exact Keeps.refl _ _

theorem syncLeafRef_keeps (s : State) :
    Keeps ([.mpt]) s (syncLeafRef s) := by
  unfold syncLeafRef
  refine Keeps.ite ?_ ?_
  · extract_lets -merge +onlyGivenNames x0
    refine Keeps.mpt ?_ (by decide)
    exact Keeps.refl _ _
  · exact Keeps.refl _ _

theorem raisePending_keeps (s : State) :
    Keeps (.qrx :: eventParts) s (raisePending s) := by
  unfold raisePending
  split
  · refine (raise_keeps ..).step (by decide) ?_
    refine Keeps.qrx ?_ (by decide)
    exact Keeps.refl _ _
  · exact Keeps.refl _ _

theorem refStepApply_keeps (s : State) :
    Keeps (.mpt :: eventParts) s (refStepApply s) := by
  unfold refStepApply
  split
  · exact Keeps.refl _ _
  · extract_lets -merge +onlyGivenNames x0
    extract_lets -merge +onlyGivenNames x1
    have h2 : Keeps (.mpt :: eventParts) s x1 := by
      unfold x1
      split
      · refine (updPh_keeps ..).step (by decide) ?_
        exact Keeps.refl _ _
      · exact Keeps.refl _ _
    extract_lets -merge +onlyGivenNames x3
    extract_lets -merge +onlyGivenNames x4
    have h5 : Keeps (.mpt :: eventParts) s x4 := by
      refine Keeps.mpt ?_ (by decide)
      exact h2
    refine (raise_keeps ..).step (by decide) ?_
    exact h5

theorem ownStepApply_keeps (n : Phase) (s : State) :
    Keeps (.mpt :: eventParts) s (ownStepApply n s) := by
  unfold ownStepApply
  split
  · exact Keeps.refl _ _
  · extract_lets -merge +onlyGivenNames x0
    have h1 : Keeps (.mpt :: eventParts) s x0 := by
      unfold x0
      refine (updPh_keeps ..).step (by decide) ?_
      exact Keeps.refl _ _
    refine Keeps.ite ?_ ?_
    · exact h1
    · refine (raise_keeps ..).step (by decide) ?_
      exact h1

theorem changeRef_keeps (r : Phase) (s : State) :
    Keeps (.mpt :: .qrx :: eventParts) s (changeRef r s) := by
  unfold changeRef
  extract_lets -merge +onlyGivenNames x0 x1 x2
  extract_lets -merge +onlyGivenNames x3
  have h4 : Keeps (.mpt :: .qrx :: eventParts) s x3 := by
    unfold x3
    split
    · refine (updPh_keeps ..).step (by decide) ?_
      exact Keeps.refl _ _
    · exact Keeps.refl _ _
  extract_lets -merge +onlyGivenNames x5
  extract_lets -merge +onlyGivenNames x6
  have h7 : Keeps (.mpt :: .qrx :: eventParts) s x6 := by
    refine Keeps.mpt ?_ (by decide)
    exact h4
  extract_lets -merge +onlyGivenNames x8
  have h9 : Keeps (.mpt :: .qrx :: eventParts) s x8 := by
    unfold x8
    refine (raise_keeps ..).step (by decide) ?_
    exact h7
  refine (raisePending_keeps ..).step (by decide) ?_
  exact h9

theorem rechooseRef_keeps (s : State) :
    Keeps (.mpt :: .qrx :: eventParts) s (rechooseRef s) := by
  unfold rechooseRef
  refine Keeps.ite ?_ ?_
  · exact Keeps.refl _ _
  · refine Keeps.ite ?_ ?_
    · extract_lets -merge +onlyGivenNames x0
      refine Keeps.ite ?_ ?_
      · exact Keeps.refl _ _
      · refine (changeRef_keeps ..).step (by decide) ?_
        exact Keeps.refl _ _
    · refine Keeps.ite ?_ ?_
      · exact Keeps.refl _ _
      · split
        · extract_lets -merge +onlyGivenNames x1
          refine Keeps.ite ?_ ?_
          · exact Keeps.refl _ _
          · refine Keeps.mpt ?_ (by decide)
            exact Keeps.refl _ _
        · extract_lets -merge +onlyGivenNames x2
          extract_lets -merge +onlyGivenNames x3
          have h4 : Keeps (.mpt :: .qrx :: eventParts) s x3 := by
            refine Keeps.mpt ?_ (by decide)
            exact Keeps.refl _ _
          refine Keeps.ite ?_ ?_
          · exact h4
          · refine (changeRef_keeps ..).step (by decide) ?_
            exact h4

theorem qrFlywheelCheck_keeps (s : State) :
    Keeps (.qr :: eventParts) s (qrFlywheelCheck s) := by
  unfold qrFlywheelCheck
  extract_lets -merge +onlyGivenNames x0
  refine Keeps.ite ?_ ?_
  · extract_lets -merge +onlyGivenNames x1 x2
    extract_lets -merge +onlyGivenNames x3
    have h4 : Keeps (.qr :: eventParts) s x3 := by
      refine Keeps.qr ?_ (by decide)
      exact Keeps.refl _ _
    refine (raise_keeps ..).step (by decide) ?_
    exact h4
  · exact Keeps.refl _ _

theorem afterState_keeps (s : State) :
    Keeps (.mpt :: .qr :: .qrx :: eventParts) s (afterState s) := by
  unfold afterState
  refine (qrFlywheelCheck_keeps ..).step (by decide) ?_
  refine (rechooseRef_keeps ..).step (by decide) ?_
  exact Keeps.refl _ _

theorem execZcEdge_keeps (n : Phase) (s : State) {s₁ : State}
    (h : execZcEdge n s = .next s₁) : Keeps (.mpt :: eventParts) s s₁ := by
  unfold execZcEdge at h
  refine run_keeps (by decide) (fun u hu => ?_) h
  try beta_reduce
  extract_lets -merge +onlyGivenNames x0 x1 x2
  refine Keeps.ite ?_ ?_
  · exact hu
  · refine Keeps.ite ?_ ?_
    · extract_lets -merge +onlyGivenNames x3
      have h4 : Keeps (.mpt :: eventParts) s x3 := by
        unfold x3
        refine (updPh_keeps ..).step (by decide) ?_
        exact hu
      refine Keeps.ite ?_ ?_
      · extract_lets -merge +onlyGivenNames x5
        have h6 : Keeps (.mpt :: eventParts) s x5 := by
          unfold x5
          refine (raise_keeps ..).step (by decide) ?_
          exact h4
        refine (updPh_keeps ..).step (by decide) ?_
        exact h6
      · exact h4
    · refine (updPh_keeps ..).step (by decide) ?_
      exact hu

theorem rotationCheck_keeps (s : State) :
    Keeps (.mpt :: eventParts) s (rotationCheck s) := by
  unfold rotationCheck
  extract_lets -merge +onlyGivenNames x0 x1 x2 x3 x4 x5 x6
  split
  · refine Keeps.ite ?_ ?_
    · exact Keeps.refl _ _
    · extract_lets -merge +onlyGivenNames x7
      extract_lets -merge +onlyGivenNames x8
      have h9 : Keeps (.mpt :: eventParts) s x8 := by
        refine Keeps.mpt ?_ (by decide)
        exact Keeps.refl _ _
      refine (raise_keeps ..).step (by decide) ?_
      exact h9

theorem phaseWrap_keeps (n : Phase) (m : CycleMeas) (s : State) :
    Keeps (.mpt :: eventParts) s (phaseWrap n m s) := by
  unfold phaseWrap
  extract_lets -merge +onlyGivenNames x0
  have h1 : Keeps (.mpt :: eventParts) s x0 := by
    unfold x0
    refine (updPh_keeps ..).step (by decide) ?_
    exact Keeps.refl _ _
  extract_lets -merge +onlyGivenNames x2
  have h3 : Keeps (.mpt :: eventParts) s x2 := by
    unfold x2
    refine (ownStepApply_keeps ..).step (by decide) ?_
    exact h1
  extract_lets -merge +onlyGivenNames x4
  have h5 : Keeps (.mpt :: eventParts) s x4 := by
    unfold x4
    refine (updPh_keeps ..).step (by decide) ?_
    exact h3
  refine (syncLeafRef_keeps ..).step (by decide) ?_
  refine Keeps.ite ?_ ?_
  · refine (rotationCheck_keeps ..).step (by decide) ?_
    exact h5
  · exact h5

theorem refWrap_keeps (s : State) :
    Keeps (.mpt :: eventParts) s (refWrap s) := by
  unfold refWrap
  extract_lets -merge +onlyGivenNames x0
  extract_lets -merge +onlyGivenNames x1
  have h2 : Keeps (.mpt :: eventParts) s x1 := by
    refine Keeps.mpt ?_ (by decide)
    exact Keeps.refl _ _
  refine Keeps.ite ?_ ?_
  · refine (refStepApply_keeps ..).step (by decide) ?_
    exact h2
  · exact h2

theorem execPhaseAngleWrap_keeps (n : Fin 4) (m : CycleMeas) (s : State) {s₁ : State}
    (h : execPhaseAngleWrap n m s = .next s₁) : Keeps (.mpt :: eventParts) s s₁ := by
  unfold execPhaseAngleWrap at h
  refine run_keeps (by decide) (fun u hu => ?_) h
  try beta_reduce
  split
  · refine (phaseWrap_keeps ..).step (by decide) ?_
    exact hu
  · refine (refWrap_keeps ..).step (by decide) ?_
    exact hu

theorem enterLocked_keeps (n : Phase) (s : State) :
    Keeps (.mpt :: eventParts) s (enterLocked n s) := by
  unfold enterLocked
  extract_lets -merge +onlyGivenNames x0
  have h1 : Keeps (.mpt :: eventParts) s x0 := by
    unfold x0
    refine (updPh_keeps ..).step (by decide) ?_
    exact Keeps.refl _ _
  refine (raise_keeps ..).step (by decide) ?_
  exact h1

theorem execMptLocked_keeps (n : Phase) (s : State) {s₁ : State}
    (h : execMptLocked n s = .next s₁) : Keeps (.mpt :: .qr :: .qrx :: eventParts) s s₁ := by
  unfold execMptLocked at h
  refine run_keeps (by decide) (fun u hu => ?_) h
  try beta_reduce
  extract_lets -merge +onlyGivenNames x0
  refine Keeps.ite ?_ ?_
  · refine (syncLeafRef_keeps ..).step (by decide) ?_
    refine (afterState_keeps ..).step (by decide) ?_
    refine (enterLocked_keeps ..).step (by decide) ?_
    exact hu
  · exact hu

theorem enterFlywheel_keeps (n : Phase) (cause : Nat) (s : State) :
    Keeps (.mpt :: .qr :: .qrx :: eventParts) s (enterFlywheel n cause s) := by
  unfold enterFlywheel
  extract_lets -merge +onlyGivenNames x0
  have h1 : Keeps (.mpt :: .qr :: .qrx :: eventParts) s x0 := by
    unfold x0
    refine (updPh_keeps ..).step (by decide) ?_
    exact Keeps.refl _ _
  refine (afterState_keeps ..).step (by decide) ?_
  refine (raise_keeps ..).step (by decide) ?_
  exact h1

theorem execMptFlywheel_keeps (n : Phase) (s : State) {s₁ : State}
    (h : execMptFlywheel n s = .next s₁) : Keeps (.mpt :: .qr :: .qrx :: eventParts) s s₁ := by
  unfold execMptFlywheel at h
  refine run_keeps (by decide) (fun u hu => ?_) h
  try beta_reduce
  extract_lets -merge +onlyGivenNames x0
  refine Keeps.ite ?_ ?_
  · refine (enterFlywheel_keeps ..).step (by decide) ?_
    exact hu
  · exact hu

theorem execAcquireAbandon_keeps (n : Phase) (s : State) {s₁ : State}
    (h : execAcquireAbandon n s = .next s₁) : Keeps ([.mpt]) s s₁ := by
  unfold execAcquireAbandon at h
  refine run_keeps (by decide) (fun u hu => ?_) h
  try beta_reduce
  extract_lets -merge +onlyGivenNames x0
  refine Keeps.ite ?_ ?_
  · refine (updPh_keeps ..).step (by decide) ?_
    exact hu
  · exact hu

theorem execMptFreqRange_keeps (n : Phase) (freq : Word) (s : State) {s₁ : State}
    (h : execMptFreqRange n freq s = .next s₁) : Keeps (.mpt :: .qr :: .qrx :: eventParts) s s₁ := by
  unfold execMptFreqRange at h
  refine run_keeps (by decide) (fun u hu => ?_) h
  try beta_reduce
  extract_lets -merge +onlyGivenNames x0 x1
  refine Keeps.ite ?_ ?_
  · exact hu
  · extract_lets -merge +onlyGivenNames x2
    have h3 : Keeps (.mpt :: .qr :: .qrx :: eventParts) s x2 := by
      unfold x2
      refine (updPh_keeps ..).step (by decide) ?_
      exact hu
    extract_lets -merge +onlyGivenNames x4
    have h5 : Keeps (.mpt :: .qr :: .qrx :: eventParts) s x4 := by
      unfold x4
      refine (raise_keeps ..).step (by decide) ?_
      exact h3
    refine Keeps.ite ?_ ?_
    · refine Keeps.ite ?_ ?_
      · refine (updPh_keeps ..).step (by decide) ?_
        exact h5
      · exact h5
    · refine Keeps.ite ?_ ?_
      · refine (enterFlywheel_keeps ..).step (by decide) ?_
        exact h5
      · refine Keeps.ite ?_ ?_
        · refine (updPh_keeps ..).step (by decide) ?_
          exact h5
        · exact h5

theorem enterLost_keeps (n : Phase) (s : State) :
    Keeps (.mpt :: eventParts) s (enterLost n s) := by
  unfold enterLost
  extract_lets -merge +onlyGivenNames x0
  extract_lets -merge +onlyGivenNames x1
  have h2 : Keeps (.mpt :: eventParts) s x1 := by
    unfold x1
    refine (updPh_keeps ..).step (by decide) ?_
    exact Keeps.refl _ _
  refine (raise_keeps ..).step (by decide) ?_
  exact h2

theorem execMptLost_keeps (n : Phase) (s : State) {s₁ : State}
    (h : execMptLost n s = .next s₁) : Keeps (.mpt :: .qr :: .qrx :: eventParts) s s₁ := by
  unfold execMptLost at h
  refine run_keeps (by decide) (fun u hu => ?_) h
  try beta_reduce
  extract_lets -merge +onlyGivenNames x0
  refine Keeps.ite ?_ ?_
  · refine (afterState_keeps ..).step (by decide) ?_
    refine (enterLost_keeps ..).step (by decide) ?_
    exact hu
  · exact hu

theorem regainLock_keeps (n : Phase) (angle : Word) (s : State) :
    Keeps (.mpt :: .qrx :: eventParts) s (regainLock n angle s) := by
  unfold regainLock
  extract_lets -merge +onlyGivenNames x0 x1 x2
  extract_lets -merge +onlyGivenNames x3
  have h4 : Keeps (.mpt :: .qrx :: eventParts) s x3 := by
    unfold x3
    refine (enterLocked_keeps ..).step (by decide) ?_
    exact Keeps.refl _ _
  refine Keeps.ite ?_ ?_
  · refine (updPh_keeps ..).step (by decide) ?_
    exact h4
  · refine Keeps.ite ?_ ?_
    · extract_lets -merge +onlyGivenNames x5
      extract_lets -merge +onlyGivenNames x6
      have h7 : Keeps (.mpt :: .qrx :: eventParts) s x6 := by
        refine Keeps.mpt ?_ (by decide)
        exact h4
      refine (raisePending_keeps ..).step (by decide) ?_
      exact h7
    · refine (updPh_keeps ..).step (by decide) ?_
      exact h4

theorem execLockRegain_keeps (n : Phase) (angle : Word) (s : State) {s₁ : State}
    (h : execLockRegain n angle s = .next s₁) : Keeps (.mpt :: .qr :: .qrx :: eventParts) s s₁ := by
  unfold execLockRegain at h
  refine run_keeps (by decide) (fun u hu => ?_) h
  try beta_reduce
  extract_lets -merge +onlyGivenNames x0
  refine Keeps.ite ?_ ?_
  · refine (syncLeafRef_keeps ..).step (by decide) ?_
    refine (afterState_keeps ..).step (by decide) ?_
    refine (regainLock_keeps ..).step (by decide) ?_
    exact hu
  · exact hu

theorem execMptAcquiring_keeps (n : Phase) (s : State) {s₁ : State}
    (h : execMptAcquiring n s = .next s₁) : Keeps ([.mpt]) s s₁ := by
  unfold execMptAcquiring at h
  refine run_keeps (by decide) (fun u hu => ?_) h
  try beta_reduce
  extract_lets -merge +onlyGivenNames x0
  refine Keeps.ite ?_ ?_
  · refine (updPh_keeps ..).step (by decide) ?_
    exact hu
  · exact hu

theorem biasClear_keeps (s : State) :
    Keeps (.mpt :: .qrx :: eventParts) s (biasClear s) := by
  unfold biasClear
  refine Keeps.ite ?_ ?_
  · exact Keeps.refl _ _
  · refine (raisePending_keeps ..).step (by decide) ?_
    refine Keeps.mpt ?_ (by decide)
    exact Keeps.refl _ _

theorem disablePhase_keeps (n : Phase) (s : State) :
    Keeps (.mpt :: .qr :: .qrx :: eventParts) s (disablePhase n s) := by
  unfold disablePhase
  split
  · exact Keeps.refl _ _
  · refine (afterState_keeps ..).step (by decide) ?_
    refine (enterLost_keeps ..).step (by decide) ?_
    exact Keeps.refl _ _
  · refine (afterState_keeps ..).step (by decide) ?_
    refine (updPh_keeps ..).step (by decide) ?_
    exact Keeps.refl _ _

theorem refRewrite_keeps (s : State) :
    Keeps (.mpt :: .qrx :: eventParts) s (refRewrite s) := by
  unfold refRewrite
  extract_lets -merge +onlyGivenNames x0 x1 x2
  extract_lets -merge +onlyGivenNames x3
  have h4 : Keeps (.mpt :: .qrx :: eventParts) s x3 := by
    refine Keeps.ite ?_ ?_
    · refine Keeps.mpt ?_ (by decide)
      exact Keeps.refl _ _
    · exact Keeps.refl _ _
  extract_lets -merge +onlyGivenNames x5
  have h6 : Keeps (.mpt :: .qrx :: eventParts) s x5 := by
    unfold x5
    refine (rechooseRef_keeps ..).step (by decide) ?_
    exact h4
  extract_lets -merge +onlyGivenNames x7
  refine Keeps.ite ?_ ?_
  · exact h6
  · refine Keeps.ite ?_ ?_
    · split
      · exact h6
      · refine (raisePending_keeps ..).step (by decide) ?_
        refine Keeps.mpt ?_ (by decide)
        exact h6
    · split
      · refine (raisePending_keeps ..).step (by decide) ?_
        refine (updPh_keeps ..).step (by decide) ?_
        refine Keeps.mpt ?_ (by decide)
        exact h6
      · exact h6

theorem mptCtrlWrite_keeps (v : Word) (s : State) :
    Keeps (.mpt :: .qr :: .qrx :: eventParts) s (mptCtrlWrite v s) := by
  unfold mptCtrlWrite
  extract_lets -merge +onlyGivenNames x0 x1 x2
  extract_lets -merge +onlyGivenNames x3
  have h4 : Keeps (.mpt :: .qr :: .qrx :: eventParts) s x3 := by
    refine Keeps.mpt ?_ (by decide)
    exact Keeps.refl _ _
  extract_lets -merge +onlyGivenNames x5
  have h6 : ∀ u7, ∀ u8, Keeps (.mpt :: .qr :: .qrx :: eventParts) s u8 → Keeps (.mpt :: .qr :: .qrx :: eventParts) s (x5 u7 u8) := by
    intro u7 u8 hu9
    unfold x5
    try beta_reduce
    refine Keeps.ite ?_ ?_
    · refine (disablePhase_keeps ..).step (by decide) ?_
      exact hu9
    · exact hu9
  extract_lets -merge +onlyGivenNames x10
  have h11 : Keeps (.mpt :: .qr :: .qrx :: eventParts) s x10 := by
    unfold x10
    refine h6 _ _ ?_
    refine h6 _ _ ?_
    refine h6 _ _ ?_
    exact h4
  extract_lets -merge +onlyGivenNames x12
  have h13 : Keeps (.mpt :: .qr :: .qrx :: eventParts) s x12 := by
    refine Keeps.ite ?_ ?_
    · refine (refRewrite_keeps ..).step (by decide) ?_
      exact h11
    · exact h11
  extract_lets -merge +onlyGivenNames x14
  have h15 : Keeps (.mpt :: .qr :: .qrx :: eventParts) s x14 := by
    refine Keeps.ite ?_ ?_
    · refine (biasClear_keeps ..).step (by decide) ?_
      exact h13
    · exact h13
  refine (syncLeafRef_keeps ..).step (by decide) ?_
  exact h15

theorem execBiasClr_keeps (v : Word) (s : State) {s₁ : State}
    (h : execBiasClr v s = .next s₁) : Keeps (.mpt :: .qr :: .qrx :: .slp :: .pwr :: eventParts) s s₁ := by
  unfold execBiasClr at h
  refine runHost_keeps (by decide) (fun u hu => ?_) h
  refine (mptCtrlWrite_keeps ..).step (by decide) ?_
  exact hu

theorem execRefModeChange_keeps (v : Word) (s : State) {s₁ : State}
    (h : execRefModeChange v s = .next s₁) : Keeps (.mpt :: .qr :: .qrx :: .slp :: .pwr :: eventParts) s s₁ := by
  unfold execRefModeChange at h
  refine runHost_keeps (by decide) (fun u hu => ?_) h
  refine (mptCtrlWrite_keeps ..).step (by decide) ?_
  exact hu

theorem execPhaseDisable_keeps (v : Word) (s : State) {s₁ : State}
    (h : execPhaseDisable v s = .next s₁) : Keeps (.mpt :: .qr :: .qrx :: .slp :: .pwr :: eventParts) s s₁ := by
  unfold execPhaseDisable at h
  refine runHost_keeps (by decide) (fun u hu => ?_) h
  try beta_reduce
  refine (mptCtrlWrite_keeps ..).step (by decide) ?_
  exact hu

theorem mptLockWrite_keeps (v : Word) (s : State) :
    Keeps ([.mpt]) s (mptLockWrite v s) := by
  unfold mptLockWrite
  extract_lets -merge +onlyGivenNames x0 x1 x2 x3 x4
  refine Keeps.mpt ?_ (by decide)
  exact Keeps.refl _ _

theorem mptPrioWrite_keeps (v : Word) (s : State) :
    Keeps (.mpt :: .qrx :: eventParts) s (mptPrioWrite v s) := by
  unfold mptPrioWrite
  extract_lets -merge +onlyGivenNames x0 x1 x2
  refine Keeps.ite ?_ ?_
  · exact Keeps.refl _ _
  · extract_lets -merge +onlyGivenNames x3
    extract_lets -merge +onlyGivenNames x4
    have h5 : Keeps (.mpt :: .qrx :: eventParts) s x4 := by
      refine Keeps.mpt ?_ (by decide)
      exact Keeps.refl _ _
    refine Keeps.ite ?_ ?_
    · exact h5
    · refine (rechooseRef_keeps ..).step (by decide) ?_
      exact h5

theorem mptSnap_keeps (v : Word) (s : State) :
    Keeps ([.mpt]) s (mptSnap v s) := by
  unfold mptSnap
  refine Keeps.ite ?_ ?_
  · extract_lets -merge +onlyGivenNames x0
    refine Keeps.mpt ?_ (by decide)
    exact Keeps.refl _ _
  · exact Keeps.refl _ _

theorem execMptSnapCapture_keeps (v : Word) (s : State) {s₁ : State}
    (h : execMptSnapCapture v s = .next s₁) : Keeps ([.mpt, .slp, .pwr]) s s₁ := by
  unfold execMptSnapCapture at h
  refine runHost_keeps (by decide) (fun u hu => ?_) h
  refine (mptSnap_keeps ..).step (by decide) ?_
  exact hu

theorem leafRaw_keeps (port : Port) (raw : Word) (s : State) :
    Keeps (.mpt :: eventParts) s (leafRaw port raw s) := by
  unfold leafRaw
  extract_lets -merge +onlyGivenNames x0 x1 x2 x3 x4 x5 x6 x7
  split
  · extract_lets -merge +onlyGivenNames x8
    have h9 : Keeps (.mpt :: eventParts) s x8 := by
      refine Keeps.mpt ?_ (by decide)
      exact Keeps.refl _ _
    extract_lets -merge +onlyGivenNames x10
    have h11 : Keeps (.mpt :: eventParts) s x10 := by
      refine Keeps.ite ?_ ?_
      · refine (raise_keeps ..).step (by decide) ?_
        exact h9
      · exact h9
    refine (syncLeafRef_keeps ..).step (by decide) ?_
    exact h11

/-! ### Machine/LeafTable.lean -/

theorem putEntry_keeps (n : Nat) (e : Entry) (s : State) :
    Keeps ([.lt]) s (putEntry n e s) := by
  unfold putEntry
  refine Keeps.lt ?_ (by decide)
  exact Keeps.refl _ _

theorem updEntry_keeps (n : Nat) (f : Entry → Entry) (s : State) :
    Keeps ([.lt]) s (updEntry n f s) := by
  unfold updEntry
  refine (putEntry_keeps ..).step (by decide) ?_
  exact Keeps.refl _ _

theorem changeState_keeps (n st : Nat) (s : State) :
    Keeps (.lt :: eventParts) s (changeState n st s) := by
  unfold changeState
  extract_lets -merge +onlyGivenNames x0
  refine (raise_keeps ..).step (by decide) ?_
  refine (updEntry_keeps ..).step (by decide) ?_
  exact Keeps.refl _ _

/-! ### Machine/Keys.lean -/

theorem updSlot_keeps (i : Nat) (f : Slot → Slot) (s : State) :
    Keeps ([.cx]) s (updSlot i f s) := by
  unfold updSlot
  refine Keeps.cx ?_ (by decide)
  exact Keeps.refl _ _

theorem updUse_keeps (n : Nat) (f : KeyUse → KeyUse) (s : State) :
    Keeps ([.cx]) s (updUse n f s) := by
  unfold updUse
  refine Keeps.cx ?_ (by decide)
  exact Keeps.refl _ _

theorem setSlot_keeps (i : Nat) (k : Slot) (s : State) :
    Keeps ([.cx]) s (setSlot i k s) := by
  unfold setSlot
  refine (updSlot_keeps ..).step (by decide) ?_
  exact Keeps.refl _ _

theorem clearSlot_keeps (i : Nat) (s : State) :
    Keeps ([.cx]) s (clearSlot i s) := by
  unfold clearSlot
  refine (setSlot_keeps ..).step (by decide) ?_
  exact Keeps.refl _ _

theorem setCounts_keeps (i inv blk : Nat) (warn exh : Bool) (s : State) :
    Keeps ([.cx]) s (setCounts i inv blk warn exh s) := by
  unfold setCounts
  extract_lets -merge +onlyGivenNames x0
  refine Keeps.ite ?_ ?_
  · refine (updUse_keeps ..).step (by decide) ?_
    exact Keeps.refl _ _
  · refine (updSlot_keeps ..).step (by decide) ?_
    exact Keeps.refl _ _

theorem keyEvent_keeps (code i : Nat) (which count : Nat) (s : State) :
    Keeps (eventParts) s (keyEvent code i which count s) := by
  unfold keyEvent
  extract_lets -merge +onlyGivenNames x0
  refine (raise_keeps ..).step (by decide) ?_
  exact Keeps.refl _ _

theorem admitJob_keeps (i blocks : Nat) (s : State) :
    Keeps (.cx :: eventParts) s (admitJob i blocks s).2 := by
  unfold admitJob
  extract_lets -merge +onlyGivenNames x0
  split
  · split
    · refine Keeps.ite2 ?_ ?_
      · try with_reducible refine Keeps.mk ?_
        exact Keeps.refl _ _
      · refine Keeps.ite2 ?_ ?_
        · extract_lets -merge +onlyGivenNames x1
          extract_lets -merge +onlyGivenNames x2
          have h3 : Keeps (.cx :: eventParts) s x2 := by
            unfold x2
            refine (setCounts_keeps ..).step (by decide) ?_
            exact Keeps.refl _ _
          try with_reducible refine Keeps.mk ?_
          refine (keyEvent_keeps ..).step (by decide) ?_
          exact h3
        · extract_lets -merge +onlyGivenNames x4 x5
          extract_lets -merge +onlyGivenNames x6
          have h7 : Keeps (.cx :: eventParts) s x6 := by
            unfold x6
            refine (setCounts_keeps ..).step (by decide) ?_
            exact Keeps.refl _ _
          extract_lets -merge +onlyGivenNames x8
          have h9 : Keeps (.cx :: eventParts) s x8 := by
            unfold x8
            refine (issue_keeps ..).step (by decide) ?_
            exact h7
          extract_lets -merge +onlyGivenNames x10
          extract_lets -merge +onlyGivenNames x11
          have h12 : Keeps (.cx :: eventParts) s x11 := by
            refine Keeps.cx ?_ (by decide)
            exact h9
          extract_lets -merge +onlyGivenNames x13
          have h14 : Keeps (.cx :: eventParts) s x13 := by
            unfold x13
            refine (updSlot_keeps ..).step (by decide) ?_
            exact h12
          refine Keeps.ite2 ?_ ?_
          · try with_reducible refine Keeps.mk ?_
            refine (keyEvent_keeps ..).step (by decide) ?_
            exact h14
          · try with_reducible refine Keeps.mk ?_
            exact h14

theorem jobDone_keeps (i : Nat) (s : State) :
    Keeps ([.cx, .lg]) s (jobDone i s) := by
  unfold jobDone
  extract_lets -merge +onlyGivenNames x0
  have h1 : Keeps ([.cx, .lg]) s x0 := by
    unfold x0
    refine (giveBack_keeps ..).step (by decide) ?_
    exact Keeps.refl _ _
  refine (updSlot_keeps ..).step (by decide) ?_
  exact h1

/-! ### Machine/Phy.lean -/

theorem rbmSet_keeps (fc bc dc : Word) (off : Nat) (v : Word) (s : State) :
    Keeps (.rbm :: eventParts) s (rbmSet fc bc dc off v s) := by
  unfold rbmSet
  refine Keeps.ite ?_ ?_
  · refine Keeps.rbm ?_ (by decide)
    exact Keeps.refl _ _
  · extract_lets -merge +onlyGivenNames x0
    extract_lets -merge +onlyGivenNames x1
    have h2 : Keeps (.rbm :: eventParts) s x1 := by
      refine Keeps.rbm ?_ (by decide)
      exact Keeps.refl _ _
    refine (raise_keeps ..).step (by decide) ?_
    exact h2

theorem rbmFcWrite_keeps (v : Word) (s : State) :
    Keeps (.rbm :: eventParts) s (rbmFcWrite v s) := by
  unfold rbmFcWrite
  refine (rbmSet_keeps ..).step (by decide) ?_
  exact Keeps.refl _ _

theorem rbmBcfgWrite_keeps (v : Word) (s : State) :
    Keeps (.rbm :: eventParts) s (rbmBcfgWrite v s) := by
  unfold rbmBcfgWrite
  refine (rbmSet_keeps ..).step (by decide) ?_
  exact Keeps.refl _ _

theorem rbmDcfgWrite_keeps (v : Word) (s : State) :
    Keeps (.rbm :: eventParts) s (rbmDcfgWrite v s) := by
  unfold rbmDcfgWrite
  refine (rbmSet_keeps ..).step (by decide) ?_
  exact Keeps.refl _ _

theorem rbmCtrlWrite_keeps (v : Word) (s : State) :
    Keeps ([.rbm]) s (rbmCtrlWrite v s) := by
  unfold rbmCtrlWrite
  refine Keeps.rbm ?_ (by decide)
  exact Keeps.refl _ _

theorem rbmStatusWrite_keeps (v : Word) (s : State) :
    Keeps ([.rbm]) s (rbmStatusWrite v s) := by
  unfold rbmStatusWrite
  refine Keeps.rbm ?_ (by decide)
  exact Keeps.refl _ _

theorem rbmRecheck_keeps (s : State) :
    Keeps (.rbm :: eventParts) s (rbmRecheck s) := by
  unfold rbmRecheck
  extract_lets -merge +onlyGivenNames x0 x1
  refine Keeps.ite ?_ ?_
  · exact Keeps.refl _ _
  · refine (raise_keeps ..).step (by decide) ?_
    refine Keeps.rbm ?_ (by decide)
    exact Keeps.refl _ _

theorem ofdRefuse_keeps (slot cause : Nat) (s : State) :
    Keeps (.ofd :: eventParts) s (ofdRefuse slot cause s) := by
  unfold ofdRefuse
  extract_lets -merge +onlyGivenNames x0
  extract_lets -merge +onlyGivenNames x1
  have h2 : Keeps (.ofd :: eventParts) s x1 := by
    refine Keeps.ofd ?_ (by decide)
    exact Keeps.refl _ _
  refine (raise_keeps ..).step (by decide) ?_
  exact h2

theorem tmAdvance_keeps (s : State) :
    Keeps ([.ofd]) s (tmAdvance s) := by
  unfold tmAdvance
  refine Keeps.ofd ?_ (by decide)
  exact Keeps.refl _ _

theorem tmDataWrite_keeps (v : Word) (s : State) :
    Keeps (.ofd :: eventParts) s (tmDataWrite v s) := by
  unfold tmDataWrite
  extract_lets -merge +onlyGivenNames x0 x1 x2
  extract_lets -merge +onlyGivenNames x3
  have h4 : Keeps (.ofd :: eventParts) s x3 := by
    refine Keeps.ite ?_ ?_
    · refine (ofdRefuse_keeps ..).step (by decide) ?_
      exact Keeps.refl _ _
    · refine Keeps.ite ?_ ?_
      · refine (ofdRefuse_keeps ..).step (by decide) ?_
        exact Keeps.refl _ _
      · refine Keeps.ite ?_ ?_
        · exact Keeps.refl _ _
        · refine Keeps.ofd ?_ (by decide)
          exact Keeps.refl _ _
  refine (tmAdvance_keeps ..).step (by decide) ?_
  exact h4

theorem tmValidWrite_keeps (v : Word) (s : State) :
    Keeps (.ofd :: eventParts) s (tmValidWrite v s) := by
  unfold tmValidWrite
  extract_lets -merge +onlyGivenNames x0 x1
  clear_value  x1
  split
  · refine (ofdRefuse_keeps ..).step (by decide) ?_
    exact Keeps.refl _ _
  · refine Keeps.ofd ?_ (by decide)
    exact Keeps.refl _ _

theorem slotsRecheck_keeps (s : State) :
    Keeps (.ofd :: eventParts) s (slotsRecheck s) := by
  unfold slotsRecheck
  refine Keeps.foldl ?_ (fun u0 _ hu1 => ?_)
  · exact Keeps.refl _ _
  · try beta_reduce
    refine Keeps.ite ?_ ?_
    · refine (raise_keeps ..).step (by decide) ?_
      refine Keeps.ofd ?_ (by decide)
      exact hu1
    · exact hu1

theorem ofdCtrlWrite_keeps (v : Word) (s : State) :
    Keeps ([.ofd]) s (ofdCtrlWrite v s) := by
  unfold ofdCtrlWrite
  refine Keeps.ofd ?_ (by decide)
  exact Keeps.refl _ _

theorem ofdStatusWrite_keeps (v : Word) (s : State) :
    Keeps ([.ofd]) s (ofdStatusWrite v s) := by
  unfold ofdStatusWrite
  refine Keeps.ofd ?_ (by decide)
  exact Keeps.refl _ _

theorem ofdAddrWrite_keeps (v : Word) (s : State) :
    Keeps ([.ofd]) s (ofdAddrWrite v s) := by
  unfold ofdAddrWrite
  refine Keeps.ofd ?_ (by decide)
  exact Keeps.refl _ _

theorem ofdBcastWrite_keeps (v : Word) (s : State) :
    Keeps ([.ofd]) s (ofdBcastWrite v s) := by
  unfold ofdBcastWrite
  refine Keeps.ofd ?_ (by decide)
  exact Keeps.refl _ _

theorem latchSlot_keeps (m : Mode) (leaf : Nat) (s : State) :
    Keeps (.ofd :: eventParts) s (latchSlot m leaf s).2 := by
  unfold latchSlot
  split
  · refine Keeps.ite2 ?_ ?_
    · try with_reducible refine Keeps.mk ?_
      exact Keeps.refl _ _
    · extract_lets -merge +onlyGivenNames x0
      extract_lets -merge +onlyGivenNames x1
      have h2 : Keeps (.ofd :: eventParts) s x1 := by
        refine Keeps.ite ?_ ?_
        · exact Keeps.refl _ _
        · refine (raise_keeps ..).step (by decide) ?_
          refine Keeps.ofd ?_ (by decide)
          exact Keeps.refl _ _
      try with_reducible refine Keeps.mk ?_
      exact h2
  · try with_reducible refine Keeps.mk ?_
    exact Keeps.refl _ _

/-! ### Machine/Frames.lean -/

theorem unwrapFailed_keeps (n reason : Nat) (s : State) :
    Keeps (.cx :: eventParts) s (unwrapFailed n reason s) := by
  unfold unwrapFailed
  extract_lets -merge +onlyGivenNames x0
  extract_lets -merge +onlyGivenNames x1
  have h2 : Keeps (.cx :: eventParts) s x1 := by
    refine Keeps.cx ?_ (by decide)
    exact Keeps.refl _ _
  refine Keeps.ite ?_ ?_
  · exact h2
  · refine (raise_keeps ..).step (by decide) ?_
    refine Keeps.cx ?_ (by decide)
    exact h2

theorem unwrapInto_keeps (n i : Nat) (kdk : BitVec 256) (s : State) :
    Keeps ([.cx]) s (unwrapInto n i kdk s) := by
  unfold unwrapInto
  extract_lets -merge +onlyGivenNames x0
  refine (setSlot_keeps ..).step (by decide) ?_
  exact Keeps.refl _ _

theorem leafKey_keeps (n : Nat) (s : State) :
    Keeps (.cx :: eventParts) s (leafKey n s).2 := by
  unfold leafKey
  split
  · try with_reducible refine Keeps.mk ?_
    exact Keeps.refl _ _
  · split
    · try with_reducible refine Keeps.mk ?_
      exact Keeps.refl _ _
    · split
      · try with_reducible refine Keeps.mk ?_
        refine (unwrapFailed_keeps ..).step (by decide) ?_
        exact Keeps.refl _ _
      · split
        · try with_reducible refine Keeps.mk ?_
          exact Keeps.refl _ _
        · try with_reducible refine Keeps.mk ?_
          refine (unwrapInto_keeps ..).step (by decide) ?_
          exact Keeps.refl _ _

theorem classKey_keeps (cls n : Nat) (s : State) : Keeps (.cx :: eventParts) s (classKey cls n s).2 := by
  unfold classKey
  extract_lets -merge +onlyGivenNames opt
  have ho : ∀ o, (opt o).2 = s := by
    intro o
    cases o <;> rfl
  have hp : ∀ p : KeyFind × State, Keeps (.cx :: eventParts) s p.2 →
      Keeps (.cx :: eventParts) s (match p with
        | (.slot i, s) => if (slotAt s i).unload.isSome then ((.empty, s) : KeyFind × State) else (.slot i, s)
        | r => r).2 := by
    intro p h
    split
    · split <;> exact h
    · exact h
  refine hp _ ?_
  split
  · rw [ho]; exact Keeps.refl _ _
  · rw [ho]; exact Keeps.refl _ _
  · split
    · rw [ho]; exact Keeps.refl _ _
    · exact (leafKey_keeps ..).step (by decide) (Keeps.refl _ _)

theorem nextInv_keeps (i : Nat) (s : State) :
    Keeps ([.cx]) s (nextInv i s).2 := by
  unfold nextInv
  extract_lets -merge +onlyGivenNames x0
  refine Keeps.ite2 ?_ ?_
  · extract_lets -merge +onlyGivenNames x1
    try with_reducible refine Keeps.mk ?_
    refine (updUse_keeps ..).step (by decide) ?_
    exact Keeps.refl _ _
  · refine Keeps.ite2 ?_ ?_
    · try with_reducible refine Keeps.mk ?_
      refine (updSlot_keeps ..).step (by decide) ?_
      exact Keeps.refl _ _
    · try with_reducible refine Keeps.mk ?_
      refine (updSlot_keeps ..).step (by decide) ?_
      exact Keeps.refl _ _

theorem sealFrame_keeps (h : Hdr) (rt : Option Route) (n : Nat) (body : List Byte) (s : State) :
    Keeps (.cx :: eventParts) s (sealFrame h rt n body s).2.2 := by
  unfold sealFrame
  extract_lets -merge +onlyGivenNames x0
  split
  · rename_i v1 e3
    have hv2 : Keeps (.cx :: eventParts) s v1 := by
      refine Keeps.snd e3 ?_
      refine (classKey_keeps ..).step (by decide) ?_
      exact Keeps.refl _ _
    clear e3
    try with_reducible refine Keeps.mk2 ?_
    try with_reducible refine Keeps.mk ?_
    exact hv2
  · rename_i v4 e6
    have hv5 : Keeps (.cx :: eventParts) s v4 := by
      refine Keeps.snd e6 ?_
      refine (classKey_keeps ..).step (by decide) ?_
      exact Keeps.refl _ _
    clear e6
    try with_reducible refine Keeps.mk2 ?_
    try with_reducible refine Keeps.mk ?_
    exact hv5
  · rename_i v7 v8 e10
    have hv9 : Keeps (.cx :: eventParts) s v8 := by
      refine Keeps.snd e10 ?_
      refine (classKey_keeps ..).step (by decide) ?_
      exact Keeps.refl _ _
    clear e10
    refine Keeps.ite3 ?_ ?_
    · try with_reducible refine Keeps.mk2 ?_
      try with_reducible refine Keeps.mk ?_
      exact hv9
    · refine Keeps.ite3 ?_ ?_
      · split
        · refine Keeps.ite3 ?_ ?_
          · try with_reducible refine Keeps.mk2 ?_
            try with_reducible refine Keeps.mk ?_
            exact hv9
          · try with_reducible refine Keeps.mk2 ?_
            try with_reducible refine Keeps.mk ?_
            refine (keyEvent_keeps ..).step (by decide) ?_
            refine (setCounts_keeps ..).step (by decide) ?_
            exact hv9
      · split
        rename_i v11 v12 e14
        have hv13 : Keeps (.cx :: eventParts) s v12 := by
          refine Keeps.snd e14 ?_
          refine (admitJob_keeps ..).step (by decide) ?_
          exact hv9
        clear e14
        refine Keeps.ite3 ?_ ?_
        · extract_lets -merge +onlyGivenNames x15
          split
          rename_i v16 v17 e19
          have hv18 : Keeps (.cx :: eventParts) s v17 := by
            refine Keeps.snd e19 ?_
            refine (nextInv_keeps ..).step (by decide) ?_
            exact hv13
          clear e19
          extract_lets -merge +onlyGivenNames x20
          try with_reducible refine Keeps.mk2 ?_
          try with_reducible refine Keeps.mk ?_
          refine (jobDone_keeps ..).step (by decide) ?_
          exact hv18
        · try with_reducible refine Keeps.mk2 ?_
          try with_reducible refine Keeps.mk ?_
          exact hv13

/-! ### Machine/Queue.lean -/

theorem updPort_keeps (p : Nat) (f : PortS → PortS) (s : State) :
    Keeps ([.afe]) s (updPort p f s) := by
  unfold updPort
  refine Keeps.afe ?_ (by decide)
  exact Keeps.refl _ _

theorem updPortX_keeps (p : Nat) (f : PortX → PortX) (s : State) :
    Keeps ([.afe]) s (updPortX p f s) := by
  unfold updPortX
  refine Keeps.afe ?_ (by decide)
  exact Keeps.refl _ _

theorem submit_keeps (f : TxFrame) (s : State) :
    Keeps ([.line]) s (submit f s) := by
  unfold submit
  refine Keeps.line ?_ (by decide)
  exact Keeps.refl _ _

theorem updFrame_keeps (id : Nat) (g : TxFrame → TxFrame) (s : State) :
    Keeps ([.line]) s (updFrame id g s) := by
  unfold updFrame
  refine Keeps.line ?_ (by decide)
  exact Keeps.refl _ _

theorem dropFrame_keeps (id : Nat) (s : State) :
    Keeps ([.line]) s (dropFrame id s) := by
  unfold dropFrame
  refine Keeps.line ?_ (by decide)
  exact Keeps.refl _ _

theorem takeBuf_keeps (express : Bool) (s : State) :
    Keeps ([.hi, .lg]) s (takeBuf express s) := by
  unfold takeBuf
  refine (issue_keeps ..).step (by decide) ?_
  refine Keeps.hi ?_ (by decide)
  exact Keeps.refl _ _

theorem giveBuf_keeps (express : Bool) (s : State) :
    Keeps ([.hi, .lg]) s (giveBuf express s) := by
  unfold giveBuf
  refine (giveBack_keeps ..).step (by decide) ?_
  refine Keeps.hi ?_ (by decide)
  exact Keeps.refl _ _

theorem updBand_keeps (b : Nat) (f : AirBand → AirBand) (s : State) :
    Keeps ([.air]) s (updBand b f s) := by
  unfold updBand
  refine Keeps.air ?_ (by decide)
  exact Keeps.refl _ _

theorem takeBands_keeps (beacon : Bool) (cost : Vector Nat 4) (s : State) :
    Keeps ([.air, .lg]) s (takeBands beacon cost s) := by
  unfold takeBands
  refine Keeps.foldl ?_ (fun u0 _ hu1 => ?_)
  · exact Keeps.refl _ _
  · try beta_reduce
    extract_lets -merge +onlyGivenNames x2
    refine Keeps.ite ?_ ?_
    · exact hu1
    · extract_lets -merge +onlyGivenNames x3
      have h4 : Keeps ([.air, .lg]) s x3 := by
        unfold x3
        refine (updBand_keeps ..).step (by decide) ?_
        exact hu1
      refine (issue_keeps ..).step (by decide) ?_
      exact h4

theorem returnCost_keeps (cost : Vector Nat 4) (s : State) :
    Keeps ([.lg]) s (returnCost cost s) := by
  unfold returnCost
  refine Keeps.foldl ?_ (fun u0 _ hu1 => ?_)
  · exact Keeps.refl _ _
  · try beta_reduce
    refine Keeps.ite ?_ ?_
    · exact hu1
    · refine (giveBack_keeps ..).step (by decide) ?_
      exact hu1

theorem cancelCost_keeps (cost : Vector Nat 4) (s : State) :
    Keeps ([.air, .lg]) s (cancelCost cost s) := by
  unfold cancelCost
  refine Keeps.foldl ?_ (fun u0 _ hu1 => ?_)
  · exact Keeps.refl _ _
  · try beta_reduce
    extract_lets -merge +onlyGivenNames x2
    refine Keeps.ite ?_ ?_
    · exact hu1
    · refine (giveBack_keeps ..).step (by decide) ?_
      refine (updBand_keeps ..).step (by decide) ?_
      exact hu1

theorem airSettle_keeps (s : State) :
    Keeps (.air :: eventParts) s (airSettle s) := by
  unfold airSettle
  refine Keeps.foldl ?_ (fun u0 _ hu1 => ?_)
  · exact Keeps.refl _ _
  · try beta_reduce
    refine Keeps.ite ?_ ?_
    · extract_lets -merge +onlyGivenNames x2 x3
      extract_lets -merge +onlyGivenNames x4
      have h5 : Keeps (.air :: eventParts) s x4 := by
        refine Keeps.air ?_ (by decide)
        exact hu1
      extract_lets -merge +onlyGivenNames x6
      have h7 : Keeps (.air :: eventParts) s x6 := by
        unfold x6
        refine (updBand_keeps ..).step (by decide) ?_
        exact h5
      refine (raise_keeps ..).step (by decide) ?_
      exact h7
    · exact hu1

theorem holdFrame_keeps (id : Nat) (mode : Mode) (ports : BitVec 3) (s : State) :
    Keeps (.air :: .line :: eventParts) s (holdFrame id mode ports s) := by
  unfold holdFrame
  extract_lets -merge +onlyGivenNames x0
  have h1 : Keeps (.air :: .line :: eventParts) s x0 := by
    unfold x0
    refine (updFrame_keeps ..).step (by decide) ?_
    exact Keeps.refl _ _
  extract_lets -merge +onlyGivenNames x2
  refine Keeps.foldl ?_ (fun u3 _ hu4 => ?_)
  · exact h1
  · try beta_reduce
    refine Keeps.ite ?_ ?_
    · exact hu4
    · extract_lets -merge +onlyGivenNames x5
      extract_lets -merge +onlyGivenNames x6
      have h7 : Keeps (.air :: .line :: eventParts) s x6 := by
        refine Keeps.air ?_ (by decide)
        exact hu4
      extract_lets -merge +onlyGivenNames x8
      have h9 : Keeps (.air :: .line :: eventParts) s x8 := by
        unfold x8
        refine (updBand_keeps ..).step (by decide) ?_
        exact h7
      refine (raise_keeps ..).step (by decide) ?_
      exact h9

theorem useCredit_keeps (n : Nat) (s : State) :
    Keeps ([.ltx]) s (useCredit n s) := by
  unfold useCredit
  refine Keeps.ltx ?_ (by decide)
  exact Keeps.refl _ _

theorem creditReset_keeps (s : State) :
    Keeps ([.ltx, .lg]) s (creditReset s) := by
  unfold creditReset
  extract_lets -merge +onlyGivenNames x0
  have h1 : Keeps ([.ltx, .lg]) s x0 := by
    unfold x0
    refine Keeps.foldl ?_ (fun u2 _ hu3 => ?_)
    · exact Keeps.refl _ _
    · try beta_reduce
      refine (giveBack_keeps ..).step (by decide) ?_
      exact hu3
  extract_lets -merge +onlyGivenNames x4 x5 x6 x7 x8 x9 x10
  extract_lets -merge +onlyGivenNames x11
  have h12 : Keeps ([.ltx, .lg]) s x11 := by
    refine Keeps.ltx ?_ (by decide)
    exact h1
  refine Keeps.foldl ?_ (fun u13 _ hu14 => ?_)
  · exact h12
  · try beta_reduce
    extract_lets -merge +onlyGivenNames x15 x16
    extract_lets -merge +onlyGivenNames x17
    have h18 : Keeps ([.ltx, .lg]) s x17 := by
      refine Keeps.ltx ?_ (by decide)
      exact hu14
    refine (issue_keeps ..).step (by decide) ?_
    exact h18

theorem grantFrom_keeps (n c : Nat) (s : State) :
    Keeps ([.ltx]) s (grantFrom n c s) := by
  unfold grantFrom
  refine Keeps.ltx ?_ (by decide)
  exact Keeps.refl _ _

theorem grantNow_keeps (s : State) :
    Keeps ([.ltx]) s (grantNow s).2 := by
  unfold grantNow
  refine Keeps.ite2 ?_ ?_
  · extract_lets -merge +onlyGivenNames x0
    try with_reducible refine Keeps.mk ?_
    refine Keeps.ltx ?_ (by decide)
    exact Keeps.refl _ _
  · try with_reducible refine Keeps.mk ?_
    exact Keeps.refl _ _

theorem fencesSettle_keeps (s : State) :
    Keeps ([.ltx, .hi]) s (fencesSettle s) := by
  unfold fencesSettle
  extract_lets -merge +onlyGivenNames x0 x1
  extract_lets -merge +onlyGivenNames x2
  have h3 : Keeps ([.ltx, .hi]) s x2 := by
    refine Keeps.ltx ?_ (by decide)
    exact Keeps.refl _ _
  refine Keeps.foldl ?_ (fun u4 _ hu5 => ?_)
  · exact h3
  · try beta_reduce
    refine Keeps.ite ?_ ?_
    · refine (finish_keeps ..).step (by decide) ?_
      exact hu5
    · refine (finish_keeps ..).step (by decide) ?_
      exact hu5

theorem fenceDrop_keeps (id : Nat) (failed : Bool) (s : State) :
    Keeps ([.ltx, .hi]) s (fenceDrop id failed s) := by
  unfold fenceDrop
  refine (fencesSettle_keeps ..).step (by decide) ?_
  refine Keeps.ltx ?_ (by decide)
  exact Keeps.refl _ _

theorem postedFailed_keeps (f : TxFrame) (cause : Nat) (s : State) :
    Keeps (.lt :: .ltx :: .hi :: eventParts) s (postedFailed f cause s) := by
  unfold postedFailed
  extract_lets -merge +onlyGivenNames x0
  extract_lets -merge +onlyGivenNames x1
  have h2 : Keeps (.lt :: .ltx :: .hi :: eventParts) s x1 := by
    refine Keeps.ite ?_ ?_
    · exact Keeps.refl _ _
    · refine (updEntry_keeps ..).step (by decide) ?_
      exact Keeps.refl _ _
  extract_lets -merge +onlyGivenNames x3
  have h4 : Keeps (.lt :: .ltx :: .hi :: eventParts) s x3 := by
    unfold x3
    refine (raiseFor_keeps ..).step (by decide) ?_
    exact h2
  refine (fenceDrop_keeps ..).step (by decide) ?_
  exact h4

theorem endFrame_keeps (f : TxFrame) (s : State) :
    Keeps (.air :: .line :: .hi :: eventParts) s (endFrame f s) := by
  unfold endFrame
  extract_lets -merge +onlyGivenNames x0
  have h1 : Keeps (.air :: .line :: .hi :: eventParts) s x0 := by
    unfold x0
    refine (dropFrame_keeps ..).step (by decide) ?_
    exact Keeps.refl _ _
  extract_lets -merge +onlyGivenNames x2
  have h3 : Keeps (.air :: .line :: .hi :: eventParts) s x2 := by
    refine Keeps.ite ?_ ?_
    · refine (giveBuf_keeps ..).step (by decide) ?_
      exact h1
    · exact h1
  refine (airSettle_keeps ..).step (by decide) ?_
  exact h3

theorem uncommit_keeps (f : TxFrame) (s : State) :
    Keeps ([.air, .line, .lg]) s (uncommit f s) := by
  unfold uncommit
  refine Keeps.ite ?_ ?_
  · extract_lets -merge +onlyGivenNames x0
    have h1 : Keeps ([.air, .line, .lg]) s x0 := by
      unfold x0
      refine (cancelCost_keeps ..).step (by decide) ?_
      exact Keeps.refl _ _
    extract_lets -merge +onlyGivenNames x2
    have h3 : Keeps ([.air, .line, .lg]) s x2 := by
      refine Keeps.ite ?_ ?_
      · refine (giveBack_keeps ..).step (by decide) ?_
        exact h1
      · exact h1
    refine (updFrame_keeps ..).step (by decide) ?_
    exact h3
  · exact Keeps.refl _ _

theorem refusePosted_keeps (f : TxFrame) (s : State) :
    Keeps (.air :: .line :: .lt :: .ltx :: .hi :: eventParts) s (refusePosted f s) := by
  unfold refusePosted
  refine (endFrame_keeps ..).step (by decide) ?_
  refine (finishOpt_keeps ..).step (by decide) ?_
  refine (postedFailed_keeps ..).step (by decide) ?_
  exact Keeps.refl _ _

theorem pfailSweep_keeps (n : Nat) (s : State) :
    Keeps (.air :: .line :: .lt :: .ltx :: .hi :: eventParts) s (pfailSweep n s) := by
  unfold pfailSweep
  refine Keeps.ite ?_ ?_
  · refine Keeps.foldl ?_ (fun u0 _ hu1 => ?_)
    · exact Keeps.refl _ _
    · try beta_reduce
      refine (refusePosted_keeps ..).step (by decide) ?_
      exact hu1
  · exact Keeps.refl _ _

theorem failFrame_keeps (f : TxFrame) (res : Result) (cause : Nat) (s : State) :
    Keeps (.air :: .line :: .lt :: .ltx :: .hi :: eventParts) s (failFrame f res cause s) := by
  unfold failFrame
  extract_lets -merge +onlyGivenNames x0
  have h1 : Keeps (.air :: .line :: .lt :: .ltx :: .hi :: eventParts) s x0 := by
    unfold x0
    refine (uncommit_keeps ..).step (by decide) ?_
    exact Keeps.refl _ _
  refine Keeps.ite ?_ ?_
  · refine (pfailSweep_keeps ..).step (by decide) ?_
    refine (endFrame_keeps ..).step (by decide) ?_
    refine (postedFailed_keeps ..).step (by decide) ?_
    exact h1
  · refine (endFrame_keeps ..).step (by decide) ?_
    refine (finishOpt_keeps ..).step (by decide) ?_
    refine Keeps.ite ?_ ?_
    · refine (fenceDrop_keeps ..).step (by decide) ?_
      exact h1
    · exact h1

theorem episodeFailed_keeps (f : TxFrame) (s : State) :
    Keeps (.slph :: eventParts) s (episodeFailed f s) := by
  unfold episodeFailed
  split
  · refine (raise_keeps ..).step (by decide) ?_
    refine Keeps.slph ?_ (by decide)
    exact Keeps.refl _ _
  · exact Keeps.refl _ _

theorem giveUp_keeps (f : TxFrame) (s : State) :
    Keeps (.air :: .line :: .lt :: .ltx :: .slph :: .hi :: eventParts) s (giveUp f s) := by
  unfold giveUp
  split
  · refine (episodeFailed_keeps ..).step (by decide) ?_
    refine (failFrame_keeps ..).step (by decide) ?_
    exact Keeps.refl _ _

theorem expire_keeps (f : TxFrame) (s : State) :
    Keeps (.air :: .line :: .lt :: .ltx :: .hi :: eventParts) s (expire f s) := by
  unfold expire
  refine (failFrame_keeps ..).step (by decide) ?_
  exact Keeps.refl _ _

theorem sweepLeaf_keeps (n : Nat) (s : State) :
    Keeps (.air :: .line :: .lt :: .ltx :: .hi :: eventParts) s (sweepLeaf n s) := by
  unfold sweepLeaf
  extract_lets -merge +onlyGivenNames x0
  refine Keeps.ite ?_ ?_
  · refine Keeps.foldl ?_ (fun u1 _ hu2 => ?_)
    · exact Keeps.refl _ _
    · try beta_reduce
      refine Keeps.ite ?_ ?_
      · refine (failFrame_keeps ..).step (by decide) ?_
        exact hu2
      · refine Keeps.ite ?_ ?_
        · refine (failFrame_keeps ..).step (by decide) ?_
          exact hu2
        · exact hu2
  · exact Keeps.refl _ _

theorem cwSet_keeps (dst : BitVec 12) (n : Nat) (s : State) :
    Keeps ([.line]) s (cwSet dst n s) := by
  unfold cwSet
  refine Keeps.line ?_ (by decide)
  exact Keeps.refl _ _

theorem contend_keeps (id : Nat) (s : State) :
    Keeps ([.line, .freeCtr]) s (contend id s) := by
  unfold contend
  split
  · exact Keeps.refl _ _
  · split
    rename_i v0 v1 e3
    have hv2 : Keeps ([.line, .freeCtr]) s v1 := by
      refine Keeps.snd e3 ?_
      refine (draw_keeps ..).step (by decide) ?_
      exact Keeps.refl _ _
    clear e3
    refine (updFrame_keeps ..).step (by decide) ?_
    exact hv2

theorem requeue_keeps (id : Nat) (s : State) :
    Keeps ([.line]) s (requeue id s) := by
  unfold requeue
  split
  · exact Keeps.refl _ _
  · extract_lets -merge +onlyGivenNames x0
    have h1 : Keeps ([.line]) s x0 := by
      refine Keeps.ite ?_ ?_
      · refine (cwSet_keeps ..).step (by decide) ?_
        exact Keeps.refl _ _
      · exact Keeps.refl _ _
    refine (updFrame_keeps ..).step (by decide) ?_
    exact h1

/-! ### Machine/LeafOps.lean -/

theorem dropKeyLedger_keeps (inst : Nat) (s : State) : Keeps ([.lg]) s (dropKeyLedger inst s) :=
  Keeps.lg (Keeps.refl _ _) (by decide) (fun h => lgUpd_ok
    (f := fun l => if l.held = 0 then Ledger.zero else { l with retiring := true })
    (fun _ hx => by split; exacts [Ledger.zero_balanced, hx]) h)

theorem retireSlot_keeps (i : Nat) (s : State) :
    Keeps ([.cx, .lg]) s (retireSlot i s) := by
  unfold retireSlot
  refine Keeps.ite ?_ ?_
  · refine (clearSlot_keeps ..).step (by decide) ?_
    refine (dropKeyLedger_keeps ..).step (by decide) ?_
    exact Keeps.refl _ _
  · refine (dropKeyLedger_keeps ..).step (by decide) ?_
    refine (updSlot_keeps ..).step (by decide) ?_
    exact Keeps.refl _ _

theorem clearCached_keeps (n : Nat) (s : State) :
    Keeps ([.cx]) s (clearCached n s) := by
  unfold clearCached
  refine Keeps.foldl ?_ (fun u0 _ hu1 => ?_)
  · exact Keeps.refl _ _
  · try beta_reduce
    refine (clearSlot_keeps ..).step (by decide) ?_
    exact hu1

theorem clearUse_keeps (n : Nat) (size : Bool) (s : State) :
    Keeps ([.cx, .lg]) s (clearUse n size s) := by
  unfold clearUse
  refine (updUse_keeps ..).step (by decide) ?_
  refine (dropKeyLedger_keeps ..).step (by decide) ?_
  exact Keeps.refl _ _

theorem placeKey_keeps (n : Nat) (kdk : BitVec 256) (s : State) :
    Keeps ([.lt, .cx, .lg, .freeCtr]) s (placeKey n kdk s) := by
  unfold placeKey
  extract_lets -merge +onlyGivenNames x0
  split
  rename_i v1 v2 e4
  have hv3 : Keeps ([.lt, .cx, .lg, .freeCtr]) s v2 := by
    refine Keeps.snd e4 ?_
    refine (draw_keeps ..).step (by decide) ?_
    exact Keeps.refl _ _
  clear e4
  split
  rename_i v5 v6 e8
  have hv7 : Keeps ([.lt, .cx, .lg, .freeCtr]) s v6 := by
    refine Keeps.snd e8 ?_
    refine (draw_keeps ..).step (by decide) ?_
    exact hv3
  clear e8
  split
  rename_i v9 v10 e12
  have hv11 : Keeps ([.lt, .cx, .lg, .freeCtr]) s v10 := by
    refine Keeps.snd e12 ?_
    refine (draw_keeps ..).step (by decide) ?_
    exact hv7
  clear e12
  extract_lets -merge +onlyGivenNames x13 x14 x15
  extract_lets -merge +onlyGivenNames x16
  have h17 : Keeps ([.lt, .cx, .lg, .freeCtr]) s x16 := by
    unfold x16
    refine (clearUse_keeps ..).step (by decide) ?_
    refine (clearCached_keeps ..).step (by decide) ?_
    exact hv11
  refine (updEntry_keeps ..).step (by decide) ?_
  exact h17

theorem sendJoinResp_keeps (uid n result : Nat) (s : State) :
    Keeps ([.line]) s (sendJoinResp uid n result s) := by
  unfold sendJoinResp
  refine (submit_keeps ..).step (by decide) ?_
  exact Keeps.refl _ _

theorem failPosted_keeps (n cause : Nat) (s : State) :
    Keeps (.air :: .line :: .lt :: .ltx :: .hi :: eventParts) s (failPosted n cause s) := by
  unfold failPosted
  refine Keeps.foldl ?_ (fun u0 _ hu1 => ?_)
  · exact Keeps.refl _ _
  · try beta_reduce
    refine (failFrame_keeps ..).step (by decide) ?_
    exact hu1

theorem joinEntry_keeps (n uid : Nat) (caps : Option Nat) (ports : Option (BitVec 3)) (kdk : BitVec 256) (s : State) :
    Keeps (.air :: .line :: .lt :: .ltx :: .cx :: .hi :: .freeCtr :: eventParts) s (joinEntry n uid caps ports kdk s) := by
  unfold joinEntry
  extract_lets -merge +onlyGivenNames x0
  extract_lets -merge +onlyGivenNames x1
  have h2 : Keeps (.air :: .line :: .lt :: .ltx :: .cx :: .hi :: .freeCtr :: eventParts) s x1 := by
    unfold x1
    refine (failPosted_keeps ..).step (by decide) ?_
    exact Keeps.refl _ _
  extract_lets -merge +onlyGivenNames x3
  have h4 : Keeps (.air :: .line :: .lt :: .ltx :: .cx :: .hi :: .freeCtr :: eventParts) s x3 := by
    unfold x3
    refine (updEntry_keeps ..).step (by decide) ?_
    exact h2
  extract_lets -merge +onlyGivenNames x5
  have h6 : Keeps (.air :: .line :: .lt :: .ltx :: .cx :: .hi :: .freeCtr :: eventParts) s x5 := by
    unfold x5
    refine (placeKey_keeps ..).step (by decide) ?_
    exact h4
  refine Keeps.lt ?_ (by decide)
  exact h6

theorem startRekey_keeps (n trigger : Nat) (s : State) :
    Keeps (.air :: .line :: .lt :: .ltx :: .cx :: .hi :: .freeCtr :: eventParts) s (startRekey n trigger s) := by
  unfold startRekey
  extract_lets -merge +onlyGivenNames x0 x1
  split
  · exact Keeps.refl _ _
  · refine Keeps.ite ?_ ?_
    · extract_lets -merge +onlyGivenNames x2
      have h3 : Keeps (.air :: .line :: .lt :: .ltx :: .cx :: .hi :: .freeCtr :: eventParts) s x2 := by
        unfold x2
        refine (raise_keeps ..).step (by decide) ?_
        exact Keeps.refl _ _
      extract_lets -merge +onlyGivenNames x4
      have h5 : Keeps (.air :: .line :: .lt :: .ltx :: .cx :: .hi :: .freeCtr :: eventParts) s x4 := by
        unfold x4
        refine (joinEntry_keeps ..).step (by decide) ?_
        exact h3
      extract_lets -merge +onlyGivenNames x6
      extract_lets -merge +onlyGivenNames x7
      have h8 : Keeps (.air :: .line :: .lt :: .ltx :: .cx :: .hi :: .freeCtr :: eventParts) s x7 := by
        refine Keeps.lt ?_ (by decide)
        exact h5
      refine (sendJoinResp_keeps ..).step (by decide) ?_
      exact h8
    · exact Keeps.refl _ _

theorem autoRekey_keeps (n trigger : Nat) (s : State) :
    Keeps (.air :: .line :: .lt :: .ltx :: .cx :: .hi :: .freeCtr :: eventParts) s (autoRekey n trigger s) := by
  unfold autoRekey
  refine Keeps.ite ?_ ?_
  · refine (startRekey_keeps ..).step (by decide) ?_
    exact Keeps.refl _ _
  · exact Keeps.refl _ _

theorem dropJoinFrames_keeps (s : State) :
    Keeps ([.line]) s (dropJoinFrames s) := by
  unfold dropJoinFrames
  refine Keeps.line ?_ (by decide)
  exact Keeps.refl _ _

theorem sendJoinReq_keeps (s : State) :
    Keeps ([.line, .freeCtr]) s (sendJoinReq s) := by
  unfold sendJoinReq
  extract_lets -merge +onlyGivenNames x0
  have h1 : Keeps ([.line, .freeCtr]) s x0 := by
    unfold x0
    refine (dropJoinFrames_keeps ..).step (by decide) ?_
    exact Keeps.refl _ _
  extract_lets -merge +onlyGivenNames x2 x3
  refine (contend_keeps ..).step (by decide) ?_
  refine (submit_keeps ..).step (by decide) ?_
  exact h1

theorem unlearn_keeps (s : State) :
    Keeps (.lt :: .slp :: eventParts) s (unlearn s) := by
  unfold unlearn
  extract_lets -merge +onlyGivenNames x0 x1
  extract_lets -merge +onlyGivenNames x2
  have h3 : Keeps (.lt :: .slp :: eventParts) s x2 := by
    refine Keeps.slp ?_ (by decide)
    exact Keeps.refl _ _
  refine Keeps.ite ?_ ?_
  · extract_lets -merge +onlyGivenNames x4
    have h5 : Keeps (.lt :: .slp :: eventParts) s x4 := by
      unfold x4
      refine (updEntry_keeps ..).step (by decide) ?_
      exact h3
    refine (raise_keeps ..).step (by decide) ?_
    exact h5
  · exact h3

theorem beginTipin_keeps (s : State) :
    Keeps (.line :: .lt :: .ltx :: .slp :: .tex :: .freeCtr :: eventParts) s (beginTipin s) := by
  unfold beginTipin
  extract_lets -merge +onlyGivenNames x0 x1 x2 x3
  extract_lets -merge +onlyGivenNames x4
  have h5 : Keeps (.line :: .lt :: .ltx :: .slp :: .tex :: .freeCtr :: eventParts) s x4 := by
    unfold x4
    refine (unlearn_keeps ..).step (by decide) ?_
    refine Keeps.lt_ltx_slp_tex ?_ (by decide) (by decide) (by decide) (by decide)
    exact Keeps.refl _ _
  refine (sendJoinReq_keeps ..).step (by decide) ?_
  refine (updEntry_keeps ..).step (by decide) ?_
  exact h5

theorem retryTipin_keeps (s : State) :
    Keeps (.line :: .lt :: .ltx :: .slp :: .tex :: .freeCtr :: eventParts) s (retryTipin s) := by
  unfold retryTipin
  refine (beginTipin_keeps ..).step (by decide) ?_
  refine Keeps.ltx ?_ (by decide)
  exact Keeps.refl _ _

theorem installJoin_keeps (port n : Nat) (body : List Byte) (s : State) :
    Keeps ([.line, .lt, .ltx, .cx, .lg, .freeCtr]) s (installJoin port n body s) := by
  unfold installJoin
  split
  · refine (sendJoinReq_keeps ..).step (by decide) ?_
    exact Keeps.refl _ _
  · split
    · refine (sendJoinReq_keeps ..).step (by decide) ?_
      exact Keeps.refl _ _
    · split
      · split
        · extract_lets -merge +onlyGivenNames x0 x1 x2
          extract_lets -merge +onlyGivenNames x3
          have h4 : Keeps ([.line, .lt, .ltx, .cx, .lg, .freeCtr]) s x3 := by
            refine Keeps.cx ?_ (by decide)
            exact Keeps.refl _ _
          extract_lets -merge +onlyGivenNames x5
          have h6 : Keeps ([.line, .lt, .ltx, .cx, .lg, .freeCtr]) s x5 := by
            unfold x5
            refine (setSlot_keeps ..).step (by decide) ?_
            exact h4
          extract_lets -merge +onlyGivenNames x7
          have h8 : Keeps ([.line, .lt, .ltx, .cx, .lg, .freeCtr]) s x7 := by
            unfold x7
            refine (setSlot_keeps ..).step (by decide) ?_
            exact h6
          extract_lets -merge +onlyGivenNames x9
          have h10 : Keeps ([.line, .lt, .ltx, .cx, .lg, .freeCtr]) s x9 := by
            unfold x9
            clear_value  x0
            split
            · refine (retireSlot_keeps ..).step (by decide) ?_
              exact h8
            · exact h8
          extract_lets -merge +onlyGivenNames x11
          have h12 : Keeps ([.line, .lt, .ltx, .cx, .lg, .freeCtr]) s x11 := by
            unfold x11
            clear_value  x1
            split
            · refine (retireSlot_keeps ..).step (by decide) ?_
              exact h10
            · exact h10
          extract_lets -merge +onlyGivenNames x13
          extract_lets -merge +onlyGivenNames x14
          have h15 : Keeps ([.line, .lt, .ltx, .cx, .lg, .freeCtr]) s x14 := by
            refine Keeps.cx ?_ (by decide)
            exact h12
          extract_lets -merge +onlyGivenNames x16
          have h17 : Keeps ([.line, .lt, .ltx, .cx, .lg, .freeCtr]) s x16 := by
            unfold x16
            refine (updEntry_keeps ..).step (by decide) ?_
            exact h15
          extract_lets -merge +onlyGivenNames x18
          extract_lets -merge +onlyGivenNames x19
          have h20 : Keeps ([.line, .lt, .ltx, .cx, .lg, .freeCtr]) s x19 := by
            refine Keeps.ltx ?_ (by decide)
            exact h17
          extract_lets -merge +onlyGivenNames x21
          extract_lets -merge +onlyGivenNames x22
          have h23 : Keeps ([.line, .lt, .ltx, .cx, .lg, .freeCtr]) s x22 := by
            unfold x22
            refine (dropJoinFrames_keeps ..).step (by decide) ?_
            refine Keeps.ltx ?_ (by decide)
            exact h20
          extract_lets -merge +onlyGivenNames x24 x25
          refine (contend_keeps ..).step (by decide) ?_
          refine (submit_keeps ..).step (by decide) ?_
          refine (updEntry_keeps ..).step (by decide) ?_
          exact h23

/-! ### Machine/Commit.lean -/

theorem updC_keeps (p : Nat) (f : CPort → CPort) (s : State) :
    Keeps ([.air]) s (updC p f s) := by
  unfold updC
  refine Keeps.air ?_ (by decide)
  exact Keeps.refl _ _

theorem cAttempt_keeps (p : Nat) (s : State) :
    Keeps ([.air, .freeCtr]) s (cAttempt p s) := by
  unfold cAttempt
  extract_lets -merge +onlyGivenNames x0
  refine Keeps.ite ?_ ?_
  · split
    rename_i v1 v2 e4
    have hv3 : Keeps ([.air, .freeCtr]) s v2 := by
      refine Keeps.snd e4 ?_
      refine (draw_keeps ..).step (by decide) ?_
      exact Keeps.refl _ _
    clear e4
    refine (updC_keeps ..).step (by decide) ?_
    exact hv3
  · exact Keeps.refl _ _

theorem cWithhold_keeps (ports : List Nat) (beacon : Bool) (s : State) :
    Keeps (.air :: .freeCtr :: eventParts) s (cWithhold ports beacon s) := by
  unfold cWithhold
  extract_lets -merge +onlyGivenNames x0
  have h1 : Keeps (.air :: .freeCtr :: eventParts) s x0 := by
    unfold x0
    refine Keeps.foldl ?_ (fun u2 _ hu3 => ?_)
    · exact Keeps.refl _ _
    · try beta_reduce
      refine (cAttempt_keeps ..).step (by decide) ?_
      exact hu3
  extract_lets -merge +onlyGivenNames x4 x5
  extract_lets -merge +onlyGivenNames x6
  have h7 : Keeps (.air :: .freeCtr :: eventParts) s x6 := by
    refine Keeps.air ?_ (by decide)
    exact h1
  refine Keeps.ite ?_ ?_
  · exact h7
  · refine (raise_keeps ..).step (by decide) ?_
    refine Keeps.air ?_ (by decide)
    exact h7

theorem cRun_keeps (ports : List Nat) (start : Nat) (s : State) :
    Keeps ([.air]) s (cRun ports start s) := by
  unfold cRun
  refine Keeps.foldl ?_ (fun u0 _ hu1 => ?_)
  · exact Keeps.refl _ _
  · try beta_reduce
    refine Keeps.ite ?_ ?_
    · refine (updC_keeps ..).step (by decide) ?_
      exact hu1
    · exact hu1

theorem giveSeq_keeps (f : TxFrame) (s : State) :
    Keeps ([.lt, .ltx]) s (giveSeq f s).2 := by
  unfold giveSeq
  split
  · try with_reducible refine Keeps.mk ?_
    exact Keeps.refl _ _
  · refine Keeps.ite2 ?_ ?_
    · try with_reducible refine Keeps.mk ?_
      refine Keeps.ltx ?_ (by decide)
      exact Keeps.refl _ _
    · refine Keeps.ite2 ?_ ?_
      · extract_lets -merge +onlyGivenNames x0
        try with_reducible refine Keeps.mk ?_
        refine (updEntry_keeps ..).step (by decide) ?_
        exact Keeps.refl _ _
      · refine Keeps.ite2 ?_ ?_
        · extract_lets -merge +onlyGivenNames x1
          try with_reducible refine Keeps.mk ?_
          refine (updEntry_keeps ..).step (by decide) ?_
          exact Keeps.refl _ _
        · try with_reducible refine Keeps.mk ?_
          exact Keeps.refl _ _

theorem sealFailed_keeps (f : TxFrame) (out : JobOut) (s : State) :
    Keeps (.air :: .line :: .lt :: .ltx :: .slp :: .tex :: .cx :: .hi :: .freeCtr :: eventParts) s (sealFailed f out s) := by
  unfold sealFailed
  extract_lets -merge +onlyGivenNames x0
  have h1 : Keeps (.air :: .line :: .lt :: .ltx :: .slp :: .tex :: .cx :: .hi :: .freeCtr :: eventParts) s x0 := by
    unfold x0
    refine (failFrame_keeps ..).step (by decide) ?_
    exact Keeps.refl _ _
  refine Keeps.ite ?_ ?_
  · split
    · refine Keeps.ite ?_ ?_
      · refine (retryTipin_keeps ..).step (by decide) ?_
        exact h1
      · exact h1
    · exact h1
  · split
    · refine Keeps.ite ?_ ?_
      · refine (autoRekey_keeps ..).step (by decide) ?_
        exact h1
      · exact h1
    · exact h1

theorem placeFrame_keeps (f : TxFrame) (p : Plan) (s : State) :
    Keeps (.air :: .line :: .ofd :: .lt :: .ltx :: .slp :: .tex :: .cx :: .hi :: .freeCtr :: eventParts) s (placeFrame f p s) := by
  unfold placeFrame
  split
  · split
    rename_i v0 v1 e3
    have hv2 : Keeps (.air :: .line :: .ofd :: .lt :: .ltx :: .slp :: .tex :: .cx :: .hi :: .freeCtr :: eventParts) s v1 := by
      refine Keeps.snd e3 ?_
      refine (latchSlot_keeps ..).step (by decide) ?_
      exact Keeps.refl _ _
    clear e3
    extract_lets -merge +onlyGivenNames x4
    split
    rename_i v5 v6 e8
    have hv7 : Keeps (.air :: .line :: .ofd :: .lt :: .ltx :: .slp :: .tex :: .cx :: .hi :: .freeCtr :: eventParts) s v6 := by
      refine Keeps.snd e8 ?_
      refine (giveSeq_keeps ..).step (by decide) ?_
      exact hv2
    clear e8
    extract_lets -merge +onlyGivenNames x9
    have h10 : Keeps (.air :: .line :: .ofd :: .lt :: .ltx :: .slp :: .tex :: .cx :: .hi :: .freeCtr :: eventParts) s x9 := by
      unfold x9
      refine (updFrame_keeps ..).step (by decide) ?_
      exact hv7
    split
    rename_i v11 v12 e14
    have hv13 : Keeps (.air :: .line :: .ofd :: .lt :: .ltx :: .slp :: .tex :: .cx :: .hi :: .freeCtr :: eventParts) s v12 := by
      refine Keeps.snd e14 ?_
      refine Keeps.ite2 ?_ ?_
      · refine (grantNow_keeps ..).step (by decide) ?_
        exact h10
      · try with_reducible refine Keeps.mk ?_
        exact h10
    clear e14
    extract_lets -merge +onlyGivenNames x15
    split
    rename_i v16 v17 v18 e20
    have hv19 : Keeps (.air :: .line :: .ofd :: .lt :: .ltx :: .slp :: .tex :: .cx :: .hi :: .freeCtr :: eventParts) s v18 := by
      refine Keeps.snd2 e20 ?_
      refine (sealFrame_keeps ..).step (by decide) ?_
      exact hv13
    clear e20
    split
    · extract_lets -merge +onlyGivenNames x21 x22
      extract_lets -merge +onlyGivenNames x23
      have h24 : Keeps (.air :: .line :: .ofd :: .lt :: .ltx :: .slp :: .tex :: .cx :: .hi :: .freeCtr :: eventParts) s x23 := by
        unfold x23
        refine (takeBands_keeps ..).step (by decide) ?_
        exact hv19
      extract_lets -merge +onlyGivenNames x25
      have h26 : Keeps (.air :: .line :: .ofd :: .lt :: .ltx :: .slp :: .tex :: .cx :: .hi :: .freeCtr :: eventParts) s x25 := by
        refine Keeps.ite ?_ ?_
        · refine (cRun_keeps ..).step (by decide) ?_
          exact h24
        · exact h24
      extract_lets -merge +onlyGivenNames x27
      extract_lets -merge +onlyGivenNames x28
      have h29 : Keeps (.air :: .line :: .ofd :: .lt :: .ltx :: .slp :: .tex :: .cx :: .hi :: .freeCtr :: eventParts) s x28 := by
        refine Keeps.ite ?_ ?_
        · refine (useCredit_keeps ..).step (by decide) ?_
          exact h26
        · exact h26
      extract_lets -merge +onlyGivenNames x30
      have h31 : Keeps (.air :: .line :: .ofd :: .lt :: .ltx :: .slp :: .tex :: .cx :: .hi :: .freeCtr :: eventParts) s x30 := by
        unfold x30
        refine (updFrame_keeps ..).step (by decide) ?_
        exact h29
      extract_lets -merge +onlyGivenNames x32
      have h33 : Keeps (.air :: .line :: .ofd :: .lt :: .ltx :: .slp :: .tex :: .cx :: .hi :: .freeCtr :: eventParts) s x32 := by
        refine Keeps.ite ?_ ?_
        · refine (finishOpt_keeps ..).step (by decide) ?_
          exact h31
        · exact h31
      extract_lets -merge +onlyGivenNames x34
      have h35 : Keeps (.air :: .line :: .ofd :: .lt :: .ltx :: .slp :: .tex :: .cx :: .hi :: .freeCtr :: eventParts) s x34 := by
        unfold x34
        refine (airSettle_keeps ..).step (by decide) ?_
        exact h33
      refine Keeps.ite ?_ ?_
      · refine (autoRekey_keeps ..).step (by decide) ?_
        exact h35
      · exact h35
    · exact hv19
    · split
      · refine (sealFailed_keeps ..).step (by decide) ?_
        exact hv19
      · exact hv19

theorem wakeSkip_keeps (f : TxFrame) (s : State) :
    Keeps ([.line, .slp]) s (wakeSkip f s) := by
  unfold wakeSkip
  refine (dropFrame_keeps ..).step (by decide) ?_
  refine Keeps.slp ?_ (by decide)
  exact Keeps.refl _ _

theorem commitFrame_keeps (f : TxFrame) (s : State) :
    Keeps (.air :: .line :: .ofd :: .lt :: .ltx :: .slp :: .tex :: .cx :: .hi :: .freeCtr :: eventParts) s (commitFrame f s) := by
  unfold commitFrame
  extract_lets -merge +onlyGivenNames x0 x1 x2
  refine Keeps.ite ?_ ?_
  · refine (sweepLeaf_keeps ..).step (by decide) ?_
    exact Keeps.refl _ _
  · refine Keeps.ite ?_ ?_
    · refine (refusePosted_keeps ..).step (by decide) ?_
      exact Keeps.refl _ _
    · refine Keeps.ite ?_ ?_
      · refine (failFrame_keeps ..).step (by decide) ?_
        exact Keeps.refl _ _
      · refine Keeps.ite ?_ ?_
        · exact Keeps.refl _ _
        · refine Keeps.ite ?_ ?_
          · exact Keeps.refl _ _
          · refine Keeps.ite ?_ ?_
            · refine (failFrame_keeps ..).step (by decide) ?_
              exact Keeps.refl _ _
            · split
              · exact Keeps.refl _ _
              · extract_lets -merge +onlyGivenNames x3 x4 x5
                refine Keeps.ite ?_ ?_
                · exact Keeps.refl _ _
                · refine Keeps.ite ?_ ?_
                  · refine (expire_keeps ..).step (by decide) ?_
                    exact Keeps.refl _ _
                  · refine Keeps.ite ?_ ?_
                    · refine (holdFrame_keeps ..).step (by decide) ?_
                      refine (cWithhold_keeps ..).step (by decide) ?_
                      exact Keeps.refl _ _
                    · refine Keeps.ite ?_ ?_
                      · refine Keeps.ite ?_ ?_
                        · refine (wakeSkip_keeps ..).step (by decide) ?_
                          exact Keeps.refl _ _
                        · refine (holdFrame_keeps ..).step (by decide) ?_
                          exact Keeps.refl _ _
                      · refine Keeps.ite ?_ ?_
                        · refine (wakeSkip_keeps ..).step (by decide) ?_
                          exact Keeps.refl _ _
                        · refine (placeFrame_keeps ..).step (by decide) ?_
                          exact Keeps.refl _ _

end Sys2Proof.Machine
end

