-- ==== Sys2Proof/Laws/FrameLine.lean ====
section
/-! SUPPORT. The frames of the functions of air, the front end and reception: outside the components listed
each changes nothing, and it leaves a sound state sound. -/
namespace Sys2Proof.Machine

/-! ### Machine/Air.lean -/

theorem airRefuse_keeps (cause off : Nat) (v : Word) (s : State) :
    Keeps (.air :: eventParts) s (airRefuse cause off v s) := by
  unfold airRefuse
  refine (raise_keeps ..).step (by decide) ?_
  refine Keeps.air ?_ (by decide)
  exact Keeps.refl _ _

theorem airCtrlWrite_keeps (v : Word) (s : State) :
    Keeps (.air :: .ofd :: .rbm :: eventParts) s (airCtrlWrite v s) := by
  unfold airCtrlWrite
  split
  · refine (airRefuse_keeps ..).step (by decide) ?_
    exact Keeps.refl _ _
  · extract_lets -merge +onlyGivenNames x0
    extract_lets -merge +onlyGivenNames x1
    have h2 : Keeps (.air :: .ofd :: .rbm :: eventParts) s x1 := by
      refine Keeps.air ?_ (by decide)
      exact Keeps.refl _ _
    refine (rbmRecheck_keeps ..).step (by decide) ?_
    refine (slotsRecheck_keeps ..).step (by decide) ?_
    exact h2

theorem airBudgetWrite_keeps (r : AirReg) (b : Fin 4) (v : Word) (s : State) :
    Keeps (.air :: eventParts) s (airBudgetWrite r b v s) := by
  unfold airBudgetWrite
  extract_lets -merge +onlyGivenNames x0
  refine Keeps.ite ?_ ?_
  · refine (updBand_keeps ..).step (by decide) ?_
    exact Keeps.refl _ _
  · refine (airRefuse_keeps ..).step (by decide) ?_
    exact Keeps.refl _ _

theorem airStatusWrite_keeps (v : Word) (s : State) :
    Keeps ([.air]) s (airStatusWrite v s) := by
  unfold airStatusWrite
  refine Keeps.air ?_ (by decide)
  exact Keeps.refl _ _

theorem execAirCtrlWrite_keeps (v : Word) (s : State) {s₁ : State}
    (h : execAirCtrlWrite v s = .next s₁) : Keeps (.air :: .ofd :: .rbm :: .slp :: .pwr :: eventParts) s s₁ := by
  unfold execAirCtrlWrite at h
  refine runHost_keeps (by decide) (fun u hu => ?_) h
  refine (airCtrlWrite_keeps ..).step (by decide) ?_
  exact hu

theorem execAirBudgetWrite_keeps (r : AirReg) (b : Fin 4) (v : Word) (s : State) {s₁ : State}
    (h : execAirBudgetWrite r b v s = .next s₁) : Keeps (.air :: .slp :: .pwr :: eventParts) s s₁ := by
  unfold execAirBudgetWrite at h
  refine runHost_keeps (by decide) (fun u hu => ?_) h
  refine (airBudgetWrite_keeps ..).step (by decide) ?_
  exact hu

theorem startEpisode_keeps (f : TxFrame) (s : State) :
    Keeps ([.line, .slph]) s (startEpisode f s) := by
  unfold startEpisode
  extract_lets -merge +onlyGivenNames x0 x1 x2 x3 x4
  split
  · exact Keeps.refl _ _
  · extract_lets -merge +onlyGivenNames x5 x6
    extract_lets -merge +onlyGivenNames x7
    have h8 : Keeps ([.line, .slph]) s x7 := by
      refine Keeps.slph ?_ (by decide)
      exact Keeps.refl _ _
    refine Keeps.foldl ?_ (fun u9 _ hu10 => ?_)
    · exact h8
    · try beta_reduce
      refine (submit_keeps ..).step (by decide) ?_
      exact hu10

theorem tamperBeacon_keeps (s : State) :
    Keeps ([.air, .line, .lg, .tmp]) s (tamperBeacon s) := by
  unfold tamperBeacon
  extract_lets -merge +onlyGivenNames x0 x1 x2
  extract_lets -merge +onlyGivenNames x3
  have h4 : ∀ u5, Keeps ([.air, .line, .lg, .tmp]) s u5 → Keeps ([.air, .line, .lg, .tmp]) s (x3 u5) := by
    intro u5 hu6
    unfold x3
    try beta_reduce
    refine Keeps.tmp ?_ (by decide)
    exact hu6
  refine Keeps.ite ?_ ?_
  · exact Keeps.refl _ _
  · refine Keeps.ite ?_ ?_
    · refine h4 _ ?_
      refine Keeps.tmp ?_ (by decide)
      exact Keeps.refl _ _
    · refine Keeps.ite ?_ ?_
      · extract_lets -merge +onlyGivenNames x7 x8 x9
        refine h4 _ ?_
        refine (submit_keeps ..).step (by decide) ?_
        refine (takeBands_keeps ..).step (by decide) ?_
        refine Keeps.tmp ?_ (by decide)
        exact Keeps.refl _ _
      · exact Keeps.refl _ _

theorem execFrameCommit_keeps (id : Nat) (s : State) {s₁ : State}
    (h : execFrameCommit id s = .next s₁) : Keeps (.air :: .line :: .ofd :: .lt :: .ltx :: .slp :: .slph :: .tex :: .cx :: .hi :: .tmp :: .freeCtr :: eventParts) s s₁ := by
  unfold execFrameCommit at h
  refine run_keeps (by decide) (fun u hu => ?_) h
  try beta_reduce
  refine Keeps.ite ?_ ?_
  · refine (tamperBeacon_keeps ..).step (by decide) ?_
    exact hu
  · split
    · exact hu
    · refine Keeps.ite ?_ ?_
      · exact hu
      · refine Keeps.ite ?_ ?_
        · refine (startEpisode_keeps ..).step (by decide) ?_
          exact hu
        · refine (commitFrame_keeps ..).step (by decide) ?_
          exact hu

theorem execFrameDeadlineExpiry_keeps (id : Nat) (s : State) {s₁ : State}
    (h : execFrameDeadlineExpiry id s = .next s₁) : Keeps (.air :: .line :: .lt :: .ltx :: .hi :: eventParts) s s₁ := by
  unfold execFrameDeadlineExpiry at h
  refine run_keeps (by decide) (fun u hu => ?_) h
  try beta_reduce
  split
  · exact hu
  · split
    · refine Keeps.ite ?_ ?_
      · exact hu
      · refine (expire_keeps ..).step (by decide) ?_
        exact hu
    · exact hu

theorem execCbandBusyDetect_keeps (p : Port) (s : State) {s₁ : State}
    (h : execCbandBusyDetect p s = .next s₁) : Keeps ([.air]) s s₁ := by
  unfold execCbandBusyDetect at h
  refine run_keeps (by decide) (fun u hu => ?_) h
  try beta_reduce
  extract_lets -merge +onlyGivenNames x0
  refine Keeps.ite ?_ ?_
  · refine (updC_keeps ..).step (by decide) ?_
    exact hu
  · exact hu

theorem execCbandAccessDelayEnd_keeps (p : Port) (s : State) {s₁ : State}
    (h : execCbandAccessDelayEnd p s = .next s₁) : Keeps ([.air]) s s₁ := by
  unfold execCbandAccessDelayEnd at h
  refine run_keeps (by decide) (fun u hu => ?_) h
  try beta_reduce
  extract_lets -merge +onlyGivenNames x0
  refine Keeps.ite ?_ ?_
  · refine (updC_keeps ..).step (by decide) ?_
    exact hu
  · exact hu

theorem execCbandRunEnd_keeps (p : Port) (s : State) {s₁ : State}
    (h : execCbandRunEnd p s = .next s₁) : Keeps ([.air]) s s₁ := by
  unfold execCbandRunEnd at h
  refine run_keeps (by decide) (fun u hu => ?_) h
  try beta_reduce
  refine Keeps.ite ?_ ?_
  · refine (updC_keeps ..).step (by decide) ?_
    exact hu
  · exact hu

theorem goOnLine_keeps (f : TxFrame) (s : State) :
    Keeps ([.afe, .line]) s (goOnLine f s) := by
  unfold goOnLine
  extract_lets -merge +onlyGivenNames x0
  have h1 : Keeps ([.afe, .line]) s x0 := by
    unfold x0
    refine (updFrame_keeps ..).step (by decide) ?_
    exact Keeps.refl _ _
  extract_lets -merge +onlyGivenNames x2
  extract_lets -merge +onlyGivenNames x3
  have h4 : Keeps ([.afe, .line]) s x3 := by
    refine Keeps.line ?_ (by decide)
    exact h1
  refine Keeps.foldl ?_ (fun u5 _ hu6 => ?_)
  · exact h4
  · try beta_reduce
    refine (updPortX_keeps ..).step (by decide) ?_
    refine (updPort_keeps ..).step (by decide) ?_
    exact hu6

theorem execFrameTxStart_keeps (id : Nat) (s : State) {s₁ : State}
    (h : execFrameTxStart id s = .next s₁) : Keeps ([.afe, .line, .slph]) s s₁ := by
  unfold execFrameTxStart at h
  refine run_keeps (by decide) (fun u hu => ?_) h
  try beta_reduce
  split
  · exact hu
  · refine Keeps.ite ?_ ?_
    · extract_lets -merge +onlyGivenNames x0
      have h1 : Keeps ([.afe, .line, .slph]) s x0 := by
        unfold x0
        refine (goOnLine_keeps ..).step (by decide) ?_
        exact hu
      refine Keeps.ite ?_ ?_
      · refine Keeps.slph ?_ (by decide)
        exact h1
      · exact h1
    · exact hu

theorem lingerFrom_keeps (n : Nat) (s : State) :
    Keeps ([.slph]) s (lingerFrom n s) := by
  unfold lingerFrom
  refine Keeps.slph ?_ (by decide)
  exact Keeps.refl _ _

theorem afterLast_keeps (f : TxFrame) (s : State) :
    Keeps (.air :: .line :: .ltx :: .slph :: .hi :: eventParts) s (afterLast f s) := by
  unfold afterLast
  extract_lets -merge +onlyGivenNames x0
  refine Keeps.ite ?_ ?_
  · refine (endFrame_keeps ..).step (by decide) ?_
    exact Keeps.refl _ _
  · extract_lets -merge +onlyGivenNames x1
    have h2 : Keeps (.air :: .line :: .ltx :: .slph :: .hi :: eventParts) s x1 := by
      refine Keeps.ite ?_ ?_
      · refine (lingerFrom_keeps ..).step (by decide) ?_
        exact Keeps.refl _ _
      · exact Keeps.refl _ _
    extract_lets -merge +onlyGivenNames x3
    extract_lets -merge +onlyGivenNames x4
    have h5 : Keeps (.air :: .line :: .ltx :: .slph :: .hi :: eventParts) s x4 := by
      refine Keeps.ite ?_ ?_
      · refine Keeps.ltx ?_ (by decide)
        exact h2
      · exact h2
    refine Keeps.ite ?_ ?_
    · refine (endFrame_keeps ..).step (by decide) ?_
      refine (finishOpt_keeps ..).step (by decide) ?_
      exact h5
    · refine Keeps.ite ?_ ?_
      · refine (updFrame_keeps ..).step (by decide) ?_
        exact h5
      · refine (endFrame_keeps ..).step (by decide) ?_
        exact h5

theorem execFrameTxEnd_keeps (id : Nat) (s : State) {s₁ : State}
    (h : execFrameTxEnd id s = .next s₁) : Keeps (.air :: .afe :: .line :: .ltx :: .slph :: .hi :: eventParts) s s₁ := by
  unfold execFrameTxEnd at h
  refine run_keeps (by decide) (fun u hu => ?_) h
  try beta_reduce
  split
  · exact hu
  · refine Keeps.ite ?_ ?_
    · extract_lets -merge +onlyGivenNames x0
      have h1 : Keeps (.air :: .afe :: .line :: .ltx :: .slph :: .hi :: eventParts) s x0 := by
        unfold x0
        refine Keeps.foldl ?_ (fun u2 _ hu3 => ?_)
        · exact hu
        · try beta_reduce
          refine (updPortX_keeps ..).step (by decide) ?_
          exact hu3
      extract_lets -merge +onlyGivenNames x4
      have h5 : Keeps (.air :: .afe :: .line :: .ltx :: .slph :: .hi :: eventParts) s x4 := by
        refine Keeps.ite ?_ ?_
        · refine Keeps.foldl ?_ (fun u6 _ hu7 => ?_)
          · exact h1
          · try beta_reduce
            refine (updC_keeps ..).step (by decide) ?_
            exact hu7
        · exact h1
      refine Keeps.ite ?_ ?_
      · extract_lets -merge +onlyGivenNames x8
        refine (updFrame_keeps ..).step (by decide) ?_
        refine (returnCost_keeps ..).step (by decide) ?_
        exact h5
      · extract_lets -merge +onlyGivenNames x9
        have h10 : Keeps (.air :: .afe :: .line :: .ltx :: .slph :: .hi :: eventParts) s x9 := by
          unfold x9
          refine (returnCost_keeps ..).step (by decide) ?_
          exact h5
        extract_lets -merge +onlyGivenNames x11
        have h12 : Keeps (.air :: .afe :: .line :: .ltx :: .slph :: .hi :: eventParts) s x11 := by
          refine Keeps.ite ?_ ?_
          · refine (giveBack_keeps ..).step (by decide) ?_
            exact h10
          · exact h10
        extract_lets -merge +onlyGivenNames x13
        have h14 : Keeps (.air :: .afe :: .line :: .ltx :: .slph :: .hi :: eventParts) s x13 := by
          unfold x13
          refine (updFrame_keeps ..).step (by decide) ?_
          exact h12
        refine (afterLast_keeps ..).step (by decide) ?_
        exact h14
    · exact hu

theorem ackSuppress_keeps (bands : List Nat) (s : State) :
    Keeps (.air :: eventParts) s (ackSuppress bands s) := by
  unfold ackSuppress
  refine Keeps.foldl ?_ (fun u0 _ hu1 => ?_)
  · exact Keeps.refl _ _
  · try beta_reduce
    extract_lets -merge +onlyGivenNames x2
    have h3 : Keeps (.air :: eventParts) s x2 := by
      unfold x2
      refine (updBand_keeps ..).step (by decide) ?_
      exact hu1
    refine Keeps.ite ?_ ?_
    · exact h3
    · refine (raise_keeps ..).step (by decide) ?_
      refine (updBand_keeps ..).step (by decide) ?_
      exact h3

theorem ackOnLine_keeps (a : AckDue) (air : Nat) (s : State) :
    Keeps (.air :: .afe :: .line :: .lt :: .ltx :: .cx :: .hi :: .freeCtr :: eventParts) s (ackOnLine a air s) := by
  unfold ackOnLine
  split
  rename_i v0 v1 e3
  have hv2 : Keeps (.air :: .afe :: .line :: .lt :: .ltx :: .cx :: .hi :: .freeCtr :: eventParts) s v1 := by
    refine Keeps.snd e3 ?_
    refine Keeps.ite2 ?_ ?_
    · try with_reducible refine Keeps.mk ?_
      exact Keeps.refl _ _
    · refine (grantNow_keeps ..).step (by decide) ?_
      exact Keeps.refl _ _
  clear e3
  extract_lets -merge +onlyGivenNames x4 x5 x6
  split
  · rename_i v7 v8 v9 v10 e12
    have hv11 : Keeps (.air :: .afe :: .line :: .lt :: .ltx :: .cx :: .hi :: .freeCtr :: eventParts) s v10 := by
      refine Keeps.snd2 e12 ?_
      refine (sealFrame_keeps ..).step (by decide) ?_
      exact hv2
    clear e12
    extract_lets -merge +onlyGivenNames x13
    extract_lets -merge +onlyGivenNames x14
    have h15 : Keeps (.air :: .afe :: .line :: .lt :: .ltx :: .cx :: .hi :: .freeCtr :: eventParts) s x14 := by
      unfold x14
      refine (takeBands_keeps ..).step (by decide) ?_
      exact hv11
    extract_lets -merge +onlyGivenNames x16
    have h17 : Keeps (.air :: .afe :: .line :: .lt :: .ltx :: .cx :: .hi :: .freeCtr :: eventParts) s x16 := by
      refine Keeps.ite ?_ ?_
      · refine (cRun_keeps ..).step (by decide) ?_
        exact h15
      · exact h15
    extract_lets -merge +onlyGivenNames x18
    extract_lets -merge +onlyGivenNames x19
    have h20 : Keeps (.air :: .afe :: .line :: .lt :: .ltx :: .cx :: .hi :: .freeCtr :: eventParts) s x19 := by
      unfold x19
      refine (goOnLine_keeps ..).step (by decide) ?_
      refine (submit_keeps ..).step (by decide) ?_
      exact h17
    refine Keeps.ite ?_ ?_
    · refine (autoRekey_keeps ..).step (by decide) ?_
      exact h20
    · exact h20
  · rename_i v21 v22 v23 _ e25
    have hv24 : Keeps (.air :: .afe :: .line :: .lt :: .ltx :: .cx :: .hi :: .freeCtr :: eventParts) s v23 := by
      refine Keeps.snd2 e25 ?_
      refine (sealFrame_keeps ..).step (by decide) ?_
      exact hv2
    clear e25
    exact hv24

theorem execAckSend_keeps (p : Port) (s : State) {s₁ : State}
    (h : execAckSend p s = .next s₁) : Keeps (.air :: .afe :: .line :: .lt :: .ltx :: .cx :: .hi :: .freeCtr :: eventParts) s s₁ := by
  unfold execAckSend at h
  refine run_keeps (by decide) (fun u hu => ?_) h
  try beta_reduce
  split
  · exact hu
  · extract_lets -merge +onlyGivenNames x0
    extract_lets -merge +onlyGivenNames x1
    have h2 : Keeps (.air :: .afe :: .line :: .lt :: .ltx :: .cx :: .hi :: .freeCtr :: eventParts) s x1 := by
      refine Keeps.line ?_ (by decide)
      exact hu
    extract_lets -merge +onlyGivenNames x3 x4 x5
    refine Keeps.ite ?_ ?_
    · exact h2
    · refine Keeps.ite ?_ ?_
      · refine (ackSuppress_keeps ..).step (by decide) ?_
        exact h2
      · refine (ackOnLine_keeps ..).step (by decide) ?_
        exact h2

/-! ### Machine/Afe.lean -/

theorem afeRefuse_keeps (cause port off : Nat) (v : Word) (s : State) :
    Keeps (.afe :: eventParts) s (afeRefuse cause port off v s) := by
  unfold afeRefuse
  refine (raise_keeps ..).step (by decide) ?_
  refine Keeps.afe ?_ (by decide)
  exact Keeps.refl _ _

theorem txLevelWrite_keeps (p : Port) (r : LevelReg) (v : Word) (s : State) :
    Keeps (.afe :: eventParts) s (txLevelWrite p r v s) := by
  unfold txLevelWrite
  extract_lets -merge +onlyGivenNames x0
  split
  · refine Keeps.ite ?_ ?_
    · refine (afeRefuse_keeps ..).step (by decide) ?_
      exact Keeps.refl _ _
    · refine Keeps.ite ?_ ?_
      · refine (updPort_keeps ..).step (by decide) ?_
        exact Keeps.refl _ _
      · refine (afeRefuse_keeps ..).step (by decide) ?_
        exact Keeps.refl _ _

theorem notchWrite_keeps (p : Port) (i : Fin 8) (v : Word) (s : State) :
    Keeps (.afe :: eventParts) s (notchWrite p i v s) := by
  unfold notchWrite
  refine Keeps.ite ?_ ?_
  · refine (updPortX_keeps ..).step (by decide) ?_
    exact Keeps.refl _ _
  · refine (afeRefuse_keeps ..).step (by decide) ?_
    exact Keeps.refl _ _

theorem firAdvance_keeps (s : State) :
    Keeps ([.afe]) s (firAdvance s) := by
  unfold firAdvance
  refine Keeps.afe ?_ (by decide)
  exact Keeps.refl _ _

theorem cpwrAdvance_keeps (s : State) :
    Keeps ([.afe]) s (cpwrAdvance s) := by
  unfold cpwrAdvance
  refine Keeps.afe ?_ (by decide)
  exact Keeps.refl _ _

theorem firDataWrite_keeps (v : Word) (s : State) :
    Keeps (.afe :: eventParts) s (firDataWrite v s) := by
  unfold firDataWrite
  extract_lets -merge +onlyGivenNames x0
  extract_lets -merge +onlyGivenNames x1
  have h2 : Keeps (.afe :: eventParts) s x1 := by
    refine Keeps.ite ?_ ?_
    · exact Keeps.refl _ _
    · refine Keeps.ite ?_ ?_
      · refine (afeRefuse_keeps ..).step (by decide) ?_
        exact Keeps.refl _ _
      · refine (updPortX_keeps ..).step (by decide) ?_
        exact Keeps.refl _ _
  refine (firAdvance_keeps ..).step (by decide) ?_
  exact h2

theorem cpwrDataWrite_keeps (v : Word) (s : State) :
    Keeps ([.afe]) s (cpwrDataWrite v s) := by
  unfold cpwrDataWrite
  extract_lets -merge +onlyGivenNames x0
  refine (cpwrAdvance_keeps ..).step (by decide) ?_
  refine Keeps.ite ?_ ?_
  · exact Keeps.refl _ _
  · refine (updPortX_keeps ..).step (by decide) ?_
    exact Keeps.refl _ _

theorem afeCtrlWrite_keeps (v : Word) (s : State) :
    Keeps ([.afe]) s (afeCtrlWrite v s) := by
  unfold afeCtrlWrite
  refine Keeps.afe ?_ (by decide)
  exact Keeps.refl _ _

theorem afeStatusWrite_keeps (v : Word) (s : State) :
    Keeps ([.afe]) s (afeStatusWrite v s) := by
  unfold afeStatusWrite
  refine Keeps.afe ?_ (by decide)
  exact Keeps.refl _ _

theorem frameOffPort_keeps (p : Nat) (f : TxFrame) (s : State) :
    Keeps (.air :: .line :: .lt :: .ltx :: .hi :: eventParts) s (frameOffPort p f s).2 := by
  unfold frameOffPort
  extract_lets -merge +onlyGivenNames rest gone
  have hg : ∀ f u, Keeps (.air :: .line :: .lt :: .ltx :: .hi :: eventParts) s u →
      Keeps (.air :: .line :: .lt :: .ltx :: .hi :: eventParts) s (gone f u).2 := by
    intro f u hu
    simp only [gone]
    split
    · exact (updFrame_keeps ..).step (by decide) hu
    · exact (failFrame_keeps ..).step (by decide) hu
  clear_value gone
  split
  · split
    · exact Keeps.refl _ _
    · exact (failFrame_keeps ..).step (by decide) (Keeps.refl _ _)
  · split
    · exact Keeps.refl _ _
    · split
      · refine (updFrame_keeps ..).step (by decide) (Keeps.ite ?_ ?_)
        · exact (returnCost_keeps ..).step (by decide) (Keeps.refl _ _)
        · exact (cancelCost_keeps ..).step (by decide) (Keeps.refl _ _)
      · split
        · exact hg _ _ ((returnCost_keeps ..).step (by decide) (Keeps.refl _ _))
        · exact hg _ _ ((uncommit_keeps ..).step (by decide) (Keeps.refl _ _))

theorem framesOffPort_keeps (p cause : Nat) (s : State) :
    Keeps (.air :: .line :: .lt :: .ltx :: .hi :: eventParts) s (framesOffPort p cause s) := by
  unfold framesOffPort
  have hf : ∀ (q : List TxFrame) (a : List (Nat × Nat) × State), Keeps (.air :: .line :: .lt :: .ltx :: .hi :: eventParts) s a.2 →
      Keeps (.air :: .line :: .lt :: .ltx :: .hi :: eventParts) s (q.foldl (fun (a : List (Nat × Nat) × State) f =>
        let (d, s) := frameOffPort p f a.2
        (a.1 ++ d, s)) a).2 := by
    intro q
    induction q with
    | nil => exact fun a h => h
    | cons f q ih => exact fun a h => ih _ ((frameOffPort_keeps ..).step (by decide) h)
  refine (resetsSettle_keeps ..).step (by decide) ((resetBegin_keeps ..).step (by decide) (Keeps.line (hf _ _ (Keeps.refl _ _)) (by decide)))

theorem portOff_keeps (p : Nat) (s : State) :
    Keeps (.air :: .afe :: .line :: .lt :: .ltx :: .hi :: eventParts) s (portOff p s) := by
  unfold portOff
  extract_lets -merge +onlyGivenNames x0
  extract_lets -merge +onlyGivenNames x1
  have h2 : Keeps (.air :: .afe :: .line :: .lt :: .ltx :: .hi :: eventParts) s x1 := by
    unfold x1
    refine (updPort_keeps ..).step (by decide) ?_
    exact Keeps.refl _ _
  extract_lets -merge +onlyGivenNames x3
  have h4 : Keeps (.air :: .afe :: .line :: .lt :: .ltx :: .hi :: eventParts) s x3 := by
    unfold x3
    refine (updPortX_keeps ..).step (by decide) ?_
    exact h2
  extract_lets -merge +onlyGivenNames x5
  refine (framesOffPort_keeps ..).step (by decide) ?_
  refine (raise_keeps ..).step (by decide) ?_
  exact h4

theorem portDisable_keeps (p : Nat) (byMss : Bool) (s : State) :
    Keeps (.air :: .afe :: .line :: .lt :: .ltx :: .hi :: eventParts) s (portDisable p byMss s) := by
  unfold portDisable
  extract_lets -merge +onlyGivenNames x0
  have h1 : Keeps (.air :: .afe :: .line :: .lt :: .ltx :: .hi :: eventParts) s x0 := by
    unfold x0
    refine (updPort_keeps ..).step (by decide) ?_
    exact Keeps.refl _ _
  refine Keeps.ite ?_ ?_
  · exact h1
  · extract_lets -merge +onlyGivenNames x2
    have h3 : Keeps (.air :: .afe :: .line :: .lt :: .ltx :: .hi :: eventParts) s x2 := by
      unfold x2
      refine (updPortX_keeps ..).step (by decide) ?_
      exact h1
    refine Keeps.ite ?_ ?_
    · exact h3
    · refine (portOff_keeps ..).step (by decide) ?_
      exact h3

theorem pctrlWrite_keeps (p : Port) (v : Word) (s : State) :
    Keeps (.air :: .afe :: .line :: .lt :: .ltx :: .hi :: eventParts) s (pctrlWrite p v s) := by
  unfold pctrlWrite
  extract_lets -merge +onlyGivenNames x0 x1
  extract_lets -merge +onlyGivenNames x2
  have h3 : Keeps (.air :: .afe :: .line :: .lt :: .ltx :: .hi :: eventParts) s x2 := by
    unfold x2
    refine (updPort_keeps ..).step (by decide) ?_
    exact Keeps.refl _ _
  refine Keeps.ite ?_ ?_
  · refine (portDisable_keeps ..).step (by decide) ?_
    exact h3
  · refine Keeps.ite ?_ ?_
    · refine (updPortX_keeps ..).step (by decide) ?_
      exact h3
    · exact h3

theorem hostWrote_keeps (u : Nat) (s : State) :
    Keeps ([.mssx]) s (hostWrote u s) := by
  unfold hostWrote
  extract_lets -merge +onlyGivenNames x0
  refine Keeps.mssx ?_ (by decide)
  exact Keeps.refl _ _

theorem pctrlHost_keeps (p : Port) (v : Word) (s : State) :
    Keeps (.air :: .afe :: .line :: .lt :: .ltx :: .hi :: eventParts) s (pctrlHost p v s) := by
  unfold pctrlHost
  refine (hostWrote_keeps ..).step (by decide) ?_
  refine (pctrlWrite_keeps ..).step (by decide) ?_
  exact Keeps.refl _ _

theorem faultLeave_keeps (p how : Nat) (s : State) :
    Keeps (.afe :: eventParts) s (faultLeave p how s) := by
  unfold faultLeave
  extract_lets -merge +onlyGivenNames x0
  refine (raise_keeps ..).step (by decide) ?_
  refine (updPort_keeps ..).step (by decide) ?_
  exact Keeps.refl _ _

theorem pstatWrite_keeps (p : Port) (v : Word) (s : State) :
    Keeps (.afe :: eventParts) s (pstatWrite p v s) := by
  unfold pstatWrite
  refine Keeps.ite ?_ ?_
  · refine (faultLeave_keeps ..).step (by decide) ?_
    exact Keeps.refl _ _
  · exact Keeps.refl _ _

theorem driverFault_keeps (p : Nat) (c : BitVec 2) (s : State) :
    Keeps (.air :: .afe :: .line :: .lt :: .ltx :: .hi :: .freeCtr :: eventParts) s (driverFault p c s) := by
  unfold driverFault
  extract_lets -merge +onlyGivenNames x0
  refine Keeps.ite ?_ ?_
  · exact Keeps.refl _ _
  · refine Keeps.ite ?_ ?_
    · refine (updPort_keeps ..).step (by decide) ?_
      exact Keeps.refl _ _
    · extract_lets -merge +onlyGivenNames x1
      split
      rename_i v2 v3 e5
      have hv4 : Keeps (.air :: .afe :: .line :: .lt :: .ltx :: .hi :: .freeCtr :: eventParts) s v3 := by
        refine Keeps.snd e5 ?_
        refine (draw_keeps ..).step (by decide) ?_
        exact Keeps.refl _ _
      clear e5
      extract_lets -merge +onlyGivenNames x6
      have h7 : Keeps (.air :: .afe :: .line :: .lt :: .ltx :: .hi :: .freeCtr :: eventParts) s x6 := by
        unfold x6
        refine (updPort_keeps ..).step (by decide) ?_
        exact hv4
      extract_lets -merge +onlyGivenNames x8
      have h9 : Keeps (.air :: .afe :: .line :: .lt :: .ltx :: .hi :: .freeCtr :: eventParts) s x8 := by
        unfold x8
        refine (updPortX_keeps ..).step (by decide) ?_
        exact h7
      extract_lets -merge +onlyGivenNames x10
      have h11 : Keeps (.air :: .afe :: .line :: .lt :: .ltx :: .hi :: .freeCtr :: eventParts) s x10 := by
        unfold x10
        refine (raise_keeps ..).step (by decide) ?_
        exact h9
      refine (framesOffPort_keeps ..).step (by decide) ?_
      exact h11

theorem portIdle_keeps (p : Nat) (s : State) :
    Keeps (.air :: .afe :: .line :: .lt :: .ltx :: .hi :: .freeCtr :: eventParts) s (portIdle p s) := by
  unfold portIdle
  extract_lets -merge +onlyGivenNames x0
  have h1 : Keeps (.air :: .afe :: .line :: .lt :: .ltx :: .hi :: .freeCtr :: eventParts) s x0 := by
    unfold x0
    refine (updPort_keeps ..).step (by decide) ?_
    exact Keeps.refl _ _
  refine Keeps.ite ?_ ?_
  · refine (driverFault_keeps ..).step (by decide) ?_
    exact h1
  · exact h1

theorem execLdEnRaise_keeps (p : Port) (s : State) {s₁ : State}
    (h : execLdEnRaise p s = .next s₁) : Keeps ([.afe]) s s₁ := by
  unfold execLdEnRaise at h
  refine run_keeps (by decide) (fun u hu => ?_) h
  try beta_reduce
  refine Keeps.ite ?_ ?_
  · refine (updPortX_keeps ..).step (by decide) ?_
    refine (updPort_keeps ..).step (by decide) ?_
    exact hu
  · exact hu

theorem execLdEnFall_keeps (p : Port) (s : State) {s₁ : State}
    (h : execLdEnFall p s = .next s₁) : Keeps ([.afe]) s s₁ := by
  unfold execLdEnFall at h
  refine run_keeps (by decide) (fun u hu => ?_) h
  try beta_reduce
  refine Keeps.ite ?_ ?_
  · exact hu
  · refine (updPortX_keeps ..).step (by decide) ?_
    refine (updPort_keeps ..).step (by decide) ?_
    exact hu

theorem execRxUnblank_keeps (p : Port) (s : State) {s₁ : State}
    (h : execRxUnblank p s = .next s₁) : Keeps ([.afe]) s s₁ := by
  unfold execRxUnblank at h
  refine run_keeps (by decide) (fun u hu => ?_) h
  try beta_reduce
  refine Keeps.ite ?_ ?_
  · exact hu
  · refine (updPortX_keeps ..).step (by decide) ?_
    exact hu

theorem execRxSaturation_keeps (p : Port) (s : State) {s₁ : State}
    (h : execRxSaturation p s = .next s₁) : Keeps (.afe :: eventParts) s s₁ := by
  unfold execRxSaturation at h
  refine run_keeps (by decide) (fun u hu => ?_) h
  try beta_reduce
  refine Keeps.ite ?_ ?_
  · exact hu
  · extract_lets -merge +onlyGivenNames x0
    have h1 : Keeps (.afe :: eventParts) s x0 := by
      unfold x0
      refine (updPort_keeps ..).step (by decide) ?_
      exact hu
    refine Keeps.ite ?_ ?_
    · exact h1
    · refine (raise_keeps ..).step (by decide) ?_
      refine (updPort_keeps ..).step (by decide) ?_
      exact h1

theorem execTxClip_keeps (p : Port) (count : Nat) (s : State) {s₁ : State}
    (h : execTxClip p count s = .next s₁) : Keeps (.afe :: eventParts) s s₁ := by
  unfold execTxClip at h
  refine run_keeps (by decide) (fun u hu => ?_) h
  try beta_reduce
  refine Keeps.ite ?_ ?_
  · exact hu
  · extract_lets -merge +onlyGivenNames x0
    have h1 : Keeps (.afe :: eventParts) s x0 := by
      unfold x0
      refine (updPort_keeps ..).step (by decide) ?_
      exact hu
    refine Keeps.ite ?_ ?_
    · exact h1
    · refine (raise_keeps ..).step (by decide) ?_
      refine (updPort_keeps ..).step (by decide) ?_
      exact h1

theorem execDriverFault_keeps (p : Port) (byCurrent : Bool) (s : State) {s₁ : State}
    (h : execDriverFault p byCurrent s = .next s₁) : Keeps (.air :: .afe :: .line :: .lt :: .ltx :: .hi :: .freeCtr :: eventParts) s s₁ := by
  unfold execDriverFault at h
  refine run_keeps (by decide) (fun u hu => ?_) h
  refine (driverFault_keeps ..).step (by decide) ?_
  exact hu

theorem execFaultAutoRetry_keeps (p : Port) (s : State) {s₁ : State}
    (h : execFaultAutoRetry p s = .next s₁) : Keeps (.afe :: eventParts) s s₁ := by
  unfold execFaultAutoRetry at h
  refine run_keeps (by decide) (fun u hu => ?_) h
  try beta_reduce
  extract_lets -merge +onlyGivenNames x0
  refine Keeps.ite ?_ ?_
  · refine (faultLeave_keeps ..).step (by decide) ?_
    refine (updPortX_keeps ..).step (by decide) ?_
    exact hu
  · exact hu

theorem execFaultClr_keeps (p : Port) (v : Word) (s : State) {s₁ : State}
    (h : execFaultClr p v s = .next s₁) : Keeps (.afe :: .slp :: .pwr :: eventParts) s s₁ := by
  unfold execFaultClr at h
  refine runHost_keeps (by decide) (fun u hu => ?_) h
  refine (pstatWrite_keeps ..).step (by decide) ?_
  exact hu

theorem execPortDisable_keeps (p : Port) (v : Word) (s : State) {s₁ : State}
    (h : execPortDisable p v s = .next s₁) : Keeps (.air :: .afe :: .line :: .lt :: .ltx :: .slp :: .hi :: .pwr :: eventParts) s s₁ := by
  unfold execPortDisable at h
  refine runHost_keeps (by decide) (fun u hu => ?_) h
  refine (pctrlHost_keeps ..).step (by decide) ?_
  exact hu

theorem execPortOff_keeps (p : Port) (s : State) {s₁ : State}
    (h : execPortOff p s = .next s₁) : Keeps (.air :: .afe :: .line :: .lt :: .ltx :: .hi :: eventParts) s s₁ := by
  unfold execPortOff at h
  refine run_keeps (by decide) (fun u hu => ?_) h
  try beta_reduce
  refine Keeps.ite ?_ ?_
  · refine (portOff_keeps ..).step (by decide) ?_
    exact hu
  · exact hu

theorem execPortEnable_keeps (p : Port) (v : Word) (s : State) {s₁ : State}
    (h : execPortEnable p v s = .next s₁) : Keeps (.air :: .afe :: .line :: .lt :: .ltx :: .slp :: .hi :: .pwr :: eventParts) s s₁ := by
  unfold execPortEnable at h
  refine runHost_keeps (by decide) (fun u hu => ?_) h
  try beta_reduce
  refine (pctrlHost_keeps ..).step (by decide) ?_
  exact hu

theorem execPortUp_keeps (p : Port) (s : State) {s₁ : State}
    (h : execPortUp p s = .next s₁) : Keeps (.air :: .afe :: .line :: .lt :: .ltx :: .hi :: .freeCtr :: eventParts) s s₁ := by
  unfold execPortUp at h
  refine run_keeps (by decide) (fun u hu => ?_) h
  try beta_reduce
  refine Keeps.ite ?_ ?_
  · refine (portIdle_keeps ..).step (by decide) ?_
    refine (raise_keeps ..).step (by decide) ?_
    exact hu
  · exact hu

theorem execFirCoeffWrite_keeps (v : Word) (s : State) {s₁ : State}
    (h : execFirCoeffWrite v s = .next s₁) : Keeps (.afe :: .slp :: .pwr :: eventParts) s s₁ := by
  unfold execFirCoeffWrite at h
  refine runHost_keeps (by decide) (fun u hu => ?_) h
  refine (firDataWrite_keeps ..).step (by decide) ?_
  exact hu

theorem execFirSelWrite_keeps (p : Port) (v : Word) (s : State) {s₁ : State}
    (h : execFirSelWrite p v s = .next s₁) : Keeps (.air :: .afe :: .line :: .lt :: .ltx :: .slp :: .hi :: .pwr :: eventParts) s s₁ := by
  unfold execFirSelWrite at h
  refine runHost_keeps (by decide) (fun u hu => ?_) h
  try beta_reduce
  refine (pctrlHost_keeps ..).step (by decide) ?_
  exact hu

theorem execFirBankSwap_keeps (p : Port) (s : State) {s₁ : State}
    (h : execFirBankSwap p s = .next s₁) : Keeps ([.afe]) s s₁ := by
  unfold execFirBankSwap at h
  refine run_keeps (by decide) (fun u hu => ?_) h
  try beta_reduce
  split
  · refine Keeps.ite ?_ ?_
    · exact hu
    · refine (updPort_keeps ..).step (by decide) ?_
      exact hu
  · exact hu

theorem execNotchWrite_keeps (p : Port) (i : Fin 8) (v : Word) (s : State) {s₁ : State}
    (h : execNotchWrite p i v s = .next s₁) : Keeps (.afe :: .slp :: .pwr :: eventParts) s s₁ := by
  unfold execNotchWrite at h
  refine runHost_keeps (by decide) (fun u hu => ?_) h
  refine (notchWrite_keeps ..).step (by decide) ?_
  exact hu

theorem execTxLevelWrite_keeps (p : Port) (r : LevelReg) (v : Word) (s : State) {s₁ : State}
    (h : execTxLevelWrite p r v s = .next s₁) : Keeps (.afe :: .slp :: .pwr :: eventParts) s s₁ := by
  unfold execTxLevelWrite at h
  refine runHost_keeps (by decide) (fun u hu => ?_) h
  refine (txLevelWrite_keeps ..).step (by decide) ?_
  exact hu

theorem execAfeLock_keeps (v : Word) (s : State) {s₁ : State}
    (h : execAfeLock v s = .next s₁) : Keeps ([.afe, .slp, .pwr]) s s₁ := by
  unfold execAfeLock at h
  refine runHost_keeps (by decide) (fun u hu => ?_) h
  refine (afeCtrlWrite_keeps ..).step (by decide) ?_
  exact hu

theorem execPreambleDetection_keeps (p : Port) (ofdm : Bool) (s : State) {s₁ : State}
    (h : execPreambleDetection p ofdm s = .next s₁) : Keeps ([.afe]) s s₁ := by
  unfold execPreambleDetection at h
  refine run_keeps (by decide) (fun u hu => ?_) h
  try beta_reduce
  refine Keeps.ite ?_ ?_
  · refine (updPortX_keeps ..).step (by decide) ?_
    refine (updPort_keeps ..).step (by decide) ?_
    exact hu
  · exact hu

/-! ### Machine/Receive.lean -/

theorem updOfd_keeps (p : Nat) (g : OfdPort → OfdPort) (s : State) :
    Keeps ([.ofd]) s (updOfd p g s) := by
  unfold updOfd
  refine Keeps.ofd ?_ (by decide)
  exact Keeps.refl _ _

theorem updRbm_keeps (p : Nat) (g : RbmPort → RbmPort) (s : State) :
    Keeps ([.rbm]) s (updRbm p g s) := by
  unfold updRbm
  refine Keeps.rbm ?_ (by decide)
  exact Keeps.refl _ _

theorem countFc_keeps (f : RxFrame) (s : State) :
    Keeps ([.ofd, .rbm]) s (countFc f s) := by
  unfold countFc
  refine Keeps.ite ?_ ?_
  · refine (updOfd_keeps ..).step (by decide) ?_
    exact Keeps.refl _ _
  · refine (updRbm_keeps ..).step (by decide) ?_
    exact Keeps.refl _ _

theorem countHcs_keeps (f : RxFrame) (s : State) :
    Keeps ([.ofd, .rbm]) s (countHcs f s) := by
  unfold countHcs
  refine Keeps.ite ?_ ?_
  · refine (updOfd_keeps ..).step (by decide) ?_
    exact Keeps.refl _ _
  · refine (updRbm_keeps ..).step (by decide) ?_
    exact Keeps.refl _ _

theorem countRs_keeps (f : RxFrame) (s : State) :
    Keeps ([.ofd, .rbm]) s (countRs f s) := by
  unfold countRs
  refine Keeps.ite ?_ ?_
  · refine (updOfd_keeps ..).step (by decide) ?_
    exact Keeps.refl _ _
  · refine (updRbm_keeps ..).step (by decide) ?_
    exact Keeps.refl _ _

theorem countFcs_keeps (f : RxFrame) (s : State) :
    Keeps ([.ofd, .rbm]) s (countFcs f s) := by
  unfold countFcs
  refine Keeps.ite ?_ ?_
  · refine (updOfd_keeps ..).step (by decide) ?_
    exact Keeps.refl _ _
  · refine (updRbm_keeps ..).step (by decide) ?_
    exact Keeps.refl _ _

theorem countOk_keeps (f : RxFrame) (s : State) :
    Keeps ([.line, .ofd, .rbm]) s (countOk f s) := by
  unfold countOk
  refine Keeps.ite ?_ ?_
  · refine (updOfd_keeps ..).step (by decide) ?_
    exact Keeps.refl _ _
  · extract_lets -merge +onlyGivenNames x0
    extract_lets -merge +onlyGivenNames x1
    have h2 : Keeps ([.line, .ofd, .rbm]) s x1 := by
      unfold x1
      refine (updRbm_keeps ..).step (by decide) ?_
      exact Keeps.refl _ _
    refine Keeps.line ?_ (by decide)
    exact h2

theorem lfRaise_keeps (code port : Nat) (p : List (Nat × Nat × Nat)) (s : State) :
    Keeps (.line :: eventParts) s (lfRaise code port p s) := by
  unfold lfRaise
  refine Keeps.ite ?_ ?_
  · exact Keeps.refl _ _
  · refine (raise_keeps ..).step (by decide) ?_
    refine Keeps.line ?_ (by decide)
    exact Keeps.refl _ _

theorem endRx_keeps (f : RxFrame) (s : State) :
    Keeps ([.afe]) s (endRx f s) := by
  unfold endRx
  refine (updPortX_keeps ..).step (by decide) ?_
  refine (updPort_keeps ..).step (by decide) ?_
  exact Keeps.refl _ _

theorem holdPair_keeps (f : RxFrame) (s : State) :
    Keeps ([.rbm]) s (holdPair f s) := by
  unfold holdPair
  refine Keeps.ite ?_ ?_
  · refine Keeps.rbm ?_ (by decide)
    exact Keeps.refl _ _
  · exact Keeps.refl _ _

theorem rxFront_keeps (f : RxFrame) (s : State) :
    Keeps (.afe :: .line :: .ofd :: .rbm :: eventParts) s (rxFront f s).2 := by
  unfold rxFront
  refine Keeps.ite2 ?_ ?_
  · try with_reducible refine Keeps.mk ?_
    exact Keeps.refl _ _
  · extract_lets -merge +onlyGivenNames x0
    have h1 : Keeps (.afe :: .line :: .ofd :: .rbm :: eventParts) s x0 := by
      unfold x0
      refine (endRx_keeps ..).step (by decide) ?_
      exact Keeps.refl _ _
    extract_lets -merge +onlyGivenNames x2 x3 x4 x5 x6 x7 x8
    refine Keeps.ite2 ?_ ?_
    · extract_lets -merge +onlyGivenNames x9
      have h10 : Keeps (.afe :: .line :: .ofd :: .rbm :: eventParts) s x9 := by
        unfold x9
        refine (countFc_keeps ..).step (by decide) ?_
        exact h1
      refine Keeps.ite2 ?_ ?_
      · try with_reducible refine Keeps.mk ?_
        exact h10
      · try with_reducible refine Keeps.mk ?_
        refine (raise_keeps ..).step (by decide) ?_
        refine (updRbm_keeps ..).step (by decide) ?_
        exact h10
    · refine Keeps.ite2 ?_ ?_
      · try with_reducible refine Keeps.mk ?_
        refine (countFc_keeps ..).step (by decide) ?_
        exact h1
      · refine Keeps.ite2 ?_ ?_
        · try with_reducible refine Keeps.mk ?_
          refine (holdPair_keeps ..).step (by decide) ?_
          refine (countHcs_keeps ..).step (by decide) ?_
          exact h1
        · refine Keeps.ite2 ?_ ?_
          · try with_reducible refine Keeps.mk ?_
            refine (holdPair_keeps ..).step (by decide) ?_
            refine (countRs_keeps ..).step (by decide) ?_
            exact h1
          · refine Keeps.ite2 ?_ ?_
            · try with_reducible refine Keeps.mk ?_
              exact h1
            · refine Keeps.ite2 ?_ ?_
              · try with_reducible refine Keeps.mk ?_
                refine (lfRaise_keeps ..).step (by decide) ?_
                exact h1
              · refine Keeps.ite2 ?_ ?_
                · try with_reducible refine Keeps.mk ?_
                  exact h1
                · refine Keeps.ite2 ?_ ?_
                  · try with_reducible refine Keeps.mk ?_
                    exact h1
                  · refine Keeps.ite2 ?_ ?_
                    · try with_reducible refine Keeps.mk ?_
                      refine (holdPair_keeps ..).step (by decide) ?_
                      refine (countFcs_keeps ..).step (by decide) ?_
                      exact h1
                    · split
                      · refine Keeps.ite2 ?_ ?_
                        · try with_reducible refine Keeps.mk ?_
                          exact h1
                        · try with_reducible refine Keeps.mk ?_
                          exact h1

theorem pushAck_keeps (o : Front) (seq : Byte) (status : Nat) (s : State) :
    Keeps ([.line]) s (pushAck o seq status s) := by
  unfold pushAck
  extract_lets -merge +onlyGivenNames x0
  refine Keeps.line ?_ (by decide)
  exact Keeps.refl _ _

theorem failReply_keeps (o : Front) (status : Nat) (s : State) :
    Keeps ([.line]) s (failReply o status s) := by
  unfold failReply
  refine Keeps.ite ?_ ?_
  · refine (pushAck_keeps ..).step (by decide) ?_
    exact Keeps.refl _ _
  · exact Keeps.refl _ _

theorem setHeld_keeps (o : Front) (i : Nat) (s : State) :
    Keeps ([.cx]) s (setHeld o i s) := by
  unfold setHeld
  extract_lets -merge +onlyGivenNames x0
  refine Keeps.ite ?_ ?_
  · refine Keeps.ite ?_ ?_
    · refine (updUse_keeps ..).step (by decide) ?_
      exact Keeps.refl _ _
    · refine Keeps.ite ?_ ?_
      · split
        · refine (updUse_keeps ..).step (by decide) ?_
          exact Keeps.refl _ _
        · exact Keeps.refl _ _
      · refine (updSlot_keeps ..).step (by decide) ?_
        exact Keeps.refl _ _
  · refine (updSlot_keeps ..).step (by decide) ?_
    exact Keeps.refl _ _

theorem replayed_keeps (o : Front) (s : State) :
    Keeps (.line :: .cx :: eventParts) s (replayed o s) := by
  unfold replayed
  refine (lfRaise_keeps ..).step (by decide) ?_
  refine Keeps.cx ?_ (by decide)
  exact Keeps.refl _ _

theorem heardLeaf_keeps (n : Nat) (s : State) :
    Keeps (.lt :: eventParts) s (heardLeaf n s) := by
  unfold heardLeaf
  extract_lets -merge +onlyGivenNames x0
  extract_lets -merge +onlyGivenNames x1
  have h2 : Keeps (.lt :: eventParts) s x1 := by
    refine Keeps.lt ?_ (by decide)
    exact Keeps.refl _ _
  extract_lets -merge +onlyGivenNames x3
  refine Keeps.ite ?_ ?_
  · refine (changeState_keeps ..).step (by decide) ?_
    exact h2
  · exact h2

theorem noteGrant_keeps (o : Front) (s : State) :
    Keeps ([.ltx]) s (noteGrant o s) := by
  unfold noteGrant
  split
  · exact Keeps.refl _ _
  · extract_lets -merge +onlyGivenNames x0
    refine Keeps.ite ?_ ?_
    · refine (grantFrom_keeps ..).step (by decide) ?_
      exact Keeps.refl _ _
    · exact Keeps.refl _ _

theorem accepted_keeps (o : Front) (s : State) :
    Keeps (.line :: .ofd :: .rbm :: .lt :: .ltx :: eventParts) s (accepted o s) := by
  unfold accepted
  extract_lets -merge +onlyGivenNames x0
  have h1 : Keeps (.line :: .ofd :: .rbm :: .lt :: .ltx :: eventParts) s x0 := by
    unfold x0
    refine (noteGrant_keeps ..).step (by decide) ?_
    refine (countOk_keeps ..).step (by decide) ?_
    exact Keeps.refl _ _
  refine Keeps.ite ?_ ?_
  · refine Keeps.ite ?_ ?_
    · refine (heardLeaf_keeps ..).step (by decide) ?_
      exact h1
    · exact h1
  · refine Keeps.ite ?_ ?_
    · refine Keeps.ltx ?_ (by decide)
      exact h1
    · exact h1

theorem rxVerify_keeps (o : Front) (i : Nat) (s : State) :
    Keeps (.air :: .line :: .ofd :: .rbm :: .lt :: .ltx :: .cx :: .hi :: .freeCtr :: eventParts) s (rxVerify o i s).2 := by
  unfold rxVerify
  extract_lets -merge +onlyGivenNames x0
  split
  · split
    rename_i v1 v2 e4
    have hv3 : Keeps (.air :: .line :: .ofd :: .rbm :: .lt :: .ltx :: .cx :: .hi :: .freeCtr :: eventParts) s v2 := by
      refine Keeps.snd e4 ?_
      refine (admitJob_keeps ..).step (by decide) ?_
      exact Keeps.refl _ _
    clear e4
    refine Keeps.ite2 ?_ ?_
    · try with_reducible refine Keeps.mk ?_
      exact hv3
    · extract_lets -merge +onlyGivenNames x5
      have h6 : Keeps (.air :: .line :: .ofd :: .rbm :: .lt :: .ltx :: .cx :: .hi :: .freeCtr :: eventParts) s x5 := by
        unfold x5
        refine (jobDone_keeps ..).step (by decide) ?_
        exact hv3
      extract_lets -merge +onlyGivenNames x7
      have h8 : ∀ u9, Keeps (.air :: .line :: .ofd :: .rbm :: .lt :: .ltx :: .cx :: .hi :: .freeCtr :: eventParts) s u9 → Keeps (.air :: .line :: .ofd :: .rbm :: .lt :: .ltx :: .cx :: .hi :: .freeCtr :: eventParts) s (x7 u9) := by
        intro u9 hu10
        unfold x7
        try beta_reduce
        refine Keeps.ite ?_ ?_
        · refine (autoRekey_keeps ..).step (by decide) ?_
          exact hu10
        · exact hu10
      extract_lets -merge +onlyGivenNames x11 x12
      split
      · extract_lets -merge +onlyGivenNames x13
        have h14 : Keeps (.air :: .line :: .ofd :: .rbm :: .lt :: .ltx :: .cx :: .hi :: .freeCtr :: eventParts) s x13 := by
          unfold x13
          refine (lfRaise_keeps ..).step (by decide) ?_
          exact h6
        try with_reducible refine Keeps.mk ?_
        refine h8 _ ?_
        refine (failReply_keeps ..).step (by decide) ?_
        exact h14
      · extract_lets -merge +onlyGivenNames x15
        try with_reducible refine Keeps.mk ?_
        refine h8 _ ?_
        refine (accepted_keeps ..).step (by decide) ?_
        refine (setHeld_keeps ..).step (by decide) ?_
        exact h6

theorem rxOpen_keeps (f : RxFrame) (s : State) :
    Keeps (.air :: .afe :: .line :: .ofd :: .rbm :: .lt :: .ltx :: .cx :: .hi :: .freeCtr :: eventParts) s (rxOpen f s).2 := by
  unfold rxOpen
  split
  · rename_i v0 e2
    have hv1 : Keeps (.air :: .afe :: .line :: .ofd :: .rbm :: .lt :: .ltx :: .cx :: .hi :: .freeCtr :: eventParts) s v0 := by
      refine Keeps.snd e2 ?_
      refine (rxFront_keeps ..).step (by decide) ?_
      exact Keeps.refl _ _
    clear e2
    try with_reducible refine Keeps.mk ?_
    exact hv1
  · rename_i v3 v4 e6
    have hv5 : Keeps (.air :: .afe :: .line :: .ofd :: .rbm :: .lt :: .ltx :: .cx :: .hi :: .freeCtr :: eventParts) s v4 := by
      refine Keeps.snd e6 ?_
      refine (rxFront_keeps ..).step (by decide) ?_
      exact Keeps.refl _ _
    clear e6
    refine Keeps.ite2 ?_ ?_
    · try with_reducible refine Keeps.mk ?_
      exact hv5
    · refine Keeps.ite2 ?_ ?_
      · try with_reducible refine Keeps.mk ?_
        exact hv5
      · refine Keeps.ite2 ?_ ?_
        · try with_reducible refine Keeps.mk ?_
          refine (countOk_keeps ..).step (by decide) ?_
          exact hv5
        · refine Keeps.ite2 ?_ ?_
          · try with_reducible refine Keeps.mk ?_
            exact hv5
          · split
            · rename_i v7 e9
              have hv8 : Keeps (.air :: .afe :: .line :: .ofd :: .rbm :: .lt :: .ltx :: .cx :: .hi :: .freeCtr :: eventParts) s v7 := by
                refine Keeps.snd e9 ?_
                refine (classKey_keeps ..).step (by decide) ?_
                exact hv5
              clear e9
              try with_reducible refine Keeps.mk ?_
              exact hv8
            · rename_i v10 e12
              have hv11 : Keeps (.air :: .afe :: .line :: .ofd :: .rbm :: .lt :: .ltx :: .cx :: .hi :: .freeCtr :: eventParts) s v10 := by
                refine Keeps.snd e12 ?_
                refine (classKey_keeps ..).step (by decide) ?_
                exact hv5
              clear e12
              try with_reducible refine Keeps.mk ?_
              refine Keeps.ite ?_ ?_
              · refine (autoRekey_keeps ..).step (by decide) ?_
                exact hv11
              · exact hv11
            · rename_i v13 v14 e16
              have hv15 : Keeps (.air :: .afe :: .line :: .ofd :: .rbm :: .lt :: .ltx :: .cx :: .hi :: .freeCtr :: eventParts) s v14 := by
                refine Keeps.snd e16 ?_
                refine (classKey_keeps ..).step (by decide) ?_
                exact hv5
              clear e16
              extract_lets -merge +onlyGivenNames x17
              refine Keeps.ite2 ?_ ?_
              · try with_reducible refine Keeps.mk ?_
                refine Keeps.ite ?_ ?_
                · refine (failReply_keeps ..).step (by decide) ?_
                  exact hv15
                · exact hv15
              · refine Keeps.ite2 ?_ ?_
                · try with_reducible refine Keeps.mk ?_
                  refine Keeps.cx ?_ (by decide)
                  exact hv15
                · refine Keeps.ite2 ?_ ?_
                  · try with_reducible refine Keeps.mk ?_
                    refine Keeps.ite ?_ ?_
                    · exact hv15
                    · refine (replayed_keeps ..).step (by decide) ?_
                      exact hv15
                  · refine (rxVerify_keeps ..).step (by decide) ?_
                    exact hv15

theorem rxFill_keeps (n : Nat) (s : State) : Keeps (.dma :: .hi :: .freeCtr :: eventParts) s (rxFill n s) := by
  induction n generalizing s with
  | zero => exact Keeps.refl _ _
  | succ n ih =>
    unfold rxFill
    split
    · refine Keeps.ite ?_ ?_
      · refine (ih _).step (by decide) ((finish_keeps ..).step (by decide) ((giveBuf_keeps ..).step (by decide) ?_))
        exact (hostWrite_keeps ..).step (by decide) (Keeps.hi (Keeps.hi (Keeps.refl _ _) (by decide)) (by decide))
      · refine (ih _).step (by decide) (withDst_keeps (by decide) (fun _ h => h) ?_)
        exact Keeps.hi (Keeps.refl _ _) (by decide)
    · exact Keeps.refl _ _

theorem rxFillAll_keeps (s : State) :
    Keeps (.dma :: .hi :: .freeCtr :: eventParts) s (rxFillAll s) := by
  unfold rxFillAll
  refine (rxFill_keeps ..).step (by decide) ?_
  exact Keeps.refl _ _

theorem rxDeliver_keeps (o : Front) (s : State) :
    Keeps (.dma :: .hi :: .freeCtr :: eventParts) s (rxDeliver o s) := by
  unfold rxDeliver
  extract_lets -merge +onlyGivenNames x0
  refine (rxFillAll_keeps ..).step (by decide) ?_
  refine Keeps.hi ?_ (by decide)
  exact Keeps.refl _ _

theorem execRxHoldExpiry_keeps (s : State) {s₁ : State}
    (h : execRxHoldExpiry s = .next s₁) : Keeps (.hi :: eventParts) s s₁ := by
  unfold execRxHoldExpiry at h
  refine run_keeps (by decide) (fun u hu => ?_) h
  try beta_reduce
  split
  · exact hu
  · extract_lets -merge +onlyGivenNames x0
    extract_lets -merge +onlyGivenNames x1
    have h2 : Keeps (.hi :: eventParts) s x1 := by
      unfold x1
      refine (giveBuf_keeps ..).step (by decide) ?_
      refine Keeps.hi ?_ (by decide)
      exact hu
    refine Keeps.ite ?_ ?_
    · exact h2
    · refine (raise_keeps ..).step (by decide) ?_
      refine Keeps.hi ?_ (by decide)
      exact h2

theorem dataTake_keeps {L : List Part} {s t : State} {o : Front} {k : State → State} (hL : .dma :: .line :: .hi :: .freeCtr :: eventParts ⊆ L)
    (hk : ∀ u, Keeps L s u → Keeps L s (k u)) (h : Keeps L s t) : Keeps L s (dataTake o k t) := by
  unfold dataTake
  refine Keeps.ite ?_ (Keeps.ite ?_ h)
  · have a := hk _ ((takeBuf_keeps false t).step (List.Subset.trans (by decide) hL) h)
    exact (rxDeliver_keeps ..).step (List.Subset.trans (by decide) hL)
      (Keeps.ite ((pushAck_keeps ..).step (List.Subset.trans (by decide) hL) a) a)
  · exact (pushAck_keeps ..).step (List.Subset.trans (by decide) hL) h

theorem dataBroadcast_keeps (o : Front) (s : State) :
    Keeps (.dma :: .line :: .lt :: .ltx :: .hi :: .freeCtr :: eventParts) s (dataBroadcast o s) := by
  unfold dataBroadcast
  extract_lets -merge +onlyGivenNames x0
  have h1 : ∀ u2, Keeps (.dma :: .line :: .lt :: .ltx :: .hi :: .freeCtr :: eventParts) s u2 → Keeps (.dma :: .line :: .lt :: .ltx :: .hi :: .freeCtr :: eventParts) s (x0 u2) := by
    intro u2 hu3
    unfold x0
    try beta_reduce
    refine Keeps.ltx ?_ (by decide)
    exact hu3
  split
  · refine dataTake_keeps (by decide) ?_ ?_
    · intro u4 hu5
      try beta_reduce
      refine h1 _ ?_
      exact hu5
    · exact Keeps.refl _ _
  · extract_lets -merge +onlyGivenNames x6
    refine Keeps.ite ?_ ?_
    · refine dataTake_keeps (by decide) ?_ ?_
      · intro u7 hu8
        try beta_reduce
        refine h1 _ ?_
        exact hu8
      · refine Keeps.lt ?_ (by decide)
        exact Keeps.refl _ _
    · exact Keeps.refl _ _

theorem confirmJoin_keeps (o : Front) (n : Nat) (s : State) :
    Keeps (.line :: .lt :: eventParts) s (confirmJoin o n s) := by
  unfold confirmJoin
  extract_lets -merge +onlyGivenNames x0
  have h1 : Keeps (.line :: .lt :: eventParts) s x0 := by
    unfold x0
    refine (updEntry_keeps ..).step (by decide) ?_
    exact Keeps.refl _ _
  extract_lets -merge +onlyGivenNames x2
  extract_lets -merge +onlyGivenNames x3
  have h4 : Keeps (.line :: .lt :: eventParts) s x3 := by
    refine Keeps.lt ?_ (by decide)
    exact h1
  extract_lets -merge +onlyGivenNames x5
  have h6 : Keeps (.line :: .lt :: eventParts) s x5 := by
    refine Keeps.ite ?_ ?_
    · refine (pushAck_keeps ..).step (by decide) ?_
      exact h4
    · exact h4
  refine (raise_keeps ..).step (by decide) ?_
  exact h6

theorem onData_keeps (o : Front) (s : State) :
    Keeps (.dma :: .line :: .lt :: .ltx :: .hi :: .freeCtr :: eventParts) s (onData o s) := by
  unfold onData
  refine Keeps.ite ?_ ?_
  · refine Keeps.ite ?_ ?_
    · refine (dataBroadcast_keeps ..).step (by decide) ?_
      exact Keeps.refl _ _
    · exact Keeps.refl _ _
  · extract_lets -merge +onlyGivenNames x0 x1 x2
    extract_lets -merge +onlyGivenNames x3
    have h4 : ∀ u5, Keeps (.dma :: .line :: .lt :: .ltx :: .hi :: .freeCtr :: eventParts) s u5 → Keeps (.dma :: .line :: .lt :: .ltx :: .hi :: .freeCtr :: eventParts) s (x3 u5) := by
      intro u5 hu6
      unfold x3
      try beta_reduce
      refine (updEntry_keeps ..).step (by decide) ?_
      exact hu6
    refine Keeps.ite ?_ ?_
    · refine Keeps.ite ?_ ?_
      · refine (confirmJoin_keeps ..).step (by decide) ?_
        exact Keeps.refl _ _
      · exact Keeps.refl _ _
    · refine Keeps.ite ?_ ?_
      · refine Keeps.ite ?_ ?_
        · refine h4 _ ?_
          refine Keeps.ite ?_ ?_
          · refine (pushAck_keeps ..).step (by decide) ?_
            exact Keeps.refl _ _
          · exact Keeps.refl _ _
        · refine dataTake_keeps (by decide) ?_ ?_
          · intro u7 hu8
            try beta_reduce
            refine h4 _ ?_
            exact hu8
          · exact Keeps.refl _ _
      · refine Keeps.ite ?_ ?_
        · refine Keeps.ite ?_ ?_
          · refine (pushAck_keeps ..).step (by decide) ?_
            exact Keeps.refl _ _
          · exact Keeps.refl _ _
        · refine Keeps.ite ?_ ?_
          · refine (pushAck_keeps ..).step (by decide) ?_
            exact Keeps.refl _ _
          · exact Keeps.refl _ _

theorem copyOver_keeps (o : Front) (s : State) :
    Keeps (.lt :: eventParts) s (copyOver o s) := by
  unfold copyOver
  extract_lets -merge +onlyGivenNames x0 x1
  refine Keeps.ite ?_ ?_
  · refine (raise_keeps ..).step (by decide) ?_
    refine (updEntry_keeps ..).step (by decide) ?_
    exact Keeps.refl _ _
  · exact Keeps.refl _ _

theorem joinedNow_keeps (s : State) :
    Keeps (.lt :: .ltx :: eventParts) s (joinedNow s) := by
  unfold joinedNow
  extract_lets -merge +onlyGivenNames x0 x1
  extract_lets -merge +onlyGivenNames x2
  have h3 : Keeps (.lt :: .ltx :: eventParts) s x2 := by
    refine Keeps.lt_ltx ?_ (by decide) (by decide)
    exact Keeps.refl _ _
  refine (raise_keeps ..).step (by decide) ?_
  exact h3

theorem renumber_keeps (f : TxFrame) (e : Byte) (s : State) :
    Keeps ([.line, .lt, .freeCtr]) s (renumber f e s) := by
  unfold renumber
  extract_lets -merge +onlyGivenNames x0
  extract_lets -merge +onlyGivenNames x1
  have h2 : Keeps ([.line, .lt, .freeCtr]) s x1 := by
    refine Keeps.ite ?_ ?_
    · refine (updEntry_keeps ..).step (by decide) ?_
      exact Keeps.refl _ _
    · refine (updEntry_keeps ..).step (by decide) ?_
      exact Keeps.refl _ _
  extract_lets -merge +onlyGivenNames x3
  have h4 : Keeps ([.line, .lt, .freeCtr]) s x3 := by
    unfold x3
    refine (updFrame_keeps ..).step (by decide) ?_
    exact h2
  refine Keeps.ite ?_ ?_
  · refine (contend_keeps ..).step (by decide) ?_
    exact h4
  · exact h4

theorem attemptOver_keeps (f : TxFrame) (s : State) :
    Keeps (.air :: .line :: .lt :: .ltx :: .slph :: .hi :: .freeCtr :: eventParts) s (attemptOver f s) := by
  unfold attemptOver
  refine Keeps.ite ?_ ?_
  · refine (failFrame_keeps ..).step (by decide) ?_
    exact Keeps.refl _ _
  · extract_lets -merge +onlyGivenNames x0
    refine Keeps.ite ?_ ?_
    · refine (giveUp_keeps ..).step (by decide) ?_
      exact Keeps.refl _ _
    · extract_lets -merge +onlyGivenNames x1
      have h2 : Keeps (.air :: .line :: .lt :: .ltx :: .slph :: .hi :: .freeCtr :: eventParts) s x1 := by
        unfold x1
        refine (requeue_keeps ..).step (by decide) ?_
        exact Keeps.refl _ _
      refine Keeps.ite ?_ ?_
      · refine (contend_keeps ..).step (by decide) ?_
        exact h2
      · exact h2

theorem onAck_keeps (o : Front) (s : State) :
    Keeps (.air :: .line :: .lt :: .ltx :: .slp :: .slph :: .hi :: .freeCtr :: eventParts) s (onAck o s) := by
  unfold onAck
  extract_lets -merge +onlyGivenNames x0
  extract_lets -merge +onlyGivenNames x1
  have h2 : Keeps (.air :: .line :: .lt :: .ltx :: .slp :: .slph :: .hi :: .freeCtr :: eventParts) s x1 := by
    unfold x1
    refine (copyOver_keeps ..).step (by decide) ?_
    exact Keeps.refl _ _
  extract_lets -merge +onlyGivenNames x3
  extract_lets -merge +onlyGivenNames x4
  have h5 : Keeps (.air :: .line :: .lt :: .ltx :: .slp :: .slph :: .hi :: .freeCtr :: eventParts) s x4 := by
    refine Keeps.ite ?_ ?_
    · refine (grantFrom_keeps ..).step (by decide) ?_
      exact h2
    · exact h2
  extract_lets -merge +onlyGivenNames x6 x7
  split
  · exact h5
  · refine Keeps.ite ?_ ?_
    · refine Keeps.ite ?_ ?_
      · extract_lets -merge +onlyGivenNames x8
        extract_lets -merge +onlyGivenNames x9
        have h10 : Keeps (.air :: .line :: .lt :: .ltx :: .slp :: .slph :: .hi :: .freeCtr :: eventParts) s x9 := by
          refine Keeps.slp ?_ (by decide)
          exact h5
        extract_lets -merge +onlyGivenNames x11
        have h12 : Keeps (.air :: .line :: .lt :: .ltx :: .slp :: .slph :: .hi :: .freeCtr :: eventParts) s x11 := by
          unfold x11
          refine (cwSet_keeps ..).step (by decide) ?_
          refine (endFrame_keeps ..).step (by decide) ?_
          refine (finishOpt_keeps ..).step (by decide) ?_
          exact h10
        refine Keeps.ite ?_ ?_
        · refine (joinedNow_keeps ..).step (by decide) ?_
          exact h12
        · exact h12
      · exact h5
    · refine Keeps.ite ?_ ?_
      · refine (renumber_keeps ..).step (by decide) ?_
        exact h5
      · extract_lets -merge +onlyGivenNames x13
        refine (attemptOver_keeps ..).step (by decide) ?_
        refine (updFrame_keeps ..).step (by decide) ?_
        exact h5

theorem execResponseTimeout_keeps (id : Nat) (s : State) {s₁ : State}
    (h : execResponseTimeout id s = .next s₁) : Keeps (.air :: .line :: .lt :: .ltx :: .slph :: .hi :: .freeCtr :: eventParts) s s₁ := by
  unfold execResponseTimeout at h
  refine run_keeps (by decide) (fun u hu => ?_) h
  try beta_reduce
  split
  · exact hu
  · refine Keeps.ite ?_ ?_
    · refine (attemptOver_keeps ..).step (by decide) ?_
      exact hu
    · exact hu

theorem onJoinReq_keeps (o : Front) (s : State) :
    Keeps (.air :: .line :: .lt :: .ltx :: .cx :: .hi :: .freeCtr :: eventParts) s (onJoinReq o s) := by
  unfold onJoinReq
  extract_lets -merge +onlyGivenNames x0 x1 x2 x3
  extract_lets -merge +onlyGivenNames x4
  have h5 : ∀ u6, ∀ u7, Keeps (.air :: .line :: .lt :: .ltx :: .cx :: .hi :: .freeCtr :: eventParts) s u7 → Keeps (.air :: .line :: .lt :: .ltx :: .cx :: .hi :: .freeCtr :: eventParts) s (x4 u6 u7) := by
    intro u6 u7 hu8
    unfold x4
    try beta_reduce
    refine (updUse_keeps ..).step (by decide) ?_
    exact hu8
  extract_lets -merge +onlyGivenNames x9
  have h10 : ∀ u11, ∀ u12, ∀ u13, Keeps (.air :: .line :: .lt :: .ltx :: .cx :: .hi :: .freeCtr :: eventParts) s u13 → Keeps (.air :: .line :: .lt :: .ltx :: .cx :: .hi :: .freeCtr :: eventParts) s (x9 u11 u12 u13) := by
    intro u11 u12 u13 hu14
    unfold x9
    try beta_reduce
    refine (sendJoinResp_keeps ..).step (by decide) ?_
    refine h5 _ _ ?_
    refine (joinEntry_keeps ..).step (by decide) ?_
    exact hu14
  extract_lets -merge +onlyGivenNames x15
  refine Keeps.ite ?_ ?_
  · refine (sendJoinResp_keeps ..).step (by decide) ?_
    exact Keeps.refl _ _
  · split
    · refine (sendJoinResp_keeps ..).step (by decide) ?_
      exact Keeps.refl _ _
    · split
      · refine Keeps.ite ?_ ?_
        · refine (sendJoinResp_keeps ..).step (by decide) ?_
          exact Keeps.refl _ _
        · refine h10 _ _ _ ?_
          exact Keeps.refl _ _
      · split
        · refine (sendJoinResp_keeps ..).step (by decide) ?_
          exact Keeps.refl _ _
        · refine (sendJoinResp_keeps ..).step (by decide) ?_
          refine (raise_keeps ..).step (by decide) ?_
          exact Keeps.refl _ _
        · split
          · refine h10 _ _ _ ?_
            exact Keeps.refl _ _
          · refine (sendJoinResp_keeps ..).step (by decide) ?_
            exact Keeps.refl _ _

theorem onJoinResp_keeps (o : Front) (s : State) :
    Keeps (.line :: .lt :: .ltx :: .cx :: .freeCtr :: eventParts) s (onJoinResp o s) := by
  unfold onJoinResp
  refine Keeps.ite ?_ ?_
  · exact Keeps.refl _ _
  · split
    · refine Keeps.ite ?_ ?_
      · exact Keeps.refl _ _
      · refine (installJoin_keeps ..).step (by decide) ?_
        refine Keeps.lt ?_ (by decide)
        exact Keeps.refl _ _
    · refine Keeps.ltx ?_ (by decide)
      exact Keeps.refl _ _
    · refine Keeps.ite ?_ ?_
      · exact Keeps.refl _ _
      · refine (raise_keeps ..).step (by decide) ?_
        refine (dropJoinFrames_keeps ..).step (by decide) ?_
        refine Keeps.lt_ltx ?_ (by decide) (by decide)
        exact Keeps.refl _ _

theorem onRelay_keeps (o : Front) (s : State) :
    Keeps (.line :: .ofd :: .rbm :: .lt :: .ltx :: .hi :: .freeCtr :: eventParts) s (onRelay o s) := by
  unfold onRelay
  split
  · exact Keeps.refl _ _
  · extract_lets -merge +onlyGivenNames x0
    extract_lets -merge +onlyGivenNames x1
    have h2 : Keeps (.line :: .ofd :: .rbm :: .lt :: .ltx :: .hi :: .freeCtr :: eventParts) s x1 := by
      unfold x1
      refine (noteGrant_keeps ..).step (by decide) ?_
      refine (countOk_keeps ..).step (by decide) ?_
      exact Keeps.refl _ _
    refine Keeps.ite ?_ ?_
    · extract_lets -merge +onlyGivenNames x3
      have h4 : Keeps (.line :: .ofd :: .rbm :: .lt :: .ltx :: .hi :: .freeCtr :: eventParts) s x3 := by
        unfold x3
        refine (takeBuf_keeps ..).step (by decide) ?_
        exact h2
      extract_lets -merge +onlyGivenNames x5 x6 x7
      refine (contend_keeps ..).step (by decide) ?_
      refine (submit_keeps ..).step (by decide) ?_
      exact h4
    · extract_lets -merge +onlyGivenNames x8
      extract_lets -merge +onlyGivenNames x9
      have h10 : Keeps (.line :: .ofd :: .rbm :: .lt :: .ltx :: .hi :: .freeCtr :: eventParts) s x9 := by
        refine Keeps.lt ?_ (by decide)
        exact h2
      refine Keeps.ite ?_ ?_
      · exact h10
      · refine (raise_keeps ..).step (by decide) ?_
        refine Keeps.ltx ?_ (by decide)
        exact h10

theorem execRelayForward_keeps (id : Nat) (s : State) {s₁ : State}
    (h : execRelayForward id s = .next s₁) : Keeps (.air :: .line :: .ofd :: .ltx :: .hi :: .freeCtr :: eventParts) s s₁ := by
  unfold execRelayForward at h
  refine run_keeps (by decide) (fun u hu => ?_) h
  try beta_reduce
  split
  · exact hu
  · split
    · extract_lets -merge +onlyGivenNames x0
      split
      · extract_lets -merge +onlyGivenNames x1 x2 x3 x4 x5 x6 x7 x8 x9 x10 x11
        refine Keeps.ite ?_ ?_
        · exact hu
        · refine Keeps.ite ?_ ?_
          · refine (endFrame_keeps ..).step (by decide) ?_
            exact hu
          · refine Keeps.ite ?_ ?_
            · exact hu
            · refine Keeps.ite ?_ ?_
              · exact hu
              · refine Keeps.ite ?_ ?_
                · refine (holdFrame_keeps ..).step (by decide) ?_
                  refine (cWithhold_keeps ..).step (by decide) ?_
                  exact hu
                · refine Keeps.ite ?_ ?_
                  · refine (holdFrame_keeps ..).step (by decide) ?_
                    exact hu
                  · extract_lets -merge +onlyGivenNames x12
                    extract_lets -merge +onlyGivenNames x13
                    have h14 : Keeps (.air :: .line :: .ofd :: .ltx :: .hi :: .freeCtr :: eventParts) s x13 := by
                      unfold x13
                      refine (takeBands_keeps ..).step (by decide) ?_
                      exact hu
                    extract_lets -merge +onlyGivenNames x15
                    have h16 : Keeps (.air :: .line :: .ofd :: .ltx :: .hi :: .freeCtr :: eventParts) s x15 := by
                      refine Keeps.ite ?_ ?_
                      · refine (cRun_keeps ..).step (by decide) ?_
                        exact h14
                      · exact h14
                    extract_lets -merge +onlyGivenNames x17
                    have h18 : Keeps (.air :: .line :: .ofd :: .ltx :: .hi :: .freeCtr :: eventParts) s x17 := by
                      refine Keeps.ite ?_ ?_
                      · refine (useCredit_keeps ..).step (by decide) ?_
                        exact h16
                      · exact h16
                    split
                    rename_i v19 v20 e22
                    have hv21 : Keeps (.air :: .line :: .ofd :: .ltx :: .hi :: .freeCtr :: eventParts) s v20 := by
                      refine Keeps.snd e22 ?_
                      refine (grantNow_keeps ..).step (by decide) ?_
                      exact h18
                    clear e22
                    split
                    rename_i v23 v24 e26
                    have hv25 : Keeps (.air :: .line :: .ofd :: .ltx :: .hi :: .freeCtr :: eventParts) s v24 := by
                      refine Keeps.snd e26 ?_
                      refine (latchSlot_keeps ..).step (by decide) ?_
                      exact hv21
                    clear e26
                    refine (airSettle_keeps ..).step (by decide) ?_
                    refine (updFrame_keeps ..).step (by decide) ?_
                    exact hv25
    · exact hu

end Sys2Proof.Machine
end

