-- ==== Sys2Proof/Laws/FrameTime.lean ====
section
/-! SUPPORT. The frames of the functions of reference generators, the time engine, alignment, sleepy leaves, the quire and the leaf table: outside the components listed
each changes nothing, and it leaves a sound state sound. -/
namespace Sys2Proof.Machine

/-! ### Machine/Rg.lean -/

theorem updCh_keeps (c : Fin 8) (f : RgCh → RgCh) (s : State) :
    Keeps ([.rg]) s (updCh c f s) := by
  unfold updCh
  refine Keeps.rg ?_ (by decide)
  exact Keeps.refl _ _

theorem updChX_keeps (c : Fin 8) (f : RgX → RgX) (s : State) :
    Keeps ([.rg]) s (updChX c f s) := by
  unfold updChX
  refine Keeps.rg ?_ (by decide)
  exact Keeps.refl _ _

theorem rgRefuse_keeps (c cause off : Nat) (v : Word) (s : State) :
    Keeps (.rg :: eventParts) s (rgRefuse c cause off v s) := by
  unfold rgRefuse
  refine (raise_keeps ..).step (by decide) ?_
  refine Keeps.rg ?_ (by decide)
  exact Keeps.refl _ _

theorem applyRetune_keeps (c : Fin 8) (t : Retune) (s : State) :
    Keeps ([.rg, .hi]) s (applyRetune c t s) := by
  unfold applyRetune
  extract_lets -merge +onlyGivenNames x0
  have h1 : Keeps ([.rg, .hi]) s x0 := by
    unfold x0
    refine (updCh_keeps ..).step (by decide) ?_
    exact Keeps.refl _ _
  refine (finish_keeps ..).step (by decide) ?_
  exact h1

theorem stepEvent_keeps (c : Fin 8) (n : Nat) (s : State) :
    Keeps (.rg :: eventParts) s (stepEvent c n s) := by
  unfold stepEvent
  extract_lets -merge +onlyGivenNames x0
  have h1 : Keeps (.rg :: eventParts) s x0 := by
    unfold x0
    refine (updChX_keeps ..).step (by decide) ?_
    exact Keeps.refl _ _
  extract_lets -merge +onlyGivenNames x2
  refine Keeps.ite ?_ ?_
  · extract_lets -merge +onlyGivenNames x3
    refine (raise_keeps ..).step (by decide) ?_
    refine (updChX_keeps ..).step (by decide) ?_
    exact h1
  · exact h1

theorem beginStep_keeps (c : Fin 8) (n : Nat) (taken : Bool) (s : State) :
    Keeps (.rg :: .hi :: eventParts) s (beginStep c n taken s) := by
  unfold beginStep
  extract_lets -merge +onlyGivenNames x0 x1
  split
  · extract_lets -merge +onlyGivenNames x2
    have h3 : Keeps (.rg :: .hi :: eventParts) s x2 := by
      unfold x2
      refine (updChX_keeps ..).step (by decide) ?_
      refine (updCh_keeps ..).step (by decide) ?_
      exact Keeps.refl _ _
    refine (raise_keeps ..).step (by decide) ?_
    exact h3
  · extract_lets -merge +onlyGivenNames x4
    have h5 : Keeps (.rg :: .hi :: eventParts) s x4 := by
      unfold x4
      refine (updCh_keeps ..).step (by decide) ?_
      exact Keeps.refl _ _
    extract_lets -merge +onlyGivenNames x6
    have h7 : Keeps (.rg :: .hi :: eventParts) s x6 := by
      unfold x6
      refine (updChX_keeps ..).step (by decide) ?_
      exact h5
    extract_lets -merge +onlyGivenNames x8
    have h9 : Keeps (.rg :: .hi :: eventParts) s x8 := by
      unfold x8
      split
      · refine Keeps.ite ?_ ?_
        · refine (applyRetune_keeps ..).step (by decide) ?_
          exact h7
        · exact h7
      · exact h7
    refine Keeps.ite ?_ ?_
    · refine (stepEvent_keeps ..).step (by decide) ?_
      exact h9
    · exact h9

theorem settleTset_keeps (c : Fin 8) (s : State) :
    Keeps ([.rg]) s (settleTset c s) := by
  unfold settleTset
  split
  · refine (updChX_keeps ..).step (by decide) ?_
    refine (updCh_keeps ..).step (by decide) ?_
    exact Keeps.refl _ _
  · exact Keeps.refl _ _

theorem sampleClock_keeps (c : Fin 8) (s : State) :
    Keeps ([.rg]) s (sampleClock c s) := by
  unfold sampleClock
  extract_lets -merge +onlyGivenNames x0
  have h1 : Keeps ([.rg]) s x0 := by
    unfold x0
    refine (settleTset_keeps ..).step (by decide) ?_
    exact Keeps.refl _ _
  extract_lets -merge +onlyGivenNames x2 x3 x4
  refine Keeps.ite ?_ ?_
  · exact h1
  · refine Keeps.ite ?_ ?_
    · refine (updChX_keeps ..).step (by decide) ?_
      exact h1
    · refine Keeps.ite ?_ ?_
      · refine (updChX_keeps ..).step (by decide) ?_
        exact h1
      · exact h1

theorem startedEvent_keeps (c : Fin 8) (s : State) :
    Keeps (eventParts) s (startedEvent c s) := by
  unfold startedEvent
  extract_lets -merge +onlyGivenNames x0
  refine (raise_keeps ..).step (by decide) ?_
  exact Keeps.refl _ _

theorem startChannel_keeps (c : Fin 8) (s : State) :
    Keeps (.rg :: .hi :: eventParts) s (startChannel c s) := by
  unfold startChannel
  extract_lets -merge +onlyGivenNames x0
  refine Keeps.ite ?_ ?_
  · exact Keeps.refl _ _
  · split
    · refine Keeps.ite ?_ ?_
      · refine (beginStep_keeps ..).step (by decide) ?_
        exact Keeps.refl _ _
      · extract_lets -merge +onlyGivenNames x1
        have h2 : Keeps (.rg :: .hi :: eventParts) s x1 := by
          unfold x1
          refine (updCh_keeps ..).step (by decide) ?_
          exact Keeps.refl _ _
        extract_lets -merge +onlyGivenNames x3
        have h4 : Keeps (.rg :: .hi :: eventParts) s x3 := by
          unfold x3
          refine (updChX_keeps ..).step (by decide) ?_
          exact h2
        refine (beginStep_keeps ..).step (by decide) ?_
        refine (startedEvent_keeps ..).step (by decide) ?_
        exact h4
    · exact Keeps.refl _ _
    · extract_lets -merge +onlyGivenNames x5
      have h6 : Keeps (.rg :: .hi :: eventParts) s x5 := by
        unfold x5
        refine (updCh_keeps ..).step (by decide) ?_
        exact Keeps.refl _ _
      extract_lets -merge +onlyGivenNames x7
      have h8 : Keeps (.rg :: .hi :: eventParts) s x7 := by
        unfold x7
        refine (updChX_keeps ..).step (by decide) ?_
        exact h6
      refine (startedEvent_keeps ..).step (by decide) ?_
      exact h8

theorem stopChannel_keeps (c : Fin 8) (s : State) :
    Keeps (.rg :: eventParts) s (stopChannel c s) := by
  unfold stopChannel
  extract_lets -merge +onlyGivenNames x0
  extract_lets -merge +onlyGivenNames x1
  have h2 : Keeps (.rg :: eventParts) s x1 := by
    unfold x1
    refine (updCh_keeps ..).step (by decide) ?_
    exact Keeps.refl _ _
  extract_lets -merge +onlyGivenNames x3
  have h4 : Keeps (.rg :: eventParts) s x3 := by
    unfold x3
    refine (updChX_keeps ..).step (by decide) ?_
    exact h2
  refine (raise_keeps ..).step (by decide) ?_
  exact h4

theorem evalCond_keeps (c : Fin 8) (w : BitVec 64) (s : State) :
    Keeps ([.rg]) s (evalCond c w s).2 := by
  unfold evalCond
  extract_lets -merge +onlyGivenNames x0 x1
  split
  · try with_reducible refine Keeps.mk ?_
    exact Keeps.refl _ _
  · try with_reducible refine Keeps.mk ?_
    refine (updChX_keeps ..).step (by decide) ?_
    exact Keeps.refl _ _
  · extract_lets -merge +onlyGivenNames x2
    refine Keeps.ite2 ?_ ?_
    · try with_reducible refine Keeps.mk ?_
      refine (updChX_keeps ..).step (by decide) ?_
      exact Keeps.refl _ _
    · try with_reducible refine Keeps.mk ?_
      refine (updChX_keeps ..).step (by decide) ?_
      exact Keeps.refl _ _
  · try with_reducible refine Keeps.mk ?_
    refine (updChX_keeps ..).step (by decide) ?_
    exact Keeps.refl _ _
  · try with_reducible refine Keeps.mk ?_
    refine (updChX_keeps ..).step (by decide) ?_
    exact Keeps.refl _ _
  · try with_reducible refine Keeps.mk ?_
    refine (updChX_keeps ..).step (by decide) ?_
    exact Keeps.refl _ _
  · try with_reducible refine Keeps.mk ?_
    refine (updChX_keeps ..).step (by decide) ?_
    exact Keeps.refl _ _
  · try with_reducible refine Keeps.mk ?_
    exact Keeps.refl _ _

theorem lastSample_keeps (c : Fin 8) (w : BitVec 64) (s : State) :
    Keeps ([.rg]) s (lastSample c w s) := by
  unfold lastSample
  refine (settleTset_keeps ..).step (by decide) ?_
  refine (updChX_keeps ..).step (by decide) ?_
  exact Keeps.refl _ _

theorem leadTo_keeps (c : Fin 8) (n : Nat) (taken : Bool) (s : State) :
    Keeps (.rg :: eventParts) s (leadTo c n taken s) := by
  unfold leadTo
  refine Keeps.ite ?_ ?_
  · refine (stopChannel_keeps ..).step (by decide) ?_
    exact Keeps.refl _ _
  · refine (updChX_keeps ..).step (by decide) ?_
    exact Keeps.refl _ _

theorem endStep_keeps (c : Fin 8) (s : State) :
    Keeps (.rg :: eventParts) s (endStep c s) := by
  unfold endStep
  extract_lets -merge +onlyGivenNames x0 x1
  refine Keeps.ite ?_ ?_
  · extract_lets -merge +onlyGivenNames x2
    have h3 : Keeps (.rg :: eventParts) s x2 := by
      unfold x2
      refine (lastSample_keeps ..).step (by decide) ?_
      exact Keeps.refl _ _
    extract_lets -merge +onlyGivenNames x4
    have h5 : Keeps (.rg :: eventParts) s x4 := by
      unfold x4
      refine (updChX_keeps ..).step (by decide) ?_
      refine (updCh_keeps ..).step (by decide) ?_
      exact h3
    refine (raise_keeps ..).step (by decide) ?_
    exact h5
  · refine Keeps.ite ?_ ?_
    · split
      · rename_i v6 e8
        have hv7 : Keeps (.rg :: eventParts) s v6 := by
          refine Keeps.snd e8 ?_
          refine (evalCond_keeps ..).step (by decide) ?_
          exact Keeps.refl _ _
        clear e8
        refine (leadTo_keeps ..).step (by decide) ?_
        refine (settleTset_keeps ..).step (by decide) ?_
        exact hv7
      · rename_i v9 e11
        have hv10 : Keeps (.rg :: eventParts) s v9 := by
          refine Keeps.snd e11 ?_
          refine (evalCond_keeps ..).step (by decide) ?_
          exact Keeps.refl _ _
        clear e11
        exact hv10
    · split
      rename_i v12 v13 e15
      have hv14 : Keeps (.rg :: eventParts) s v13 := by
        refine Keeps.snd e15 ?_
        refine (evalCond_keeps ..).step (by decide) ?_
        refine (lastSample_keeps ..).step (by decide) ?_
        exact Keeps.refl _ _
      clear e15
      refine Keeps.ite ?_ ?_
      · refine (leadTo_keeps ..).step (by decide) ?_
        exact hv14
      · refine (leadTo_keeps ..).step (by decide) ?_
        exact hv14

theorem fireMa_keeps (c : Fin 8) (k : Nat) (s : State) :
    Keeps (.rg :: .hi :: eventParts) s (fireMa c k s) := by
  unfold fireMa
  extract_lets -merge +onlyGivenNames x0
  extract_lets -merge +onlyGivenNames x1
  have h2 : Keeps (.rg :: .hi :: eventParts) s x1 := by
    refine Keeps.ite ?_ ?_
    · refine (updChX_keeps ..).step (by decide) ?_
      exact Keeps.refl _ _
    · exact Keeps.refl _ _
  extract_lets -merge +onlyGivenNames x3
  have h4 : Keeps (.rg :: .hi :: eventParts) s x3 := by
    unfold x3
    split
    · refine Keeps.ite ?_ ?_
      · refine (applyRetune_keeps ..).step (by decide) ?_
        exact h2
      · refine (updChX_keeps ..).step (by decide) ?_
        exact h2
    · refine (updChX_keeps ..).step (by decide) ?_
      exact h2
  refine Keeps.ite ?_ ?_
  · refine (startChannel_keeps ..).step (by decide) ?_
    exact h4
  · exact h4

theorem fireTod_keeps (c : Fin 8) (k : Nat) (s : State) :
    Keeps (.rg :: .hi :: eventParts) s (fireTod c k s) := by
  unfold fireTod
  extract_lets -merge +onlyGivenNames x0
  extract_lets -merge +onlyGivenNames x1
  have h2 : Keeps (.rg :: .hi :: eventParts) s x1 := by
    unfold x1
    refine (updChX_keeps ..).step (by decide) ?_
    exact Keeps.refl _ _
  extract_lets -merge +onlyGivenNames x3
  have h4 : Keeps (.rg :: .hi :: eventParts) s x3 := by
    unfold x3
    split
    · refine Keeps.ite ?_ ?_
      · refine (applyRetune_keeps ..).step (by decide) ?_
        exact h2
      · refine (updChX_keeps ..).step (by decide) ?_
        exact h2
    · refine (updChX_keeps ..).step (by decide) ?_
      exact h2
  refine Keeps.ite ?_ ?_
  · refine (startChannel_keeps ..).step (by decide) ?_
    exact h4
  · exact h4

theorem cmpLate_keeps (c : Fin 8) (which : Nat) (s : State) :
    Keeps (eventParts) s (cmpLate c which s) := by
  unfold cmpLate
  refine (raise_keeps ..).step (by decide) ?_
  exact Keeps.refl _ _

theorem maCfgWrite_keeps (c : Fin 8) (k : Fin 2) (v : Word) (s : State) :
    Keeps (.rg :: .hi :: eventParts) s (maCfgWrite c k v s) := by
  unfold maCfgWrite
  extract_lets -merge +onlyGivenNames x0
  have h1 : Keeps (.rg :: .hi :: eventParts) s x0 := by
    unfold x0
    refine (updCh_keeps ..).step (by decide) ?_
    exact Keeps.refl _ _
  refine Keeps.ite ?_ ?_
  · extract_lets -merge +onlyGivenNames x2
    have h3 : Keeps (.rg :: .hi :: eventParts) s x2 := by
      unfold x2
      refine (updChX_keeps ..).step (by decide) ?_
      exact h1
    extract_lets -merge +onlyGivenNames x4
    refine Keeps.ite ?_ ?_
    · refine (cmpLate_keeps ..).step (by decide) ?_
      refine (fireMa_keeps ..).step (by decide) ?_
      exact h3
    · exact h3
  · exact h1

theorem todSecHiWrite_keeps (a : Agent) (c : Fin 8) (k : Fin 2) (v : Word) (s : State) :
    Keeps (.rg :: .hi :: .staging :: eventParts) s (todSecHiWrite a c k v s) := by
  unfold todSecHiWrite
  split
  rename_i v0 v1 e3
  have hv2 : Keeps (.rg :: .hi :: .staging :: eventParts) s v1 := by
    refine Keeps.snd e3 ?_
    refine (takeLo_keeps ..).step (by decide) ?_
    exact Keeps.refl _ _
  clear e3
  extract_lets -merge +onlyGivenNames x4
  have h5 : Keeps (.rg :: .hi :: .staging :: eventParts) s x4 := by
    unfold x4
    refine (updCh_keeps ..).step (by decide) ?_
    exact hv2
  refine Keeps.ite ?_ ?_
  · extract_lets -merge +onlyGivenNames x6
    have h7 : Keeps (.rg :: .hi :: .staging :: eventParts) s x6 := by
      unfold x6
      refine (updChX_keeps ..).step (by decide) ?_
      exact h5
    refine Keeps.ite ?_ ?_
    · refine (cmpLate_keeps ..).step (by decide) ?_
      refine (fireTod_keeps ..).step (by decide) ?_
      exact h7
    · exact h7
  · exact h5

theorem todPassed_keeps (before : Int) (s : State) :
    Keeps (.rg :: .hi :: eventParts) s (todPassed before s) := by
  unfold todPassed
  refine Keeps.foldl ?_ (fun u0 _ hu1 => ?_)
  · exact Keeps.refl _ _
  · try beta_reduce
    refine Keeps.foldl ?_ (fun u2 _ hu3 => ?_)
    · exact hu1
    · try beta_reduce
      refine Keeps.ite ?_ ?_
      · refine (fireTod_keeps ..).step (by decide) ?_
        exact hu3
      · exact hu3

theorem rgPps_keeps (s : State) :
    Keeps (.rg :: .hi :: eventParts) s (rgPps s) := by
  unfold rgPps
  refine Keeps.foldl ?_ (fun u0 _ hu1 => ?_)
  · exact Keeps.refl _ _
  · try beta_reduce
    extract_lets -merge +onlyGivenNames x2
    refine Keeps.ite ?_ ?_
    · refine (startChannel_keeps ..).step (by decide) ?_
      exact hu1
    · refine (updChX_keeps ..).step (by decide) ?_
      exact hu1

theorem ltcCut_keeps (c : Fin 8) (cause : Nat) (s : State) :
    Keeps (.rg :: eventParts) s (ltcCut c cause s) := by
  unfold ltcCut
  refine Keeps.ite ?_ ?_
  · refine (raise_keeps ..).step (by decide) ?_
    refine (updChX_keeps ..).step (by decide) ?_
    exact Keeps.refl _ _
  · exact Keeps.refl _ _

theorem ltcCutAll_keeps (cause : Nat) (s : State) :
    Keeps (.rg :: eventParts) s (ltcCutAll cause s) := by
  unfold ltcCutAll
  refine Keeps.foldl ?_ (fun u0 _ hu1 => ?_)
  · exact Keeps.refl _ _
  · try beta_reduce
    refine Keeps.ite ?_ ?_
    · refine (ltcCut_keeps ..).step (by decide) ?_
      exact hu1
    · exact hu1

theorem gofsChange_keeps (v : Word) (s : State) :
    Keeps (.rg :: .aln :: .hi :: eventParts) s (gofsChange v s) := by
  unfold gofsChange
  extract_lets -merge +onlyGivenNames x0 x1 x2
  extract_lets -merge +onlyGivenNames x3
  have h4 : Keeps (.rg :: .aln :: .hi :: eventParts) s x3 := by
    refine Keeps.aln ?_ (by decide)
    exact Keeps.refl _ _
  extract_lets -merge +onlyGivenNames x5
  have h6 : Keeps (.rg :: .aln :: .hi :: eventParts) s x5 := by
    unfold x5
    refine Keeps.foldl ?_ (fun u7 _ hu8 => ?_)
    · exact h4
    · try beta_reduce
      extract_lets -merge +onlyGivenNames x9
      refine Keeps.ite ?_ ?_
      · refine Keeps.ite ?_ ?_
        · refine (updCh_keeps ..).step (by decide) ?_
          exact hu8
        · exact hu8
      · refine Keeps.ite ?_ ?_
        · refine (ltcCut_keeps ..).step (by decide) ?_
          exact hu8
        · exact hu8
  refine (todPassed_keeps ..).step (by decide) ?_
  exact h6

theorem rgCtrlWrite_keeps (c : Fin 8) (v : Word) (s : State) :
    Keeps (.rg :: eventParts) s (rgCtrlWrite c v s) := by
  unfold rgCtrlWrite
  extract_lets -merge +onlyGivenNames x0 x1
  refine Keeps.ite ?_ ?_
  · refine (rgRefuse_keeps ..).step (by decide) ?_
    exact Keeps.refl _ _
  · extract_lets -merge +onlyGivenNames x2 x3
    refine Keeps.ite ?_ ?_
    · refine (rgRefuse_keeps ..).step (by decide) ?_
      exact Keeps.refl _ _
    · extract_lets -merge +onlyGivenNames x4
      have h5 : Keeps (.rg :: eventParts) s x4 := by
        unfold x4
        refine (updCh_keeps ..).step (by decide) ?_
        exact Keeps.refl _ _
      refine Keeps.ite ?_ ?_
      · extract_lets -merge +onlyGivenNames x6
        have h7 : Keeps (.rg :: eventParts) s x6 := by
          unfold x6
          refine (updCh_keeps ..).step (by decide) ?_
          exact h5
        refine (updChX_keeps ..).step (by decide) ?_
        exact h7
      · refine Keeps.ite ?_ ?_
        · exact h5
        · split
          · exact h5
          · refine (updChX_keeps ..).step (by decide) ?_
            exact h5
          · refine (stopChannel_keeps ..).step (by decide) ?_
            exact h5

theorem ftwHiWrite_keeps (a : Agent) (c : Fin 8) (v : Word) (s : State) :
    Keeps (.rg :: .staging :: eventParts) s (ftwHiWrite a c v s) := by
  unfold ftwHiWrite
  split
  rename_i v0 v1 e3
  have hv2 : Keeps (.rg :: .staging :: eventParts) s v1 := by
    refine Keeps.snd e3 ?_
    refine (takeLo_keeps ..).step (by decide) ?_
    exact Keeps.refl _ _
  clear e3
  refine Keeps.ite ?_ ?_
  · refine (rgRefuse_keeps ..).step (by decide) ?_
    exact hv2
  · refine (updCh_keeps ..).step (by decide) ?_
    exact hv2

theorem seqAddrWrite_keeps (c : Fin 8) (v : Word) (s : State) :
    Keeps ([.rg]) s (seqAddrWrite c v s) := by
  unfold seqAddrWrite
  refine (updCh_keeps ..).step (by decide) ?_
  exact Keeps.refl _ _

theorem seqAdvance_keeps (c : Fin 8) (s : State) :
    Keeps ([.rg]) s (seqAdvance c s) := by
  unfold seqAdvance
  refine (updCh_keeps ..).step (by decide) ?_
  exact Keeps.refl _ _

theorem seqHighWrite_keeps (c : Fin 8) (v : Word) (s : State) :
    Keeps (.rg :: eventParts) s (seqHighWrite c v s) := by
  unfold seqHighWrite
  extract_lets -merge +onlyGivenNames x0 x1 x2
  extract_lets -merge +onlyGivenNames x3
  have h4 : Keeps (.rg :: eventParts) s x3 := by
    refine Keeps.ite ?_ ?_
    · refine (rgRefuse_keeps ..).step (by decide) ?_
      exact Keeps.refl _ _
    · refine Keeps.ite ?_ ?_
      · refine (rgRefuse_keeps ..).step (by decide) ?_
        exact Keeps.refl _ _
      · refine (updCh_keeps ..).step (by decide) ?_
        exact Keeps.refl _ _
  refine (seqAdvance_keeps ..).step (by decide) ?_
  exact h4

theorem seqDataWrite_keeps (c : Fin 8) (v : Word) (s : State) :
    Keeps (.rg :: eventParts) s (seqDataWrite c v s) := by
  unfold seqDataWrite
  refine Keeps.ite ?_ ?_
  · refine (seqHighWrite_keeps ..).step (by decide) ?_
    exact Keeps.refl _ _
  · refine (updCh_keeps ..).step (by decide) ?_
    exact Keeps.refl _ _

theorem seqDataRead_keeps (c : Fin 8) (s : State) :
    Keeps ([.rg]) s (seqDataRead c s).2 := by
  unfold seqDataRead
  extract_lets -merge +onlyGivenNames x0 x1
  refine Keeps.ite2 ?_ ?_
  · try with_reducible refine Keeps.mk ?_
    refine (seqAdvance_keeps ..).step (by decide) ?_
    exact Keeps.refl _ _
  · try with_reducible refine Keeps.mk ?_
    refine (updCh_keeps ..).step (by decide) ?_
    exact Keeps.refl _ _

theorem tsetWrite_keeps (c : Fin 8) (t w : Fin 4) (v : Word) (s : State) :
    Keeps (.rg :: eventParts) s (tsetWrite c t w v s) := by
  unfold tsetWrite
  extract_lets -merge +onlyGivenNames x0
  refine Keeps.ite ?_ ?_
  · refine (rgRefuse_keeps ..).step (by decide) ?_
    exact Keeps.refl _ _
  · refine (updCh_keeps ..).step (by decide) ?_
    exact Keeps.refl _ _

theorem rgcCtrlWrite_keeps (v : Word) (s : State) :
    Keeps (.rg :: eventParts) s (rgcCtrlWrite v s) := by
  unfold rgcCtrlWrite
  refine Keeps.ite ?_ ?_
  · refine (raise_keeps ..).step (by decide) ?_
    refine Keeps.rg ?_ (by decide)
    exact Keeps.refl _ _
  · exact Keeps.refl _ _

theorem rgcStatusWrite_keeps (v : Word) (s : State) :
    Keeps ([.rg]) s (rgcStatusWrite v s) := by
  unfold rgcStatusWrite
  refine Keeps.rg ?_ (by decide)
  exact Keeps.refl _ _

theorem incfgWrite_keeps (v : Word) (s : State) :
    Keeps ([.rg]) s (incfgWrite v s) := by
  unfold incfgWrite
  refine Keeps.rg ?_ (by decide)
  exact Keeps.refl _ _

theorem vdacWrite_keeps (m : Fin 2) (v : Word) (s : State) :
    Keeps ([.rg]) s (vdacWrite m v s) := by
  unfold vdacWrite
  refine Keeps.rg ?_ (by decide)
  exact Keeps.refl _ _

theorem patselWrite_keeps (k : Fin 16) (v : Word) (s : State) :
    Keeps ([.rg]) s (patselWrite k v s) := by
  unfold patselWrite
  refine Keeps.rg ?_ (by decide)
  exact Keeps.refl _ _

theorem rgLtcWrite_keeps (c : Fin 8) (v : Word) (s : State) :
    Keeps ([.rg]) s (rgLtcWrite c v s) := by
  unfold rgLtcWrite
  refine (updCh_keeps ..).step (by decide) ?_
  exact Keeps.refl _ _

theorem rgLtcUbWrite_keeps (c : Fin 8) (v : Word) (s : State) :
    Keeps ([.rg]) s (rgLtcUbWrite c v s) := by
  unfold rgLtcUbWrite
  refine (updCh_keeps ..).step (by decide) ?_
  exact Keeps.refl _ _

theorem cntldWrite_keeps (c : Fin 8) (k : Fin 4) (v : Word) (s : State) :
    Keeps ([.rg]) s (cntldWrite c k v s) := by
  unfold cntldWrite
  refine (updCh_keeps ..).step (by decide) ?_
  exact Keeps.refl _ _

theorem maAngWrite_keeps (c : Fin 8) (k : Fin 2) (v : Word) (s : State) :
    Keeps ([.rg]) s (maAngWrite c k v s) := by
  unfold maAngWrite
  refine (updCh_keeps ..).step (by decide) ?_
  exact Keeps.refl _ _

theorem maQWrite_keeps (c : Fin 8) (k : Fin 2) (v : Word) (s : State) :
    Keeps ([.rg]) s (maQWrite c k v s) := by
  unfold maQWrite
  refine (updCh_keeps ..).step (by decide) ?_
  exact Keeps.refl _ _

theorem todNsWrite_keeps (c : Fin 8) (k : Fin 2) (v : Word) (s : State) :
    Keeps ([.rg]) s (todNsWrite c k v s) := by
  unfold todNsWrite
  refine (updCh_keeps ..).step (by decide) ?_
  exact Keeps.refl _ _

theorem execRgArm_keeps (c : Fin 8) (v : Word) (s : State) {s₁ : State}
    (h : execRgArm c v s = .next s₁) : Keeps (.slp :: .rg :: .pwr :: eventParts) s s₁ := by
  unfold execRgArm at h
  refine runHost_keeps (by decide) (fun u hu => ?_) h
  refine (rgCtrlWrite_keeps ..).step (by decide) ?_
  exact hu

theorem execRgStart_keeps (c : Fin 8) (s : State) {s₁ : State}
    (h : execRgStart c s = .next s₁) : Keeps (.rg :: .hi :: eventParts) s s₁ := by
  unfold execRgStart at h
  refine run_keeps (by decide) (fun u hu => ?_) h
  refine (startChannel_keeps ..).step (by decide) ?_
  exact hu

theorem execRgStopRequest_keeps (c : Fin 8) (v : Word) (s : State) {s₁ : State}
    (h : execRgStopRequest c v s = .next s₁) : Keeps (.slp :: .rg :: .pwr :: eventParts) s s₁ := by
  unfold execRgStopRequest at h
  refine runHost_keeps (by decide) (fun u hu => ?_) h
  refine (rgCtrlWrite_keeps ..).step (by decide) ?_
  exact hu

theorem execRgStop_keeps (c : Fin 8) (s : State) {s₁ : State}
    (h : execRgStop c s = .next s₁) : Keeps (.rg :: eventParts) s s₁ := by
  unfold execRgStop at h
  refine run_keeps (by decide) (fun u hu => ?_) h
  try beta_reduce
  refine Keeps.ite ?_ ?_
  · refine (stopChannel_keeps ..).step (by decide) ?_
    exact hu
  · exact hu

theorem execSeqStepWrite_keeps (c : Fin 8) (v : Word) (s : State) {s₁ : State}
    (h : execSeqStepWrite c v s = .next s₁) : Keeps (.slp :: .rg :: .pwr :: eventParts) s s₁ := by
  unfold execSeqStepWrite at h
  refine runHost_keeps (by decide) (fun u hu => ?_) h
  refine (seqHighWrite_keeps ..).step (by decide) ?_
  exact hu

theorem execTimingSetWrite_keeps (c : Fin 8) (t w : Fin 4) (v : Word) (s : State) {s₁ : State}
    (h : execTimingSetWrite c t w v s = .next s₁) : Keeps (.slp :: .rg :: .pwr :: eventParts) s s₁ := by
  unfold execTimingSetWrite at h
  refine runHost_keeps (by decide) (fun u hu => ?_) h
  refine (tsetWrite_keeps ..).step (by decide) ?_
  exact hu

theorem execRgStepStart_keeps (c : Fin 8) (s : State) {s₁ : State}
    (h : execRgStepStart c s = .next s₁) : Keeps (.rg :: .hi :: eventParts) s s₁ := by
  unfold execRgStepStart at h
  refine run_keeps (by decide) (fun u hu => ?_) h
  try beta_reduce
  split
  · refine Keeps.ite ?_ ?_
    · refine (beginStep_keeps ..).step (by decide) ?_
      exact hu
    · exact hu
  · exact hu

theorem execRgStepEnd_keeps (c : Fin 8) (s : State) {s₁ : State}
    (h : execRgStepEnd c s = .next s₁) : Keeps (.rg :: eventParts) s s₁ := by
  unfold execRgStepEnd at h
  refine run_keeps (by decide) (fun u hu => ?_) h
  try beta_reduce
  refine Keeps.ite ?_ ?_
  · refine (endStep_keeps ..).step (by decide) ?_
    exact hu
  · exact hu

theorem rgInputEdge_keeps (k : Nat) (rising : Bool) (s : State) :
    Keeps ([.rg]) s (rgInputEdge k rising s) := by
  unfold rgInputEdge
  extract_lets -merge +onlyGivenNames x0
  refine Keeps.ite ?_ ?_
  · refine Keeps.foldl ?_ (fun u1 _ hu2 => ?_)
    · exact Keeps.refl _ _
    · try beta_reduce
      refine (updChX_keeps ..).step (by decide) ?_
      exact hu2
  · exact Keeps.refl _ _

theorem execRgInputEdge_keeps (k : Fin 16) (rising : Bool) (s : State) {s₁ : State}
    (h : execRgInputEdge k rising s = .next s₁) : Keeps ([.rg, .pmx]) s s₁ := by
  unfold execRgInputEdge at h
  refine run_keeps (by decide) (fun u hu => ?_) h
  try beta_reduce
  split
  · exact hu
  · refine Keeps.ite ?_ ?_
    · exact hu
    · refine (rgInputEdge_keeps ..).step (by decide) ?_
      refine (setPad_keeps ..).step (by decide) ?_
      exact hu

theorem execMaCompareFire_keeps (c : Fin 8) (k : Fin 2) (s : State) {s₁ : State}
    (h : execMaCompareFire c k s = .next s₁) : Keeps (.rg :: .hi :: eventParts) s s₁ := by
  unfold execMaCompareFire at h
  refine run_keeps (by decide) (fun u hu => ?_) h
  try beta_reduce
  refine Keeps.ite ?_ ?_
  · refine (fireMa_keeps ..).step (by decide) ?_
    exact hu
  · exact hu

theorem execTodCompareFire_keeps (c : Fin 8) (k : Fin 2) (s : State) {s₁ : State}
    (h : execTodCompareFire c k s = .next s₁) : Keeps (.rg :: .hi :: eventParts) s s₁ := by
  unfold execTodCompareFire at h
  refine run_keeps (by decide) (fun u hu => ?_) h
  try beta_reduce
  refine Keeps.ite ?_ ?_
  · refine (fireTod_keeps ..).step (by decide) ?_
    exact hu
  · exact hu

theorem execMaCompareArm_keeps (c : Fin 8) (k : Fin 2) (v : Word) (s : State) {s₁ : State}
    (h : execMaCompareArm c k v s = .next s₁) : Keeps (.slp :: .rg :: .hi :: .pwr :: eventParts) s s₁ := by
  unfold execMaCompareArm at h
  refine runHost_keeps (by decide) (fun u hu => ?_) h
  refine (maCfgWrite_keeps ..).step (by decide) ?_
  exact hu

theorem execTodCompareArm_keeps (c : Fin 8) (k : Fin 2) (v : Word) (s : State) {s₁ : State}
    (h : execTodCompareArm c k v s = .next s₁) : Keeps (.slp :: .rg :: .hi :: .pwr :: .staging :: eventParts) s s₁ := by
  unfold execTodCompareArm at h
  refine runHost_keeps (by decide) (fun u hu => ?_) h
  refine (todSecHiWrite_keeps ..).step (by decide) ?_
  exact hu

theorem execVdacFault_keeps (m : Fin 2) (s : State) {s₁ : State}
    (h : execVdacFault m s = .next s₁) : Keeps (.rg :: eventParts) s s₁ := by
  unfold execVdacFault at h
  refine run_keeps (by decide) (fun u hu => ?_) h
  try beta_reduce
  extract_lets -merge +onlyGivenNames x0
  extract_lets -merge +onlyGivenNames x1
  have h2 : Keeps (.rg :: eventParts) s x1 := by
    refine Keeps.rg ?_ (by decide)
    exact hu
  refine (raise_keeps ..).step (by decide) ?_
  exact h2

theorem execVdacClear_keeps (v : Word) (s : State) {s₁ : State}
    (h : execVdacClear v s = .next s₁) : Keeps (.slp :: .rg :: .pwr :: eventParts) s s₁ := by
  unfold execVdacClear at h
  refine runHost_keeps (by decide) (fun u hu => ?_) h
  refine (rgcCtrlWrite_keeps ..).step (by decide) ?_
  exact hu

theorem execLtcFrameStart_keeps (c : Fin 8) (s : State) {s₁ : State}
    (h : execLtcFrameStart c s = .next s₁) : Keeps (.rg :: eventParts) s s₁ := by
  unfold execLtcFrameStart at h
  refine run_keeps (by decide) (fun u hu => ?_) h
  try beta_reduce
  extract_lets -merge +onlyGivenNames x0
  refine Keeps.ite ?_ ?_
  · extract_lets -merge +onlyGivenNames x1
    have h2 : Keeps (.rg :: eventParts) s x1 := by
      refine Keeps.ite ?_ ?_
      · refine (startedEvent_keeps ..).step (by decide) ?_
        refine (updCh_keeps ..).step (by decide) ?_
        exact hu
      · exact hu
    extract_lets -merge +onlyGivenNames x3
    refine (updChX_keeps ..).step (by decide) ?_
    exact h2
  · exact hu

theorem execLtcFrameDecode_keeps (k : Fin 16) (frame : BitVec 80) (rate : BitVec 2) (at_ : Stamp) (s : State) {s₁ : State}
    (h : execLtcFrameDecode k frame rate at_ s = .next s₁) : Keeps (.rg :: eventParts) s s₁ := by
  unfold execLtcFrameDecode at h
  refine run_keeps (by decide) (fun u hu => ?_) h
  try beta_reduce
  refine Keeps.ite ?_ ?_
  · refine Keeps.foldl ?_ (fun u0 _ hu1 => ?_)
    · exact hu
    · try beta_reduce
      refine (raiseAt_keeps ..).step (by decide) ?_
      refine (updChX_keeps ..).step (by decide) ?_
      exact hu1
  · exact hu

theorem execLtcLoss_keeps (k : Fin 16) (s : State) {s₁ : State}
    (h : execLtcLoss k s = .next s₁) : Keeps (.rg :: eventParts) s s₁ := by
  unfold execLtcLoss at h
  refine run_keeps (by decide) (fun u hu => ?_) h
  try beta_reduce
  refine Keeps.foldl ?_ (fun u0 _ hu1 => ?_)
  · exact hu
  · try beta_reduce
    refine Keeps.ite ?_ ?_
    · refine (raise_keeps ..).step (by decide) ?_
      refine (updChX_keeps ..).step (by decide) ?_
      exact hu1
    · exact hu1

theorem execTelegramSend_keeps (c : Fin 8) (s : State) {s₁ : State}
    (h : execTelegramSend c s = .next s₁) : Keeps ([.rg]) s s₁ := by
  unfold execTelegramSend at h
  refine run_keeps (by decide) (fun u hu => ?_) h
  try beta_reduce
  refine Keeps.ite ?_ ?_
  · refine (updChX_keeps ..).step (by decide) ?_
    exact hu
  · exact hu

theorem execSigWrite_keeps (r : Fin 16) (d : DescBytes) (m : MemRead) (s : State) {s₁ : State}
    (h : execSigWrite r d m s = .next s₁) : Keeps (.rg :: .hi :: .freeCtr :: eventParts) s s₁ := by
  unfold execSigWrite at h
  refine run_keeps (by decide) (fun u hu => ?_) h
  refine descRow_keeps (by decide) ?_ ?_
  · intro _ u0 hu1
    try beta_reduce
    extract_lets -merge +onlyGivenNames x2 x3 x4
    refine Keeps.ite ?_ ?_
    · refine (finish_keeps ..).step (by decide) ?_
      exact hu1
    · refine Keeps.ite ?_ ?_
      · refine (finish_keeps ..).step (by decide) ?_
        exact hu1
      · refine Keeps.ite ?_ ?_
        · refine (finish_keeps ..).step (by decide) ?_
          exact hu1
        · refine withData_keeps (by decide) ?_ ?_
          · intro _ u5 hu6
            try beta_reduce
            refine Keeps.rg ?_ (by decide)
            exact hu6
          · exact hu1
  · exact hu

theorem execSigWriteDone_keeps (r : Fin 16) (s : State) {s₁ : State}
    (h : execSigWriteDone r s = .next s₁) : Keeps ([.rg, .hi]) s s₁ := by
  unfold execSigWriteDone at h
  refine run_keeps (by decide) (fun u hu => ?_) h
  try beta_reduce
  split
  · split
    · extract_lets -merge +onlyGivenNames x0
      extract_lets -merge +onlyGivenNames x1
      have h2 : Keeps ([.rg, .hi]) s x1 := by
        refine Keeps.rg ?_ (by decide)
        exact hu
      refine (finish_keeps ..).step (by decide) ?_
      exact h2
  · exact hu

theorem execRgFlag_keeps (r : Fin 16) (d : DescBytes) (s : State) {s₁ : State}
    (h : execRgFlag r d s = .next s₁) : Keeps ([.rg, .hi, .lg]) s s₁ := by
  unfold execRgFlag at h
  refine run_keeps (by decide) (fun u hu => ?_) h
  refine descRow_keeps (by decide) ?_ ?_
  · intro _ u0 hu1
    try beta_reduce
    extract_lets -merge +onlyGivenNames x2
    refine (finish_keeps ..).step (by decide) ?_
    refine (updChX_keeps ..).step (by decide) ?_
    exact hu1
  · exact hu

theorem execRgRetune_keeps (r : Fin 16) (d : DescBytes) (s : State) {s₁ : State}
    (h : execRgRetune r d s = .next s₁) : Keeps ([.rg, .hi, .lg]) s s₁ := by
  unfold execRgRetune at h
  refine run_keeps (by decide) (fun u hu => ?_) h
  refine descRow_keeps (by decide) ?_ ?_
  · intro _ u0 hu1
    try beta_reduce
    extract_lets -merge +onlyGivenNames x2 x3 x4
    refine Keeps.ite ?_ ?_
    · refine (finish_keeps ..).step (by decide) ?_
      exact hu1
    · refine Keeps.ite ?_ ?_
      · refine (finish_keeps ..).step (by decide) ?_
        exact hu1
      · extract_lets -merge +onlyGivenNames x5
        refine Keeps.ite ?_ ?_
        · refine (applyRetune_keeps ..).step (by decide) ?_
          exact hu1
        · refine (updCh_keeps ..).step (by decide) ?_
          exact hu1
  · exact hu

theorem resetCh_keeps (c : Fin 8) (s : State) :
    Keeps ([.rg, .hi]) s (resetCh c s).2 := by
  unfold resetCh
  extract_lets -merge +onlyGivenNames x0
  extract_lets -merge +onlyGivenNames x1
  have h2 : Keeps ([.rg, .hi]) s x1 := by
    unfold x1
    refine (updCh_keeps ..).step (by decide) ?_
    exact Keeps.refl _ _
  extract_lets -merge +onlyGivenNames x3
  have h4 : Keeps ([.rg, .hi]) s x3 := by
    unfold x3
    refine (updChX_keeps ..).step (by decide) ?_
    exact h2
  clear_value  x0
  split
  · try with_reducible refine Keeps.mk ?_
    refine (finish_keeps ..).step (by decide) ?_
    exact h4
  · try with_reducible refine Keeps.mk ?_
    exact h4

theorem rgHoldover_keeps (s : State) :
    Keeps (.rg :: eventParts) s (rgHoldover s) := by
  unfold rgHoldover
  refine Keeps.foldl ?_ (fun u0 _ hu1 => ?_)
  · exact Keeps.refl _ _
  · try beta_reduce
    extract_lets -merge +onlyGivenNames x2
    refine Keeps.ite ?_ ?_
    · exact hu1
    · split
      · exact hu1
      · refine (updChX_keeps ..).step (by decide) ?_
        exact hu1
      · refine (stopChannel_keeps ..).step (by decide) ?_
        exact hu1

/-! ### Machine/Te.lean -/

theorem teRefuse_keeps (cause off : Nat) (v : Word) (s : State) :
    Keeps (.te :: eventParts) s (teRefuse cause off v s) := by
  unfold teRefuse
  refine (raise_keeps ..).step (by decide) ?_
  refine Keeps.te ?_ (by decide)
  exact Keeps.refl _ _

theorem aonLatch_keeps (s : State) :
    Keeps ([.tmp]) s (aonLatch s) := by
  unfold aonLatch
  refine Keeps.tmp ?_ (by decide)
  exact Keeps.refl _ _

theorem ppsEmit_keeps (s : State) :
    Keeps (.te :: .rg :: .hi :: .tmp :: eventParts) s (ppsEmit s) := by
  unfold ppsEmit
  refine (rgPps_keeps ..).step (by decide) ?_
  refine (aonLatch_keeps ..).step (by decide) ?_
  refine Keeps.te ?_ (by decide)
  exact Keeps.refl _ _

theorem rngFailed_keeps (leaf : BitVec 12) (cause : Nat) (exch : Byte) (s : State) :
    Keeps (.tex :: eventParts) s (rngFailed leaf cause exch s) := by
  unfold rngFailed
  refine (raise_keeps ..).step (by decide) ?_
  refine Keeps.tex ?_ (by decide)
  exact Keeps.refl _ _

theorem dropExch_keeps (e : Exch) (s : State) :
    Keeps ([.tex]) s (dropExch e s) := by
  unfold dropExch
  refine Keeps.tex ?_ (by decide)
  exact Keeps.refl _ _

theorem failExch_keeps (e : Exch) (cause : Nat) (s : State) :
    Keeps (.tex :: eventParts) s (failExch e cause s) := by
  unfold failExch
  extract_lets -merge +onlyGivenNames x0
  have h1 : Keeps (.tex :: eventParts) s x0 := by
    unfold x0
    refine (dropExch_keeps ..).step (by decide) ?_
    exact Keeps.refl _ _
  refine Keeps.ite ?_ ?_
  · refine (rngFailed_keeps ..).step (by decide) ?_
    exact h1
  · exact h1

theorem todJump_keeps (v cause : Nat) (s : State) :
    Keeps (.te :: .tex :: .rg :: .hi :: eventParts) s (todJump v cause s) := by
  unfold todJump
  extract_lets -merge +onlyGivenNames x0 x1 x2 x3
  extract_lets -merge +onlyGivenNames x4
  have h5 : Keeps (.te :: .tex :: .rg :: .hi :: eventParts) s x4 := by
    refine Keeps.te_tex ?_ (by decide) (by decide)
    exact Keeps.refl _ _
  extract_lets -merge +onlyGivenNames x6
  have h7 : Keeps (.te :: .tex :: .rg :: .hi :: eventParts) s x6 := by
    unfold x6
    refine Keeps.foldl ?_ (fun u8 _ hu9 => ?_)
    · exact h5
    · try beta_reduce
      refine (failExch_keeps ..).step (by decide) ?_
      exact hu9
  refine (todPassed_keeps ..).step (by decide) ?_
  refine (ltcCutAll_keeps ..).step (by decide) ?_
  exact h7

theorem teStep_keeps (o : Int) (s : State) :
    Keeps (.te :: .tex :: .rg :: .hi :: .tmp :: eventParts) s (teStep o s) := by
  unfold teStep
  extract_lets -merge +onlyGivenNames x0
  extract_lets -merge +onlyGivenNames x1
  have h2 : Keeps (.te :: .tex :: .rg :: .hi :: .tmp :: eventParts) s x1 := by
    unfold x1
    refine (todJump_keeps ..).step (by decide) ?_
    exact Keeps.refl _ _
  extract_lets -merge +onlyGivenNames x3
  have h4 : Keeps (.te :: .tex :: .rg :: .hi :: .tmp :: eventParts) s x3 := by
    refine Keeps.ite ?_ ?_
    · refine (ppsEmit_keeps ..).step (by decide) ?_
      exact h2
    · exact h2
  refine (raise_keeps ..).step (by decide) ?_
  exact h4

theorem leapDone_keeps (skipped : Bool) (s : State) :
    Keeps (.te :: eventParts) s (leapDone skipped s) := by
  unfold leapDone
  extract_lets -merge +onlyGivenNames x0 x1 x2
  extract_lets -merge +onlyGivenNames x3
  have h4 : Keeps (.te :: eventParts) s x3 := by
    refine Keeps.te ?_ (by decide)
    exact Keeps.refl _ _
  refine (raise_keeps ..).step (by decide) ?_
  exact h4

theorem leapCheck_keeps (s : State) :
    Keeps (.te :: eventParts) s (leapCheck s) := by
  unfold leapCheck
  refine Keeps.ite ?_ ?_
  · exact Keeps.refl _ _
  · refine Keeps.ite ?_ ?_
    · refine Keeps.ite ?_ ?_
      · refine (leapDone_keeps ..).step (by decide) ?_
        exact Keeps.refl _ _
      · exact Keeps.refl _ _
    · refine Keeps.ite ?_ ?_
      · refine Keeps.te ?_ (by decide)
        exact Keeps.refl _ _
      · refine Keeps.ite ?_ ?_
        · refine (leapDone_keeps ..).step (by decide) ?_
          exact Keeps.refl _ _
        · exact Keeps.refl _ _

theorem leapSkip_keeps (old : BitVec 48) (s : State) :
    Keeps (.te :: eventParts) s (leapSkip old s) := by
  unfold leapSkip
  refine Keeps.ite ?_ ?_
  · refine (leapDone_keeps ..).step (by decide) ?_
    exact Keeps.refl _ _
  · exact Keeps.refl _ _

theorem afterApply_keeps (s : State) :
    Keeps ([.tex]) s (afterApply s) := by
  unfold afterApply
  refine Keeps.ite ?_ ?_
  · exact Keeps.refl _ _
  · refine Keeps.tex ?_ (by decide)
    exact Keeps.refl _ _

theorem appliedEvent_keeps (mode : Nat) (pps : Bool) (s : State) :
    Keeps (eventParts) s (appliedEvent mode pps s) := by
  unfold appliedEvent
  refine (raise_keeps ..).step (by decide) ?_
  exact Keeps.refl _ _

theorem applyNow_keeps (s : State) :
    Keeps (.te :: .tex :: .rg :: .hi :: .tmp :: eventParts) s (applyNow s) := by
  unfold applyNow
  extract_lets -merge +onlyGivenNames x0 x1 x2
  extract_lets -merge +onlyGivenNames x3
  have h4 : Keeps (.te :: .tex :: .rg :: .hi :: .tmp :: eventParts) s x3 := by
    unfold x3
    refine (afterApply_keeps ..).step (by decide) ?_
    refine (todJump_keeps ..).step (by decide) ?_
    refine Keeps.te ?_ (by decide)
    exact Keeps.refl _ _
  extract_lets -merge +onlyGivenNames x5
  extract_lets -merge +onlyGivenNames x6
  have h7 : Keeps (.te :: .tex :: .rg :: .hi :: .tmp :: eventParts) s x6 := by
    refine Keeps.ite ?_ ?_
    · refine (ppsEmit_keeps ..).step (by decide) ?_
      exact h4
    · exact h4
  refine (leapSkip_keeps ..).step (by decide) ?_
  refine (appliedEvent_keeps ..).step (by decide) ?_
  exact h7

theorem secondPassed_keeps (s : State) :
    Keeps (.te :: .tex :: .rg :: .hi :: .tmp :: eventParts) s (secondPassed s) := by
  unfold secondPassed
  extract_lets -merge +onlyGivenNames x0 x1 x2
  extract_lets -merge +onlyGivenNames x3
  have h4 : Keeps (.te :: .tex :: .rg :: .hi :: .tmp :: eventParts) s x3 := by
    refine Keeps.ite ?_ ?_
    · refine (leapSkip_keeps ..).step (by decide) ?_
      refine (appliedEvent_keeps ..).step (by decide) ?_
      refine (afterApply_keeps ..).step (by decide) ?_
      refine (todJump_keeps ..).step (by decide) ?_
      refine Keeps.te ?_ (by decide)
      exact Keeps.refl _ _
    · exact Keeps.refl _ _
  extract_lets -merge +onlyGivenNames x5
  have h6 : Keeps (.te :: .tex :: .rg :: .hi :: .tmp :: eventParts) s x5 := by
    unfold x5
    refine (leapCheck_keeps ..).step (by decide) ?_
    exact h4
  extract_lets -merge +onlyGivenNames x7
  extract_lets -merge +onlyGivenNames x8
  have h9 : Keeps (.te :: .tex :: .rg :: .hi :: .tmp :: eventParts) s x8 := by
    refine Keeps.ite ?_ ?_
    · refine Keeps.tex ?_ (by decide)
      exact h6
    · exact h6
  refine (ppsEmit_keeps ..).step (by decide) ?_
  exact h9

theorem execTodRollover_keeps (s : State) {s₁ : State}
    (h : execTodRollover s = .next s₁) : Keeps (.te :: .tex :: .rg :: .hi :: .tmp :: eventParts) s s₁ := by
  unfold execTodRollover at h
  refine run_keeps (by decide) (fun u hu => ?_) h
  try beta_reduce
  refine (secondPassed_keeps ..).step (by decide) ?_
  refine Keeps.te ?_ (by decide)
  exact hu

theorem execPpsWidthEnd_keeps (s : State) {s₁ : State}
    (h : execPpsWidthEnd s = .next s₁) : Keeps ([.te]) s s₁ := by
  unfold execPpsWidthEnd at h
  refine run_keeps (by decide) (fun u hu => ?_) h
  try beta_reduce
  refine Keeps.te ?_ (by decide)
  exact hu

theorem teApplyWrite_keeps (v : Word) (s : State) :
    Keeps (.te :: .tex :: .rg :: .hi :: .tmp :: eventParts) s (teApplyWrite v s) := by
  unfold teApplyWrite
  split
  · split
    · refine (raise_keeps ..).step (by decide) ?_
      refine Keeps.te ?_ (by decide)
      exact Keeps.refl _ _
    · exact Keeps.refl _ _
  · refine Keeps.ite ?_ ?_
    · refine (teRefuse_keeps ..).step (by decide) ?_
      exact Keeps.refl _ _
    · refine (applyNow_keeps ..).step (by decide) ?_
      exact Keeps.refl _ _
  · refine Keeps.ite ?_ ?_
    · refine (teRefuse_keeps ..).step (by decide) ?_
      exact Keeps.refl _ _
    · refine Keeps.te ?_ (by decide)
      exact Keeps.refl _ _
  · exact Keeps.refl _ _

theorem execApplyImmediate_keeps (v : Word) (s : State) {s₁ : State}
    (h : execApplyImmediate v s = .next s₁) : Keeps (.slp :: .te :: .tex :: .rg :: .hi :: .tmp :: .pwr :: eventParts) s s₁ := by
  unfold execApplyImmediate at h
  refine runHost_keeps (by decide) (fun u hu => ?_) h
  refine (teApplyWrite_keeps ..).step (by decide) ?_
  exact hu

theorem execApplyAtNextSecond_keeps (v : Word) (s : State) {s₁ : State}
    (h : execApplyAtNextSecond v s = .next s₁) : Keeps (.slp :: .te :: .tex :: .rg :: .hi :: .tmp :: .pwr :: eventParts) s s₁ := by
  unfold execApplyAtNextSecond at h
  refine runHost_keeps (by decide) (fun u hu => ?_) h
  refine (teApplyWrite_keeps ..).step (by decide) ?_
  exact hu

theorem execApplyCancel_keeps (v : Word) (s : State) {s₁ : State}
    (h : execApplyCancel v s = .next s₁) : Keeps (.slp :: .te :: .tex :: .rg :: .hi :: .tmp :: .pwr :: eventParts) s s₁ := by
  unfold execApplyCancel at h
  refine runHost_keeps (by decide) (fun u hu => ?_) h
  refine (teApplyWrite_keeps ..).step (by decide) ?_
  exact hu

theorem teCaptureWrite_keeps (v : Word) (s : State) :
    Keeps ([.te]) s (teCaptureWrite v s) := by
  unfold teCaptureWrite
  refine Keeps.ite ?_ ?_
  · refine Keeps.te ?_ (by decide)
    exact Keeps.refl _ _
  · exact Keeps.refl _ _

theorem execTeCapture_keeps (v : Word) (s : State) {s₁ : State}
    (h : execTeCapture v s = .next s₁) : Keeps ([.slp, .te, .pwr]) s s₁ := by
  unfold execTeCapture at h
  refine runHost_keeps (by decide) (fun u hu => ?_) h
  refine (teCaptureWrite_keeps ..).step (by decide) ?_
  exact hu

theorem teSetSecHi_keeps (a : Agent) (v : Word) (s : State) :
    Keeps (.te :: .staging :: eventParts) s (teSetSecHi a v s) := by
  unfold teSetSecHi
  split
  rename_i v0 v1 e3
  have hv2 : Keeps (.te :: .staging :: eventParts) s v1 := by
    refine Keeps.snd e3 ?_
    refine (takeLo_keeps ..).step (by decide) ?_
    exact Keeps.refl _ _
  clear e3
  refine Keeps.ite ?_ ?_
  · refine (teRefuse_keeps ..).step (by decide) ?_
    exact hv2
  · refine Keeps.te ?_ (by decide)
    exact hv2

theorem teSetNs_keeps (v : Word) (s : State) :
    Keeps (.te :: eventParts) s (teSetNs v s) := by
  unfold teSetNs
  refine Keeps.ite ?_ ?_
  · refine (teRefuse_keeps ..).step (by decide) ?_
    exact Keeps.refl _ _
  · refine Keeps.ite ?_ ?_
    · refine (teRefuse_keeps ..).step (by decide) ?_
      exact Keeps.refl _ _
    · refine Keeps.te ?_ (by decide)
      exact Keeps.refl _ _

theorem teSetFrac_keeps (v : Word) (s : State) :
    Keeps (.te :: eventParts) s (teSetFrac v s) := by
  unfold teSetFrac
  refine Keeps.ite ?_ ?_
  · refine (teRefuse_keeps ..).step (by decide) ?_
    exact Keeps.refl _ _
  · refine Keeps.te ?_ (by decide)
    exact Keeps.refl _ _

theorem execTeSetWrite_keeps (r : TeSetReg) (v : Word) (s : State) {s₁ : State}
    (h : execTeSetWrite r v s = .next s₁) : Keeps (.slp :: .te :: .pwr :: .staging :: eventParts) s s₁ := by
  unfold execTeSetWrite at h
  refine runHost_keeps (by decide) (fun u hu => ?_) h
  try beta_reduce
  split
  · refine (stageLo_keeps ..).step (by decide) ?_
    exact hu
  · refine (teSetSecHi_keeps ..).step (by decide) ?_
    exact hu
  · refine (teSetNs_keeps ..).step (by decide) ?_
    exact hu
  · refine (teSetFrac_keeps ..).step (by decide) ?_
    exact hu

theorem addSlew_keeps (c : Int) (s : State) :
    Keeps ([.te]) s (addSlew c s) := by
  unfold addSlew
  refine Keeps.te ?_ (by decide)
  exact Keeps.refl _ _

theorem teSlewWrite_keeps (v : Word) (s : State) :
    Keeps (.te :: eventParts) s (teSlewWrite v s) := by
  unfold teSlewWrite
  refine Keeps.ite ?_ ?_
  · refine (teRefuse_keeps ..).step (by decide) ?_
    exact Keeps.refl _ _
  · refine (addSlew_keeps ..).step (by decide) ?_
    exact Keeps.refl _ _

theorem execTeSlew_keeps (v : Word) (s : State) {s₁ : State}
    (h : execTeSlew v s = .next s₁) : Keeps (.slp :: .te :: .pwr :: eventParts) s s₁ := by
  unfold execTeSlew at h
  refine runHost_keeps (by decide) (fun u hu => ?_) h
  refine (teSlewWrite_keeps ..).step (by decide) ?_
  exact hu

theorem execSlewDone_keeps (s : State) {s₁ : State}
    (h : execSlewDone s = .next s₁) : Keeps ([.te]) s s₁ := by
  unfold execSlewDone at h
  refine run_keeps (by decide) (fun u hu => ?_) h
  try beta_reduce
  refine Keeps.ite ?_ ?_
  · refine Keeps.te ?_ (by decide)
    exact hu
  · exact hu

theorem teFreqHiWrite_keeps (a : Agent) (v : Word) (s : State) :
    Keeps (.te :: .staging :: eventParts) s (teFreqHiWrite a v s) := by
  unfold teFreqHiWrite
  split
  rename_i v0 v1 e3
  have hv2 : Keeps (.te :: .staging :: eventParts) s v1 := by
    refine Keeps.snd e3 ?_
    refine (takeLo_keeps ..).step (by decide) ?_
    exact Keeps.refl _ _
  clear e3
  refine Keeps.ite ?_ ?_
  · refine (teRefuse_keeps ..).step (by decide) ?_
    exact hv2
  · refine Keeps.te ?_ (by decide)
    exact hv2

theorem execTeFreqWrite_keeps (v : Word) (s : State) {s₁ : State}
    (h : execTeFreqWrite v s = .next s₁) : Keeps (.slp :: .te :: .pwr :: .staging :: eventParts) s s₁ := by
  unfold execTeFreqWrite at h
  refine runHost_keeps (by decide) (fun u hu => ?_) h
  try beta_reduce
  refine (teFreqHiWrite_keeps ..).step (by decide) ?_
  exact hu

theorem teCtrlWrite_keeps (v : Word) (s : State) :
    Keeps (.te :: .tex :: eventParts) s (teCtrlWrite v s) := by
  unfold teCtrlWrite
  refine Keeps.ite ?_ ?_
  · refine (teRefuse_keeps ..).step (by decide) ?_
    exact Keeps.refl _ _
  · extract_lets -merge +onlyGivenNames x0 x1
    extract_lets -merge +onlyGivenNames x2
    have h3 : Keeps (.te :: .tex :: eventParts) s x2 := by
      refine Keeps.te ?_ (by decide)
      exact Keeps.refl _ _
    refine Keeps.ite ?_ ?_
    · exact h3
    · refine Keeps.tex ?_ (by decide)
      exact h3

theorem execTeSrcSelect_keeps (v : Word) (s : State) {s₁ : State}
    (h : execTeSrcSelect v s = .next s₁) : Keeps (.slp :: .te :: .tex :: .pwr :: eventParts) s s₁ := by
  unfold execTeSrcSelect at h
  refine runHost_keeps (by decide) (fun u hu => ?_) h
  refine (teCtrlWrite_keeps ..).step (by decide) ?_
  exact hu

theorem lockCount_keeps (o : Int) (s : State) :
    Keeps (.te :: .tex :: eventParts) s (lockCount o s) := by
  unfold lockCount
  refine Keeps.ite ?_ ?_
  · extract_lets -merge +onlyGivenNames x0
    extract_lets -merge +onlyGivenNames x1
    have h2 : Keeps (.te :: .tex :: eventParts) s x1 := by
      refine Keeps.tex ?_ (by decide)
      exact Keeps.refl _ _
    refine Keeps.ite ?_ ?_
    · refine (raise_keeps ..).step (by decide) ?_
      refine Keeps.te ?_ (by decide)
      exact h2
    · exact h2
  · extract_lets -merge +onlyGivenNames x3
    extract_lets -merge +onlyGivenNames x4
    have h5 : Keeps (.te :: .tex :: eventParts) s x4 := by
      refine Keeps.tex ?_ (by decide)
      exact Keeps.refl _ _
    refine Keeps.ite ?_ ?_
    · refine (raise_keeps ..).step (by decide) ?_
      refine Keeps.te ?_ (by decide)
      exact h5
    · exact h5

theorem steerRate_keeps (o t : Int) (s : State) :
    Keeps ([.te, .freeCtr]) s (steerRate o t s) := by
  unfold steerRate
  refine Keeps.ite ?_ ?_
  · split
    rename_i v0 v1 e3
    have hv2 : Keeps ([.te, .freeCtr]) s v1 := by
      refine Keeps.snd e3 ?_
      refine (draw_keeps ..).step (by decide) ?_
      exact Keeps.refl _ _
    clear e3
    refine Keeps.te ?_ (by decide)
    exact hv2
  · split
    · refine Keeps.ite ?_ ?_
      · extract_lets -merge +onlyGivenNames x4
        refine Keeps.te ?_ (by decide)
        exact Keeps.refl _ _
      · exact Keeps.refl _ _
    · exact Keeps.refl _ _

theorem measure_keeps (o t : Int) (s : State) :
    Keeps (.te :: .tex :: .rg :: .hi :: .tmp :: .freeCtr :: eventParts) s (measure o t s) := by
  unfold measure
  extract_lets -merge +onlyGivenNames x0 x1
  refine Keeps.ite ?_ ?_
  · exact Keeps.refl _ _
  · refine Keeps.ite ?_ ?_
    · extract_lets -merge +onlyGivenNames x2
      have h3 : Keeps (.te :: .tex :: .rg :: .hi :: .tmp :: .freeCtr :: eventParts) s x2 := by
        refine Keeps.ite ?_ ?_
        · refine (raise_keeps ..).step (by decide) ?_
          exact Keeps.refl _ _
        · exact Keeps.refl _ _
      extract_lets -merge +onlyGivenNames x4 x5
      extract_lets -merge +onlyGivenNames x6
      have h7 : Keeps (.te :: .tex :: .rg :: .hi :: .tmp :: .freeCtr :: eventParts) s x6 := by
        refine Keeps.te_tex ?_ (by decide) (by decide)
        exact h3
      refine (teStep_keeps ..).step (by decide) ?_
      exact h7
    · refine Keeps.ite ?_ ?_
      · refine Keeps.tex ?_ (by decide)
        exact Keeps.refl _ _
      · extract_lets -merge +onlyGivenNames x8
        extract_lets -merge +onlyGivenNames x9
        have h10 : Keeps (.te :: .tex :: .rg :: .hi :: .tmp :: .freeCtr :: eventParts) s x9 := by
          refine Keeps.ite ?_ ?_
          · refine Keeps.te ?_ (by decide)
            exact Keeps.refl _ _
          · exact Keeps.refl _ _
        extract_lets -merge +onlyGivenNames x11
        have h12 : Keeps (.te :: .tex :: .rg :: .hi :: .tmp :: .freeCtr :: eventParts) s x11 := by
          unfold x11
          refine (addSlew_keeps ..).step (by decide) ?_
          exact h10
        extract_lets -merge +onlyGivenNames x13
        have h14 : Keeps (.te :: .tex :: .rg :: .hi :: .tmp :: .freeCtr :: eventParts) s x13 := by
          unfold x13
          refine (steerRate_keeps ..).step (by decide) ?_
          exact h12
        extract_lets -merge +onlyGivenNames x15
        extract_lets -merge +onlyGivenNames x16
        have h17 : Keeps (.te :: .tex :: .rg :: .hi :: .tmp :: .freeCtr :: eventParts) s x16 := by
          refine Keeps.tex ?_ (by decide)
          exact h14
        refine (lockCount_keeps ..).step (by decide) ?_
        exact h17

theorem srcLostNow_keeps (src : Nat) (s : State) :
    Keeps (.te :: .tex :: eventParts) s (srcLostNow src s) := by
  unfold srcLostNow
  extract_lets -merge +onlyGivenNames x0 x1 x2
  extract_lets -merge +onlyGivenNames x3
  have h4 : Keeps (.te :: .tex :: eventParts) s x3 := by
    refine Keeps.te_tex ?_ (by decide) (by decide)
    exact Keeps.refl _ _
  refine (raise_keeps ..).step (by decide) ?_
  exact h4

theorem srcBack_keeps (src : Nat) (s : State) :
    Keeps (.te :: .tex :: eventParts) s (srcBack src s) := by
  unfold srcBack
  refine Keeps.ite ?_ ?_
  · extract_lets -merge +onlyGivenNames x0 x1
    extract_lets -merge +onlyGivenNames x2
    have h3 : Keeps (.te :: .tex :: eventParts) s x2 := by
      refine Keeps.te_tex ?_ (by decide) (by decide)
      exact Keeps.refl _ _
    refine (raise_keeps ..).step (by decide) ?_
    exact h3
  · exact Keeps.refl _ _

theorem srcOkSet_keeps (src : Nat) (b : Bool) (s : State) :
    Keeps ([.te]) s (srcOkSet src b s) := by
  unfold srcOkSet
  refine Keeps.te ?_ (by decide)
  exact Keeps.refl _ _

theorem execPpsInEdge_keeps (sub : BitVec 6) (s : State) {s₁ : State}
    (h : execPpsInEdge sub s = .next s₁) : Keeps (.te :: .tex :: .rg :: .hi :: .tmp :: .freeCtr :: eventParts) s s₁ := by
  unfold execPpsInEdge at h
  refine run_keeps (by decide) (fun u hu => ?_) h
  try beta_reduce
  extract_lets -merge +onlyGivenNames x0 x1
  refine Keeps.ite ?_ ?_
  · refine Keeps.tex ?_ (by decide)
    exact hu
  · extract_lets -merge +onlyGivenNames x2 x3
    extract_lets -merge +onlyGivenNames x4
    have h5 : Keeps (.te :: .tex :: .rg :: .hi :: .tmp :: .freeCtr :: eventParts) s x4 := by
      unfold x4
      refine (srcOkSet_keeps ..).step (by decide) ?_
      refine Keeps.tex ?_ (by decide)
      exact hu
    refine Keeps.ite ?_ ?_
    · refine (measure_keeps ..).step (by decide) ?_
      refine (srcBack_keeps ..).step (by decide) ?_
      exact h5
    · exact h5

theorem execPpsInLoss_keeps (s : State) {s₁ : State}
    (h : execPpsInLoss s = .next s₁) : Keeps (.te :: .tex :: eventParts) s s₁ := by
  unfold execPpsInLoss at h
  refine run_keeps (by decide) (fun u hu => ?_) h
  try beta_reduce
  extract_lets -merge +onlyGivenNames x0
  extract_lets -merge +onlyGivenNames x1
  have h2 : Keeps (.te :: .tex :: eventParts) s x1 := by
    unfold x1
    refine (srcOkSet_keeps ..).step (by decide) ?_
    refine Keeps.tex ?_ (by decide)
    exact hu
  refine Keeps.ite ?_ ?_
  · refine (srcLostNow_keeps ..).step (by decide) ?_
    exact h2
  · exact h2

theorem execBeaconSourceLoss_keeps (s : State) {s₁ : State}
    (h : execBeaconSourceLoss s = .next s₁) : Keeps (.te :: .tex :: eventParts) s s₁ := by
  unfold execBeaconSourceLoss at h
  refine run_keeps (by decide) (fun u hu => ?_) h
  try beta_reduce
  refine Keeps.ite ?_ ?_
  · extract_lets -merge +onlyGivenNames x0
    have h1 : Keeps (.te :: .tex :: eventParts) s x0 := by
      unfold x0
      refine (srcOkSet_keeps ..).step (by decide) ?_
      exact hu
    refine Keeps.ite ?_ ?_
    · refine (srcLostNow_keeps ..).step (by decide) ?_
      exact h1
    · exact h1
  · exact hu

theorem beaconMeasure_keeps (stamp : Stamp) (tod : Stamp) (s : State) :
    Keeps (.te :: .tex :: .rg :: .hi :: .tmp :: .freeCtr :: eventParts) s (beaconMeasure stamp tod s) := by
  unfold beaconMeasure
  extract_lets -merge +onlyGivenNames x0
  extract_lets -merge +onlyGivenNames x1
  have h2 : Keeps (.te :: .tex :: .rg :: .hi :: .tmp :: .freeCtr :: eventParts) s x1 := by
    unfold x1
    refine (srcOkSet_keeps ..).step (by decide) ?_
    refine Keeps.tex ?_ (by decide)
    exact Keeps.refl _ _
  refine Keeps.ite ?_ ?_
  · extract_lets -merge +onlyGivenNames x3 x4 x5
    extract_lets -merge +onlyGivenNames x6
    have h7 : Keeps (.te :: .tex :: .rg :: .hi :: .tmp :: .freeCtr :: eventParts) s x6 := by
      refine Keeps.tex ?_ (by decide)
      exact h2
    refine (measure_keeps ..).step (by decide) ?_
    refine (srcBack_keeps ..).step (by decide) ?_
    exact h7
  · exact h2

theorem legOnLine_keeps (f : TxFrame) (port : Nat) (mode : Mode) (built : List Byte) (s : State) :
    Keeps ([.air, .afe, .line, .lg]) s (legOnLine f port mode built s).2 := by
  unfold legOnLine
  extract_lets -merge +onlyGivenNames x0 x1
  refine Keeps.ite2 ?_ ?_
  · extract_lets -merge +onlyGivenNames x2
    extract_lets -merge +onlyGivenNames x3
    have h4 : Keeps ([.air, .afe, .line, .lg]) s x3 := by
      unfold x3
      refine (takeBands_keeps ..).step (by decide) ?_
      exact Keeps.refl _ _
    extract_lets -merge +onlyGivenNames x5
    have h6 : Keeps ([.air, .afe, .line, .lg]) s x5 := by
      refine Keeps.ite ?_ ?_
      · refine (cRun_keeps ..).step (by decide) ?_
        exact h4
      · exact h4
    extract_lets -merge +onlyGivenNames x7
    try with_reducible refine Keeps.mk ?_
    refine (goOnLine_keeps ..).step (by decide) ?_
    refine (submit_keeps ..).step (by decide) ?_
    exact h6
  · try with_reducible refine Keeps.mk ?_
    exact Keeps.refl _ _

theorem execRangingStart_keeps (p : Port) (s : State) {s₁ : State}
    (h : execRangingStart p s = .next s₁) : Keeps (.air :: .afe :: .line :: .tex :: .cx :: eventParts) s s₁ := by
  unfold execRangingStart at h
  refine run_keeps (by decide) (fun u hu => ?_) h
  try beta_reduce
  refine Keeps.ite ?_ ?_
  · exact hu
  · split
    · exact hu
    · extract_lets -merge +onlyGivenNames x0 x1 x2 x3 x4 x5
      refine Keeps.ite ?_ ?_
      · exact hu
      · extract_lets -merge +onlyGivenNames x6 x7
        extract_lets -merge +onlyGivenNames x8
        have h9 : Keeps (.air :: .afe :: .line :: .tex :: .cx :: eventParts) s x8 := by
          refine Keeps.tex ?_ (by decide)
          exact hu
        extract_lets -merge +onlyGivenNames x10 x11
        split
        · rename_i v12 v13 v14 v15 e17
          have hv16 : Keeps (.air :: .afe :: .line :: .tex :: .cx :: eventParts) s v15 := by
            refine Keeps.snd2 e17 ?_
            refine (sealFrame_keeps ..).step (by decide) ?_
            exact h9
          clear e17
          split
          · rename_i v18 e20
            have hv19 : Keeps (.air :: .afe :: .line :: .tex :: .cx :: eventParts) s v18 := by
              refine Keeps.snd e20 ?_
              refine (legOnLine_keeps ..).step (by decide) ?_
              exact hv16
            clear e20
            extract_lets -merge +onlyGivenNames x21
            refine Keeps.tex ?_ (by decide)
            exact hv19
          · rename_i v22 e24
            have hv23 : Keeps (.air :: .afe :: .line :: .tex :: .cx :: eventParts) s v22 := by
              refine Keeps.snd e24 ?_
              refine (legOnLine_keeps ..).step (by decide) ?_
              exact hv16
            clear e24
            refine (rngFailed_keeps ..).step (by decide) ?_
            exact hv23
        · rename_i v25 v26 v27 _ e29
          have hv28 : Keeps (.air :: .afe :: .line :: .tex :: .cx :: eventParts) s v27 := by
            refine Keeps.snd2 e29 ?_
            refine (sealFrame_keeps ..).step (by decide) ?_
            exact h9
          clear e29
          refine (rngFailed_keeps ..).step (by decide) ?_
          exact hv28

theorem rngNowWrite_keeps (v : Word) (s : State) :
    Keeps (.te :: .tex :: eventParts) s (rngNowWrite v s) := by
  unfold rngNowWrite
  extract_lets -merge +onlyGivenNames x0 x1
  extract_lets -merge +onlyGivenNames x2
  have h3 : Keeps (.te :: .tex :: eventParts) s x2 := by
    refine Keeps.te ?_ (by decide)
    exact Keeps.refl _ _
  refine Keeps.ite ?_ ?_
  · exact h3
  · refine Keeps.ite ?_ ?_
    · refine Keeps.tex ?_ (by decide)
      exact h3
    · refine (rngFailed_keeps ..).step (by decide) ?_
      exact h3

theorem execTeRngNow_keeps (v : Word) (s : State) {s₁ : State}
    (h : execTeRngNow v s = .next s₁) : Keeps (.slp :: .te :: .tex :: .pwr :: eventParts) s s₁ := by
  unfold execTeRngNow at h
  refine runHost_keeps (by decide) (fun u hu => ?_) h
  refine (rngNowWrite_keeps ..).step (by decide) ?_
  exact hu

theorem execRangingTimeout_keeps (p : Port) (s : State) {s₁ : State}
    (h : execRangingTimeout p s = .next s₁) : Keeps (.tex :: eventParts) s s₁ := by
  unfold execRangingTimeout at h
  refine run_keeps (by decide) (fun u hu => ?_) h
  try beta_reduce
  split
  · refine (failExch_keeps ..).step (by decide) ?_
    exact hu
  · exact hu

theorem replaceExch_keeps (e : Exch) (s : State) :
    Keeps ([.tex]) s (replaceExch e s) := by
  unfold replaceExch
  refine Keeps.tex ?_ (by decide)
  exact Keeps.refl _ _

theorem onRangeLeg_keeps (o : Front) (relay : Bool) (s : State) :
    Keeps ([.tex]) s (onRangeLeg o relay s) := by
  unfold onRangeLeg
  extract_lets -merge +onlyGivenNames x0 x1 x2 x3 x4 x5 x6 x7 x8 x9
  clear_value  x9
  split
  · exact Keeps.refl _ _
  · refine (replaceExch_keeps ..).step (by decide) ?_
    exact Keeps.refl _ _

theorem sendLeg_keeps (p : Port) (e : Exch) (t : Nat) (s : State) :
    Keeps (.air :: .afe :: .line :: .ltx :: .tex :: .cx :: eventParts) s (sendLeg p e t s) := by
  unfold sendLeg
  extract_lets -merge +onlyGivenNames x0
  have h1 : Keeps (.air :: .afe :: .line :: .ltx :: .tex :: .cx :: eventParts) s x0 := by
    unfold x0
    refine (dropExch_keeps ..).step (by decide) ?_
    exact Keeps.refl _ _
  extract_lets -merge +onlyGivenNames x2
  refine Keeps.ite ?_ ?_
  · exact h1
  · refine Keeps.ite ?_ ?_
    · extract_lets -merge +onlyGivenNames x3 x4 x5 x6
      split
      · rename_i v7 v8 v9 v10 e12
        have hv11 : Keeps (.air :: .afe :: .line :: .ltx :: .tex :: .cx :: eventParts) s v10 := by
          refine Keeps.snd2 e12 ?_
          refine (sealFrame_keeps ..).step (by decide) ?_
          exact h1
        clear e12
        split
        · rename_i v13 e15
          have hv14 : Keeps (.air :: .afe :: .line :: .ltx :: .tex :: .cx :: eventParts) s v13 := by
            refine Keeps.snd e15 ?_
            refine (legOnLine_keeps ..).step (by decide) ?_
            exact hv11
          clear e15
          refine Keeps.tex ?_ (by decide)
          exact hv14
        · rename_i v16 e18
          have hv17 : Keeps (.air :: .afe :: .line :: .ltx :: .tex :: .cx :: eventParts) s v16 := by
            refine Keeps.snd e18 ?_
            refine (legOnLine_keeps ..).step (by decide) ?_
            exact hv11
          clear e18
          exact hv17
      · rename_i v19 v20 v21 _ e23
        have hv22 : Keeps (.air :: .afe :: .line :: .ltx :: .tex :: .cx :: eventParts) s v21 := by
          refine Keeps.snd2 e23 ?_
          refine (sealFrame_keeps ..).step (by decide) ?_
          exact h1
        clear e23
        exact hv22
    · extract_lets -merge +onlyGivenNames x24
      split
      rename_i v25 v26 e28
      have hv27 : Keeps (.air :: .afe :: .line :: .ltx :: .tex :: .cx :: eventParts) s v26 := by
        refine Keeps.snd e28 ?_
        refine (grantNow_keeps ..).step (by decide) ?_
        exact h1
      clear e28
      extract_lets -merge +onlyGivenNames x29 x30 x31
      split
      · rename_i v32 e34
        have hv33 : Keeps (.air :: .afe :: .line :: .ltx :: .tex :: .cx :: eventParts) s v32 := by
          refine Keeps.snd e34 ?_
          refine (legOnLine_keeps ..).step (by decide) ?_
          exact hv27
        clear e34
        refine Keeps.ite ?_ ?_
        · refine Keeps.tex ?_ (by decide)
          exact hv33
        · exact hv33
      · rename_i v35 e37
        have hv36 : Keeps (.air :: .afe :: .line :: .ltx :: .tex :: .cx :: eventParts) s v35 := by
          refine Keeps.snd e37 ?_
          refine (legOnLine_keeps ..).step (by decide) ?_
          exact hv27
        clear e37
        exact hv36

theorem execRangeLegSend_keeps (p : Port) (s : State) {s₁ : State}
    (h : execRangeLegSend p s = .next s₁) : Keeps (.air :: .afe :: .line :: .ltx :: .tex :: .cx :: eventParts) s s₁ := by
  unfold execRangeLegSend at h
  refine run_keeps (by decide) (fun u hu => ?_) h
  try beta_reduce
  split
  · refine Keeps.ite ?_ ?_
    · refine (sendLeg_keeps ..).step (by decide) ?_
      exact hu
    · exact hu
  · exact hu

theorem onRangeResp_keeps (o : Front) (s : State) :
    Keeps (.line :: .lt :: .tex :: eventParts) s (onRangeResp o s) := by
  unfold onRangeResp
  extract_lets -merge +onlyGivenNames x0
  split
  · exact Keeps.refl _ _
  · refine Keeps.ite ?_ ?_
    · exact Keeps.refl _ _
    · extract_lets -merge +onlyGivenNames x1 x2 x3 x4 x5 x6
      extract_lets -merge +onlyGivenNames x7
      have h8 : Keeps (.line :: .lt :: .tex :: eventParts) s x7 := by
        unfold x7
        refine (updEntry_keeps ..).step (by decide) ?_
        refine (dropExch_keeps ..).step (by decide) ?_
        exact Keeps.refl _ _
      extract_lets -merge +onlyGivenNames x9
      extract_lets -merge +onlyGivenNames x10
      have h11 : Keeps (.line :: .lt :: .tex :: eventParts) s x10 := by
        refine Keeps.tex ?_ (by decide)
        exact h8
      extract_lets -merge +onlyGivenNames x12
      have h13 : Keeps (.line :: .lt :: .tex :: eventParts) s x12 := by
        unfold x12
        refine (submit_keeps ..).step (by decide) ?_
        exact h11
      refine (raise_keeps ..).step (by decide) ?_
      exact h13

theorem rangeCorrect_keeps (th2 : Int) (g : Nat) (s : State) :
    Keeps (.te :: .tex :: .rg :: .hi :: .tmp :: eventParts) s (rangeCorrect th2 g s) := by
  unfold rangeCorrect
  refine Keeps.ite ?_ ?_
  · extract_lets -merge +onlyGivenNames x0
    extract_lets -merge +onlyGivenNames x1
    have h2 : Keeps (.te :: .tex :: .rg :: .hi :: .tmp :: eventParts) s x1 := by
      refine Keeps.ite ?_ ?_
      · refine (raise_keeps ..).step (by decide) ?_
        refine Keeps.te ?_ (by decide)
        exact Keeps.refl _ _
      · exact Keeps.refl _ _
    refine (teStep_keeps ..).step (by decide) ?_
    refine Keeps.tex ?_ (by decide)
    exact h2
  · refine (addSlew_keeps ..).step (by decide) ?_
    exact Keeps.refl _ _

theorem onRangeResult_keeps (o : Front) (s : State) :
    Keeps (.lt :: .te :: .tex :: .rg :: .hi :: .tmp :: eventParts) s (onRangeResult o s) := by
  unfold onRangeResult
  split
  · exact Keeps.refl _ _
  · refine Keeps.ite ?_ ?_
    · exact Keeps.refl _ _
    · extract_lets -merge +onlyGivenNames x0 x1
      refine Keeps.ite ?_ ?_
      · extract_lets -merge +onlyGivenNames x2
        extract_lets -merge +onlyGivenNames x3
        have h4 : Keeps (.lt :: .te :: .tex :: .rg :: .hi :: .tmp :: eventParts) s x3 := by
          refine Keeps.tex ?_ (by decide)
          exact Keeps.refl _ _
        refine (raise_keeps ..).step (by decide) ?_
        exact h4
      · extract_lets -merge +onlyGivenNames x5 x6
        extract_lets -merge +onlyGivenNames x7
        have h8 : Keeps (.lt :: .te :: .tex :: .rg :: .hi :: .tmp :: eventParts) s x7 := by
          unfold x7
          refine (updEntry_keeps ..).step (by decide) ?_
          exact Keeps.refl _ _
        extract_lets -merge +onlyGivenNames x9 x10
        extract_lets -merge +onlyGivenNames x11
        have h12 : Keeps (.lt :: .te :: .tex :: .rg :: .hi :: .tmp :: eventParts) s x11 := by
          refine Keeps.te_tex ?_ (by decide) (by decide)
          exact h8
        refine (rangeCorrect_keeps ..).step (by decide) ?_
        exact h12

theorem leapCtrlWrite_keeps (v : Word) (s : State) :
    Keeps (.te :: eventParts) s (leapCtrlWrite v s) := by
  unfold leapCtrlWrite
  refine Keeps.ite ?_ ?_
  · refine (teRefuse_keeps ..).step (by decide) ?_
    exact Keeps.refl _ _
  · refine Keeps.te ?_ (by decide)
    exact Keeps.refl _ _

theorem execLeapArm_keeps (v : Word) (s : State) {s₁ : State}
    (h : execLeapArm v s = .next s₁) : Keeps (.slp :: .te :: .pwr :: eventParts) s s₁ := by
  unfold execLeapArm at h
  refine runHost_keeps (by decide) (fun u hu => ?_) h
  refine (leapCtrlWrite_keeps ..).step (by decide) ?_
  exact hu

theorem leapAtHiWrite_keeps (a : Agent) (v : Word) (s : State) :
    Keeps ([.te, .staging]) s (leapAtHiWrite a v s) := by
  unfold leapAtHiWrite
  split
  rename_i v0 v1 e3
  have hv2 : Keeps ([.te, .staging]) s v1 := by
    refine Keeps.snd e3 ?_
    refine (takeLo_keeps ..).step (by decide) ?_
    exact Keeps.refl _ _
  clear e3
  refine Keeps.te ?_ (by decide)
  exact hv2

theorem epochHiWrite_keeps (a : Agent) (v : Word) (s : State) :
    Keeps ([.te, .tex, .staging]) s (epochHiWrite a v s) := by
  unfold epochHiWrite
  split
  rename_i v0 v1 e3
  have hv2 : Keeps ([.te, .tex, .staging]) s v1 := by
    refine Keeps.snd e3 ?_
    refine (takeLo_keeps ..).step (by decide) ?_
    exact Keeps.refl _ _
  clear e3
  extract_lets -merge +onlyGivenNames x4
  refine Keeps.te_tex ?_ (by decide) (by decide)
  exact hv2

theorem teDiscWrite_keeps (v : Word) (s : State) :
    Keeps ([.te]) s (teDiscWrite v s) := by
  unfold teDiscWrite
  refine Keeps.te ?_ (by decide)
  exact Keeps.refl _ _

theorem ppsCfgWrite_keeps (v : Word) (s : State) :
    Keeps ([.te]) s (ppsCfgWrite v s) := by
  unfold ppsCfgWrite
  refine Keeps.te ?_ (by decide)
  exact Keeps.refl _ _

theorem ppsinDlyWrite_keeps (v : Word) (s : State) :
    Keeps ([.te]) s (ppsinDlyWrite v s) := by
  unfold ppsinDlyWrite
  refine Keeps.te ?_ (by decide)
  exact Keeps.refl _ _

theorem utcWrite_keeps (v : Word) (s : State) :
    Keeps ([.te]) s (utcWrite v s) := by
  unfold utcWrite
  refine Keeps.te ?_ (by decide)
  exact Keeps.refl _ _

theorem tcWrite_keeps (v : Word) (s : State) :
    Keeps ([.te]) s (tcWrite v s) := by
  unfold tcWrite
  refine Keeps.te ?_ (by decide)
  exact Keeps.refl _ _

theorem rngCfgWrite_keeps (v : Word) (s : State) :
    Keeps ([.te]) s (rngCfgWrite v s) := by
  unfold rngCfgWrite
  refine Keeps.te ?_ (by decide)
  exact Keeps.refl _ _

theorem rngLimWrite_keeps (v : Word) (s : State) :
    Keeps ([.te]) s (rngLimWrite v s) := by
  unfold rngLimWrite
  refine Keeps.te ?_ (by decide)
  exact Keeps.refl _ _

theorem teStatusWrite_keeps (v : Word) (s : State) :
    Keeps ([.te]) s (teStatusWrite v s) := by
  unfold teStatusWrite
  refine Keeps.te ?_ (by decide)
  exact Keeps.refl _ _

/-! ### Machine/Aln.lean -/

theorem alnRefuse_keeps (off : Nat) (v : Word) (s : State) :
    Keeps (.rg :: .freeCtr :: eventParts) s (alnRefuse off v s) := by
  unfold alnRefuse
  split
  rename_i v0 v1 e3
  have hv2 : Keeps (.rg :: .freeCtr :: eventParts) s v1 := by
    refine Keeps.snd e3 ?_
    refine (draw_keeps ..).step (by decide) ?_
    exact Keeps.refl _ _
  clear e3
  refine (rgRefuse_keeps ..).step (by decide) ?_
  exact hv2

theorem gofsWrite_keeps (v : Word) (s : State) :
    Keeps (.rg :: .aln :: .hi :: .freeCtr :: eventParts) s (gofsWrite v s) := by
  unfold gofsWrite
  refine Keeps.ite ?_ ?_
  · refine (alnRefuse_keeps ..).step (by decide) ?_
    exact Keeps.refl _ _
  · refine (gofsChange_keeps ..).step (by decide) ?_
    exact Keeps.refl _ _

theorem execGofsWrite_keeps (v : Word) (s : State) {s₁ : State}
    (h : execGofsWrite v s = .next s₁) : Keeps (.slp :: .rg :: .aln :: .hi :: .pwr :: .freeCtr :: eventParts) s s₁ := by
  unfold execGofsWrite at h
  refine runHost_keeps (by decide) (fun u hu => ?_) h
  refine (gofsWrite_keeps ..).step (by decide) ?_
  exact hu

theorem gofsAdd_keeps (d : Int) (s : State) :
    Keeps (.rg :: .aln :: .hi :: eventParts) s (gofsAdd d s) := by
  unfold gofsAdd
  refine (gofsChange_keeps ..).step (by decide) ?_
  exact Keeps.refl _ _

theorem kettleMean_keeps (s : State) :
    Keeps (.rg :: .aln :: .hi :: eventParts) s (kettleMean s) := by
  unfold kettleMean
  extract_lets -merge +onlyGivenNames x0 x1
  extract_lets -merge +onlyGivenNames x2
  have h3 : Keeps (.rg :: .aln :: .hi :: eventParts) s x2 := by
    refine Keeps.aln ?_ (by decide)
    exact Keeps.refl _ _
  extract_lets -merge +onlyGivenNames x4
  have h5 : Keeps (.rg :: .aln :: .hi :: eventParts) s x4 := by
    unfold x4
    refine (raise_keeps ..).step (by decide) ?_
    exact h3
  extract_lets -merge +onlyGivenNames x6
  have h7 : Keeps (.rg :: .aln :: .hi :: eventParts) s x6 := by
    unfold x6
    refine (gofsAdd_keeps ..).step (by decide) ?_
    exact h5
  extract_lets -merge +onlyGivenNames x8
  have h9 : Keeps (.rg :: .aln :: .hi :: eventParts) s x8 := by
    refine Keeps.ite ?_ ?_
    · refine (raise_keeps ..).step (by decide) ?_
      exact h5
    · refine Keeps.ite ?_ ?_
      · refine (raise_keeps ..).step (by decide) ?_
        exact h7
      · exact h5
  refine Keeps.ite ?_ ?_
  · refine Keeps.aln ?_ (by decide)
    exact h9
  · exact h9

theorem kettleMiss_keeps (e : Int) (s : State) :
    Keeps (.aln :: eventParts) s (kettleMiss e s) := by
  unfold kettleMiss
  extract_lets -merge +onlyGivenNames x0
  extract_lets -merge +onlyGivenNames x1
  have h2 : Keeps (.aln :: eventParts) s x1 := by
    refine Keeps.aln ?_ (by decide)
    exact Keeps.refl _ _
  extract_lets -merge +onlyGivenNames x3
  refine Keeps.ite ?_ ?_
  · refine (raise_keeps ..).step (by decide) ?_
    refine Keeps.aln ?_ (by decide)
    exact h2
  · exact h2

theorem execKettleEdge_keeps (sub : BitVec 6) (s : State) {s₁ : State}
    (h : execKettleEdge sub s = .next s₁) : Keeps (.rg :: .aln :: .hi :: eventParts) s s₁ := by
  unfold execKettleEdge at h
  refine run_keeps (by decide) (fun u hu => ?_) h
  try beta_reduce
  refine Keeps.ite ?_ ?_
  · exact hu
  · extract_lets -merge +onlyGivenNames x0 x1
    refine Keeps.ite ?_ ?_
    · refine (kettleMiss_keeps ..).step (by decide) ?_
      exact hu
    · extract_lets -merge +onlyGivenNames x2
      extract_lets -merge +onlyGivenNames x3
      have h4 : Keeps (.rg :: .aln :: .hi :: eventParts) s x3 := by
        refine Keeps.aln ?_ (by decide)
        exact hu
      refine Keeps.ite ?_ ?_
      · refine (kettleMean_keeps ..).step (by decide) ?_
        exact h4
      · exact h4

theorem execKettleDrive_keeps (s : State) {s₁ : State}
    (h : execKettleDrive s = .next s₁) : Keeps ([.aln]) s s₁ := by
  unfold execKettleDrive at h
  refine run_keeps (by decide) (fun u hu => ?_) h
  try beta_reduce
  refine Keeps.ite ?_ ?_
  · refine Keeps.aln ?_ (by decide)
    exact hu
  · exact hu

theorem kcfgWrite_keeps (v : Word) (s : State) :
    Keeps (.rg :: .aln :: .freeCtr :: eventParts) s (kcfgWrite v s) := by
  unfold kcfgWrite
  refine Keeps.ite ?_ ?_
  · refine (alnRefuse_keeps ..).step (by decide) ?_
    exact Keeps.refl _ _
  · extract_lets -merge +onlyGivenNames x0 x1
    extract_lets -merge +onlyGivenNames x2
    have h3 : Keeps (.rg :: .aln :: .freeCtr :: eventParts) s x2 := by
      refine Keeps.aln ?_ (by decide)
      exact Keeps.refl _ _
    refine Keeps.ite ?_ ?_
    · refine Keeps.aln ?_ (by decide)
      exact h3
    · exact h3

theorem execKettleCfgWrite_keeps (v : Word) (s : State) {s₁ : State}
    (h : execKettleCfgWrite v s = .next s₁) : Keeps (.slp :: .rg :: .aln :: .pwr :: .freeCtr :: eventParts) s s₁ := by
  unfold execKettleCfgWrite at h
  refine runHost_keeps (by decide) (fun u hu => ?_) h
  refine (kcfgWrite_keeps ..).step (by decide) ?_
  exact hu

theorem stcfgWrite_keeps (v : Word) (s : State) :
    Keeps (.rg :: .aln :: .freeCtr :: eventParts) s (stcfgWrite v s) := by
  unfold stcfgWrite
  refine Keeps.ite ?_ ?_
  · refine (alnRefuse_keeps ..).step (by decide) ?_
    exact Keeps.refl _ _
  · extract_lets -merge +onlyGivenNames x0 x1 x2
    extract_lets -merge +onlyGivenNames x3
    have h4 : Keeps (.rg :: .aln :: .freeCtr :: eventParts) s x3 := by
      refine Keeps.aln ?_ (by decide)
      exact Keeps.refl _ _
    refine Keeps.ite ?_ ?_
    · refine Keeps.ite ?_ ?_
      · exact h4
      · refine Keeps.aln ?_ (by decide)
        exact h4
    · refine Keeps.aln ?_ (by decide)
      exact h4

theorem execStitchCfgWrite_keeps (v : Word) (s : State) {s₁ : State}
    (h : execStitchCfgWrite v s = .next s₁) : Keeps (.slp :: .rg :: .aln :: .pwr :: .freeCtr :: eventParts) s s₁ := by
  unfold execStitchCfgWrite at h
  refine runHost_keeps (by decide) (fun u hu => ?_) h
  refine (stcfgWrite_keeps ..).step (by decide) ?_
  exact hu

theorem execStitchWordSend_keeps (s : State) {s₁ : State}
    (h : execStitchWordSend s = .next s₁) : Keeps ([.aln]) s s₁ := by
  unfold execStitchWordSend at h
  refine run_keeps (by decide) (fun u hu => ?_) h
  try beta_reduce
  extract_lets -merge +onlyGivenNames x0
  refine Keeps.ite ?_ ?_
  · extract_lets -merge +onlyGivenNames x1 x2 x3
    refine Keeps.aln ?_ (by decide)
    exact hu
  · exact hu

theorem stitchLost_keeps (cause : Nat) (s : State) :
    Keeps (.aln :: eventParts) s (stitchLost cause s) := by
  unfold stitchLost
  refine (raise_keeps ..).step (by decide) ?_
  refine Keeps.aln ?_ (by decide)
  exact Keeps.refl _ _

theorem stitchDeep_keeps (s : State) :
    Keeps (.aln :: .freeCtr :: eventParts) s (stitchDeep s) := by
  unfold stitchDeep
  extract_lets -merge +onlyGivenNames x0
  extract_lets -merge +onlyGivenNames x1
  have h2 : Keeps (.aln :: .freeCtr :: eventParts) s x1 := by
    refine Keeps.aln ?_ (by decide)
    exact Keeps.refl _ _
  refine Keeps.ite ?_ ?_
  · exact h2
  · split
    rename_i v3 v4 e6
    have hv5 : Keeps (.aln :: .freeCtr :: eventParts) s v4 := by
      refine Keeps.snd e6 ?_
      refine (draw_keeps ..).step (by decide) ?_
      exact h2
    clear e6
    refine (stitchLost_keeps ..).step (by decide) ?_
    exact hv5

theorem stitchAcquire_keeps (e : Int) (s : State) :
    Keeps (.rg :: .aln :: .hi :: eventParts) s (stitchAcquire e s) := by
  unfold stitchAcquire
  extract_lets -merge +onlyGivenNames x0
  have h1 : Keeps (.rg :: .aln :: .hi :: eventParts) s x0 := by
    unfold x0
    refine (gofsAdd_keeps ..).step (by decide) ?_
    exact Keeps.refl _ _
  refine (raise_keeps ..).step (by decide) ?_
  refine Keeps.aln ?_ (by decide)
  exact h1

theorem stitchCount_keeps (e : Int) (s : State) :
    Keeps (.aln :: eventParts) s (stitchCount e s) := by
  unfold stitchCount
  extract_lets -merge +onlyGivenNames x0
  extract_lets -merge +onlyGivenNames x1
  have h2 : Keeps (.aln :: eventParts) s x1 := by
    refine Keeps.aln ?_ (by decide)
    exact Keeps.refl _ _
  refine Keeps.ite ?_ ?_
  · refine (raise_keeps ..).step (by decide) ?_
    refine Keeps.aln ?_ (by decide)
    exact h2
  · exact h2

theorem stitchTrack_keeps (e : Int) (s : State) :
    Keeps (.rg :: .aln :: .hi :: eventParts) s (stitchTrack e s) := by
  unfold stitchTrack
  refine Keeps.ite ?_ ?_
  · refine Keeps.aln ?_ (by decide)
    exact Keeps.refl _ _
  · refine (stitchCount_keeps ..).step (by decide) ?_
    refine (gofsAdd_keeps ..).step (by decide) ?_
    exact Keeps.refl _ _

theorem execStitchWordReceive_keeps (w : StitchRx) (s : State) {s₁ : State}
    (h : execStitchWordReceive w s = .next s₁) : Keeps (.rg :: .aln :: .hi :: .freeCtr :: eventParts) s s₁ := by
  unfold execStitchWordReceive at h
  refine run_keeps (by decide) (fun u hu => ?_) h
  try beta_reduce
  extract_lets -merge +onlyGivenNames x0
  refine Keeps.ite ?_ ?_
  · exact hu
  · refine Keeps.ite ?_ ?_
    · refine Keeps.aln ?_ (by decide)
      exact hu
    · extract_lets -merge +onlyGivenNames x1 x2
      refine Keeps.ite ?_ ?_
      · refine (raise_keeps ..).step (by decide) ?_
        refine (stitchDeep_keeps ..).step (by decide) ?_
        exact hu
      · extract_lets -merge +onlyGivenNames x3 x4 x5
        extract_lets -merge +onlyGivenNames x6
        have h7 : Keeps (.rg :: .aln :: .hi :: .freeCtr :: eventParts) s x6 := by
          refine Keeps.aln ?_ (by decide)
          exact hu
        refine Keeps.ite ?_ ?_
        · refine Keeps.ite ?_ ?_
          · exact h7
          · refine (stitchLost_keeps ..).step (by decide) ?_
            exact h7
        · refine Keeps.ite ?_ ?_
          · refine (stitchAcquire_keeps ..).step (by decide) ?_
            exact h7
          · refine (stitchTrack_keeps ..).step (by decide) ?_
            exact h7

theorem execStitchLoss_keeps (s : State) {s₁ : State}
    (h : execStitchLoss s = .next s₁) : Keeps (.aln :: eventParts) s s₁ := by
  unfold execStitchLoss at h
  refine run_keeps (by decide) (fun u hu => ?_) h
  try beta_reduce
  refine Keeps.ite ?_ ?_
  · refine (stitchLost_keeps ..).step (by decide) ?_
    exact hu
  · exact hu

theorem kexpWrite_keeps (v : Word) (s : State) :
    Keeps ([.aln]) s (kexpWrite v s) := by
  unfold kexpWrite
  refine Keeps.aln ?_ (by decide)
  exact Keeps.refl _ _

theorem kdlyWrite_keeps (v : Word) (s : State) :
    Keeps ([.aln]) s (kdlyWrite v s) := by
  unfold kdlyWrite
  refine Keeps.aln ?_ (by decide)
  exact Keeps.refl _ _

theorem kmaxWrite_keeps (v : Word) (s : State) :
    Keeps ([.aln]) s (kmaxWrite v s) := by
  unfold kmaxWrite
  refine Keeps.aln ?_ (by decide)
  exact Keeps.refl _ _

theorem stdlyWrite_keeps (v : Word) (s : State) :
    Keeps ([.aln]) s (stdlyWrite v s) := by
  unfold stdlyWrite
  refine Keeps.aln ?_ (by decide)
  exact Keeps.refl _ _

theorem stlimWrite_keeps (v : Word) (s : State) :
    Keeps ([.aln]) s (stlimWrite v s) := by
  unfold stlimWrite
  refine Keeps.aln ?_ (by decide)
  exact Keeps.refl _ _

/-! ### Machine/Sleepy.lean -/

theorem slpContact_keeps (f : RxFrame) (folio : Nat) (s : State) :
    Keeps (.lt :: .slp :: eventParts) s (slpContact f folio s) := by
  unfold slpContact
  extract_lets -merge +onlyGivenNames x0 x1 x2 x3 x4 x5 x6 x7
  extract_lets -merge +onlyGivenNames x8
  have h9 : Keeps (.lt :: .slp :: eventParts) s x8 := by
    unfold x8
    refine (updEntry_keeps ..).step (by decide) ?_
    exact Keeps.refl _ _
  extract_lets -merge +onlyGivenNames x10
  extract_lets -merge +onlyGivenNames x11
  have h12 : Keeps (.lt :: .slp :: eventParts) s x11 := by
    refine Keeps.slp ?_ (by decide)
    exact h9
  refine Keeps.ite ?_ ?_
  · refine (raise_keeps ..).step (by decide) ?_
    exact h12
  · exact h12

theorem headDrift_keeps (f : RxFrame) (n : Nat) (s : State) :
    Keeps ([.lt, .slph]) s (headDrift f n s) := by
  unfold headDrift
  extract_lets -merge +onlyGivenNames x0 x1
  extract_lets -merge +onlyGivenNames x2
  have h3 : Keeps ([.lt, .slph]) s x2 := by
    refine Keeps.slph ?_ (by decide)
    exact Keeps.refl _ _
  refine Keeps.ite ?_ ?_
  · exact h3
  · extract_lets -merge +onlyGivenNames x4 x5 x6
    refine (updEntry_keeps ..).step (by decide) ?_
    exact h3

theorem awakeStart_keeps (s : State) :
    Keeps ([.slp]) s (awakeStart s) := by
  unfold awakeStart
  refine Keeps.slp ?_ (by decide)
  exact Keeps.refl _ _

theorem awakeStop_keeps (more : Nat) (s : State) :
    Keeps ([.slp]) s (awakeStop more s) := by
  unfold awakeStop
  split
  · refine Keeps.slp ?_ (by decide)
    exact Keeps.refl _ _
  · exact Keeps.refl _ _

theorem awakeSettle_keeps (s : State) :
    Keeps ([.slp]) s (awakeSettle s) := by
  unfold awakeSettle
  refine Keeps.ite ?_ ?_
  · refine (awakeStop_keeps ..).step (by decide) ?_
    exact Keeps.refl _ _
  · exact Keeps.refl _ _

theorem slpLingerNow_keeps (port : Nat) (s : State) :
    Keeps ([.slp]) s (slpLingerNow port s) := by
  unfold slpLingerNow
  refine (awakeStart_keeps ..).step (by decide) ?_
  refine Keeps.slp ?_ (by decide)
  exact Keeps.refl _ _

theorem slpHeard_keeps (o : Front) (s : State) :
    Keeps (.lt :: .slp :: .slph :: eventParts) s (slpHeard o s) := by
  unfold slpHeard
  extract_lets -merge +onlyGivenNames x0
  refine Keeps.ite ?_ ?_
  · extract_lets -merge +onlyGivenNames x1
    extract_lets -merge +onlyGivenNames x2
    have h3 : Keeps (.lt :: .slp :: .slph :: eventParts) s x2 := by
      refine Keeps.ite ?_ ?_
      · refine (slpContact_keeps ..).step (by decide) ?_
        exact Keeps.refl _ _
      · exact Keeps.refl _ _
    refine Keeps.ite ?_ ?_
    · refine (slpLingerNow_keeps ..).step (by decide) ?_
      exact h3
    · exact h3
  · refine Keeps.ite ?_ ?_
    · refine (headDrift_keeps ..).step (by decide) ?_
      exact Keeps.refl _ _
    · exact Keeps.refl _ _

theorem slpFolioUsed_keeps (s : State) :
    Keeps ([.slp]) s (slpFolioUsed s) := by
  unfold slpFolioUsed
  refine Keeps.slp ?_ (by decide)
  exact Keeps.refl _ _

theorem onWake_keeps (o : Front) (s : State) :
    Keeps ([.slp]) s (onWake o s) := by
  unfold onWake
  refine Keeps.ite ?_ ?_
  · extract_lets -merge +onlyGivenNames x0 x1
    refine Keeps.ite ?_ ?_
    · exact Keeps.refl _ _
    · refine Keeps.slp ?_ (by decide)
      exact Keeps.refl _ _
  · exact Keeps.refl _ _

theorem keepAlive_keeps (s : State) :
    Keeps ([.line, .freeCtr]) s (keepAlive s) := by
  unfold keepAlive
  extract_lets -merge +onlyGivenNames x0 x1
  refine (contend_keeps ..).step (by decide) ?_
  refine (submit_keeps ..).step (by decide) ?_
  exact Keeps.refl _ _

theorem execKeepaliveDue_keeps (s : State) {s₁ : State}
    (h : execKeepaliveDue s = .next s₁) : Keeps ([.line, .freeCtr]) s s₁ := by
  unfold execKeepaliveDue at h
  refine run_keeps (by decide) (fun u hu => ?_) h
  try beta_reduce
  refine Keeps.ite ?_ ?_
  · refine (keepAlive_keeps ..).step (by decide) ?_
    exact hu
  · exact hu

theorem searchEvent_keeps (entered : Bool) (s : State) :
    Keeps (eventParts) s (searchEvent entered s) := by
  unfold searchEvent
  refine (raise_keeps ..).step (by decide) ?_
  exact Keeps.refl _ _

theorem searchExit_keeps (s : State) :
    Keeps (.line :: .slp :: .freeCtr :: eventParts) s (searchExit s) := by
  unfold searchExit
  refine Keeps.ite ?_ ?_
  · extract_lets -merge +onlyGivenNames x0
    extract_lets -merge +onlyGivenNames x1
    have h2 : Keeps (.line :: .slp :: .freeCtr :: eventParts) s x1 := by
      unfold x1
      refine (searchEvent_keeps ..).step (by decide) ?_
      refine Keeps.slp ?_ (by decide)
      exact Keeps.refl _ _
    refine Keeps.ite ?_ ?_
    · exact h2
    · refine (keepAlive_keeps ..).step (by decide) ?_
      exact h2
  · exact Keeps.refl _ _

theorem countMiss_keeps (kind : Nat) (s : State) :
    Keeps (.ltx :: .slp :: eventParts) s (countMiss kind s) := by
  unfold countMiss
  extract_lets -merge +onlyGivenNames x0 x1
  extract_lets -merge +onlyGivenNames x2
  have h3 : Keeps (.ltx :: .slp :: eventParts) s x2 := by
    refine Keeps.slp ?_ (by decide)
    exact Keeps.refl _ _
  extract_lets -merge +onlyGivenNames x4
  extract_lets -merge +onlyGivenNames x5
  have h6 : Keeps (.ltx :: .slp :: eventParts) s x5 := by
    refine Keeps.ite ?_ ?_
    · exact h3
    · refine (raise_keeps ..).step (by decide) ?_
      refine Keeps.slp ?_ (by decide)
      exact h3
  refine Keeps.ite ?_ ?_
  · refine (awakeStart_keeps ..).step (by decide) ?_
    refine (searchEvent_keeps ..).step (by decide) ?_
    refine Keeps.ltx_slp ?_ (by decide) (by decide)
    exact h6
  · exact h6

theorem execListenWindowOpen_keeps (k : WindowKind) (s : State) {s₁ : State}
    (h : execListenWindowOpen k s = .next s₁) : Keeps ([.slp]) s s₁ := by
  unfold execListenWindowOpen at h
  refine run_keeps (by decide) (fun u hu => ?_) h
  try beta_reduce
  refine Keeps.ite ?_ ?_
  · refine (awakeStart_keeps ..).step (by decide) ?_
    refine Keeps.slp ?_ (by decide)
    exact hu
  · exact hu

theorem execListenWindowClose_keeps (s : State) {s₁ : State}
    (h : execListenWindowClose s = .next s₁) : Keeps (.ltx :: .slp :: eventParts) s s₁ := by
  unfold execListenWindowClose at h
  refine run_keeps (by decide) (fun u hu => ?_) h
  try beta_reduce
  split
  · exact hu
  · refine Keeps.ite ?_ ?_
    · exact hu
    · extract_lets -merge +onlyGivenNames x0
      extract_lets -merge +onlyGivenNames x1
      have h2 : Keeps (.ltx :: .slp :: eventParts) s x1 := by
        refine Keeps.slp ?_ (by decide)
        exact hu
      refine (awakeSettle_keeps ..).step (by decide) ?_
      split
      · refine (countMiss_keeps ..).step (by decide) ?_
        exact h2
      · exact h2

theorem execLingerEnd_keeps (leaf : BitVec 12) (s : State) {s₁ : State}
    (h : execLingerEnd leaf s = .next s₁) : Keeps ([.slp, .slph]) s s₁ := by
  unfold execLingerEnd at h
  refine run_keeps (by decide) (fun u hu => ?_) h
  try beta_reduce
  refine Keeps.ite ?_ ?_
  · refine Keeps.ite ?_ ?_
    · refine (awakeSettle_keeps ..).step (by decide) ?_
      refine Keeps.slp ?_ (by decide)
      exact hu
    · exact hu
  · refine Keeps.slph ?_ (by decide)
    exact hu

theorem execResyncDue_keeps (s : State) {s₁ : State}
    (h : execResyncDue s = .next s₁) : Keeps ([.slp]) s s₁ := by
  unfold execResyncDue at h
  refine run_keeps (by decide) (fun u hu => ?_) h
  try beta_reduce
  refine Keeps.ite ?_ ?_
  · refine Keeps.slp ?_ (by decide)
    exact hu
  · exact hu

theorem execBudgetPeriodStart_keeps (s : State) {s₁ : State}
    (h : execBudgetPeriodStart s = .next s₁) : Keeps ([.slp]) s s₁ := by
  unfold execBudgetPeriodStart at h
  refine run_keeps (by decide) (fun u hu => ?_) h
  try beta_reduce
  refine Keeps.slp ?_ (by decide)
  exact hu

theorem execBudgetReached_keeps (s : State) {s₁ : State}
    (h : execBudgetReached s = .next s₁) : Keeps (.slp :: eventParts) s s₁ := by
  unfold execBudgetReached at h
  refine run_keeps (by decide) (fun u hu => ?_) h
  try beta_reduce
  refine Keeps.ite ?_ ?_
  · refine (raise_keeps ..).step (by decide) ?_
    refine Keeps.slp ?_ (by decide)
    exact hu
  · exact hu

/-! ### Machine/Quire.lean -/

theorem updBank_keeps (b : Nat) (f : Bank → Bank) (s : State) :
    Keeps ([.qr]) s (updBank b f s) := by
  unfold updBank
  refine Keeps.qr ?_ (by decide)
  exact Keeps.refl _ _

theorem cancelSwap_keeps (cause : Nat) (s : State) :
    Keeps (.qr :: .qrx :: eventParts) s (cancelSwap cause s) := by
  unfold cancelSwap
  split
  · exact Keeps.refl _ _
  · extract_lets -merge +onlyGivenNames x0 x1
    extract_lets -merge +onlyGivenNames x2
    have h3 : Keeps (.qr :: .qrx :: eventParts) s x2 := by
      refine Keeps.qr_qrx ?_ (by decide) (by decide)
      exact Keeps.refl _ _
    refine (raise_keeps ..).step (by decide) ?_
    exact h3

theorem bankWrite_keeps (b : Nat) (f : Bank → Bank) (s : State) :
    Keeps (.qr :: .qrx :: eventParts) s (bankWrite b f s) := by
  unfold bankWrite
  refine Keeps.ite ?_ ?_
  · refine Keeps.qr ?_ (by decide)
    exact Keeps.refl _ _
  · refine (updBank_keeps ..).step (by decide) ?_
    refine (cancelSwap_keeps ..).step (by decide) ?_
    exact Keeps.refl _ _

theorem qrGeomWrite_keeps (b : Nat) (v : Word) (s : State) :
    Keeps (.qr :: .qrx :: eventParts) s (qrGeomWrite b v s) := by
  unfold qrGeomWrite
  refine (bankWrite_keeps ..).step (by decide) ?_
  exact Keeps.refl _ _

theorem mapAdvance_keeps (s : State) :
    Keeps ([.qr]) s (mapAdvance s) := by
  unfold mapAdvance
  extract_lets -merge +onlyGivenNames x0 x1
  refine Keeps.qr ?_ (by decide)
  exact Keeps.refl _ _

theorem mapDataWrite_keeps (v : Word) (s : State) :
    Keeps (.qr :: .qrx :: eventParts) s (mapDataWrite v s) := by
  unfold mapDataWrite
  extract_lets -merge +onlyGivenNames x0
  refine (mapAdvance_keeps ..).step (by decide) ?_
  refine Keeps.ite ?_ ?_
  · refine (bankWrite_keeps ..).step (by decide) ?_
    exact Keeps.refl _ _
  · exact Keeps.refl _ _

theorem mapDataRead_keeps (s : State) :
    Keeps ([.qr]) s (mapDataRead s).2 := by
  unfold mapDataRead
  extract_lets -merge +onlyGivenNames x0
  try with_reducible refine Keeps.mk ?_
  refine (mapAdvance_keeps ..).step (by decide) ?_
  exact Keeps.refl _ _

theorem execMapDataWrite_keeps (r : MapReg) (v : Word) (s : State) {s₁ : State}
    (h : execMapDataWrite r v s = .next s₁) : Keeps (.qr :: .qrx :: .slp :: .pwr :: eventParts) s s₁ := by
  unfold execMapDataWrite at h
  refine runHost_keeps (by decide) (fun u hu => ?_) h
  try beta_reduce
  split
  · refine (mapDataWrite_keeps ..).step (by decide) ?_
    exact hu
  · refine (qrGeomWrite_keeps ..).step (by decide) ?_
    exact hu
  · refine (qrGeomWrite_keeps ..).step (by decide) ?_
    exact hu

theorem mapSwapWrite_keeps (qs : Word) (s : State) :
    Keeps (.qr :: .qrx :: .air :: eventParts) s (mapSwapWrite qs s) := by
  unfold mapSwapWrite
  extract_lets -merge +onlyGivenNames x0 x1
  extract_lets -merge +onlyGivenNames x2
  have h3 : ∀ u4, Keeps (.qr :: .qrx :: .air :: eventParts) s (x2 u4) := by
    intro u4
    unfold x2
    try beta_reduce
    refine (raise_keeps ..).step (by decide) ?_
    refine Keeps.qr ?_ (by decide)
    exact Keeps.refl _ _
  refine Keeps.ite ?_ ?_
  · exact h3 _
  · refine Keeps.ite ?_ ?_
    · exact h3 _
    · refine Keeps.qr_qrx ?_ (by decide) (by decide)
      exact Keeps.refl _ _

theorem execMapSwapRequest_keeps (v : Word) (s : State) {s₁ : State}
    (h : execMapSwapRequest v s = .next s₁) : Keeps (.qr :: .qrx :: .air :: .slp :: .pwr :: eventParts) s s₁ := by
  unfold execMapSwapRequest at h
  refine runHost_keeps (by decide) (fun u hu => ?_) h
  refine (mapSwapWrite_keeps ..).step (by decide) ?_
  exact hu

theorem qrPartnWrite_keeps (n : Nat) (v : Word) (s : State) :
    Keeps (.qr :: .qrx :: eventParts) s (qrPartnWrite n v s) := by
  unfold qrPartnWrite
  extract_lets -merge +onlyGivenNames x0
  have h1 : Keeps (.qr :: .qrx :: eventParts) s x0 := by
    unfold x0
    refine (cancelSwap_keeps ..).step (by decide) ?_
    exact Keeps.refl _ _
  refine Keeps.qr ?_ (by decide)
  exact h1

theorem execQrPartWrite_keeps (n : Fin 4) (v : Word) (s : State) {s₁ : State}
    (h : execQrPartWrite n v s = .next s₁) : Keeps (.qr :: .qrx :: .slp :: .pwr :: eventParts) s s₁ := by
  unfold execQrPartWrite at h
  refine runHost_keeps (by decide) (fun u hu => ?_) h
  refine (qrPartnWrite_keeps ..).step (by decide) ?_
  exact hu

theorem doSwap_keeps (s : State) :
    Keeps (.qr :: eventParts) s (doSwap s) := by
  unfold doSwap
  extract_lets -merge +onlyGivenNames x0 x1
  extract_lets -merge +onlyGivenNames x2
  have h3 : Keeps (.qr :: eventParts) s x2 := by
    refine Keeps.qr ?_ (by decide)
    exact Keeps.refl _ _
  refine (raise_keeps ..).step (by decide) ?_
  exact h3

theorem swapIfDue_keeps (s : State) :
    Keeps (.qr :: eventParts) s (swapIfDue s) := by
  unfold swapIfDue
  split
  · exact Keeps.refl _ _
  · refine Keeps.ite ?_ ?_
    · refine Keeps.ite ?_ ?_
      · refine Keeps.qr ?_ (by decide)
        exact Keeps.refl _ _
      · refine (doSwap_keeps ..).step (by decide) ?_
        exact Keeps.refl _ _
    · exact Keeps.refl _ _

theorem lapseRealign_keeps (s : State) :
    Keeps ([.qrx]) s (lapseRealign s) := by
  unfold lapseRealign
  refine Keeps.qrx ?_ (by decide)
  exact Keeps.refl _ _

theorem announceSent_keeps (s : State) :
    Keeps (.qrx :: eventParts) s (announceSent s) := by
  unfold announceSent
  refine Keeps.ite ?_ ?_
  · extract_lets -merge +onlyGivenNames x0
    have h1 : Keeps (.qrx :: eventParts) s x0 := by
      refine Keeps.ite ?_ ?_
      · refine (raise_keeps ..).step (by decide) ?_
        exact Keeps.refl _ _
      · exact Keeps.refl _ _
    extract_lets -merge +onlyGivenNames x2
    refine Keeps.qrx ?_ (by decide)
    exact h1
  · exact Keeps.refl _ _

theorem beaconSkip_keeps (kind : Nat) (s : State) :
    Keeps (.qr :: eventParts) s (beaconSkip kind s) := by
  unfold beaconSkip
  refine Keeps.ite ?_ ?_
  · exact Keeps.refl _ _
  · extract_lets -merge +onlyGivenNames x0
    extract_lets -merge +onlyGivenNames x1
    have h2 : Keeps (.qr :: eventParts) s x1 := by
      refine Keeps.qr ?_ (by decide)
      exact Keeps.refl _ _
    refine (raise_keeps ..).step (by decide) ?_
    exact h2

theorem beaconFromMain_keeps (bands : List Nat) (c : Nat) (s : State) :
    Keeps (.air :: eventParts) s (beaconFromMain bands c s) := by
  unfold beaconFromMain
  split
  · refine Keeps.ite ?_ ?_
    · exact Keeps.refl _ _
    · refine (raise_keeps ..).step (by decide) ?_
      refine Keeps.air ?_ (by decide)
      exact Keeps.refl _ _
  · exact Keeps.refl _ _

theorem predictSlip_keeps (kind : Nat) (s : State) :
    Keeps ([.qrx, .freeCtr]) s (predictSlip kind s) := by
  unfold predictSlip
  refine Keeps.ite ?_ ?_
  · split
    rename_i v0 v1 e3
    have hv2 : Keeps ([.qrx, .freeCtr]) s v1 := by
      refine Keeps.snd e3 ?_
      refine (draw_keeps ..).step (by decide) ?_
      exact Keeps.refl _ _
    clear e3
    refine Keeps.qrx ?_ (by decide)
    exact hv2
  · exact Keeps.refl _ _

theorem beaconOut_keeps (kind : Nat) (ports bands : List Nat) (air : Nat) (body : List Byte) (s : State) :
    Keeps (.qrx :: .air :: .afe :: .line :: .cx :: eventParts) s (beaconOut kind ports bands air body s) := by
  unfold beaconOut
  extract_lets -merge +onlyGivenNames x0 x1 x2
  split
  · rename_i v3 v4 v5 v6 e8
    have hv7 : Keeps (.qrx :: .air :: .afe :: .line :: .cx :: eventParts) s v6 := by
      refine Keeps.snd2 e8 ?_
      refine (sealFrame_keeps ..).step (by decide) ?_
      exact Keeps.refl _ _
    clear e8
    extract_lets -merge +onlyGivenNames x9 x10
    extract_lets -merge +onlyGivenNames x11
    have h12 : Keeps (.qrx :: .air :: .afe :: .line :: .cx :: eventParts) s x11 := by
      unfold x11
      refine (takeBands_keeps ..).step (by decide) ?_
      refine (beaconFromMain_keeps ..).step (by decide) ?_
      exact hv7
    extract_lets -merge +onlyGivenNames x13
    have h14 : Keeps (.qrx :: .air :: .afe :: .line :: .cx :: eventParts) s x13 := by
      refine Keeps.ite ?_ ?_
      · refine (cRun_keeps ..).step (by decide) ?_
        exact h12
      · exact h12
    extract_lets -merge +onlyGivenNames x15
    extract_lets -merge +onlyGivenNames x16
    have h17 : Keeps (.qrx :: .air :: .afe :: .line :: .cx :: eventParts) s x16 := by
      unfold x16
      refine (goOnLine_keeps ..).step (by decide) ?_
      refine (submit_keeps ..).step (by decide) ?_
      exact h14
    refine Keeps.ite ?_ ?_
    · refine (announceSent_keeps ..).step (by decide) ?_
      exact h17
    · exact h17
  · rename_i v18 v19 v20 _ e22
    have hv21 : Keeps (.qrx :: .air :: .afe :: .line :: .cx :: eventParts) s v20 := by
      refine Keeps.snd2 e22 ?_
      refine (sealFrame_keeps ..).step (by decide) ?_
      exact Keeps.refl _ _
    clear e22
    exact hv21

theorem sendBeacon_keeps (kind : Nat) (ports : List Nat) (s : State) :
    Keeps (.qr :: .qrx :: .air :: .afe :: .line :: .cx :: .freeCtr :: eventParts) s (sendBeacon kind ports s) := by
  unfold sendBeacon
  refine Keeps.ite ?_ ?_
  · exact Keeps.refl _ _
  · extract_lets -merge +onlyGivenNames x0
    have h1 : Keeps (.qr :: .qrx :: .air :: .afe :: .line :: .cx :: .freeCtr :: eventParts) s x0 := by
      unfold x0
      refine (predictSlip_keeps ..).step (by decide) ?_
      exact Keeps.refl _ _
    extract_lets -merge +onlyGivenNames x2 x3 x4 x5 x6
    refine Keeps.ite ?_ ?_
    · refine (beaconSkip_keeps ..).step (by decide) ?_
      exact h1
    · extract_lets -merge +onlyGivenNames x7
      extract_lets -merge +onlyGivenNames x8
      have h9 : Keeps (.qr :: .qrx :: .air :: .afe :: .line :: .cx :: .freeCtr :: eventParts) s x8 := by
        refine Keeps.ite ?_ ?_
        · exact h1
        · refine (cWithhold_keeps ..).step (by decide) ?_
          exact h1
      extract_lets -merge +onlyGivenNames x10
      refine Keeps.ite ?_ ?_
      · exact h9
      · refine Keeps.ite ?_ ?_
        · refine (beaconOut_keeps ..).step (by decide) ?_
          exact h9
        · refine (beaconSkip_keeps ..).step (by decide) ?_
          exact h9

theorem execFolioMargin_keeps (s : State) {s₁ : State}
    (h : execFolioMargin s = .next s₁) : Keeps (.qr :: .qrx :: .air :: .afe :: .line :: .cx :: .freeCtr :: eventParts) s s₁ := by
  unfold execFolioMargin at h
  refine run_keeps (by decide) (fun u hu => ?_) h
  try beta_reduce
  refine Keeps.ite ?_ ?_
  · exact hu
  · extract_lets -merge +onlyGivenNames x0
    extract_lets -merge +onlyGivenNames x1
    have h2 : Keeps (.qr :: .qrx :: .air :: .afe :: .line :: .cx :: .freeCtr :: eventParts) s x1 := by
      refine Keeps.qrx ?_ (by decide)
      exact hu
    extract_lets -merge +onlyGivenNames x3
    refine Keeps.ite ?_ ?_
    · exact h2
    · refine Keeps.ite ?_ ?_
      · refine (sendBeacon_keeps ..).step (by decide) ?_
        exact h2
      · refine Keeps.ite ?_ ?_
        · refine (sendBeacon_keeps ..).step (by decide) ?_
          exact h2
        · exact h2

theorem sendRoleMap_keeps (pending : Bool) (s : State) :
    Keeps ([.line]) s (sendRoleMap pending s) := by
  unfold sendRoleMap
  extract_lets -merge +onlyGivenNames x0 x1 x2
  refine Keeps.ite ?_ ?_
  · exact Keeps.refl _ _
  · refine Keeps.foldl ?_ (fun u3 _ hu4 => ?_)
    · exact Keeps.refl _ _
    · try beta_reduce
      refine Keeps.foldl ?_ (fun u5 _ hu6 => ?_)
      · exact hu4
      · try beta_reduce
        refine (submit_keeps ..).step (by decide) ?_
        exact hu6

theorem roleMaps_keeps (s : State) :
    Keeps ([.qrx, .line]) s (roleMaps s) := by
  unfold roleMaps
  refine Keeps.ite ?_ ?_
  · extract_lets -merge +onlyGivenNames x0
    have h1 : Keeps ([.qrx, .line]) s x0 := by
      refine Keeps.ite ?_ ?_
      · refine (sendRoleMap_keeps ..).step (by decide) ?_
        exact Keeps.refl _ _
      · exact Keeps.refl _ _
    refine Keeps.ite ?_ ?_
    · extract_lets -merge +onlyGivenNames x2
      have h3 : Keeps ([.qrx, .line]) s x2 := by
        unfold x2
        refine (sendRoleMap_keeps ..).step (by decide) ?_
        exact h1
      refine Keeps.qrx ?_ (by decide)
      exact h3
    · refine Keeps.qrx ?_ (by decide)
      exact h1
  · exact Keeps.refl _ _

theorem lingerStep_keeps (s : State) :
    Keeps ([.slp, .slph]) s (lingerStep s) := by
  unfold lingerStep
  extract_lets -merge +onlyGivenNames x0
  refine Keeps.slp_slph ?_ (by decide) (by decide)
  exact Keeps.refl _ _

theorem contendStep_keeps (s : State) :
    Keeps ([.line, .freeCtr]) s (contendStep s) := by
  unfold contendStep
  refine Keeps.ite ?_ ?_
  · extract_lets -merge +onlyGivenNames x0
    extract_lets -merge +onlyGivenNames x1
    have h2 : Keeps ([.line, .freeCtr]) s x1 := by
      unfold x1
      refine Keeps.foldl ?_ (fun u3 _ hu4 => ?_)
      · exact Keeps.refl _ _
      · try beta_reduce
        refine (contend_keeps ..).step (by decide) ?_
        exact hu4
    extract_lets -merge +onlyGivenNames x5
    refine Keeps.line ?_ (by decide)
    exact h2
  · exact Keeps.refl _ _

theorem oppSkips_keeps (s : State) :
    Keeps (.slph :: eventParts) s (oppSkips s) := by
  unfold oppSkips
  refine Keeps.ite ?_ ?_
  · refine Keeps.foldl ?_ (fun u0 _ hu1 => ?_)
    · exact Keeps.refl _ _
    · try beta_reduce
      refine (raise_keeps ..).step (by decide) ?_
      refine Keeps.slph ?_ (by decide)
      exact hu1
  · exact Keeps.refl _ _

theorem wakeStep_keeps (s : State) :
    Keeps ([.line, .slp, .slph]) s (wakeStep s) := by
  unfold wakeStep
  extract_lets -merge +onlyGivenNames x0
  extract_lets -merge +onlyGivenNames x1
  have h2 : Keeps ([.line, .slp, .slph]) s x1 := by
    unfold x1
    refine Keeps.foldl ?_ (fun u3 _ hu4 => ?_)
    · exact Keeps.refl _ _
    · try beta_reduce
      refine (wakeSkip_keeps ..).step (by decide) ?_
      exact hu4
  extract_lets -merge +onlyGivenNames x5 x6
  refine Keeps.slph ?_ (by decide)
  exact h2

theorem targetStep_keeps (s : State) :
    Keeps ([.slp]) s (targetStep s) := by
  unfold targetStep
  split
  · refine Keeps.ite ?_ ?_
    · refine Keeps.slp ?_ (by decide)
      exact Keeps.refl _ _
    · exact Keeps.refl _ _
  · exact Keeps.refl _ _

theorem cLapse_keeps (s : State) :
    Keeps ([.air]) s (cLapse s) := by
  unfold cLapse
  refine Keeps.air ?_ (by decide)
  exact Keeps.refl _ _

theorem tamperStep_keeps (s : State) :
    Keeps ([.tmp, .freeCtr]) s (tamperStep s) := by
  unfold tamperStep
  refine Keeps.ite ?_ ?_
  · refine Keeps.ite ?_ ?_
    · split
      rename_i v0 v1 e3
      have hv2 : Keeps ([.tmp, .freeCtr]) s v1 := by
        refine Keeps.snd e3 ?_
        refine (draw_keeps ..).step (by decide) ?_
        exact Keeps.refl _ _
      clear e3
      refine Keeps.tmp ?_ (by decide)
      exact hv2
    · refine Keeps.tmp ?_ (by decide)
      exact Keeps.refl _ _
  · exact Keeps.refl _ _

theorem tamperDue_keeps (s : State) :
    Keeps ([.tmp, .freeCtr]) s (tamperDue s) := by
  unfold tamperDue
  refine Keeps.ite ?_ ?_
  · refine Keeps.ite ?_ ?_
    · split
      rename_i v0 v1 e3
      have hv2 : Keeps ([.tmp, .freeCtr]) s v1 := by
        refine Keeps.snd e3 ?_
        refine (draw_keeps ..).step (by decide) ?_
        exact Keeps.refl _ _
      clear e3
      refine Keeps.tmp ?_ (by decide)
      exact hv2
    · exact Keeps.refl _ _
  · refine Keeps.tmp ?_ (by decide)
    exact Keeps.refl _ _

theorem folioEnter_keeps (s : State) :
    Keeps (.qrx :: .air :: .line :: .rbm :: .slp :: .slph :: .tmp :: .freeCtr :: eventParts) s (folioEnter s) := by
  unfold folioEnter
  extract_lets -merge +onlyGivenNames x0 x1 x2
  extract_lets -merge +onlyGivenNames x3
  have h4 : Keeps (.qrx :: .air :: .line :: .rbm :: .slp :: .slph :: .tmp :: .freeCtr :: eventParts) s x3 := by
    refine Keeps.qrx_rbm_slp ?_ (by decide) (by decide) (by decide)
    exact Keeps.refl _ _
  refine (oppSkips_keeps ..).step (by decide) ?_
  refine (wakeStep_keeps ..).step (by decide) ?_
  refine (targetStep_keeps ..).step (by decide) ?_
  refine (tamperStep_keeps ..).step (by decide) ?_
  refine (contendStep_keeps ..).step (by decide) ?_
  refine (cLapse_keeps ..).step (by decide) ?_
  exact h4

theorem execFolioBoundary_keeps (s : State) {s₁ : State}
    (h : execFolioBoundary s = .next s₁) : Keeps (.qr :: .qrx :: .air :: .line :: .rbm :: .slp :: .slph :: .tmp :: .freeCtr :: eventParts) s s₁ := by
  unfold execFolioBoundary at h
  refine run_keeps (by decide) (fun u hu => ?_) h
  try beta_reduce
  refine Keeps.ite ?_ ?_
  · extract_lets -merge +onlyGivenNames x0
    have h1 : Keeps (.qr :: .qrx :: .air :: .line :: .rbm :: .slp :: .slph :: .tmp :: .freeCtr :: eventParts) s x0 := by
      unfold x0
      refine (lingerStep_keeps ..).step (by decide) ?_
      exact hu
    refine (folioEnter_keeps ..).step (by decide) ?_
    refine Keeps.qr ?_ (by decide)
    exact h1
  · exact hu

theorem onceClear_keeps (s : State) :
    Keeps ([.air, .afe, .line, .ofd, .rbm, .ltx, .cx, .hi]) s (onceClear s) := by
  unfold onceClear
  refine Keeps.air_afe_line_ofd_rbm_ltx_cx_hi ?_ (by decide) (by decide) (by decide) (by decide) (by decide) (by decide) (by decide) (by decide)
  exact Keeps.refl _ _

theorem groupSwitch_keeps (s : State) :
    Keeps ([.cx, .lg]) s (groupSwitch s) := by
  unfold groupSwitch
  split
  · exact Keeps.refl _ _
  · extract_lets -merge +onlyGivenNames x0 x1
    extract_lets -merge +onlyGivenNames x2
    have h3 : Keeps ([.cx, .lg]) s x2 := by
      refine Keeps.cx ?_ (by decide)
      exact Keeps.refl _ _
    clear_value  x0
    split
    · refine (retireSlot_keeps ..).step (by decide) ?_
      exact h3
    · exact h3

theorem leafTurn_keeps (s : State) :
    Keeps ([.qrx, .lt, .ltx, .slp, .tex]) s (leafTurn s) := by
  unfold leafTurn
  extract_lets -merge +onlyGivenNames x0 x1
  refine Keeps.qrx_ltx_slp_tex ?_ (by decide) (by decide) (by decide) (by decide)
  exact Keeps.refl _ _

theorem quietTurn_keeps (s : State) :
    Keeps ([.lt]) s (quietTurn s) := by
  unfold quietTurn
  refine Keeps.foldl ?_ (fun u0 _ hu1 => ?_)
  · exact Keeps.refl _ _
  · try beta_reduce
    refine Keeps.lt ?_ (by decide)
    exact hu1

theorem headTurn_keeps (s : State) :
    Keeps ([.qrx, .line, .lt, .slph]) s (headTurn s) := by
  unfold headTurn
  extract_lets -merge +onlyGivenNames x0
  have h1 : Keeps ([.qrx, .line, .lt, .slph]) s x0 := by
    unfold x0
    refine (quietTurn_keeps ..).step (by decide) ?_
    exact Keeps.refl _ _
  extract_lets -merge +onlyGivenNames x2 x3 x4
  extract_lets -merge +onlyGivenNames x5
  have h6 : Keeps ([.qrx, .line, .lt, .slph]) s x5 := by
    refine Keeps.qrx_lt_slph ?_ (by decide) (by decide) (by decide)
    exact h1
  refine Keeps.foldl ?_ (fun u7 _ hu8 => ?_)
  · exact h6
  · try beta_reduce
    refine (sendJoinResp_keeps ..).step (by decide) ?_
    exact hu8

theorem quireEnd_keeps (s : State) :
    Keeps ([.qrx, .air, .afe, .line, .ofd, .rbm, .lt, .ltx, .slp, .slph, .tex, .cx, .hi]) s (quireEnd s) := by
  unfold quireEnd
  extract_lets -merge +onlyGivenNames x0
  have h1 : Keeps ([.qrx, .air, .afe, .line, .ofd, .rbm, .lt, .ltx, .slp, .slph, .tex, .cx, .hi]) s x0 := by
    unfold x0
    refine (onceClear_keeps ..).step (by decide) ?_
    refine (lingerStep_keeps ..).step (by decide) ?_
    exact Keeps.refl _ _
  refine Keeps.ite ?_ ?_
  · refine (leafTurn_keeps ..).step (by decide) ?_
    exact h1
  · refine (headTurn_keeps ..).step (by decide) ?_
    exact h1

theorem beginQuire_keeps (q : Word) (s : State) :
    Keeps (.qr :: .qrx :: .air :: .line :: .rbm :: .ltx :: .slp :: .slph :: .cx :: .tmp :: .freeCtr :: eventParts) s (beginQuire q s) := by
  unfold beginQuire
  extract_lets -merge +onlyGivenNames x0 x1 x2 x3
  extract_lets -merge +onlyGivenNames x4
  have h5 : Keeps (.qr :: .qrx :: .air :: .line :: .rbm :: .ltx :: .slp :: .slph :: .cx :: .tmp :: .freeCtr :: eventParts) s x4 := by
    refine Keeps.qr_qrx_slph ?_ (by decide) (by decide) (by decide)
    exact Keeps.refl _ _
  extract_lets -merge +onlyGivenNames x6
  have h7 : Keeps (.qr :: .qrx :: .air :: .line :: .rbm :: .ltx :: .slp :: .slph :: .cx :: .tmp :: .freeCtr :: eventParts) s x6 := by
    refine Keeps.ite ?_ ?_
    · refine (lapseRealign_keeps ..).step (by decide) ?_
      exact h5
    · exact h5
  refine (folioEnter_keeps ..).step (by decide) ?_
  refine (tamperDue_keeps ..).step (by decide) ?_
  refine (roleMaps_keeps ..).step (by decide) ?_
  refine (groupSwitch_keeps ..).step (by decide) ?_
  refine (creditReset_keeps ..).step (by decide) ?_
  refine (swapIfDue_keeps ..).step (by decide) ?_
  exact h7

theorem qrStop_keeps (s : State) :
    Keeps (.qr :: .qrx :: eventParts) s (qrStop s) := by
  unfold qrStop
  extract_lets -merge +onlyGivenNames x0 x1
  extract_lets -merge +onlyGivenNames x2
  have h3 : Keeps (.qr :: .qrx :: eventParts) s x2 := by
    unfold x2
    refine (lapseRealign_keeps ..).step (by decide) ?_
    refine Keeps.qr_qrx ?_ (by decide) (by decide)
    exact Keeps.refl _ _
  refine (raise_keeps ..).step (by decide) ?_
  exact h3

theorem slipStart_keeps (s : State) :
    Keeps ([.qr, .qrx]) s (slipStart s) := by
  unfold slipStart
  refine Keeps.qr_qrx ?_ (by decide) (by decide)
  exact Keeps.refl _ _

theorem quireNext_keeps (s : State) :
    Keeps (.mpt :: .qr :: .qrx :: .air :: .line :: .rbm :: .ltx :: .slp :: .slph :: .cx :: .tmp :: .freeCtr :: eventParts) s (quireNext s) := by
  unfold quireNext
  extract_lets -merge +onlyGivenNames x0
  refine Keeps.ite ?_ ?_
  · refine (qrStop_keeps ..).step (by decide) ?_
    exact Keeps.refl _ _
  · refine Keeps.ite ?_ ?_
    · split
      · refine Keeps.ite ?_ ?_
        · refine (slipStart_keeps ..).step (by decide) ?_
          exact Keeps.refl _ _
        · refine (beginQuire_keeps ..).step (by decide) ?_
          exact Keeps.refl _ _
      · refine (beginQuire_keeps ..).step (by decide) ?_
        exact Keeps.refl _ _
    · refine Keeps.ite ?_ ?_
      · refine (slipStart_keeps ..).step (by decide) ?_
        exact Keeps.refl _ _
      · refine Keeps.ite ?_ ?_
        · refine Keeps.ite ?_ ?_
          · refine (slipStart_keeps ..).step (by decide) ?_
            refine (refStepApply_keeps ..).step (by decide) ?_
            exact Keeps.refl _ _
          · refine (beginQuire_keeps ..).step (by decide) ?_
            refine (lapseRealign_keeps ..).step (by decide) ?_
            exact Keeps.refl _ _
        · refine (beginQuire_keeps ..).step (by decide) ?_
          exact Keeps.refl _ _

theorem execQuireBoundary_keeps (s : State) {s₁ : State}
    (h : execQuireBoundary s = .next s₁) : Keeps (.mpt :: .qr :: .qrx :: .air :: .afe :: .line :: .ofd :: .rbm :: .lt :: .ltx :: .slp :: .slph :: .tex :: .cx :: .hi :: .tmp :: .freeCtr :: eventParts) s s₁ := by
  unfold execQuireBoundary at h
  refine run_keeps (by decide) (fun u hu => ?_) h
  try beta_reduce
  refine Keeps.ite ?_ ?_
  · refine (quireNext_keeps ..).step (by decide) ?_
    refine (quireEnd_keeps ..).step (by decide) ?_
    exact hu
  · exact hu

theorem execQuireRealign_keeps (s : State) {s₁ : State}
    (h : execQuireRealign s = .next s₁) : Keeps (.qr :: .qrx :: .air :: .line :: .rbm :: .ltx :: .slp :: .slph :: .cx :: .tmp :: .freeCtr :: eventParts) s s₁ := by
  unfold execQuireRealign at h
  refine run_keeps (by decide) (fun u hu => ?_) h
  try beta_reduce
  refine Keeps.ite ?_ ?_
  · extract_lets -merge +onlyGivenNames x0 x1 x2
    extract_lets -merge +onlyGivenNames x3
    have h4 : Keeps (.qr :: .qrx :: .air :: .line :: .rbm :: .ltx :: .slp :: .slph :: .cx :: .tmp :: .freeCtr :: eventParts) s x3 := by
      unfold x3
      refine (lapseRealign_keeps ..).step (by decide) ?_
      refine Keeps.qr ?_ (by decide)
      exact hu
    refine Keeps.ite ?_ ?_
    · refine (qrStop_keeps ..).step (by decide) ?_
      exact h4
    · refine (beginQuire_keeps ..).step (by decide) ?_
      refine (raise_keeps ..).step (by decide) ?_
      exact h4
  · exact hu

theorem qrCtrlWrite_keeps (v : Word) (s : State) :
    Keeps ([.qr, .qrx]) s (qrCtrlWrite v s) := by
  unfold qrCtrlWrite
  extract_lets -merge +onlyGivenNames x0 x1 x2
  extract_lets -merge +onlyGivenNames x3
  have h4 : Keeps ([.qr, .qrx]) s x3 := by
    refine Keeps.qr ?_ (by decide)
    exact Keeps.refl _ _
  refine Keeps.ite ?_ ?_
  · refine Keeps.qr_qrx ?_ (by decide) (by decide)
    exact h4
  · refine Keeps.ite ?_ ?_
    · refine Keeps.ite ?_ ?_
      · refine Keeps.qr ?_ (by decide)
        exact h4
      · refine Keeps.qrx ?_ (by decide)
        exact h4
    · exact h4

theorem execQrRun_keeps (v : Word) (s : State) {s₁ : State}
    (h : execQrRun v s = .next s₁) : Keeps ([.qr, .qrx, .slp, .pwr]) s s₁ := by
  unfold execQrRun at h
  refine runHost_keeps (by decide) (fun u hu => ?_) h
  refine (qrCtrlWrite_keeps ..).step (by decide) ?_
  exact hu

theorem execQrStopRequest_keeps (v : Word) (s : State) {s₁ : State}
    (h : execQrStopRequest v s = .next s₁) : Keeps ([.qr, .qrx, .slp, .pwr]) s s₁ := by
  unfold execQrStopRequest at h
  refine runHost_keeps (by decide) (fun u hu => ?_) h
  refine (qrCtrlWrite_keeps ..).step (by decide) ?_
  exact hu

theorem execQrStart_keeps (s : State) {s₁ : State}
    (h : execQrStart s = .next s₁) : Keeps (.qr :: .qrx :: .air :: .line :: .rbm :: .ltx :: .slp :: .slph :: .cx :: .tmp :: .freeCtr :: eventParts) s s₁ := by
  unfold execQrStart at h
  refine run_keeps (by decide) (fun u hu => ?_) h
  try beta_reduce
  refine Keeps.ite ?_ ?_
  · extract_lets -merge +onlyGivenNames x0 x1 x2
    extract_lets -merge +onlyGivenNames x3
    have h4 : Keeps (.qr :: .qrx :: .air :: .line :: .rbm :: .ltx :: .slp :: .slph :: .cx :: .tmp :: .freeCtr :: eventParts) s x3 := by
      refine Keeps.qr_qrx ?_ (by decide) (by decide)
      exact hu
    refine (beginQuire_keeps ..).step (by decide) ?_
    refine (raise_keeps ..).step (by decide) ?_
    exact h4
  · exact hu

theorem execSeniorLoss_keeps (s : State) {s₁ : State}
    (h : execSeniorLoss s = .next s₁) : Keeps (.qrx :: eventParts) s s₁ := by
  unfold execSeniorLoss at h
  refine run_keeps (by decide) (fun u hu => ?_) h
  try beta_reduce
  refine Keeps.ite ?_ ?_
  · refine (raise_keeps ..).step (by decide) ?_
    refine Keeps.qrx ?_ (by decide)
    exact hu
  · exact hu

theorem placeQuire_keeps (b : BeaconInfo) (n : Nat) (s : State) :
    Keeps ([.qr, .qrx]) s (placeQuire b n s) := by
  unfold placeQuire
  extract_lets -merge +onlyGivenNames x0 x1 x2 x3 x4 x5 x6
  extract_lets -merge +onlyGivenNames x7
  have h8 : Keeps ([.qr, .qrx]) s x7 := by
    refine Keeps.qr_qrx ?_ (by decide) (by decide)
    exact Keeps.refl _ _
  exact h8

theorem beaconRaw_keeps (f : RxFrame) (b : BeaconInfo) (n : Nat) (s : State) :
    Keeps (.mpt :: eventParts) s (beaconRaw f b n s) := by
  unfold beaconRaw
  refine Keeps.ite ?_ ?_
  · exact Keeps.refl _ _
  · refine (leafRaw_keeps ..).step (by decide) ?_
    exact Keeps.refl _ _

theorem leafBeacon_keeps (o : Front) (b : BeaconInfo) (s : State) :
    Keeps (.mpt :: .qr :: .qrx :: .line :: .lt :: .ltx :: .slp :: .te :: .tex :: .rg :: .hi :: .tmp :: .freeCtr :: eventParts) s (leafBeacon o b s) := by
  unfold leafBeacon
  extract_lets -merge +onlyGivenNames x0 x1 x2
  extract_lets -merge +onlyGivenNames x3
  have h4 : Keeps (.mpt :: .qr :: .qrx :: .line :: .lt :: .ltx :: .slp :: .te :: .tex :: .rg :: .hi :: .tmp :: .freeCtr :: eventParts) s x3 := by
    refine Keeps.qr_qrx ?_ (by decide) (by decide)
    exact Keeps.refl _ _
  refine Keeps.ite ?_ ?_
  · exact h4
  · extract_lets -merge +onlyGivenNames x5 x6 x7 x8 x9
    extract_lets -merge +onlyGivenNames x10
    have h11 : Keeps (.mpt :: .qr :: .qrx :: .line :: .lt :: .ltx :: .slp :: .te :: .tex :: .rg :: .hi :: .tmp :: .freeCtr :: eventParts) s x10 := by
      refine Keeps.qrx_lt_ltx_slp ?_ (by decide) (by decide) (by decide) (by decide)
      exact h4
    extract_lets -merge +onlyGivenNames x12
    have h13 : Keeps (.mpt :: .qr :: .qrx :: .line :: .lt :: .ltx :: .slp :: .te :: .tex :: .rg :: .hi :: .tmp :: .freeCtr :: eventParts) s x12 := by
      unfold x12
      refine (beaconMeasure_keeps ..).step (by decide) ?_
      refine (beaconRaw_keeps ..).step (by decide) ?_
      exact h11
    extract_lets -merge +onlyGivenNames x14
    have h15 : Keeps (.mpt :: .qr :: .qrx :: .line :: .lt :: .ltx :: .slp :: .te :: .tex :: .rg :: .hi :: .tmp :: .freeCtr :: eventParts) s x14 := by
      unfold x14
      refine (placeQuire_keeps ..).step (by decide) ?_
      exact h13
    refine Keeps.ite ?_ ?_
    · refine (searchExit_keeps ..).step (by decide) ?_
      refine (slpContact_keeps ..).step (by decide) ?_
      exact h15
    · exact h15

theorem partCheck_keeps (b : BeaconInfo) (senior : Nat) (s : State) :
    Keeps (.qrx :: eventParts) s (partCheck b senior s) := by
  unfold partCheck
  refine Keeps.foldl ?_ (fun u0 _ hu1 => ?_)
  · exact Keeps.refl _ _
  · try beta_reduce
    extract_lets -merge +onlyGivenNames x2 x3 x4
    refine Keeps.ite ?_ ?_
    · refine Keeps.qrx ?_ (by decide)
      exact hu1
    · refine Keeps.ite ?_ ?_
      · exact hu1
      · refine (raise_keeps ..).step (by decide) ?_
        refine Keeps.qrx ?_ (by decide)
        exact hu1

theorem juniorBeacon_keeps (o : Front) (b : BeaconInfo) (s : State) :
    Keeps (.mpt :: .qr :: .qrx :: eventParts) s (juniorBeacon o b s) := by
  unfold juniorBeacon
  refine Keeps.ite ?_ ?_
  · exact Keeps.refl _ _
  · extract_lets -merge +onlyGivenNames x0
    extract_lets -merge +onlyGivenNames x1
    have h2 : Keeps (.mpt :: .qr :: .qrx :: eventParts) s x1 := by
      unfold x1
      refine (partCheck_keeps ..).step (by decide) ?_
      exact Keeps.refl _ _
    extract_lets -merge +onlyGivenNames x3 x4
    extract_lets -merge +onlyGivenNames x5
    have h6 : Keeps (.mpt :: .qr :: .qrx :: eventParts) s x5 := by
      refine Keeps.qr_qrx ?_ (by decide) (by decide)
      exact h2
    extract_lets -merge +onlyGivenNames x7
    have h8 : Keeps (.mpt :: .qr :: .qrx :: eventParts) s x7 := by
      unfold x7
      refine (beaconRaw_keeps ..).step (by decide) ?_
      exact h6
    extract_lets -merge +onlyGivenNames x9 x10
    extract_lets -merge +onlyGivenNames x11
    have h12 : Keeps (.mpt :: .qr :: .qrx :: eventParts) s x11 := by
      refine Keeps.ite ?_ ?_
      · refine (raise_keeps ..).step (by decide) ?_
        refine Keeps.qrx ?_ (by decide)
        exact h8
      · exact h8
    refine Keeps.ite ?_ ?_
    · exact h12
    · refine Keeps.ite ?_ ?_
      · extract_lets -merge +onlyGivenNames x13 x14
        extract_lets -merge +onlyGivenNames x15
        have h16 : Keeps (.mpt :: .qr :: .qrx :: eventParts) s x15 := by
          refine Keeps.qr ?_ (by decide)
          exact h12
        refine (placeQuire_keeps ..).step (by decide) ?_
        refine (raise_keeps ..).step (by decide) ?_
        exact h16
      · refine (placeQuire_keeps ..).step (by decide) ?_
        exact h12

theorem onBeacon_keeps (o : Front) (s : State) :
    Keeps (.mpt :: .qr :: .qrx :: .line :: .lt :: .ltx :: .slp :: .te :: .tex :: .rg :: .hi :: .tmp :: .freeCtr :: eventParts) s (onBeacon o s) := by
  unfold onBeacon
  extract_lets -merge +onlyGivenNames x0
  refine Keeps.ite ?_ ?_
  · exact Keeps.refl _ _
  · refine Keeps.ite ?_ ?_
    · refine (leafBeacon_keeps ..).step (by decide) ?_
      exact Keeps.refl _ _
    · refine Keeps.ite ?_ ?_
      · refine (juniorBeacon_keeps ..).step (by decide) ?_
        exact Keeps.refl _ _
      · exact Keeps.refl _ _

theorem onRolemap_keeps (o : Front) (s : State) :
    Keeps ([.qr, .qrx]) s (onRolemap o s) := by
  unfold onRolemap
  extract_lets -merge +onlyGivenNames x0
  refine Keeps.ite ?_ ?_
  · exact Keeps.refl _ _
  · extract_lets -merge +onlyGivenNames x1 x2 x3
    extract_lets -merge +onlyGivenNames x4
    have h5 : Keeps ([.qr, .qrx]) s x4 := by
      refine Keeps.qrx ?_ (by decide)
      exact Keeps.refl _ _
    split
    · exact h5
    · extract_lets -merge +onlyGivenNames x6
      refine (updBank_keeps ..).step (by decide) ?_
      refine Keeps.qrx ?_ (by decide)
      exact h5

theorem qrPartWrite_keeps (v : Word) (s : State) :
    Keeps (.mpt :: .qr :: .qrx :: eventParts) s (qrPartWrite v s) := by
  unfold qrPartWrite
  refine Keeps.ite ?_ ?_
  · exact Keeps.refl _ _
  · extract_lets -merge +onlyGivenNames x0 x1
    extract_lets -merge +onlyGivenNames x2
    have h3 : Keeps (.mpt :: .qr :: .qrx :: eventParts) s x2 := by
      refine Keeps.qr ?_ (by decide)
      exact Keeps.refl _ _
    refine Keeps.ite ?_ ?_
    · refine (rechooseRef_keeps ..).step (by decide) ?_
      refine Keeps.mpt ?_ (by decide)
      exact h3
    · refine (syncLeafRef_keeps ..).step (by decide) ?_
      exact h3

theorem qrSmallWrite_keeps (off : Nat) (v : Word) (s : State) :
    Keeps ([.qr]) s (qrSmallWrite off v s) := by
  unfold qrSmallWrite
  split
  · refine Keeps.qr ?_ (by decide)
    exact Keeps.refl _ _
  · refine Keeps.qr ?_ (by decide)
    exact Keeps.refl _ _
  · refine Keeps.qr ?_ (by decide)
    exact Keeps.refl _ _
  · refine Keeps.qr ?_ (by decide)
    exact Keeps.refl _ _
  · exact Keeps.refl _ _

theorem qrMapStatusWrite_keeps (v : Word) (s : State) :
    Keeps ([.qr]) s (qrMapStatusWrite v s) := by
  unfold qrMapStatusWrite
  refine Keeps.qr ?_ (by decide)
  exact Keeps.refl _ _

/-! ### Machine/Leaf.lean -/

theorem updStage_keeps (c : Nat) (f : LtStage → LtStage) (s : State) :
    Keeps ([.lt]) s (updStage c f s) := by
  unfold updStage
  refine Keeps.lt ?_ (by decide)
  exact Keeps.refl _ _

theorem stageWrite_keeps (c w : Nat) (v : Word) (s : State) :
    Keeps ([.lt]) s (stageWrite c w v s) := by
  unfold stageWrite
  refine (updStage_keeps ..).step (by decide) ?_
  exact Keeps.refl _ _

theorem ltRefuse_keeps (c cause n : Nat) (s : State) :
    Keeps (.lt :: eventParts) s (ltRefuse c cause n s) := by
  unfold ltRefuse
  refine (raise_keeps ..).step (by decide) ?_
  refine (updStage_keeps ..).step (by decide) ?_
  exact Keeps.refl _ _

theorem ltCmdWrite_keeps (c : Nat) (v : Word) (s : State) :
    Keeps (.lt :: eventParts) s (ltCmdWrite c v s) := by
  unfold ltCmdWrite
  extract_lets -merge +onlyGivenNames x0
  extract_lets -merge +onlyGivenNames x1
  have h2 : Keeps (.lt :: eventParts) s x1 := by
    unfold x1
    refine (updStage_keeps ..).step (by decide) ?_
    exact Keeps.refl _ _
  refine Keeps.ite ?_ ?_
  · extract_lets -merge +onlyGivenNames x3 x4
    refine (updStage_keeps ..).step (by decide) ?_
    exact h2
  · extract_lets -merge +onlyGivenNames x5 x6
    split
    · refine (ltRefuse_keeps ..).step (by decide) ?_
      exact h2
    · extract_lets -merge +onlyGivenNames x7
      refine (updStage_keeps ..).step (by decide) ?_
      exact h2

theorem execLtRead_keeps (copy : LtCopy) (v : Word) (s : State) {s₁ : State}
    (h : execLtRead copy v s = .next s₁) : Keeps (.lt :: .slp :: .pwr :: eventParts) s s₁ := by
  unfold execLtRead at h
  refine runHost_keeps (by decide) (fun u hu => ?_) h
  refine (ltCmdWrite_keeps ..).step (by decide) ?_
  exact hu

theorem execLtCommit_keeps (copy : LtCopy) (v : Word) (s : State) {s₁ : State}
    (h : execLtCommit copy v s = .next s₁) : Keeps (.lt :: .slp :: .pwr :: eventParts) s s₁ := by
  unfold execLtCommit at h
  refine runHost_keeps (by decide) (fun u hu => ?_) h
  refine (ltCmdWrite_keeps ..).step (by decide) ?_
  exact hu

theorem afterCommit_keeps (n : Nat) (old new : Entry) (s : State) :
    Keeps (.air :: .line :: .lt :: .ltx :: .slph :: .cx :: .hi :: eventParts) s (afterCommit n old new s) := by
  unfold afterCommit
  extract_lets -merge +onlyGivenNames x0
  extract_lets -merge +onlyGivenNames x1
  have h2 : Keeps (.air :: .line :: .lt :: .ltx :: .slph :: .cx :: .hi :: eventParts) s x1 := by
    refine Keeps.lt ?_ (by decide)
    exact Keeps.refl _ _
  extract_lets -merge +onlyGivenNames x3
  extract_lets -merge +onlyGivenNames x4
  have h5 : Keeps (.air :: .line :: .lt :: .ltx :: .slph :: .cx :: .hi :: eventParts) s x4 := by
    refine Keeps.ite ?_ ?_
    · refine Keeps.ite ?_ ?_
      · refine Keeps.lt ?_ (by decide)
        exact h2
      · exact h2
    · exact Keeps.refl _ _
  extract_lets -merge +onlyGivenNames x6
  extract_lets -merge +onlyGivenNames x7
  have h8 : Keeps (.air :: .line :: .lt :: .ltx :: .slph :: .cx :: .hi :: eventParts) s x7 := by
    refine Keeps.ite ?_ ?_
    · refine Keeps.slph ?_ (by decide)
      exact h5
    · exact h5
  extract_lets -merge +onlyGivenNames x9
  have h10 : Keeps (.air :: .line :: .lt :: .ltx :: .slph :: .cx :: .hi :: eventParts) s x9 := by
    refine Keeps.ite ?_ ?_
    · refine (updUse_keeps ..).step (by decide) ?_
      exact h8
    · exact h8
  refine (sweepLeaf_keeps ..).step (by decide) ?_
  exact h10

theorem commitApply_keeps (w : LtCommitS) (s : State) :
    Keeps (.air :: .line :: .lt :: .ltx :: .slph :: .cx :: .hi :: eventParts) s (commitApply w s) := by
  unfold commitApply
  extract_lets -merge +onlyGivenNames x0 x1 x2
  extract_lets -merge +onlyGivenNames x3
  have h4 : Keeps (.air :: .line :: .lt :: .ltx :: .slph :: .cx :: .hi :: eventParts) s x3 := by
    unfold x3
    refine (afterCommit_keeps ..).step (by decide) ?_
    refine (putEntry_keeps ..).step (by decide) ?_
    exact Keeps.refl _ _
  refine Keeps.ite ?_ ?_
  · refine (raise_keeps ..).step (by decide) ?_
    exact h4
  · exact h4

theorem execLtCommitApply_keeps (copy : LtCopy) (s : State) {s₁ : State}
    (h : execLtCommitApply copy s = .next s₁) : Keeps (.air :: .line :: .lt :: .ltx :: .slph :: .cx :: .hi :: eventParts) s s₁ := by
  unfold execLtCommitApply at h
  refine run_keeps (by decide) (fun u hu => ?_) h
  try beta_reduce
  extract_lets -merge +onlyGivenNames x0 x1 x2
  extract_lets -merge +onlyGivenNames x3
  have h4 : Keeps (.air :: .line :: .lt :: .ltx :: .slph :: .cx :: .hi :: eventParts) s x3 := by
    unfold x3
    refine (updStage_keeps ..).step (by decide) ?_
    exact hu
  refine Keeps.foldl ?_ (fun u5 _ hu6 => ?_)
  · exact h4
  · try beta_reduce
    refine (commitApply_keeps ..).step (by decide) ?_
    exact hu6

theorem execEntrySilent_keeps (leaf : BitVec 12) (s : State) {s₁ : State}
    (h : execEntrySilent leaf s = .next s₁) : Keeps (.lt :: eventParts) s s₁ := by
  unfold execEntrySilent at h
  refine run_keeps (by decide) (fun u hu => ?_) h
  try beta_reduce
  extract_lets -merge +onlyGivenNames x0
  refine Keeps.ite ?_ ?_
  · refine (changeState_keeps ..).step (by decide) ?_
    exact hu
  · exact hu

theorem execEntryGone_keeps (leaf : BitVec 12) (s : State) {s₁ : State}
    (h : execEntryGone leaf s = .next s₁) : Keeps (.air :: .line :: .lt :: .ltx :: .hi :: eventParts) s s₁ := by
  unfold execEntryGone at h
  refine run_keeps (by decide) (fun u hu => ?_) h
  try beta_reduce
  extract_lets -merge +onlyGivenNames x0
  refine Keeps.ite ?_ ?_
  · refine (sweepLeaf_keeps ..).step (by decide) ?_
    refine (changeState_keeps ..).step (by decide) ?_
    exact hu
  · exact hu

theorem execTipinTimeout_keeps (leaf : BitVec 12) (s : State) {s₁ : State}
    (h : execTipinTimeout leaf s = .next s₁) : Keeps (.air :: .line :: .lt :: .ltx :: .hi :: eventParts) s s₁ := by
  unfold execTipinTimeout at h
  refine run_keeps (by decide) (fun u hu => ?_) h
  try beta_reduce
  extract_lets -merge +onlyGivenNames x0
  split
  · exact hu
  · refine Keeps.ite ?_ ?_
    · extract_lets -merge +onlyGivenNames x1 x2
      extract_lets -merge +onlyGivenNames x3
      have h4 : Keeps (.air :: .line :: .lt :: .ltx :: .hi :: eventParts) s x3 := by
        unfold x3
        refine (updEntry_keeps ..).step (by decide) ?_
        exact hu
      extract_lets -merge +onlyGivenNames x5
      extract_lets -merge +onlyGivenNames x6
      have h7 : Keeps (.air :: .line :: .lt :: .ltx :: .hi :: eventParts) s x6 := by
        refine Keeps.lt ?_ (by decide)
        exact h4
      refine (sweepLeaf_keeps ..).step (by decide) ?_
      refine (raise_keeps ..).step (by decide) ?_
      exact h7
    · exact hu

theorem ltJoinWrite_keeps (v : Word) (s : State) :
    Keeps (.line :: .lt :: .ltx :: .slp :: .tex :: .freeCtr :: eventParts) s (ltJoinWrite v s) := by
  unfold ltJoinWrite
  extract_lets -merge +onlyGivenNames x0
  extract_lets -merge +onlyGivenNames x1
  have h2 : Keeps (.line :: .lt :: .ltx :: .slp :: .tex :: .freeCtr :: eventParts) s x1 := by
    refine Keeps.lt ?_ (by decide)
    exact Keeps.refl _ _
  refine Keeps.ite ?_ ?_
  · refine (retryTipin_keeps ..).step (by decide) ?_
    exact h2
  · exact h2

theorem execTipinStart_keeps (v : Word) (s : State) {s₁ : State}
    (h : execTipinStart v s = .next s₁) : Keeps (.line :: .lt :: .ltx :: .slp :: .tex :: .pwr :: .freeCtr :: eventParts) s s₁ := by
  unfold execTipinStart at h
  refine runHost_keeps (by decide) (fun u hu => ?_) h
  refine (ltJoinWrite_keeps ..).step (by decide) ?_
  exact hu

theorem execTipinRetry_keeps (s : State) {s₁ : State}
    (h : execTipinRetry s = .next s₁) : Keeps ([.line, .ltx, .freeCtr]) s s₁ := by
  unfold execTipinRetry at h
  refine run_keeps (by decide) (fun u hu => ?_) h
  try beta_reduce
  refine Keeps.ite ?_ ?_
  · refine (sendJoinReq_keeps ..).step (by decide) ?_
    refine Keeps.ltx ?_ (by decide)
    exact hu
  · exact hu

theorem dropConfirm_keeps (s : State) :
    Keeps ([.line]) s (dropConfirm s) := by
  unfold dropConfirm
  refine Keeps.line ?_ (by decide)
  exact Keeps.refl _ _

theorem execConfirmTimeout_keeps (s : State) {s₁ : State}
    (h : execConfirmTimeout s = .next s₁) : Keeps (.line :: .lt :: .ltx :: .slp :: .tex :: .freeCtr :: eventParts) s s₁ := by
  unfold execConfirmTimeout at h
  refine run_keeps (by decide) (fun u hu => ?_) h
  try beta_reduce
  refine Keeps.ite ?_ ?_
  · refine (retryTipin_keeps ..).step (by decide) ?_
    refine (dropConfirm_keeps ..).step (by decide) ?_
    exact hu
  · exact hu

theorem execHeadLost_keeps (s : State) {s₁ : State}
    (h : execHeadLost s = .next s₁) : Keeps (.lt :: eventParts) s s₁ := by
  unfold execHeadLost at h
  refine run_keeps (by decide) (fun u hu => ?_) h
  try beta_reduce
  refine Keeps.ite ?_ ?_
  · refine (raise_keeps ..).step (by decide) ?_
    refine Keeps.lt ?_ (by decide)
    exact hu
  · exact hu

theorem execHeadGone_keeps (s : State) {s₁ : State}
    (h : execHeadGone s = .next s₁) : Keeps (.line :: .lt :: .ltx :: .slp :: .tex :: .freeCtr :: eventParts) s s₁ := by
  unfold execHeadGone at h
  refine run_keeps (by decide) (fun u hu => ?_) h
  try beta_reduce
  refine Keeps.ite ?_ ?_
  · refine (retryTipin_keeps ..).step (by decide) ?_
    exact hu
  · exact hu

theorem execLeafNoAnswer_keeps (s : State) {s₁ : State}
    (h : execLeafNoAnswer s = .next s₁) : Keeps (.line :: .lt :: .ltx :: .slp :: .tex :: .freeCtr :: eventParts) s s₁ := by
  unfold execLeafNoAnswer at h
  refine run_keeps (by decide) (fun u hu => ?_) h
  try beta_reduce
  refine Keeps.ite ?_ ?_
  · refine (retryTipin_keeps ..).step (by decide) ?_
    exact hu
  · exact hu

theorem ltStatusWrite_keeps (c : Nat) (v : Word) (s : State) :
    Keeps ([.lt]) s (ltStatusWrite c v s) := by
  unfold ltStatusWrite
  refine (updStage_keeps ..).step (by decide) ?_
  exact Keeps.refl _ _

theorem ltApptWrite_keeps (k : Nat) (v : Word) (s : State) :
    Keeps ([.lt]) s (ltApptWrite k v s) := by
  unfold ltApptWrite
  refine Keeps.lt ?_ (by decide)
  exact Keeps.refl _ _

end Sys2Proof.Machine
end

