-- ==== Sys2Proof/Laws/FrameHost.lean ====
section
/-! SUPPORT. The frames of the functions of the crypto core, check values, the host interface and the event path: outside the components listed
each changes nothing, and it leaves a sound state sound. -/
namespace Sys2Proof.Machine

/-! ### Machine/Cx.lean -/

theorem updCore_keeps (c : Nat) (f : CxCore → CxCore) (s : State) :
    Keeps ([.cx]) s (updCore c f s) := by
  unfold updCore
  refine Keeps.cx ?_ (by decide)
  exact Keeps.refl _ _

theorem noCoreCheck_keeps (s : State) :
    Keeps (.cx :: eventParts) s (noCoreCheck s) := by
  unfold noCoreCheck
  refine Keeps.ite ?_ ?_
  · refine Keeps.cx ?_ (by decide)
    exact Keeps.refl _ _
  · refine Keeps.ite ?_ ?_
    · exact Keeps.refl _ _
    · refine (raise_keeps ..).step (by decide) ?_
      refine Keeps.cx ?_ (by decide)
      exact Keeps.refl _ _

theorem slotSettle_keeps (i : Nat) (s : State) :
    Keeps ([.cx, .lg]) s (slotSettle i s) := by
  unfold slotSettle
  extract_lets -merge +onlyGivenNames x0
  refine Keeps.ite ?_ ?_
  · refine (clearSlot_keeps ..).step (by decide) ?_
    refine (dropKeyLedger_keeps ..).step (by decide) ?_
    exact Keeps.refl _ _
  · exact Keeps.refl _ _

theorem dispatchJobs_keeps (n : Nat) (s : State) : Keeps ([.cx, .freeCtr]) s (dispatchJobs n s) := by
  induction n generalizing s with
  | zero => exact Keeps.refl _ _
  | succ n ih =>
    unfold dispatchJobs
    split
    · refine (ih _).step (by decide) ((updCore_keeps ..).step (by decide) (Keeps.cx ?_ (by decide)))
      exact (draw_keeps ..).step (by decide) (Keeps.refl _ _)
    · exact Keeps.refl _ _

theorem dispatchAll_keeps (s : State) :
    Keeps ([.cx, .freeCtr]) s (dispatchAll s) := by
  unfold dispatchAll
  refine (dispatchJobs_keeps ..).step (by decide) ?_
  exact Keeps.refl _ _

theorem endJob_keeps (j : CxJob) (res : Result) (s : State) :
    Keeps ([.cx, .hi, .lg]) s (endJob j res s) := by
  unfold endJob
  refine (slotSettle_keeps ..).step (by decide) ?_
  refine (finish_keeps ..).step (by decide) ?_
  refine (jobDone_keeps ..).step (by decide) ?_
  exact Keeps.refl _ _

theorem releaseJob_keeps (j : CxJob) (s : State) :
    Keeps ([.dma, .cx, .hi, .lg, .hostMem]) s (releaseJob j s) := by
  unfold releaseJob
  split
  · extract_lets -merge +onlyGivenNames x0
    have h1 : Keeps ([.dma, .cx, .hi, .lg, .hostMem]) s x0 := by
      refine Keeps.ite ?_ ?_
      · refine (hostWrite_keeps ..).step (by decide) ?_
        exact Keeps.refl _ _
      · exact Keeps.refl _ _
    refine (endJob_keeps ..).step (by decide) ?_
    exact h1
  · refine (endJob_keeps ..).step (by decide) ?_
    exact Keeps.refl _ _

theorem execCipherJobDone_keeps (core : Fin 4) (fault : Bool) (s : State) {s₁ : State}
    (h : execCipherJobDone core fault s = .next s₁) : Keeps (.dma :: .cx :: .hi :: .freeCtr :: eventParts) s s₁ := by
  unfold execCipherJobDone at h
  refine run_keeps (by decide) (fun u hu => ?_) h
  try beta_reduce
  split
  · exact hu
  · refine Keeps.ite ?_ ?_
    · split
      rename_i v0 v1 e3
      have hv2 : Keeps (.dma :: .cx :: .hi :: .freeCtr :: eventParts) s v1 := by
        refine Keeps.snd e3 ?_
        refine (draw_keeps ..).step (by decide) ?_
        exact hu
      clear e3
      extract_lets -merge +onlyGivenNames x4
      have h5 : Keeps (.dma :: .cx :: .hi :: .freeCtr :: eventParts) s x4 := by
        unfold x4
        refine (updCore_keeps ..).step (by decide) ?_
        exact hv2
      extract_lets -merge +onlyGivenNames x6
      have h7 : Keeps (.dma :: .cx :: .hi :: .freeCtr :: eventParts) s x6 := by
        unfold x6
        refine (updSlot_keeps ..).step (by decide) ?_
        exact h5
      extract_lets -merge +onlyGivenNames x8
      have h9 : Keeps (.dma :: .cx :: .hi :: .freeCtr :: eventParts) s x8 := by
        unfold x8
        refine (raise_keeps ..).step (by decide) ?_
        exact h7
      refine (dispatchAll_keeps ..).step (by decide) ?_
      refine (noCoreCheck_keeps ..).step (by decide) ?_
      refine (endJob_keeps ..).step (by decide) ?_
      exact h9
    · extract_lets -merge +onlyGivenNames x10
      have h11 : Keeps (.dma :: .cx :: .hi :: .freeCtr :: eventParts) s x10 := by
        unfold x10
        refine (releaseJob_keeps ..).step (by decide) ?_
        exact hu
      extract_lets -merge +onlyGivenNames x12
      have h13 : Keeps (.dma :: .cx :: .hi :: .freeCtr :: eventParts) s x12 := by
        unfold x12
        refine (updCore_keeps ..).step (by decide) ?_
        exact h11
      refine (dispatchAll_keeps ..).step (by decide) ?_
      refine (noCoreCheck_keeps ..).step (by decide) ?_
      exact h13

theorem admitHost_keeps (decrypt ccm : Bool) (r id : Nat) (d : DescBytes) (bs : List Byte) (s : State) :
    Keeps (.cx :: .hi :: .freeCtr :: eventParts) s (admitHost decrypt ccm r id d bs s) := by
  unfold admitHost
  extract_lets -merge +onlyGivenNames x0 x1 x2
  split
  rename_i v3 v4 e6
  have hv5 : Keeps (.cx :: .hi :: .freeCtr :: eventParts) s v4 := by
    refine Keeps.snd e6 ?_
    refine (admitJob_keeps ..).step (by decide) ?_
    exact Keeps.refl _ _
  clear e6
  refine Keeps.ite ?_ ?_
  · extract_lets -merge +onlyGivenNames x7
    refine (dispatchAll_keeps ..).step (by decide) ?_
    refine Keeps.cx ?_ (by decide)
    exact hv5
  · refine (finish_keeps ..).step (by decide) ?_
    exact hv5

theorem hostJob_keeps (decrypt ccm : Bool) (d : DescBytes) (m : MemRead) (r id : Nat) (s : State) :
    Keeps (.cx :: .hi :: .freeCtr :: eventParts) s (hostJob decrypt ccm d m r id s) := by
  unfold hostJob
  extract_lets -merge +onlyGivenNames x0 x1
  refine Keeps.ite ?_ ?_
  · refine (finish_keeps ..).step (by decide) ?_
    exact Keeps.refl _ _
  · refine Keeps.ite ?_ ?_
    · refine (finish_keeps ..).step (by decide) ?_
      exact Keeps.refl _ _
    · refine Keeps.ite ?_ ?_
      · refine (finish_keeps ..).step (by decide) ?_
        exact Keeps.refl _ _
      · refine withDst_keeps (by decide) ?_ ?_
        · intro u2 hu3
          try beta_reduce
          refine withDst_keeps (by decide) ?_ ?_
          · intro u4 hu5
            try beta_reduce
            refine withDst_keeps (by decide) ?_ ?_
            · intro u6 hu7
              try beta_reduce
              split
              · refine (dmaError_keeps ..).step (by decide) ?_
                exact hu7
              · refine (admitHost_keeps ..).step (by decide) ?_
                exact hu7
            · exact hu5
          · exact hu3
        · exact Keeps.refl _ _

theorem execCxGcmEnc_keeps (r : Fin 16) (d : DescBytes) (m : MemRead) (s : State) {s₁ : State}
    (h : execCxGcmEnc r d m s = .next s₁) : Keeps (.cx :: .hi :: .freeCtr :: eventParts) s s₁ := by
  unfold execCxGcmEnc at h
  refine run_keeps (by decide) (fun u hu => ?_) h
  refine descRow_keeps (by decide) ?_ ?_
  · intro _ u0 hu1
    try beta_reduce
    refine (hostJob_keeps ..).step (by decide) ?_
    exact hu1
  · exact hu

theorem execCxGcmDec_keeps (r : Fin 16) (d : DescBytes) (m : MemRead) (s : State) {s₁ : State}
    (h : execCxGcmDec r d m s = .next s₁) : Keeps (.cx :: .hi :: .freeCtr :: eventParts) s s₁ := by
  unfold execCxGcmDec at h
  refine run_keeps (by decide) (fun u hu => ?_) h
  refine descRow_keeps (by decide) ?_ ?_
  · intro _ u0 hu1
    try beta_reduce
    refine (hostJob_keeps ..).step (by decide) ?_
    exact hu1
  · exact hu

theorem execCxCcmEnc_keeps (r : Fin 16) (d : DescBytes) (m : MemRead) (s : State) {s₁ : State}
    (h : execCxCcmEnc r d m s = .next s₁) : Keeps (.cx :: .hi :: .freeCtr :: eventParts) s s₁ := by
  unfold execCxCcmEnc at h
  refine run_keeps (by decide) (fun u hu => ?_) h
  refine descRow_keeps (by decide) ?_ ?_
  · intro _ u0 hu1
    try beta_reduce
    refine (hostJob_keeps ..).step (by decide) ?_
    exact hu1
  · exact hu

theorem execCxCcmDec_keeps (r : Fin 16) (d : DescBytes) (m : MemRead) (s : State) {s₁ : State}
    (h : execCxCcmDec r d m s = .next s₁) : Keeps (.cx :: .hi :: .freeCtr :: eventParts) s s₁ := by
  unfold execCxCcmDec at h
  refine run_keeps (by decide) (fun u hu => ?_) h
  refine descRow_keeps (by decide) ?_ ?_
  · intro _ u0 hu1
    try beta_reduce
    refine (hostJob_keeps ..).step (by decide) ?_
    exact hu1
  · exact hu

theorem loadPlace_keeps (l : KeyLoadS) (s : State) :
    Keeps ([.cx, .lg]) s (loadPlace l s) := by
  unfold loadPlace
  extract_lets -merge +onlyGivenNames x0
  extract_lets -merge +onlyGivenNames x1
  have h2 : Keeps ([.cx, .lg]) s x1 := by
    refine Keeps.ite ?_ ?_
    · refine (dropKeyLedger_keeps ..).step (by decide) ?_
      exact Keeps.refl _ _
    · exact Keeps.refl _ _
  extract_lets -merge +onlyGivenNames x3
  extract_lets -merge +onlyGivenNames x4
  have h5 : Keeps ([.cx, .lg]) s x4 := by
    refine Keeps.cx ?_ (by decide)
    exact h2
  extract_lets -merge +onlyGivenNames x6
  extract_lets -merge +onlyGivenNames x7
  have h8 : Keeps ([.cx, .lg]) s x7 := by
    unfold x7
    refine (setSlot_keeps ..).step (by decide) ?_
    exact h5
  refine Keeps.ite ?_ ?_
  · refine Keeps.foldl ?_ (fun u9 _ hu10 => ?_)
    · exact h8
    · try beta_reduce
      refine Keeps.ite ?_ ?_
      · exact hu10
      · refine (retireSlot_keeps ..).step (by decide) ?_
        exact hu10
  · exact h8

theorem retireOpt_keeps (o : Option Nat) (slot : Nat) (s : State) :
    Keeps ([.cx, .lg]) s (retireOpt o slot s) := by
  unfold retireOpt
  split
  · refine Keeps.ite ?_ ?_
    · exact Keeps.refl _ _
    · refine (retireSlot_keeps ..).step (by decide) ?_
      exact Keeps.refl _ _
  · exact Keeps.refl _ _

theorem loadDone_keeps (l : KeyLoadS) (s : State) :
    Keeps ([.cx, .hi, .lg]) s (loadDone l s) := by
  unfold loadDone
  extract_lets -merge +onlyGivenNames x0
  extract_lets -merge +onlyGivenNames x1
  have h2 : Keeps ([.cx, .hi, .lg]) s x1 := by
    refine Keeps.cx ?_ (by decide)
    exact Keeps.refl _ _
  extract_lets -merge +onlyGivenNames x3
  have h4 : Keeps ([.cx, .hi, .lg]) s x3 := by
    unfold x3
    refine (finish_keeps ..).step (by decide) ?_
    exact h2
  refine Keeps.ite ?_ ?_
  · extract_lets -merge +onlyGivenNames x5
    have h6 : Keeps ([.cx, .hi, .lg]) s x5 := by
      unfold x5
      refine (retireOpt_keeps ..).step (by decide) ?_
      exact h4
    refine Keeps.ite ?_ ?_
    · extract_lets -merge +onlyGivenNames x7
      have h8 : Keeps ([.cx, .hi, .lg]) s x7 := by
        unfold x7
        refine (retireOpt_keeps ..).step (by decide) ?_
        exact h6
      refine Keeps.cx ?_ (by decide)
      exact h8
    · refine Keeps.cx ?_ (by decide)
      exact h6
  · exact h4

theorem loadTry_keeps (l : KeyLoadS) (fault : Option (Fin 4)) (s : State) :
    Keeps (.cx :: .hi :: eventParts) s (loadTry l fault s) := by
  unfold loadTry
  extract_lets -merge +onlyGivenNames x0
  have h1 : Keeps (.cx :: .hi :: eventParts) s x0 := by
    unfold x0
    refine (loadPlace_keeps ..).step (by decide) ?_
    exact Keeps.refl _ _
  split
  · refine (loadDone_keeps ..).step (by decide) ?_
    exact h1
  · extract_lets -merge +onlyGivenNames x2
    extract_lets -merge +onlyGivenNames x3
    have h4 : Keeps (.cx :: .hi :: eventParts) s x3 := by
      refine Keeps.cx ?_ (by decide)
      exact h1
    refine (raise_keeps ..).step (by decide) ?_
    refine (updSlot_keeps ..).step (by decide) ?_
    exact h4

theorem keyLoadBody_keeps (d : DescBytes) (m : MemRead) (fault : Option (Fin 4)) (r id : Nat) (s : State) :
    Keeps (.cx :: .hi :: .freeCtr :: eventParts) s (keyLoadBody d m fault r id s) := by
  unfold keyLoadBody
  refine Keeps.ite ?_ ?_
  · refine (finish_keeps ..).step (by decide) ?_
    exact Keeps.refl _ _
  · refine Keeps.ite ?_ ?_
    · refine (finish_keeps ..).step (by decide) ?_
      exact Keeps.refl _ _
    · refine withData_keeps (by decide) ?_ ?_
      · intro _ u0 hu1
        try beta_reduce
        extract_lets -merge +onlyGivenNames x2
        refine Keeps.ite ?_ ?_
        · refine (loadTry_keeps ..).step (by decide) ?_
          exact hu1
        · refine Keeps.cx ?_ (by decide)
          exact hu1
      · exact Keeps.refl _ _

theorem execCxKeyLoad_keeps (r : Fin 16) (d : DescBytes) (m : MemRead) (fault : Option (Fin 4)) (s : State) {s₁ : State}
    (h : execCxKeyLoad r d m fault s = .next s₁) : Keeps (.cx :: .hi :: .freeCtr :: eventParts) s s₁ := by
  unfold execCxKeyLoad at h
  refine run_keeps (by decide) (fun u hu => ?_) h
  refine descRow_keeps (by decide) ?_ ?_
  · intro _ u0 hu1
    try beta_reduce
    refine (keyLoadBody_keeps ..).step (by decide) ?_
    exact hu1
  · exact hu

theorem execKeyLoadDone_keeps (slot : Fin 64) (fault : Option (Fin 4)) (s : State) {s₁ : State}
    (h : execKeyLoadDone slot fault s = .next s₁) : Keeps (.cx :: .hi :: eventParts) s s₁ := by
  unfold execKeyLoadDone at h
  refine run_keeps (by decide) (fun u hu => ?_) h
  try beta_reduce
  split
  · refine Keeps.ite ?_ ?_
    · refine (loadTry_keeps ..).step (by decide) ?_
      exact hu
    · exact hu
  · exact hu

theorem execCxKeyUnload_keeps (r : Fin 16) (d : DescBytes) (s : State) {s₁ : State}
    (h : execCxKeyUnload r d s = .next s₁) : Keeps ([.cx, .hi, .lg]) s s₁ := by
  unfold execCxKeyUnload at h
  refine run_keeps (by decide) (fun u hu => ?_) h
  refine descRow_keeps (by decide) ?_ ?_
  · intro _ u0 hu1
    try beta_reduce
    refine Keeps.ite ?_ ?_
    · refine (finish_keeps ..).step (by decide) ?_
      exact hu1
    · refine (updSlot_keeps ..).step (by decide) ?_
      exact hu1
  · exact hu

theorem forgetGroup_keeps (i : Nat) (s : State) :
    Keeps ([.cx]) s (forgetGroup i s) := by
  unfold forgetGroup
  refine Keeps.cx ?_ (by decide)
  exact Keeps.refl _ _

theorem execKeyUnloadDone_keeps (slot : Fin 64) (s : State) {s₁ : State}
    (h : execKeyUnloadDone slot s = .next s₁) : Keeps ([.cx, .hi, .lg]) s s₁ := by
  unfold execKeyUnloadDone at h
  refine run_keeps (by decide) (fun u hu => ?_) h
  try beta_reduce
  extract_lets -merge +onlyGivenNames x0
  split
  · exact hu
  · refine Keeps.ite ?_ ?_
    · extract_lets -merge +onlyGivenNames x1
      have h2 : Keeps ([.cx, .hi, .lg]) s x1 := by
        refine Keeps.ite ?_ ?_
        · exact hu
        · refine (dropKeyLedger_keeps ..).step (by decide) ?_
          exact hu
      refine Keeps.foldl ?_ (fun u3 _ hu4 => ?_)
      · refine (forgetGroup_keeps ..).step (by decide) ?_
        refine (clearSlot_keeps ..).step (by decide) ?_
        exact h2
      · try beta_reduce
        refine (finish_keeps ..).step (by decide) ?_
        exact hu4
    · exact hu

theorem execCxRekey_keeps (r : Fin 16) (d : DescBytes) (s : State) {s₁ : State}
    (h : execCxRekey r d s = .next s₁) : Keeps (.air :: .line :: .lt :: .ltx :: .cx :: .hi :: .freeCtr :: eventParts) s s₁ := by
  unfold execCxRekey at h
  refine run_keeps (by decide) (fun u hu => ?_) h
  refine descRow_keeps (by decide) ?_ ?_
  · intro _ u0 hu1
    try beta_reduce
    extract_lets -merge +onlyGivenNames x2 x3
    refine Keeps.ite ?_ ?_
    · refine (finish_keeps ..).step (by decide) ?_
      exact hu1
    · refine Keeps.ite ?_ ?_
      · refine (finish_keeps ..).step (by decide) ?_
        exact hu1
      · refine Keeps.ite ?_ ?_
        · refine (finish_keeps ..).step (by decide) ?_
          refine (startRekey_keeps ..).step (by decide) ?_
          exact hu1
        · refine (finish_keeps ..).step (by decide) ?_
          exact hu1
  · exact hu

theorem execTicketUnwrap_keeps (leaf : BitVec 12) (s : State) {s₁ : State}
    (h : execTicketUnwrap leaf s = .next s₁) : Keeps (.air :: .line :: .lt :: .ltx :: .slp :: .tex :: .cx :: .hi :: .freeCtr :: eventParts) s s₁ := by
  unfold execTicketUnwrap at h
  refine run_keeps (by decide) (fun u hu => ?_) h
  try beta_reduce
  split
  · exact hu
  · refine Keeps.ite ?_ ?_
    · split
      · rename_i v0 e2
        have hv1 : Keeps (.air :: .line :: .lt :: .ltx :: .slp :: .tex :: .cx :: .hi :: .freeCtr :: eventParts) s v0 := by
          refine Keeps.snd e2 ?_
          refine (leafKey_keeps ..).step (by decide) ?_
          exact hu
        clear e2
        refine (sealFailed_keeps ..).step (by decide) ?_
        exact hv1
      · rename_i v3 v4 _ e6
        have hv5 : Keeps (.air :: .line :: .lt :: .ltx :: .slp :: .tex :: .cx :: .hi :: .freeCtr :: eventParts) s v4 := by
          refine Keeps.snd e6 ?_
          refine (leafKey_keeps ..).step (by decide) ?_
          exact hu
        clear e6
        exact hv5
    · exact hu

theorem cxFaultWrite_keeps (v : Word) (s : State) :
    Keeps (.cx :: .hi :: .freeCtr :: eventParts) s (cxFaultWrite v s) := by
  unfold cxFaultWrite
  extract_lets -merge +onlyGivenNames x0 x1
  extract_lets -merge +onlyGivenNames x2
  have h3 : Keeps (.cx :: .hi :: .freeCtr :: eventParts) s x2 := by
    refine Keeps.cx ?_ (by decide)
    exact Keeps.refl _ _
  refine Keeps.ite ?_ ?_
  · extract_lets -merge +onlyGivenNames x4
    extract_lets -merge +onlyGivenNames x5
    have h6 : Keeps (.cx :: .hi :: .freeCtr :: eventParts) s x5 := by
      unfold x5
      refine (raise_keeps ..).step (by decide) ?_
      refine (updSlot_keeps ..).step (by decide) ?_
      exact h3
    extract_lets -merge +onlyGivenNames x7
    have h8 : Keeps (.cx :: .hi :: .freeCtr :: eventParts) s x7 := by
      unfold x7
      split
      · refine (loadDone_keeps ..).step (by decide) ?_
        exact h6
      · exact h6
    refine (dispatchAll_keeps ..).step (by decide) ?_
    exact h8
  · exact h3

theorem execFaultHoldClear_keeps (v : Word) (s : State) {s₁ : State}
    (h : execFaultHoldClear v s = .next s₁) : Keeps (.slp :: .cx :: .hi :: .pwr :: .freeCtr :: eventParts) s s₁ := by
  unfold execFaultHoldClear at h
  refine runHost_keeps (by decide) (fun u hu => ?_) h
  refine (cxFaultWrite_keeps ..).step (by decide) ?_
  exact hu

theorem coreReset_keeps (byHost : Bool) (c : Nat) (s : State) :
    Keeps (.cx :: .hi :: .freeCtr :: eventParts) s (coreReset byHost c s) := by
  unfold coreReset
  extract_lets -merge +onlyGivenNames x0
  extract_lets -merge +onlyGivenNames x1
  have h2 : Keeps (.cx :: .hi :: .freeCtr :: eventParts) s x1 := by
    unfold x1
    refine (updCore_keeps ..).step (by decide) ?_
    exact Keeps.refl _ _
  extract_lets -merge +onlyGivenNames x3
  extract_lets -merge +onlyGivenNames x4
  have h5 : Keeps (.cx :: .hi :: .freeCtr :: eventParts) s x4 := by
    unfold x4
    refine (resetBegin_keeps ..).step (by decide) ?_
    exact h2
  extract_lets -merge +onlyGivenNames x6
  have h7 : Keeps (.cx :: .hi :: .freeCtr :: eventParts) s x6 := by
    unfold x6
    clear_value  x0
    split
    · refine (endJob_keeps ..).step (by decide) ?_
      exact h5
    · exact h5
  refine (resetsSettle_keeps ..).step (by decide) ?_
  refine (dispatchAll_keeps ..).step (by decide) ?_
  refine (noCoreCheck_keeps ..).step (by decide) ?_
  exact h7

theorem coreEnables_keeps (en : BitVec 4) (s : State) :
    Keeps (.cx :: .freeCtr :: eventParts) s (coreEnables en s) := by
  unfold coreEnables
  extract_lets -merge +onlyGivenNames x0
  extract_lets -merge +onlyGivenNames x1
  have h2 : Keeps (.cx :: .freeCtr :: eventParts) s x1 := by
    refine Keeps.cx ?_ (by decide)
    exact Keeps.refl _ _
  extract_lets -merge +onlyGivenNames x3
  have h4 : Keeps (.cx :: .freeCtr :: eventParts) s x3 := by
    unfold x3
    refine Keeps.foldl ?_ (fun u5 _ hu6 => ?_)
    · exact h2
    · try beta_reduce
      extract_lets -merge +onlyGivenNames x7
      refine Keeps.ite ?_ ?_
      · refine (updCore_keeps ..).step (by decide) ?_
        exact hu6
      · exact hu6
  refine (dispatchAll_keeps ..).step (by decide) ?_
  refine (noCoreCheck_keeps ..).step (by decide) ?_
  exact h4

theorem cxCoreWrite_keeps (v : Word) (s : State) :
    Keeps (.cx :: .hi :: .freeCtr :: eventParts) s (cxCoreWrite v s) := by
  unfold cxCoreWrite
  extract_lets -merge +onlyGivenNames x0
  have h1 : Keeps (.cx :: .hi :: .freeCtr :: eventParts) s x0 := by
    unfold x0
    refine (coreEnables_keeps ..).step (by decide) ?_
    exact Keeps.refl _ _
  refine Keeps.foldl ?_ (fun u2 _ hu3 => ?_)
  · exact h1
  · try beta_reduce
    refine Keeps.ite ?_ ?_
    · refine (coreReset_keeps ..).step (by decide) ?_
      exact hu3
    · exact hu3

theorem cxCoreHost_keeps (v : Word) (s : State) :
    Keeps (.cx :: .hi :: .freeCtr :: eventParts) s (cxCoreHost v s) := by
  unfold cxCoreHost
  refine Keeps.foldl ?_ (fun u0 _ hu1 => ?_)
  · refine (cxCoreWrite_keeps ..).step (by decide) ?_
    exact Keeps.refl _ _
  · try beta_reduce
    refine (hostWrote_keeps ..).step (by decide) ?_
    exact hu1

theorem execCoreReset_keeps (v : Word) (s : State) {s₁ : State}
    (h : execCoreReset v s = .next s₁) : Keeps (.slp :: .cx :: .hi :: .pwr :: .freeCtr :: eventParts) s s₁ := by
  unfold execCoreReset at h
  refine runHost_keeps (by decide) (fun u hu => ?_) h
  refine (cxCoreHost_keeps ..).step (by decide) ?_
  exact hu

theorem execCoreDisable_keeps (v : Word) (s : State) {s₁ : State}
    (h : execCoreDisable v s = .next s₁) : Keeps (.slp :: .cx :: .hi :: .pwr :: .freeCtr :: eventParts) s s₁ := by
  unfold execCoreDisable at h
  refine runHost_keeps (by decide) (fun u hu => ?_) h
  refine (cxCoreHost_keeps ..).step (by decide) ?_
  exact hu

theorem execCoreSelfTestDone_keeps (core : Fin 4) (pass : Bool) (s : State) {s₁ : State}
    (h : execCoreSelfTestDone core pass s = .next s₁) : Keeps (.cx :: .freeCtr :: eventParts) s s₁ := by
  unfold execCoreSelfTestDone at h
  refine run_keeps (by decide) (fun u hu => ?_) h
  try beta_reduce
  refine Keeps.ite ?_ ?_
  · refine Keeps.ite ?_ ?_
    · extract_lets -merge +onlyGivenNames x0
      have h1 : Keeps (.cx :: .freeCtr :: eventParts) s x0 := by
        unfold x0
        refine (updCore_keeps ..).step (by decide) ?_
        exact hu
      refine (dispatchAll_keeps ..).step (by decide) ?_
      refine (noCoreCheck_keeps ..).step (by decide) ?_
      refine (raise_keeps ..).step (by decide) ?_
      exact h1
    · split
      rename_i v2 v3 e5
      have hv4 : Keeps (.cx :: .freeCtr :: eventParts) s v3 := by
        refine Keeps.snd e5 ?_
        refine (draw_keeps ..).step (by decide) ?_
        exact hu
      clear e5
      split
      rename_i v6 v7 e9
      have hv8 : Keeps (.cx :: .freeCtr :: eventParts) s v7 := by
        refine Keeps.snd e9 ?_
        refine (draw_keeps ..).step (by decide) ?_
        exact hv4
      clear e9
      extract_lets -merge +onlyGivenNames x10
      have h11 : Keeps (.cx :: .freeCtr :: eventParts) s x10 := by
        unfold x10
        refine (updCore_keeps ..).step (by decide) ?_
        exact hv8
      refine (raise_keeps ..).step (by decide) ?_
      exact h11
  · exact hu

theorem slotSelect_keeps (v : Word) (s : State) :
    Keeps ([.cx, .freeCtr]) s (slotSelect v s) := by
  unfold slotSelect
  extract_lets -merge +onlyGivenNames x0 x1
  extract_lets -merge +onlyGivenNames x2
  have h3 : Keeps ([.cx, .freeCtr]) s x2 := by
    refine Keeps.cx ?_ (by decide)
    exact Keeps.refl _ _
  refine Keeps.ite ?_ ?_
  · extract_lets -merge +onlyGivenNames x4 x5 x6 x7
    refine Keeps.cx ?_ (by decide)
    exact h3
  · refine Keeps.ite ?_ ?_
    · extract_lets -merge +onlyGivenNames x8
      split
      · extract_lets -merge +onlyGivenNames x9
        refine Keeps.cx ?_ (by decide)
        exact h3
    · split
      rename_i v10 v11 e13
      have hv12 : Keeps ([.cx, .freeCtr]) s v11 := by
        refine Keeps.snd e13 ?_
        refine (draw_keeps ..).step (by decide) ?_
        exact h3
      clear e13
      split
      rename_i v14 v15 e17
      have hv16 : Keeps ([.cx, .freeCtr]) s v15 := by
        refine Keeps.snd e17 ?_
        refine (draw_keeps ..).step (by decide) ?_
        exact hv12
      clear e17
      split
      rename_i v18 v19 e21
      have hv20 : Keeps ([.cx, .freeCtr]) s v19 := by
        refine Keeps.snd e21 ?_
        refine (draw_keeps ..).step (by decide) ?_
        exact hv16
      clear e21
      refine Keeps.cx ?_ (by decide)
      exact hv20

theorem execSlotSelect_keeps (v : Word) (s : State) {s₁ : State}
    (h : execSlotSelect v s = .next s₁) : Keeps ([.slp, .cx, .pwr, .freeCtr]) s s₁ := by
  unfold execSlotSelect at h
  refine runHost_keeps (by decide) (fun u hu => ?_) h
  refine (slotSelect_keeps ..).step (by decide) ?_
  exact hu

theorem cxCtrlWrite_keeps (v : Word) (s : State) :
    Keeps ([.cx]) s (cxCtrlWrite v s) := by
  unfold cxCtrlWrite
  refine Keeps.cx ?_ (by decide)
  exact Keeps.refl _ _

theorem cxLimLeafWrite_keeps (v : Word) (s : State) :
    Keeps ([.cx]) s (cxLimLeafWrite v s) := by
  unfold cxLimLeafWrite
  refine Keeps.cx ?_ (by decide)
  exact Keeps.refl _ _

theorem cxLimNetWrite_keeps (v : Word) (s : State) :
    Keeps ([.cx]) s (cxLimNetWrite v s) := by
  unfold cxLimNetWrite
  refine Keeps.cx ?_ (by decide)
  exact Keeps.refl _ _

theorem cxTamper_keeps (s : State) :
    Keeps ([.cx, .hi, .lg]) s (cxTamper s).2 := by
  unfold cxTamper
  extract_lets -merge +onlyGivenNames x0 x1 x2 x3 x4
  extract_lets -merge +onlyGivenNames x5
  have h6 : Keeps ([.cx, .hi, .lg]) s x5 := by
    refine Keeps.cx ?_ (by decide)
    exact Keeps.refl _ _
  extract_lets -merge +onlyGivenNames x7
  have h8 : Keeps ([.cx, .hi, .lg]) s x7 := by
    unfold x7
    refine Keeps.foldl ?_ (fun u9 _ hu10 => ?_)
    · exact h6
    · try beta_reduce
      refine (updCore_keeps ..).step (by decide) ?_
      exact hu10
  extract_lets -merge +onlyGivenNames x11
  have h12 : Keeps ([.cx, .hi, .lg]) s x11 := by
    unfold x11
    refine Keeps.foldl ?_ (fun u13 _ hu14 => ?_)
    · exact h8
    · try beta_reduce
      refine (endJob_keeps ..).step (by decide) ?_
      exact hu14
  extract_lets -merge +onlyGivenNames x15
  have h16 : Keeps ([.cx, .hi, .lg]) s x15 := by
    unfold x15
    refine Keeps.foldl ?_ (fun u17 _ hu18 => ?_)
    · exact h12
    · try beta_reduce
      refine (finish_keeps ..).step (by decide) ?_
      exact hu18
  try with_reducible refine Keeps.mk ?_
  exact h16

/-! ### Machine/Cv.lean -/

theorem updCv_keeps (c : Nat) (f : CvCh → CvCh) (s : State) :
    Keeps ([.cv]) s (updCv c f s) := by
  unfold updCv
  refine Keeps.cv ?_ (by decide)
  exact Keeps.refl _ _

theorem cvRefuse_keeps (c cause : Nat) (s : State) :
    Keeps ([.cv]) s (cvRefuse c cause s) := by
  unfold cvRefuse
  refine Keeps.cv ?_ (by decide)
  exact Keeps.refl _ _

theorem cvCfg_keeps (c : Nat) (balton : Bool) (v : Word) (s : State) :
    Keeps ([.cv]) s (cvCfg c balton v s) := by
  unfold cvCfg
  extract_lets -merge +onlyGivenNames x0 x1
  refine Keeps.ite ?_ ?_
  · refine Keeps.ite ?_ ?_
    · exact Keeps.refl _ _
    · refine (cvRefuse_keeps ..).step (by decide) ?_
      exact Keeps.refl _ _
  · refine Keeps.ite ?_ ?_
    · refine Keeps.ite ?_ ?_
      · refine (cvRefuse_keeps ..).step (by decide) ?_
        exact Keeps.refl _ _
      · refine Keeps.ite ?_ ?_
        · refine (cvRefuse_keeps ..).step (by decide) ?_
          exact Keeps.refl _ _
        · refine (updCv_keeps ..).step (by decide) ?_
          exact Keeps.refl _ _
    · split
      · refine (updCv_keeps ..).step (by decide) ?_
        exact Keeps.refl _ _

theorem cvParam_keeps (c : Nat) (balton : Bool) (r : CvReg) (v : Word) (s : State) :
    Keeps ([.cv]) s (cvParam c balton r v s) := by
  unfold cvParam
  refine Keeps.ite ?_ ?_
  · refine Keeps.ite ?_ ?_
    · exact Keeps.refl _ _
    · refine (cvRefuse_keeps ..).step (by decide) ?_
      exact Keeps.refl _ _
  · refine (updCv_keeps ..).step (by decide) ?_
    exact Keeps.refl _ _

theorem cvData_keeps (c : Nat) (be : BitVec 4) (v : Word) (s : State) :
    Keeps ([.cv]) s (cvData c be v s) := by
  unfold cvData
  refine Keeps.ite ?_ ?_
  · refine (updCv_keeps ..).step (by decide) ?_
    exact Keeps.refl _ _
  · exact Keeps.refl _ _

theorem cvCtl_keeps (c : Nat) (v : Word) (s : State) :
    Keeps ([.cv]) s (cvCtl c v s) := by
  unfold cvCtl
  refine Keeps.ite ?_ ?_
  · refine (updCv_keeps ..).step (by decide) ?_
    exact Keeps.refl _ _
  · exact Keeps.refl _ _

theorem cvStateSet_keeps (c : Nat) (v : Word) (s : State) :
    Keeps ([.cv]) s (cvStateSet c v s) := by
  unfold cvStateSet
  refine Keeps.ite ?_ ?_
  · refine (updCv_keeps ..).step (by decide) ?_
    exact Keeps.refl _ _
  · exact Keeps.refl _ _

theorem cvStatusWrite_keeps (v : Word) (s : State) :
    Keeps ([.cv]) s (cvStatusWrite v s) := by
  unfold cvStatusWrite
  refine Keeps.cv ?_ (by decide)
  exact Keeps.refl _ _

theorem cvHostReset_keeps (s : State) :
    Keeps ([.cv]) s (cvHostReset s) := by
  unfold cvHostReset
  refine Keeps.cv ?_ (by decide)
  exact Keeps.refl _ _

theorem execCvCfgWrite_keeps (c : Fin 8) (v : Word) (s : State) {s₁ : State}
    (h : execCvCfgWrite c v s = .next s₁) : Keeps ([.slp, .cv, .pwr]) s s₁ := by
  unfold execCvCfgWrite at h
  refine runHost_keeps (by decide) (fun u hu => ?_) h
  refine (cvCfg_keeps ..).step (by decide) ?_
  exact hu

theorem execCvParamWrite_keeps (c : Fin 8) (r : CvReg) (v : Word) (s : State) {s₁ : State}
    (h : execCvParamWrite c r v s = .next s₁) : Keeps ([.slp, .cv, .pwr]) s s₁ := by
  unfold execCvParamWrite at h
  refine runHost_keeps (by decide) (fun u hu => ?_) h
  refine (cvParam_keeps ..).step (by decide) ?_
  exact hu

theorem execCvDataWrite_keeps (c : Fin 8) (be : BitVec 4) (v : Word) (s : State) {s₁ : State}
    (h : execCvDataWrite c be v s = .next s₁) : Keeps ([.slp, .cv, .pwr]) s s₁ := by
  unfold execCvDataWrite at h
  refine runHost_keeps (by decide) (fun u hu => ?_) h
  refine (cvData_keeps ..).step (by decide) ?_
  exact hu

theorem execCvRestart_keeps (c : Fin 8) (v : Word) (s : State) {s₁ : State}
    (h : execCvRestart c v s = .next s₁) : Keeps ([.slp, .cv, .pwr]) s s₁ := by
  unfold execCvRestart at h
  refine runHost_keeps (by decide) (fun u hu => ?_) h
  refine (cvCtl_keeps ..).step (by decide) ?_
  exact hu

theorem execCvStateWrite_keeps (c : Fin 8) (v : Word) (s : State) {s₁ : State}
    (h : execCvStateWrite c v s = .next s₁) : Keeps ([.slp, .cv, .pwr]) s s₁ := by
  unfold execCvStateWrite at h
  refine runHost_keeps (by decide) (fun u hu => ?_) h
  refine (cvStateSet_keeps ..).step (by decide) ?_
  exact hu

theorem execCvResultRead_keeps (c : Fin 8) (r : CvRead) (s : State) {s₁ : State}
    (h : execCvResultRead c r s = .next s₁) : Keeps ([.slp, .pwr, .answer]) s s₁ := by
  unfold execCvResultRead at h
  refine runHost_keeps (by decide) (fun u hu => ?_) h
  try beta_reduce
  refine Keeps.answer ?_ (by decide)
  exact hu

/-! ### Machine/Hi.lean -/

theorem hiRefuse_keeps (cause : Nat) (cq : Bool) (ring : Nat) (s : State) :
    Keeps (.hi :: eventParts) s (hiRefuse cause cq ring s) := by
  unfold hiRefuse
  refine (raise_keeps ..).step (by decide) ?_
  refine Keeps.hi ?_ (by decide)
  exact Keeps.refl _ _

theorem sqBaseWrite_keeps (n : Nat) (base : BitVec 64) (s : State) :
    Keeps (.hi :: eventParts) s (sqBaseWrite n base s) := by
  unfold sqBaseWrite
  refine Keeps.ite ?_ ?_
  · refine (updSq_keeps ..).step (by decide) ?_
    exact Keeps.refl _ _
  · refine (hiRefuse_keeps ..).step (by decide) ?_
    exact Keeps.refl _ _

theorem cqBaseWrite_keeps (m : Nat) (base : BitVec 64) (s : State) :
    Keeps (.hi :: eventParts) s (cqBaseWrite m base s) := by
  unfold cqBaseWrite
  refine Keeps.ite ?_ ?_
  · refine (updCq_keeps ..).step (by decide) ?_
    exact Keeps.refl _ _
  · refine (hiRefuse_keeps ..).step (by decide) ?_
    exact Keeps.refl _ _

theorem sqStop_keeps (n : Nat) (s : State) :
    Keeps ([.hi]) s (sqStop n s) := by
  unfold sqStop
  refine (updSq_keeps ..).step (by decide) ?_
  exact Keeps.refl _ _

theorem sqCfgWrite_keeps (n : Nat) (v : Word) (s : State) :
    Keeps (.hi :: eventParts) s (sqCfgWrite n v s) := by
  unfold sqCfgWrite
  extract_lets -merge +onlyGivenNames x0 x1
  refine Keeps.ite ?_ ?_
  · refine Keeps.ite ?_ ?_
    · refine (sqStop_keeps ..).step (by decide) ?_
      refine (updSq_keeps ..).step (by decide) ?_
      exact Keeps.refl _ _
    · refine (hiRefuse_keeps ..).step (by decide) ?_
      exact Keeps.refl _ _
  · refine Keeps.ite ?_ ?_
    · split
      · refine (hiRefuse_keeps ..).step (by decide) ?_
        exact Keeps.refl _ _
      · refine (updSq_keeps ..).step (by decide) ?_
        exact Keeps.refl _ _
    · refine (updSq_keeps ..).step (by decide) ?_
      exact Keeps.refl _ _

theorem cqDisable_keeps (m : Nat) (s : State) :
    Keeps ([.hi, .lg]) s (cqDisable m s) := by
  unfold cqDisable
  refine (giveAll_keeps ..).step (by decide) ?_
  refine (updCq_keeps ..).step (by decide) ?_
  exact Keeps.refl _ _

theorem cqCfgWrite_keeps (m : Nat) (v : Word) (s : State) :
    Keeps (.hi :: eventParts) s (cqCfgWrite m v s) := by
  unfold cqCfgWrite
  extract_lets -merge +onlyGivenNames x0 x1
  refine Keeps.ite ?_ ?_
  · refine Keeps.ite ?_ ?_
    · refine (hiRefuse_keeps ..).step (by decide) ?_
      exact Keeps.refl _ _
    · refine Keeps.ite ?_ ?_
      · refine (hiRefuse_keeps ..).step (by decide) ?_
        exact Keeps.refl _ _
      · refine (cqDisable_keeps ..).step (by decide) ?_
        refine (updCq_keeps ..).step (by decide) ?_
        exact Keeps.refl _ _
  · refine Keeps.ite ?_ ?_
    · split
      · refine (hiRefuse_keeps ..).step (by decide) ?_
        exact Keeps.refl _ _
      · refine (updCq_keeps ..).step (by decide) ?_
        exact Keeps.refl _ _
    · refine (updCq_keeps ..).step (by decide) ?_
      exact Keeps.refl _ _

theorem ringCfgWrite_keeps (k : RingKind) (n : Nat) (v : Word) (s : State) :
    Keeps (.hi :: eventParts) s (ringCfgWrite k n v s) := by
  unfold ringCfgWrite
  split
  · refine (sqCfgWrite_keeps ..).step (by decide) ?_
    exact Keeps.refl _ _
  · refine (cqCfgWrite_keeps ..).step (by decide) ?_
    exact Keeps.refl _ _

theorem execRingEnable_keeps (k : RingKind) (n : Fin 16) (v : Word) (s : State) {s₁ : State}
    (h : execRingEnable k n v s = .next s₁) : Keeps (.slp :: .hi :: .pwr :: eventParts) s s₁ := by
  unfold execRingEnable at h
  refine runHost_keeps (by decide) (fun u hu => ?_) h
  refine (ringCfgWrite_keeps ..).step (by decide) ?_
  exact hu

theorem execRingDisable_keeps (k : RingKind) (n : Fin 16) (v : Word) (s : State) {s₁ : State}
    (h : execRingDisable k n v s = .next s₁) : Keeps (.slp :: .hi :: .pwr :: eventParts) s s₁ := by
  unfold execRingDisable at h
  refine runHost_keeps (by decide) (fun u hu => ?_) h
  refine (ringCfgWrite_keeps ..).step (by decide) ?_
  exact hu

theorem hiStatusWrite_keeps (v : Word) (s : State) :
    Keeps ([.hi]) s (hiStatusWrite v s) := by
  unfold hiStatusWrite
  refine Keeps.hi ?_ (by decide)
  exact Keeps.refl _ _

theorem ringFault_keeps (cq : Bool) (r fcause v : Nat) (s : State) :
    Keeps (eventParts) s (ringFault cq r fcause v s) := by
  unfold ringFault
  refine (raise_keeps ..).step (by decide) ?_
  exact Keeps.refl _ _

theorem sqBell_keeps (n : Nat) (v : Word) (s : State) :
    Keeps (.hi :: eventParts) s (sqBell n v s) := by
  unfold sqBell
  extract_lets -merge +onlyGivenNames x0 x1 x2
  refine Keeps.ite ?_ ?_
  · exact Keeps.refl _ _
  · refine Keeps.ite ?_ ?_
    · refine (updSq_keeps ..).step (by decide) ?_
      exact Keeps.refl _ _
    · refine (ringFault_keeps ..).step (by decide) ?_
      refine (updSq_keeps ..).step (by decide) ?_
      exact Keeps.refl _ _

theorem cqBell_keeps (m : Nat) (v : Word) (s : State) :
    Keeps (.hi :: eventParts) s (cqBell m v s) := by
  unfold cqBell
  extract_lets -merge +onlyGivenNames x0 x1 x2
  refine Keeps.ite ?_ ?_
  · exact Keeps.refl _ _
  · refine Keeps.ite ?_ ?_
    · extract_lets -merge +onlyGivenNames x3
      extract_lets -merge +onlyGivenNames x4
      have h5 : Keeps (.hi :: eventParts) s x4 := by
        unfold x4
        refine (updCq_keeps ..).step (by decide) ?_
        exact Keeps.refl _ _
      refine (cqNotify_keeps ..).step (by decide) ?_
      refine (giveBack_keeps ..).step (by decide) ?_
      exact h5
    · refine (ringFault_keeps ..).step (by decide) ?_
      refine (updCq_keeps ..).step (by decide) ?_
      exact Keeps.refl _ _

theorem execSqDoorbell_keeps (n : Fin 16) (v : Word) (s : State) {s₁ : State}
    (h : execSqDoorbell n v s = .next s₁) : Keeps (.slp :: .hi :: .pwr :: eventParts) s s₁ := by
  unfold execSqDoorbell at h
  refine runHost_keeps (by decide) (fun u hu => ?_) h
  refine (sqBell_keeps ..).step (by decide) ?_
  exact hu

theorem execCqDoorbell_keeps (m : Fin 16) (v : Word) (s : State) {s₁ : State}
    (h : execCqDoorbell m v s = .next s₁) : Keeps (.slp :: .hi :: .pwr :: eventParts) s s₁ := by
  unfold execCqDoorbell at h
  refine runHost_keeps (by decide) (fun u hu => ?_) h
  refine (cqBell_keeps ..).step (by decide) ?_
  exact hu

theorem execCqDelayExpiry_keeps (m : Fin 16) (s : State) {s₁ : State}
    (h : execCqDelayExpiry m s = .next s₁) : Keeps (.hi :: eventParts) s s₁ := by
  unfold execCqDelayExpiry at h
  refine run_keeps (by decide) (fun u hu => ?_) h
  try beta_reduce
  extract_lets -merge +onlyGivenNames x0
  refine Keeps.ite ?_ ?_
  · refine (cqFire_keeps ..).step (by decide) ?_
    exact hu
  · exact hu

theorem execNop_keeps (r : Fin 16) (d : DescBytes) (s : State) {s₁ : State}
    (h : execNop r d s = .next s₁) : Keeps ([.hi, .lg]) s s₁ := by
  unfold execNop at h
  refine run_keeps (by decide) (fun u hu => ?_) h
  refine descRow_keeps (by decide) ?_ ?_
  · intro _ u0 hu1
    try beta_reduce
    refine (finish_keeps ..).step (by decide) ?_
    exact hu1
  · exact hu

theorem execUnknownOpcode_keeps (r : Fin 16) (d : DescBytes) (s : State) {s₁ : State}
    (h : execUnknownOpcode r d s = .next s₁) : Keeps ([.hi, .lg]) s s₁ := by
  unfold execUnknownOpcode at h
  refine run_keeps (by decide) (fun u hu => ?_) h
  refine descRow_keeps (by decide) ?_ ?_
  · intro _ u0 hu1
    try beta_reduce
    exact hu1
  · exact hu

theorem execDescriptorReadError_keeps (r : Fin 16) (s : State) {s₁ : State}
    (h : execDescriptorReadError r s = .next s₁) : Keeps (.hi :: eventParts) s s₁ := by
  unfold execDescriptorReadError at h
  refine run_keeps (by decide) (fun u hu => ?_) h
  try beta_reduce
  refine Keeps.ite ?_ ?_
  · refine (ringFault_keeps ..).step (by decide) ?_
    refine (updSq_keeps ..).step (by decide) ?_
    exact hu
  · exact hu

theorem execRxPost_keeps (r : Fin 16) (d : DescBytes) (s : State) {s₁ : State}
    (h : execRxPost r d s = .next s₁) : Keeps (.dma :: .hi :: .freeCtr :: eventParts) s s₁ := by
  unfold execRxPost at h
  refine run_keeps (by decide) (fun u hu => ?_) h
  refine descRow_keeps (by decide) ?_ ?_
  · intro _ u0 hu1
    try beta_reduce
    refine Keeps.ite ?_ ?_
    · refine (finish_keeps ..).step (by decide) ?_
      exact hu1
    · extract_lets -merge +onlyGivenNames x2
      refine (rxFillAll_keeps ..).step (by decide) ?_
      refine Keeps.hi ?_ (by decide)
      exact hu1
  · exact hu

theorem lineTx_keeps (r id : Nat) (d : DescBytes) (m : MemRead) (s : State) :
    Keeps (.air :: .line :: .lt :: .ltx :: .hi :: .freeCtr :: eventParts) s (lineTx r id d m s) := by
  unfold lineTx
  extract_lets -merge +onlyGivenNames x0
  refine Keeps.ite ?_ ?_
  · refine (finish_keeps ..).step (by decide) ?_
    exact Keeps.refl _ _
  · refine Keeps.ite ?_ ?_
    · refine (finish_keeps ..).step (by decide) ?_
      exact Keeps.refl _ _
    · refine Keeps.ite ?_ ?_
      · refine (finish_keeps ..).step (by decide) ?_
        exact Keeps.refl _ _
      · extract_lets -merge +onlyGivenNames x1
        have h2 : ∀ u3, ∀ u4, Keeps (.air :: .line :: .lt :: .ltx :: .hi :: .freeCtr :: eventParts) s u4 → Keeps (.air :: .line :: .lt :: .ltx :: .hi :: .freeCtr :: eventParts) s (x1 u3 u4) := by
          intro u3 u4 hu5
          unfold x1
          try beta_reduce
          extract_lets -merge +onlyGivenNames x6
          have h7 : Keeps (.air :: .line :: .lt :: .ltx :: .hi :: .freeCtr :: eventParts) s x6 := by
            unfold x6
            refine (takeBuf_keeps ..).step (by decide) ?_
            exact hu5
          extract_lets -merge +onlyGivenNames x8 x9
          extract_lets -merge +onlyGivenNames x10
          have h11 : Keeps (.air :: .line :: .lt :: .ltx :: .hi :: .freeCtr :: eventParts) s x10 := by
            unfold x10
            refine (submit_keeps ..).step (by decide) ?_
            exact h7
          refine Keeps.ite ?_ ?_
          · refine (contend_keeps ..).step (by decide) ?_
            exact h11
          · refine (sweepLeaf_keeps ..).step (by decide) ?_
            exact h11
        refine Keeps.ite ?_ ?_
        · refine h2 _ _ ?_
          exact Keeps.refl _ _
        · refine withData_keeps (by decide) ?_ ?_
          · intro _ u12 hu13
            try beta_reduce
            refine h2 _ _ ?_
            exact hu13
          · exact Keeps.refl _ _

theorem execLineTx_keeps (r : Fin 16) (d : DescBytes) (m : MemRead) (s : State) {s₁ : State}
    (h : execLineTx r d m s = .next s₁) : Keeps (.air :: .line :: .lt :: .ltx :: .hi :: .freeCtr :: eventParts) s s₁ := by
  unfold execLineTx at h
  refine run_keeps (by decide) (fun u hu => ?_) h
  try beta_reduce
  refine Keeps.ite ?_ ?_
  · refine descRow_keeps (by decide) ?_ ?_
    · intro _ u0 hu1
      try beta_reduce
      refine (lineTx_keeps ..).step (by decide) ?_
      exact hu1
    · exact hu
  · exact hu

theorem takePseq_keeps (n : Nat) (s : State) :
    Keeps ([.lt]) s (takePseq n s).2 := by
  unfold takePseq
  extract_lets -merge +onlyGivenNames x0
  try with_reducible refine Keeps.mk ?_
  refine (updEntry_keeps ..).step (by decide) ?_
  exact Keeps.refl _ _

theorem remoteRead_keeps (r id : Nat) (d : DescBytes) (s : State) :
    Keeps (.air :: .line :: .lt :: .ltx :: .hi :: eventParts) s (remoteRead r id d s) := by
  unfold remoteRead
  split
  · refine (finish_keeps ..).step (by decide) ?_
    exact Keeps.refl _ _
  · refine Keeps.ite ?_ ?_
    · refine (finish_keeps ..).step (by decide) ?_
      exact Keeps.refl _ _
    · extract_lets -merge +onlyGivenNames x0 x1 x2
      refine (sweepLeaf_keeps ..).step (by decide) ?_
      refine (submit_keeps ..).step (by decide) ?_
      exact Keeps.refl _ _

theorem execRemoteRead_keeps (r : Fin 16) (d : DescBytes) (s : State) {s₁ : State}
    (h : execRemoteRead r d s = .next s₁) : Keeps (.air :: .line :: .lt :: .ltx :: .hi :: eventParts) s s₁ := by
  unfold execRemoteRead at h
  refine run_keeps (by decide) (fun u hu => ?_) h
  refine descRow_keeps (by decide) ?_ ?_
  · intro _ u0 hu1
    try beta_reduce
    refine (remoteRead_keeps ..).step (by decide) ?_
    exact hu1
  · exact hu

theorem remoteWrite_keeps (r id : Nat) (d : DescBytes) (m : MemRead) (s : State) :
    Keeps (.air :: .line :: .lt :: .ltx :: .hi :: .freeCtr :: eventParts) s (remoteWrite r id d m s) := by
  unfold remoteWrite
  split
  · refine (finish_keeps ..).step (by decide) ?_
    exact Keeps.refl _ _
  · refine Keeps.ite ?_ ?_
    · refine (finish_keeps ..).step (by decide) ?_
      exact Keeps.refl _ _
    · refine withData_keeps (by decide) ?_ ?_
      · intro _ u0 hu1
        try beta_reduce
        extract_lets -merge +onlyGivenNames x2
        split
        rename_i v3 v4 e6
        have hv5 : Keeps (.air :: .line :: .lt :: .ltx :: .hi :: .freeCtr :: eventParts) s v4 := by
          refine Keeps.snd e6 ?_
          refine Keeps.ite2 ?_ ?_
          · refine (takePseq_keeps ..).step (by decide) ?_
            exact hu1
          · try with_reducible refine Keeps.mk ?_
            exact hu1
        clear e6
        extract_lets -merge +onlyGivenNames x7
        have h8 : Keeps (.air :: .line :: .lt :: .ltx :: .hi :: .freeCtr :: eventParts) s x7 := by
          unfold x7
          refine (takeBuf_keeps ..).step (by decide) ?_
          exact hv5
        extract_lets -merge +onlyGivenNames x9 x10 x11
        refine (pfailSweep_keeps ..).step (by decide) ?_
        refine (sweepLeaf_keeps ..).step (by decide) ?_
        refine (submit_keeps ..).step (by decide) ?_
        exact h8
      · exact Keeps.refl _ _

theorem execRemoteWrite_keeps (r : Fin 16) (d : DescBytes) (m : MemRead) (s : State) {s₁ : State}
    (h : execRemoteWrite r d m s = .next s₁) : Keeps (.air :: .line :: .lt :: .ltx :: .hi :: .freeCtr :: eventParts) s s₁ := by
  unfold execRemoteWrite at h
  refine run_keeps (by decide) (fun u hu => ?_) h
  try beta_reduce
  refine Keeps.ite ?_ ?_
  · refine descRow_keeps (by decide) ?_ ?_
    · intro _ u0 hu1
      try beta_reduce
      refine (remoteWrite_keeps ..).step (by decide) ?_
      exact hu1
    · exact hu
  · exact hu

theorem execRemoteFence_keeps (r : Fin 16) (d : DescBytes) (s : State) {s₁ : State}
    (h : execRemoteFence r d s = .next s₁) : Keeps ([.ltx, .hi, .lg]) s s₁ := by
  unfold execRemoteFence at h
  refine run_keeps (by decide) (fun u hu => ?_) h
  refine descRow_keeps (by decide) ?_ ?_
  · intro _ u0 hu1
    try beta_reduce
    extract_lets -merge +onlyGivenNames x2
    refine Keeps.ite ?_ ?_
    · refine (finish_keeps ..).step (by decide) ?_
      exact hu1
    · refine Keeps.ite ?_ ?_
      · refine (finish_keeps ..).step (by decide) ?_
        exact hu1
      · extract_lets -merge +onlyGivenNames x3 x4
        refine (fencesSettle_keeps ..).step (by decide) ?_
        refine Keeps.ltx ?_ (by decide)
        exact hu1
  · exact hu

theorem ledgerSnap_keeps (r id : Nat) (d : DescBytes) (s : State) :
    Keeps (.dma :: .hi :: .freeCtr :: eventParts) s (ledgerSnap r id d s) := by
  unfold ledgerSnap
  refine Keeps.ite ?_ ?_
  · refine (finish_keeps ..).step (by decide) ?_
    exact Keeps.refl _ _
  · refine Keeps.ite ?_ ?_
    · refine (finish_keeps ..).step (by decide) ?_
      exact Keeps.refl _ _
    · extract_lets -merge +onlyGivenNames x0
      extract_lets -merge +onlyGivenNames x1
      have h2 : Keeps (.dma :: .hi :: .freeCtr :: eventParts) s x1 := by
        refine Keeps.lg ?_ (by decide) (fun h => ⟨h.order, h.balance⟩)
        exact Keeps.refl _ _
      extract_lets -merge +onlyGivenNames x3 x4 x5
      refine withDst_keeps (by decide) ?_ ?_
      · intro u6 hu7
        try beta_reduce
        refine (finish_keeps ..).step (by decide) ?_
        refine (hostWrite_keeps ..).step (by decide) ?_
        refine Keeps.lg ?_ (by decide) (fun h => ⟨h.order, h.balance⟩)
        exact hu7
      · exact Keeps.refl _ _

theorem execLedgerSnap_keeps (r : Fin 16) (d : DescBytes) (s : State) {s₁ : State}
    (h : execLedgerSnap r d s = .next s₁) : Keeps (.dma :: .hi :: .freeCtr :: eventParts) s s₁ := by
  unfold execLedgerSnap at h
  refine run_keeps (by decide) (fun u hu => ?_) h
  refine descRow_keeps (by decide) ?_ ?_
  · intro _ u0 hu1
    try beta_reduce
    refine (ledgerSnap_keeps ..).step (by decide) ?_
    exact hu1
  · exact hu

theorem placeMail_keeps (r id : Nat) (s : State) :
    Keeps ([.hi, .lg]) s (placeMail r id s) := by
  unfold placeMail
  refine (issue_keeps ..).step (by decide) ?_
  refine (updSq_keeps ..).step (by decide) ?_
  exact Keeps.refl _ _

theorem mssRequest_keeps (r id : Nat) (d : DescBytes) (m : MemRead) (s : State) :
    Keeps (.hi :: .mss :: .freeCtr :: eventParts) s (mssRequest r id d m s) := by
  unfold mssRequest
  refine Keeps.ite ?_ ?_
  · refine (finish_keeps ..).step (by decide) ?_
    exact Keeps.refl _ _
  · refine Keeps.ite ?_ ?_
    · refine (finish_keeps ..).step (by decide) ?_
      exact Keeps.refl _ _
    · refine Keeps.ite ?_ ?_
      · refine (finish_keeps ..).step (by decide) ?_
        exact Keeps.refl _ _
      · refine withData_keeps (by decide) ?_ ?_
        · intro _ u0 hu1
          try beta_reduce
          extract_lets -merge +onlyGivenNames x2
          refine Keeps.mss ?_ (by decide)
          exact hu1
        · exact Keeps.refl _ _

theorem msixWrite_keeps (off : Nat) (v : Word) (s : State) :
    Keeps ([.msix]) s (msixWrite off v s) := by
  unfold msixWrite
  extract_lets -merge +onlyGivenNames x0
  refine Keeps.ite ?_ ?_
  · refine Keeps.msix ?_ (by decide)
    exact Keeps.refl _ _
  · refine Keeps.ite ?_ ?_
    · refine Keeps.msix ?_ (by decide)
      exact Keeps.refl _ _
    · refine Keeps.ite ?_ ?_
      · refine Keeps.msix ?_ (by decide)
        exact Keeps.refl _ _
      · extract_lets -merge +onlyGivenNames x1
        refine Keeps.msix ?_ (by decide)
        exact Keeps.refl _ _

theorem execMsixUnmask_keeps (v : Word) (s : State) {s₁ : State}
    (h : execMsixUnmask v s = .next s₁) : Keeps ([.slp, .msix, .pwr]) s s₁ := by
  unfold execMsixUnmask at h
  refine runHost_keeps (by decide) (fun u hu => ?_) h
  refine (msixWrite_keeps ..).step (by decide) ?_
  exact hu

/-! ### Machine/Ev.lean -/

theorem evRefuse_keeps (cause : Nat) (s : State) :
    Keeps (eventParts) s (evRefuse cause s) := by
  unfold evRefuse
  refine (raise_keeps ..).step (by decide) ?_
  refine Keeps.ev ?_ (by decide)
  exact Keeps.refl _ _

theorem evBaseWrite_keeps (base : BitVec 64) (s : State) :
    Keeps (.dma :: eventParts) s (evBaseWrite base s) := by
  unfold evBaseWrite
  split
  · rename_i hd
    exact Keeps.evMove (Keeps.refl _ s) (by decide) (by decide) fun h => RingSt.noConfusion (hd.symm.trans h)
  · refine (evRefuse_keeps ..).step (by decide) ?_
    exact Keeps.refl _ _

theorem evReplay_keeps (s : State) :
    Keeps (.line :: .cx :: eventParts) s (evReplay s) := by
  unfold evReplay
  refine Keeps.ite ?_ ?_
  · exact Keeps.refl _ _
  · extract_lets -merge +onlyGivenNames x0 x1 x2
    extract_lets -merge +onlyGivenNames x3
    have h4 : Keeps (.line :: .cx :: eventParts) s x3 := by
      refine Keeps.mssx ?_ (by decide)
      exact Keeps.refl _ _
    refine Keeps.foldl ?_ (fun u5 _ hu6 => ?_)
    · exact h4
    · try beta_reduce
      refine (raiseRaw_keeps ..).step (by decide) ?_
      exact hu6

theorem evStarted_keeps (s : State) :
    Keeps ([.ev]) s (evStarted s) := by
  unfold evStarted
  extract_lets -merge +onlyGivenNames x0
  split
  rename_i v1 v2 e4
  have hv3 : Keeps ([.ev]) s v2 := by
    refine Keeps.snd e4 ?_
    refine (evForm_keeps ..).step (by decide) ?_
    exact Keeps.refl _ _
  clear e4
  extract_lets -merge +onlyGivenNames x5
  refine Keeps.ev ?_ (by decide)
  exact hv3

theorem evEnable_keeps (v : Word) (s : State) :
    Keeps (.dma :: .line :: .cx :: eventParts) s (evEnable v s) := by
  unfold evEnable
  extract_lets -merge +onlyGivenNames x0
  extract_lets -merge +onlyGivenNames x1
  have h2 : Keeps (.dma :: .line :: .cx :: eventParts) s x1 := by
    exact Keeps.evMove (Keeps.refl _ s) (by decide) (by decide) fun _ => Nat.two_pow_pos _
  refine (evReplay_keeps ..).step (by decide) ?_
  refine (evDrainAll_keeps ..).step (by decide) ?_
  refine (evStarted_keeps ..).step (by decide) ?_
  exact h2

theorem evDisable_keeps (s : State) :
    Keeps ([.ev, .lg]) s (evDisable s) := by
  unfold evDisable
  extract_lets -merge +onlyGivenNames x0
  refine (giveAll_keeps ..).step (by decide) ?_
  refine Keeps.ev ?_ (by decide) ⟨rfl, rfl, fun _ h => RingSt.noConfusion h⟩
  exact Keeps.refl _ _

theorem evCfgWrite_keeps (v : Word) (s : State) :
    Keeps (.dma :: .line :: .cx :: eventParts) s (evCfgWrite v s) := by
  unfold evCfgWrite
  extract_lets -merge +onlyGivenNames x0
  split
  · refine Keeps.ite ?_ ?_
    · unfold evDisable
      extract_lets -merge +onlyGivenNames x1
      refine (giveAll_keeps ..).step (by decide) ?_
      exact Keeps.evMove (Keeps.refl _ s) (by decide) (by decide) fun h => RingSt.noConfusion h
    · refine (evRefuse_keeps ..).step (by decide) ?_
      exact Keeps.refl _ _
  · rename_i hd
    refine Keeps.ite ?_ ?_
    · refine Keeps.ite ?_ ?_
      · refine (evRefuse_keeps ..).step (by decide) ?_
        exact Keeps.refl _ _
      · refine Keeps.ite ?_ ?_
        · refine (evRefuse_keeps ..).step (by decide) ?_
          exact Keeps.refl _ _
        · refine (evEnable_keeps ..).step (by decide) ?_
          exact Keeps.refl _ _
    · exact Keeps.evMove (Keeps.refl _ s) (by decide) (by decide) fun h => (hd fun e => RingSt.noConfusion (e.symm.trans h)).elim

theorem execEventRingEnable_keeps (v : Word) (s : State) {s₁ : State}
    (h : execEventRingEnable v s = .next s₁) : Keeps (.dma :: .line :: .slp :: .cx :: .pwr :: eventParts) s s₁ := by
  unfold execEventRingEnable at h
  refine runHost_keeps (by decide) (fun u hu => ?_) h
  refine (evCfgWrite_keeps ..).step (by decide) ?_
  exact hu

theorem execEventRingDisable_keeps (v : Word) (s : State) {s₁ : State}
    (h : execEventRingDisable v s = .next s₁) : Keeps (.dma :: .line :: .slp :: .cx :: .pwr :: eventParts) s s₁ := by
  unfold execEventRingDisable at h
  refine runHost_keeps (by decide) (fun u hu => ?_) h
  refine (evCfgWrite_keeps ..).step (by decide) ?_
  exact hu

theorem evBell_keeps (v : Word) (s : State) :
    Keeps (eventParts) s (evBell v s) := by
  unfold evBell
  extract_lets -merge +onlyGivenNames x0 x1 x2
  refine Keeps.ite ?_ ?_
  · exact Keeps.refl _ _
  · refine Keeps.ite ?_ ?_
    · extract_lets -merge +onlyGivenNames x3
      extract_lets -merge +onlyGivenNames x4
      have h5 : Keeps (eventParts) s x4 := by
        refine Keeps.ev ?_ (by decide)
        exact Keeps.refl _ _
      refine (evNotify_keeps ..).step (by decide) ?_
      refine (evDrainAll_keeps ..).step (by decide) ?_
      refine (giveBack_keeps ..).step (by decide) ?_
      exact h5
    · refine Keeps.ev ?_ (by decide) ⟨rfl, rfl, fun _ h => RingSt.noConfusion h⟩
      exact Keeps.refl _ _

theorem execEventDoorbell_keeps (v : Word) (s : State) {s₁ : State}
    (h : execEventDoorbell v s = .next s₁) : Keeps (.slp :: .pwr :: eventParts) s s₁ := by
  unfold execEventDoorbell at h
  refine runHost_keeps (by decide) (fun u hu => ?_) h
  refine (evBell_keeps ..).step (by decide) ?_
  exact hu

theorem execEventRecordWrite_keeps (s : State) {s₁ : State}
    (h : execEventRecordWrite s = .next s₁) : Keeps (eventParts) s s₁ := by
  unfold execEventRecordWrite at h
  refine run_keeps (by decide) (fun u hu => ?_) h
  refine (evDrainAll_keeps ..).step (by decide) ?_
  exact hu

theorem execEventNotifyDelay_keeps (s : State) {s₁ : State}
    (h : execEventNotifyDelay s = .next s₁) : Keeps ([.msix, .ev]) s s₁ := by
  unfold execEventNotifyDelay at h
  refine run_keeps (by decide) (fun u hu => ?_) h
  try beta_reduce
  refine Keeps.ite ?_ ?_
  · refine (evFire_keeps ..).step (by decide) ?_
    exact hu
  · exact hu

theorem evStatWrite_keeps (v : Word) (s : State) :
    Keeps ([.ev]) s (evStatWrite v s) := by
  unfold evStatWrite
  refine Keeps.ev ?_ (by decide)
  exact Keeps.refl _ _

theorem ledgerFault_keeps (c i : Nat) (s : State) : Keeps (.freeCtr :: eventParts) s (ledgerFault c i s) := by
  unfold ledgerFault
  extract_lets -merge +onlyGivenNames inst g s1 ks s2
  refine (raise_keeps ..).step (by decide) ?_
  have h1 : Keeps (.freeCtr :: eventParts) s s1 := by
    refine Keeps.lg (Keeps.refl _ _) (by decide) fun h => ⟨h.order, fun e he h1 h8 hz => h.balance e he h1 h8 ?_⟩
    simp only [BitVec.getLsbD_or, Bool.or_eq_false_iff] at hz
    exact hz.1
  have hf : 1 ≤ c → c ≤ 8 → s1.lg.fault.getLsbD (c - 1) = true := fun h1 h8 => by
    simp only [s1, BitVec.getLsbD_or, Bool.or_eq_true]
    right
    have : c - 1 < 8 := by omega
    generalize c - 1 = d at this ⊢
    interval_cases d <;> decide
  have hk : ∀ k ∈ ks, k.1 = c := fun k hk => by simpa using (List.mem_filter.1 hk).2
  have hs : ∀ (f : State → Nat × Nat → State)
      (_ : ∀ t k, ∃ v u, Keeps [.freeCtr] t u ∧ f t k = { u with lg := lgUpd k.1 k.2 v u.lg }) (l : List (Nat × Nat)) (t : State),
      (∀ k ∈ l, k.1 = c) → (1 ≤ c → c ≤ 8 → t.lg.fault.getLsbD (c - 1) = true) → Keeps (.freeCtr :: eventParts) s t →
      Keeps (.freeCtr :: eventParts) s (l.foldl f t) := by
    intro f hf l
    induction l with
    | nil => exact fun t _ _ h => h
    | cons k l ih =>
      intro t hk hc h
      rw [List.foldl_cons]
      obtain ⟨v, u, hu, e⟩ := hf t k
      have hg : u.lg = t.lg := hu.same.agree .lg (by decide)
      rw [e]
      refine ih _ (fun k h => hk k (List.mem_cons_of_mem _ h)) (by rw [hg]; exact hc) ?_
      exact Keeps.lg (hu.step (by decide) h) (by decide) (lgUpd_faulted (by rw [hk k (List.mem_cons_self ..), hg]; exact hc))
  refine hs _ (fun t k => ⟨_, _, ?_, rfl⟩) ks s1 hk hf h1
  exact (draw_keeps ..).step (by decide) ((draw_keeps ..).step (by decide) (draw_keeps t))

theorem execLedgerEccError_keeps (c : Fin 8) (i : Nat) (s : State) {s₁ : State}
    (h : execLedgerEccError c i s = .next s₁) : Keeps (.freeCtr :: eventParts) s s₁ := by
  unfold execLedgerEccError at h
  refine run_keeps (by decide) (fun u hu => ?_) h
  refine (ledgerFault_keeps ..).step (by decide) ?_
  exact hu

/-- A recount of the ledgers listed: each one it meets balances afterwards. -/
theorem recount_foldl {s : State} {c : Nat} {f : State → Nat × Nat → State}
    (hf : ∀ t k, ∃ v : Ledger → Ledger, (∀ x, (v x).balanced) ∧ f t k = { t with lg := lgUpd k.1 k.2 v t.lg })
    (l : List (Nat × Nat)) : ∀ t : State, Same [.lg] s t →
      (Sound s → Sound t ∧ ∀ e ∈ t.lg.inst, e.1.1 = c → e.1 ∈ l ∨ e.2.balanced) →
      Same [.lg] s (l.foldl f t) ∧ (Sound s → Sound (l.foldl f t) ∧ ∀ e ∈ (l.foldl f t).lg.inst, e.1.1 = c → e.2.balanced) := by
  induction l with
  | nil => exact fun t h k => ⟨h, fun a => ⟨(k a).1, fun e he hc => ((k a).2 e he hc).resolve_left (by simp)⟩⟩
  | cons k l ih =>
    intro t h hk
    rw [List.foldl_cons]
    obtain ⟨v, hv, e⟩ := hf t k
    rw [e]
    have ho : LedgersOk t.lg → LedgersOk (lgUpd k.1 k.2 v t.lg) := lgUpd_ok fun x _ => hv x
    refine ih _ (Keeps.lg (Keeps.of h fun a => (hk a).1) (by decide) ho).same fun a => ?_
    obtain ⟨b, b'⟩ := hk a
    refine ⟨⟨b.mem, ho b.ledgers, b.confirm, b.ring⟩, fun e he hc => ?_⟩
    by_cases ek : e.1 = k
    · rw [lgSet_self b.ledgers.order he ek]
      exact .inr (hv _)
    · have he := (mem_lgSet he).resolve_left fun h => ek (by rw [h])
      exact (b' e he hc).imp_left fun m => (List.mem_cons.1 m).resolve_left ek

theorem ledgerReinit_keeps {c : Nat} (h0 : c ≠ 0) (s : State) : Keeps (eventParts) s (ledgerReinit c s) := by
  unfold ledgerReinit
  extract_lets -merge +onlyGivenNames ks s1
  refine (raise_keeps ..).step (by decide) ?_
  have hk : ∀ e ∈ s.lg.inst, e.1.1 = c → e.1 ∈ ks := fun e he hc => by
    refine List.mem_eraseDups.2 (List.mem_filter.2 ⟨?_, by simpa using hc⟩)
    exact List.mem_append_right _ (List.mem_map_of_mem he)
  have h : Same [.lg] s s1 ∧ (Sound s → Sound s1 ∧ ∀ e ∈ s1.lg.inst, e.1.1 = c → e.2.balanced) := by
    refine recount_foldl (fun t k => ⟨_, fun x => ?_, rfl⟩) ks s (Same.refl _ _) fun a => ⟨a, fun e he hc => .inl (hk e he hc)⟩
    simp only [Ledger.balanced]
    rw [BitVec.setWidth_ofNat_of_le (by decide)]; simp
  clear_value s1
  refine ⟨⟨fun p hp => ?_⟩, fun a => ?_⟩
  · have a := (h.1.mono (m := eventParts) (by decide)).agree p hp
    cases p <;> first | exact absurd (by decide) hp | exact a
  obtain ⟨b, b'⟩ := h.2 a
  refine ⟨b.mem, ⟨b.ledgers.order, fun e he e1 e8 hz => ?_⟩, b.confirm, b.ring⟩
  by_cases ec : e.1.1 = c
  · exact b' e he ec
  · refine b.ledgers.balance e he e1 e8 ?_
    have hb : (BitVec.ofNat 8 (2 ^ (c - 1))).getLsbD (e.1.1 - 1) = false := by
      rw [BitVec.getLsbD_ofNat, Nat.testBit_two_pow_of_ne (by omega), Bool.and_false]
    have h8 : e.1.1 - 1 < 8 := by omega
    have hz : (s1.lg.fault &&& ~~~ BitVec.ofNat 8 (2 ^ (c - 1))).getLsbD (e.1.1 - 1) = false := hz
    simpa only [BitVec.getLsbD_and, BitVec.getLsbD_not, hb, h8, decide_true, Bool.not_false, Bool.and_true] using hz

theorem lgRefuse_keeps (cause : Nat) (s : State) :
    Keeps ([.lg]) s (lgRefuse cause s) := by
  unfold lgRefuse
  refine Keeps.lg ?_ (by decide) (fun h => ⟨h.order, h.balance⟩)
  exact Keeps.refl _ _

theorem lgReinitWrite_keeps (v : Word) (s : State) : Keeps (eventParts) s (lgReinitWrite v s) := by
  unfold lgReinitWrite
  extract_lets -merge +onlyGivenNames c
  refine Keeps.ite (Keeps.refl _ _) ?_
  split
  · exact (lgRefuse_keeps ..).step (by decide) (Keeps.refl _ _)
  · rename_i h
    exact ledgerReinit_keeps (fun h0 => h (.inl h0)) s

theorem execLedgerReinit_keeps (v : Word) (s : State) {s₁ : State}
    (h : execLedgerReinit v s = .next s₁) : Keeps (.slp :: .pwr :: eventParts) s s₁ := by
  unfold execLedgerReinit at h
  refine runHost_keeps (by decide) (fun u hu => ?_) h
  refine (lgReinitWrite_keeps ..).step (by decide) ?_
  exact hu

theorem lgStatusWrite_keeps (v : Word) (s : State) :
    Keeps ([.lg]) s (lgStatusWrite v s) := by
  unfold lgStatusWrite
  refine Keeps.lg ?_ (by decide) (fun h => ⟨h.order, h.balance⟩)
  exact Keeps.refl _ _

end Sys2Proof.Machine
end

