-- ==== Sys2Proof/Laws/FrameMss.lean ====
section
/-! SUPPORT. The frames of the functions of the management subsystem, the mailbox, tamper and the posting of completions: outside the components listed
each changes nothing, and it leaves a sound state sound. -/
namespace Sys2Proof.Machine

/-! ### Machine/Mss.lean -/

theorem bootWrite_keeps (f : BootCopy → BootCopy) (s : State) :
    Keeps ([.mssx]) s (bootWrite f s) := by
  unfold bootWrite
  extract_lets -merge +onlyGivenNames x0 x1 x2 x3
  refine Keeps.mssx ?_ (by decide)
  exact Keeps.refl _ _

theorem loadImage_keeps (img : Image) (slot : Bool) (s : State) :
    Keeps ([.mss]) s (loadImage img slot s) := by
  unfold loadImage
  refine Keeps.mss ?_ (by decide)
  exact Keeps.refl _ _

theorem bootActive_keeps (s : State) :
    Keeps ([.mss]) s (bootActive s) := by
  unfold bootActive
  extract_lets -merge +onlyGivenNames x0 x1
  extract_lets -merge +onlyGivenNames x2
  have h3 : Keeps ([.mss]) s x2 := by
    refine Keeps.mss ?_ (by decide)
    exact Keeps.refl _ _
  refine Keeps.ite ?_ ?_
  · refine (loadImage_keeps ..).step (by decide) ?_
    exact h3
  · refine Keeps.ite ?_ ?_
    · refine (loadImage_keeps ..).step (by decide) ?_
      exact h3
    · refine Keeps.mss ?_ (by decide)
      exact h3

theorem trialFallback_keeps (outcome : Nat) (s : State) :
    Keeps ([.mss, .mssx]) s (trialFallback outcome s) := by
  unfold trialFallback
  extract_lets -merge +onlyGivenNames x0
  extract_lets -merge +onlyGivenNames x1
  have h2 : Keeps ([.mss, .mssx]) s x1 := by
    unfold x1
    refine (bootWrite_keeps ..).step (by decide) ?_
    exact Keeps.refl _ _
  extract_lets -merge +onlyGivenNames x3
  extract_lets -merge +onlyGivenNames x4
  have h5 : Keeps ([.mss, .mssx]) s x4 := by
    refine Keeps.mss ?_ (by decide)
    exact h2
  refine (bootActive_keeps ..).step (by decide) ?_
  exact h5

theorem bootRom_keeps (s : State) :
    Keeps ([.mss, .mssx]) s (bootRom s) := by
  unfold bootRom
  extract_lets -merge +onlyGivenNames x0
  refine Keeps.ite ?_ ?_
  · refine Keeps.ite ?_ ?_
    · extract_lets -merge +onlyGivenNames x1
      have h2 : Keeps ([.mss, .mssx]) s x1 := by
        unfold x1
        refine (bootWrite_keeps ..).step (by decide) ?_
        exact Keeps.refl _ _
      refine Keeps.ite ?_ ?_
      · extract_lets -merge +onlyGivenNames x3
        have h4 : Keeps ([.mss, .mssx]) s x3 := by
          unfold x3
          refine (loadImage_keeps ..).step (by decide) ?_
          exact h2
        refine Keeps.mss ?_ (by decide)
        exact h4
      · refine (trialFallback_keeps ..).step (by decide) ?_
        exact h2
    · refine (trialFallback_keeps ..).step (by decide) ?_
      exact Keeps.refl _ _
  · refine (bootActive_keeps ..).step (by decide) ?_
    exact Keeps.refl _ _

theorem mssUpdateEv_keeps (step outcome slot : Nat) (s : State) :
    Keeps (eventParts) s (mssUpdateEv step outcome slot s) := by
  unfold mssUpdateEv
  refine (raiseMss_keeps ..).step (by decide) ?_
  exact Keeps.refl _ _

theorem closeSession_keeps (s : State) :
    Keeps ([.mss, .mssx]) s (closeSession s) := by
  unfold closeSession
  refine Keeps.mss_mssx ?_ (by decide) (by decide)
  exact Keeps.refl _ _

theorem mssRestart_keeps (cause unitCause : Nat) (byHost : Bool) (s : State) :
    Keeps (.hi :: .mss :: eventParts) s (mssRestart cause unitCause byHost s) := by
  unfold mssRestart
  extract_lets -merge +onlyGivenNames x0
  have h1 : Keeps (.hi :: .mss :: eventParts) s x0 := by
    unfold x0
    refine (raiseMss_keeps ..).step (by decide) ?_
    exact Keeps.refl _ _
  extract_lets -merge +onlyGivenNames x2
  extract_lets -merge +onlyGivenNames x3
  have h4 : Keeps (.hi :: .mss :: eventParts) s x3 := by
    unfold x3
    split
    · refine (closeSession_keeps ..).step (by decide) ?_
      refine Keeps.mss ?_ (by decide)
      exact h1
    · exact h1
  extract_lets -merge +onlyGivenNames x5 x6 x7
  extract_lets -merge +onlyGivenNames x8
  have h9 : Keeps (.hi :: .mss :: eventParts) s x8 := by
    refine Keeps.mss ?_ (by decide)
    exact h4
  extract_lets -merge +onlyGivenNames x10
  have h11 : Keeps (.hi :: .mss :: eventParts) s x10 := by
    unfold x10
    refine (resetBegin_keeps ..).step (by decide) ?_
    exact h9
  extract_lets -merge +onlyGivenNames x12
  have h13 : Keeps (.hi :: .mss :: eventParts) s x12 := by
    unfold x12
    refine Keeps.foldl ?_ (fun u14 _ hu15 => ?_)
    · exact h11
    · try beta_reduce
      refine (finish_keeps ..).step (by decide) ?_
      exact hu15
  refine (resetsSettle_keeps ..).step (by decide) ?_
  refine (bootRom_keeps ..).step (by decide) ?_
  exact h13

theorem execWatchdogExpiry_keeps (s : State) {s₁ : State}
    (h : execWatchdogExpiry s = .next s₁) : Keeps (.hi :: .mss :: eventParts) s s₁ := by
  unfold execWatchdogExpiry at h
  refine run_keeps (by decide) (fun u hu => ?_) h
  try beta_reduce
  refine Keeps.ite ?_ ?_
  · refine (mssRestart_keeps ..).step (by decide) ?_
    exact hu
  · exact hu

theorem execTrialTimeout_keeps (s : State) {s₁ : State}
    (h : execTrialTimeout s = .next s₁) : Keeps ([.mss, .mssx]) s s₁ := by
  unfold execTrialTimeout at h
  refine run_keeps (by decide) (fun u hu => ?_) h
  try beta_reduce
  refine Keeps.ite ?_ ?_
  · refine (trialFallback_keeps ..).step (by decide) ?_
    refine Keeps.mss ?_ (by decide)
    exact hu
  · exact hu

theorem setView_keeps (u v : Nat) (s : State) :
    Keeps ([.mssx]) s (setView u v s) := by
  unfold setView
  refine Keeps.mssx ?_ (by decide)
  exact Keeps.refl _ _

theorem ackView_keeps (u : Nat) (s : State) :
    Keeps ([.mssx]) s (ackView u s) := by
  unfold ackView
  extract_lets -merge +onlyGivenNames x0
  have h1 : Keeps ([.mssx]) s x0 := by
    unfold x0
    refine (setView_keeps ..).step (by decide) ?_
    exact Keeps.refl _ _
  refine Keeps.mssx ?_ (by decide)
  exact h1

theorem compareUnit_keeps (s : State) (u : Nat) :
    Keeps (eventParts) s (compareUnit s u) := by
  unfold compareUnit
  extract_lets -merge +onlyGivenNames x0 x1 x2
  refine Keeps.ite ?_ ?_
  · refine Keeps.mssx ?_ (by decide)
    exact Keeps.refl _ _
  · split
    · refine Keeps.mssx ?_ (by decide)
      exact Keeps.refl _ _
    · refine Keeps.ite ?_ ?_
      · refine (raiseMss_keeps ..).step (by decide) ?_
        refine Keeps.mssx ?_ (by decide)
        exact Keeps.refl _ _
      · exact Keeps.refl _ _

theorem execUnitViewCompare_keeps (s : State) {s₁ : State}
    (h : execUnitViewCompare s = .next s₁) : Keeps (eventParts) s s₁ := by
  unfold execUnitViewCompare at h
  refine run_keeps (by decide) (fun u hu => ?_) h
  try beta_reduce
  refine Keeps.ite ?_ ?_
  · refine Keeps.foldl ?_ (fun u0 _ hu1 => ?_)
    · exact hu
    · refine (compareUnit_keeps ..).step (by decide) ?_
      exact hu1
  · exact hu

theorem setSens_keeps (i : Nat) (x : Sensor) (s : State) :
    Keeps ([.mssx]) s (setSens i x s) := by
  unfold setSens
  refine Keeps.mssx ?_ (by decide)
  exact Keeps.refl _ _

theorem sensEvent_keeps (i kind : Nat) (v : Word) (th : Option Word) (s : State) :
    Keeps (eventParts) s (sensEvent i kind v th s) := by
  unfold sensEvent
  refine (raiseMss_keeps ..).step (by decide) ?_
  exact Keeps.refl _ _

theorem sensTake_keeps (i : Nat) (value : Word) (s : State) :
    Keeps (eventParts) s (sensTake i value s) := by
  unfold sensTake
  extract_lets -merge +onlyGivenNames x0 x1
  refine Keeps.ite ?_ ?_
  · refine (setSens_keeps ..).step (by decide) ?_
    exact Keeps.refl _ _
  · extract_lets -merge +onlyGivenNames x2 x3
    refine Keeps.ite ?_ ?_
    · refine Keeps.ite ?_ ?_
      · refine (setSens_keeps ..).step (by decide) ?_
        exact Keeps.refl _ _
      · refine (sensEvent_keeps ..).step (by decide) ?_
        refine (setSens_keeps ..).step (by decide) ?_
        exact Keeps.refl _ _
    · refine Keeps.ite ?_ ?_
      · refine (sensEvent_keeps ..).step (by decide) ?_
        refine (setSens_keeps ..).step (by decide) ?_
        exact Keeps.refl _ _
      · refine (setSens_keeps ..).step (by decide) ?_
        exact Keeps.refl _ _

theorem clearUnit_keeps (u : Nat) (s : State) :
    Keeps (.air :: .afe :: .line :: .lt :: .ltx :: .cx :: .hi :: .freeCtr :: eventParts) s (clearUnit u s) := by
  unfold clearUnit
  refine Keeps.ite ?_ ?_
  · refine (portDisable_keeps ..).step (by decide) ?_
    exact Keeps.refl _ _
  · refine (coreEnables_keeps ..).step (by decide) ?_
    exact Keeps.refl _ _

theorem restoreUnit_keeps (u : Nat) (s : State) :
    Keeps (.afe :: .cx :: .freeCtr :: eventParts) s (restoreUnit u s) := by
  unfold restoreUnit
  refine Keeps.ite ?_ ?_
  · refine (updPortX_keeps ..).step (by decide) ?_
    refine (updPort_keeps ..).step (by decide) ?_
    exact Keeps.refl _ _
  · refine (coreEnables_keeps ..).step (by decide) ?_
    exact Keeps.refl _ _

theorem forceUnit_keeps (u cause sensor : Nat) (hw : Bool) (s : State) :
    Keeps (.air :: .afe :: .line :: .lt :: .ltx :: .cx :: .hi :: .freeCtr :: eventParts) s (forceUnit u cause sensor hw s) := by
  unfold forceUnit
  extract_lets -merge +onlyGivenNames x0
  extract_lets -merge +onlyGivenNames x1
  have h2 : Keeps (.air :: .afe :: .line :: .lt :: .ltx :: .cx :: .hi :: .freeCtr :: eventParts) s x1 := by
    unfold x1
    refine (clearUnit_keeps ..).step (by decide) ?_
    exact Keeps.refl _ _
  extract_lets -merge +onlyGivenNames x3
  extract_lets -merge +onlyGivenNames x4
  have h5 : Keeps (.air :: .afe :: .line :: .lt :: .ltx :: .cx :: .hi :: .freeCtr :: eventParts) s x4 := by
    refine Keeps.mssx ?_ (by decide)
    exact h2
  extract_lets -merge +onlyGivenNames x6
  refine Keeps.ite ?_ ?_
  · refine (raise_keeps ..).step (by decide) ?_
    exact h5
  · refine (raiseMss_keeps ..).step (by decide) ?_
    refine (setView_keeps ..).step (by decide) ?_
    exact h5

theorem forcedTake_keeps (s : State) (c : Nat × Nat × Nat) :
    Keeps (.air :: .afe :: .line :: .lt :: .ltx :: .cx :: .hi :: .freeCtr :: eventParts) s (forcedTake s c) := by
  unfold forcedTake
  extract_lets -merge +onlyGivenNames x0
  refine Keeps.ite ?_ ?_
  · refine (forceUnit_keeps ..).step (by decide) ?_
    exact Keeps.refl _ _
  · exact Keeps.refl _ _

theorem forcedScan_keeps (s : State) :
    Keeps (.air :: .afe :: .line :: .lt :: .ltx :: .cx :: .hi :: .freeCtr :: eventParts) s (forcedScan s) := by
  unfold forcedScan
  extract_lets -merge +onlyGivenNames x0
  have h1 : Keeps (.air :: .afe :: .line :: .lt :: .ltx :: .cx :: .hi :: .freeCtr :: eventParts) s x0 := by
    unfold x0
    refine Keeps.foldl ?_ (fun u2 _ hu3 => ?_)
    · exact Keeps.refl _ _
    · refine (forcedTake_keeps ..).step (by decide) ?_
      exact hu3
  extract_lets -merge +onlyGivenNames x4
  refine Keeps.mssx ?_ (by decide)
  exact h1

theorem execSensorSample_keeps (i : Nat) (value : Word) (s : State) {s₁ : State}
    (h : execSensorSample i value s = .next s₁) : Keeps (.air :: .afe :: .line :: .lt :: .ltx :: .cx :: .hi :: .freeCtr :: eventParts) s s₁ := by
  unfold execSensorSample at h
  refine run_keeps (by decide) (fun u hu => ?_) h
  try beta_reduce
  refine Keeps.ite ?_ ?_
  · refine (forcedScan_keeps ..).step (by decide) ?_
    refine (sensTake_keeps ..).step (by decide) ?_
    exact hu
  · exact hu

theorem execForcedActionRestore_keeps (i : Nat) (s : State) {s₁ : State}
    (h : execForcedActionRestore i s = .next s₁) : Keeps (.afe :: .cx :: .freeCtr :: eventParts) s s₁ := by
  unfold execForcedActionRestore at h
  refine run_keeps (by decide) (fun u hu => ?_) h
  try beta_reduce
  split
  · exact hu
  · refine Keeps.ite ?_ ?_
    · extract_lets -merge +onlyGivenNames x0
      extract_lets -merge +onlyGivenNames x1
      have h2 : Keeps (.afe :: .cx :: .freeCtr :: eventParts) s x1 := by
        refine Keeps.mssx ?_ (by decide)
        exact hu
      refine Keeps.ite ?_ ?_
      · exact h2
      · refine (raiseMss_keeps ..).step (by decide) ?_
        refine (setView_keeps ..).step (by decide) ?_
        refine (restoreUnit_keeps ..).step (by decide) ?_
        exact h2
    · exact hu

theorem execHwTrip_keeps (k : TripKind) (s : State) {s₁ : State}
    (h : execHwTrip k s = .next s₁) : Keeps (.air :: .afe :: .line :: .lt :: .ltx :: .cx :: .hi :: .freeCtr :: eventParts) s s₁ := by
  unfold execHwTrip at h
  refine run_keeps (by decide) (fun u hu => ?_) h
  try beta_reduce
  split
  · split
    rename_i v0 v1 e3
    have hv2 : Keeps (.air :: .afe :: .line :: .lt :: .ltx :: .cx :: .hi :: .freeCtr :: eventParts) s v1 := by
      refine Keeps.snd e3 ?_
      split
      · try with_reducible refine Keeps.mk ?_
        exact hu
      · split
        rename_i v4 v5 e7
        have hv6 : Keeps (.air :: .afe :: .line :: .lt :: .ltx :: .cx :: .hi :: .freeCtr :: eventParts) s v5 := by
          refine Keeps.snd e7 ?_
          refine (draw_keeps ..).step (by decide) ?_
          exact hu
        clear e7
        try with_reducible refine Keeps.mk ?_
        exact hv6
    clear e3
    refine Keeps.foldl ?_ (fun u8 _ hu9 => ?_)
    · exact hv2
    · try beta_reduce
      refine Keeps.ite ?_ ?_
      · refine (forceUnit_keeps ..).step (by decide) ?_
        exact hu9
      · exact hu9
  · refine Keeps.foldl ?_ (fun u10 _ hu11 => ?_)
    · exact hu
    · try beta_reduce
      refine Keeps.ite ?_ ?_
      · refine (forceUnit_keeps ..).step (by decide) ?_
        exact hu11
      · exact hu11

theorem mssFresh_keeps (s : State) :
    Keeps ([.mssx]) s (mssFresh s) := by
  unfold mssFresh
  extract_lets -merge +onlyGivenNames x0
  extract_lets -merge +onlyGivenNames x1
  have h2 : Keeps ([.mssx]) s x1 := by
    refine Keeps.mssx ?_ (by decide)
    exact Keeps.refl _ _
  refine Keeps.foldl ?_ (fun u3 _ hu4 => ?_)
  · exact h2
  · try beta_reduce
    refine (setView_keeps ..).step (by decide) ?_
    exact hu4

theorem trialConfirm_keeps (s : State) :
    Keeps (.mss :: eventParts) s (trialConfirm s) := by
  unfold trialConfirm
  refine Keeps.ite ?_ ?_
  · extract_lets -merge +onlyGivenNames x0
    extract_lets -merge +onlyGivenNames x1
    have h2 : Keeps (.mss :: eventParts) s x1 := by
      unfold x1
      refine (bootWrite_keeps ..).step (by decide) ?_
      exact Keeps.refl _ _
    extract_lets -merge +onlyGivenNames x3 x4
    extract_lets -merge +onlyGivenNames x5
    have h6 : Keeps (.mss :: eventParts) s x5 := by
      refine Keeps.mss_mssx ?_ (by decide) (by decide)
      exact h2
    refine (mssUpdateEv_keeps ..).step (by decide) ?_
    exact h6
  · exact Keeps.refl _ _

theorem mssReadyNow_keeps (s : State) :
    Keeps (.cln :: .life :: .mss :: eventParts) s (mssReadyNow s) ∧ (mssReadyNow s).life.mssReadySeen = true ∧
      (mssReadyNow s).cln = { s.cln with fw := s.mss.fw } := by
  unfold mssReadyNow
  extract_lets -merge +onlyGivenNames x0 x1 x2 s1 s2 s3 due x4 s4
  have h1 : Keeps (.cln :: .life :: .mss :: eventParts) s s1 :=
    Keeps.cln_life_mss (Keeps.refl _ _) (by decide) (by decide) (by decide) (fun h => ⟨h.straps, fun _ => rfl⟩)
  have h2 : Keeps (.mss :: eventParts) s1 (trialConfirm (due.foldl (fun s u => mssUpdateEv u.1 u.2.1 u.2.2 s) s4)) := by
    refine (trialConfirm_keeps ..).step (by decide) (Keeps.foldl ?_ fun _ _ h => (mssUpdateEv_keeps ..).step (by decide) h)
    refine Keeps.mss ((raiseMss_keeps ..).step (by decide) ((mssFresh_keeps ..).step (by decide) (Keeps.refl _ _))) (by decide)
  refine ⟨h2.step (by decide) h1, ?_, ?_⟩
  · have a : (trialConfirm _).life = s1.life := h2.same.agree .life (by decide)
    rw [a]
  · have a : (trialConfirm _).cln = s1.cln := h2.same.agree .cln (by decide)
    rw [a]

theorem logOnly_keeps (code : Nat) (p : BitVec 128) (s : State) :
    Keeps ([.mssx]) s (logOnly code p s) := by
  unfold logOnly
  refine (logAdd_keeps ..).step (by decide) ?_
  exact Keeps.refl _ _

theorem profileEnd_keeps (s : State) :
    Keeps ([.mss]) s (profileEnd s) := by
  unfold profileEnd
  refine Keeps.mss ?_ (by decide)
  exact Keeps.refl _ _

theorem profileStop_keeps (s : State) :
    Keeps ([.mss, .mssx, .freeCtr]) s (profileStop s) := by
  unfold profileStop
  extract_lets -merge +onlyGivenNames x0
  split
  rename_i v1 v2 e4
  have hv3 : Keeps ([.mss, .mssx, .freeCtr]) s v2 := by
    refine Keeps.snd e4 ?_
    refine (draw_keeps ..).step (by decide) ?_
    exact Keeps.refl _ _
  clear e4
  refine (profileEnd_keeps ..).step (by decide) ?_
  refine (logOnly_keeps ..).step (by decide) ?_
  exact hv3

theorem profileNext_keeps (n : Nat) (s : State) :
    Keeps ([.mss]) s (profileNext n s) := by
  unfold profileNext
  refine Keeps.mss ?_ (by decide)
  exact Keeps.refl _ _

theorem logProgram_keeps (l : LogRec) (s : State) :
    Keeps ([.mssx]) s (logProgram l s) := by
  unfold logProgram
  extract_lets -merge +onlyGivenNames x0 x1
  refine Keeps.mssx ?_ (by decide)
  exact Keeps.refl _ _

theorem execLogWrite_keeps (s : State) {s₁ : State}
    (h : execLogWrite s = .next s₁) : Keeps ([.mssx]) s s₁ := by
  unfold execLogWrite at h
  refine run_keeps (by decide) (fun u hu => ?_) h
  try beta_reduce
  split
  · exact hu
  · extract_lets -merge +onlyGivenNames x0
    extract_lets -merge +onlyGivenNames x1
    have h2 : Keeps ([.mssx]) s x1 := by
      unfold x1
      refine (logProgram_keeps ..).step (by decide) ?_
      refine Keeps.mssx ?_ (by decide)
      exact hu
    refine Keeps.ite ?_ ?_
    · refine (logOnly_keeps ..).step (by decide) ?_
      refine Keeps.mssx ?_ (by decide)
      exact h2
    · exact h2

theorem hwthrWrite_keeps (v : Word) (s : State) :
    Keeps ([.mss]) s (hwthrWrite v s) := by
  unfold hwthrWrite
  refine Keeps.ite ?_ ?_
  · exact Keeps.refl _ _
  · refine Keeps.mss ?_ (by decide)
    exact Keeps.refl _ _

theorem thcfgWrite_keeps (v : Word) (s : State) :
    Keeps ([.mss]) s (thcfgWrite v s) := by
  unfold thcfgWrite
  refine Keeps.ite ?_ ?_
  · exact Keeps.refl _ _
  · refine Keeps.mss ?_ (by decide)
    exact Keeps.refl _ _

theorem smbcfgWrite_keeps (v : Word) (s : State) :
    Keeps ([.mss]) s (smbcfgWrite v s) := by
  unfold smbcfgWrite
  refine Keeps.mss ?_ (by decide)
  exact Keeps.refl _ _

theorem mssCtrlWrite_keeps (v : Word) (s : State) :
    Keeps ([.mss]) s (mssCtrlWrite v s) := by
  unfold mssCtrlWrite
  refine Keeps.mss ?_ (by decide)
  exact Keeps.refl _ _

theorem execMssLock_keeps (v : Word) (s : State) {s₁ : State}
    (h : execMssLock v s = .next s₁) : Keeps ([.slp, .mss, .pwr]) s s₁ := by
  unfold execMssLock at h
  refine runHost_keeps (by decide) (fun u hu => ?_) h
  refine (mssCtrlWrite_keeps ..).step (by decide) ?_
  exact hu

theorem rgReset_keeps (n : Nat) (s : State) :
    Keeps (.rg :: .aln :: .hi :: eventParts) s (rgReset n s) := by
  unfold rgReset
  extract_lets -merge +onlyGivenNames x0
  split
  rename_i v1 v2 e4
  have hv3 : Keeps (.rg :: .aln :: .hi :: eventParts) s v2 := by
    refine Keeps.snd e4 ?_
    refine (resetCh_keeps ..).step (by decide) ?_
    exact Keeps.refl _ _
  clear e4
  extract_lets -merge +onlyGivenNames x5
  have h6 : Keeps (.rg :: .aln :: .hi :: eventParts) s x5 := by
    refine Keeps.ite ?_ ?_
    · refine (stitchLost_keeps ..).step (by decide) ?_
      exact hv3
    · exact hv3
  refine (resetsSettle_keeps ..).step (by decide) ?_
  refine (resetBegin_keeps ..).step (by decide) ?_
  exact h6

theorem uresetWrite_keeps (v : Word) (s : State) :
    Keeps (.rg :: .aln :: .cx :: .hi :: .mss :: .freeCtr :: eventParts) s (uresetWrite v s) := by
  unfold uresetWrite
  extract_lets -merge +onlyGivenNames x0
  refine Keeps.ite ?_ ?_
  · exact Keeps.refl _ _
  · refine Keeps.ite ?_ ?_
    · refine (lgRefuse_keeps ..).step (by decide) ?_
      exact Keeps.refl _ _
    · refine Keeps.ite ?_ ?_
      · refine (lgRefuse_keeps ..).step (by decide) ?_
        exact Keeps.refl _ _
      · refine Keeps.ite ?_ ?_
        · refine (mssRestart_keeps ..).step (by decide) ?_
          exact Keeps.refl _ _
        · refine Keeps.ite ?_ ?_
          · refine (coreReset_keeps ..).step (by decide) ?_
            exact Keeps.refl _ _
          · refine (rgReset_keeps ..).step (by decide) ?_
            exact Keeps.refl _ _

theorem execUnitReset_keeps (v : Word) (s : State) {s₁ : State}
    (h : execUnitReset v s = .next s₁) : Keeps (.slp :: .rg :: .aln :: .cx :: .hi :: .mss :: .pwr :: .freeCtr :: eventParts) s s₁ := by
  unfold execUnitReset at h
  refine runHost_keeps (by decide) (fun u hu => ?_) h
  refine (uresetWrite_keeps ..).step (by decide) ?_
  exact hu

/-! ### Machine/Mail.lean -/

theorem answerMail_keeps (m : Mail) (result : Nat) (data : List Byte) (s : State) :
    Keeps (.dma :: .hi :: .mss :: .freeCtr :: eventParts) s (answerMail m result data s) := by
  unfold answerMail
  extract_lets -merge +onlyGivenNames x0
  extract_lets -merge +onlyGivenNames x1
  have h2 : Keeps (.dma :: .hi :: .mss :: .freeCtr :: eventParts) s x1 := by
    refine Keeps.mss ?_ (by decide)
    exact Keeps.refl _ _
  extract_lets -merge +onlyGivenNames x3 x4
  refine withDst_keeps (by decide) ?_ ?_
  · intro u5 hu6
    try beta_reduce
    refine (finish_keeps ..).step (by decide) ?_
    refine (hostWrite_keeps ..).step (by decide) ?_
    exact hu6
  · exact h2

theorem mailUnknown_keeps (n : Nat) (s : State) : Keeps (.dma :: .hi :: .mss :: .freeCtr :: eventParts) s (mailUnknown n s) := by
  induction n generalizing s with
  | zero => exact Keeps.refl _ _
  | succ n ih =>
    unfold mailUnknown
    split
    · exact Keeps.ite ((ih _).step (by decide) ((answerMail_keeps ..).step (by decide) (Keeps.refl _ _))) (Keeps.refl _ _)
    · exact Keeps.refl _ _

theorem mailSettle_keeps (s : State) :
    Keeps (.dma :: .hi :: .mss :: .freeCtr :: eventParts) s (mailSettle s) := by
  unfold mailSettle
  refine (mailUnknown_keeps ..).step (by decide) ?_
  exact Keeps.refl _ _

theorem serve_keeps {L : List Part} {s t : State} {cmd n : Nat} {k : Mail → List Byte → State → State}
    (hL : .dma :: .hi :: .mss :: .freeCtr :: eventParts ⊆ L) (hk : ∀ m b u, Keeps L s u → Keeps L s (k m b u)) (h : Keeps L s t) :
    Keeps L s (serve cmd n k t) := by
  unfold serve
  split
  · refine Keeps.ite ((mailSettle_keeps ..).step (List.Subset.trans (by decide) hL) (Keeps.ite ?_ (hk _ _ _ h))) h
    exact (answerMail_keeps ..).step (List.Subset.trans (by decide) hL) h
  · exact h

theorem execMssRequest_keeps (r : Fin 16) (d : DescBytes) (m : MemRead) (s : State) {s₁ : State}
    (h : execMssRequest r d m s = .next s₁) : Keeps (.dma :: .hi :: .mss :: .freeCtr :: eventParts) s s₁ := by
  unfold execMssRequest at h
  refine run_keeps (by decide) (fun u hu => ?_) h
  try beta_reduce
  refine Keeps.ite ?_ ?_
  · refine (mailSettle_keeps ..).step (by decide) ?_
    refine descRowPre_keeps (by decide) ?_ ?_ ?_
    · intro _ u0 hu1
      try beta_reduce
      refine (placeMail_keeps ..).step (by decide) ?_
      exact hu1
    · intro _ u2 hu3
      try beta_reduce
      refine (mssRequest_keeps ..).step (by decide) ?_
      exact hu3
    · exact hu
  · exact hu

theorem execGetInfo_keeps (s : State) {s₁ : State}
    (h : execGetInfo s = .next s₁) : Keeps (.dma :: .hi :: .mss :: .freeCtr :: eventParts) s s₁ := by
  unfold execGetInfo at h
  refine run_keeps (by decide) (fun u hu => ?_) h
  refine serve_keeps (by decide) ?_ ?_
  · intro _ _ u0 hu1
    try beta_reduce
    extract_lets -merge +onlyGivenNames x2
    refine (answerMail_keeps ..).step (by decide) ?_
    exact hu1
  · exact hu

theorem execReadSensors_keeps (sample : List Word) (s : State) {s₁ : State}
    (h : execReadSensors sample s = .next s₁) : Keeps (.dma :: .air :: .afe :: .line :: .lt :: .ltx :: .cx :: .hi :: .mss :: .freeCtr :: eventParts) s s₁ := by
  unfold execReadSensors at h
  refine run_keeps (by decide) (fun u hu => ?_) h
  refine serve_keeps (by decide) ?_ ?_
  · intro _ _ u0 hu1
    try beta_reduce
    extract_lets -merge +onlyGivenNames x2
    have h3 : Keeps (.dma :: .air :: .afe :: .line :: .lt :: .ltx :: .cx :: .hi :: .mss :: .freeCtr :: eventParts) s x2 := by
      unfold x2
      refine Keeps.foldl ?_ (fun u4 _ hu5 => ?_)
      · exact hu1
      · try beta_reduce
        split
        · refine (sensTake_keeps ..).step (by decide) ?_
          exact hu5
        · exact hu5
    extract_lets -merge +onlyGivenNames x6
    have h7 : Keeps (.dma :: .air :: .afe :: .line :: .lt :: .ltx :: .cx :: .hi :: .mss :: .freeCtr :: eventParts) s x6 := by
      unfold x6
      refine (forcedScan_keeps ..).step (by decide) ?_
      exact h3
    refine (answerMail_keeps ..).step (by decide) ?_
    exact h7
  · exact hu

theorem execSetThreshold_keeps (s : State) {s₁ : State}
    (h : execSetThreshold s = .next s₁) : Keeps (.dma :: .hi :: .mss :: .freeCtr :: eventParts) s s₁ := by
  unfold execSetThreshold at h
  refine run_keeps (by decide) (fun u hu => ?_) h
  refine serve_keeps (by decide) ?_ ?_
  · intro _ _ u0 hu1
    try beta_reduce
    extract_lets -merge +onlyGivenNames x2 x3 x4 x5
    refine Keeps.ite ?_ ?_
    · refine (answerMail_keeps ..).step (by decide) ?_
      exact hu1
    · refine (answerMail_keeps ..).step (by decide) ?_
      refine (setSens_keeps ..).step (by decide) ?_
      exact hu1
  · exact hu

theorem execSetMainscal_keeps (s : State) {s₁ : State}
    (h : execSetMainscal s = .next s₁) : Keeps (.dma :: .hi :: .mss :: .freeCtr :: eventParts) s s₁ := by
  unfold execSetMainscal at h
  refine run_keeps (by decide) (fun u hu => ?_) h
  refine serve_keeps (by decide) ?_ ?_
  · intro _ _ u0 hu1
    try beta_reduce
    extract_lets -merge +onlyGivenNames x2
    refine Keeps.ite ?_ ?_
    · refine (answerMail_keeps ..).step (by decide) ?_
      exact hu1
    · extract_lets -merge +onlyGivenNames x3
      refine (answerMail_keeps ..).step (by decide) ?_
      refine Keeps.mssx ?_ (by decide)
      exact hu1
  · exact hu

theorem execGetReport_keeps (s : State) {s₁ : State}
    (h : execGetReport s = .next s₁) : Keeps (.dma :: .hi :: .mss :: .freeCtr :: eventParts) s s₁ := by
  unfold execGetReport at h
  refine run_keeps (by decide) (fun u hu => ?_) h
  refine serve_keeps (by decide) ?_ ?_
  · intro _ _ u0 hu1
    try beta_reduce
    refine (answerMail_keeps ..).step (by decide) ?_
    exact hu1
  · exact hu

theorem execAckMismatch_keeps (s : State) {s₁ : State}
    (h : execAckMismatch s = .next s₁) : Keeps (.dma :: .hi :: .mss :: .freeCtr :: eventParts) s s₁ := by
  unfold execAckMismatch at h
  refine run_keeps (by decide) (fun u hu => ?_) h
  refine serve_keeps (by decide) ?_ ?_
  · intro _ _ u0 hu1
    try beta_reduce
    refine Keeps.ite ?_ ?_
    · refine (answerMail_keeps ..).step (by decide) ?_
      refine (ackView_keeps ..).step (by decide) ?_
      exact hu1
    · refine (answerMail_keeps ..).step (by decide) ?_
      exact hu1
  · exact hu

theorem execRestart_keeps (s : State) {s₁ : State}
    (h : execRestart s = .next s₁) : Keeps (.dma :: .hi :: .mss :: .freeCtr :: eventParts) s s₁ := by
  unfold execRestart at h
  refine run_keeps (by decide) (fun u hu => ?_) h
  refine serve_keeps (by decide) ?_ ?_
  · intro _ _ u0 hu1
    try beta_reduce
    refine (answerMail_keeps ..).step (by decide) ?_
    refine Keeps.mss ?_ (by decide)
    exact hu1
  · exact hu

theorem execLogRead_keeps (s : State) {s₁ : State}
    (h : execLogRead s = .next s₁) : Keeps (.dma :: .hi :: .mss :: .freeCtr :: eventParts) s s₁ := by
  unfold execLogRead at h
  refine run_keeps (by decide) (fun u hu => ?_) h
  refine serve_keeps (by decide) ?_ ?_
  · intro _ _ u0 hu1
    try beta_reduce
    extract_lets -merge +onlyGivenNames x2
    refine Keeps.ite ?_ ?_
    · refine (answerMail_keeps ..).step (by decide) ?_
      exact hu1
    · refine (answerMail_keeps ..).step (by decide) ?_
      exact hu1
  · exact hu

theorem updateFail_keeps (step result slot : Nat) (m : Mail) (s : State) :
    Keeps (.dma :: .hi :: .mss :: .freeCtr :: eventParts) s (updateFail step result slot m s) := by
  unfold updateFail
  refine (answerMail_keeps ..).step (by decide) ?_
  refine (mssUpdateEv_keeps ..).step (by decide) ?_
  refine (closeSession_keeps ..).step (by decide) ?_
  exact Keeps.refl _ _

theorem execUpdateBegin_keeps (s : State) {s₁ : State}
    (h : execUpdateBegin s = .next s₁) : Keeps (.dma :: .hi :: .mss :: .freeCtr :: eventParts) s s₁ := by
  unfold execUpdateBegin at h
  refine run_keeps (by decide) (fun u hu => ?_) h
  refine serve_keeps (by decide) ?_ ?_
  · intro _ _ u0 hu1
    try beta_reduce
    extract_lets -merge +onlyGivenNames x2 x3
    refine Keeps.ite ?_ ?_
    · refine (answerMail_keeps ..).step (by decide) ?_
      exact hu1
    · refine Keeps.ite ?_ ?_
      · refine (answerMail_keeps ..).step (by decide) ?_
        exact hu1
      · extract_lets -merge +onlyGivenNames x4
        extract_lets -merge +onlyGivenNames x5
        have h6 : Keeps (.dma :: .hi :: .mss :: .freeCtr :: eventParts) s x5 := by
          unfold x5
          refine (bootWrite_keeps ..).step (by decide) ?_
          exact hu1
        refine Keeps.ite ?_ ?_
        · refine (updateFail_keeps ..).step (by decide) ?_
          exact h6
        · extract_lets -merge +onlyGivenNames x7 x8 x9
          extract_lets -merge +onlyGivenNames x10
          have h11 : Keeps (.dma :: .hi :: .mss :: .freeCtr :: eventParts) s x10 := by
            refine Keeps.mss_mssx ?_ (by decide) (by decide)
            exact h6
          refine (answerMail_keeps ..).step (by decide) ?_
          refine (mssUpdateEv_keeps ..).step (by decide) ?_
          exact h11
  · exact hu

theorem inSession_keeps {L : List Part} {s t : State} {m : Mail} {k : Session → State → State}
    (hL : .dma :: .hi :: .mss :: .freeCtr :: eventParts ⊆ L) (hk : ∀ x u, Keeps L s u → Keeps L s (k x u)) (h : Keeps L s t) :
    Keeps L s (inSession m k t) := by
  unfold inSession
  split
  · exact (answerMail_keeps ..).step (List.Subset.trans (by decide) hL) h
  · exact hk _ _ h

theorem putSession_keeps (x : Session) (s : State) :
    Keeps ([.mss, .mssx]) s (putSession x s) := by
  unfold putSession
  refine Keeps.mss_mssx ?_ (by decide) (by decide)
  exact Keeps.refl _ _

theorem execUpdateData_keeps (s : State) {s₁ : State}
    (h : execUpdateData s = .next s₁) : Keeps (.dma :: .hi :: .mss :: .freeCtr :: eventParts) s s₁ := by
  unfold execUpdateData at h
  refine run_keeps (by decide) (fun u hu => ?_) h
  refine serve_keeps (by decide) ?_ ?_
  · intro _ _ u0 hu1
    try beta_reduce
    refine inSession_keeps (by decide) ?_ ?_
    · intro _ u2 hu3
      try beta_reduce
      extract_lets -merge +onlyGivenNames x4
      refine Keeps.ite ?_ ?_
      · refine (updateFail_keeps ..).step (by decide) ?_
        exact hu3
      · extract_lets -merge +onlyGivenNames x5
        refine (answerMail_keeps ..).step (by decide) ?_
        refine (putSession_keeps ..).step (by decide) ?_
        refine Keeps.mssx ?_ (by decide)
        exact hu3
    · exact hu1
  · exact hu

theorem execUpdateCommit_keeps (s : State) {s₁ : State}
    (h : execUpdateCommit s = .next s₁) : Keeps (.dma :: .hi :: .mss :: .freeCtr :: eventParts) s s₁ := by
  unfold execUpdateCommit at h
  refine run_keeps (by decide) (fun u hu => ?_) h
  refine serve_keeps (by decide) ?_ ?_
  · intro _ _ u0 hu1
    try beta_reduce
    refine inSession_keeps (by decide) ?_ ?_
    · intro _ u2 hu3
      try beta_reduce
      extract_lets -merge +onlyGivenNames x4
      clear_value  x4
      split
      · refine (updateFail_keeps ..).step (by decide) ?_
        exact hu3
      · refine (answerMail_keeps ..).step (by decide) ?_
        refine (mssUpdateEv_keeps ..).step (by decide) ?_
        refine (bootWrite_keeps ..).step (by decide) ?_
        refine (putSession_keeps ..).step (by decide) ?_
        exact hu3
    · exact hu1
  · exact hu

theorem execUpdateActivate_keeps (s : State) {s₁ : State}
    (h : execUpdateActivate s = .next s₁) : Keeps (.dma :: .hi :: .mss :: .freeCtr :: eventParts) s s₁ := by
  unfold execUpdateActivate at h
  refine run_keeps (by decide) (fun u hu => ?_) h
  refine serve_keeps (by decide) ?_ ?_
  · intro _ _ u0 hu1
    try beta_reduce
    refine inSession_keeps (by decide) ?_ ?_
    · intro _ u2 hu3
      try beta_reduce
      refine Keeps.ite ?_ ?_
      · refine (updateFail_keeps ..).step (by decide) ?_
        exact hu3
      · extract_lets -merge +onlyGivenNames x4
        have h5 : Keeps (.dma :: .hi :: .mss :: .freeCtr :: eventParts) s x4 := by
          unfold x4
          refine (closeSession_keeps ..).step (by decide) ?_
          exact hu3
        extract_lets -merge +onlyGivenNames x6
        have h7 : Keeps (.dma :: .hi :: .mss :: .freeCtr :: eventParts) s x6 := by
          unfold x6
          refine (bootWrite_keeps ..).step (by decide) ?_
          exact h5
        extract_lets -merge +onlyGivenNames x8
        extract_lets -merge +onlyGivenNames x9
        have h10 : Keeps (.dma :: .hi :: .mss :: .freeCtr :: eventParts) s x9 := by
          refine Keeps.ite ?_ ?_
          · refine Keeps.mss ?_ (by decide)
            exact h7
          · refine (bootWrite_keeps ..).step (by decide) ?_
            exact h5
        refine (answerMail_keeps ..).step (by decide) ?_
        refine (mssUpdateEv_keeps ..).step (by decide) ?_
        exact h10
    · exact hu1
  · exact hu

theorem execUpdateAbort_keeps (s : State) {s₁ : State}
    (h : execUpdateAbort s = .next s₁) : Keeps (.dma :: .hi :: .mss :: .freeCtr :: eventParts) s s₁ := by
  unfold execUpdateAbort at h
  refine run_keeps (by decide) (fun u hu => ?_) h
  refine serve_keeps (by decide) ?_ ?_
  · intro _ _ u0 hu1
    try beta_reduce
    refine inSession_keeps (by decide) ?_ ?_
    · intro _ u2 hu3
      try beta_reduce
      refine (answerMail_keeps ..).step (by decide) ?_
      refine (closeSession_keeps ..).step (by decide) ?_
      exact hu3
    · exact hu1
  · exact hu

theorem execOtpProfkey_keeps (s : State) {s₁ : State}
    (h : execOtpProfkey s = .next s₁) : Keeps (.dma :: .hi :: .mss :: .freeCtr :: eventParts) s s₁ := by
  unfold execOtpProfkey at h
  refine run_keeps (by decide) (fun u hu => ?_) h
  refine serve_keeps (by decide) ?_ ?_
  · intro _ _ u0 hu1
    try beta_reduce
    refine Keeps.ite ?_ ?_
    · refine (answerMail_keeps ..).step (by decide) ?_
      exact hu1
    · refine (answerMail_keeps ..).step (by decide) ?_
      refine Keeps.mssx ?_ (by decide)
      exact hu1
  · exact hu

theorem arbLostEv_keeps (addr : Nat) (cmd : Byte) (n : Nat) (at_ : Byte × Byte) (s : State) :
    Keeps (eventParts) s (arbLostEv addr cmd n at_ s) := by
  unfold arbLostEv
  refine (raiseMss_keeps ..).step (by decide) ?_
  exact Keeps.refl _ _

theorem smbEnd_keeps (addr : Nat) (cmd : Byte) (a : SmbAnswer) (s : State) :
    Keeps (eventParts) s (smbEnd addr cmd a s).2 := by
  cases a with
  | ok bs => exact Keeps.mk (Keeps.refl _ _)
  | nack => exact Keeps.mk (Keeps.refl _ _)
  | timeout => exact Keeps.mk (Keeps.refl _ _)
  | arbLost i b more final =>
    have h : ∀ p n t, Keeps eventParts s t → Keeps eventParts s (arbLostEv addr cmd n p t) :=
      fun p n t h => (arbLostEv_keeps ..).step (by decide) h
    rcases more with _ | ⟨x, _ | ⟨y, zs⟩⟩
    · exact Keeps.mk (h _ _ _ (Keeps.refl _ _))
    · exact Keeps.mk (h _ _ _ (h _ _ _ (Keeps.refl _ _)))
    · exact Keeps.mk ((raiseMss_keeps ..).step (by decide) (h _ _ _ (h _ _ _ (Keeps.refl _ _))))

theorem execSmbusXfer_keeps (a : SmbAnswer) (s : State) {s₁ : State}
    (h : execSmbusXfer a s = .next s₁) : Keeps (.dma :: .hi :: .mss :: .freeCtr :: eventParts) s s₁ := by
  unfold execSmbusXfer at h
  refine run_keeps (by decide) (fun u hu => ?_) h
  refine serve_keeps (by decide) ?_ ?_
  · intro _ _ u0 hu1
    try beta_reduce
    extract_lets -merge +onlyGivenNames x2 x3 x4 x5 x6 x7
    refine Keeps.ite ?_ ?_
    · refine (answerMail_keeps ..).step (by decide) ?_
      exact hu1
    · refine Keeps.ite ?_ ?_
      · split
        rename_i v8 v9 e11
        have hv10 : Keeps (.dma :: .hi :: .mss :: .freeCtr :: eventParts) s v9 := by
          refine Keeps.snd e11 ?_
          refine (draw_keeps ..).step (by decide) ?_
          exact hu1
        clear e11
        refine (answerMail_keeps ..).step (by decide) ?_
        exact hv10
      · split
        rename_i v12 v13 v14 e16
        have hv15 : Keeps (.dma :: .hi :: .mss :: .freeCtr :: eventParts) s v14 := by
          refine Keeps.snd e16 ?_
          refine (smbEnd_keeps ..).step (by decide) ?_
          exact hu1
        clear e16
        refine Keeps.ite ?_ ?_
        · refine (answerMail_keeps ..).step (by decide) ?_
          exact hv15
        · refine Keeps.ite ?_ ?_
          · extract_lets -merge +onlyGivenNames x17
            refine Keeps.ite ?_ ?_
            · refine (answerMail_keeps ..).step (by decide) ?_
              exact hv15
            · refine (answerMail_keeps ..).step (by decide) ?_
              exact hv15
          · refine (answerMail_keeps ..).step (by decide) ?_
            exact hv15
  · exact hu

theorem execSmbSensor_keeps (s : State) {s₁ : State}
    (h : execSmbSensor s = .next s₁) : Keeps (.dma :: .hi :: .mss :: .freeCtr :: eventParts) s s₁ := by
  unfold execSmbSensor at h
  refine run_keeps (by decide) (fun u hu => ?_) h
  refine serve_keeps (by decide) ?_ ?_
  · intro _ _ u0 hu1
    try beta_reduce
    extract_lets -merge +onlyGivenNames x2 x3
    refine Keeps.ite ?_ ?_
    · refine (answerMail_keeps ..).step (by decide) ?_
      exact hu1
    · extract_lets -merge +onlyGivenNames x4
      refine (answerMail_keeps ..).step (by decide) ?_
      refine Keeps.mssx ?_ (by decide)
      exact hu1
  · exact hu

theorem smbPoll_keeps (x : SmbSens) (a : SmbAnswer) (s : State) :
    Keeps (eventParts) s (smbPoll x a s) := by
  unfold smbPoll
  split
  rename_i v0 v1 v2 e4
  have hv3 : Keeps (eventParts) s v2 := by
    refine Keeps.snd e4 ?_
    refine (smbEnd_keeps ..).step (by decide) ?_
    exact Keeps.refl _ _
  clear e4
  refine (sensTake_keeps ..).step (by decide) ?_
  exact hv3

theorem execSmbSensorPoll_keeps (i : Nat) (a : SmbAnswer) (s : State) {s₁ : State}
    (h : execSmbSensorPoll i a s = .next s₁) : Keeps (eventParts) s s₁ := by
  unfold execSmbSensorPoll at h
  refine run_keeps (by decide) (fun u hu => ?_) h
  try beta_reduce
  split
  · refine Keeps.ite ?_ ?_
    · refine (smbPoll_keeps ..).step (by decide) ?_
      exact hu
    · exact hu
  · exact hu

theorem execSmbAlert_keeps (answers : List SmbAnswer) (s : State) {s₁ : State}
    (h : execSmbAlert answers s = .next s₁) : Keeps (eventParts) s s₁ := by
  unfold execSmbAlert at h
  refine run_keeps (by decide) (fun u hu => ?_) h
  try beta_reduce
  refine Keeps.ite ?_ ?_
  · refine Keeps.foldl ?_ (fun u0 _ hu1 => ?_)
    · exact hu
    · try beta_reduce
      refine (smbPoll_keeps ..).step (by decide) ?_
      exact hu1
  · exact hu

theorem execSmbusHostNotify_keeps (addr : Byte) (data : BitVec 16) (s : State) {s₁ : State}
    (h : execSmbusHostNotify addr data s = .next s₁) : Keeps (eventParts) s s₁ := by
  unfold execSmbusHostNotify at h
  refine run_keeps (by decide) (fun u hu => ?_) h
  try beta_reduce
  refine Keeps.ite ?_ ?_
  · refine (raiseMss_keeps ..).step (by decide) ?_
    exact hu
  · exact hu

/-! ### Machine/Tmp.lean -/

theorem drawKsmk_keeps (s : State) :
    Keeps ([.tmp, .freeCtr]) s (drawKsmk s) := by
  unfold drawKsmk
  split
  rename_i v0 v1 e3
  have hv2 : Keeps ([.tmp, .freeCtr]) s v1 := by
    refine Keeps.snd e3 ?_
    refine (draw_keeps ..).step (by decide) ?_
    exact Keeps.refl _ _
  clear e3
  split
  rename_i v4 v5 e7
  have hv6 : Keeps ([.tmp, .freeCtr]) s v5 := by
    refine Keeps.snd e7 ?_
    refine (draw_keeps ..).step (by decide) ?_
    exact hv2
  clear e7
  split
  rename_i v8 v9 e11
  have hv10 : Keeps ([.tmp, .freeCtr]) s v9 := by
    refine Keeps.snd e11 ?_
    refine (draw_keeps ..).step (by decide) ?_
    exact hv6
  clear e11
  split
  rename_i v12 v13 e15
  have hv14 : Keeps ([.tmp, .freeCtr]) s v13 := by
    refine Keeps.snd e15 ?_
    refine (draw_keeps ..).step (by decide) ?_
    exact hv10
  clear e15
  refine Keeps.tmp ?_ (by decide)
  exact hv14

theorem keyUnseal_keeps (s : State) :
    Keeps ([.cx, .tmp, .freeCtr]) s (keyUnseal s) := by
  unfold keyUnseal
  extract_lets -merge +onlyGivenNames x0
  have h1 : Keeps ([.cx, .tmp, .freeCtr]) s x0 := by
    refine Keeps.ite ?_ ?_
    · refine (drawKsmk_keeps ..).step (by decide) ?_
      exact Keeps.refl _ _
    · exact Keeps.refl _ _
  split
  · refine Keeps.cx_tmp ?_ (by decide) (by decide)
    exact h1
  · exact h1

theorem observeLive_keeps (s : State) :
    Keeps ([.tmp, .freeCtr]) s (observeLive s) := by
  unfold observeLive
  refine Keeps.foldl ?_ (fun u0 _ hu1 => ?_)
  · exact Keeps.refl _ _
  · try beta_reduce
    refine Keeps.ite ?_ ?_
    · split
      rename_i v2 v3 e5
      have hv4 : Keeps ([.tmp, .freeCtr]) s v3 := by
        refine Keeps.snd e5 ?_
        refine (draw_keeps ..).step (by decide) ?_
        exact hu1
      clear e5
      refine Keeps.ite ?_ ?_
      · exact hv4
      · refine Keeps.tmp ?_ (by decide)
        exact hv4
    · exact hu1

theorem eraseKeys_keeps (s : State) :
    Keeps ([.cx, .lg, .tmp]) s (eraseKeys s) := by
  unfold eraseKeys
  extract_lets -merge +onlyGivenNames x0
  have h1 : Keeps ([.cx, .lg, .tmp]) s x0 := by
    unfold x0
    refine Keeps.foldl ?_ (fun u2 _ hu3 => ?_)
    · exact Keeps.refl _ _
    · try beta_reduce
      extract_lets -merge +onlyGivenNames x4
      refine (clearSlot_keeps ..).step (by decide) ?_
      refine Keeps.ite ?_ ?_
      · exact hu3
      · refine (dropKeyLedger_keeps ..).step (by decide) ?_
        exact hu3
  refine Keeps.cx_tmp ?_ (by decide) (by decide)
  exact h1

theorem tamperFrames_keeps (s : State) :
    Keeps (.air :: .line :: .lt :: .ltx :: .hi :: eventParts) s (tamperFrames s).2 := by
  unfold tamperFrames
  extract_lets -merge +onlyGivenNames x0 x1
  extract_lets -merge +onlyGivenNames x2
  have h3 : Keeps (.air :: .line :: .lt :: .ltx :: .hi :: eventParts) s x2 := by
    unfold x2
    refine Keeps.foldl ?_ (fun u4 _ hu5 => ?_)
    · refine Keeps.ltx ?_ (by decide)
      exact Keeps.refl _ _
    · try beta_reduce
      refine (finish_keeps ..).step (by decide) ?_
      exact hu5
  extract_lets -merge +onlyGivenNames x6 x7
  extract_lets -merge +onlyGivenNames x8
  have h9 : Keeps (.air :: .line :: .lt :: .ltx :: .hi :: eventParts) s x8 := by
    unfold x8
    refine Keeps.foldl ?_ (fun u10 _ hu11 => ?_)
    · exact h3
    · try beta_reduce
      refine (failFrame_keeps ..).step (by decide) ?_
      exact hu11
  try with_reducible refine Keeps.mk ?_
  refine Keeps.line ?_ (by decide)
  exact h9

theorem gateEvents_keeps (action : Nat) (s : State) :
    Keeps (.freeCtr :: eventParts) s (gateEvents action s) := by
  unfold gateEvents
  refine Keeps.foldl ?_ (fun u0 _ hu1 => ?_)
  · exact Keeps.refl _ _
  · try beta_reduce
    split
    rename_i v2 v3 e5
    have hv4 : Keeps (.freeCtr :: eventParts) s v3 := by
      refine Keeps.snd e5 ?_
      refine (draw_keeps ..).step (by decide) ?_
      exact hu1
    clear e5
    refine (raiseMss_keeps ..).step (by decide) ?_
    exact hv4

theorem zeroEvents_keeps (s : State) (z : Zeroise) :
    Keeps (.tmp :: .freeCtr :: eventParts) s (zeroEvents s z) := by
  unfold zeroEvents
  extract_lets -merge +onlyGivenNames x0
  extract_lets -merge +onlyGivenNames x1
  have h2 : Keeps (.tmp :: .freeCtr :: eventParts) s x1 := by
    unfold x1
    refine (raiseAon_keeps ..).step (by decide) ?_
    exact Keeps.refl _ _
  refine Keeps.ite ?_ ?_
  · extract_lets -merge +onlyGivenNames x3
    have h4 : Keeps (.tmp :: .freeCtr :: eventParts) s x3 := by
      unfold x3
      refine (raiseAon_keeps ..).step (by decide) ?_
      exact h2
    refine Keeps.ite ?_ ?_
    · refine (gateEvents_keeps ..).step (by decide) ?_
      exact h4
    · exact h4
  · exact h2

theorem zeroSettle_keeps (s : State) :
    Keeps (.tmp :: .freeCtr :: eventParts) s (zeroSettle s) := by
  unfold zeroSettle
  extract_lets -merge +onlyGivenNames x0
  refine Keeps.foldl ?_ (fun u1 _ hu2 => ?_)
  · refine Keeps.tmp ?_ (by decide)
    exact Keeps.refl _ _
  · refine (zeroEvents_keeps ..).step (by decide) ?_
    exact hu2

theorem tamperUpdate_keeps (s : State) :
    Keeps (.hi :: .mss :: eventParts) s (tamperUpdate s) := by
  unfold tamperUpdate
  extract_lets -merge +onlyGivenNames x0
  have h1 : ∀ u2, Keeps (.hi :: .mss :: eventParts) s u2 → Keeps (.hi :: .mss :: eventParts) s (x0 u2) := by
    intro u2 hu3
    unfold x0
    try beta_reduce
    extract_lets -merge +onlyGivenNames x4
    have h5 : Keeps (.hi :: .mss :: eventParts) s x4 := by
      unfold x4
      refine (mssRestart_keeps ..).step (by decide) ?_
      exact hu3
    refine (raise_keeps ..).step (by decide) ?_
    exact h5
  split
  · extract_lets -merge +onlyGivenNames x6
    have h7 : Keeps (.hi :: .mss :: eventParts) s x6 := by
      unfold x6
      refine (bootWrite_keeps ..).step (by decide) ?_
      refine (closeSession_keeps ..).step (by decide) ?_
      exact Keeps.refl _ _
    refine h1 _ ?_
    refine (mssUpdateEv_keeps ..).step (by decide) ?_
    exact h7
  · refine Keeps.ite ?_ ?_
    · extract_lets -merge +onlyGivenNames x8
      refine h1 _ ?_
      refine (mssUpdateEv_keeps ..).step (by decide) ?_
      refine (bootWrite_keeps ..).step (by decide) ?_
      exact Keeps.refl _ _
    · exact Keeps.refl _ _

theorem zeroise_keeps (src : Nat) (s : State) :
    Keeps (.air :: .line :: .lt :: .ltx :: .slp :: .cx :: .hi :: .mss :: .tmp :: .pwr :: eventParts) s (zeroise src s) := by
  unfold zeroise
  refine Keeps.ite ?_ ?_
  · exact Keeps.refl _ _
  · extract_lets -merge +onlyGivenNames x0
    split
    rename_i v1 v2 e4
    have hv3 : Keeps (.air :: .line :: .lt :: .ltx :: .slp :: .cx :: .hi :: .mss :: .tmp :: .pwr :: eventParts) s v2 := by
      refine Keeps.snd e4 ?_
      refine Keeps.ite2 ?_ ?_
      · split
        rename_i v5 v6 e8
        have hv7 : Keeps (.air :: .line :: .lt :: .ltx :: .slp :: .cx :: .hi :: .mss :: .tmp :: .pwr :: eventParts) s v6 := by
          refine Keeps.snd e8 ?_
          refine (cxTamper_keeps ..).step (by decide) ?_
          exact Keeps.refl _ _
        clear e8
        split
        rename_i v9 v10 e12
        have hv11 : Keeps (.air :: .line :: .lt :: .ltx :: .slp :: .cx :: .hi :: .mss :: .tmp :: .pwr :: eventParts) s v10 := by
          refine Keeps.snd e12 ?_
          refine (tamperFrames_keeps ..).step (by decide) ?_
          exact hv7
        clear e12
        try with_reducible refine Keeps.mk ?_
        exact hv11
      · try with_reducible refine Keeps.mk ?_
        exact Keeps.refl _ _
    clear e4
    extract_lets -merge +onlyGivenNames x13
    extract_lets -merge +onlyGivenNames x14
    have h15 : Keeps (.air :: .line :: .lt :: .ltx :: .slp :: .cx :: .hi :: .mss :: .tmp :: .pwr :: eventParts) s x14 := by
      unfold x14
      refine (eraseKeys_keeps ..).step (by decide) ?_
      exact hv3
    extract_lets -merge +onlyGivenNames x16 x17
    extract_lets -merge +onlyGivenNames x18
    have h19 : Keeps (.air :: .line :: .lt :: .ltx :: .slp :: .cx :: .hi :: .mss :: .tmp :: .pwr :: eventParts) s x18 := by
      refine Keeps.tmp ?_ (by decide)
      exact h15
    extract_lets -merge +onlyGivenNames x20
    have h21 : Keeps (.air :: .line :: .lt :: .ltx :: .slp :: .cx :: .hi :: .mss :: .tmp :: .pwr :: eventParts) s x20 := by
      unfold x20
      refine (wakeBy_keeps ..).step (by decide) ?_
      exact h19
    refine Keeps.ite ?_ ?_
    · refine (tamperUpdate_keeps ..).step (by decide) ?_
      exact h21
    · exact h21

theorem alarm_keeps (src : Nat) (s : State) :
    Keeps (.air :: .line :: .lt :: .ltx :: .slp :: .cx :: .hi :: .mss :: .tmp :: .pwr :: eventParts) s (alarm src s) := by
  unfold alarm
  extract_lets -merge +onlyGivenNames x0 x1 x2 x3 x4
  extract_lets -merge +onlyGivenNames x5
  have h6 : Keeps (.air :: .line :: .lt :: .ltx :: .slp :: .cx :: .hi :: .mss :: .tmp :: .pwr :: eventParts) s x5 := by
    refine Keeps.tmp ?_ (by decide)
    exact Keeps.refl _ _
  extract_lets -merge +onlyGivenNames x7
  have h8 : Keeps (.air :: .line :: .lt :: .ltx :: .slp :: .cx :: .hi :: .mss :: .tmp :: .pwr :: eventParts) s x7 := by
    unfold x7
    refine (raiseAon_keeps ..).step (by decide) ?_
    exact h6
  refine Keeps.ite ?_ ?_
  · extract_lets -merge +onlyGivenNames x9
    have h10 : Keeps (.air :: .line :: .lt :: .ltx :: .slp :: .cx :: .hi :: .mss :: .tmp :: .pwr :: eventParts) s x9 := by
      unfold x9
      refine (zeroise_keeps ..).step (by decide) ?_
      exact h8
    refine Keeps.ite ?_ ?_
    · refine Keeps.pwr ?_ (by decide)
      exact h10
    · exact h10
  · exact h8

theorem execTamperInputAlarm_keeps (i : TamperIn) (s : State) {s₁ : State}
    (h : execTamperInputAlarm i s = .next s₁) : Keeps (.air :: .line :: .lt :: .ltx :: .slp :: .cx :: .hi :: .mss :: .tmp :: .pwr :: eventParts) s s₁ := by
  unfold execTamperInputAlarm at h
  refine runAon_keeps (by decide) (fun u hu => ?_) h
  try beta_reduce
  refine Keeps.ite ?_ ?_
  · refine (alarm_keeps ..).step (by decide) ?_
    exact hu
  · exact hu

theorem execGlitchAlarm_keeps (k : Glitch) (s : State) {s₁ : State}
    (h : execGlitchAlarm k s = .next s₁) : Keeps (.air :: .line :: .lt :: .ltx :: .slp :: .cx :: .hi :: .mss :: .tmp :: .pwr :: eventParts) s s₁ := by
  unfold execGlitchAlarm at h
  refine runAon_keeps (by decide) (fun u hu => ?_) h
  try beta_reduce
  extract_lets -merge +onlyGivenNames x0
  refine Keeps.ite ?_ ?_
  · refine (alarm_keeps ..).step (by decide) ?_
    exact hu
  · exact hu

theorem execZeroisationDone_keeps (s : State) {s₁ : State}
    (h : execZeroisationDone s = .next s₁) : Keeps (.tmp :: .freeCtr :: eventParts) s s₁ := by
  unfold execZeroisationDone at h
  refine runAon_keeps (by decide) (fun u hu => ?_) h
  try beta_reduce
  extract_lets -merge +onlyGivenNames x0
  refine (zeroSettle_keeps ..).step (by decide) ?_
  refine Keeps.tmp ?_ (by decide)
  exact hu

theorem tmpRefuse_keeps (cause : Nat) (s : State) :
    Keeps ([.tmp]) s (tmpRefuse cause s) := by
  unfold tmpRefuse
  refine Keeps.tmp ?_ (by decide)
  exact Keeps.refl _ _

theorem unlockNow_keeps (s : State) :
    Keeps (.cx :: .tmp :: .freeCtr :: eventParts) s (unlockNow s) := by
  unfold unlockNow
  extract_lets -merge +onlyGivenNames x0
  have h1 : Keeps (.cx :: .tmp :: .freeCtr :: eventParts) s x0 := by
    unfold x0
    refine (keyUnseal_keeps ..).step (by decide) ?_
    exact Keeps.refl _ _
  extract_lets -merge +onlyGivenNames x2
  extract_lets -merge +onlyGivenNames x3
  have h4 : Keeps (.cx :: .tmp :: .freeCtr :: eventParts) s x3 := by
    refine Keeps.tmp ?_ (by decide)
    exact h1
  refine (gateEvents_keeps ..).step (by decide) ?_
  refine (raise_keeps ..).step (by decide) ?_
  exact h4

theorem tmpCtrlWrite_keeps (v : Word) (s : State) :
    Keeps (.cx :: .tmp :: .freeCtr :: eventParts) s (tmpCtrlWrite v s) := by
  unfold tmpCtrlWrite
  extract_lets -merge +onlyGivenNames x0
  extract_lets -merge +onlyGivenNames x1
  have h2 : Keeps (.cx :: .tmp :: .freeCtr :: eventParts) s x1 := by
    refine Keeps.ite ?_ ?_
    · refine Keeps.tmp ?_ (by decide)
      exact Keeps.refl _ _
    · exact Keeps.refl _ _
  refine Keeps.ite ?_ ?_
  · exact h2
  · extract_lets -merge +onlyGivenNames x3
    have h4 : Keeps (.cx :: .tmp :: .freeCtr :: eventParts) s x3 := by
      unfold x3
      refine (observeLive_keeps ..).step (by decide) ?_
      exact h2
    refine Keeps.ite ?_ ?_
    · refine (tmpRefuse_keeps ..).step (by decide) ?_
      exact h4
    · refine Keeps.ite ?_ ?_
      · refine (tmpRefuse_keeps ..).step (by decide) ?_
        exact h4
      · refine Keeps.ite ?_ ?_
        · refine (tmpRefuse_keeps ..).step (by decide) ?_
          exact h4
        · refine (unlockNow_keeps ..).step (by decide) ?_
          exact h4

theorem execTamperUnlock_keeps (v : Word) (s : State) {s₁ : State}
    (h : execTamperUnlock v s = .next s₁) : Keeps (.slp :: .cx :: .tmp :: .pwr :: .freeCtr :: eventParts) s s₁ := by
  unfold execTamperUnlock at h
  refine runHost_keeps (by decide) (fun u hu => ?_) h
  refine (tmpCtrlWrite_keeps ..).step (by decide) ?_
  exact hu

theorem execTamperCfgLock_keeps (v : Word) (s : State) {s₁ : State}
    (h : execTamperCfgLock v s = .next s₁) : Keeps (.slp :: .cx :: .tmp :: .pwr :: .freeCtr :: eventParts) s s₁ := by
  unfold execTamperCfgLock at h
  refine runHost_keeps (by decide) (fun u hu => ?_) h
  refine (tmpCtrlWrite_keeps ..).step (by decide) ?_
  exact hu

theorem tmpCfgWrite_keeps (v : Word) (s : State) :
    Keeps ([.tmp]) s (tmpCfgWrite v s) := by
  unfold tmpCfgWrite
  refine Keeps.ite ?_ ?_
  · exact Keeps.refl _ _
  · extract_lets -merge +onlyGivenNames x0
    extract_lets -merge +onlyGivenNames x1
    have h2 : Keeps ([.tmp]) s x1 := by
      refine Keeps.tmp ?_ (by decide)
      exact Keeps.refl _ _
    extract_lets -merge +onlyGivenNames x3
    refine Keeps.tmp ?_ (by decide)
    exact h2

theorem tmpDebWrite_keeps (v : Word) (s : State) :
    Keeps ([.tmp]) s (tmpDebWrite v s) := by
  unfold tmpDebWrite
  refine Keeps.ite ?_ ?_
  · exact Keeps.refl _ _
  · refine Keeps.tmp ?_ (by decide)
    exact Keeps.refl _ _

theorem tmpLatchWrite_keeps (v : Word) (s : State) :
    Keeps ([.tmp]) s (tmpLatchWrite v s) := by
  unfold tmpLatchWrite
  refine Keeps.tmp ?_ (by decide)
  exact Keeps.refl _ _

theorem tmpStatusWrite_keeps (v : Word) (s : State) :
    Keeps ([.tmp]) s (tmpStatusWrite v s) := by
  unfold tmpStatusWrite
  refine Keeps.tmp ?_ (by decide)
  exact Keeps.refl _ _

theorem tmpStatusRead_keeps (s : State) :
    Keeps ([.tmp, .freeCtr]) s (tmpStatusRead s).2 := by
  unfold tmpStatusRead
  extract_lets -merge +onlyGivenNames x0
  have h1 : Keeps ([.tmp, .freeCtr]) s x0 := by
    unfold x0
    refine (observeLive_keeps ..).step (by decide) ?_
    exact Keeps.refl _ _
  try with_reducible refine Keeps.mk ?_
  exact h1

theorem aonPowerUp_keeps (s : State) :
    Keeps ([.life, .tmp, .freeCtr]) s (aonPowerUp s) := by
  unfold aonPowerUp
  split
  rename_i v0 v1 e3
  have hv2 : Keeps ([.life, .tmp, .freeCtr]) s v1 := by
    refine Keeps.snd e3 ?_
    refine (draw_keeps ..).step (by decide) ?_
    exact Keeps.refl _ _
  clear e3
  extract_lets -merge +onlyGivenNames x4 x5
  extract_lets -merge +onlyGivenNames x6
  have h7 : Keeps ([.life, .tmp, .freeCtr]) s x6 := by
    refine Keeps.life_tmp ?_ (by decide) (by decide) (fun h => ⟨h.straps, h.ready⟩)
    exact hv2
  refine (drawKsmk_keeps ..).step (by decide) ?_
  exact h7

/-! ### Machine/Post.lean -/

theorem afterPost_keeps (r : Nat) (t : Taken) (res : Result) (s : State) :
    Keeps (.hi :: .mss :: .tmp :: .freeCtr :: eventParts) s (afterPost r t res s) := by
  unfold afterPost
  extract_lets -merge +onlyGivenNames x0
  have h1 : Keeps (.hi :: .mss :: .tmp :: .freeCtr :: eventParts) s x0 := by
    unfold x0
    refine (zeroSettle_keeps ..).step (by decide) ?_
    refine (resetsSettle_keeps ..).step (by decide) ?_
    refine (resetsDrop_keeps ..).step (by decide) ?_
    exact Keeps.refl _ _
  extract_lets -merge +onlyGivenNames x2
  have h3 : Keeps (.hi :: .mss :: .tmp :: .freeCtr :: eventParts) s x2 := by
    unfold x2
    split
    · refine Keeps.ite ?_ ?_
      · refine (mssRestart_keeps ..).step (by decide) ?_
        exact h1
      · exact h1
    · exact h1
  split
  · refine Keeps.ite ?_ ?_
    · refine Keeps.ite ?_ ?_
      · refine (profileNext_keeps ..).step (by decide) ?_
        exact h3
      · refine (profileStop_keeps ..).step (by decide) ?_
        exact h3
    · exact h3
  · exact h3

theorem writeCpl_keeps (r m : Nat) (t : Taken) (res : Result) (s : State) :
    Keeps (.dma :: .hi :: eventParts) s (writeCpl r m t res s) := by
  unfold writeCpl
  extract_lets -merge +onlyGivenNames x0
  extract_lets -merge +onlyGivenNames x1
  have h2 : Keeps (.dma :: .hi :: eventParts) s x1 := by
    unfold x1
    refine (hostWrite_keeps ..).step (by decide) ?_
    exact Keeps.refl _ _
  extract_lets -merge +onlyGivenNames x3
  have h4 : Keeps (.dma :: .hi :: eventParts) s x3 := by
    unfold x3
    refine (updCq_keeps ..).step (by decide) ?_
    exact h2
  extract_lets -merge +onlyGivenNames x5
  have h6 : Keeps (.dma :: .hi :: eventParts) s x5 := by
    unfold x5
    refine Keeps.foldl ?_ (fun u7 _ hu8 => ?_)
    · exact h4
    · try beta_reduce
      refine (raiseP_keeps ..).step (by decide) ?_
      exact hu8
  extract_lets -merge +onlyGivenNames x9
  have h10 : Keeps (.dma :: .hi :: eventParts) s x9 := by
    refine Keeps.ite ?_ ?_
    · refine (raise_keeps ..).step (by decide) ?_
      exact h6
    · exact h6
  refine (cqNotify_keeps ..).step (by decide) ?_
  exact h10

theorem discardCpl_keeps (m : Nat) (t : Taken) (s : State) :
    Keeps (.hi :: eventParts) s (discardCpl m t s) := by
  unfold discardCpl
  extract_lets -merge +onlyGivenNames x0
  have h1 : Keeps (.hi :: eventParts) s x0 := by
    unfold x0
    refine (giveBack_keeps ..).step (by decide) ?_
    refine (updCq_keeps ..).step (by decide) ?_
    exact Keeps.refl _ _
  refine Keeps.foldl ?_ (fun u2 _ hu3 => ?_)
  · exact h1
  · try beta_reduce
    refine (raiseP_keeps ..).step (by decide) ?_
    exact hu3

theorem postOldest_keeps (r : Nat) (s : State) :
    Keeps (.dma :: .hi :: .mss :: .tmp :: .freeCtr :: eventParts) s (postOldest r s) := by
  unfold postOldest
  extract_lets -merge +onlyGivenNames x0
  split
  · exact Keeps.refl _ _
  · split
    · exact Keeps.refl _ _
    · extract_lets -merge +onlyGivenNames x1
      extract_lets -merge +onlyGivenNames x2
      have h3 : Keeps (.dma :: .hi :: .mss :: .tmp :: .freeCtr :: eventParts) s x2 := by
        unfold x2
        refine (updSq_keeps ..).step (by decide) ?_
        exact Keeps.refl _ _
      extract_lets -merge +onlyGivenNames x4
      have h5 : Keeps (.dma :: .hi :: .mss :: .tmp :: .freeCtr :: eventParts) s x4 := by
        unfold x4
        refine (giveBack_keeps ..).step (by decide) ?_
        exact h3
      extract_lets -merge +onlyGivenNames x6
      have h7 : Keeps (.dma :: .hi :: .mss :: .tmp :: .freeCtr :: eventParts) s x6 := by
        refine Keeps.ite ?_ ?_
        · refine (giveBack_keeps ..).step (by decide) ?_
          exact h5
        · exact h5
      extract_lets -merge +onlyGivenNames x8
      have h9 : Keeps (.dma :: .hi :: .mss :: .tmp :: .freeCtr :: eventParts) s x8 := by
        refine Keeps.ite ?_ ?_
        · refine (writeCpl_keeps ..).step (by decide) ?_
          exact h7
        · refine (discardCpl_keeps ..).step (by decide) ?_
          exact h7
      refine (afterPost_keeps ..).step (by decide) ?_
      exact h9

theorem execCompletionPost_keeps (r : Fin 16) (s : State) {s₁ : State}
    (h : execCompletionPost r s = .next s₁) : Keeps (.dma :: .hi :: .mss :: .tmp :: .freeCtr :: eventParts) s s₁ := by
  unfold execCompletionPost at h
  refine run_keeps (by decide) (fun u hu => ?_) h
  try beta_reduce
  refine Keeps.ite ?_ ?_
  · refine (postOldest_keeps ..).step (by decide) ?_
    exact hu
  · exact hu

theorem postRing_keeps (r n : Nat) (s : State) : Keeps (.dma :: .hi :: .mss :: .tmp :: .freeCtr :: eventParts) s (postRing r n s) := by
  induction n generalizing s with
  | zero => exact Keeps.refl _ _
  | succ n ih => exact (ih _).step (by decide) ((postOldest_keeps ..).step (by decide) (Keeps.refl _ _))

theorem postAll_keeps (s : State) :
    Keeps (.dma :: .hi :: .mss :: .tmp :: .freeCtr :: eventParts) s (postAll s) := by
  unfold postAll
  refine Keeps.foldl ?_ (fun u0 _ hu1 => ?_)
  · exact Keeps.refl _ _
  · try beta_reduce
    refine (postRing_keeps ..).step (by decide) ?_
    exact hu1

theorem abortTaken_keeps (r : Nat) (t : Taken) (s : State) :
    Keeps (.tmp :: eventParts) s (abortTaken r t s) := by
  unfold abortTaken
  extract_lets -merge +onlyGivenNames x0
  have h1 : Keeps (.tmp :: eventParts) s x0 := by
    unfold x0
    refine (giveBack_keeps ..).step (by decide) ?_
    exact Keeps.refl _ _
  extract_lets -merge +onlyGivenNames x2
  have h3 : Keeps (.tmp :: eventParts) s x2 := by
    refine Keeps.ite ?_ ?_
    · refine (giveBack_keeps ..).step (by decide) ?_
      exact h1
    · exact h1
  extract_lets -merge +onlyGivenNames x4
  have h5 : Keeps (.tmp :: eventParts) s x4 := by
    unfold x4
    refine Keeps.foldl ?_ (fun u6 _ hu7 => ?_)
    · exact h3
    · try beta_reduce
      refine (raiseP_keeps ..).step (by decide) ?_
      exact hu7
  refine (resetsDrop_keeps ..).step (by decide) ?_
  exact h5

theorem flrFrame_keeps (f : TxFrame) (s : State) :
    Keeps (.air :: .line :: .lt :: .ltx :: .hi :: eventParts) s (flrFrame f s) := by
  unfold flrFrame
  extract_lets -merge +onlyGivenNames x0 x1 x2
  refine Keeps.ite ?_ ?_
  · extract_lets -merge +onlyGivenNames x3
    have h4 : Keeps (.air :: .line :: .lt :: .ltx :: .hi :: eventParts) s x3 := by
      unfold x3
      refine (updFrame_keeps ..).step (by decide) ?_
      exact Keeps.refl _ _
    refine Keeps.ite ?_ ?_
    · refine (postedFailed_keeps ..).step (by decide) ?_
      exact h4
    · exact h4
  · refine (failFrame_keeps ..).step (by decide) ?_
    exact Keeps.refl _ _

theorem flrUnits_keeps (s : State) :
    Keeps ([.ltx, .rg, .cx, .hi, .lg, .mss]) s (flrUnits s) := by
  unfold flrUnits
  extract_lets -merge +onlyGivenNames x0 x1 x2 x3 x4 x5
  extract_lets -merge +onlyGivenNames x6
  have h7 : Keeps ([.ltx, .rg, .cx, .hi, .lg, .mss]) s x6 := by
    refine Keeps.ltx_rg_cx_hi_mss ?_ (by decide) (by decide) (by decide) (by decide) (by decide)
    exact Keeps.refl _ _
  extract_lets -merge +onlyGivenNames x8
  have h9 : Keeps ([.ltx, .rg, .cx, .hi, .lg, .mss]) s x8 := by
    unfold x8
    refine Keeps.foldl ?_ (fun u10 _ hu11 => ?_)
    · exact h7
    · try beta_reduce
      refine (endJob_keeps ..).step (by decide) ?_
      exact hu11
  refine Keeps.foldl ?_ (fun u12 _ hu13 => ?_)
  · exact h9
  · try beta_reduce
    refine (updCh_keeps ..).step (by decide) ?_
    exact hu13

theorem flrRegs_keeps (s : State) : Keeps ([.dma, .cln, .hi, .msix, .ev, .staging]) s (flrRegs s) := by
  unfold flrRegs
  refine Keeps.cln_hi_msix_ev_staging (Keeps.refl _ _) (by decide) (by decide) (by decide) (by decide) (by decide)
    (fun h => ⟨fun k => h.straps (.inl (k.resolve_right (by simp))), h.ready⟩)
    (by decide) (fun h => RingSt.noConfusion h)

theorem hostLinkReset_keeps (s : State) :
    Keeps (.dma :: .cln :: .air :: .line :: .lt :: .ltx :: .rg :: .cx :: .cv :: .hi :: .mss :: .tmp :: .staging :: .freeCtr :: eventParts) s (hostLinkReset s) := by
  unfold hostLinkReset
  extract_lets -merge +onlyGivenNames x0 x1
  extract_lets -merge +onlyGivenNames x2
  have h3 : Keeps (.dma :: .cln :: .air :: .line :: .lt :: .ltx :: .rg :: .cx :: .cv :: .hi :: .mss :: .tmp :: .staging :: .freeCtr :: eventParts) s x2 := by
    unfold x2
    refine (evDisable_keeps ..).step (by decide) ?_
    exact Keeps.refl _ _
  extract_lets -merge +onlyGivenNames x4
  have h5 : Keeps (.dma :: .cln :: .air :: .line :: .lt :: .ltx :: .rg :: .cx :: .cv :: .hi :: .mss :: .tmp :: .staging :: .freeCtr :: eventParts) s x4 := by
    unfold x4
    refine Keeps.foldl ?_ (fun u6 _ hu7 => ?_)
    · exact h3
    · try beta_reduce
      refine (cqDisable_keeps ..).step (by decide) ?_
      exact hu7
  extract_lets -merge +onlyGivenNames x8
  have h9 : Keeps (.dma :: .cln :: .air :: .line :: .lt :: .ltx :: .rg :: .cx :: .cv :: .hi :: .mss :: .tmp :: .staging :: .freeCtr :: eventParts) s x8 := by
    unfold x8
    refine Keeps.foldl ?_ (fun u10 _ hu11 => ?_)
    · exact h5
    · try beta_reduce
      refine (updSq_keeps ..).step (by decide) ?_
      exact hu11
  extract_lets -merge +onlyGivenNames x12
  have h13 : Keeps (.dma :: .cln :: .air :: .line :: .lt :: .ltx :: .rg :: .cx :: .cv :: .hi :: .mss :: .tmp :: .staging :: .freeCtr :: eventParts) s x12 := by
    unfold x12
    refine Keeps.foldl ?_ (fun u14 _ hu15 => ?_)
    · exact h9
    · try beta_reduce
      refine (abortTaken_keeps ..).step (by decide) ?_
      exact hu15
  extract_lets -merge +onlyGivenNames x16
  have h17 : Keeps (.dma :: .cln :: .air :: .line :: .lt :: .ltx :: .rg :: .cx :: .cv :: .hi :: .mss :: .tmp :: .staging :: .freeCtr :: eventParts) s x16 := by
    unfold x16
    refine Keeps.foldl ?_ (fun u18 _ hu19 => ?_)
    · exact h13
    · try beta_reduce
      refine (flrFrame_keeps ..).step (by decide) ?_
      exact hu19
  extract_lets -merge +onlyGivenNames x20
  have h21 : Keeps (.dma :: .cln :: .air :: .line :: .lt :: .ltx :: .rg :: .cx :: .cv :: .hi :: .mss :: .tmp :: .staging :: .freeCtr :: eventParts) s x20 := by
    unfold x20
    refine (cvHostReset_keeps ..).step (by decide) ?_
    refine (flrRegs_keeps ..).step (by decide) ?_
    refine (flrUnits_keeps ..).step (by decide) ?_
    exact h17
  extract_lets -merge +onlyGivenNames x22
  have h23 : Keeps (.dma :: .cln :: .air :: .line :: .lt :: .ltx :: .rg :: .cx :: .cv :: .hi :: .mss :: .tmp :: .staging :: .freeCtr :: eventParts) s x22 := by
    unfold x22
    refine (raise_keeps ..).step (by decide) ?_
    exact h21
  extract_lets -merge +onlyGivenNames x24
  have h25 : Keeps (.dma :: .cln :: .air :: .line :: .lt :: .ltx :: .rg :: .cx :: .cv :: .hi :: .mss :: .tmp :: .staging :: .freeCtr :: eventParts) s x24 := by
    unfold x24
    refine (zeroSettle_keeps ..).step (by decide) ?_
    refine (resetsSettle_keeps ..).step (by decide) ?_
    exact h23
  clear_value  x0
  split
  · refine (mssRestart_keeps ..).step (by decide) ?_
    exact h25
  · exact h25

theorem linkRow_keeps {L : List Part} {s t : State} {f : State → State} (hL : [] ⊆ L) (k : ∀ u, Keeps L s u → Keeps L s (f u))
    (h : linkRow s f = .next t) : Keeps L s t :=
  run_keeps hL (fun u hu => Keeps.ite hu (k u hu)) h

theorem execFlr_keeps (s : State) {s₁ : State}
    (h : execFlr s = .next s₁) : Keeps (.dma :: .cln :: .air :: .line :: .lt :: .ltx :: .rg :: .cx :: .cv :: .hi :: .mss :: .tmp :: .staging :: .freeCtr :: eventParts) s s₁ := by
  unfold execFlr at h
  refine linkRow_keeps (by decide) (fun u hu => ?_) h
  refine (hostLinkReset_keeps ..).step (by decide) ?_
  exact hu

theorem linkLost_keeps (s : State) :
    Keeps (.dma :: .cln :: .life :: .air :: .line :: .lt :: .ltx :: .rg :: .cx :: .cv :: .hi :: .mss :: .tmp :: .staging :: .freeCtr :: eventParts) s (linkLost s) := by
  unfold linkLost
  refine (hostLinkReset_keeps ..).step (by decide) ?_
  refine Keeps.life ?_ (by decide) (fun h => ⟨h.straps, h.ready⟩)
  exact Keeps.refl _ _

theorem execPePerstAssert_keeps (s : State) {s₁ : State}
    (h : execPePerstAssert s = .next s₁) : Keeps (.dma :: .cln :: .life :: .air :: .line :: .lt :: .ltx :: .rg :: .cx :: .cv :: .hi :: .mss :: .tmp :: .staging :: .freeCtr :: eventParts) s s₁ := by
  unfold execPePerstAssert at h
  refine linkRow_keeps (by decide) (fun u hu => ?_) h
  refine (linkLost_keeps ..).step (by decide) ?_
  exact hu

theorem execHotReset_keeps (s : State) {s₁ : State}
    (h : execHotReset s = .next s₁) : Keeps (.dma :: .cln :: .life :: .air :: .line :: .lt :: .ltx :: .rg :: .cx :: .cv :: .hi :: .mss :: .tmp :: .staging :: .freeCtr :: eventParts) s s₁ := by
  unfold execHotReset at h
  refine linkRow_keeps (by decide) (fun u hu => ?_) h
  refine (linkLost_keeps ..).step (by decide) ?_
  exact hu

theorem execLinkDown_keeps (s : State) {s₁ : State}
    (h : execLinkDown s = .next s₁) : Keeps (.dma :: .cln :: .life :: .air :: .line :: .lt :: .ltx :: .rg :: .cx :: .cv :: .hi :: .mss :: .tmp :: .staging :: .freeCtr :: eventParts) s s₁ := by
  unfold execLinkDown at h
  refine linkRow_keeps (by decide) (fun u hu => ?_) h
  try beta_reduce
  refine Keeps.ite ?_ ?_
  · refine (linkLost_keeps ..).step (by decide) ?_
    exact hu
  · exact hu

end Sys2Proof.Machine
end

