-- ==== Sys2Proof/Laws/FramePower.lean ====
section
/-! SUPPORT. The frames of the functions of pins, power, start, registers, the profile, frames from the line and the tick: outside the components listed
each changes nothing, and it leaves a sound state sound. -/
namespace Sys2Proof.Machine

/-! ### Machine/Pmx.lean -/

theorem withInputs_keeps {L : List Part} {s t : State} {f : State → State} (hL : [.rg] ⊆ L)
    (hf : ∀ u, Keeps L s u → Keeps L s (f u)) (h : Keeps L s t) : Keeps L s (withInputs f t) := by
  unfold withInputs
  refine Keeps.foldl (hf _ h) fun u k hu => ?_
  exact Keeps.ite hu ((rgInputEdge_keeps ..).step (List.Subset.trans (by decide) hL) hu)

theorem setBank_keeps (b : Nat) (v : BankVolt) (s : State) :
    Keeps ([.rg, .pmx]) s (setBank b v s) := by
  unfold setBank
  refine withInputs_keeps (by decide) ?_ ?_
  · intro u0 hu1
    try beta_reduce
    refine Keeps.pmx ?_ (by decide)
    exact hu1
  · exact Keeps.refl _ _

theorem confEnd_keeps (x : Nat) (s : State) :
    Keeps (.pmx :: eventParts) s (confEnd x s) := by
  unfold confEnd
  split
  · refine Keeps.ite ?_ ?_
    · refine (raise_keeps ..).step (by decide) ?_
      refine Keeps.pmx ?_ (by decide)
      exact Keeps.refl _ _
    · exact Keeps.refl _ _
  · exact Keeps.refl _ _

theorem confBegin_keeps (x : Nat) (s : State) :
    Keeps (.pmx :: eventParts) s (confBegin x s) := by
  unfold confBegin
  split
  · extract_lets -merge +onlyGivenNames x0 x1
    extract_lets -merge +onlyGivenNames x2
    have h3 : Keeps (.pmx :: eventParts) s x2 := by
      refine Keeps.pmx ?_ (by decide)
      exact Keeps.refl _ _
    refine Keeps.ite ?_ ?_
    · refine (raise_keeps ..).step (by decide) ?_
      exact h3
    · exact h3
  · exact Keeps.refl _ _

theorem confSettle_keeps (s : State) :
    Keeps (.pmx :: eventParts) s (confSettle s) := by
  unfold confSettle
  refine Keeps.foldl ?_ (fun u0 _ hu1 => ?_)
  · refine Keeps.foldl ?_ (fun u2 _ hu3 => ?_)
    · exact Keeps.refl _ _
    · try beta_reduce
      refine (confEnd_keeps ..).step (by decide) ?_
      exact hu3
  · try beta_reduce
    refine (confBegin_keeps ..).step (by decide) ?_
    exact hu1

theorem pmxRefuse_keeps (s : State) :
    Keeps ([.pmx]) s (pmxRefuse s) := by
  unfold pmxRefuse
  refine Keeps.pmx ?_ (by decide)
  exact Keeps.refl _ _

theorem pinWrite_keeps (i : Nat) (v : Word) (s : State) :
    Keeps (.rg :: .pmx :: eventParts) s (pinWrite i v s) := by
  unfold pinWrite
  refine Keeps.ite ?_ ?_
  · refine (pmxRefuse_keeps ..).step (by decide) ?_
    exact Keeps.refl _ _
  · refine withInputs_keeps (by decide) ?_ ?_
    · intro u0 hu1
      try beta_reduce
      refine (confSettle_keeps ..).step (by decide) ?_
      refine Keeps.pmx ?_ (by decide)
      exact hu1
    · exact Keeps.refl _ _

theorem execPinFuncWrite_keeps (i : Fin 48) (v : Word) (s : State) {s₁ : State}
    (h : execPinFuncWrite i v s = .next s₁) : Keeps (.slp :: .rg :: .pwr :: .pmx :: eventParts) s s₁ := by
  unfold execPinFuncWrite at h
  refine runHost_keeps (by decide) (fun u hu => ?_) h
  refine (pinWrite_keeps ..).step (by decide) ?_
  exact hu

theorem pmxCtrlWrite_keeps (v : Word) (s : State) :
    Keeps ([.pmx]) s (pmxCtrlWrite v s) := by
  unfold pmxCtrlWrite
  refine Keeps.pmx ?_ (by decide)
  exact Keeps.refl _ _

theorem execPmxLock_keeps (v : Word) (s : State) {s₁ : State}
    (h : execPmxLock v s = .next s₁) : Keeps ([.slp, .pwr, .pmx]) s s₁ := by
  unfold execPmxLock at h
  refine runHost_keeps (by decide) (fun u hu => ?_) h
  refine (pmxCtrlWrite_keeps ..).step (by decide) ?_
  exact hu

theorem pmxStatusWrite_keeps (v : Word) (s : State) :
    Keeps ([.pmx]) s (pmxStatusWrite v s) := by
  unfold pmxStatusWrite
  refine Keeps.pmx ?_ (by decide)
  exact Keeps.refl _ _

theorem gpioOutWrite_keeps (hi : Bool) (v : Word) (s : State) :
    Keeps ([.pmx]) s (gpioOutWrite hi v s) := by
  unfold gpioOutWrite
  refine Keeps.pmx ?_ (by decide)
  exact Keeps.refl _ _

theorem gpioOeWrite_keeps (hi : Bool) (v : Word) (s : State) :
    Keeps ([.pmx]) s (gpioOeWrite hi v s) := by
  unfold gpioOeWrite
  refine Keeps.pmx ?_ (by decide)
  exact Keeps.refl _ _

theorem tapSet_keeps (ir : TapInstr) (s : State) :
    Keeps ([.pmx]) s (tapSet ir s) := by
  unfold tapSet
  refine Keeps.pmx ?_ (by decide)
  exact Keeps.refl _ _

theorem execTapInstructionLoad_keeps (ir : TapInstr) (s : State) {s₁ : State}
    (h : execTapInstructionLoad ir s = .next s₁) : Keeps ([.pmx]) s s₁ := by
  unfold execTapInstructionLoad at h
  refine Keeps.next ?_ h
  extract_lets -merge +onlyGivenNames x0
  have h1 : Keeps ([.pmx]) s x0 := by
    unfold x0
    refine (tapSet_keeps ..).step (by decide) ?_
    exact Keeps.refl _ _
  refine Keeps.queue ?_
  exact h1

theorem execTapReset_keeps (s : State) {s₁ : State}
    (h : execTapReset s = .next s₁) : Keeps ([.pmx]) s s₁ := by
  unfold execTapReset at h
  refine Keeps.next ?_ h
  extract_lets -merge +onlyGivenNames x0
  have h1 : Keeps ([.pmx]) s x0 := by
    unfold x0
    refine (tapSet_keeps ..).step (by decide) ?_
    exact Keeps.refl _ _
  refine Keeps.queue ?_
  exact h1

/-! ### Machine/Pwr.lean -/

theorem pwrRefuse_keeps (cause : Nat) (s : State) :
    Keeps ([.pwr]) s (pwrRefuse cause s) := by
  unfold pwrRefuse
  refine Keeps.pwr ?_ (by decide)
  exact Keeps.refl _ _

theorem dropPortFrames_keeps (p : Nat) (s : State) :
    Keeps (.air :: .line :: .lt :: .ltx :: .hi :: eventParts) s (dropPortFrames p s) := by
  unfold dropPortFrames
  extract_lets -merge +onlyGivenNames x0
  have h1 : Keeps (.air :: .line :: .lt :: .ltx :: .hi :: eventParts) s x0 := by
    unfold x0
    refine Keeps.foldl ?_ (fun u2 _ hu3 => ?_)
    · exact Keeps.refl _ _
    · try beta_reduce
      refine (frameOffPort_keeps ..).step (by decide) ?_
      exact hu3
  refine Keeps.line ?_ (by decide)
  exact h1

theorem lineOff_keeps (s : State) :
    Keeps (.air :: .afe :: .line :: .lt :: .ltx :: .hi :: eventParts) s (lineOff s) := by
  unfold lineOff
  extract_lets -merge +onlyGivenNames x0
  have h1 : Keeps (.air :: .afe :: .line :: .lt :: .ltx :: .hi :: eventParts) s x0 := by
    unfold x0
    refine Keeps.foldl ?_ (fun u2 _ hu3 => ?_)
    · exact Keeps.refl _ _
    · try beta_reduce
      refine (updPortX_keeps ..).step (by decide) ?_
      refine (updPort_keeps ..).step (by decide) ?_
      exact hu3
  refine Keeps.foldl ?_ (fun u4 _ hu5 => ?_)
  · exact h1
  · try beta_reduce
    refine (dropPortFrames_keeps ..).step (by decide) ?_
    exact hu5

theorem lineOn_keeps (s : State) :
    Keeps (.air :: .afe :: .line :: .lt :: .ltx :: .hi :: .freeCtr :: eventParts) s (lineOn s) := by
  unfold lineOn
  refine Keeps.foldl ?_ (fun u0 _ hu1 => ?_)
  · exact Keeps.refl _ _
  · try beta_reduce
    refine Keeps.ite ?_ ?_
    · refine (portIdle_keeps ..).step (by decide) ?_
      exact hu1
    · exact hu1

theorem setPwr_keeps (new : PwrSt) (src : Nat) (s : State) :
    Keeps (.pwr :: eventParts) s (setPwr new src s) := by
  unfold setPwr
  extract_lets -merge +onlyGivenNames x0 x1 x2
  extract_lets -merge +onlyGivenNames x3
  have h4 : Keeps (.pwr :: eventParts) s x3 := by
    refine Keeps.pwr ?_ (by decide)
    exact Keeps.refl _ _
  refine (raise_keeps ..).step (by decide) ?_
  exact h4

theorem execSleepEntry_keeps (s : State) {s₁ : State}
    (h : execSleepEntry s = .next s₁) : Keeps (.air :: .afe :: .line :: .lt :: .ltx :: .slp :: .hi :: .pwr :: .clk :: eventParts) s s₁ := by
  unfold execSleepEntry at h
  refine run_keeps (by decide) (fun u hu => ?_) h
  try beta_reduce
  refine Keeps.ite ?_ ?_
  · refine Keeps.ite ?_ ?_
    · refine (awakeStop_keeps ..).step (by decide) ?_
      refine (setPwr_keeps ..).step (by decide) ?_
      refine (lineOff_keeps ..).step (by decide) ?_
      exact hu
    · extract_lets -merge +onlyGivenNames x0
      have h1 : Keeps (.air :: .afe :: .line :: .lt :: .ltx :: .slp :: .hi :: .pwr :: .clk :: eventParts) s x0 := by
        unfold x0
        refine (setPwr_keeps ..).step (by decide) ?_
        refine (lineOff_keeps ..).step (by decide) ?_
        exact hu
      refine (awakeStop_keeps ..).step (by decide) ?_
      refine Keeps.slp_clk ?_ (by decide) (by decide)
      exact h1
  · exact hu

theorem sleepLeave_keeps (src : Nat) (s : State) :
    Keeps (.air :: .afe :: .line :: .lt :: .ltx :: .hi :: .pwr :: .clk :: .freeCtr :: eventParts) s (sleepLeave src s) := by
  unfold sleepLeave
  extract_lets -merge +onlyGivenNames x0 x1
  extract_lets -merge +onlyGivenNames x2
  have h3 : Keeps (.air :: .afe :: .line :: .lt :: .ltx :: .hi :: .pwr :: .clk :: .freeCtr :: eventParts) s x2 := by
    refine Keeps.pwr_clk ?_ (by decide) (by decide)
    exact Keeps.refl _ _
  refine (evNotify_keeps ..).step (by decide) ?_
  refine (evDrainAll_keeps ..).step (by decide) ?_
  refine (lineOn_keeps ..).step (by decide) ?_
  refine (setPwr_keeps ..).step (by decide) ?_
  exact h3

theorem execSleepWakeTimer_keeps (s : State) {s₁ : State}
    (h : execSleepWakeTimer s = .next s₁) : Keeps ([.slp, .pwr]) s s₁ := by
  unfold execSleepWakeTimer at h
  refine run_keeps (by decide) (fun u hu => ?_) h
  try beta_reduce
  refine Keeps.ite ?_ ?_
  · refine (wakeBy_keeps ..).step (by decide) ?_
    exact hu
  · exact hu

theorem execPwrWakeInput_keeps (s : State) {s₁ : State}
    (h : execPwrWakeInput s = .next s₁) : Keeps ([.slp, .pwr, .pmx]) s s₁ := by
  unfold execPwrWakeInput at h
  refine runAon_keeps (by decide) (fun u hu => ?_) h
  try beta_reduce
  refine Keeps.ite ?_ ?_
  · refine Keeps.ite ?_ ?_
    · refine Keeps.pwr ?_ (by decide)
      exact hu
    · exact hu
  · refine Keeps.ite ?_ ?_
    · split
      · refine (wakeBy_keeps ..).step (by decide) ?_
        refine (setPad_keeps ..).step (by decide) ?_
        exact hu
      · exact hu
    · exact hu

theorem execSleepExitDone_keeps (s : State) {s₁ : State}
    (h : execSleepExitDone s = .next s₁) : Keeps (.air :: .afe :: .line :: .lt :: .ltx :: .hi :: .pwr :: .clk :: .freeCtr :: eventParts) s s₁ := by
  unfold execSleepExitDone at h
  refine run_keeps (by decide) (fun u hu => ?_) h
  try beta_reduce
  split
  · refine Keeps.ite ?_ ?_
    · refine (sleepLeave_keeps ..).step (by decide) ?_
      exact hu
    · exact hu
  · exact hu

theorem holdoverIn_keeps (s : State) :
    Keeps (.air :: .afe :: .line :: .lt :: .ltx :: .slp :: .rg :: .hi :: .pwr :: .clk :: eventParts) s (holdoverIn s) := by
  unfold holdoverIn
  extract_lets -merge +onlyGivenNames x0
  have h1 : Keeps (.air :: .afe :: .line :: .lt :: .ltx :: .slp :: .rg :: .hi :: .pwr :: .clk :: eventParts) s x0 := by
    unfold x0
    refine (rgHoldover_keeps ..).step (by decide) ?_
    exact Keeps.refl _ _
  extract_lets -merge +onlyGivenNames x2
  extract_lets -merge +onlyGivenNames x3
  have h4 : Keeps (.air :: .afe :: .line :: .lt :: .ltx :: .slp :: .rg :: .hi :: .pwr :: .clk :: eventParts) s x3 := by
    unfold x3
    refine (awakeStop_keeps ..).step (by decide) ?_
    refine Keeps.slp ?_ (by decide)
    exact h1
  extract_lets -merge +onlyGivenNames x5 x6
  extract_lets -merge +onlyGivenNames x7
  have h8 : Keeps (.air :: .afe :: .line :: .lt :: .ltx :: .slp :: .rg :: .hi :: .pwr :: .clk :: eventParts) s x7 := by
    refine Keeps.pwr_clk ?_ (by decide) (by decide)
    exact h4
  refine (setPwr_keeps ..).step (by decide) ?_
  refine (lineOff_keeps ..).step (by decide) ?_
  exact h8

theorem execHoldoverEnter_keeps (s : State) {s₁ : State}
    (h : execHoldoverEnter s = .next s₁) : Keeps (.air :: .afe :: .line :: .lt :: .ltx :: .slp :: .rg :: .hi :: .pwr :: .clk :: .freeCtr :: eventParts) s s₁ := by
  unfold execHoldoverEnter at h
  refine run_keeps (by decide) (fun u hu => ?_) h
  try beta_reduce
  extract_lets -merge +onlyGivenNames x0
  extract_lets -merge +onlyGivenNames x1
  have h2 : Keeps (.air :: .afe :: .line :: .lt :: .ltx :: .slp :: .rg :: .hi :: .pwr :: .clk :: .freeCtr :: eventParts) s x1 := by
    refine Keeps.pwr ?_ (by decide)
    exact hu
  extract_lets -merge +onlyGivenNames x3
  refine Keeps.ite ?_ ?_
  · exact h2
  · refine (holdoverIn_keeps ..).step (by decide) ?_
    refine Keeps.ite ?_ ?_
    · refine (sleepLeave_keeps ..).step (by decide) ?_
      exact h2
    · exact h2

theorem teResume_keeps (s : State) :
    Keeps (.te :: .tex :: eventParts) s (teResume s) := by
  unfold teResume
  extract_lets -merge +onlyGivenNames x0
  refine Keeps.ite ?_ ?_
  · exact Keeps.refl _ _
  · extract_lets -merge +onlyGivenNames x1
    have h2 : Keeps (.te :: .tex :: eventParts) s x1 := by
      unfold x1
      refine (srcBack_keeps ..).step (by decide) ?_
      exact Keeps.refl _ _
    refine Keeps.te_tex ?_ (by decide) (by decide)
    exact h2

theorem execHoldoverExit_keeps (s : State) {s₁ : State}
    (h : execHoldoverExit s = .next s₁) : Keeps (.air :: .afe :: .line :: .lt :: .ltx :: .te :: .tex :: .hi :: .pwr :: .clk :: .freeCtr :: eventParts) s s₁ := by
  unfold execHoldoverExit at h
  refine run_keeps (by decide) (fun u hu => ?_) h
  try beta_reduce
  extract_lets -merge +onlyGivenNames x0
  extract_lets -merge +onlyGivenNames x1
  have h2 : Keeps (.air :: .afe :: .line :: .lt :: .ltx :: .te :: .tex :: .hi :: .pwr :: .clk :: .freeCtr :: eventParts) s x1 := by
    refine Keeps.pwr ?_ (by decide)
    exact hu
  refine Keeps.ite ?_ ?_
  · extract_lets -merge +onlyGivenNames x3 x4
    extract_lets -merge +onlyGivenNames x5
    have h6 : Keeps (.air :: .afe :: .line :: .lt :: .ltx :: .te :: .tex :: .hi :: .pwr :: .clk :: .freeCtr :: eventParts) s x5 := by
      refine Keeps.pwr_clk ?_ (by decide) (by decide)
      exact h2
    refine (teResume_keeps ..).step (by decide) ?_
    refine (lineOn_keeps ..).step (by decide) ?_
    refine (setPwr_keeps ..).step (by decide) ?_
    exact h6
  · exact h2

theorem coreDown_keeps (s : State) : Keeps ([.life, .cx, .lg, .tmp]) s (coreDown s) := by
  unfold coreDown
  refine Keeps.life_cx_lg_tmp (Keeps.refl _ _) (by decide) (by decide) (by decide) (by decide)
    (fun _ => ⟨List.Pairwise.nil, fun _ h => by cases h⟩) (fun h => ⟨h.straps, h.ready⟩)

theorem dormantIn_keeps (s : State) :
    Keeps (.life :: .cx :: .tmp :: .pwr :: .clk :: eventParts) s (dormantIn s) := by
  unfold dormantIn
  extract_lets -merge +onlyGivenNames x0 x1
  extract_lets -merge +onlyGivenNames x2
  have h3 : Keeps (.life :: .cx :: .tmp :: .pwr :: .clk :: eventParts) s x2 := by
    unfold x2
    refine (raise_keeps ..).step (by decide) ?_
    exact Keeps.refl _ _
  refine (coreDown_keeps ..).step (by decide) ?_
  refine Keeps.pwr_clk ?_ (by decide) (by decide)
  exact h3

theorem rxPostsDown_keeps (s : State) :
    Keeps (.dma :: .hi :: .mss :: .tmp :: .freeCtr :: eventParts) s (rxPostsDown s) := by
  unfold rxPostsDown
  extract_lets -merge +onlyGivenNames x0 x1
  extract_lets -merge +onlyGivenNames x2
  have h3 : Keeps (.dma :: .hi :: .mss :: .tmp :: .freeCtr :: eventParts) s x2 := by
    unfold x2
    refine Keeps.foldl ?_ (fun u4 _ hu5 => ?_)
    · refine Keeps.hi ?_ (by decide)
      exact Keeps.refl _ _
    · try beta_reduce
      refine (finish_keeps ..).step (by decide) ?_
      exact hu5
  refine (postAll_keeps ..).step (by decide) ?_
  exact h3

theorem pwrCtrlWrite_keeps (v : Word) (s : State) :
    Keeps (.dma :: .life :: .air :: .afe :: .line :: .lt :: .ltx :: .cx :: .hi :: .mss :: .tmp :: .pwr :: .clk :: .freeCtr :: eventParts) s (pwrCtrlWrite v s) := by
  unfold pwrCtrlWrite
  refine Keeps.ite ?_ ?_
  · exact Keeps.refl _ _
  · extract_lets -merge +onlyGivenNames x0
    have h1 : Keeps (.dma :: .life :: .air :: .afe :: .line :: .lt :: .ltx :: .cx :: .hi :: .mss :: .tmp :: .pwr :: .clk :: .freeCtr :: eventParts) s x0 := by
      refine Keeps.ite ?_ ?_
      · refine (sleepLeave_keeps ..).step (by decide) ?_
        exact Keeps.refl _ _
      · exact Keeps.refl _ _
    refine Keeps.ite ?_ ?_
    · refine (pwrRefuse_keeps ..).step (by decide) ?_
      exact h1
    · refine Keeps.ite ?_ ?_
      · refine (pwrRefuse_keeps ..).step (by decide) ?_
        exact h1
      · refine (dormantIn_keeps ..).step (by decide) ?_
        refine (rxPostsDown_keeps ..).step (by decide) ?_
        exact h1

theorem execDormantRequest_keeps (v : Word) (s : State) {s₁ : State}
    (h : execDormantRequest v s = .next s₁) : Keeps (.dma :: .life :: .air :: .afe :: .line :: .lt :: .ltx :: .slp :: .cx :: .hi :: .mss :: .tmp :: .pwr :: .clk :: .freeCtr :: eventParts) s s₁ := by
  unfold execDormantRequest at h
  refine runHost_keeps (by decide) (fun u hu => ?_) h
  refine (pwrCtrlWrite_keeps ..).step (by decide) ?_
  exact hu

theorem execDormantWake_keeps (s : State) {s₁ : State}
    (h : execDormantWake s = .next s₁) : Keeps ([.pwr]) s s₁ := by
  unfold execDormantWake at h
  refine runAon_keeps (by decide) (fun u hu => ?_) h
  try beta_reduce
  refine Keeps.ite ?_ ?_
  · refine Keeps.pwr ?_ (by decide)
    exact hu
  · exact hu

theorem setRail_keeps (i : Nat) (b : Bool) (s : State) :
    Keeps ([.pwr]) s (setRail i b s) := by
  unfold setRail
  refine Keeps.pwr ?_ (by decide)
  exact Keeps.refl _ _

theorem execRailOutOfRange_keeps (i : Fin 8) (high : Bool) (mv : BitVec 16) (s : State) {s₁ : State}
    (h : execRailOutOfRange i high mv s = .next s₁) : Keeps (.rg :: .pwr :: .pmx :: eventParts) s s₁ := by
  unfold execRailOutOfRange at h
  refine run_keeps (by decide) (fun u hu => ?_) h
  try beta_reduce
  refine Keeps.ite ?_ ?_
  · exact hu
  · extract_lets -merge +onlyGivenNames x0
    have h1 : Keeps (.rg :: .pwr :: .pmx :: eventParts) s x0 := by
      unfold x0
      refine (setRail_keeps ..).step (by decide) ?_
      exact hu
    extract_lets -merge +onlyGivenNames x2
    have h3 : Keeps (.rg :: .pwr :: .pmx :: eventParts) s x2 := by
      refine Keeps.ite ?_ ?_
      · refine (setBank_keeps ..).step (by decide) ?_
        exact h1
      · exact h1
    refine (raise_keeps ..).step (by decide) ?_
    exact h3

theorem execRailInRange_keeps (i : Fin 8) (mv : BitVec 16) (s : State) {s₁ : State}
    (h : execRailInRange i mv s = .next s₁) : Keeps (.rg :: .pwr :: .pmx :: eventParts) s s₁ := by
  unfold execRailInRange at h
  refine run_keeps (by decide) (fun u hu => ?_) h
  try beta_reduce
  refine Keeps.ite ?_ ?_
  · exact hu
  · extract_lets -merge +onlyGivenNames x0
    have h1 : Keeps (.rg :: .pwr :: .pmx :: eventParts) s x0 := by
      unfold x0
      refine (setRail_keeps ..).step (by decide) ?_
      exact hu
    extract_lets -merge +onlyGivenNames x2
    have h3 : Keeps (.rg :: .pwr :: .pmx :: eventParts) s x2 := by
      refine Keeps.ite ?_ ?_
      · refine (setBank_keeps ..).step (by decide) ?_
        exact h1
      · exact h1
    refine (raise_keeps ..).step (by decide) ?_
    exact h3

theorem execBackupSwitch_keeps (toBackup : Bool) (s : State) {s₁ : State}
    (h : execBackupSwitch toBackup s = .next s₁) : Keeps (.tmp :: .pwr :: .freeCtr :: eventParts) s s₁ := by
  unfold execBackupSwitch at h
  refine runAon_keeps (by decide) (fun u hu => ?_) h
  try beta_reduce
  refine Keeps.ite ?_ ?_
  · exact hu
  · split
    rename_i v0 v1 e3
    have hv2 : Keeps (.tmp :: .pwr :: .freeCtr :: eventParts) s v1 := by
      refine Keeps.snd e3 ?_
      refine (draw_keeps ..).step (by decide) ?_
      exact hu
    clear e3
    refine (raiseAon_keeps ..).step (by decide) ?_
    refine Keeps.pwr ?_ (by decide)
    exact hv2

theorem ldvFault_keeps (s : State) :
    Keeps (.air :: .afe :: .line :: .lt :: .ltx :: .hi :: .freeCtr :: eventParts) s (ldvFault s) := by
  unfold ldvFault
  refine Keeps.foldl ?_ (fun u0 _ hu1 => ?_)
  · exact Keeps.refl _ _
  · try beta_reduce
    refine Keeps.ite ?_ ?_
    · refine (driverFault_keeps ..).step (by decide) ?_
      exact hu1
    · exact hu1

theorem ldvWrite_keeps (v : Word) (s : State) :
    Keeps (.air :: .afe :: .line :: .lt :: .ltx :: .hi :: .pwr :: .freeCtr :: eventParts) s (ldvWrite v s) := by
  unfold ldvWrite
  extract_lets -merge +onlyGivenNames x0 x1
  refine Keeps.ite ?_ ?_
  · refine (pwrRefuse_keeps ..).step (by decide) ?_
    exact Keeps.refl _ _
  · extract_lets -merge +onlyGivenNames x2 x3
    extract_lets -merge +onlyGivenNames x4
    have h5 : Keeps (.air :: .afe :: .line :: .lt :: .ltx :: .hi :: .pwr :: .freeCtr :: eventParts) s x4 := by
      refine Keeps.pwr ?_ (by decide)
      exact Keeps.refl _ _
    refine Keeps.ite ?_ ?_
    · refine (ldvFault_keeps ..).step (by decide) ?_
      exact h5
    · exact h5

theorem execLdvCfgWrite_keeps (v : Word) (s : State) {s₁ : State}
    (h : execLdvCfgWrite v s = .next s₁) : Keeps (.air :: .afe :: .line :: .lt :: .ltx :: .slp :: .hi :: .pwr :: .freeCtr :: eventParts) s s₁ := by
  unfold execLdvCfgWrite at h
  refine runHost_keeps (by decide) (fun u hu => ?_) h
  refine (ldvWrite_keeps ..).step (by decide) ?_
  exact hu

theorem execLdvRegulationChange_keeps (good : Bool) (s : State) {s₁ : State}
    (h : execLdvRegulationChange good s = .next s₁) : Keeps (.air :: .afe :: .line :: .lt :: .ltx :: .hi :: .pwr :: .freeCtr :: eventParts) s s₁ := by
  unfold execLdvRegulationChange at h
  refine run_keeps (by decide) (fun u hu => ?_) h
  try beta_reduce
  refine Keeps.ite ?_ ?_
  · extract_lets -merge +onlyGivenNames x0
    extract_lets -merge +onlyGivenNames x1
    have h2 : Keeps (.air :: .afe :: .line :: .lt :: .ltx :: .hi :: .pwr :: .freeCtr :: eventParts) s x1 := by
      refine Keeps.pwr ?_ (by decide)
      exact hu
    refine Keeps.ite ?_ ?_
    · exact h2
    · refine (ldvFault_keeps ..).step (by decide) ?_
      exact h2
  · exact hu

theorem setPresent_keeps (i : Nat) (b : Bool) (s : State) :
    Keeps ([.clk]) s (setPresent i b s) := by
  unfold setPresent
  refine Keeps.clk ?_ (by decide)
  exact Keeps.refl _ _

theorem refLost_keeps (s : State) :
    Keeps (.te :: .tex :: .clk :: eventParts) s (refLost s) := by
  unfold refLost
  extract_lets -merge +onlyGivenNames x0
  extract_lets -merge +onlyGivenNames x1
  have h2 : Keeps (.te :: .tex :: .clk :: eventParts) s x1 := by
    unfold x1
    refine (srcOkSet_keeps ..).step (by decide) ?_
    refine Keeps.clk ?_ (by decide)
    exact Keeps.refl _ _
  refine Keeps.ite ?_ ?_
  · refine (raise_keeps ..).step (by decide) ?_
    refine Keeps.tex ?_ (by decide)
    exact h2
  · exact h2

theorem execClockLoss_keeps (i : Fin 3) (s : State) {s₁ : State}
    (h : execClockLoss i s = .next s₁) : Keeps (.te :: .tex :: .clk :: eventParts) s s₁ := by
  unfold execClockLoss at h
  refine run_keeps (by decide) (fun u hu => ?_) h
  try beta_reduce
  refine Keeps.ite ?_ ?_
  · extract_lets -merge +onlyGivenNames x0
    have h1 : Keeps (.te :: .tex :: .clk :: eventParts) s x0 := by
      unfold x0
      refine (raise_keeps ..).step (by decide) ?_
      refine (setPresent_keeps ..).step (by decide) ?_
      exact hu
    refine Keeps.ite ?_ ?_
    · refine (refLost_keeps ..).step (by decide) ?_
      exact h1
    · exact h1
  · exact hu

theorem execClockRestore_keeps (i : Fin 3) (s : State) {s₁ : State}
    (h : execClockRestore i s = .next s₁) : Keeps (.te :: .tex :: .clk :: eventParts) s s₁ := by
  unfold execClockRestore at h
  refine run_keeps (by decide) (fun u hu => ?_) h
  try beta_reduce
  refine Keeps.ite ?_ ?_
  · exact hu
  · extract_lets -merge +onlyGivenNames x0
    have h1 : Keeps (.te :: .tex :: .clk :: eventParts) s x0 := by
      unfold x0
      refine (raise_keeps ..).step (by decide) ?_
      refine (setPresent_keeps ..).step (by decide) ?_
      exact hu
    refine Keeps.ite ?_ ?_
    · refine (srcBack_keeps ..).step (by decide) ?_
      refine (srcOkSet_keeps ..).step (by decide) ?_
      exact h1
    · exact h1

theorem execPllUnlock_keeps (i : Fin 4) (s : State) {s₁ : State}
    (h : execPllUnlock i s = .next s₁) : Keeps (.clk :: eventParts) s s₁ := by
  unfold execPllUnlock at h
  refine run_keeps (by decide) (fun u hu => ?_) h
  try beta_reduce
  refine Keeps.ite ?_ ?_
  · refine (raise_keeps ..).step (by decide) ?_
    refine Keeps.clk ?_ (by decide)
    exact hu
  · exact hu

theorem execPllRelock_keeps (i : Fin 4) (s : State) {s₁ : State}
    (h : execPllRelock i s = .next s₁) : Keeps ([.clk]) s s₁ := by
  unfold execPllRelock at h
  refine run_keeps (by decide) (fun u hu => ?_) h
  try beta_reduce
  refine Keeps.ite ?_ ?_
  · refine Keeps.clk ?_ (by decide)
    exact hu
  · exact hu

theorem execFabricRefSwitch_keeps (s : State) {s₁ : State}
    (h : execFabricRefSwitch s = .next s₁) : Keeps ([.clk]) s s₁ := by
  unfold execFabricRefSwitch at h
  refine run_keeps (by decide) (fun u hu => ?_) h
  try beta_reduce
  refine Keeps.ite ?_ ?_
  · refine Keeps.clk ?_ (by decide)
    exact hu
  · exact hu

theorem pwrStatusWrite_keeps (v : Word) (s : State) :
    Keeps ([.pwr]) s (pwrStatusWrite v s) := by
  unfold pwrStatusWrite
  refine Keeps.pwr ?_ (by decide)
  exact Keeps.refl _ _

theorem pwrCfgWrite_keeps (v : Word) (s : State) :
    Keeps ([.pwr]) s (pwrCfgWrite v s) := by
  unfold pwrCfgWrite
  refine Keeps.pwr ?_ (by decide)
  exact Keeps.refl _ _

theorem slpcfgWrite_keeps (v : Word) (s : State) :
    Keeps ([.pwr]) s (slpcfgWrite v s) := by
  unfold slpcfgWrite
  refine Keeps.pwr ?_ (by decide)
  exact Keeps.refl _ _

theorem wakeAtHiWrite_keeps (a : Agent) (v : Word) (s : State) :
    Keeps ([.pwr, .staging]) s (wakeAtHiWrite a v s) := by
  unfold wakeAtHiWrite
  split
  rename_i v0 v1 e3
  have hv2 : Keeps ([.pwr, .staging]) s v1 := by
    refine Keeps.snd e3 ?_
    refine (takeLo_keeps ..).step (by decide) ?_
    exact Keeps.refl _ _
  clear e3
  refine Keeps.pwr ?_ (by decide)
  exact hv2

theorem clkCfgWrite_keeps (v : Word) (s : State) :
    Keeps ([.clk]) s (clkCfgWrite v s) := by
  unfold clkCfgWrite
  refine Keeps.clk ?_ (by decide)
  exact Keeps.refl _ _

/-! ### Machine/Start.lean -/

theorem execPorstAssert_keeps (s : State) {s₁ : State}
    (h : execPorstAssert s = .next s₁) : Keeps ([.life, .cx, .lg, .tmp]) s s₁ := by
  unfold execPorstAssert at h
  refine runAon_keeps (by decide) (fun u hu => ?_) h
  try beta_reduce
  refine (coreDown_keeps ..).step (by decide) ?_
  refine Keeps.life ?_ (by decide) (fun h => ⟨h.straps, h.ready⟩)
  exact hu

theorem execVddCoreLoss_keeps (s : State) {s₁ : State}
    (h : execVddCoreLoss s = .next s₁) : Keeps ([.life, .cx, .lg, .tmp]) s s₁ := by
  unfold execVddCoreLoss at h
  refine runAon_keeps (by decide) (fun u hu => ?_) h
  try beta_reduce
  refine Keeps.ite ?_ ?_
  · exact hu
  · refine (coreDown_keeps ..).step (by decide) ?_
    refine Keeps.life ?_ (by decide) (fun h => ⟨h.straps, h.ready⟩)
    exact hu

theorem execAonPowerLoss_keeps (s : State) {s₁ : State}
    (h : execAonPowerLoss s = .next s₁) : Keeps ([.life, .cx, .lg, .tmp, .pwr]) s s₁ := by
  unfold execAonPowerLoss at h
  refine runAon_keeps (by decide) (fun u hu => ?_) h
  try beta_reduce
  extract_lets -merge +onlyGivenNames x0
  have h1 : Keeps ([.life, .cx, .lg, .tmp, .pwr]) s x0 := by
    unfold x0
    refine (coreDown_keeps ..).step (by decide) ?_
    exact hu
  refine Keeps.life_tmp_pwr ?_ (by decide) (by decide) (by decide) (fun h => ⟨h.straps, h.ready⟩)
  exact h1

theorem execAonPowerUp_keeps (s : State) {s₁ : State}
    (h : execAonPowerUp s = .next s₁) : Keeps ([.life, .tmp, .freeCtr]) s s₁ := by
  unfold execAonPowerUp at h
  refine Keeps.next ?_ h
  extract_lets -merge +onlyGivenNames x0
  have h1 : Keeps ([.life, .tmp, .freeCtr]) s x0 := by
    refine Keeps.ite ?_ ?_
    · exact Keeps.refl _ _
    · refine (aonPowerUp_keeps ..).step (by decide) ?_
      exact Keeps.refl _ _
  refine Keeps.queue ?_
  exact h1

theorem coldBlocks_keeps (st : Straps) (banks : Vector BankVolt 3) (s : State) :
    Keeps (.dma :: .cln :: .life :: .mpt :: .qr :: .qrx :: .air :: .afe :: .line :: .ofd :: .rbm :: .lt :: .ltx :: .slp :: .slph :: .te :: .tex :: .rg :: .aln :: .cx :: .cv :: .hi :: .mss :: .tmp :: .pwr :: .clk :: .pmx :: .shadow :: .staging :: .answer :: .freeCtr :: .now :: eventParts) s (coldBlocks st banks s) :=
  ⟨⟨fun p hp => absurd (by cases p <;> decide) hp⟩,
    fun k => ⟨k.mem, ⟨List.Pairwise.nil, fun _ h => by cases h⟩, ⟨fun h => by cases h <;> contradiction, fun h => by contradiction⟩,
      fun h => RingSt.noConfusion h⟩⟩

theorem coldTests_keeps (pass : BitVec 4) (s : State) :
    Keeps (.cx :: .freeCtr :: eventParts) s (coldTests pass s) := by
  unfold coldTests
  refine (noCoreCheck_keeps ..).step (by decide) ?_
  refine Keeps.foldl ?_ (fun u0 _ hu1 => ?_)
  · exact Keeps.refl _ _
  · try beta_reduce
    refine Keeps.ite ?_ ?_
    · exact hu1
    · split
      rename_i v2 v3 e5
      have hv4 : Keeps (.cx :: .freeCtr :: eventParts) s v3 := by
        refine Keeps.snd e5 ?_
        refine (draw_keeps ..).step (by decide) ?_
        exact hu1
      clear e5
      split
      rename_i v6 v7 e9
      have hv8 : Keeps (.cx :: .freeCtr :: eventParts) s v7 := by
        refine Keeps.snd e9 ?_
        refine (draw_keeps ..).step (by decide) ?_
        exact hv4
      clear e9
      refine (raise_keeps ..).step (by decide) ?_
      refine (updCore_keeps ..).step (by decide) ?_
      exact hv8

theorem bootAdvance_keeps (s : State) :
    Keeps ([.cx, .lg, .mssx]) s (bootAdvance s) := by
  unfold bootAdvance
  extract_lets -merge +onlyGivenNames x0
  extract_lets -merge +onlyGivenNames x1
  have h2 : Keeps ([.cx, .lg, .mssx]) s x1 := by
    unfold x1
    refine (bootWrite_keeps ..).step (by decide) ?_
    exact Keeps.refl _ _
  extract_lets -merge +onlyGivenNames x3
  refine Keeps.cx_lg ?_ (by decide) (by decide) (fun h => ⟨h.order, h.balance⟩)
  exact h2

theorem logFree_keeps (code : Nat) (s : State) :
    Keeps ([.mssx, .freeCtr]) s (logFree code s) := by
  unfold logFree
  split
  rename_i v0 v1 e3
  have hv2 : Keeps ([.mssx, .freeCtr]) s v1 := by
    refine Keeps.snd e3 ?_
    refine (draw_keeps ..).step (by decide) ?_
    exact Keeps.refl _ _
  clear e3
  split
  rename_i v4 v5 e7
  have hv6 : Keeps ([.mssx, .freeCtr]) s v5 := by
    refine Keeps.snd e7 ?_
    refine (draw_keeps ..).step (by decide) ?_
    exact hv2
  clear e7
  refine (logOnly_keeps ..).step (by decide) ?_
  exact hv6

theorem coldEvents_keeps (old : State) (s : State) :
    Keeps (.tmp :: .pwr :: eventParts) s (coldEvents old s) := by
  unfold coldEvents
  extract_lets -merge +onlyGivenNames x0
  have h1 : Keeps (.tmp :: .pwr :: eventParts) s x0 := by
    unfold x0
    refine Keeps.foldl ?_ (fun u2 _ hu3 => ?_)
    · exact Keeps.refl _ _
    · try beta_reduce
      refine (raiseAon_keeps ..).step (by decide) ?_
      exact hu3
  split
  · refine (raise_keeps ..).step (by decide) ?_
    refine Keeps.pwr ?_ (by decide)
    exact h1
  · exact h1

theorem coldTamper_keeps (s : State) :
    Keeps (.cx :: .tmp :: .freeCtr :: eventParts) s (coldTamper s) := by
  unfold coldTamper
  extract_lets -merge +onlyGivenNames x0
  have h1 : Keeps (.cx :: .tmp :: .freeCtr :: eventParts) s x0 := by
    unfold x0
    refine (observeLive_keeps ..).step (by decide) ?_
    exact Keeps.refl _ _
  extract_lets -merge +onlyGivenNames x2
  extract_lets -merge +onlyGivenNames x3
  have h4 : Keeps (.cx :: .tmp :: .freeCtr :: eventParts) s x3 := by
    refine Keeps.ite ?_ ?_
    · refine (keyUnseal_keeps ..).step (by decide) ?_
      exact h1
    · refine Keeps.tmp ?_ (by decide)
      exact h1
  extract_lets -merge +onlyGivenNames x5
  have h6 : Keeps (.cx :: .tmp :: .freeCtr :: eventParts) s x5 := by
    unfold x5
    refine (zeroSettle_keeps ..).step (by decide) ?_
    exact h4
  refine Keeps.ite ?_ ?_
  · refine (gateEvents_keeps ..).step (by decide) ?_
    exact h6
  · exact h6

theorem coldBoot_keeps (old : State) (s : State) :
    Keeps ([.mss, .mssx]) s (coldBoot old s) := by
  unfold coldBoot
  extract_lets -merge +onlyGivenNames x0
  extract_lets -merge +onlyGivenNames x1
  have h2 : Keeps ([.mss, .mssx]) s x1 := by
    unfold x1
    split
    · refine Keeps.mss ?_ (by decide)
      exact Keeps.refl _ _
    · exact Keeps.refl _ _
  refine Keeps.ite ?_ ?_
  · refine Keeps.mss ?_ (by decide)
    exact h2
  · refine (bootRom_keeps ..).step (by decide) ?_
    exact h2

theorem coldStart_keeps (st : Straps) (env : BootEnv) (old : State) :
    Keeps (.dma :: .cln :: .life :: .mpt :: .qr :: .qrx :: .air :: .afe :: .line :: .ofd :: .rbm :: .lt :: .ltx :: .slp :: .slph :: .te :: .tex :: .rg :: .aln :: .cx :: .cv :: .hi :: .mss :: .tmp :: .pwr :: .clk :: .pmx :: .shadow :: .staging :: .answer :: .freeCtr :: .now :: eventParts) old (coldStart st env old) := by
  unfold coldStart
  extract_lets -merge +onlyGivenNames x0
  have h1 : Keeps (.dma :: .cln :: .life :: .mpt :: .qr :: .qrx :: .air :: .afe :: .line :: .ofd :: .rbm :: .lt :: .ltx :: .slp :: .slph :: .te :: .tex :: .rg :: .aln :: .cx :: .cv :: .hi :: .mss :: .tmp :: .pwr :: .clk :: .pmx :: .shadow :: .staging :: .answer :: .freeCtr :: .now :: eventParts) old x0 := by
    unfold x0
    refine (bootAdvance_keeps ..).step (by decide) ?_
    refine (coldBlocks_keeps ..).step (by decide) ?_
    exact Keeps.refl _ _
  extract_lets -merge +onlyGivenNames x2
  have h3 : Keeps (.dma :: .cln :: .life :: .mpt :: .qr :: .qrx :: .air :: .afe :: .line :: .ofd :: .rbm :: .lt :: .ltx :: .slp :: .slph :: .te :: .tex :: .rg :: .aln :: .cx :: .cv :: .hi :: .mss :: .tmp :: .pwr :: .clk :: .pmx :: .shadow :: .staging :: .answer :: .freeCtr :: .now :: eventParts) old x2 := by
    unfold x2
    refine (coldTests_keeps ..).step (by decide) ?_
    refine (coldEvents_keeps ..).step (by decide) ?_
    exact h1
  refine (coldBoot_keeps ..).step (by decide) ?_
  refine (coldTamper_keeps ..).step (by decide) ?_
  refine (logFree_keeps ..).step (by decide) ?_
  exact h3

theorem execColdStart_keeps (st : Straps) (env : BootEnv) (s : State) {s₁ : State}
    (h : execColdStart st env s = .next s₁) : Keeps (.dma :: .cln :: .life :: .mpt :: .qr :: .qrx :: .air :: .afe :: .line :: .ofd :: .rbm :: .lt :: .ltx :: .slp :: .slph :: .te :: .tex :: .rg :: .aln :: .cx :: .cv :: .hi :: .mss :: .tmp :: .pwr :: .clk :: .pmx :: .shadow :: .staging :: .answer :: .freeCtr :: .now :: eventParts) s s₁ := by
  unfold execColdStart at h
  refine runAon_keeps (by decide) (fun u hu => ?_) h
  refine (coldStart_keeps ..).step (by decide) ?_
  exact hu

theorem execLinkUp_keeps (s : State) {s₁ : State}
    (h : execLinkUp s = .next s₁) : Keeps ([.life]) s s₁ := by
  unfold execLinkUp at h
  refine linkRow_keeps (by decide) (fun u hu => ?_) h
  try beta_reduce
  refine Keeps.life ?_ (by decide) (fun h => ⟨h.straps, h.ready⟩)
  exact hu

theorem execRecoveryImageReceive_keeps (img : Image) (s : State) {s₁ : State}
    (h : execRecoveryImageReceive img s = .next s₁) : Keeps ([.mss]) s s₁ := by
  unfold execRecoveryImageReceive at h
  refine run_keeps (by decide) (fun u hu => ?_) h
  try beta_reduce
  refine Keeps.ite ?_ ?_
  · extract_lets -merge +onlyGivenNames x0
    have h1 : Keeps ([.mss]) s x0 := by
      unfold x0
      refine (loadImage_keeps ..).step (by decide) ?_
      exact hu
    refine Keeps.mss ?_ (by decide)
    exact h1
  · exact hu

theorem confirmNow_keeps {s : State} (hs : strapsValid s = true) (hr : s.life.mssReadySeen = true) :
    Keeps ([.cln]) s (confirmNow s) :=
  Keeps.cln (Keeps.refl _ _) (by decide) (fun _ => ⟨fun _ => hs, fun _ => hr⟩)

theorem execMssReady_keeps (s : State) {s₁ : State} (h : execMssReady s = .next s₁) :
    Keeps (.cln :: .life :: .cv :: .mss :: .freeCtr :: eventParts) s s₁ := by
  unfold execMssReady at h
  refine run_keeps (by decide) (fun u hu => ?_) h
  refine Keeps.ite ?_ hu
  extract_lets -merge +onlyGivenNames s1 s2 s3
  have h1 : Keeps (.cln :: .life :: .cv :: .mss :: .freeCtr :: eventParts) s s1 := (updCv_keeps ..).step (by decide) ((updCv_keeps ..).step (by decide) hu)
  obtain ⟨k, hr, hc⟩ := mssReadyNow_keeps s1
  have hr : s2.life.mssReadySeen = true := hr
  have h2 : Keeps (.cln :: .life :: .cv :: .mss :: .freeCtr :: eventParts) s s2 := k.step (by decide) h1
  have h3 : Keeps [.mssx, .freeCtr] s2 s3 := Keeps.ite (Keeps.refl _ _) ((logFree_keeps ..).step (by decide) (Keeps.refl _ _))
  have el : s3.life = s2.life := h3.same.agree .life (by decide)
  have ec : s3.cln = s2.cln := h3.same.agree .cln (by decide)
  have h4 : Keeps (.cln :: .life :: .cv :: .mss :: .freeCtr :: eventParts) s s3 := h3.step (by decide) h2
  clear_value s3 s2
  split
  · rename_i hp
    have hn : Same [.cln] s3 (confirmNow s3) :=
      ⟨fun p hp => by cases p <;> first | exact absurd (by decide) hp | rfl | exact RingOnly.refl _ _⟩
    refine Keeps.of (h4.same.trans (hn.mono (by decide))) fun a => ?_
    have b := (h4.sound a).confirm.straps (.inr hp)
    exact (confirmNow_keeps b (by rw [el]; exact hr)).sound (h4.sound a)
  · exact h4

theorem confirmWrite_keeps (v : Word) (s : State) : Keeps (.cln :: eventParts) s (confirmWrite v s) := by
  unfold confirmWrite
  refine Keeps.ite (Keeps.refl _ _) ?_
  extract_lets -merge +onlyGivenNames role x0 s1
  have h1 : Keeps (.cln :: eventParts) s s1 := Keeps.cln (Keeps.refl _ _) (by decide) (fun h => ⟨h.straps, h.ready⟩)
  split
  · exact h1
  · rename_i hv
    simp only [Bool.or_eq_true, not_or, Bool.not_eq_true', Bool.not_eq_false] at hv
    have hs : strapsValid s1 = true := by simpa using hv.2
    refine Keeps.ite ?_ ?_
    · refine (raise_keeps ..).step (by decide) (Keeps.cln h1 (by decide) fun h => ⟨fun _ => hs, h.ready⟩)
    · split
      · exact (confirmNow_keeps hs ‹_›).step (by decide) h1
      · exact Keeps.cln h1 (by decide) fun h => ⟨fun _ => hs, h.ready⟩

theorem execHiConfirm_keeps (v : Word) (s : State) {s₁ : State}
    (h : execHiConfirm v s = .next s₁) : Keeps (.cln :: .slp :: .pwr :: eventParts) s s₁ := by
  unfold execHiConfirm at h
  refine runHost_keeps (by decide) (fun u hu => ?_) h
  refine (confirmWrite_keeps ..).step (by decide) ?_
  exact hu

/-! ### Machine/Regs.lean -/

theorem ltCfgWrite_keeps (v : Word) (s : State) :
    Keeps ([.lt]) s (ltCfgWrite v s) := by
  unfold ltCfgWrite
  refine Keeps.lt ?_ (by decide)
  exact Keeps.refl _ _

theorem ltTimersWrite_keeps (v : Word) (s : State) :
    Keeps ([.lt]) s (ltTimersWrite v s) := by
  unfold ltTimersWrite
  refine Keeps.lt ?_ (by decide)
  exact Keeps.refl _ _

theorem ltRemoteWrite_keeps (v : Word) (s : State) :
    Keeps ([.lt]) s (ltRemoteWrite v s) := by
  unfold ltRemoteWrite
  refine Keeps.lt ?_ (by decide)
  exact Keeps.refl _ _

theorem slpCfgWrite_keeps (v : Word) (s : State) :
    Keeps ([.slp]) s (slpCfgWrite v s) := by
  unfold slpCfgWrite
  refine Keeps.slp ?_ (by decide)
  exact Keeps.refl _ _

theorem slpLimWrite_keeps (v : Word) (s : State) :
    Keeps ([.slp]) s (slpLimWrite v s) := by
  unfold slpLimWrite
  refine Keeps.slp ?_ (by decide)
  exact Keeps.refl _ _

theorem slpCtrlWrite_keeps (v : Word) (s : State) :
    Keeps ([.slp, .pwr]) s (slpCtrlWrite v s) := by
  unfold slpCtrlWrite
  extract_lets -merge +onlyGivenNames x0
  have h1 : Keeps ([.slp, .pwr]) s x0 := by
    refine Keeps.ite ?_ ?_
    · refine (wakeBy_keeps ..).step (by decide) ?_
      exact Keeps.refl _ _
    · exact Keeps.refl _ _
  refine Keeps.slp ?_ (by decide)
  exact h1

theorem slpHeadWrite_keeps (v : Word) (s : State) :
    Keeps ([.slp]) s (slpHeadWrite v s) := by
  unfold slpHeadWrite
  refine Keeps.slp ?_ (by decide)
  exact Keeps.refl _ _

theorem rxcfgWrite_keeps (v : Word) (s : State) :
    Keeps ([.hi]) s (rxcfgWrite v s) := by
  unfold rxcfgWrite
  refine Keeps.hi ?_ (by decide)
  exact Keeps.refl _ _

theorem zcDlyWrite_keeps (n : Phase) (v : Word) (s : State) :
    Keeps ([.mpt]) s (zcDlyWrite n v s) := by
  unfold zcDlyWrite
  refine (updPh_keeps ..).step (by decide) ?_
  exact Keeps.refl _ _

theorem rdEffect_keeps (a : Agent) (bar2 : Bool) (off : Nat) (s : State) :
    Keeps ([.qr, .afe, .ofd, .rg, .tmp, .shadow, .freeCtr]) s (rdEffect a bar2 off s) := by
  unfold rdEffect
  refine Keeps.ite ?_ ?_
  · refine Keeps.shadow ?_ (by decide)
    exact Keeps.refl _ _
  · refine Keeps.ite ?_ ?_
    · exact Keeps.refl _ _
    · refine Keeps.ite ?_ ?_
      · refine (mapDataRead_keeps ..).step (by decide) ?_
        exact Keeps.refl _ _
      · refine Keeps.ite ?_ ?_
        · refine (firAdvance_keeps ..).step (by decide) ?_
          exact Keeps.refl _ _
        · refine Keeps.ite ?_ ?_
          · refine (cpwrAdvance_keeps ..).step (by decide) ?_
            exact Keeps.refl _ _
          · refine Keeps.ite ?_ ?_
            · refine (tmAdvance_keeps ..).step (by decide) ?_
              exact Keeps.refl _ _
            · refine Keeps.ite ?_ ?_
              · refine (tmpStatusRead_keeps ..).step (by decide) ?_
                exact Keeps.refl _ _
              · refine Keeps.ite ?_ ?_
                · refine (seqDataRead_keeps ..).step (by decide) ?_
                  exact Keeps.refl _ _
                · exact Keeps.refl _ _

theorem readReg_keeps (a : Agent) (bar2 : Bool) (off : Nat) (s : State) :
    Keeps ([.qr, .afe, .ofd, .rg, .tmp, .shadow, .freeCtr]) s (readReg a bar2 off s).2 := by
  unfold readReg
  try with_reducible refine Keeps.mk ?_
  refine (rdEffect_keeps ..).step (by decide) ?_
  exact Keeps.refl _ _

theorem wrHi_keeps (a : Agent) (off : Nat) (v : Word) (s : State) :
    Keeps (.dma :: .cln :: .line :: .cx :: .hi :: .staging :: eventParts) s (wrHi a off v s) := by
  unfold wrHi
  split
  · refine (confirmWrite_keeps ..).step (by decide) ?_
    exact Keeps.refl _ _
  · refine (hiStatusWrite_keeps ..).step (by decide) ?_
    exact Keeps.refl _ _
  · refine (rxcfgWrite_keeps ..).step (by decide) ?_
    exact Keeps.refl _ _
  · split
    rename_i v0 v1 e3
    have hv2 : Keeps (.dma :: .cln :: .line :: .cx :: .hi :: .staging :: eventParts) s v1 := by
      refine Keeps.snd e3 ?_
      refine (takeLo_keeps ..).step (by decide) ?_
      exact Keeps.refl _ _
    clear e3
    refine (evBaseWrite_keeps ..).step (by decide) ?_
    exact hv2
  · refine (evCfgWrite_keeps ..).step (by decide) ?_
    exact Keeps.refl _ _
  · refine (evStatWrite_keeps ..).step (by decide) ?_
    exact Keeps.refl _ _
  · exact Keeps.refl _ _

theorem wrRing_keeps (a : Agent) (cq : Bool) (off : Nat) (v : Word) (s : State) :
    Keeps (.hi :: .staging :: eventParts) s (wrRing a cq off v s) := by
  unfold wrRing
  extract_lets -merge +onlyGivenNames x0
  refine Keeps.ite ?_ ?_
  · refine Keeps.ite ?_ ?_
    · split
      rename_i v1 v2 e4
      have hv3 : Keeps (.hi :: .staging :: eventParts) s v2 := by
        refine Keeps.snd e4 ?_
        refine (takeLo_keeps ..).step (by decide) ?_
        exact Keeps.refl _ _
      clear e4
      refine (cqBaseWrite_keeps ..).step (by decide) ?_
      exact hv3
    · split
      rename_i v5 v6 e8
      have hv7 : Keeps (.hi :: .staging :: eventParts) s v6 := by
        refine Keeps.snd e8 ?_
        refine (takeLo_keeps ..).step (by decide) ?_
        exact Keeps.refl _ _
      clear e8
      refine (sqBaseWrite_keeps ..).step (by decide) ?_
      exact hv7
  · refine Keeps.ite ?_ ?_
    · refine Keeps.ite ?_ ?_
      · refine (cqCfgWrite_keeps ..).step (by decide) ?_
        exact Keeps.refl _ _
      · refine (sqCfgWrite_keeps ..).step (by decide) ?_
        exact Keeps.refl _ _
    · exact Keeps.refl _ _

theorem wrMpt_keeps (off : Nat) (v : Word) (s : State) :
    Keeps (.mpt :: .qr :: .qrx :: eventParts) s (wrMpt off v s) := by
  unfold wrMpt
  split
  · refine (mptCtrlWrite_keeps ..).step (by decide) ?_
    exact Keeps.refl _ _
  · refine (mptLockWrite_keeps ..).step (by decide) ?_
    exact Keeps.refl _ _
  · refine (zcDlyWrite_keeps ..).step (by decide) ?_
    exact Keeps.refl _ _
  · refine (zcDlyWrite_keeps ..).step (by decide) ?_
    exact Keeps.refl _ _
  · refine (zcDlyWrite_keeps ..).step (by decide) ?_
    exact Keeps.refl _ _
  · refine (mptSnap_keeps ..).step (by decide) ?_
    exact Keeps.refl _ _
  · refine (mptPrioWrite_keeps ..).step (by decide) ?_
    exact Keeps.refl _ _
  · exact Keeps.refl _ _

theorem wrQr_keeps (off : Nat) (v : Word) (s : State) :
    Keeps (.mpt :: .qr :: .qrx :: .air :: eventParts) s (wrQr off v s) := by
  unfold wrQr
  split
  · refine (qrCtrlWrite_keeps ..).step (by decide) ?_
    exact Keeps.refl _ _
  · refine (mapDataWrite_keeps ..).step (by decide) ?_
    exact Keeps.refl _ _
  · refine (qrGeomWrite_keeps ..).step (by decide) ?_
    exact Keeps.refl _ _
  · refine (qrGeomWrite_keeps ..).step (by decide) ?_
    exact Keeps.refl _ _
  · refine (mapSwapWrite_keeps ..).step (by decide) ?_
    exact Keeps.refl _ _
  · refine (qrMapStatusWrite_keeps ..).step (by decide) ?_
    exact Keeps.refl _ _
  · refine (qrPartWrite_keeps ..).step (by decide) ?_
    exact Keeps.refl _ _
  · refine (qrPartnWrite_keeps ..).step (by decide) ?_
    exact Keeps.refl _ _
  · refine (qrPartnWrite_keeps ..).step (by decide) ?_
    exact Keeps.refl _ _
  · refine (qrPartnWrite_keeps ..).step (by decide) ?_
    exact Keeps.refl _ _
  · refine (qrPartnWrite_keeps ..).step (by decide) ?_
    exact Keeps.refl _ _
  · refine (qrSmallWrite_keeps ..).step (by decide) ?_
    exact Keeps.refl _ _

theorem wrAir_keeps (off : Nat) (v : Word) (s : State) :
    Keeps (.air :: .ofd :: .rbm :: eventParts) s (wrAir off v s) := by
  unfold wrAir
  extract_lets -merge +onlyGivenNames x0
  refine Keeps.ite ?_ ?_
  · refine (airCtrlWrite_keeps ..).step (by decide) ?_
    exact Keeps.refl _ _
  · refine Keeps.ite ?_ ?_
    · refine (airStatusWrite_keeps ..).step (by decide) ?_
      exact Keeps.refl _ _
    · refine Keeps.ite ?_ ?_
      · refine (airBudgetWrite_keeps ..).step (by decide) ?_
        exact Keeps.refl _ _
      · refine Keeps.ite ?_ ?_
        · refine (airBudgetWrite_keeps ..).step (by decide) ?_
          exact Keeps.refl _ _
        · refine Keeps.ite ?_ ?_
          · refine (airBudgetWrite_keeps ..).step (by decide) ?_
            exact Keeps.refl _ _
          · refine Keeps.ite ?_ ?_
            · refine (updBand_keeps ..).step (by decide) ?_
              exact Keeps.refl _ _
            · refine Keeps.ite ?_ ?_
              · refine Keeps.air ?_ (by decide)
                exact Keeps.refl _ _
              · refine Keeps.ite ?_ ?_
                · refine Keeps.air ?_ (by decide)
                  exact Keeps.refl _ _
                · refine Keeps.ite ?_ ?_
                  · refine Keeps.air ?_ (by decide)
                    exact Keeps.refl _ _
                  · refine Keeps.ite ?_ ?_
                    · refine Keeps.air ?_ (by decide)
                      exact Keeps.refl _ _
                    · exact Keeps.refl _ _

theorem wrAfe_keeps (off : Nat) (v : Word) (s : State) :
    Keeps (.afe :: eventParts) s (wrAfe off v s) := by
  unfold wrAfe
  split
  · refine (afeCtrlWrite_keeps ..).step (by decide) ?_
    exact Keeps.refl _ _
  · refine (afeStatusWrite_keeps ..).step (by decide) ?_
    exact Keeps.refl _ _
  · refine Keeps.afe ?_ (by decide)
    exact Keeps.refl _ _
  · refine (firDataWrite_keeps ..).step (by decide) ?_
    exact Keeps.refl _ _
  · refine Keeps.afe ?_ (by decide)
    exact Keeps.refl _ _
  · refine (cpwrDataWrite_keeps ..).step (by decide) ?_
    exact Keeps.refl _ _
  · exact Keeps.refl _ _

theorem wrPort_keeps (a : Agent) (p : Port) (off : Nat) (v : Word) (s : State) :
    Keeps (.air :: .afe :: .line :: .lt :: .ltx :: .hi :: eventParts) s (wrPort a p off v s) := by
  unfold wrPort
  split
  · refine Keeps.ite ?_ ?_
    · refine (pctrlHost_keeps ..).step (by decide) ?_
      exact Keeps.refl _ _
    · refine (pctrlWrite_keeps ..).step (by decide) ?_
      exact Keeps.refl _ _
  · refine (pstatWrite_keeps ..).step (by decide) ?_
    exact Keeps.refl _ _
  · refine (txLevelWrite_keeps ..).step (by decide) ?_
    exact Keeps.refl _ _
  · refine (txLevelWrite_keeps ..).step (by decide) ?_
    exact Keeps.refl _ _
  · refine (txLevelWrite_keeps ..).step (by decide) ?_
    exact Keeps.refl _ _
  · refine (updPort_keeps ..).step (by decide) ?_
    exact Keeps.refl _ _
  · refine (updPort_keeps ..).step (by decide) ?_
    exact Keeps.refl _ _
  · refine (updPort_keeps ..).step (by decide) ?_
    exact Keeps.refl _ _
  · refine (updPort_keeps ..).step (by decide) ?_
    exact Keeps.refl _ _
  · refine Keeps.ite ?_ ?_
    · refine (notchWrite_keeps ..).step (by decide) ?_
      exact Keeps.refl _ _
    · exact Keeps.refl _ _

theorem wrOfdRbm_keeps (off : Nat) (v : Word) (s : State) :
    Keeps (.ofd :: .rbm :: eventParts) s (wrOfdRbm off v s) := by
  unfold wrOfdRbm
  split
  · refine (ofdCtrlWrite_keeps ..).step (by decide) ?_
    exact Keeps.refl _ _
  · refine (ofdStatusWrite_keeps ..).step (by decide) ?_
    exact Keeps.refl _ _
  · refine (ofdAddrWrite_keeps ..).step (by decide) ?_
    exact Keeps.refl _ _
  · refine (tmDataWrite_keeps ..).step (by decide) ?_
    exact Keeps.refl _ _
  · refine (tmValidWrite_keeps ..).step (by decide) ?_
    exact Keeps.refl _ _
  · refine (ofdBcastWrite_keeps ..).step (by decide) ?_
    exact Keeps.refl _ _
  · refine (rbmCtrlWrite_keeps ..).step (by decide) ?_
    exact Keeps.refl _ _
  · refine (rbmStatusWrite_keeps ..).step (by decide) ?_
    exact Keeps.refl _ _
  · refine (rbmFcWrite_keeps ..).step (by decide) ?_
    exact Keeps.refl _ _
  · refine (rbmBcfgWrite_keeps ..).step (by decide) ?_
    exact Keeps.refl _ _
  · refine (rbmDcfgWrite_keeps ..).step (by decide) ?_
    exact Keeps.refl _ _
  · exact Keeps.refl _ _

theorem wrLt_keeps (c off : Nat) (v : Word) (s : State) :
    Keeps (.line :: .lt :: .ltx :: .slp :: .tex :: .freeCtr :: eventParts) s (wrLt c off v s) := by
  unfold wrLt
  split
  · refine (ltCfgWrite_keeps ..).step (by decide) ?_
    exact Keeps.refl _ _
  · refine (ltTimersWrite_keeps ..).step (by decide) ?_
    exact Keeps.refl _ _
  · refine (ltRemoteWrite_keeps ..).step (by decide) ?_
    exact Keeps.refl _ _
  · refine (ltStatusWrite_keeps ..).step (by decide) ?_
    exact Keeps.refl _ _
  · refine (ltJoinWrite_keeps ..).step (by decide) ?_
    exact Keeps.refl _ _
  · refine (ltCmdWrite_keeps ..).step (by decide) ?_
    exact Keeps.refl _ _
  · refine Keeps.ite ?_ ?_
    · refine (stageWrite_keeps ..).step (by decide) ?_
      exact Keeps.refl _ _
    · refine Keeps.ite ?_ ?_
      · refine (ltApptWrite_keeps ..).step (by decide) ?_
        exact Keeps.refl _ _
      · exact Keeps.refl _ _

theorem wrSlp_keeps (off : Nat) (v : Word) (s : State) :
    Keeps ([.slp, .pwr]) s (wrSlp off v s) := by
  unfold wrSlp
  split
  · refine (slpCfgWrite_keeps ..).step (by decide) ?_
    exact Keeps.refl _ _
  · refine (slpLimWrite_keeps ..).step (by decide) ?_
    exact Keeps.refl _ _
  · refine (slpCtrlWrite_keeps ..).step (by decide) ?_
    exact Keeps.refl _ _
  · refine (slpHeadWrite_keeps ..).step (by decide) ?_
    exact Keeps.refl _ _
  · refine Keeps.slp ?_ (by decide)
    exact Keeps.refl _ _
  · exact Keeps.refl _ _

theorem wrTe_keeps (a : Agent) (off : Nat) (v : Word) (s : State) :
    Keeps (.te :: .tex :: .staging :: eventParts) s (wrTe a off v s) := by
  unfold wrTe
  split
  · refine (teCtrlWrite_keeps ..).step (by decide) ?_
    exact Keeps.refl _ _
  · refine (teStatusWrite_keeps ..).step (by decide) ?_
    exact Keeps.refl _ _
  · refine (teDiscWrite_keeps ..).step (by decide) ?_
    exact Keeps.refl _ _
  · refine (ppsCfgWrite_keeps ..).step (by decide) ?_
    exact Keeps.refl _ _
  · refine (ppsinDlyWrite_keeps ..).step (by decide) ?_
    exact Keeps.refl _ _
  · refine (utcWrite_keeps ..).step (by decide) ?_
    exact Keeps.refl _ _
  · refine (leapCtrlWrite_keeps ..).step (by decide) ?_
    exact Keeps.refl _ _
  · refine (leapAtHiWrite_keeps ..).step (by decide) ?_
    exact Keeps.refl _ _
  · refine (tcWrite_keeps ..).step (by decide) ?_
    exact Keeps.refl _ _
  · refine (epochHiWrite_keeps ..).step (by decide) ?_
    exact Keeps.refl _ _
  · refine (rngCfgWrite_keeps ..).step (by decide) ?_
    exact Keeps.refl _ _
  · refine (rngLimWrite_keeps ..).step (by decide) ?_
    exact Keeps.refl _ _
  · refine (rngNowWrite_keeps ..).step (by decide) ?_
    exact Keeps.refl _ _
  · exact Keeps.refl _ _

theorem wrTe2_keeps (a : Agent) (off : Nat) (v : Word) (s : State) :
    Keeps (.te :: .tex :: .rg :: .hi :: .tmp :: .staging :: eventParts) s (wrTe2 a off v s) := by
  unfold wrTe2
  split
  · refine (teCaptureWrite_keeps ..).step (by decide) ?_
    exact Keeps.refl _ _
  · refine (teSetSecHi_keeps ..).step (by decide) ?_
    exact Keeps.refl _ _
  · refine (teSetNs_keeps ..).step (by decide) ?_
    exact Keeps.refl _ _
  · refine (teSetFrac_keeps ..).step (by decide) ?_
    exact Keeps.refl _ _
  · refine (teApplyWrite_keeps ..).step (by decide) ?_
    exact Keeps.refl _ _
  · refine (teFreqHiWrite_keeps ..).step (by decide) ?_
    exact Keeps.refl _ _
  · refine (teSlewWrite_keeps ..).step (by decide) ?_
    exact Keeps.refl _ _
  · exact Keeps.refl _ _

theorem wrRgc_keeps (off : Nat) (v : Word) (s : State) :
    Keeps (.rg :: .aln :: .hi :: .freeCtr :: eventParts) s (wrRgc off v s) := by
  unfold wrRgc
  split
  · refine (rgcCtrlWrite_keeps ..).step (by decide) ?_
    exact Keeps.refl _ _
  · refine (rgcStatusWrite_keeps ..).step (by decide) ?_
    exact Keeps.refl _ _
  · refine (incfgWrite_keeps ..).step (by decide) ?_
    exact Keeps.refl _ _
  · refine (vdacWrite_keeps ..).step (by decide) ?_
    exact Keeps.refl _ _
  · refine (vdacWrite_keeps ..).step (by decide) ?_
    exact Keeps.refl _ _
  · refine (gofsWrite_keeps ..).step (by decide) ?_
    exact Keeps.refl _ _
  · refine (kcfgWrite_keeps ..).step (by decide) ?_
    exact Keeps.refl _ _
  · refine (kexpWrite_keeps ..).step (by decide) ?_
    exact Keeps.refl _ _
  · refine (kdlyWrite_keeps ..).step (by decide) ?_
    exact Keeps.refl _ _
  · refine (kmaxWrite_keeps ..).step (by decide) ?_
    exact Keeps.refl _ _
  · refine (stcfgWrite_keeps ..).step (by decide) ?_
    exact Keeps.refl _ _
  · refine (stdlyWrite_keeps ..).step (by decide) ?_
    exact Keeps.refl _ _
  · refine (stlimWrite_keeps ..).step (by decide) ?_
    exact Keeps.refl _ _
  · refine Keeps.ite ?_ ?_
    · refine (patselWrite_keeps ..).step (by decide) ?_
      exact Keeps.refl _ _
    · exact Keeps.refl _ _

theorem wrRg_keeps (a : Agent) (c : Fin 8) (off : Nat) (v : Word) (s : State) :
    Keeps (.rg :: .hi :: .staging :: eventParts) s (wrRg a c off v s) := by
  unfold wrRg
  extract_lets -merge +onlyGivenNames x0
  split
  · refine (rgCtrlWrite_keeps ..).step (by decide) ?_
    exact Keeps.refl _ _
  · refine (ftwHiWrite_keeps ..).step (by decide) ?_
    exact Keeps.refl _ _
  · refine (seqAddrWrite_keeps ..).step (by decide) ?_
    exact Keeps.refl _ _
  · refine (seqDataWrite_keeps ..).step (by decide) ?_
    exact Keeps.refl _ _
  · refine (rgLtcWrite_keeps ..).step (by decide) ?_
    exact Keeps.refl _ _
  · refine (rgLtcUbWrite_keeps ..).step (by decide) ?_
    exact Keeps.refl _ _
  · refine (cntldWrite_keeps ..).step (by decide) ?_
    exact Keeps.refl _ _
  · refine (cntldWrite_keeps ..).step (by decide) ?_
    exact Keeps.refl _ _
  · refine (cntldWrite_keeps ..).step (by decide) ?_
    exact Keeps.refl _ _
  · refine (cntldWrite_keeps ..).step (by decide) ?_
    exact Keeps.refl _ _
  · refine (maAngWrite_keeps ..).step (by decide) ?_
    exact Keeps.refl _ _
  · refine (maAngWrite_keeps ..).step (by decide) ?_
    exact Keeps.refl _ _
  · refine (maQWrite_keeps ..).step (by decide) ?_
    exact Keeps.refl _ _
  · refine (maQWrite_keeps ..).step (by decide) ?_
    exact Keeps.refl _ _
  · refine (maCfgWrite_keeps ..).step (by decide) ?_
    exact Keeps.refl _ _
  · refine (maCfgWrite_keeps ..).step (by decide) ?_
    exact Keeps.refl _ _
  · refine (todSecHiWrite_keeps ..).step (by decide) ?_
    exact Keeps.refl _ _
  · refine (todSecHiWrite_keeps ..).step (by decide) ?_
    exact Keeps.refl _ _
  · refine (todNsWrite_keeps ..).step (by decide) ?_
    exact Keeps.refl _ _
  · refine (todNsWrite_keeps ..).step (by decide) ?_
    exact Keeps.refl _ _
  · refine Keeps.ite ?_ ?_
    · refine (tsetWrite_keeps ..).step (by decide) ?_
      exact Keeps.refl _ _
    · exact Keeps.refl _ _

theorem wrCx_keeps (a : Agent) (off : Nat) (v : Word) (s : State) :
    Keeps (.cx :: .hi :: .freeCtr :: eventParts) s (wrCx a off v s) := by
  unfold wrCx
  split
  · refine (cxCtrlWrite_keeps ..).step (by decide) ?_
    exact Keeps.refl _ _
  · refine Keeps.ite ?_ ?_
    · refine (cxCoreHost_keeps ..).step (by decide) ?_
      exact Keeps.refl _ _
    · refine (cxCoreWrite_keeps ..).step (by decide) ?_
      exact Keeps.refl _ _
  · refine (cxLimLeafWrite_keeps ..).step (by decide) ?_
    exact Keeps.refl _ _
  · refine (cxLimNetWrite_keeps ..).step (by decide) ?_
    exact Keeps.refl _ _
  · refine (cxFaultWrite_keeps ..).step (by decide) ?_
    exact Keeps.refl _ _
  · refine (slotSelect_keeps ..).step (by decide) ?_
    exact Keeps.refl _ _
  · exact Keeps.refl _ _

theorem wrCv_keeps (a : Agent) (c off : Nat) (v : Word) (s : State) :
    Keeps ([.cv]) s (wrCv a c off v s) := by
  unfold wrCv
  extract_lets -merge +onlyGivenNames x0
  split
  · refine (cvCfg_keeps ..).step (by decide) ?_
    exact Keeps.refl _ _
  · refine (cvParam_keeps ..).step (by decide) ?_
    exact Keeps.refl _ _
  · refine (cvParam_keeps ..).step (by decide) ?_
    exact Keeps.refl _ _
  · refine (cvParam_keeps ..).step (by decide) ?_
    exact Keeps.refl _ _
  · exact Keeps.refl _ _

theorem wrCv2_keeps (c : Nat) (be : BitVec 4) (off : Nat) (v : Word) (s : State) :
    Keeps ([.cv]) s (wrCv2 c be off v s) := by
  unfold wrCv2
  refine Keeps.ite ?_ ?_
  · refine (cvData_keeps ..).step (by decide) ?_
    exact Keeps.refl _ _
  · refine Keeps.ite ?_ ?_
    · refine (cvStateSet_keeps ..).step (by decide) ?_
      exact Keeps.refl _ _
    · refine Keeps.ite ?_ ?_
      · refine (cvCtl_keeps ..).step (by decide) ?_
        exact Keeps.refl _ _
      · exact Keeps.refl _ _

theorem wrSys_keeps (a : Agent) (off : Nat) (v : Word) (s : State) :
    Keeps (.dma :: .life :: .air :: .afe :: .line :: .lt :: .ltx :: .rg :: .aln :: .cx :: .cv :: .hi :: .mss :: .tmp :: .pwr :: .clk :: .staging :: .freeCtr :: eventParts) s (wrSys a off v s) := by
  unfold wrSys
  split
  · refine (cvStatusWrite_keeps ..).step (by decide) ?_
    exact Keeps.refl _ _
  · refine (lgStatusWrite_keeps ..).step (by decide) ?_
    exact Keeps.refl _ _
  · refine (lgReinitWrite_keeps ..).step (by decide) ?_
    exact Keeps.refl _ _
  · refine (uresetWrite_keeps ..).step (by decide) ?_
    exact Keeps.refl _ _
  · refine (hwthrWrite_keeps ..).step (by decide) ?_
    exact Keeps.refl _ _
  · refine (thcfgWrite_keeps ..).step (by decide) ?_
    exact Keeps.refl _ _
  · refine (smbcfgWrite_keeps ..).step (by decide) ?_
    exact Keeps.refl _ _
  · refine (mssCtrlWrite_keeps ..).step (by decide) ?_
    exact Keeps.refl _ _
  · refine (tmpCtrlWrite_keeps ..).step (by decide) ?_
    exact Keeps.refl _ _
  · refine (tmpStatusWrite_keeps ..).step (by decide) ?_
    exact Keeps.refl _ _
  · refine (tmpLatchWrite_keeps ..).step (by decide) ?_
    exact Keeps.refl _ _
  · refine (tmpCfgWrite_keeps ..).step (by decide) ?_
    exact Keeps.refl _ _
  · refine (tmpDebWrite_keeps ..).step (by decide) ?_
    exact Keeps.refl _ _
  · refine (pwrCtrlWrite_keeps ..).step (by decide) ?_
    exact Keeps.refl _ _
  · refine (pwrStatusWrite_keeps ..).step (by decide) ?_
    exact Keeps.refl _ _
  · refine (pwrCfgWrite_keeps ..).step (by decide) ?_
    exact Keeps.refl _ _
  · refine (wakeAtHiWrite_keeps ..).step (by decide) ?_
    exact Keeps.refl _ _
  · refine (slpcfgWrite_keeps ..).step (by decide) ?_
    exact Keeps.refl _ _
  · refine (ldvWrite_keeps ..).step (by decide) ?_
    exact Keeps.refl _ _
  · refine (clkCfgWrite_keeps ..).step (by decide) ?_
    exact Keeps.refl _ _
  · exact Keeps.refl _ _

theorem wrPmx_keeps (a : Agent) (off : Nat) (v : Word) (s : State) :
    Keeps (.rg :: .pmx :: .staging :: eventParts) s (wrPmx a off v s) := by
  unfold wrPmx
  split
  · refine (pmxCtrlWrite_keeps ..).step (by decide) ?_
    exact Keeps.refl _ _
  · refine (pmxStatusWrite_keeps ..).step (by decide) ?_
    exact Keeps.refl _ _
  · split
    rename_i v0 v1 e3
    have hv2 : Keeps (.rg :: .pmx :: .staging :: eventParts) s v1 := by
      refine Keeps.snd e3 ?_
      refine (takeLo_keeps ..).step (by decide) ?_
      exact Keeps.refl _ _
    clear e3
    refine (gpioOutWrite_keeps ..).step (by decide) ?_
    refine (gpioOutWrite_keeps ..).step (by decide) ?_
    exact hv2
  · split
    rename_i v4 v5 e7
    have hv6 : Keeps (.rg :: .pmx :: .staging :: eventParts) s v5 := by
      refine Keeps.snd e7 ?_
      refine (takeLo_keeps ..).step (by decide) ?_
      exact Keeps.refl _ _
    clear e7
    refine (gpioOeWrite_keeps ..).step (by decide) ?_
    refine (gpioOeWrite_keeps ..).step (by decide) ?_
    exact hv6
  · refine Keeps.ite ?_ ?_
    · refine (pinWrite_keeps ..).step (by decide) ?_
      exact Keeps.refl _ _
    · exact Keeps.refl _ _

theorem wrBell_keeps (off : Nat) (v : Word) (s : State) :
    Keeps (.hi :: eventParts) s (wrBell off v s) := by
  unfold wrBell
  refine Keeps.ite ?_ ?_
  · refine (msixWrite_keeps ..).step (by decide) ?_
    exact Keeps.refl _ _
  · refine Keeps.ite ?_ ?_
    · exact Keeps.refl _ _
    · refine Keeps.ite ?_ ?_
      · refine Keeps.ite ?_ ?_
        · refine (sqBell_keeps ..).step (by decide) ?_
          exact Keeps.refl _ _
        · exact Keeps.refl _ _
      · refine Keeps.ite ?_ ?_
        · exact Keeps.refl _ _
        · refine Keeps.ite ?_ ?_
          · refine Keeps.ite ?_ ?_
            · refine (cqBell_keeps ..).step (by decide) ?_
              exact Keeps.refl _ _
            · exact Keeps.refl _ _
          · refine Keeps.ite ?_ ?_
            · refine (evBell_keeps ..).step (by decide) ?_
              exact Keeps.refl _ _
            · exact Keeps.refl _ _

theorem wrBar0_keeps (a : Agent) (off : Nat) (v : Word) (s : State) :
    Keeps (.dma :: .cln :: .life :: .mpt :: .qr :: .qrx :: .air :: .afe :: .line :: .ofd :: .rbm :: .lt :: .ltx :: .slp :: .te :: .tex :: .rg :: .aln :: .cx :: .cv :: .hi :: .mss :: .tmp :: .pwr :: .clk :: .pmx :: .staging :: .freeCtr :: eventParts) s (wrBar0 a off v s) := by
  unfold wrBar0
  refine Keeps.ite ?_ ?_
  · refine (wrHi_keeps ..).step (by decide) ?_
    exact Keeps.refl _ _
  · refine Keeps.ite ?_ ?_
    · refine (wrRing_keeps ..).step (by decide) ?_
      exact Keeps.refl _ _
    · refine Keeps.ite ?_ ?_
      · refine (wrRing_keeps ..).step (by decide) ?_
        exact Keeps.refl _ _
      · refine Keeps.ite ?_ ?_
        · exact Keeps.refl _ _
        · refine Keeps.ite ?_ ?_
          · refine (wrMpt_keeps ..).step (by decide) ?_
            exact Keeps.refl _ _
          · refine Keeps.ite ?_ ?_
            · refine (wrQr_keeps ..).step (by decide) ?_
              exact Keeps.refl _ _
            · refine Keeps.ite ?_ ?_
              · refine (wrAir_keeps ..).step (by decide) ?_
                exact Keeps.refl _ _
              · refine Keeps.ite ?_ ?_
                · refine (wrAfe_keeps ..).step (by decide) ?_
                  exact Keeps.refl _ _
                · refine Keeps.ite ?_ ?_
                  · refine (wrPort_keeps ..).step (by decide) ?_
                    exact Keeps.refl _ _
                  · refine Keeps.ite ?_ ?_
                    · refine (wrOfdRbm_keeps ..).step (by decide) ?_
                      exact Keeps.refl _ _
                    · refine Keeps.ite ?_ ?_
                      · refine (wrLt_keeps ..).step (by decide) ?_
                        exact Keeps.refl _ _
                      · refine Keeps.ite ?_ ?_
                        · refine (wrSlp_keeps ..).step (by decide) ?_
                          exact Keeps.refl _ _
                        · refine Keeps.ite ?_ ?_
                          · refine (wrTe_keeps ..).step (by decide) ?_
                            exact Keeps.refl _ _
                          · refine Keeps.ite ?_ ?_
                            · refine (wrRgc_keeps ..).step (by decide) ?_
                              exact Keeps.refl _ _
                            · refine Keeps.ite ?_ ?_
                              · refine (wrRg_keeps ..).step (by decide) ?_
                                exact Keeps.refl _ _
                              · refine Keeps.ite ?_ ?_
                                · exact Keeps.refl _ _
                                · refine Keeps.ite ?_ ?_
                                  · refine (wrCx_keeps ..).step (by decide) ?_
                                    exact Keeps.refl _ _
                                  · refine Keeps.ite ?_ ?_
                                    · refine (wrCv_keeps ..).step (by decide) ?_
                                      exact Keeps.refl _ _
                                    · refine Keeps.ite ?_ ?_
                                      · refine (wrSys_keeps ..).step (by decide) ?_
                                        exact Keeps.refl _ _
                                      · refine Keeps.ite ?_ ?_
                                        · refine (wrPmx_keeps ..).step (by decide) ?_
                                          exact Keeps.refl _ _
                                        · refine (wrBell_keeps ..).step (by decide) ?_
                                          exact Keeps.refl _ _

theorem wrBar2_keeps (a : Agent) (be : BitVec 4) (off : Nat) (v : Word) (s : State) :
    Keeps (.te :: .tex :: .rg :: .cv :: .hi :: .tmp :: .staging :: eventParts) s (wrBar2 a be off v s) := by
  unfold wrBar2
  refine Keeps.ite ?_ ?_
  · refine (wrCv2_keeps ..).step (by decide) ?_
    exact Keeps.refl _ _
  · refine (wrTe2_keeps ..).step (by decide) ?_
    exact Keeps.refl _ _

theorem writeReg_keeps (a : Agent) (bar2 : Bool) (off : Nat) (be : BitVec 4) (v : Word) (s : State) :
    Keeps (.dma :: .cln :: .life :: .mpt :: .qr :: .qrx :: .air :: .afe :: .line :: .ofd :: .rbm :: .lt :: .ltx :: .slp :: .te :: .tex :: .rg :: .aln :: .cx :: .cv :: .hi :: .mss :: .tmp :: .pwr :: .clk :: .pmx :: .staging :: .freeCtr :: eventParts) s (writeReg a bar2 off be v s) := by
  unfold writeReg
  extract_lets -merge +onlyGivenNames x0
  refine Keeps.ite ?_ ?_
  · exact Keeps.refl _ _
  · refine Keeps.ite ?_ ?_
    · refine Keeps.hi ?_ (by decide)
      exact Keeps.refl _ _
    · refine Keeps.ite ?_ ?_
      · exact Keeps.refl _ _
      · refine Keeps.ite ?_ ?_
        · refine (stageLo_keeps ..).step (by decide) ?_
          exact Keeps.refl _ _
        · refine Keeps.ite ?_ ?_
          · refine (wrBar2_keeps ..).step (by decide) ?_
            exact Keeps.refl _ _
          · refine (wrBar0_keeps ..).step (by decide) ?_
            exact Keeps.refl _ _

theorem runAgent_keeps {L : List Part} {s t : State} {a : Agent} {f : State → State} (hL : [.slp, .pwr] ⊆ L)
    (k : ∀ u, Keeps L s u → Keeps L s (f u)) (h : runAgent a s f = .next t) : Keeps L s t :=
  run_keeps (by simp) (fun u hu => k _ (Keeps.ite ((wakeBy_keeps ..).step hL hu) hu)) h

theorem execRegisterWrite_keeps (a : Agent) (bar2 : Bool) (off : BitVec 16) (be : BitVec 4) (v : Word) (s : State) {s₁ : State}
    (h : execRegisterWrite a bar2 off be v s = .next s₁) : Keeps (.dma :: .cln :: .life :: .mpt :: .qr :: .qrx :: .air :: .afe :: .line :: .ofd :: .rbm :: .lt :: .ltx :: .slp :: .te :: .tex :: .rg :: .aln :: .cx :: .cv :: .hi :: .mss :: .tmp :: .pwr :: .clk :: .pmx :: .staging :: .freeCtr :: eventParts) s s₁ := by
  unfold execRegisterWrite at h
  refine runAgent_keeps (by decide) (fun u hu => ?_) h
  refine (writeReg_keeps ..).step (by decide) ?_
  exact hu

theorem execLoReadShadow_keeps (a : Agent) (bar2 : Bool) (off : BitVec 16) (s : State) {s₁ : State}
    (h : execLoReadShadow a bar2 off s = .next s₁) : Keeps ([.qr, .afe, .ofd, .slp, .rg, .tmp, .pwr, .shadow, .answer, .freeCtr]) s s₁ := by
  unfold execLoReadShadow at h
  refine runAgent_keeps (by decide) (fun u hu => ?_) h
  try beta_reduce
  split
  rename_i v0 v1 e3
  have hv2 : Keeps ([.qr, .afe, .ofd, .slp, .rg, .tmp, .pwr, .shadow, .answer, .freeCtr]) s v1 := by
    refine Keeps.snd e3 ?_
    refine (readReg_keeps ..).step (by decide) ?_
    exact hu
  clear e3
  refine Keeps.answer ?_ (by decide)
  exact hv2

theorem execHiWriteApply_keeps (a : Agent) (bar2 : Bool) (off : BitVec 16) (v : Word) (s : State) {s₁ : State}
    (h : execHiWriteApply a bar2 off v s = .next s₁) : Keeps (.dma :: .cln :: .life :: .mpt :: .qr :: .qrx :: .air :: .afe :: .line :: .ofd :: .rbm :: .lt :: .ltx :: .slp :: .te :: .tex :: .rg :: .aln :: .cx :: .cv :: .hi :: .mss :: .tmp :: .pwr :: .clk :: .pmx :: .staging :: .freeCtr :: eventParts) s s₁ := by
  unfold execHiWriteApply at h
  refine runAgent_keeps (by decide) (fun u hu => ?_) h
  try beta_reduce
  refine Keeps.ite ?_ ?_
  · refine (writeReg_keeps ..).step (by decide) ?_
    exact hu
  · exact hu

/-! ### Machine/Profile.lean -/

theorem execProfileApply_keeps (s : State) {s₁ : State}
    (h : execProfileApply s = .next s₁) : Keeps ([.mss]) s s₁ := by
  unfold execProfileApply at h
  refine run_keeps (by decide) (fun u hu => ?_) h
  try beta_reduce
  refine Keeps.ite ?_ ?_
  · split
    · refine Keeps.mss ?_ (by decide)
      exact hu
    · exact hu
  · exact hu

theorem noneRefused_keeps (s : State) :
    Keeps ([.qr, .air, .afe, .ofd, .rbm, .lt, .te, .rg, .cv, .hi, .ev, .lg, .tmp, .pwr, .pmx]) s (noneRefused s) := by
  unfold noneRefused
  refine (updStage_keeps ..).step (by decide) ?_
  refine (updStage_keeps ..).step (by decide) ?_
  refine Keeps.qr_air_afe_ofd_rbm_te_rg_cv_hi_ev_lg_tmp_pwr_pmx ?_ (by decide) (by decide) (by decide) (by decide) (by decide) (by decide) (by decide) (by decide) (by decide) (by decide) (by decide) (by decide) (by decide) (by decide) (fun h => ⟨h.order, h.balance⟩)
  exact Keeps.refl _ _

theorem baltonWrite_keeps (bar2 : Bool) (off : Nat) (v : Word) (s : State) :
    Keeps (.dma :: .cln :: .life :: .mpt :: .qr :: .qrx :: .air :: .afe :: .line :: .ofd :: .rbm :: .lt :: .ltx :: .slp :: .te :: .tex :: .rg :: .aln :: .cx :: .cv :: .hi :: .mss :: .tmp :: .pwr :: .clk :: .pmx :: .staging :: .freeCtr :: eventParts) s (baltonWrite bar2 off v s) := by
  unfold baltonWrite
  refine (writeReg_keeps ..).step (by decide) ?_
  exact Keeps.refl _ _

theorem execProfileWrite_keeps (bar : Bool) (off : BitVec 16) (v : Word) (s : State) {s₁ : State}
    (h : execProfileWrite bar off v s = .next s₁) : Keeps (.dma :: .cln :: .life :: .mpt :: .qr :: .qrx :: .air :: .afe :: .line :: .ofd :: .rbm :: .lt :: .ltx :: .slp :: .te :: .tex :: .rg :: .aln :: .cx :: .cv :: .hi :: .mss :: .tmp :: .pwr :: .clk :: .pmx :: .staging :: .freeCtr :: eventParts) s s₁ := by
  unfold execProfileWrite at h
  refine run_keeps (by decide) (fun u hu => ?_) h
  try beta_reduce
  split
  · exact hu
  · extract_lets -merge +onlyGivenNames x0
    refine Keeps.ite ?_ ?_
    · extract_lets -merge +onlyGivenNames x1
      refine Keeps.ite ?_ ?_
      · refine (profileNext_keeps ..).step (by decide) ?_
        exact hu
      · refine Keeps.ite ?_ ?_
        · refine (profileStop_keeps ..).step (by decide) ?_
          refine (baltonWrite_keeps ..).step (by decide) ?_
          exact hu
        · refine (profileNext_keeps ..).step (by decide) ?_
          refine (baltonWrite_keeps ..).step (by decide) ?_
          exact hu
    · exact hu

theorem execProfileData_keeps (addr : Word) (data : List Byte) (s : State) {s₁ : State}
    (h : execProfileData addr data s = .next s₁) : Keeps ([.dma, .mss, .mssx, .hostMem, .freeCtr]) s s₁ := by
  unfold execProfileData at h
  refine run_keeps (by decide) (fun u hu => ?_) h
  try beta_reduce
  split
  · exact hu
  · refine Keeps.ite ?_ ?_
    · refine Keeps.ite ?_ ?_
      · refine (profileNext_keeps ..).step (by decide) ?_
        refine (hostWrite_keeps ..).step (by decide) ?_
        exact hu
      · refine (profileStop_keeps ..).step (by decide) ?_
        exact hu
    · exact hu

theorem execProfileDesc_keeps (d : DescBytes) (s : State) {s₁ : State}
    (h : execProfileDesc d s = .next s₁) : Keeps (.dma :: .hi :: .mss :: eventParts) s s₁ := by
  unfold execProfileDesc at h
  refine run_keeps (by decide) (fun u hu => ?_) h
  try beta_reduce
  split
  · extract_lets -merge +onlyGivenNames x0 x1 x2
    refine Keeps.ite ?_ ?_
    · extract_lets -merge +onlyGivenNames x3
      have h4 : Keeps (.dma :: .hi :: .mss :: eventParts) s x3 := by
        unfold x3
        refine (hostWrite_keeps ..).step (by decide) ?_
        exact hu
      extract_lets -merge +onlyGivenNames x5
      extract_lets -merge +onlyGivenNames x6
      have h7 : Keeps (.dma :: .hi :: .mss :: eventParts) s x6 := by
        refine Keeps.mss ?_ (by decide)
        exact h4
      refine (sqBell_keeps ..).step (by decide) ?_
      exact h7
    · exact hu
  · exact hu

theorem execProfileConfirm_keeps (role : Bool) (s : State) {s₁ : State}
    (h : execProfileConfirm role s = .next s₁) : Keeps (.cln :: .mss :: eventParts) s s₁ := by
  unfold execProfileConfirm at h
  refine run_keeps (by decide) (fun u hu => ?_) h
  try beta_reduce
  split
  · refine Keeps.ite ?_ ?_
    · refine (profileNext_keeps ..).step (by decide) ?_
      refine (confirmWrite_keeps ..).step (by decide) ?_
      exact hu
    · exact hu
  · exact hu

theorem execProfileEnd_keeps (s : State) {s₁ : State}
    (h : execProfileEnd s = .next s₁) : Keeps ([.mss]) s s₁ := by
  unfold execProfileEnd at h
  refine run_keeps (by decide) (fun u hu => ?_) h
  try beta_reduce
  split
  · refine (profileEnd_keeps ..).step (by decide) ?_
    exact hu
  · exact hu

/-! ### Machine/LineRx.lean -/

theorem remoteWriteWord_keeps (off : Nat) (v : Word) (s : State) :
    Keeps (.dma :: .cln :: .life :: .mpt :: .qr :: .qrx :: .air :: .afe :: .line :: .ofd :: .rbm :: .lt :: .ltx :: .slp :: .te :: .tex :: .rg :: .aln :: .cx :: .cv :: .hi :: .mss :: .tmp :: .pwr :: .clk :: .pmx :: .staging :: .freeCtr :: eventParts) s (remoteWriteWord off v s).2 := by
  unfold remoteWriteWord
  extract_lets -merge +onlyGivenNames x0
  try with_reducible refine Keeps.mk ?_
  refine (writeReg_keeps ..).step (by decide) ?_
  exact Keeps.refl _ _

theorem remoteWriteWords_keeps (n off : Nat) (bs : List Byte) (s : State) :
    Keeps (.dma :: .cln :: .life :: .mpt :: .qr :: .qrx :: .air :: .afe :: .line :: .ofd :: .rbm :: .lt :: .ltx :: .slp :: .te :: .tex :: .rg :: .aln :: .cx :: .cv :: .hi :: .mss :: .tmp :: .pwr :: .clk :: .pmx :: .staging :: .freeCtr :: eventParts) s (remoteWriteWords n off bs s).2 := by
  induction n generalizing off bs s with
  | zero => exact Keeps.refl _ _
  | succ n ih => exact (ih _ _ _).step (by decide) ((remoteWriteWord_keeps ..).step (by decide) (Keeps.refl _ _))

theorem remoteReadWords_keeps (n off : Nat) (s : State) :
    Keeps ([.qr, .afe, .ofd, .rg, .tmp, .shadow, .freeCtr]) s (remoteReadWords n off s).2 := by
  induction n generalizing off s with
  | zero => exact Keeps.refl _ _
  | succ n ih => exact (ih _ _).step (by decide) ((readReg_keeps ..).step (by decide) (Keeps.refl _ _))

theorem remoteAct_keeps (b : List Byte) (s : State) :
    Keeps (.dma :: .cln :: .life :: .mpt :: .qr :: .qrx :: .air :: .afe :: .line :: .ofd :: .rbm :: .lt :: .ltx :: .slp :: .te :: .tex :: .rg :: .aln :: .cx :: .cv :: .hi :: .mss :: .tmp :: .pwr :: .clk :: .pmx :: .shadow :: .staging :: .freeCtr :: eventParts) s (remoteAct b s).2.2 := by
  unfold remoteAct
  extract_lets -merge +onlyGivenNames x0 x1 x2
  refine Keeps.ite3 ?_ ?_
  · try with_reducible refine Keeps.mk2 ?_
    try with_reducible refine Keeps.mk ?_
    exact Keeps.refl _ _
  · refine Keeps.ite3 ?_ ?_
    · try with_reducible refine Keeps.mk2 ?_
      try with_reducible refine Keeps.mk ?_
      exact Keeps.refl _ _
    · refine Keeps.ite3 ?_ ?_
      · split
        rename_i v3 v4 e6
        have hv5 : Keeps (.dma :: .cln :: .life :: .mpt :: .qr :: .qrx :: .air :: .afe :: .line :: .ofd :: .rbm :: .lt :: .ltx :: .slp :: .te :: .tex :: .rg :: .aln :: .cx :: .cv :: .hi :: .mss :: .tmp :: .pwr :: .clk :: .pmx :: .shadow :: .staging :: .freeCtr :: eventParts) s v4 := by
          refine Keeps.snd e6 ?_
          refine (remoteReadWords_keeps ..).step (by decide) ?_
          exact Keeps.refl _ _
        clear e6
        try with_reducible refine Keeps.mk2 ?_
        try with_reducible refine Keeps.mk ?_
        exact hv5
      · split
        rename_i v7 v8 e10
        have hv9 : Keeps (.dma :: .cln :: .life :: .mpt :: .qr :: .qrx :: .air :: .afe :: .line :: .ofd :: .rbm :: .lt :: .ltx :: .slp :: .te :: .tex :: .rg :: .aln :: .cx :: .cv :: .hi :: .mss :: .tmp :: .pwr :: .clk :: .pmx :: .shadow :: .staging :: .freeCtr :: eventParts) s v8 := by
          refine Keeps.snd e10 ?_
          refine (remoteWriteWords_keeps ..).step (by decide) ?_
          exact Keeps.refl _ _
        clear e10
        try with_reducible refine Keeps.mk2 ?_
        try with_reducible refine Keeps.mk ?_
        exact hv9

theorem sendRemoteResp_keeps (body : List Byte) (s : State) :
    Keeps ([.line, .freeCtr]) s (sendRemoteResp body s) := by
  unfold sendRemoteResp
  extract_lets -merge +onlyGivenNames x0
  refine (contend_keeps ..).step (by decide) ?_
  refine (submit_keeps ..).step (by decide) ?_
  exact Keeps.refl _ _

theorem onRemote_keeps (o : Front) (s : State) :
    Keeps (.dma :: .cln :: .life :: .mpt :: .qr :: .qrx :: .air :: .afe :: .line :: .ofd :: .rbm :: .lt :: .ltx :: .slp :: .te :: .tex :: .rg :: .aln :: .cx :: .cv :: .hi :: .mss :: .tmp :: .pwr :: .clk :: .pmx :: .shadow :: .staging :: .freeCtr :: eventParts) s (onRemote o s) := by
  unfold onRemote
  refine Keeps.ite ?_ ?_
  · exact Keeps.refl _ _
  · extract_lets -merge +onlyGivenNames x0
    refine Keeps.ite ?_ ?_
    · split
      rename_i v1 v2 v3 e5
      have hv4 : Keeps (.dma :: .cln :: .life :: .mpt :: .qr :: .qrx :: .air :: .afe :: .line :: .ofd :: .rbm :: .lt :: .ltx :: .slp :: .te :: .tex :: .rg :: .aln :: .cx :: .cv :: .hi :: .mss :: .tmp :: .pwr :: .clk :: .pmx :: .shadow :: .staging :: .freeCtr :: eventParts) s v3 := by
        refine Keeps.snd2 e5 ?_
        refine (remoteAct_keeps ..).step (by decide) ?_
        exact Keeps.refl _ _
      clear e5
      extract_lets -merge +onlyGivenNames x6
      refine (sendRemoteResp_keeps ..).step (by decide) ?_
      refine Keeps.ltx ?_ (by decide)
      exact hv4
    · refine Keeps.ite ?_ ?_
      · split
        · refine Keeps.ite ?_ ?_
          · refine (sendRemoteResp_keeps ..).step (by decide) ?_
            exact Keeps.refl _ _
          · exact Keeps.refl _ _
        · exact Keeps.refl _ _
      · refine (pushAck_keeps ..).step (by decide) ?_
        exact Keeps.refl _ _

theorem remoteDone_keeps (f : TxFrame) (data : List Byte) (s : State) :
    Keeps (.dma :: .hi :: .freeCtr :: eventParts) s (remoteDone f data s) := by
  unfold remoteDone
  extract_lets -merge +onlyGivenNames x0
  split
  · exact Keeps.refl _ _
  · split
    · exact Keeps.refl _ _
    · refine Keeps.ite ?_ ?_
      · refine withDst_keeps (by decide) ?_ ?_
        · intro u1 hu2
          try beta_reduce
          refine (finish_keeps ..).step (by decide) ?_
          refine (hostWrite_keeps ..).step (by decide) ?_
          exact hu2
        · exact Keeps.refl _ _
      · refine (finish_keeps ..).step (by decide) ?_
        exact Keeps.refl _ _

theorem onRemoteResp_keeps (o : Front) (s : State) :
    Keeps (.dma :: .air :: .line :: .ltx :: .hi :: .freeCtr :: eventParts) s (onRemoteResp o s) := by
  unfold onRemoteResp
  refine Keeps.ite ?_ ?_
  · exact Keeps.refl _ _
  · split
    · exact Keeps.refl _ _
    · extract_lets -merge +onlyGivenNames x0 x1 x2
      refine Keeps.ite ?_ ?_
      · exact Keeps.refl _ _
      · extract_lets -merge +onlyGivenNames x3
        have h4 : Keeps (.dma :: .air :: .line :: .ltx :: .hi :: .freeCtr :: eventParts) s x3 := by
          refine Keeps.ite ?_ ?_
          · exact Keeps.refl _ _
          · refine (raiseFor_keeps ..).step (by decide) ?_
            exact Keeps.refl _ _
        extract_lets -merge +onlyGivenNames x5
        have h6 : Keeps (.dma :: .air :: .line :: .ltx :: .hi :: .freeCtr :: eventParts) s x5 := by
          refine Keeps.ite ?_ ?_
          · refine (fenceDrop_keeps ..).step (by decide) ?_
            exact h4
          · refine Keeps.ite ?_ ?_
            · refine (remoteDone_keeps ..).step (by decide) ?_
              exact h4
            · refine (finishOpt_keeps ..).step (by decide) ?_
              exact h4
        refine (endFrame_keeps ..).step (by decide) ?_
        exact h6

theorem rxRow_keeps {L : List Part} {s t : State} {ok : Front → State → Bool} {k : Front → State → State} {f : RxFrame}
    (hL : .air :: .afe :: .line :: .ofd :: .rbm :: .lt :: .ltx :: .slp :: .cx :: .hi :: .freeCtr :: eventParts ⊆ L) (hk : ∀ o u, Keeps L s u → Keeps L s (k o u)) (h : Keeps L s t) :
    Keeps L s (rxRow ok k f t) := by
  unfold rxRow
  have a := (rxOpen_keeps f t).step (List.Subset.trans (by decide) hL) h
  refine Keeps.ite h ?_
  split
  · rename_i v e
    have b := Keeps.snd e a
    exact Keeps.ite ((slpFolioUsed_keeps ..).step (List.Subset.trans (by decide) hL) b) b
  · rename_i o v e
    exact Keeps.ite (hk _ _ (Keeps.snd e a)) h

theorem rxTyped_keeps {L : List Part} {s t : State} {ty : Nat} {k : Front → State → State} {f : RxFrame}
    (hL : .air :: .afe :: .line :: .ofd :: .rbm :: .lt :: .ltx :: .slp :: .slph :: .cx :: .hi :: .freeCtr :: eventParts ⊆ L) (hk : ∀ o u, Keeps L s u → Keeps L s (k o u)) (h : Keeps L s t) :
    Keeps L s (rxTyped ty k f t) := by
  unfold rxTyped
  refine rxRow_keeps (List.Subset.trans (by decide) hL) (fun o u hu => hk _ _ ?_) h
  exact (slpFolioUsed_keeps ..).step (List.Subset.trans (by decide) hL)
    ((slpHeard_keeps ..).step (List.Subset.trans (by decide) hL) hu)

theorem rxLeg_keeps {L : List Part} {s t : State} {ty : Nat} {k : Front → State → State} {f : RxFrame}
    (hL : .air :: .afe :: .line :: .ofd :: .rbm :: .lt :: .ltx :: .slp :: .slph :: .tex :: .cx :: .hi :: .freeCtr :: eventParts ⊆ L) (hk : ∀ o u, Keeps L s u → Keeps L s (k o u)) (h : Keeps L s t) :
    Keeps L s (rxLeg ty k f t) := by
  unfold rxLeg
  refine rxRow_keeps (List.Subset.trans (by decide) hL) (fun o u hu => ?_) h
  refine Keeps.ite ?_ (hk _ _ ?_)
  · exact (onRangeLeg_keeps ..).step (List.Subset.trans (by decide) hL)
      ((noteGrant_keeps ..).step (List.Subset.trans (by decide) hL) ((countOk_keeps ..).step (List.Subset.trans (by decide) hL) hu))
  · exact (slpFolioUsed_keeps ..).step (List.Subset.trans (by decide) hL)
      ((slpHeard_keeps ..).step (List.Subset.trans (by decide) hL) hu)

theorem onRangeReq_keeps (o : Front) (s : State) :
    Keeps ([.tex]) s (onRangeReq o s) := by
  unfold onRangeReq
  refine Keeps.ite ?_ ?_
  · refine (onRangeLeg_keeps ..).step (by decide) ?_
    exact Keeps.refl _ _
  · exact Keeps.refl _ _

theorem rangeRespHead_keeps (o : Front) (s : State) :
    Keeps (.line :: .lt :: .tex :: eventParts) s (rangeRespHead o s) := by
  unfold rangeRespHead
  refine Keeps.ite ?_ ?_
  · refine (onRangeResp_keeps ..).step (by decide) ?_
    exact Keeps.refl _ _
  · exact Keeps.refl _ _

theorem rangeResultLeaf_keeps (o : Front) (s : State) :
    Keeps (.lt :: .te :: .tex :: .rg :: .hi :: .tmp :: eventParts) s (rangeResultLeaf o s) := by
  unfold rangeResultLeaf
  refine Keeps.ite ?_ ?_
  · refine (onRangeResult_keeps ..).step (by decide) ?_
    exact Keeps.refl _ _
  · exact Keeps.refl _ _

theorem joinReqHead_keeps (o : Front) (s : State) :
    Keeps (.air :: .line :: .lt :: .ltx :: .cx :: .hi :: .freeCtr :: eventParts) s (joinReqHead o s) := by
  unfold joinReqHead
  refine Keeps.ite ?_ ?_
  · refine (onJoinReq_keeps ..).step (by decide) ?_
    exact Keeps.refl _ _
  · exact Keeps.refl _ _

theorem onFrame_keeps (o : Front) (s : State) :
    Keeps (.dma :: .cln :: .life :: .mpt :: .qr :: .qrx :: .air :: .afe :: .line :: .ofd :: .rbm :: .lt :: .ltx :: .slp :: .slph :: .te :: .tex :: .rg :: .aln :: .cx :: .cv :: .hi :: .mss :: .tmp :: .pwr :: .clk :: .pmx :: .shadow :: .staging :: .freeCtr :: eventParts) s (onFrame o s) := by
  unfold onFrame
  refine Keeps.ite ?_ ?_
  · refine Keeps.ite ?_ ?_
    · refine (onRangeLeg_keeps ..).step (by decide) ?_
      refine (noteGrant_keeps ..).step (by decide) ?_
      refine (countOk_keeps ..).step (by decide) ?_
      exact Keeps.refl _ _
    · refine (onRelay_keeps ..).step (by decide) ?_
      exact Keeps.refl _ _
  · extract_lets -merge +onlyGivenNames x0
    have h1 : Keeps (.dma :: .cln :: .life :: .mpt :: .qr :: .qrx :: .air :: .afe :: .line :: .ofd :: .rbm :: .lt :: .ltx :: .slp :: .slph :: .te :: .tex :: .rg :: .aln :: .cx :: .cv :: .hi :: .mss :: .tmp :: .pwr :: .clk :: .pmx :: .shadow :: .staging :: .freeCtr :: eventParts) s x0 := by
      unfold x0
      refine (slpFolioUsed_keeps ..).step (by decide) ?_
      refine (slpHeard_keeps ..).step (by decide) ?_
      exact Keeps.refl _ _
    split
    · refine (onBeacon_keeps ..).step (by decide) ?_
      exact h1
    · refine (onRolemap_keeps ..).step (by decide) ?_
      exact h1
    · refine (onData_keeps ..).step (by decide) ?_
      exact h1
    · refine (onAck_keeps ..).step (by decide) ?_
      exact h1
    · refine (joinReqHead_keeps ..).step (by decide) ?_
      exact h1
    · refine (onJoinResp_keeps ..).step (by decide) ?_
      exact h1
    · refine (onRangeReq_keeps ..).step (by decide) ?_
      exact h1
    · refine (rangeRespHead_keeps ..).step (by decide) ?_
      exact h1
    · refine (rangeResultLeaf_keeps ..).step (by decide) ?_
      exact h1
    · refine (onWake_keeps ..).step (by decide) ?_
      exact h1
    · refine (onRemote_keeps ..).step (by decide) ?_
      exact h1
    · refine (onRemoteResp_keeps ..).step (by decide) ?_
      exact h1
    · exact h1

theorem execFrameDiscard_keeps (f : RxFrame) (s : State) {s₁ : State}
    (h : execFrameDiscard f s = .next s₁) : Keeps (.air :: .afe :: .line :: .ofd :: .rbm :: .lt :: .ltx :: .slp :: .cx :: .hi :: .freeCtr :: eventParts) s s₁ := by
  unfold execFrameDiscard at h
  refine run_keeps (by decide) (fun u hu => ?_) h
  refine rxRow_keeps (by decide) ?_ ?_
  · intro _ u0 hu1
    try beta_reduce
    exact hu1
  · exact hu

theorem execBeaconReceive_keeps (f : RxFrame) (s : State) {s₁ : State}
    (h : execBeaconReceive f s = .next s₁) : Keeps (.mpt :: .qr :: .qrx :: .air :: .afe :: .line :: .ofd :: .rbm :: .lt :: .ltx :: .slp :: .slph :: .te :: .tex :: .rg :: .cx :: .hi :: .tmp :: .freeCtr :: eventParts) s s₁ := by
  unfold execBeaconReceive at h
  refine run_keeps (by decide) (fun u hu => ?_) h
  refine rxTyped_keeps (by decide) ?_ ?_
  · intro _ u0 hu1
    try beta_reduce
    refine (onBeacon_keeps ..).step (by decide) ?_
    exact hu1
  · exact hu

theorem execRolemapReceive_keeps (f : RxFrame) (s : State) {s₁ : State}
    (h : execRolemapReceive f s = .next s₁) : Keeps (.qr :: .qrx :: .air :: .afe :: .line :: .ofd :: .rbm :: .lt :: .ltx :: .slp :: .slph :: .cx :: .hi :: .freeCtr :: eventParts) s s₁ := by
  unfold execRolemapReceive at h
  refine run_keeps (by decide) (fun u hu => ?_) h
  refine rxTyped_keeps (by decide) ?_ ?_
  · intro _ u0 hu1
    try beta_reduce
    refine (onRolemap_keeps ..).step (by decide) ?_
    exact hu1
  · exact hu

theorem execDataReceive_keeps (f : RxFrame) (s : State) {s₁ : State}
    (h : execDataReceive f s = .next s₁) : Keeps (.dma :: .air :: .afe :: .line :: .ofd :: .rbm :: .lt :: .ltx :: .slp :: .slph :: .cx :: .hi :: .freeCtr :: eventParts) s s₁ := by
  unfold execDataReceive at h
  refine run_keeps (by decide) (fun u hu => ?_) h
  refine rxTyped_keeps (by decide) ?_ ?_
  · intro _ u0 hu1
    try beta_reduce
    refine (onData_keeps ..).step (by decide) ?_
    exact hu1
  · exact hu

theorem execAckReceive_keeps (f : RxFrame) (s : State) {s₁ : State}
    (h : execAckReceive f s = .next s₁) : Keeps (.air :: .afe :: .line :: .ofd :: .rbm :: .lt :: .ltx :: .slp :: .slph :: .cx :: .hi :: .freeCtr :: eventParts) s s₁ := by
  unfold execAckReceive at h
  refine run_keeps (by decide) (fun u hu => ?_) h
  refine rxTyped_keeps (by decide) ?_ ?_
  · intro _ u0 hu1
    try beta_reduce
    refine (onAck_keeps ..).step (by decide) ?_
    exact hu1
  · exact hu

theorem execJoinReqReceive_keeps (f : RxFrame) (s : State) {s₁ : State}
    (h : execJoinReqReceive f s = .next s₁) : Keeps (.air :: .afe :: .line :: .ofd :: .rbm :: .lt :: .ltx :: .slp :: .slph :: .cx :: .hi :: .freeCtr :: eventParts) s s₁ := by
  unfold execJoinReqReceive at h
  refine run_keeps (by decide) (fun u hu => ?_) h
  refine rxTyped_keeps (by decide) ?_ ?_
  · intro _ u0 hu1
    try beta_reduce
    refine (joinReqHead_keeps ..).step (by decide) ?_
    exact hu1
  · exact hu

theorem execJoinRespReceive_keeps (f : RxFrame) (s : State) {s₁ : State}
    (h : execJoinRespReceive f s = .next s₁) : Keeps (.air :: .afe :: .line :: .ofd :: .rbm :: .lt :: .ltx :: .slp :: .slph :: .cx :: .hi :: .freeCtr :: eventParts) s s₁ := by
  unfold execJoinRespReceive at h
  refine run_keeps (by decide) (fun u hu => ?_) h
  refine rxTyped_keeps (by decide) ?_ ?_
  · intro _ u0 hu1
    try beta_reduce
    refine (onJoinResp_keeps ..).step (by decide) ?_
    exact hu1
  · exact hu

theorem execRangeReqReceive_keeps (f : RxFrame) (s : State) {s₁ : State}
    (h : execRangeReqReceive f s = .next s₁) : Keeps (.air :: .afe :: .line :: .ofd :: .rbm :: .lt :: .ltx :: .slp :: .slph :: .tex :: .cx :: .hi :: .freeCtr :: eventParts) s s₁ := by
  unfold execRangeReqReceive at h
  refine run_keeps (by decide) (fun u hu => ?_) h
  refine rxLeg_keeps (by decide) ?_ ?_
  · intro _ u0 hu1
    try beta_reduce
    refine (onRangeReq_keeps ..).step (by decide) ?_
    exact hu1
  · exact hu

theorem execRangeRespReceive_keeps (f : RxFrame) (s : State) {s₁ : State}
    (h : execRangeRespReceive f s = .next s₁) : Keeps (.air :: .afe :: .line :: .ofd :: .rbm :: .lt :: .ltx :: .slp :: .slph :: .tex :: .cx :: .hi :: .freeCtr :: eventParts) s s₁ := by
  unfold execRangeRespReceive at h
  refine run_keeps (by decide) (fun u hu => ?_) h
  refine rxLeg_keeps (by decide) ?_ ?_
  · intro _ u0 hu1
    try beta_reduce
    refine (rangeRespHead_keeps ..).step (by decide) ?_
    exact hu1
  · exact hu

theorem execRangeResultReceive_keeps (f : RxFrame) (s : State) {s₁ : State}
    (h : execRangeResultReceive f s = .next s₁) : Keeps (.air :: .afe :: .line :: .ofd :: .rbm :: .lt :: .ltx :: .slp :: .slph :: .te :: .tex :: .rg :: .cx :: .hi :: .tmp :: .freeCtr :: eventParts) s s₁ := by
  unfold execRangeResultReceive at h
  refine run_keeps (by decide) (fun u hu => ?_) h
  refine rxTyped_keeps (by decide) ?_ ?_
  · intro _ u0 hu1
    try beta_reduce
    refine (rangeResultLeaf_keeps ..).step (by decide) ?_
    exact hu1
  · exact hu

theorem execWakeReceive_keeps (f : RxFrame) (s : State) {s₁ : State}
    (h : execWakeReceive f s = .next s₁) : Keeps (.air :: .afe :: .line :: .ofd :: .rbm :: .lt :: .ltx :: .slp :: .slph :: .cx :: .hi :: .freeCtr :: eventParts) s s₁ := by
  unfold execWakeReceive at h
  refine run_keeps (by decide) (fun u hu => ?_) h
  refine rxTyped_keeps (by decide) ?_ ?_
  · intro _ u0 hu1
    try beta_reduce
    refine (onWake_keeps ..).step (by decide) ?_
    exact hu1
  · exact hu

theorem execRemoteReceive_keeps (f : RxFrame) (s : State) {s₁ : State}
    (h : execRemoteReceive f s = .next s₁) : Keeps (.dma :: .cln :: .life :: .mpt :: .qr :: .qrx :: .air :: .afe :: .line :: .ofd :: .rbm :: .lt :: .ltx :: .slp :: .slph :: .te :: .tex :: .rg :: .aln :: .cx :: .cv :: .hi :: .mss :: .tmp :: .pwr :: .clk :: .pmx :: .shadow :: .staging :: .freeCtr :: eventParts) s s₁ := by
  unfold execRemoteReceive at h
  refine run_keeps (by decide) (fun u hu => ?_) h
  refine rxTyped_keeps (by decide) ?_ ?_
  · intro _ u0 hu1
    try beta_reduce
    refine (onRemote_keeps ..).step (by decide) ?_
    exact hu1
  · exact hu

theorem execRemoteRespReceive_keeps (f : RxFrame) (s : State) {s₁ : State}
    (h : execRemoteRespReceive f s = .next s₁) : Keeps (.dma :: .air :: .afe :: .line :: .ofd :: .rbm :: .lt :: .ltx :: .slp :: .slph :: .cx :: .hi :: .freeCtr :: eventParts) s s₁ := by
  unfold execRemoteRespReceive at h
  refine run_keeps (by decide) (fun u hu => ?_) h
  refine rxTyped_keeps (by decide) ?_ ?_
  · intro _ u0 hu1
    try beta_reduce
    refine (onRemoteResp_keeps ..).step (by decide) ?_
    exact hu1
  · exact hu

theorem execRelayFrameReceive_keeps (f : RxFrame) (s : State) {s₁ : State}
    (h : execRelayFrameReceive f s = .next s₁) : Keeps (.air :: .afe :: .line :: .ofd :: .rbm :: .lt :: .ltx :: .slp :: .cx :: .hi :: .freeCtr :: eventParts) s s₁ := by
  unfold execRelayFrameReceive at h
  refine run_keeps (by decide) (fun u hu => ?_) h
  refine rxRow_keeps (by decide) ?_ ?_
  · intro _ u0 hu1
    try beta_reduce
    refine (onRelay_keeps ..).step (by decide) ?_
    exact hu1
  · exact hu

theorem execHcPairDecode_keeps (f : RxFrame) (s : State) {s₁ : State}
    (h : execHcPairDecode f s = .next s₁) : Keeps (.dma :: .cln :: .life :: .mpt :: .qr :: .qrx :: .air :: .afe :: .line :: .ofd :: .rbm :: .lt :: .ltx :: .slp :: .slph :: .te :: .tex :: .rg :: .aln :: .cx :: .cv :: .hi :: .mss :: .tmp :: .pwr :: .clk :: .pmx :: .shadow :: .staging :: .freeCtr :: eventParts) s s₁ := by
  unfold execHcPairDecode at h
  refine run_keeps (by decide) (fun u hu => ?_) h
  try beta_reduce
  extract_lets -merge +onlyGivenNames x0
  refine Keeps.ite ?_ ?_
  · refine rxRow_keeps (by decide) ?_ ?_
    · intro _ u1 hu2
      try beta_reduce
      refine (onFrame_keeps ..).step (by decide) ?_
      exact hu2
    · refine Keeps.rbm ?_ (by decide)
      exact hu
  · exact hu

/-! ### Machine/Clock.lean -/

theorem mptTick_keeps (s : State) :
    Keeps ([.mpt]) s (mptTick s) := by
  unfold mptTick
  refine Keeps.mpt ?_ (by decide)
  exact Keeps.refl _ _

theorem airTick_keeps (s : State) :
    Keeps ([.air]) s (airTick s) := by
  unfold airTick
  refine Keeps.ite ?_ ?_
  · refine Keeps.air ?_ (by decide)
    exact Keeps.refl _ _
  · exact Keeps.refl _ _

theorem teTick_keeps (s : State) :
    Keeps (.te :: .tex :: .rg :: .hi :: .tmp :: eventParts) s (teTick s) := by
  unfold teTick
  extract_lets -merge +onlyGivenNames x0 x1 x2
  extract_lets -merge +onlyGivenNames x3
  have h4 : Keeps (.te :: .tex :: .rg :: .hi :: .tmp :: eventParts) s x3 := by
    refine Keeps.te ?_ (by decide)
    exact Keeps.refl _ _
  refine Keeps.ite ?_ ?_
  · refine (secondPassed_keeps ..).step (by decide) ?_
    exact h4
  · exact h4

theorem chTick_keeps (c : Fin 8) (s : State) :
    Keeps ([.rg]) s (chTick c s) := by
  unfold chTick
  extract_lets -merge +onlyGivenNames x0
  refine Keeps.ite ?_ ?_
  · extract_lets -merge +onlyGivenNames x1
    extract_lets -merge +onlyGivenNames x2
    have h3 : Keeps ([.rg]) s x2 := by
      unfold x2
      refine (updCh_keeps ..).step (by decide) ?_
      exact Keeps.refl _ _
    refine Keeps.ite ?_ ?_
    · refine (sampleClock_keeps ..).step (by decide) ?_
      exact h3
    · exact h3
  · exact Keeps.refl _ _

theorem rgTick_keeps (s : State) :
    Keeps ([.rg]) s (rgTick s) := by
  unfold rgTick
  refine Keeps.ite ?_ ?_
  · refine Keeps.foldl ?_ (fun u0 _ hu1 => ?_)
    · exact Keeps.refl _ _
    · try beta_reduce
      refine (chTick_keeps ..).step (by decide) ?_
      exact hu1
  · exact Keeps.refl _ _

theorem onceTick_keeps (s : State) :
    Keeps ([.air, .afe, .line, .ofd, .rbm, .ltx, .cx, .hi]) s (onceTick s) := by
  unfold onceTick
  refine Keeps.ite ?_ ?_
  · refine (onceClear_keeps ..).step (by decide) ?_
    exact Keeps.refl _ _
  · exact Keeps.refl _ _

theorem aonTick_keeps (s : State) :
    Keeps ([.tmp]) s (aonTick s) := by
  unfold aonTick
  refine Keeps.ite ?_ ?_
  · refine Keeps.tmp ?_ (by decide)
    exact Keeps.refl _ _
  · exact Keeps.refl _ _

theorem State.tick_keeps (s : State) : Keeps (.mpt :: .air :: .afe :: .line :: .ofd :: .rbm :: .ltx :: .te :: .tex :: .rg :: .cx :: .hi :: .tmp :: .now :: eventParts) s s.tick := by
  unfold State.tick
  have a : Keeps (.mpt :: .air :: .afe :: .line :: .ofd :: .rbm :: .ltx :: .te :: .tex :: .rg :: .cx :: .hi :: .tmp :: .now :: eventParts) s
      (aonTick (if devUp s then onceTick (rgTick (airTick (teTick (mptTick s)))) else s)) := by
    refine (aonTick_keeps ..).step (by decide) (Keeps.ite ?_ (Keeps.refl _ _))
    refine (onceTick_keeps ..).step (by decide) ((rgTick_keeps ..).step (by decide) ((airTick_keeps ..).step (by decide) ?_))
    exact (teTick_keeps ..).step (by decide) ((mptTick_keeps ..).step (by decide) (Keeps.refl _ _))
  exact ⟨⟨fun p hp => by
    have b := a.same.agree p hp
    cases p <;> first | exact absurd (by decide) hp | exact b⟩,
    fun k => let b := a.sound k; ⟨b.mem, b.ledgers, b.confirm, b.ring⟩⟩

end Sys2Proof.Machine
end

