-- ==== Sys2Proof/Tests/Slice0.lean ====
section
/-! SUPPORT. Tests: values the spec writes out, terms that are not well formed, single steps, and for every statement states and
operands that meet its hypotheses. -/
namespace Sys2Proof.Tests
set_option Elab.async false
open Sys2Proof.Machine

/-! ### States -/

def r0 : State := State.reset
/-- The phases LOCKED at 50 Hz, with a reference. -/
def locked (s : State) : State :=
  { s with mpt := { s.mpt with
      ctrl := s.mpt.ctrl ||| 7
      refChosen := true
      ph := s.mpt.ph.map fun p => { p with st := .locked, freq := 0x32000000, lockedFreq := 0x32000000, inRange := true, tracked := true } } }
/-- The scheduler runs on the mains. -/
def running (s : State) : State :=
  { locked s with
    cln := { s.cln with confirmed := true }
    qr := { s.qr with st := .mains, run := true, part := 4 } }
def asLeaf (s : State) : State := { s with cln := { s.cln with role := true } }
/-- A leaf that has joined as number 5. -/
def joined (s : State) : State :=
  let s := asLeaf s
  { s with
    lt := { s.lt with jstate := 2 }
    ltx := { s.ltx with myNum := 5 } }
/-- Line ports IDLE, bands A and D of region FCC/EU enabled. -/
def onAir (s : State) : State :=
  { s with
    afe := { s.afe with p := s.afe.p.map fun x => { x with st := .idle, pctrl := x.pctrl ||| 1 } }
    air := { s.air with
      ctrl := 0x1001
      band := s.air.band.map fun a => { a with rate := 0x30000, window := 10000, main := 20000000 } }
    ofd := { s.ofd with
      valid := 3
      tm := [(9, 0xFFFFFF00), (10, 0xFFFFFFFF), (11, 0x0FFFFFFF), (12, 0xFFFFFFFF), (13, 0xFFFFFFFF)] } }
/-- A leaf-table entry: ACTIVE, port 0, OFDM with tone map 1 at rate 2. -/
def entryAct : Entry := set512 (set512 (set512 (set512 (set512 0 60 3 2) 72 3 1) 68 1 1) 112 4 1) 116 2 2
/-- The head of leaf 1, whose key is in slot 0. -/
def withLeaf (s : State) : State :=
  { s with
    lt := { s.lt with mem := [(1, entryAct)] }
    cx := { s.cx with
      coreEn := 1
      core := s.cx.core.map fun c => { c with st := .idle }
      slot := vupd s.cx.slot 0 fun k => { k with use := useCached, owner := 1 }
      lru := 1 } }
/-- All folios but the first carry one role on every phase. -/
def allRole (r : Word) (s : State) : State :=
  { s with qr := { s.qr with
      folio := 1
      bank := s.qr.bank.map fun b => { b with roles := (List.range 288).map fun k => (k, 0x11111111 * r) } } }
def txData (s : State) : TxFrame := { txNew tyData 1 [1, 2, 3] s with ackreq := true }
/-- The beacon a leaf follows: quires of eight cycles of twelve folios, the device's own map active. -/
def beacon0 (s : State) : BeaconInfo :=
  { kind := 0, flags := 0, quire := 7, geom := 7 + 32, base := 150, fwAdd := 0, active := bankDigest (actBank s),
    tod := { sec := 0, ns := 0, frac := 0 }, part := Vector.replicate 4 0, pendDigest := none, qs := none, fwP := none,
    qr := none, predSlip := none }
/-- A leaf, number 5, that follows its head, with the key of the head in slot 1. -/
def leafOf (r : Word) : State :=
  let s := onAir (allRole r (running State.reset))
  let s := joined s
  { s with
    qrx := { s.qrx with last := some (beacon0 s) }
    ofd := { s.ofd with rxen := 7 }
    lt := { s.lt with mem := [(0, set512 (set512 entryAct 256 2 2) 272 6 1)] }
    slp := { s.slp with beaconHeard := true }
    cx := { s.cx with
      coreEn := 1
      core := s.cx.core.map fun c => { c with st := .idle }
      slot := vupd s.cx.slot 1 fun k => { k with use := usePinned } } }
/-- A head with leaf 1, all folios of one role, its receivers on. -/
def headOf (r : Word) : State :=
  let s := withLeaf (onAir (allRole r (running State.reset)))
  { s with ofd := { s.ofd with rxen := 7 } }
/-- A frame as received on port 0 in OFDM mode under the key of zeros. -/
def rxOf (bytes : List Byte) : RxFrame :=
  { port := 0, ofdm := true, fc := 0x21, copy := false, mse := 0, rsOk := true, corrected := 0, ofs := 0, bytes := bytes, lqi := 0,
    snr := 0, stamp := { sec := 0, ns := 0, frac := 0 }, angle := 0, ports := 1, headUid := 0 }
def rxFrame (ty : Nat) (ack : Bool) (dst src : BitVec 12) (seq : Byte) (body : List Byte) (uid : BitVec 48 := 0) (rt : Option Route := none) : RxFrame :=
  let h : Hdr :=
    { ty := ty, ver := 1, sec := true, ackreq := ack, edition := 0, headId := 0, urgent := false, rly := rt.isSome,
      dst := dst, src := src, seq := seq, len := body.length, rsv := false }
  rxOf (buildFrame h rt 0 1 uid false 0 body)
def openOf (f : RxFrame) (s : State) : Front := match (rxOpen f s).1 with
  | some o => o
  | none => { f := f, h := hdrOf [], rt := none, hops := 0, cls := 0, gen := 0, inv := 0, sec := [], body := [], tag := [] }
def ringCh (r : State) : State := { r with
  hi := { r.hi with
    sq := r.hi.sq.map fun q => { q with st := .running, cfg := 0x80000004, tail := 3 }
    cq := r.hi.cq.map fun q => { q with st := .running, cfg := 0x80000104 } } }
def descOf (l : List (Nat × Nat × Nat)) : DescBytes := l.foldl (fun d x => set512 d (8 * x.1) (8 * x.2.1) x.2.2) 0

end Sys2Proof.Tests

namespace Sys2Proof.Tests
set_option Elab.async false
open Sys2Proof.Machine

/-! ### Values the spec writes out -/

def digits : List Byte := [0x31, 0x32, 0x33, 0x34, 0x35, 0x36, 0x37, 0x38, 0x39]
/-- A channel set up by preset p. -/
def preset (p : Nat) : CvCh := cvAt (cvCfg 4 false (BitVec.ofNat 32 (p * 65536)) r0) 4

/-- 14 Table 14.1, the column Check. -/
theorem test_check_values : ((List.range 8).map fun p => cvResult (digits.foldl (fun k b => cvFeed b k) (preset (p + 1)))) =
    [0xCBF43926, 0xE3069283, 0xFC891918, 0x906E, 0x29B1, 0xBB3D, 0x2189, 0xF4] := by decide +kernel

/-- 13 Table 13.6, G1. -/
theorem test_gcm_g1 : gcmEnc false 0 (List.replicate 12 0) [] (List.replicate 16 0) 16 =
    ([0x03, 0x88, 0xda, 0xce, 0x60, 0xb6, 0xa3, 0x92, 0xf3, 0x28, 0xc2, 0xb9, 0x71, 0xb2, 0xfe, 0x78],
     [0xab, 0x6e, 0x47, 0xd4, 0x2c, 0xec, 0x13, 0xbd, 0xf5, 0x3a, 0x67, 0xb2, 0x12, 0x57, 0xbd, 0xdf]) := by decide +kernel

/-- 13 Table 13.6, G4: a key of 256 bits. -/
theorem test_gcm_g4 : (gcmEnc true 0 (List.replicate 12 0) [] (List.replicate 16 0) 16).2 =
    [0xd0, 0xd1, 0xc8, 0xa7, 0x99, 0x99, 0x6b, 0xf0, 0x26, 0x5b, 0x98, 0xb5, 0xd4, 0x8a, 0xb9, 0x19] := by decide +kernel

/-- 13 Table 13.6, C1. -/
theorem test_ccm_c1 : ccmEnc false (BitVec.ofNat 256 (ofLe ((List.range 16).map fun k => BitVec.ofNat 8 (0x40 + k))))
    ((List.range 7).map fun k => BitVec.ofNat 8 (0x10 + k)) ((List.range 8).map fun k => BitVec.ofNat 8 k) [0x20, 0x21, 0x22, 0x23] 4 =
    ([0x71, 0x62, 0x01, 0x5b], [0x4d, 0xac, 0x25, 0x5d]) := by decide +kernel

/-- 05, the worked example: an acknowledgement of leaf 0x02A. -/
def ackHdr : Hdr :=
  { ty := tyAck, ver := 1, sec := true, ackreq := false, edition := 0x5A31, headId := 0, urgent := false, rly := false,
    dst := 0, src := 0x02A, seq := 0, len := 4, rsv := false }
def ackFrame : List Byte := buildFrame ackHdr none 3 8000 0 false 0 [0x17, 0x00, 0xC8, 0x00]

theorem test_ack_frame : ackFrame.length = 32 ∧
    ackFrame.take 10 = [0x53, 0x31, 0x5A, 0x00, 0x00, 0xA0, 0x02, 0x00, 0x04, 0x00] ∧
    (ackFrame.drop 12).take 12 = [0x0D, 0x40, 0x1F, 0x00, 0x00, 0x00, 0x04, 0x00, 0x17, 0x00, 0xC8, 0x00] ∧
    (scramble ackFrame).take 3 = [0xB3, 0x4C, 0x2E] := by decide +kernel

theorem test_ack_nonce : nonceOf 0 1 3 8000 0x5A31 0x02A 0 = [0x04, 0x31, 0x5A, 0x2A, 0x00, 0x03, 0x00, 0x40, 0x1F, 0x00, 0x00, 0x00] := by
  decide +kernel

/-- 06, the worked example: slot 1 at rate 3/4, 269 bits a symbol, 1152 us. -/
def toneMap1 : State := { r0 with ofd := { r0.ofd with
  valid := 3
  tm := [(9, 0xFFFFFF80), (10, 0xFFFFFFFF), (11, 0x1FFFFFFF), (12, 0x3FFFFFFC)] } }
theorem test_ofdm_airtime : bitsPerSym toneMap1 1 = 269 ∧ airtimeOf toneMap1 (.ofdm 1 2) 32 = 1152 := by decide +kernel

/-! ### Terms that are not well formed, refused -/

/-- The bit that makes the write its command. -/
theorem test_wf_bits : ([.biasClr 0, .mptSnapCapture 0, .qrRun 0, .qrStopRequest 1, .faultClr 0 0, .portDisable 0 1, .portEnable 0 0,
    .afeLock 0, .ltRead .loc 0x10000000, .ltCommit .loc 0, .tipinStart 0, .teCapture 0, .rgArm 0 0, .rgStopRequest 0 0x80000000,
    .faultHoldClear 0, .ringEnable .sq 0 0, .ringDisable .sq 0 0x80000000, .msixUnmask 1, .eventRingEnable 0,
    .eventRingDisable 0x80000000, .ledgerReinit 0, .unitReset 0] : List Instr).all (fun i => !wellFormed i) = true := by decide

/-- The opcode of the row. -/
theorem test_wf_opcodes : ([.cxGcmEnc 0 0x41 (.data []), .cxGcmDec 0 0x40 (.data []), .cxCcmEnc 0 0x40 (.data []), .cxCcmDec 0 0x40 (.data []),
    .cxKeyLoad 0 0 (.data []) none, .cxKeyUnload 0 0, .cxRekey 0 0, .nop 0 1, .lineTx 0 0 (.data []), .rxPost 0 0, .remoteRead 0 0,
    .remoteWrite 0 0 (.data []), .remoteFence 0 0, .sigWrite 0 0 (.data []), .rgFlag 0 0, .rgRetune 0 0, .ledgerSnap 0 0,
    .mssRequest 0 0 (.data []), .unknownOpcode 0 0] : List Instr).all (fun i => !wellFormed i) = true := by decide +kernel

/-- As many bytes as the descriptor names. -/
theorem test_wf_lengths : ([.lineTx 0 0x10 (.data [1]), .remoteWrite 0 0x21 (.data [1]), .sigWrite 0 0x30 (.data [1]),
    .mssRequest 0 0x60 (.data [1]), .cxKeyLoad 0 0x44 (.data [1]) none, .cxGcmEnc 0 0x40 (.data [1]), .cxGcmDec 0 0x41 (.data [1]),
    .cxCcmEnc 0 0x42 (.data [1]), .cxCcmDec 0 0x43 (.data [1]), .txClip 0 0, .readSensors (List.replicate 65 0),
    .profileData 0 (List.replicate 65537 0), .smbAlert (List.replicate 33 .nack)] : List Instr).all (fun i => !wellFormed i) = true := by
  decide +kernel

def longFrame : RxFrame := rxOf (List.replicate 561 0)
/-- A frame longer than any line frame. -/
theorem test_wf_frames : ([.frameDiscard longFrame, .beaconReceive longFrame, .rolemapReceive longFrame, .dataReceive longFrame,
    .ackReceive longFrame, .joinReqReceive longFrame, .joinRespReceive longFrame, .rangeReqReceive longFrame, .rangeRespReceive longFrame,
    .rangeResultReceive longFrame, .wakeReceive longFrame, .remoteReceive longFrame, .remoteRespReceive longFrame,
    .relayFrameReceive longFrame, .hcPairDecode longFrame] : List Instr).all (fun i => !wellFormed i) = true := by decide +kernel

/-- Leaf numbers, ledger instances and offsets. -/
theorem test_wf_numbers : ([.tipinTimeout 0, .entrySilent 0xFFF, .entryGone 0, .ticketUnwrap 0xFFF, .ledgerEccError 0 0x1FFF,
    .profileWrite false 2 0, .registerWrite .host false 1 0xF 0, .loReadShadow .host false 3, .hiWriteApply .host true 6 0] : List Instr).all
      (fun i => !wellFormed i) = true := by decide

/-! ### Single steps -/

/-- The answer of a read after a write, one step each. -/
def afterStep (c : Instr) (s : State) : State :=
  match step { s with pending := [c] } with
  | .next t => t
  | .fault _ => s
  | .refused _ => s

/-- 02 R96: a write to QR_PART is ignored while RUN = 1, and taken otherwise. -/
theorem test_part_ignored : rdLive .host false 0x2440 (afterStep (.registerWrite .host false 0x2440 0xF 0x00000204) (running r0)) = 4 ∧
    rdLive .host false 0x2440 (afterStep (.registerWrite .host false 0x2440 0xF 0x00000204) r0) = 0x204 := by decide +kernel

/-- 00 R6: ROLE 0 with HOSTMODE 1 is not confirmed. -/
theorem test_strap_invalid : (afterStep (.hiConfirm 0x80000000)
    { r0 with cln := { r0.cln with hostmode := true }, life := { r0.life with mssReadySeen := true } }).cln.confirmed = false := by decide +kernel

/-- 15 R484: a doorbell beyond the ring faults it. -/
theorem test_doorbell_fault : (sqAt (afterStep (.sqDoorbell 3 16) (ringCh r0)) 3).st = .fault := by decide +kernel

/-- The queue is first in, first out; on an empty queue a tick passes. -/
theorem test_queue : (match step { r0 with pending := [.tapReset, .linkUp] } with
    | .next t => t.pending
    | .fault _ => []
    | .refused _ => []) = [.linkUp] ∧ (afterStep .tapReset r0).now = 0 ∧
    (match step r0 with
    | .next t => t.now
    | .fault _ => 0
    | .refused _ => 0) = 1 := by decide +kernel

/-! ### The statements about every command and every state -/

/-- The hypotheses of ConfirmedStays can be met. -/
theorem meets_ConfirmedStays :
    (∃ (s : State) (v : Word), s.cln.confirmed = true ∧ bitAt v 31 = true) ∧
    (∃ (c : Instr) (s : State), s.cln.confirmed = true ∧ Completes c s fun t => t.cln.confirmed = false) :=
  ⟨⟨running r0, 0x80000001, by decide +kernel⟩,
   ⟨.coldStart ⟨true, false, false⟩ ⟨15, Vector.replicate 3 .v33⟩, running r0, by decide +kernel, _, rfl, by decide +kernel⟩⟩

/-- The hypotheses of IgnoredWrites can be met, clause by clause. -/
theorem meets_IgnoredWrites :
    (∃ v : Word, (fld v 0 2 = fld v 2 2 ∨ fld v 2 2 = fld v 4 2 ∨ fld v 0 2 = fld v 4 2 ∨ fld v 0 2 = 3 ∨ fld v 2 2 = 3 ∨ fld v 4 2 = 3)) ∧
    (∃ s : State, s.qr.run = true) :=
  ⟨⟨0x22, by decide +kernel⟩, ⟨running r0, by decide +kernel⟩⟩

/-- The hypotheses of IdleTick, SoundStep and CommandFrame can be met. -/
theorem meets_IdleTick : ∃ s : State, s.pending = [] := ⟨r0, rfl⟩
theorem meets_SoundStep : ∃ s t : State, Sound s ∧ step s = .next t :=
  ⟨r0, _, ⟨by decide, ⟨List.Pairwise.nil, fun _ h => by cases h⟩, ⟨by decide, by decide⟩, fun h => RingSt.noConfusion h⟩, rfl⟩
theorem meets_CommandFrame : ∃ (c : Instr) (s t : State), exec c s = .next t := ⟨.tapReset, r0, _, rfl⟩

end Sys2Proof.Tests

namespace Sys2Proof.Tests.Pw
set_option Elab.async false
open Sys2Proof.Machine

def down0 : State := { r0 with life := { r0.life with aonUp := false } }
def uart0 : State := { r0 with mss := { r0.mss with uart := true } }
def asleep0 : State := { r0 with pwr := { r0.pwr with st := .appointed } }
def start0 : State := { r0 with mss := { r0.mss with st := 0, loaded := true } }
def hostm0 : State := { r0 with cln := { r0.cln with hostmode := true } }
def linked0 : State := { r0 with life := { r0.life with linkUp := true } }
def sleepy0 : State :=
  let s := joined (running r0)
  { s with
    slp := { s.slp with ctrl := 1 }
    qr := { s.qr with folio := 1 }
    lt := { s.lt with mem := [(0, set512 0 240 16 0x7800)] } }
def wakepin0 : State := { asleep0 with pmx := { asleep0.pmx with pin := vupd asleep0.pmx.pin 44 fun _ => 0x256 } }
def exiting0 : State := { asleep0 with pwr := { asleep0.pwr with exiting := some 1 } }
def hold0 : State := { r0 with pwr := { r0.pwr with st := .holdover, ldv := 0x8A000320 } }
def ldv0 : State := { r0 with pwr := { r0.pwr with ldv := 0x8A000320 } }
def dorm0 : State := { r0 with pwr := { r0.pwr with st := .dormant, cfg := 3 } }
def busy0 : State := { r0 with hi := { r0.hi with sq := vupd r0.hi.sq 0 fun q =>
    { q with taken := [{ id := 0, bytes := 1, result := none, mail := false, events := [] }] } } }
def clk0 : State := { r0 with clk := { r0.clk with present := 7, refsel := true } }
def lock0 : State := { r0 with pmx := { r0.pmx with lock := true } }
def tmp0 : State := { r0 with tmp := { r0.tmp with cfg := 0x33330303 }, now := 1000000 }
def tmpL : State := { r0 with tmp := { r0.tmp with locked := true } }
def zer0 : State := { tmpL with tmp := { tmpL.tmp with zero := [{ at_ := 0, jobs := 1, waits := [(0, 3)], done := none, source := 0, enters := true }, { at_ := 0, jobs := 0, waits := [], done := none, source := 0, enters := false }] } }

/-- The hypotheses of CoreHeldInReset can be met, clause by clause. -/
theorem meets_CoreHeldInReset :
    (∃ (s : State), s.life.aonUp = true) ∧
    (∃ (s : State), s.life.aonUp = true ∧ s.pwr.st ≠ .dormant) ∧
    (∃ (s : State), s.life.aonUp = true) ∧
    (∃ (s : State), s.life.aonUp = false) :=
  ⟨⟨r0, by decide +kernel⟩,
   ⟨r0, by decide +kernel⟩,
   ⟨r0, by decide +kernel⟩,
   ⟨down0, by decide +kernel⟩⟩

/-- The hypotheses of PowerOnToReady can be met, clause by clause. -/
theorem meets_PowerOnToReady :
    (∃ (s : State), s.life.aonUp = true) ∧
    (∃ (s : State), devUp s = true ∧ s.cln.hostmode = false) ∧
    (∃ (s : State), devUp s = true ∧ s.mss.uart = true) ∧
    (∃ (s : State), devUp s = true ∧ mssStarting s = true) ∧
    (∃ (s : State) (v : _), devUp s = true ∧ bitAt v 31 = true ∧ s.cln.confirmed = false ∧ bitAt v 0 = s.cln.role ∧ ((s.cln.role = true ∨ s.cln.hostmode = false))) ∧
    (∃ (s : State) (v : _), devUp s = true ∧ bitAt v 31 = true ∧ s.cln.confirmed = false ∧ bitAt v 0 ≠ s.cln.role ∧ ((s.cln.role = true ∨ s.cln.hostmode = false))) :=
  ⟨⟨r0, by decide +kernel⟩,
   ⟨r0, by decide +kernel⟩,
   ⟨uart0, by decide +kernel⟩,
   ⟨start0, by decide +kernel⟩,
   ⟨r0, 0x80000000, by decide +kernel⟩,
   ⟨r0, 0x80000001, by decide +kernel⟩⟩

/-- The hypotheses of HostLinkResets can be met, clause by clause. -/
theorem meets_HostLinkResets :
    (∃ (s : State), devUp s = true ∧ s.cln.hostmode = false) ∧
    (∃ (s : State), devUp s = true ∧ s.cln.hostmode = false) ∧
    (∃ (s : State), devUp s = true ∧ s.cln.hostmode = false) ∧
    (∃ (s : State), devUp s = true ∧ s.cln.hostmode = false ∧ s.life.linkUp = true) ∧
    (∃ (s : State), devUp s = true ∧ s.cln.hostmode = true) :=
  ⟨⟨busy0, by decide +kernel⟩,
   ⟨r0, by decide +kernel⟩,
   ⟨r0, by decide +kernel⟩,
   ⟨linked0, by decide +kernel⟩,
   ⟨hostm0, by decide +kernel⟩⟩

/-- The hypotheses of PowerStates can be met, clause by clause. -/
theorem meets_PowerStates :
    (∃ (s : State), devUp s = true ∧ maySleep s = true) ∧
    (∃ (s : State), devUp s = true ∧ asleep s = true ∧ s.pwr.exiting = none) ∧
    (∃ (s : State) (i : Fin 48), devUp s = true ∧ inputPin s 16 = some i ∧ asleep s = true ∧ s.pwr.exiting = none) ∧
    (∃ (s : State) (src : _), devUp s = true ∧ asleep s = true ∧ s.pwr.exiting = some src) ∧
    (∃ (s : State), devUp s = true ∧ bitAt s.pwr.cfg 31 = true ∧ s.pwr.st = .active ∧ ((∀ f ∈ s.line.q, f.st ≠ .onLine))) ∧
    (∃ (s : State), devUp s = true ∧ s.pwr.st = .holdover) :=
  ⟨⟨sleepy0, by decide +kernel⟩,
   ⟨asleep0, by decide +kernel⟩,
   ⟨wakepin0, 44, by decide +kernel⟩,
   ⟨exiting0, 1, by decide +kernel⟩,
   ⟨r0, by decide +kernel⟩,
   ⟨hold0, by decide +kernel⟩⟩

/-- The hypotheses of DormantAndRails can be met, clause by clause. -/
theorem meets_DormantAndRails :
    (∃ (s : State) (v : _), devUp s = true ∧ bitAt v 31 = true ∧ s.pwr.st = .active ∧ workOpen s = false ∧ ((bitAt s.pwr.cfg 1 = false ∨ s.tmp.aon.toNat + 32768 ≤ s.pwr.wakeAt.toNat))) ∧
    (∃ (s : State) (v : _), devUp s = true ∧ bitAt v 31 = true ∧ s.pwr.st = .active ∧ workOpen s = true) ∧
    (∃ (s : State), s.life.aonUp = true ∧ s.pwr.st = .dormant ∧ bitAt s.pwr.cfg 1 = true ∧ s.pwr.wakeAt.toNat ≤ s.tmp.aon.toNat ∧ s.pwr.exiting = none) ∧
    (∃ (s : State) (i : Fin 8), devUp s = true ∧ i ≠ 6) ∧
    (∃ (s : State) (i : Fin 8), devUp s = true ∧ i ≠ 6) ∧
    (∃ (s : State) (b : _), s.life.aonUp = true ∧ s.pwr.backup ≠ b) ∧
    (∃ (s : State) (v : _), devUp s = true ∧ bitAt s.pwr.ldv 31 = false ∧ bitAt v 31 = false) ∧
    (∃ (s : State), devUp s = true ∧ bitAt s.pwr.ldv 31 = true ∧ s.pwr.st ≠ .holdover) :=
  ⟨⟨r0, 0x80000000, by decide +kernel⟩,
   ⟨busy0, 0x80000000, by decide +kernel⟩,
   ⟨dorm0, by decide +kernel⟩,
   ⟨r0, 3, by decide +kernel⟩,
   ⟨r0, 4, by decide +kernel⟩,
   ⟨r0, true, by decide +kernel⟩,
   ⟨r0, 0x0F000111, by decide +kernel⟩,
   ⟨ldv0, by decide +kernel⟩⟩

/-- The hypotheses of Clocks can be met, clause by clause. -/
theorem meets_Clocks :
    (∃ (s : State) (i : Fin 3), devUp s = true ∧ s.clk.present.getLsbD i = true) ∧
    (∃ (s : State) (i : Fin 3), devUp s = true ∧ s.clk.present.getLsbD i = false) ∧
    (∃ (s : State) (i : Fin 4), devUp s = true ∧ pllRuns s i = true ∧ s.clk.pll.getLsbD i = true) ∧
    (∃ (s : State) (i : Fin 4), devUp s = true ∧ pllRuns s i = true ∧ (pllsLocked s true).getLsbD i = true) ∧
    (∃ (s : State), devUp s = true ∧ s.clk.refsel = true ∧ s.clk.present.getLsbD 1 = true) :=
  ⟨⟨clk0, 1, by decide +kernel⟩,
   ⟨r0, 1, by decide +kernel⟩,
   ⟨r0, 0, by decide +kernel⟩,
   ⟨r0, 1, by decide +kernel⟩,
   ⟨clk0, by decide +kernel⟩⟩

/-- The hypotheses of PinsAndTap can be met, clause by clause. -/
theorem meets_PinsAndTap :
    (∃ (s : State), devUp s = true ∧ s.pmx.lock = false) ∧
    (∃ (s : State), devUp s = true ∧ s.pmx.lock = true) ∧
    (∃ (s : State), devUp s = true) :=
  ⟨⟨r0, by decide +kernel⟩,
   ⟨lock0, by decide +kernel⟩,
   ⟨r0, by decide +kernel⟩⟩

/-- The hypotheses of Tamper can be met, clause by clause. -/
theorem meets_Tamper :
    (∃ (s : State) (i : _), s.life.aonUp = true ∧ tmpEn s (tamperIdx i) = true) ∧
    (∃ (s : State) (k : _), s.life.aonUp = true ∧ devUp s = true ∧ tmpEn s (glitchIdx k) = true ∧ s.life.upAt + ticksMs 1 ≤ s.now) ∧
    (∃ (s : State), s.life.aonUp = true) ∧
    (∃ (s : State) (v : _), devUp s = true ∧ bitAt v 31 = false ∧ bitAt v 0 = true ∧ s.tmp.live = 0 ∧ s.tmp.latch = 0 ∧ s.tmp.locked = true ∧ ((s.tmp.ks = 0 ∨ s.tmp.ksmk.isSome = true))) ∧
    (∃ (s : State) (v : _), devUp s = true ∧ bitAt v 31 = true ∧ bitAt v 0 = false) :=
  ⟨⟨tmp0, .tamp1, by decide +kernel⟩,
   ⟨tmp0, .voltage, by decide +kernel⟩,
   ⟨zer0, by decide +kernel⟩,
   ⟨tmpL, 1, by decide +kernel⟩,
   ⟨r0, 0x80000000, by decide +kernel⟩⟩

end Sys2Proof.Tests.Pw

namespace Sys2Proof.Tests.Regs
set_option Elab.async false
open Sys2Proof.Machine

def stg (a : Agent) : State := { r0 with staging := [((a, true, 0x830), 55)], shadow := [((a, true, 0x808), 66)] }

/-- The hypotheses of RegisterAccess can be met, clause by clause. -/
theorem meets_RegisterAccess :
    (∃ (s : State) (be : BitVec 4), devUp s = true ∧ be ≠ 0xF) ∧
    (∃ (s : State) (a : Agent) (b : Bool) (off : BitVec 16), devUp s = true ∧ isLoRw b off.toNat = true ∧ ((b = false ∨ a ≠ .remote))) ∧
    (∃ (s : State) (a : Agent) (b : Bool) (off : BitVec 16), devUp s = true ∧ isLoRw b off.toNat = true ∧ ((b = false ∨ a ≠ .remote))) ∧
    (∃ (s : State), devUp s = true) ∧
    (∃ (s : State), devUp s = true) ∧
    (∃ (s : State), devUp s = true) ∧
    (∃ (s : State) (a : Agent) (lo : _), devUp s = true ∧ a ≠ .remote ∧ pairGet (a, true, 0x830) s.staging = some lo ∧ s.te.armed = none) ∧
    (∃ (s : State) (a : Agent) (lo : _) (m : _), devUp s = true ∧ a ≠ .remote ∧ pairGet (a, true, 0x830) s.staging = some lo ∧ s.te.armed = some m) ∧
    (∃ (s : State), devUp s = true) ∧
    (∃ (s : State), devUp s = true ∧ s.te.armed = none ∧ pairGet (hostAgent s, true, 0x830) s.staging = none) ∧
    (∃ (s : State) (b : Bool) (off : BitVec 16), devUp s = true ∧ isLo b off.toNat = true) ∧
    (∃ (s : State) (a : Agent) (b : Bool) (off : BitVec 16) (w : _), devUp s = true ∧ 4 ≤ off.toNat ∧ isLo b (off.toNat - 4) = true ∧ pairGet (a, b, off.toNat - 4) s.shadow = some w) ∧
    (∃ (s : State), devUp s = true) :=
  ⟨⟨r0, 3, by decide +kernel⟩,
   ⟨r0, .balton, true, 0x830, by decide +kernel⟩,
   ⟨r0, .remote, false, 0xB010, by decide +kernel⟩,
   ⟨r0, by decide +kernel⟩,
   ⟨r0, by decide +kernel⟩,
   ⟨r0, by decide +kernel⟩,
   ⟨stg .host, .host, 55, by decide +kernel⟩,
   ⟨let s := stg .host; { s with te := { s.te with armed := some 2 } }, .host, 55, 2, by decide +kernel⟩,
   ⟨stg .host, by decide +kernel⟩,
   ⟨r0, by decide +kernel⟩,
   ⟨stg .host, true, 0x830, by decide +kernel⟩,
   ⟨stg .host, .host, true, 0x80C, 66, by decide +kernel⟩,
   ⟨stg .host, by decide +kernel⟩⟩

end Sys2Proof.Tests.Regs

namespace Sys2Proof.Tests.Mpt
set_option Elab.async false
open Sys2Proof.Machine

def ph (f : PhaseS → PhaseS) (s : State := r0) : State := updPh 1 f s
def en (s : State) : State := { s with mpt := { s.mpt with ctrl := s.mpt.ctrl ||| 7 } }
def hd (s : State := locked r0) : State := { s with qr := { s.qr with part := 4 } }

/-- The hypotheses of PhaseStateChanges can be met, clause by clause. -/
theorem meets_PhaseStateChanges :
    (∃ (n : Phase) (s : State), let p := phAt s n; devUp s = true ∧ p.st = .unlocked ∧ mptEn s n = true ∧ p.inRange = true ∧ p.noX = 0) ∧
    (∃ (n : Phase) (s : State), let p := phAt s n; devUp s = true ∧ p.st = .acquiring ∧ lossCycles s ≤ p.noX) ∧
    (∃ (n : Phase) (s : State), let p := phAt s n; devUp s = true ∧ p.st = .acquiring ∧ p.tracked = false ∧ p.inRange = true ∧ mptEn s n = true ∧ lockCycles s ≤ p.good) ∧
    (∃ (n : Phase) (s : State), let p := phAt s n; devUp s = true ∧ p.st = .locked ∧ (lossCycles s ≤ p.noX ∨ lossCycles s ≤ p.bad)) ∧
    (∃ (n : Phase) (s : State), let p := phAt s n; devUp s = true ∧ p.st = .flywheel ∧ fwLimit s ≤ p.fw) ∧
    (∃ (n : Phase) (s : State) (f : _), let p := phAt s n; devUp s = true ∧ p.st = .locked ∧ p.inRange = true ∧ freqInRange f = false) ∧
    (∃ (n : Phase) (s : State) (f : _), let p := phAt s n; devUp s = true ∧ p.st = .acquiring ∧ p.inRange = true ∧ freqInRange f = false) ∧
    (∃ (n : Phase) (s : State), let p := phAt s n; devUp s = true ∧ p.st = .flywheel ∧ p.tracked = true ∧ p.inRange = true ∧ mptEn s n = true) :=
  ⟨⟨1, en (ph fun p => { p with inRange := true }), by decide +kernel⟩,
   ⟨1, ph fun p => { p with st := .acquiring, noX := lossCycles r0 }, by decide +kernel⟩,
   ⟨1, en (ph fun p => { p with st := .acquiring, inRange := true, good := lockCycles r0 }), by decide +kernel⟩,
   ⟨1, ph fun p => { p with st := .locked, noX := lossCycles r0 }, by decide +kernel⟩,
   ⟨1, ph fun p => { p with st := .flywheel, fw := fwLimit r0 }, by decide +kernel⟩,
   ⟨1, locked r0, 0, by decide +kernel⟩,
   ⟨1, (ph fun p => { p with st := .acquiring, inRange := true }), 0, by decide +kernel⟩,
   ⟨1, en (ph fun p => { p with st := .flywheel, tracked := true, inRange := true }), by decide +kernel⟩⟩

/-- The hypotheses of CyclesAndSnapshots can be met, clause by clause. -/
theorem meets_CyclesAndSnapshots :
    (∃ (n : Phase) (s : State), let p := phAt s n; let off := edgeOffset p; devUp s = true ∧ blanked p s.now = false ∧ tracksPhase p.st = true ∧ within off tenPercent = true ∧ p.edge = none ∧ 0 ≤ sAng off) ∧
    (∃ (n : Phase) (s : State), let p := phAt s n; let off := edgeOffset p; devUp s = true ∧ blanked p s.now = false ∧ tracksPhase p.st = true ∧ within off tenPercent = false ∧ p.edge = none ∧ p.edgeEarly = none ∧ p.spurQuiet ≠ 0) ∧
    (∃ (n : Phase) (s : State), let p := phAt s n; devUp s = true ∧ blanked p s.now = true) ∧
    (∃ (n : Phase) (s : State), let p := phAt s n; devUp s = true ∧ p.step = none) ∧
    (∃ (s : State), devUp s = true ∧ pendStep s.mpt = none) ∧
    (∃ (s : State) (v : _), devUp s = true ∧ bitAt v 0 = true) :=
  ⟨⟨1, ph (fun p => { p with zcDly := 0 }) (locked r0), by decide +kernel⟩,
   ⟨1, ph (fun p => { p with acc := 70368744177664, spurQuiet := 1 }) (locked r0), by decide +kernel⟩,
   ⟨1, ph (fun p => { p with edgeAt := some 0 }) (locked r0), by decide +kernel⟩,
   ⟨1, r0, by decide +kernel⟩,
   ⟨r0, by decide +kernel⟩,
   ⟨r0, 1, by decide +kernel⟩⟩

/-- The hypotheses of MptControl can be met, clause by clause. -/
theorem meets_MptControl :
    (∃ (s : State) (v : Word), let old := s.mpt.ctrl; devUp s = true ∧ usesLeafRef s = false ∧ mptCtrlValue old (v ||| 0x20000) = old) ∧
    (∃ (s : State) (v : Word), let old := s.mpt.ctrl; let new := mptCtrlValue old v; devUp s = true ∧ usesLeafRef s = false ∧ bitAt v 17 = false ∧ ((∀ n : Phase, bitAt old n.val = true → bitAt new n.val = true)) ∧ (old ^^^ new) &&& 0x3C0 ≠ 0 ∧ fld new 8 2 = 1) ∧
    (∃ (s : State) (v : Word) (n : Phase), let old := s.mpt.ctrl; let new := mptCtrlValue old v; devUp s = true ∧ usesLeafRef s = false ∧ bitAt old n.val = true ∧ bitAt new n.val = false) :=
  ⟨⟨hd, (hd).mpt.ctrl, by decide +kernel⟩,
   ⟨hd, ((hd).mpt.ctrl ^^^ 0x40 ||| 0x100 &&& 0xFFFFFDFF), by decide +kernel⟩,
   ⟨hd, ((hd).mpt.ctrl &&& 0xFFFFFFFD), 1, by decide +kernel⟩⟩

end Sys2Proof.Tests.Mpt

namespace Sys2Proof.Tests.Qr
set_option Elab.async false
open Sys2Proof.Machine

def qs (g : Qr → Qr) (s : State := running r0) : State := { s with qr := g s.qr }
def qx (g : QrX → QrX) (s : State := running r0) : State := { s with qrx := g s.qrx }
def beac : State := let s := allRole 2 (running r0); { s with qr := { s.qr with folio := 0 }, cx := { s.cx with groupNow := some 1 } }

/-- The hypotheses of QuireBoundaries can be met, clause by clause. -/
theorem meets_QuireBoundaries :
    (∃ (s : State), devUp s = true ∧ qrRunning s = true ∧ s.qr.folio + 1 < quireQ s * quireF s) ∧
    (∃ (s : State), devUp s = true ∧ qrRunning s = true ∧ s.qr.folio + 1 = quireQ s * quireF s ∧ isLeaf s = false ∧ s.qrx.stopReq = false ∧ s.qrx.seniorRealign = false ∧ s.qrx.realignQ = none) ∧
    (∃ (s : State), devUp s = true ∧ s.qr.slipping = true ∧ s.qrx.stopReq = false) ∧
    (∃ (s : State), devUp s = true ∧ s.qr.st = .waiting ∧ s.qr.run = true ∧ refValid s = true ∧ s.cln.confirmed = true ∧ isLeaf s = false ∧ follows s = false) ∧
    (∃ (s : State), devUp s = true ∧ qrRunning s = true ∧ s.qrx.marginDone = false ∧ isLeaf s = false ∧ ((∀ p, p < 3 → roleNow s p ≠ rBeacon))) ∧
    (∃ (s : State), let up := ((List.range 3).filter fun p => decide (roleNow s p = rBeacon)).filter (portReady s); devUp s = true ∧ qrRunning s = true ∧ s.qrx.marginDone = false ∧ isLeaf s = false ∧ follows s = false ∧ s.qr.folio = 0 ∧ ((List.range 3).any fun p => decide (roleNow s p = rBeacon)) = true ∧ s.pwr.st ≠ .holdover ∧ lineOpen s = true ∧ s.rbm.bad = false ∧ (groupSlot s).isSome = true ∧ needRealign s = false ∧ ticksToEnd s < ticksUs (airtimeOf s (.robust (bcfg s)) (frameBytes tyBeacon bcast false (beaconBody 0 (beaconTod 0 up s) s).length))) :=
  ⟨⟨running r0, by decide +kernel⟩,
   ⟨qs fun q => { q with folio := 95 }, by decide +kernel⟩,
   ⟨qs fun q => { q with slipping := true }, by decide +kernel⟩,
   ⟨let s := qs (fun q => { q with st := .waiting }); { s with cln := { s.cln with confirmed := true } }, by decide +kernel⟩,
   ⟨allRole 4 (running r0), by decide +kernel⟩,
   ⟨beac, by decide +kernel⟩⟩

/-- The hypotheses of QuireControl can be met, clause by clause. -/
theorem meets_QuireControl :
    (∃ (s : State), let a := s.qr.mapAddr; devUp s = true ∧ mapAddrOk a = true ∧ mapBankNo a ≠ s.qr.active.val ∧ s.qr.swapQ = none ∧ mapBankNo a < 2) ∧
    (∃ (s : State) (g : Fin 2), devUp s = true ∧ g ≠ s.qr.active ∧ s.qr.swapQ = none) ∧
    (∃ (s : State), devUp s = true) ∧
    (∃ (s : State), devUp s = true) ∧
    (∃ (s : State), devUp s = true ∧ s.qr.run = false ∧ s.qr.st = .stopped) ∧
    (∃ (s : State), devUp s = true ∧ s.qr.run = true ∧ (s.qr.st = .mains ∨ s.qr.st = .flywheel)) ∧
    (∃ (s : State), devUp s = true ∧ isHead s = true ∧ follows s = true ∧ s.qrx.seniorLost = false ∧ orOne (fld s.qr.part 8 8) ≤ s.qrx.seniorMiss) :=
  ⟨⟨qs fun q => { q with mapAddr := 0x1000 }, by decide +kernel⟩,
   ⟨r0, 1, by decide +kernel⟩,
   ⟨r0, by decide +kernel⟩,
   ⟨r0, by decide +kernel⟩,
   ⟨r0, by decide +kernel⟩,
   ⟨running r0, by decide +kernel⟩,
   ⟨let s := running r0; { s with qr := { s.qr with part := 0x100 }, qrx := { s.qrx with seniorMiss := 1 } }, by decide +kernel⟩⟩

end Sys2Proof.Tests.Qr

namespace Sys2Proof.Tests.Air
set_option Elab.async false
open Sys2Proof.Machine

def air0 : State := withLeaf (onAir (allRole 1 (running r0)))
def commit0 : State := submit (txData air0) air0
def ack0 : State := { withLeaf (onAir (allRole 2 (running r0))) with line := { r0.line with acks := [⟨0, true, .ofdm 1 2, 1, 3, 0, 0, 0, none⟩] } }
def ackBad0 : State := { air0 with line := ack0.line }
def cband0 : State := { air0 with air := { air0.air with ctrl := 0x71F03, cst := air0.air.cst.map fun c => { c with st := .waiting, delay := some 5 } } }
def crun0 : State := { air0 with air := { air0.air with ctrl := 0x71F03, cst := air0.air.cst.map fun c => { c with st := .run } } }
def committed0 : State := submit { txData air0 with st := .committed, ports := 1, mode := .ofdm 1 2, built := [1, 2] } air0
def onLine0 : State := submit { txData air0 with st := .onLine, ports := 1, mode := .ofdm 1 2, built := [1, 2] } air0
def dead0 : State := submit { txData air0 with deadline := some 5 } air0
def plan0 : Plan := { mode := .ofdm 1 2, ports := 1, air := 1440, start := 726667, bytes := 43 }

/-- The hypotheses of AirRegisters can be met, clause by clause. -/
theorem meets_AirRegisters :
    (∃ (s : State) (v : Word), devUp s = true ∧ airCtrlFault s v = none) ∧
    (∃ (s : State) (v : Word) (c : _), devUp s = true ∧ airCtrlFault s v = some c) ∧
    (∃ (s : State) (v : Word) (r : _) (b : Fin 4), devUp s = true ∧ budgetOk (airSetReg r v s.air.band[b]) = true) ∧
    (∃ (s : State) (v : Word) (r : _) (b : Fin 4), devUp s = true ∧ budgetOk (airSetReg r v s.air.band[b]) = false) :=
  ⟨⟨r0, 0x1001, by decide +kernel⟩,
   ⟨running r0, 0x1001, 4, by decide +kernel⟩,
   ⟨r0, 0x20000, .rate, 1, by decide +kernel⟩,
   ⟨r0, 0, .window, 1, by decide +kernel⟩⟩

/-- The hypotheses of FramesCommitted can be met, clause by clause. -/
theorem meets_FramesCommitted :
    (∃ (s : State) (id : _) (f : _) (p : _) (i : _), devUp s = true ∧ frameAt s id = some f ∧ s.tmp.locked = false ∧ isHead s = true ∧ f.ty.toNat = tyData ∧ f.dst ≠ bcast ∧ f.raw = none ∧ f.deadline = none ∧ f.posted = false ∧ inFlight f = false ∧ slMode s f.dst.toNat = 0 ∧ eState (entryAt s f.dst.toNat) = stActive ∧ fitsNone f s = false ∧ s.rbm.bad = false ∧ planFor f s = some p ∧ (modeOf f s).1 = p.mode ∧ effMode s p.mode = p.mode ∧ pathOf f s = (none, f.dst) ∧ inTurn s f p.ports = true ∧ blockedBehind s f p = false ∧ isPair p.mode = false ∧ ((∀ b ∈ bandsOf s p.mode, b ≠ 1 ∧ covers (bandAt s b) ((portList p.ports).length * p.air) = true)) ∧ cachedSlot s f.dst.toNat = some i ∧ (slotAt s i).unload = none ∧ (slotAt s i).fhold = false ∧ anyCore s = true ∧ (useRec s f.dst.toNat).exh = false ∧ (useRec s f.dst.toNat).inv + 1 ≤ (keyLimits s (slotAt s i)).1 ∧ (useRec s f.dst.toNat).blk + lineBlocks f.ty.toNat f.dst false f.body.length ≤ (keyLimits s (slotAt s i)).2 ∧ (bitAt s.cx.ctrl 8 = false ∨ (useRec s f.dst.toNat).warn = true ∨ 8 * ((useRec s f.dst.toNat).inv + 1) < 7 * (keyLimits s (slotAt s i)).1 ∧ 8 * ((useRec s f.dst.toNat).blk + lineBlocks f.ty.toNat f.dst false f.body.length) < 7 * (keyLimits s (slotAt s i)).2)) ∧
    (∃ (s : State) (id : _) (f : _) (d : _), devUp s = true ∧ frameAt s id = some f ∧ f.deadline = some d ∧ inFlight f = false ∧ f.posted = false ∧ f.desc = none ∧ f.buffer = false) ∧
    (∃ (s : State) (p : Port) (a : _), devUp s = true ∧ s.line.acks.find? (fun a => decide (a.port = p)) = some a ∧ ackPermitted s p.val = false) ∧
    (∃ (s : State) (p : Port) (a : _) (i : _), devUp s = true ∧ s.line.acks.find? (fun a => decide (a.port = p)) = some a ∧ isHead s = true ∧ lineOpen s = true ∧ ackPermitted s p.val = true ∧ portUsable s p.val = true ∧ a.route = none ∧ ticksUs (airtimeOf s a.rate (frameBytes tyAck a.dst false 4)) ≤ ticksToEnd s ∧ ((∀ b ∈ bandsOf s a.rate, 0 ≤ (bandAt s b).main)) ∧ cachedSlot s a.dst.toNat = some i ∧ (slotAt s i).unload = none ∧ (slotAt s i).fhold = false ∧ anyCore s = true ∧ (useRec s a.dst.toNat).exh = false ∧ (useRec s a.dst.toNat).inv + 1 ≤ (keyLimits s (slotAt s i)).1 ∧ (useRec s a.dst.toNat).blk + lineBlocks tyAck a.dst false 4 ≤ (keyLimits s (slotAt s i)).2 ∧ (bitAt s.cx.ctrl 8 = false ∨ (useRec s a.dst.toNat).warn = true ∨ 8 * ((useRec s a.dst.toNat).inv + 1) < 7 * (keyLimits s (slotAt s i)).1 ∧ 8 * ((useRec s a.dst.toNat).blk + lineBlocks tyAck a.dst false 4) < 7 * (keyLimits s (slotAt s i)).2)) :=
  ⟨⟨commit0, 0, (txData air0), plan0, 0, by decide +kernel⟩,
   ⟨dead0, 0, { txData air0 with deadline := some 5 }, 5, by decide +kernel⟩,
   ⟨ackBad0, 0, ⟨0, true, .ofdm 1 2, 1, 3, 0, 0, 0, none⟩, by decide +kernel⟩,
   ⟨ack0, 0, ⟨0, true, .ofdm 1 2, 1, 3, 0, 0, 0, none⟩, 0, by decide +kernel⟩⟩

/-- The hypotheses of BandCAndSamples can be met, clause by clause. -/
theorem meets_BandCAndSamples :
    (∃ (s : State) (p : Port), devUp s = true ∧ cAccess s p = true ∧ (cportAt s p).st = .waiting ∧ (cportAt s p).delay.isSome = true ∧ (portX s p).blank = false) ∧
    (∃ (s : State) (p : Port), devUp s = true ∧ (cportAt s p).st = .waiting ∧ (cportAt s p).delay.isSome = true) ∧
    (∃ (s : State) (p : Port), devUp s = true ∧ (cportAt s p).st = .run ∧ onLineAt s p = false) ∧
    (∃ (s : State) (id : _) (f : _), devUp s = true ∧ frameAt s id = some f ∧ f.st = .committed) ∧
    (∃ (s : State) (id : _) (f : _), devUp s = true ∧ frameAt s id = some f ∧ f.st = .onLine ∧ isPair f.mode = false ∧ f.ackreq = true ∧ f.ty.toNat = tyData ∧ f.dst ≠ bcast ∧ f.raw = none ∧ f.orphan = false) :=
  ⟨⟨cband0, 1, by decide +kernel⟩,
   ⟨cband0, 1, by decide +kernel⟩,
   ⟨crun0, 1, by decide +kernel⟩,
   ⟨committed0, 0, { txData air0 with st := .committed, ports := 1, mode := .ofdm 1 2, built := [1, 2] }, by decide +kernel⟩,
   ⟨onLine0, 0, { txData air0 with st := .onLine, ports := 1, mode := .ofdm 1 2, built := [1, 2] }, by decide +kernel⟩⟩

end Sys2Proof.Tests.Air

namespace Sys2Proof.Tests.Afe
set_option Elab.async false
open Sys2Proof.Machine

def air0 : State := onAir (running r0)
def fr (g : PortS → PortS) : State := { air0 with afe := { air0.afe with p := air0.afe.p.map g } }
def fx (g : PortX → PortX) : State := { air0 with afe := { air0.afe with x := air0.afe.x.map g } }
def onl : State := submit { txData air0 with st := .onLine, ports := 3 } air0
def onx : State := submit { txData air0 with st := .onLine, ports := 1, desc := some (0, 0) } air0

/-- The hypotheses of LinePorts can be met, clause by clause. -/
theorem meets_LinePorts :
    (∃ (s : State) (p : Port), devUp s = true ∧ portUsable s p = true) ∧
    (∃ (s : State) (p : Port), devUp s = true ∧ onLineAt s p = false) ∧
    (∃ (s : State) (p : Port), devUp s = true ∧ (portX s p).ldEn = false) ∧
    (∃ (s : State) (p : Port) (ofdm : _), let x := portS s p; devUp s = true ∧ x.st = .idle ∧ (portX s p).blank = false ∧ rxEnabled s p ofdm = true) ∧
    (∃ (s : State) (p : Port), let x := portS s p; devUp s = true ∧ x.st = .off ∧ pEn x = true ∧ s.pwr.st = .active ∧ ldvBad s = false) ∧
    (∃ (s : State) (p : Port), devUp s = true ∧ (portX s p).offPend = true ∧ onLineAt s p = false) ∧
    (∃ (s : State) (p : Port) (v : _), let x := portS s p; devUp s = true ∧ bitAt v 0 = false ∧ x.st ≠ .off ∧ pEn x = true) ∧
    (∃ (s : State) (p : Port) (v : _), let x := portS s p; devUp s = true ∧ bitAt v 0 = false ∧ x.st ≠ .off ∧ pEn x = true) ∧
    (∃ (s : State) (v : _), devUp s = true ∧ bitAt v 0 = true) :=
  ⟨⟨air0, 1, by decide +kernel⟩,
   ⟨air0, 1, by decide +kernel⟩,
   ⟨air0, 1, by decide +kernel⟩,
   ⟨{ air0 with ofd := { air0.ofd with rxen := 7 } }, 1, true, by decide +kernel⟩,
   ⟨fr fun x => { x with st := .off }, 1, by decide +kernel⟩,
   ⟨fx fun x => { x with offPend := true, ldEn := true }, 1, by decide +kernel⟩,
   ⟨onl, 1, 0, by decide +kernel⟩,
   ⟨air0, 1, 0, by decide +kernel⟩,
   ⟨r0, 0x13, by decide +kernel⟩⟩

/-- The hypotheses of DriverFaults can be met, clause by clause. -/
theorem meets_DriverFaults :
    (∃ (s : State) (p : Port), let x := portS s p; devUp s = true ∧ x.st ≠ .off ∧ x.st ≠ .fault) ∧
    (∃ (s : State) (p : Port), let x := portS s p; devUp s = true ∧ x.st = .fault) ∧
    (∃ (s : State) (p : Port), let x := portS s p; let recent := (portX s p).autoRet.filter fun t => decide (s.now < t + 4000000000); devUp s = true ∧ x.st = .fault ∧ bitAt x.pctrl 3 = true ∧ recent.length < 3 ∧ ldvBad s = false) ∧
    (∃ (s : State) (p : Port) (v : _), let x := portS s p; devUp s = true ∧ bitAt v 31 = true ∧ x.st = .fault ∧ ldvBad s = false) ∧
    (∃ (s : State) (p : Port), let x := portS s p; devUp s = true ∧ x.st ≠ .off) ∧
    (∃ (s : State) (p : Port) (n : _), let x := portS s p; devUp s = true ∧ x.st ≠ .off ∧ 0 < n) :=
  ⟨⟨air0, 1, by decide +kernel⟩,
   ⟨fr fun x => { x with st := .fault, cause := 1 }, 1, by decide +kernel⟩,
   ⟨fr fun x => { x with st := .fault, pctrl := 9 }, 1, by decide +kernel⟩,
   ⟨fr fun x => { x with st := .fault, pctrl := 9 }, 1, 0x80000000, by decide +kernel⟩,
   ⟨air0, 1, by decide +kernel⟩,
   ⟨air0, 1, 7, by decide +kernel⟩⟩

/-- The hypotheses of AfeRegisters can be met, clause by clause. -/
theorem meets_AfeRegisters :
    (∃ (s : State) (p : Port), let x := portS s p; devUp s = true ∧ fld s.afe.firAddr 8 2 = p.val ∧ x.firAct.val ≠ fld s.afe.firAddr 6 1) ∧
    (∃ (s : State) (p : Port), let x := portS s p; devUp s = true ∧ fld s.afe.firAddr 8 2 = p.val ∧ x.firAct.val = fld s.afe.firAddr 6 1) ∧
    (∃ (s : State) (p : Port) (v : Word), let x := portS s p; devUp s = true ∧ bitAt v 0 = true ∧ fld (pctrlNorm v) 4 1 ≠ x.firAct.val) ∧
    (∃ (s : State) (p : Port) (b : _), let x := portS s p; devUp s = true ∧ x.firReq = some b ∧ onLineAt s p = false) ∧
    (∃ (s : State) (v : Word), devUp s = true ∧ notchOk v = true) ∧
    (∃ (s : State) (v : Word), devUp s = true ∧ notchOk v = false) ∧
    (∃ (s : State) (p : Port) (v : Word), let x := portS s p; devUp s = true ∧ levelOk { x with txgain := BitVec.ofNat 32 (min 192 (fld v 0 8)) } = true) ∧
    (∃ (s : State) (p : Port) (v : Word), let x := portS s p; devUp s = true ∧ levelOk { x with txcal := v &&& 0x3FF } = false) ∧
    (∃ (s : State), devUp s = true ∧ s.afe.lock = true) ∧
    (∃ (s : State), devUp s = true) :=
  ⟨⟨{ air0 with afe := { air0.afe with firAddr := 0x17F } }, 1, by decide +kernel⟩,
   ⟨{ air0 with afe := { air0.afe with firAddr := 0x100 } }, 1, by decide +kernel⟩,
   ⟨air0, 1, 0x11, by decide +kernel⟩,
   ⟨fr fun x => { x with firReq := some 1 }, 1, 1, by decide +kernel⟩,
   ⟨air0, 0x80501000, by decide +kernel⟩,
   ⟨air0, 0x80000000, by decide +kernel⟩,
   ⟨air0, 1, 5, by decide +kernel⟩,
   ⟨air0, 1, 0x3FF, by decide +kernel⟩,
   ⟨{ air0 with afe := { air0.afe with lock := true } }, by decide +kernel⟩,
   ⟨air0, by decide +kernel⟩⟩

end Sys2Proof.Tests.Afe

namespace Sys2Proof.Tests.Rx
set_option Elab.async false
open Sys2Proof.Machine

def leafJ : State := let s := leafOf 3; { s with lt := { s.lt with jstate := 1 } }
def bcnBody : List Byte := [0, 0] ++ leBytes 4 77 ++ [0x27, 150, 0, 0, 0] ++ leBytes 4 5 ++ List.replicate 28 0
def fBeacon : RxFrame := rxFrame tyBeacon false bcast 0 0 bcnBody
def fMap : RxFrame := rxFrame tyRolemap false bcast 0 0 ([0, 0, 1] ++ leBytes 4 99 ++ [0x27] ++ leBytes 2 150 ++ leBytes 4 0 ++ [1, 2, 3])
def fData : RxFrame := rxFrame tyData true 0 1 0 [1, 2, 3]
def fAck : RxFrame := rxFrame tyAck false 0 1 0 [9, 0, 0, 0]
def hAck : State := submit { txData (headOf 2) with st := .waiting, seq := some 9 } (headOf 2)
def joinKey (s : State) : State := { s with cx := { s.cx with kdk := some 5, slot := vupd s.cx.slot 2 fun k => { k with use := useJoin } } }
def hJoin : State := let s := joinKey (headOf 2); { s with lt := { s.lt with cfg := s.lt.cfg ||| 2 } }
def fJoin : RxFrame := rxFrame tyJoinReq false 0 0xFFF 0 (leBytes 6 0x1234 ++ [4, 0] ++ leBytes 2 9) 0x1234
def lJoin : State := let s := joinKey leafJ; { s with ltx := { s.ltx with uid := 0x1234 } }
def fJoinResp : RxFrame := rxFrame tyJoinResp false bcast 0 0 (leBytes 6 0x1234 ++ leBytes 2 9 ++ [0] ++ List.replicate 66 7)
def lWake : State := let s := leafOf 5; { s with lt := { s.lt with mem := [(0, set512 (entryAt s 0) 240 16 0x8003)] } }
def fWake : RxFrame := rxFrame tyWake false 5 0 0 [9, 0, 0, 1]
def lRem : State := leafOf 3
def fRem : RxFrame := rxFrame tyRemote false 5 0 0 ([0, 1] ++ leBytes 4 1 ++ leBytes 4 0x2000)
def fResp : RxFrame := rxFrame tyRemoteResp false 0 1 0 ([1, 0] ++ leBytes 4 1 ++ leBytes 4 0x2000)
def remFrame (s : State) : TxFrame := { txNew tyRemote 1 ([1, 1] ++ leBytes 4 1 ++ leBytes 4 0x2000 ++ leBytes 4 77) s with st := .waiting, built := [1] }
def hResp : State := submit (remFrame (headOf 2)) (headOf 2)
def lRng : State := leafOf 4
def fReq0 : RxFrame := rxFrame tyRangeReq false 5 0 0 [3, 0]
def fReq : RxFrame := { fReq0 with angle := 0x1E000000 }
def exch0 : Exch := { port := 0, leaf := 1, exch := 3, hops := 0, leg := 1, initiator := true, folio := 1, last := 99, due := none, raw := [], route := none, hop := 0, t1 := 1000, t2 := 0, p := 20000000, mark := 0 }
def hRng : State := let s := headOf 4; { s with tex := { s.tex with exch := [exch0] } }
def fRsp0 : RxFrame := rxFrame tyRangeResp false 0 1 0 ([3, 0] ++ leBytes 6 2000 ++ leBytes 6 3000)
def fRsp : RxFrame := { fRsp0 with angle := 0x1E000000 }
def fRes : RxFrame := rxFrame tyRangeResult false 5 0 0 ([3, 0] ++ leBytes 6 2000 ++ leBytes 6 3000)
def lRes : State := let s := leafOf 4; { s with tex := { s.tex with lastResp := some (3, 10, 20, 0) } }
def fShort : RxFrame := rxOf [1, 2, 3]
def rt0 : Route := { rly1 := 5, rly2 := 0, rly3 := 0, idx := 0, dirHead := false, crgrant := 0 }
def relay0 : State := let s := leafOf 3; { s with lt := { s.lt with cfg := s.lt.cfg ||| 16, mem := s.lt.mem ++ [(9, entryAct)] } }
def fRelay : RxFrame := rxFrame tyData true 9 0 0 [1, 2, 3] 0 rt0
def pair0 : State := let s := headOf 2; { s with qr := { s.qr with folio := 8 }, rbm := { s.rbm with held := [(0, 2), (1, 2)] } }
def fPair : RxFrame := { fShort with ofdm := false, copy := true }
def wait0 : State := { r0 with hi := { r0.hi with rxWait := [⟨[1], [2], 3, 0⟩, ⟨[4], [5], 6, 0⟩], bufsUsed := 2 } }
def relayTx : TxFrame := { txNew tyData 9 [] relay0 with src := 0, raw := some fRelay.bytes, route := some rt0, hop := 9, buffer := true, folio := some 0 }
def relay1 : State := submit relayTx relay0
def hPost : State := let s := ringCh (headOf 2); { s with hi := { s.hi with rxPosts := [⟨2, 0, 0x4000, 528⟩], sq := s.hi.sq.map fun q => { q with nextId := 1, taken := [{ id := 0, bytes := 0x11, result := none, mail := false, events := [] }] } } }
def rdDesc : DescBytes := descOf [(0, 2, 0x20), (8, 8, 0x4000), (16, 4, 4), (20, 2, 1), (28, 4, 0x2000)]
def rdFrame (s : State) : TxFrame := { txNew tyRemote 1 ([0, 1] ++ leBytes 4 1 ++ leBytes 4 0x2000) s with st := .waiting, built := [1], desc := some (2, 0) }
def hRead : State := let s := ringCh (headOf 2); submit (rdFrame s) { s with hi := { s.hi with sq := s.hi.sq.map fun q => { q with nextId := 1, taken := [{ id := 0, bytes := rdDesc, result := none, mail := false, events := [] }] } } }
def fRead : RxFrame := rxFrame tyRemoteResp false 0 1 0 ([0, 0] ++ leBytes 4 1 ++ leBytes 4 0x2000 ++ [9, 8, 7, 6])

/-- The hypotheses of FramesReceived can be met, clause by clause. -/
theorem meets_FramesReceived :
    (∃ (f : RxFrame) (s : State) (o : Front), let u := (rxOpen f s).2; devUp s = true ∧ pairHeld f s = false ∧ (rxOpen f s).1 = some o ∧ mustRelay u o.h o.rt o.hops = false ∧ o.h.ty = tyBeacon ∧ beaconUsable (parseBeacon o.body) = true ∧ isLeaf s = true ∧ (parseBeacon o.body).kind.toNat ≤ 1) ∧
    (∃ (f : RxFrame) (s : State) (o : Front), let u := (rxOpen f s).2; devUp s = true ∧ pairHeld f s = false ∧ (rxOpen f s).1 = some o ∧ mustRelay u o.h o.rt o.hops = false ∧ o.h.ty = tyRolemap ∧ isLeaf s = true ∧ (parseSeg o.body).phase ≠ 3) ∧
    (∃ (f : RxFrame) (s : State) (o : Front), let u := (rxOpen f s).2; devUp s = true ∧ pairHeld f s = false ∧ (rxOpen f s).1 = some o ∧ mustRelay u o.h o.rt o.hops = false ∧ o.h.ty = tyData ∧ isHead s = true ∧ o.h.dst ≠ bcast ∧ eState (entryAt u o.h.src.toNat) = stActive ∧ o.h.seq = eDseqRx (entryAt u o.h.src.toNat) ∧ 0 < o.h.len ∧ bufFree u false = true) ∧
    (∃ (f : RxFrame) (s : State) (o : Front) (p : _) (ps : _), let u := (rxOpen f s).2; devUp s = true ∧ pairHeld f s = false ∧ (rxOpen f s).1 = some o ∧ mustRelay u o.h o.rt o.hops = false ∧ o.h.ty = tyData ∧ isHead s = true ∧ o.h.dst ≠ bcast ∧ eState (entryAt u o.h.src.toNat) = stActive ∧ o.h.seq = eDseqRx (entryAt u o.h.src.toNat) ∧ 0 < o.h.len ∧ bufFree u false = true ∧ u.hi.rxWait = [] ∧ u.hi.rxPosts = p :: ps ∧ regionOk u p.addr (16 + o.body.length) = true) ∧
    (∃ (f : RxFrame) (s : State) (o : Front) (g : _), let u := (rxOpen f s).2; devUp s = true ∧ pairHeld f s = false ∧ (rxOpen f s).1 = some o ∧ mustRelay u o.h o.rt o.hops = false ∧ o.h.ty = tyAck ∧ leAt o.body 1 1 = 0 ∧ g.ty.toNat = tyData ∧ u.line.q.find? (fun x => decide (x.st = .waiting) && decide (x.dst = o.h.src) && (decide (0 = 3) || decide (x.seq = some (o.body.getD 0 0)))) = some g) :=
  ⟨⟨fBeacon, leafJ, openOf fBeacon leafJ, by decide +kernel⟩,
   ⟨fMap, leafJ, openOf fMap leafJ, by decide +kernel⟩,
   ⟨fData, headOf 2, openOf fData (headOf 2), by decide +kernel⟩,
   ⟨fData, hPost, openOf fData hPost, ⟨2, 0, 0x4000, 528⟩, [], by decide +kernel⟩,
   ⟨fAck, hAck, openOf fAck hAck, { txData (headOf 2) with st := .waiting, seq := some 9 }, by decide +kernel⟩⟩

/-- The hypotheses of NetworkFramesReceived can be met, clause by clause. -/
theorem meets_NetworkFramesReceived :
    (∃ (f : RxFrame) (s : State) (o : Front) (n : _), let u := (rxOpen f s).2; devUp s = true ∧ pairHeld f s = false ∧ (rxOpen f s).1 = some o ∧ mustRelay u o.h o.rt o.hops = false ∧ o.h.ty = tyJoinReq ∧ isHead s = true ∧ entryOfUid u (leAt o.body 0 6) = none ∧ joinMode u = 2 ∧ u.cx.kdk ≠ none ∧ freeNumber u (leAt o.body 8 2 % 4096) = some n) ∧
    (∃ (f : RxFrame) (s : State) (o : Front) (a : _) (b : _), let u := (rxOpen f s).2; devUp s = true ∧ pairHeld f s = false ∧ (rxOpen f s).1 = some o ∧ mustRelay u o.h o.rt o.hops = false ∧ o.h.ty = tyJoinResp ∧ isLeaf s = true ∧ leAt o.body 0 6 = u.ltx.uid.toNat ∧ u.lt.jstate ≠ 0 ∧ leAt o.body 8 1 = 0 ∧ alreadyInstalled o u = false ∧ pickSlot u [] = some a ∧ pickSlot u [a] = some b) ∧
    (∃ (f : RxFrame) (s : State) (o : Front), let u := (rxOpen f s).2; devUp s = true ∧ pairHeld f s = false ∧ (rxOpen f s).1 = some o ∧ mustRelay u o.h o.rt o.hops = false ∧ o.h.ty = tyWake ∧ isLeaf s = true ∧ slMode u 0 = 2 ∧ u.slp.target = none ∧ quireQ u * quireF u ≠ 0) ∧
    (∃ (f : RxFrame) (s : State) (o : Front), let u := (rxOpen f s).2; devUp s = true ∧ pairHeld f s = false ∧ (rxOpen f s).1 = some o ∧ mustRelay u o.h o.rt o.hops = false ∧ o.h.ty = tyRemote ∧ isLeaf s = true ∧ remoteLenOk o.body = true ∧ o.h.seq = u.ltx.remE ∧ leAt o.body 0 1 % 4 = 0) ∧
    (∃ (f : RxFrame) (s : State) (o : Front) (g : _), let u := (rxOpen f s).2; devUp s = true ∧ pairHeld f s = false ∧ (rxOpen f s).1 = some o ∧ mustRelay u o.h o.rt o.hops = false ∧ o.h.ty = tyRemoteResp ∧ isHead s = true ∧ answeredBy o u = some g ∧ g.posted = false ∧ leAt g.body 0 1 = 1 ∧ o.body.length = 10) ∧
    (∃ (f : RxFrame) (s : State) (o : Front) (g : _) (r : Nat) (id : _) (k : _), let u := (rxOpen f s).2; devUp s = true ∧ pairHeld f s = false ∧ (rxOpen f s).1 = some o ∧ mustRelay u o.h o.rt o.hops = false ∧ o.h.ty = tyRemoteResp ∧ isHead s = true ∧ answeredBy o u = some g ∧ g.posted = false ∧ leAt g.body 0 1 = 0 ∧ leAt o.body 1 1 = 0 ∧ o.body.length = 10 + 4 * leAt g.body 1 1 ∧ g.desc = some (r, id) ∧ takenAt u r id = some k ∧ k.result = none ∧ dOp k.bytes = 0x20 ∧ regionOk u (dAddr k.bytes) (4 * leAt g.body 1 1) = true) :=
  ⟨⟨fJoin, hJoin, openOf fJoin hJoin, 9, by decide +kernel⟩,
   ⟨fJoinResp, lJoin, openOf fJoinResp lJoin, 0, 3, by decide +kernel⟩,
   ⟨fWake, lWake, openOf fWake lWake, by decide +kernel⟩,
   ⟨fRem, lRem, openOf fRem lRem, by decide +kernel⟩,
   ⟨fResp, hResp, openOf fResp hResp, remFrame (headOf 2), by decide +kernel⟩,
   ⟨fRead, hRead, openOf fRead hRead, rdFrame (ringCh (headOf 2)), 2, 0, { id := 0, bytes := rdDesc, result := none, mail := false, events := [] }, by decide +kernel⟩⟩

/-- The hypotheses of RangingReceived can be met, clause by clause. -/
theorem meets_RangingReceived :
    (∃ (f : RxFrame) (s : State) (o : Front), let u := (rxOpen f s).2; devUp s = true ∧ pairHeld f s = false ∧ (rxOpen f s).1 = some o ∧ mustRelay u o.h o.rt o.hops = false ∧ o.h.ty = tyRangeReq ∧ isLeaf s = true ∧ legInFolio o (folioJ u) u = true) ∧
    (∃ (f : RxFrame) (s : State) (o : Front) (e : _), let u := (rxOpen f s).2; devUp s = true ∧ pairHeld f s = false ∧ (rxOpen f s).1 = some o ∧ mustRelay u o.h o.rt o.hops = false ∧ o.h.ty = tyRangeResp ∧ isHead s = true ∧ u.tex.exch.find? (fun e => e.initiator && decide (e.exch = o.body.getD 0 0) && decide (e.leaf = o.h.src)) = some e ∧ legInFolio o e.folio u = true) ∧
    (∃ (f : RxFrame) (s : State) (o : Front) (x : _) (t2 : _) (t3 : _) (m : _), let u := (rxOpen f s).2; devUp s = true ∧ pairHeld f s = false ∧ (rxOpen f s).1 = some o ∧ mustRelay u o.h o.rt o.hops = false ∧ o.h.ty = tyRangeResult ∧ isLeaf s = true ∧ u.tex.lastResp = some (x, t2, t3, m) ∧ o.body.getD 0 0 = x ∧ m = u.tex.stepMark ∧ ((u.tex.firstDone = false ∨ 3 ≤ u.tex.rejRun))) :=
  ⟨⟨fReq, lRng, openOf fReq lRng, by decide +kernel⟩,
   ⟨fRsp, hRng, openOf fRsp hRng, exch0, by decide +kernel⟩,
   ⟨fRes, lRes, openOf fRes lRes, 3, 10, 20, 0, by decide +kernel⟩⟩

/-- The hypotheses of RelaysAndTimers can be met, clause by clause. -/
theorem meets_RelaysAndTimers :
    (∃ (s : State) (f : RxFrame), devUp s = true ∧ canHear f s = true ∧ pairHeld f s = false ∧ f.ofdm = true ∧ fcValid f s = true ∧ f.bytes.length < 12) ∧
    (∃ (s : State) (f : RxFrame) (o : Front) (r : Route), devUp s = true ∧ pairHeld f s = false ∧ (rxOpen f s).1 = some o ∧ mustRelay (rxOpen f s).2 o.h o.rt o.hops = true ∧ isRanging o = false ∧ o.rt = some r ∧ bufFree s false = true) ∧
    (∃ (s : State) (f : RxFrame), devUp s = true ∧ f.copy = true ∧ s.rbm.held.any (fun x => decide (x.1 = f.port.val) && (!qrRunning s || (decide (x.2 + quireF s / 2 ≤ s.qr.folio) && decide (s.qr.folio ≤ x.2 + quireF s / 2 + 1)))) = true) ∧
    (∃ (s : State) (w : _) (ws : _), devUp s = true ∧ s.hi.rxWait = w :: ws) ∧
    (∃ (s : State) (id : _) (x : _), devUp s = true ∧ frameAt s id = some x ∧ x.st = .waiting ∧ s.tmp.locked = false ∧ isHead s = true ∧ x.attempts < retries s) ∧
    (∃ (s : State) (id : _) (x : _) (bs : _) (r : Route), let m := effMode s (relayMode x.hop bs.length s).1; let ps := usePorts s m (relayMode x.hop bs.length s).2; let l := airtimeOf s m bs.length; devUp s = true ∧ frameAt s id = some x ∧ x.raw = some bs ∧ x.route = some r ∧ inFlight x = false ∧ lineOpen s = true ∧ fitsNominal s (quireF s) (geomBase (actGeom s)) l = true ∧ ps ≠ 0 ∧ qrRunning s = true ∧ s.rbm.bad = false ∧ isPair m = false ∧ ((portList ps).all fun p => decide (roleNow s p = rContention)) = true ∧ x.folio = some 0 ∧ startOn s ps + ticksUs l ≤ s.now + ticksToEnd s ∧ ((x.hop = x.dst ∨ creditOf s x.hop.toNat ≠ 0)) ∧ ((∀ b ∈ bandsOf s m, b ≠ 1 ∧ covers (bandAt s b) ((portList ps).length * l) = true)) ∧ blockedBehind s x { mode := m, ports := ps, air := l, start := startOn s ps, bytes := bs.length } = false) :=
  ⟨⟨headOf 2, fShort, by decide +kernel⟩,
   ⟨relay0, fRelay, openOf fRelay relay0, rt0, by decide +kernel⟩,
   ⟨pair0, fPair, by decide +kernel⟩,
   ⟨wait0, ⟨[1], [2], 3, 0⟩, [⟨[4], [5], 6, 0⟩], by decide +kernel⟩,
   ⟨hAck, 0, { txData (headOf 2) with st := .waiting, seq := some 9 }, by decide +kernel⟩,
   ⟨relay1, 0, relayTx, fRelay.bytes, rt0, by decide +kernel⟩⟩

end Sys2Proof.Tests.Rx

namespace Sys2Proof.Tests.Le
set_option Elab.async false
open Sys2Proof.Machine

def put (n : Nat) (st : Nat) (s : State) : State := { s with lt := { s.lt with mem := spPut 0 n (eSetState st entryAct) s.lt.mem } }
def stg (s : State) : State := { s with lt := { s.lt with stage := s.lt.stage.map fun g => { g with words := [(1, 0x20000123)] } } }
def wc : LtCommitS := { index := 9, mask := 2, words := [(1, 0x20000123)], ev := true, due := 0 }
def apply0 : State := { r0 with lt := { r0.lt with stage := r0.lt.stage.map fun g => { g with busy := true, waiting := [wc] } } }
def quiet0 : State := let s := headOf 1; { s with lt := { s.lt with quiet := [(1, 100000)] } }
def quiet1 : State := submit { txData (headOf 1) with desc := some (0, 0) } (put 1 3 quiet0)
def tip0 : State := let s := put 4 1 (headOf 1); { s with lt := { s.lt with tip := [(4, 300, true)] } }
def leafM (g : LtX → LtX) (h : Lt → Lt) : State := let s := leafOf 3; { s with ltx := g s.ltx, lt := h s.lt }
def slpy (w : Nat) (g : Slp → Slp) : State :=
  let s := leafOf 5
  { s with
    lt := { s.lt with mem := [(0, set512 (entryAt s 0) 240 16 w)] }
    slp := g s.slp }

/-- The hypotheses of LeafTable can be met, clause by clause. -/
theorem meets_LeafTable :
    (∃ (s : State), devUp s = true) ∧
    (∃ (s : State) (c : _) (v : _), devUp s = true ∧ bitAt v 28 = true ∧ commitFault (copyNo c) (fld v 16 12) (commitWords (BitVec.ofNat 16 (fld v 0 16)) (stageAt s (copyNo c)).words (entryAt s (fld v 16 12))) s = none) ∧
    (∃ (s : State) (c : _) (v : _) (k : _), devUp s = true ∧ bitAt v 28 = true ∧ commitFault (copyNo c) (fld v 16 12) (commitWords (BitVec.ofNat 16 (fld v 0 16)) (stageAt s (copyNo c)).words (entryAt s (fld v 16 12))) s = some k) ∧
    (∃ (s : State) (c : _) (w : _), devUp s = true ∧ (stageAt s (copyNo c)).waiting = [w] ∧ commitReady s w = true ∧ eState (commitWords w.mask w.words (entryAt s w.index.toNat)) = stActive) ∧
    (∃ (s : State) (n : BitVec 12), devUp s = true ∧ isHead s = true ∧ eState (entryAt s n.toNat) = stActive ∧ tSilent s * timerScale s n.toNat ≤ quietOf s n.toNat) ∧
    (∃ (s : State) (n : BitVec 12), devUp s = true ∧ isHead s = true ∧ eState (entryAt s n.toNat) = stSilent ∧ tGone s * timerScale s n.toNat ≤ quietOf s n.toNat) ∧
    (∃ (s : State) (n : BitVec 12) (q : _) (b : _), devUp s = true ∧ isHead s = true ∧ s.lt.tip.find? (fun t => decide (t.1 = n.toNat)) = some (n.toNat, q, b) ∧ eState (entryAt s n.toNat) = stTipping ∧ tTipWait s ≤ q ∧ b = true) :=
  ⟨⟨headOf 1, by decide +kernel⟩,
   ⟨stg r0, .loc, 0x10090002, by decide +kernel⟩,
   ⟨r0, .rem, 0x10000002, 2, by decide +kernel⟩,
   ⟨apply0, .loc, wc, by decide +kernel⟩,
   ⟨quiet0, 1, by decide +kernel⟩,
   ⟨quiet1, 1, by decide +kernel⟩,
   ⟨tip0, 4, 300, true, by decide +kernel⟩⟩

/-- The hypotheses of TipIn can be met, clause by clause. -/
theorem meets_TipIn :
    (∃ (s : State), devUp s = true ∧ isLeaf s = true) ∧
    (∃ (s : State), devUp s = true ∧ isLeaf s = true ∧ s.lt.jstate = 1 ∧ s.ltx.confirmWait = false ∧ tTipWait s ≤ s.ltx.tipWait) ∧
    (∃ (s : State), devUp s = true ∧ isLeaf s = true ∧ s.ltx.confirmWait = true ∧ tTipWait s ≤ s.ltx.tipWait) ∧
    (∃ (s : State), devUp s = true ∧ isLeaf s = true ∧ s.lt.jstate = 2 ∧ tSilent s ≤ s.ltx.headMiss) ∧
    (∃ (s : State), devUp s = true ∧ isLeaf s = true ∧ 2 ≤ s.lt.jstate.toNat ∧ tGone s ≤ s.ltx.headMiss) ∧
    (∃ (s : State), devUp s = true ∧ isLeaf s = true ∧ 2 ≤ s.lt.jstate.toNat ∧ tGone s ≤ s.ltx.noAnswer) :=
  ⟨⟨leafOf 3, by decide +kernel⟩,
   ⟨leafM (fun x => { x with tipWait := tTipWait r0 }) fun l => { l with jstate := 1 }, by decide +kernel⟩,
   ⟨leafM (fun x => { x with confirmWait := true, tipWait := tTipWait r0 }) fun l => { l with jstate := 1 }, by decide +kernel⟩,
   ⟨leafM (fun x => { x with headMiss := tSilent r0 }) id, by decide +kernel⟩,
   ⟨leafM (fun x => { x with headMiss := tGone r0 }) id, by decide +kernel⟩,
   ⟨leafM (fun x => { x with noAnswer := tGone r0 }) id, by decide +kernel⟩⟩

/-- The hypotheses of SleepyLeaf can be met, clause by clause. -/
theorem meets_SleepyLeaf :
    (∃ (s : State), devUp s = true ∧ sleepyLeaf s = true ∧ tSilent s * slPer s 0 / 2 ≤ s.slp.kaQuires ∧ keepQueued s = false) ∧
    (∃ (s : State) (k : _), devUp s = true ∧ sleepyLeaf s = true ∧ s.pwr.st = .active ∧ qrRunning s = true ∧ s.slp.window = none ∧ windowDue k s = true) ∧
    (∃ (s : State) (k : _), devUp s = true ∧ s.slp.window = some k ∧ ((∀ p, p < 3 → (portX s p).rxActive = none)) ∧ missKind k s = none) ∧
    (∃ (s : State) (k : _) (m : _), devUp s = true ∧ s.slp.window = some k ∧ ((∀ p, p < 3 → (portX s p).rxActive = none)) ∧ missKind k s = some m) ∧
    (∃ (s : State), devUp s = true ∧ isLeaf s = true ∧ s.slp.linger = some 0) ∧
    (∃ (s : State), devUp s = true ∧ isHead s = true) ∧
    (∃ (s : State), devUp s = true ∧ sleepyLeaf s = true ∧ slMode s 0 = 2 ∧ orOne (fld s.slp.lim 0 16) ≤ s.slp.quiresSince) ∧
    (∃ (s : State), devUp s = true) ∧
    (∃ (s : State), devUp s = true ∧ isLeaf s = true ∧ s.slp.overBudget = false ∧ fld s.slp.budget 0 20 ≤ slpSpent s) :=
  ⟨⟨slpy 0x4001 fun x => { x with kaQuires := 900000 }, by decide +kernel⟩,
   ⟨slpy 0x4001 id, .opportunity, by decide +kernel⟩,
   ⟨slpy 0x8001 fun x => { x with window := some .opportunity }, .opportunity, by decide +kernel⟩,
   ⟨slpy 0x4001 fun x => { x with window := some .opportunity, missed := 7 }, .opportunity, 0, by decide +kernel⟩,
   ⟨slpy 0x4001 fun x => { x with linger := some 0 }, by decide +kernel⟩,
   ⟨headOf 1, by decide +kernel⟩,
   ⟨slpy 0x8001 fun x => { x with quiresSince := orOne (fld r0.slp.lim 0 16) }, by decide +kernel⟩,
   ⟨r0, by decide +kernel⟩,
   ⟨slpy 0x4001 fun x => { x with spentTicks := 900000000000000 }, by decide +kernel⟩⟩

end Sys2Proof.Tests.Le

namespace Sys2Proof.Tests.Te
set_option Elab.async false
open Sys2Proof.Machine

def te (g : Te → Te) : State := { r0 with te := g r0.te }
def tx (g : TeX → TeX) (s : State := r0) : State := { s with tex := g s.tex }
def exchH : Exch := { port := 0, leaf := 1, exch := 3, hops := 0, leg := 1, initiator := true, folio := 1, last := 0, due := none, raw := [], route := none, hop := 0, t1 := 1000, t2 := 0, p := 20000000, mark := 0 }
def exchL : Exch := { exchH with initiator := false, due := some 77, leaf := 5 }
def rngL : State := tx (fun x => { x with exch := [exchL] }) (leafOf 4)
def rngH : State := let s := headOf 4; { s with te := { s.te with rngCfg := 0x80000000 } }
def rngT : State := tx (fun x => { x with exch := [exchH] }) (headOf 4)

/-- The hypotheses of TimeSetting can be met, clause by clause. -/
theorem meets_TimeSetting :
    (∃ (s : State) (v : Word), devUp s = true ∧ bitAt v 0 = true) ∧
    (∃ (s : State) (v : Word), devUp s = true ∧ s.te.armed = none ∧ v.toNat < 1000000000) ∧
    (∃ (s : State) (m : _), devUp s = true ∧ s.te.armed = some m) ∧
    (∃ (s : State) (v : Word), devUp s = true ∧ s.te.armed = none ∧ 1000000000 ≤ v.toNat) ∧
    (∃ (s : State), devUp s = true ∧ s.te.armed = none) ∧
    (∃ (s : State), devUp s = true ∧ s.te.armed = none ∧ s.te.setNs.toNat < 1000000000 ∧ leapArmed s = false) ∧
    (∃ (s : State), devUp s = true ∧ s.te.armed = none) ∧
    (∃ (s : State) (m : _), devUp s = true ∧ s.te.armed = some m) ∧
    (∃ (s : State), devUp s = true) :=
  ⟨⟨r0, 1, by decide +kernel⟩,
   ⟨r0, 999999999, by decide +kernel⟩,
   ⟨te fun x => { x with armed := some 2 }, 2, by decide +kernel⟩,
   ⟨r0, 1000000000, by decide +kernel⟩,
   ⟨r0, by decide +kernel⟩,
   ⟨te fun x => { x with setSec := 9, setNs := 8, setFrac := 7, slew := 55, sec := 44 }, by decide +kernel⟩,
   ⟨r0, by decide +kernel⟩,
   ⟨te fun x => { x with armed := some 2 }, 2, by decide +kernel⟩,
   ⟨te fun x => { x with armed := some 2 }, by decide +kernel⟩⟩

/-- The hypotheses of TimeSteering can be met, clause by clause. -/
theorem meets_TimeSteering :
    (∃ (s : State), devUp s = true ∧ teSrc s = 0) ∧
    (∃ (s : State), devUp s = true ∧ teSrc s ≠ 0) ∧
    (∃ (s : State), devUp s = true ∧ s.te.slew.natAbs ≤ slewShare) ∧
    (∃ (s : State), devUp s = true ∧ teSrc s = 0 ∧ s.staging = []) ∧
    (∃ (s : State) (v : Word), devUp s = true ∧ fld v 0 3 = 3 ∧ isHead s = true) ∧
    (∃ (s : State) (v : Word), devUp s = true ∧ (fld v 0 3 ≠ 3 ∨ isLeaf s = true)) ∧
    (∃ (s : State), devUp s = true ∧ teSrc s ≠ 1 ∧ teSrc s ≠ 2 ∧ s.tex.lastEdge = none) ∧
    (∃ (s : State) (e : _) (sub : BitVec 6), devUp s = true ∧ s.tex.lastEdge = some e ∧ 256000000 < ((stamp256 (todNow s) : Int) + (sub.toNat * 64 / 5 : Nat) - s.te.ppsinDly.toNat - e - sec256).natAbs) ∧
    (∃ (s : State), devUp s = true ∧ teSrc s = 1 ∧ s.tex.srcLost.getLsbD 0 = false) ∧
    (∃ (s : State), devUp s = true ∧ isLeaf s = true ∧ 8 ≤ s.tex.bcnMiss ∧ teSrc s = 3 ∧ s.tex.srcLost.getLsbD 2 = false) :=
  ⟨⟨r0, by decide +kernel⟩,
   ⟨te fun x => { x with ctrl := 1 }, by decide +kernel⟩,
   ⟨te fun x => { x with slew := slewShare }, by decide +kernel⟩,
   ⟨r0, by decide +kernel⟩,
   ⟨r0, 3, by decide +kernel⟩,
   ⟨r0, 0x12, by decide +kernel⟩,
   ⟨r0, by decide +kernel⟩,
   ⟨tx (fun x => { x with lastEdge := some 9 }), 9, 9, by decide +kernel⟩,
   ⟨te fun x => { x with ctrl := 1, srcOk := 1, st := 2 }, by decide +kernel⟩,
   ⟨tx (fun x => { x with bcnMiss := 8 }) (asLeaf (te fun x => { x with ctrl := 3, srcOk := 7, st := 2 })), by decide +kernel⟩⟩

/-- The hypotheses of Seconds can be met, clause by clause. -/
theorem meets_Seconds :
    (∃ (s : State), devUp s = true ∧ s.te.armed = none ∧ leapArmed s = false) ∧
    (∃ (s : State), devUp s = true ∧ s.te.armed = some 2 ∧ leapArmed s = false ∧ s.te.ns - 1000000000 < 1000000000) ∧
    (∃ (s : State), devUp s = true ∧ s.te.armed = none ∧ leapArmed s = true ∧ leapDir s = false ∧ s.te.leapAt = s.te.sec + 1) ∧
    (∃ (s : State), devUp s = true) ∧
    (∃ (s : State), devUp s = true ∧ s.te.sec.toNat + 2 < s.te.leapAt.toNat) ∧
    (∃ (s : State), devUp s = true ∧ s.te.leapAt.toNat ≤ s.te.sec.toNat + 2) :=
  ⟨⟨te fun x => { x with ns := 1000000003, ctrl := 16 }, by decide +kernel⟩,
   ⟨te fun x => { x with ns := 1000000003, armed := some 2, setSec := 99 }, by decide +kernel⟩,
   ⟨te fun x => { x with ns := 1000000003, leapCtrl := 0x80000000, leapAt := 6, sec := 5 }, by decide +kernel⟩,
   ⟨te fun x => { x with pps := true }, by decide +kernel⟩,
   ⟨te fun x => { x with leapAt := 3 }, by decide +kernel⟩,
   ⟨te fun x => { x with leapAt := 2 }, by decide +kernel⟩⟩

/-- The hypotheses of Ranging can be met, clause by clause. -/
theorem meets_Ranging :
    (∃ (s : State) (v : _), devUp s = true ∧ bitAt v 31 = true ∧ isHead s = true ∧ rngEligible s (fld v 0 12) = true) ∧
    (∃ (s : State) (v : _), devUp s = true ∧ bitAt v 31 = true ∧ isHead s = true ∧ rngEligible s (fld v 0 12) = false) ∧
    (∃ (s : State) (p : Port) (n : _) (i : _), let m := legMode (entryAt s n) (frameBytes tyRangeReq 0 false 2) s; devUp s = true ∧ isHead s = true ∧ qrRunning s = true ∧ rngPick s p = some n ∧ eRoute (entryAt s n) = [] ∧ n < 4096 ∧ legsOpen s n = true ∧ legsFit s n = true ∧ ticksUs (airtimeOf s m (frameBytes tyRangeReq 0 false 2)) ≤ ticksToEnd s ∧ portReady s p = true ∧ ((∀ b ∈ bandsOf s m, b ≠ 1 ∧ covers (bandAt s b) (airtimeOf s m (frameBytes tyRangeReq 0 false 2)) = true)) ∧ cachedSlot s n = some i ∧ (slotAt s i).unload = none ∧ (slotAt s i).fhold = false ∧ anyCore s = true ∧ (useRec s n).exh = false ∧ (useRec s n).inv + 1 ≤ (keyLimits s (slotAt s i)).1 ∧ (useRec s n).blk + lineBlocks tyRangeReq 0 false 2 ≤ (keyLimits s (slotAt s i)).2) ∧
    (∃ (s : State) (p : Port) (e : _) (i : _), let m := legMode (entryAt s e.hop.toNat) (frameBytes tyRangeResp 0 false 14) s; devUp s = true ∧ s.tex.exch.find? (fun e => decide (e.port = p) && e.due.isSome) = some e ∧ lineOpen s = true ∧ isLeaf s = true ∧ roleNow s p = rRanging ∧ e.mark = s.tex.stepMark ∧ e.raw = [] ∧ e.route = none ∧ portReady s p = true ∧ ((∀ b ∈ bandsOf s m, b ≠ 1 ∧ covers (bandAt s b) (airtimeOf s m (frameBytes tyRangeResp 0 false 14)) = true)) ∧ pinnedSlot s = some i ∧ (slotAt s i).unload = none ∧ (slotAt s i).fhold = false ∧ anyCore s = true ∧ (slotAt s i).exh = false ∧ (slotAt s i).inv + 1 ≤ (keyLimits s (slotAt s i)).1 ∧ (slotAt s i).blk + lineBlocks tyRangeResp 0 false 14 ≤ (keyLimits s (slotAt s i)).2) ∧
    (∃ (s : State) (p : Port) (e : _), devUp s = true ∧ s.tex.exch.find? (fun e => e.initiator && decide (e.port = p) && decide (e.last ≤ folioNow s)) = some e) :=
  ⟨⟨headOf 4, 0x80000001, by decide +kernel⟩,
   ⟨headOf 4, 0x80000002, by decide +kernel⟩,
   ⟨rngH, 0, 1, 0, by decide +kernel⟩,
   ⟨rngL, 0, exchL, 1, by decide +kernel⟩,
   ⟨rngT, 0, exchH, by decide +kernel⟩⟩

end Sys2Proof.Tests.Te

namespace Sys2Proof.Tests.Rg
set_option Elab.async false
open Sys2Proof.Machine

def clsRing (n : Nat) (r : State) : State := { r with hi := { r.hi with sq := r.hi.sq.map fun q => { q with cfg := q.cfg ||| BitVec.ofNat 32 (n * 0x1000000) } } }
def chs (g : RgCh → RgCh) (f : RgX → RgX := id) (s : State := r0) : State := { s with rg := { s.rg with ch := s.rg.ch.map g, x := s.rg.x.map f } }
def mkStep (cond arg cpol wait tset ret evt target cnt len first sig : Nat) : BitVec 64 :=
  BitVec.ofNat 64 (cond * 2^60 + arg * 2^56 + cpol * 2^55 + wait * 2^54 + tset * 2^52 + ret * 2^51 + evt * 2^50 + target * 2^42 + cnt * 2^30 + len * 2^19 + first * 2^8 + sig)
def w1 : BitVec 64 := mkStep 0 0 0 0 2 0 1 7 0 10 5 3
def withStep (n : Nat) (w : BitVec 64) (h : RgCh) : RgCh := { h with steps := spPut 0 n w h.steps }
def armed0 : State := chs (fun h => withStep 4 w1 { h with st := .armed, ctrl := 0x80040000, ftw := 5 })
def playing (w : BitVec 64) : State := chs (fun h => withStep 4 w { h with st := .running, ctrl := 0x80040000, step := 4 }) (fun x => { x with out := 9, cnt := Vector.replicate 4 6 })
def pinned1 : State := { r0 with pmx := { r0.pmx with pin := vupd r0.pmx.pin 3 fun _ => 2 }, rg := { r0.rg with incfg := 0xFFFFFFFF } }
def dSig : DescBytes := descOf [(0, 2, 0x30), (16, 4, 4), (20, 1, 3), (22, 2, 10)]
def dFlag : DescBytes := descOf [(0, 2, 0x31), (20, 1, 3), (21, 1, 2)]
def dRet (w : Nat) : DescBytes := descOf [(0, 2, 0x32), (20, 1, 3), (21, 1, w), (24, 6, 77), (32, 6, 99)]
def rings : State := ringCh r0
def claimed : State := { rings with rg := { rings.rg with claims := [(2, 0, 3, 10, [1, 2, 3, 4])] }, hi := { rings.hi with sq := rings.hi.sq.map fun q => { q with nextId := 1, taken := [{ id := 0, bytes := dSig, result := none, mail := false, events := [] }] } } }

/-- The hypotheses of GeneratorChannels can be met, clause by clause. -/
theorem meets_GeneratorChannels :
    (∃ (s : State) (c : Fin 8) (v : Word), devUp s = true ∧ (chAt s c).st = .stopped ∧ (fld v 4 2 = 1 ∨ fld v 4 2 = 2 ∨ ((chAt s c).ftw ≠ 0 ∧ (chAt s c).ftw.toNat ≤ 140737488355328))) ∧
    (∃ (s : State) (c : Fin 8) (v : Word), devUp s = true ∧ (chAt s c).st = .stopped ∧ (fld v 4 2 = 1 ∨ fld v 4 2 = 2 ∨ ((chAt s c).ftw ≠ 0 ∧ (chAt s c).ftw.toNat ≤ 140737488355328))) ∧
    (∃ (s : State) (c : Fin 8) (v : Word), devUp s = true ∧ (chAt s c).st = .stopped ∧ ((fld v 4 2 = 0 ∨ fld v 4 2 = 3)) ∧ (((chAt s c).ftw = 0 ∨ 140737488355328 < (chAt s c).ftw.toNat))) ∧
    (∃ (s : State) (c : Fin 8) (v : Word), devUp s = true ∧ (chAt s c).st ≠ .stopped ∧ ((chAt s c).ctrl ^^^ v) &&& 0x00FF0330 ≠ 0) ∧
    (∃ (s : State) (c : Fin 8) (v : Word), devUp s = true ∧ (chAt s c).st = .running ∧ ((chAt s c).ctrl ^^^ v) &&& 0x00FF0330 = 0) ∧
    (∃ (s : State) (c : Fin 8), devUp s = true ∧ (chAt s c).st = .running ∧ (chX s c).stopReq = true) ∧
    (∃ (s : State) (c : Fin 8), devUp s = true ∧ (chAt s c).st = .armed ∧ chMode (chAt s c) = 0 ∧ s.rg.claims = [] ∧ (chAt s c).retune = none) ∧
    (∃ (s : State) (c : Fin 8), devUp s = true ∧ (chAt s c).st = .armed ∧ 2 ≤ chMode (chAt s c)) ∧
    (∃ (s : State) (c : Fin 8) (v : Word), devUp s = true ∧ stepBad (v ++ (chAt s c).seqLow) = false ∧ stepUsed (chAt s c) (fld (chAt s c).seqAddr 0 8) = false) ∧
    (∃ (s : State) (c : Fin 8) (v : Word), devUp s = true ∧ stepBad (v ++ (chAt s c).seqLow) = true) ∧
    (∃ (s : State) (c : Fin 8) (v : Word), devUp s = true ∧ stepBad (v ++ (chAt s c).seqLow) = false ∧ stepUsed (chAt s c) (fld (chAt s c).seqAddr 0 8) = true) ∧
    (∃ (s : State) (c : Fin 8) (k : Fin 4), devUp s = true ∧ ¬((chAt s c).st = .running ∧ (chAt s c).tset.toNat = k.val)) ∧
    (∃ (s : State) (c : Fin 8) (k : Fin 4), devUp s = true ∧ (chAt s c).st = .running ∧ (chAt s c).tset.toNat = k.val) :=
  ⟨⟨r0, 1, 0x00050010, by decide +kernel⟩,
   ⟨chs (fun h => { withStep 5 w1 h with ftw := 7 }), 1, 0x00050000, by decide +kernel⟩,
   ⟨r0, 1, 0x00050000, by decide +kernel⟩,
   ⟨armed0, 1, 0x00050000, by decide +kernel⟩,
   ⟨playing w1, 1, 0x00040000, by decide +kernel⟩,
   ⟨{ playing w1 with rg := { (playing w1).rg with x := (playing w1).rg.x.map fun x => { x with stopReq := true } } }, 1, by decide +kernel⟩,
   ⟨armed0, 2, by decide +kernel⟩,
   ⟨chs (fun h => { h with ctrl := 0x80000020, st := .armed, ftw := 9 }), 2, by decide +kernel⟩,
   ⟨chs (fun h => { h with seqLow := 77, seqAddr := 255, seqHi := true }), 2, 0x12345, by decide +kernel⟩,
   ⟨chs (fun h => { h with seqLow := 77, seqAddr := 255, seqHi := true }), 2, 0x92345678, by decide +kernel⟩,
   ⟨chs (fun h => { h with seqLow := 77, seqAddr := 5, seqHi := true }) id (playing w1), 2, 0x12345, by decide +kernel⟩,
   ⟨playing w1, 2, 3, by decide +kernel⟩,
   ⟨playing w1, 2, 0, by decide +kernel⟩⟩

/-- The hypotheses of GeneratorSteps can be met, clause by clause. -/
theorem meets_GeneratorSteps :
    (∃ (s : State) (c : Fin 8) (n : _), devUp s = true ∧ (chAt s c).st = .running ∧ chMode (chAt s c) = 0 ∧ (chX s c).next = some n ∧ s.rg.claims = [] ∧ (chAt s c).retune = none) ∧
    (∃ (s : State) (c : Fin 8) (n : Byte) (k : _), devUp s = true ∧ (chAt s c).st = .running ∧ chMode (chAt s c) = 0 ∧ (chX s c).next = some n ∧ k ∈ s.rg.claims ∧ k.2.2.1 ∈ marksOf (chAt s c) n.toNat) ∧
    (∃ (s : State) (c : Fin 8), devUp s = true ∧ (chAt s c).st = .running ∧ chMode (chAt s c) = 0 ∧ (chX s c).next = none ∧ sCond (stepAt (chAt s c) (chAt s c).step.toNat) = 8 ∧ (chX s c).tsetWait = none) ∧
    (∃ (s : State) (c : Fin 8), devUp s = true ∧ (chAt s c).st = .running ∧ chMode (chAt s c) = 0 ∧ (chX s c).next = none ∧ (chX s c).stopReq = false ∧ sCond (stepAt (chAt s c) (chAt s c).step.toNat) = 0 ∧ sWait (stepAt (chAt s c) (chAt s c).step.toNat) = false ∧ sCpol (stepAt (chAt s c) (chAt s c).step.toNat) = false) ∧
    (∃ (s : State) (c : Fin 8), devUp s = true ∧ (chAt s c).st = .running ∧ chMode (chAt s c) = 0 ∧ (chX s c).next = none ∧ (chX s c).stopReq = false ∧ sCond (stepAt (chAt s c) (chAt s c).step.toNat) = 3 ∧ sWait (stepAt (chAt s c) (chAt s c).step.toNat) = false ∧ sCpol (stepAt (chAt s c) (chAt s c).step.toNat) = false ∧ sArg (stepAt (chAt s c) (chAt s c).step.toNat) < 4 ∧ vget (chX s c).cnt (sArg (stepAt (chAt s c) (chAt s c).step.toNat)) 0 ≠ 0) ∧
    (∃ (s : State) (c : Fin 8), devUp s = true ∧ (chAt s c).st = .running ∧ chMode (chAt s c) = 0 ∧ (chX s c).next = none ∧ (chX s c).stopReq = true ∧ sCond (stepAt (chAt s c) (chAt s c).step.toNat) = 1 ∧ sWait (stepAt (chAt s c) (chAt s c).step.toNat) = false) :=
  ⟨⟨chs (fun h => withStep 4 w1 { h with st := .running, ctrl := 0x80040000, step := 1 }) (fun x => { x with next := some 4, taken := true }), 3, 4, by decide +kernel⟩,
   ⟨let s := chs (fun h => withStep 4 w1 { h with st := .running, ctrl := 0x80040000, step := 1 }) (fun x => { x with next := some 4, taken := true }); { s with rg := { s.rg with claims := claimed.rg.claims } }, 3, 4, (2, 0, 3, 10, [1, 2, 3, 4]), by decide +kernel⟩,
   ⟨playing (mkStep 8 0 0 0 0 0 0 0 0 1 2 3), 3, by decide +kernel⟩,
   ⟨playing w1, 3, by decide +kernel⟩,
   ⟨playing (mkStep 3 2 0 0 0 0 0 9 0 1 2 3), 3, by decide +kernel⟩,
   ⟨chs id (fun x => { x with stopReq := true }) (playing (mkStep 1 2 0 0 0 0 0 9 0 1 2 3)), 3, by decide +kernel⟩⟩

/-- The hypotheses of GeneratorInputs can be met, clause by clause. -/
theorem meets_GeneratorInputs :
    (∃ (s : State) (n : Fin 16) (i : _), devUp s = true ∧ inputPin s n.val = some i ∧ s.pmx.pad.getLsbD i = false ∧ (fld s.rg.incfg (2 * n.val) 2 = 1 ∨ fld s.rg.incfg (2 * n.val) 2 = 3)) ∧
    (∃ (s : State) (c : Fin 8) (k : Fin 2), devUp s = true ∧ (chX s c).maArm.getLsbD k.val = true ∧ maMayFire s (chAt s c) k.val = true ∧ (chAt s c).retune = none ∧ chStart (chAt s c) ≠ 3) ∧
    (∃ (s : State) (c : Fin 8) (k : Fin 2), devUp s = true ∧ (chX s c).todArm.getLsbD k.val = true ∧ (chAt s c).retune = none ∧ chStart (chAt s c) ≠ 2) ∧
    (∃ (s : State) (v : _), devUp s = true ∧ bitAt v 9 = false) ∧
    (∃ (s : State) (c : Fin 8) (k : Fin 2) (v : _), let x : BitVec 48 := BitVec.ofNat 48 (((chAt s c).todSec[k.val].setWidth 32).toNat + 4294967296 * fld v 0 16); devUp s = true ∧ s.staging = [] ∧ genTime s < ((x.toNat : Int) * 1000000000 + (vget (chAt s c).todNs k.val 0).toNat) * 256) ∧
    (∃ (s : State), devUp s = true) ∧
    (∃ (s : State) (v : _), devUp s = true ∧ bitAt v 8 = true ∧ s.rg.vfault = true) ∧
    (∃ (s : State) (c : Fin 8), devUp s = true ∧ chMode (chAt s c) = 1 ∧ (chAt s c).st = .running) ∧
    (∃ (s : State) (c : Fin 8) (n : Fin 16) (f : BitVec 80), devUp s = true ∧ chMode (chAt s c) = 2 ∧ (chAt s c).st = .running ∧ fld (chAt s c).ltc 16 4 = n.val ∧ f.toNat / 2 ^ 64 = 0xBFFC) ∧
    (∃ (s : State) (c : Fin 8) (n : Fin 16), devUp s = true ∧ chMode (chAt s c) = 2 ∧ (chAt s c).st = .running ∧ fld (chAt s c).ltc 16 4 = n.val) ∧
    (∃ (s : State) (c : Fin 8), devUp s = true ∧ chMode (chAt s c) = 3 ∧ (chAt s c).st = .running) :=
  ⟨⟨pinned1, 3, 3, by decide +kernel⟩,
   ⟨chs id (fun x => { x with maArm := 3 }) (running r0), 3, 1, by decide +kernel⟩,
   ⟨chs id (fun x => { x with todArm := 3 }), 3, 1, by decide +kernel⟩,
   ⟨r0, 0x80000101, by decide +kernel⟩,
   ⟨r0, 3, 1, 0x80000101, by decide +kernel⟩,
   ⟨chs id (fun x => { x with out := 8888 }), by decide +kernel⟩,
   ⟨{ r0 with rg := { r0.rg with vfault := true, vtrip := 2 } }, 0x100, by decide +kernel⟩,
   ⟨chs (fun h => { h with ctrl := 0x80000010, st := .running }), 3, by decide +kernel⟩,
   ⟨chs (fun h => { h with ctrl := 0x80000020, st := .running }), 3, 0, (BitVec.ofNat 80 (0xBFFC * 2^64 + 77)), by decide +kernel⟩,
   ⟨chs (fun h => { h with ctrl := 0x80000020, st := .running }) (fun x => { x with ltcHeard := true }), 3, 0, by decide +kernel⟩,
   ⟨chs (fun h => { h with ctrl := 0x80000030, st := .running }), 3, by decide +kernel⟩⟩

/-- The hypotheses of GeneratorDescriptors can be met, clause by clause. -/
theorem meets_GeneratorDescriptors :
    (∃ (s : State) (r : Fin 16) (d : DescBytes) (bs : List Byte), devUp s = true ∧ accepts r d 0x30 s = true ∧ 2 ≤ dLen d ∧ dLen d ≤ 4096 ∧ dLen d % 2 = 0 ∧ field512 d 22 2 % 2 = 0 ∧ field512 d 22 2 + dLen d ≤ 4096 ∧ sigActive s (dByte d 20) = false ∧ regionOk s (dAddr d) (dLen d) = true ∧ bs.length = dLen d) ∧
    (∃ (s : State) (r : Fin 16) (d : DescBytes), devUp s = true ∧ accepts r d 0x30 s = true ∧ 2 ≤ dLen d ∧ dLen d ≤ 4096 ∧ dLen d % 2 = 0 ∧ field512 d 22 2 % 2 = 0 ∧ field512 d 22 2 + dLen d ≤ 4096 ∧ sigActive s (dByte d 20) = true) ∧
    (∃ (s : State) (r : Fin 16) (id : _) (g : _) (o : _) (bs : List Byte) (l : _), devUp s = true ∧ s.rg.claims = (r.val, id, g, o, bs) :: l) ∧
    (∃ (s : State) (r : Fin 16) (d : DescBytes), devUp s = true ∧ accepts r d 0x32 s = true ∧ field512 d 24 6 ≤ 140737488355328 ∧ (chAt s (descCh d)).retune = none ∧ dByte d 21 = 0) ∧
    (∃ (s : State) (r : Fin 16) (d : DescBytes), devUp s = true ∧ accepts r d 0x32 s = true ∧ field512 d 24 6 ≤ 140737488355328 ∧ (chAt s (descCh d)).retune = none ∧ 1 ≤ dByte d 21 ∧ dByte d 21 ≤ 5) :=
  ⟨⟨rings, 2, dSig, [1, 2, 3, 4], by decide +kernel⟩,
   ⟨chs id (fun x => { x with activeSig := [3] }) rings, 2, dSig, by decide +kernel⟩,
   ⟨claimed, 2, 0, 3, 10, [1, 2, 3, 4], [], by decide +kernel⟩,
   ⟨rings, 2, (dRet 0), by decide +kernel⟩,
   ⟨rings, 2, (dRet 4), by decide +kernel⟩⟩

/-- The hypotheses of FlagDescriptor can be met, clause by clause. -/
theorem meets_FlagDescriptor : (∃ (s : State) (r : Fin 16) (d : DescBytes), devUp s = true ∧ accepts r d 0x31 s = true) :=
  ⟨rings, 2, dFlag, by decide +kernel⟩

end Sys2Proof.Tests.Rg

namespace Sys2Proof.Tests.Aln
set_option Elab.async false
open Sys2Proof.Machine

def al (g : Aln → Aln) (s : State := r0) : State := { s with aln := g s.aln }
def kettle (f : Word) (g : Aln → Aln := id) : State := al g { r0 with te := { r0.te with srcOk := 2 }, aln := { r0.aln with kcfg := 0x80000001 ||| f, kmax := 0xFFFF } }
def slave (g : Aln → Aln := id) : State := al g { r0 with aln := { r0.aln with stcfg := 0xA0000100, ststate := 1, stlim := 0xFFFF00FF } }
def goodWord : BitVec 128 := BitVec.ofNat 128 (ofLe (stitchBytes 2 false 9 3 500))

/-- The hypotheses of Alignment can be met, clause by clause. -/
theorem meets_Alignment :
    (∃ (s : State), devUp s = true ∧ kAuto s = false ∧ stRole s ≠ 2) ∧
    (∃ (s : State), devUp s = true ∧ (kAuto s = true ∨ stRole s = 2)) ∧
    (∃ (s : State) (sub : BitVec 6), let e := fromSecond (genTime s + (sub.toNat * 64 / 5 : Nat) - s.aln.kdly.toInt - (fld s.aln.kexp 0 30 * 256 : Nat)); devUp s = true ∧ kEn s = true ∧ s.pwr.st ≠ .holdover ∧ refPresent s = true ∧ justJumped s = false ∧ e.natAbs ≤ kWin s * 256000 ∧ s.aln.kn + 1 < 2 ^ kAvg s) ∧
    (∃ (s : State) (sub : BitVec 6), let e := fromSecond (genTime s + (sub.toNat * 64 / 5 : Nat) - s.aln.kdly.toInt - (fld s.aln.kexp 0 30 * 256 : Nat)); let m := roundDiv (s.aln.ksum + e) (2 ^ kAvg s); devUp s = true ∧ kEn s = true ∧ s.pwr.st ≠ .holdover ∧ refPresent s = true ∧ justJumped s = false ∧ e.natAbs ≤ kWin s * 256000 ∧ 2 ^ kAvg s ≤ s.aln.kn + 1 ∧ m.natAbs ≤ fld s.aln.kmax 0 16 * 256 ∧ kAuto s = true ∧ kOnce s = false) ∧
    (∃ (s : State) (sub : BitVec 6), devUp s = true ∧ kEn s = true ∧ s.pwr.st ≠ .holdover ∧ refPresent s = true ∧ justJumped s = false ∧ kWin s * 256000 < (fromSecond (genTime s + (sub.toNat * 64 / 5 : Nat) - s.aln.kdly.toInt - (fld s.aln.kexp 0 30 * 256 : Nat))).natAbs) ∧
    (∃ (s : State), devUp s = true ∧ kDrive s = true) ∧
    (∃ (s : State) (v : Word), devUp s = true ∧ fld v 29 2 ≠ 3 ∧ ((bitAt v 29 = false ∨ stRole s ≠ 2)) ∧ fld v 0 8 ≠ 0 ∧ fld v 24 3 ≠ 7 ∧ kEn s = true) ∧
    (∃ (s : State) (v : Word), devUp s = true ∧ fld v 29 2 = 3) ∧
    (∃ (s : State) (v : Word), devUp s = true ∧ fld v 30 2 = 2 ∧ ((kEn s = false ∨ kAuto s = false)) ∧ stRole s ≠ 2 ∧ fld v 16 3 ≤ 4 ∧ fld v 8 4 ≠ 0) ∧
    (∃ (s : State) (v : Word), devUp s = true ∧ fld v 30 2 = 2 ∧ kEn s = true ∧ kAuto s = true) ∧
    (∃ (s : State), devUp s = true ∧ stRole s = 1 ∧ s.pwr.st ≠ .holdover) ∧
    (∃ (s : State) (w : StitchRx), devUp s = true ∧ stRole s = 2 ∧ s.pwr.st ≠ .holdover ∧ (leBytes 16 w.word.toNat).getD 0 0 ≠ 0xD5) ∧
    (∃ (s : State) (w : StitchRx), devUp s = true ∧ stRole s = 2 ∧ s.pwr.st ≠ .holdover ∧ (leBytes 16 w.word.toNat).getD 0 0 = 0xD5 ∧ hcs ((leBytes 16 w.word.toNat).take 14) = leAt (leBytes 16 w.word.toNat) 14 2 ∧ leAt (leBytes 16 w.word.toNat) 1 1 < 7) ∧
    (∃ (s : State) (w : StitchRx), devUp s = true ∧ stRole s = 2 ∧ s.pwr.st ≠ .holdover ∧ (leBytes 16 w.word.toNat).getD 0 0 = 0xD5 ∧ hcs ((leBytes 16 w.word.toNat).take 14) = leAt (leBytes 16 w.word.toNat) 14 2 ∧ leAt (leBytes 16 w.word.toNat) 1 1 < 7) ∧
    (∃ (s : State) (w : StitchRx), devUp s = true ∧ stRole s = 2 ∧ s.pwr.st ≠ .holdover ∧ (leBytes 16 w.word.toNat).getD 0 0 = 0xD5 ∧ hcs ((leBytes 16 w.word.toNat).take 14) = leAt (leBytes 16 w.word.toNat) 14 2 ∧ leAt (leBytes 16 w.word.toNat) 1 1 < 7) ∧
    (∃ (s : State), devUp s = true ∧ stRole s = 2 ∧ s.aln.ststate ≠ 4 ∧ s.pwr.st ≠ .holdover) :=
  ⟨⟨r0, by decide +kernel⟩,
   ⟨slave, by decide +kernel⟩,
   ⟨kettle 0x01000000 (fun a => { a with kexp := 3 }), 5, by decide +kernel⟩,
   ⟨kettle 0x20000000 (fun a => { a with kexp := 3 }), 5, by decide +kernel⟩,
   ⟨kettle 0 (fun a => { a with kexp := 5000000 }), 5, by decide +kernel⟩,
   ⟨kettle 0x40000000, by decide +kernel⟩,
   ⟨kettle 0, 0x95000055, by decide +kernel⟩,
   ⟨kettle 0, 0x60000001, by decide +kernel⟩,
   ⟨kettle 0, 0x83041234, by decide +kernel⟩,
   ⟨kettle 0x20000000, 0x83041234, by decide +kernel⟩,
   ⟨al (fun a => { a with stcfg := 0x42000000 }), by decide +kernel⟩,
   ⟨slave, ⟨7, { sec := 3, ns := 600, frac := 0 }⟩, by decide +kernel⟩,
   ⟨slave, ⟨goodWord, { sec := 3, ns := 600, frac := 0 }⟩, by decide +kernel⟩,
   ⟨slave (fun a => { a with ststate := 2, lockRun := 3 }), ⟨goodWord, { sec := 3, ns := 500, frac := 16 }⟩, by decide +kernel⟩,
   ⟨slave (fun a => { a with ststate := 3 }), ⟨goodWord, { sec := 9, ns := 500, frac := 16 }⟩, by decide +kernel⟩,
   ⟨slave, by decide +kernel⟩⟩

end Sys2Proof.Tests.Aln

namespace Sys2Proof.Tests.Cx
set_option Elab.async false
open Sys2Proof.Machine

def hkey : Slot := { Slot.empty with use := useHost, inve := 16, blke := 20, key := 77 }
def jb (dec ccm : Bool) : DescBytes := descOf [(0, 2, cxOpcode dec ccm), (8, 8, 0x1000), (16, 4, 5), (20, 1, 3), (21, 1, 16), (22, 1, 12), (32, 4, 2), (40, 8, 0x2000), (24, 8, 0x3000)]
def cxs (g : Cx → Cx) (s : State := ringCh r0) : State := { s with cx := g s.cx }
def withKey : State := cxs fun x => { x with slot := vupd x.slot 3 fun _ => hkey, core := x.core.map fun c => { c with st := .idle } }
def j0 : CxJob := { ring := 2, desc := 0, decrypt := false, ccm := false, slot := 3, nonce := List.replicate 12 0, aad := [], input := [1, 2, 3], tlen := 16, dst := 0x2000 }
def onCore (j : CxJob) : State :=
  let s := withKey
  { s with
    hi := { s.hi with sq := s.hi.sq.map fun q => { q with nextId := 1, taken := [{ id := 0, bytes := 0, result := none, mail := false, events := [] }] } }
    cx := { s.cx with core := vupd s.cx.core 1 fun c => { c with st := .busy, job := some j, hold := [7] } } }
def ld (u : Nat) : DescBytes := descOf [(0, 2, 0x44), (8, 8, 0x1000), (16, 4, 16), (20, 1, 4), (21, 1, u), (22, 1, 9), (24, 1, 20), (25, 1, 30)]
def un : DescBytes := descOf [(0, 2, 0x45), (20, 1, 3)]
def rk : DescBytes := descOf [(0, 2, 0x46), (20, 2, 1)]
def lds : KeyLoadS := { ring := 2, desc := 0, slot := 4, use := useHost, gen := 3, size := false, key := 99, inve := 20, blke := 30, placed := false }
def waitingLoad : State := let s := onCore j0; { s with cx := { s.cx with loads := [lds] } }
def unloading : State := let s := onCore j0; { s with cx := { s.cx with slot := vupd s.cx.slot 3 fun k => { k with unload := some [(2, 0)] } } }
def headK : State := ringCh (cxs (fun x => { x with kdk := some 5 }) (withLeaf r0))
def unwrapS : State :=
  let e : Entry := set512 entryAct 256 256 (tkMake 5 0 1 3 false (List.replicate 16 9)).toNat
  let s := onAir (running r0)
  let s := { s with lt := { s.lt with mem := [(1, e)] }, cx := { s.cx with kdk := some 5, bootEpoch := 0 } }
  { s with line := { s.line with q := [txData s] } }

/-- The hypotheses of CipherJobs can be met, clause by clause. -/
theorem meets_CipherJobs :
    (∃ (s : State) (r : Fin 16) (d : DescBytes) (dec : Bool) (ccm : Bool) (bs : List Byte), let n := dLen d + (if dec then jTlen d else 0); let k := slotAt s (jSlot d); let b := blocksOf (jAadlen d) (dLen d); devUp s = true ∧ accepts r d (cxOpcode dec ccm) s = true ∧ jobBad dec ccm d s = false ∧ s.tmp.locked = false ∧ (slotAt s (jSlot d)).use = useHost ∧ (slotAt s (jSlot d)).unload = none ∧ s.cln.hostmode = false ∧ bs.length = n + jAadlen d ∧ k.exh = false ∧ k.inv + 1 ≤ 2 ^ k.inve ∧ k.blk + b ≤ 2 ^ k.blke) ∧
    (∃ (s : State) (r : Fin 16) (d : DescBytes) (dec : Bool) (ccm : Bool) (bs : List Byte), let n := dLen d + (if dec then jTlen d else 0); let k := slotAt s (jSlot d); let b := blocksOf (jAadlen d) (dLen d); devUp s = true ∧ accepts r d (cxOpcode dec ccm) s = true ∧ jobBad dec ccm d s = false ∧ s.tmp.locked = false ∧ (slotAt s (jSlot d)).use = useHost ∧ (slotAt s (jSlot d)).unload = none ∧ s.cln.hostmode = false ∧ bs.length = n + jAadlen d ∧ k.exh = false ∧ k.inv + 1 ≤ 2 ^ k.inve ∧ k.blk + b ≤ 2 ^ k.blke) ∧
    (∃ (s : State) (r : Fin 16) (d : DescBytes) (dec : Bool) (ccm : Bool) (bs : List Byte), let n := dLen d + (if dec then jTlen d else 0); let k := slotAt s (jSlot d); let b := blocksOf (jAadlen d) (dLen d); devUp s = true ∧ accepts r d (cxOpcode dec ccm) s = true ∧ jobBad dec ccm d s = false ∧ s.tmp.locked = false ∧ (slotAt s (jSlot d)).use = useHost ∧ (slotAt s (jSlot d)).unload = none ∧ s.cln.hostmode = false ∧ bs.length = n + jAadlen d ∧ k.exh = false ∧ k.inv + 1 ≤ 2 ^ k.inve ∧ k.blk + b ≤ 2 ^ k.blke) ∧
    (∃ (s : State) (r : Fin 16) (d : DescBytes) (dec : Bool) (ccm : Bool) (bs : List Byte), let n := dLen d + (if dec then jTlen d else 0); let k := slotAt s (jSlot d); let b := blocksOf (jAadlen d) (dLen d); devUp s = true ∧ accepts r d (cxOpcode dec ccm) s = true ∧ jobBad dec ccm d s = false ∧ s.tmp.locked = false ∧ (slotAt s (jSlot d)).use = useHost ∧ (slotAt s (jSlot d)).unload = none ∧ s.cln.hostmode = false ∧ bs.length = n + jAadlen d ∧ k.exh = false ∧ k.inv + 1 ≤ 2 ^ k.inve ∧ k.blk + b ≤ 2 ^ k.blke) ∧
    (∃ (s : State) (r : Fin 16) (d : DescBytes) (dec : Bool) (ccm : Bool), devUp s = true ∧ accepts r d (cxOpcode dec ccm) s = true ∧ jobBad dec ccm d s = true) ∧
    (∃ (s : State) (r : Fin 16) (d : DescBytes) (dec : Bool) (ccm : Bool), devUp s = true ∧ accepts r d (cxOpcode dec ccm) s = true ∧ jobBad dec ccm d s = false ∧ s.tmp.locked = true) ∧
    (∃ (s : State) (r : Fin 16) (d : DescBytes) (dec : Bool) (ccm : Bool), devUp s = true ∧ accepts r d (cxOpcode dec ccm) s = true ∧ jobBad dec ccm d s = false ∧ s.tmp.locked = false ∧ (slotAt s (jSlot d)).use = useEmpty) ∧
    (∃ (s : State) (r : Fin 16) (d : DescBytes) (dec : Bool) (ccm : Bool), devUp s = true ∧ accepts r d (cxOpcode dec ccm) s = true ∧ jobBad dec ccm d s = false ∧ s.tmp.locked = false ∧ (slotAt s (jSlot d)).use = useHost ∧ (slotAt s (jSlot d)).unload = none ∧ s.cln.hostmode = false ∧ (slotAt s (jSlot d)).exh = true) :=
  ⟨⟨withKey, 2, (jb true false), true, false, [1,2,3,4,5,6,7,8,9,10,11,12,13,14,15,16,17,18,19,20,21,22,23], by decide +kernel⟩,
   ⟨withKey, 2, (jb false false), false, false, [1,2,3,4,5,6,7], by decide +kernel⟩,
   ⟨withKey, 2, (jb false true), false, true, [1,2,3,4,5,6,7], by decide +kernel⟩,
   ⟨withKey, 2, (jb true true), true, true, [1,2,3,4,5,6,7,8,9,10,11,12,13,14,15,16,17,18,19,20,21,22,23], by decide +kernel⟩,
   ⟨withKey, 2, (descOf [(0, 2, 0x40), (21, 1, 3)]), false, false, by decide +kernel⟩,
   ⟨{ withKey with tmp := { r0.tmp with locked := true } }, 2, (jb true true), true, true, by decide +kernel⟩,
   ⟨ringCh r0, 2, (jb true true), true, true, by decide +kernel⟩,
   ⟨cxs (fun x => { x with slot := vupd x.slot 3 fun k => { k with exh := true } }) withKey, 2, (jb true true), true, true, by decide +kernel⟩⟩

/-- The hypotheses of CipherCores can be met, clause by clause. -/
theorem meets_CipherCores :
    (∃ (s : State) (c : Fin 4) (j : CxJob) (out : _), devUp s = true ∧ (coreAt s c.val).job = some j ∧ s.cx.coreEn.getLsbD c.val = true ∧ s.cx.jobs = [] ∧ jobOutput (slotAt s j.slot) j = some out ∧ jobLive s j = true) ∧
    (∃ (s : State) (c : Fin 4) (j : CxJob), devUp s = true ∧ (coreAt s c.val).job = some j ∧ s.cx.coreEn.getLsbD c.val = true ∧ s.cx.jobs = [] ∧ jobOutput (slotAt s j.slot) j = none ∧ jobLive s j = true) ∧
    (∃ (s : State) (c : Fin 4) (j : CxJob), devUp s = true ∧ (coreAt s c.val).job = some j ∧ jobLive s j = true ∧ (slotAt s j.slot).retire = false ∧ j.slot < 64) ∧
    (∃ (s : State) (c : Fin 4) (j : CxJob) (v : _), devUp s = true ∧ (coreAt s c.val).job = some j ∧ bitAt v (8 + c.val) = true ∧ (coreAt s c.val).st = .busy ∧ jobLive s j = true) ∧
    (∃ (s : State) (c : Fin 4) (j : CxJob) (v : _), devUp s = true ∧ (coreAt s c.val).job = some j ∧ fld v 8 4 = 0 ∧ bitAt v c.val = false ∧ (coreAt s c.val).st = .busy) :=
  ⟨⟨onCore j0, 1, j0, ((jobOutput (slotAt withKey 3) j0).getD []), by decide +kernel⟩,
   ⟨onCore { j0 with decrypt := true, input := List.replicate 20 1 }, 1, { j0 with decrypt := true, input := List.replicate 20 1 }, by decide +kernel⟩,
   ⟨onCore j0, 1, j0, by decide +kernel⟩,
   ⟨onCore j0, 1, j0, 0xF0F, by decide +kernel⟩,
   ⟨onCore j0, 1, j0, 0xD, by decide +kernel⟩⟩

/-- The hypotheses of Keys can be met, clause by clause. -/
theorem meets_Keys :
    (∃ (s : State) (r : Fin 16) (d : DescBytes) (bs : List Byte), devUp s = true ∧ accepts r d 0x44 s = true ∧ loadBad d s = false ∧ s.tmp.locked = false ∧ s.cln.hostmode = false ∧ bs.length = dLen d ∧ dByte d 21 = 1 ∧ loadReady s (dByte d 20) = true) ∧
    (∃ (s : State) (r : Fin 16) (d : DescBytes), devUp s = true ∧ accepts r d 0x44 s = true ∧ loadBad d s = true) ∧
    (∃ (s : State) (r : Fin 16) (d : DescBytes) (bs : List Byte), devUp s = true ∧ accepts r d 0x44 s = true ∧ loadBad d s = false ∧ s.tmp.locked = false ∧ s.cln.hostmode = false ∧ bs.length = dLen d ∧ loadReady s (dByte d 20) = true) ∧
    (∃ (s : State) (i : Fin 64) (l : _), devUp s = true ∧ s.cx.loads.find? (fun l => decide (l.slot = i.val) && !l.placed) = some l ∧ loadReady s i.val = true ∧ l.use = useHost) ∧
    (∃ (s : State) (r : Fin 16) (d : DescBytes), devUp s = true ∧ accepts r d 0x45 s = true ∧ dByte d 20 < 64) ∧
    (∃ (s : State) (i : Fin 64) (ds : _), devUp s = true ∧ (slotAt s i.val).unload = some ds ∧ (slotAt s i.val).held = 0) ∧
    (∃ (s : State) (r : Fin 16) (d : DescBytes), devUp s = true ∧ accepts r d 0x46 s = true ∧ s.tmp.locked = false ∧ s.cx.kdk = none) ∧
    (∃ (s : State) (r : Fin 16) (d : DescBytes), devUp s = true ∧ accepts r d 0x46 s = true ∧ s.tmp.locked = false ∧ s.cx.kdk.isSome = true ∧ (eState (entryAt s (dLeaf d).toNat) = stActive ∨ eState (entryAt s (dLeaf d).toNat) = stSilent ∨ eState (entryAt s (dLeaf d).toNat) = stGone)) ∧
    (∃ (s : State) (leaf : BitVec 12) (kdk : _) (i : _), devUp s = true ∧ (s.line.q.any fun f => decide (f.dst = leaf) && decide ((frameSec f.ty.toNat f.dst).1 = 1) && f.raw.isNone && (decide (f.st = .queued) || decide (f.st = .held))) = true ∧ isHead s = true ∧ cachedSlot s leaf.toNat = none ∧ s.tmp.locked = false ∧ s.cx.kdk = some kdk ∧ tkFault s leaf.toNat (eTicket (entryAt s leaf.toNat)) kdk = none ∧ pickSlot s [] = some i) ∧
    (∃ (s : State) (v : _), devUp s = true ∧ (slotAt s (fld v 0 6)).fhold = true ∧ s.cx.loads = [] ∧ s.cx.jobs = []) ∧
    (∃ (s : State) (c : Fin 4), devUp s = true ∧ (coreAt s c.val).selfTest = true ∧ s.cx.jobs = []) ∧
    (∃ (s : State) (c : Fin 4), devUp s = true ∧ (coreAt s c.val).selfTest = true) ∧
    (∃ (s : State) (v : _), devUp s = true ∧ bitAt v 31 = false ∧ fld v 0 12 < 64 ∧ (slotAt s (fld v 0 12)).use ≠ useCached) :=
  ⟨⟨withKey, 2, (ld 1), (List.replicate 16 9), by decide +kernel⟩,
   ⟨withKey, 2, (ld 4), by decide +kernel⟩,
   ⟨withKey, 2, (ld 2), (List.replicate 16 9), by decide +kernel⟩,
   ⟨waitingLoad, 4, lds, by decide +kernel⟩,
   ⟨withKey, 2, un, by decide +kernel⟩,
   ⟨unloading, 3, [(2, 0)], by decide +kernel⟩,
   ⟨cxs (fun x => { x with kdk := none }) headK, 2, rk, by decide +kernel⟩,
   ⟨headK, 2, rk, by decide +kernel⟩,
   ⟨unwrapS, 1, 5, 0, by decide +kernel⟩,
   ⟨cxs (fun x => { x with slot := vupd x.slot 3 fun k => { k with fhold := true } }) withKey, 3, by decide +kernel⟩,
   ⟨cxs (fun x => { x with core := x.core.map fun k => { k with selfTest := true, st := .faulted } }) withKey, 3, by decide +kernel⟩,
   ⟨cxs (fun x => { x with core := x.core.map fun k => { k with selfTest := true, st := .faulted } }) withKey, 3, by decide +kernel⟩,
   ⟨withKey, 3, by decide +kernel⟩⟩

end Sys2Proof.Tests.Cx

namespace Sys2Proof.Tests.Cv
set_option Elab.async false
open Sys2Proof.Machine

def cv32 : State := { r0 with cv := { r0.cv with ch := r0.cv.ch.map fun k => { k with cfg := 0x20, poly := 0xFFFFFFFF, init := 0x12345678, state := 5, count := 9 } } }

/-- The hypotheses of CheckValues can be met, clause by clause. -/
theorem meets_CheckValues :
    (∃ (s : State) (c : Fin 8) (v : Word), devUp s = true ∧ 4 ≤ c.val ∧ fld v 16 4 = 0 ∧ ((fld v 0 6 = 0 ∨ 32 < fld v 0 6))) ∧
    (∃ (s : State) (c : Fin 8) (v : Word), devUp s = true ∧ 4 ≤ c.val ∧ 8 < fld v 16 4 ∧ 0 < fld v 0 6 ∧ fld v 0 6 ≤ 32) ∧
    (∃ (s : State) (c : Fin 8), devUp s = true ∧ c.val < 4) ∧
    (∃ (s : State) (c : Fin 8) (v : Word), devUp s = true ∧ 4 ≤ c.val ∧ fld v 16 4 = 0 ∧ fld v 0 6 ≠ 0 ∧ fld v 0 6 ≤ 32) ∧
    (∃ (s : State) (c : Fin 8) (v : Word), devUp s = true ∧ 4 ≤ c.val ∧ fld v 16 4 = 2) ∧
    (∃ (s : State) (c : Fin 8), devUp s = true ∧ 4 ≤ c.val) ∧
    (∃ (s : State) (c : Fin 8), devUp s = true ∧ 4 ≤ c.val) ∧
    (∃ (s : State) (c : Fin 8), devUp s = true ∧ 4 ≤ c.val) ∧
    (∃ (s : State) (c : Fin 8), devUp s = true ∧ c.val < 4) ∧
    (∃ (s : State) (c : Fin 8) (v : Word), devUp s = true ∧ 4 ≤ c.val ∧ bitAt v 0 = true) ∧
    (∃ (s : State) (c : Fin 8), devUp s = true ∧ c.val < 4) ∧
    (∃ (s : State) (c : Fin 8), devUp s = true ∧ c.val < 4) ∧
    (∃ (s : State) (c : Fin 8), devUp s = true ∧ 4 ≤ c.val) ∧
    (∃ (s : State), devUp s = true) ∧
    (∃ (s : State), devUp s = true) ∧
    (∃ (s : State), devUp s = true) :=
  ⟨⟨cv32, 5, 0x21, by decide +kernel⟩,
   ⟨cv32, 5, 0x90020, by decide +kernel⟩,
   ⟨cv32, 3, by decide +kernel⟩,
   ⟨cv32, 4, 0x320, by decide +kernel⟩,
   ⟨cv32, 4, 0xFFF2FFFF, by decide +kernel⟩,
   ⟨cv32, 4, by decide +kernel⟩,
   ⟨cv32, 4, by decide +kernel⟩,
   ⟨cv32, 7, by decide +kernel⟩,
   ⟨cv32, 0, by decide +kernel⟩,
   ⟨cv32, 7, 0xFFF2FFFF, by decide +kernel⟩,
   ⟨cv32, 3, by decide +kernel⟩,
   ⟨cv32, 0, by decide +kernel⟩,
   ⟨cv32, 7, by decide +kernel⟩,
   ⟨cv32, by decide +kernel⟩,
   ⟨cv32, by decide +kernel⟩,
   ⟨cv32, by decide +kernel⟩⟩

end Sys2Proof.Tests.Cv

namespace Sys2Proof.Tests.Hi
set_option Elab.async false
open Sys2Proof.Machine

def hs (g : Hi → Hi) (s : State := ringCh r0) : State := { s with hi := g s.hi }
def sqs (g : Sq → Sq) (s : State := ringCh r0) : State := { s with hi := { s.hi with sq := s.hi.sq.map g } }
def cqs (g : Cq → Cq) (s : State := ringCh r0) : State := { s with hi := { s.hi with cq := s.hi.cq.map g } }
def dOf (op : Nat) : DescBytes := descOf [(0, 2, op), (8, 8, 0x1000), (16, 4, 8), (20, 2, 1)]
def oneTaken : State := sqs (fun q => { q with nextId := 1, taken := [{ id := 0, bytes := 0, result := some (resOk 5), mail := false, events := [] }] })
def headR : State := ringCh (withLeaf (onAir (running r0)))
def mssS : State := let s := ringCh r0; { s with mss := { s.mss with st := 1 } }

/-- The hypotheses of Rings can be met, clause by clause. -/
theorem meets_Rings :
    (∃ (s : State) (n : Fin 16) (v : Word), devUp s = true ∧ (sqAt s n.val).st = .disabled ∧ bitAt v 31 = true ∧ s.cln.hostmode = false ∧ (sqAt s n.val).base.toNat % 64 = 0 ∧ 4 ≤ fld v 0 5 ∧ fld v 0 5 ≤ 16 ∧ (cqAt s (fld v 16 4)).st = .running ∧ fld v 24 2 ≠ 3) ∧
    (∃ (s : State) (n : Fin 16) (v : Word), devUp s = true ∧ (sqAt s n.val).st = .disabled ∧ bitAt v 31 = true ∧ s.cln.hostmode = false ∧ (sqAt s n.val).base.toNat % 64 = 0 ∧ 4 ≤ fld v 0 5 ∧ fld v 0 5 ≤ 16 ∧ (cqAt s (fld v 16 4)).st = .running ∧ fld v 24 2 ≠ 3) ∧
    (∃ (s : State) (n : Fin 16) (v : Word), devUp s = true ∧ (sqAt s n.val).st = .disabled ∧ bitAt v 31 = true ∧ s.cln.hostmode = false ∧ (sqAt s n.val).base.toNat % 64 = 0 ∧ ((fld v 0 5 < 4 ∨ 16 < fld v 0 5))) ∧
    (∃ (s : State) (n : Fin 16) (v : Word), devUp s = true ∧ (sqAt s n.val).st = .disabled ∧ bitAt v 31 = true ∧ s.cln.hostmode = false ∧ (sqAt s n.val).base.toNat % 64 = 0 ∧ ((fld v 0 5 < 4 ∨ 16 < fld v 0 5))) ∧
    (∃ (s : State) (n : Fin 16) (v : Word), devUp s = true ∧ (sqAt s n.val).st = .disabled ∧ bitAt v 31 = true ∧ s.cln.hostmode = false ∧ (sqAt s n.val).base.toNat % 64 = 0 ∧ 4 ≤ fld v 0 5 ∧ fld v 0 5 ≤ 16 ∧ (cqAt s (fld v 16 4)).st ≠ .running) ∧
    (∃ (s : State) (n : Fin 16) (v : Word), devUp s = true ∧ (cqAt s n.val).st = .disabled ∧ bitAt v 31 = true ∧ s.cln.hostmode = false ∧ (cqAt s n.val).base.toNat % 16 = 0 ∧ 4 ≤ fld v 0 5 ∧ fld v 0 5 ≤ 16 ∧ fld v 8 8 ≠ 0) ∧
    (∃ (s : State) (n : Fin 16) (v : Word), devUp s = true ∧ (sqAt s n.val).st ≠ .disabled ∧ bitAt v 31 = false ∧ (v &&& 0x833F001F).setWidth 31 = (sqAt s n.val).cfg.setWidth 31) ∧
    (∃ (s : State) (n : Fin 16) (v : Word), devUp s = true ∧ (sqAt s n.val).st ≠ .disabled ∧ bitAt v 31 = true) ∧
    (∃ (s : State) (n : Fin 16) (v : Word), devUp s = true ∧ (cqAt s n.val).st ≠ .disabled ∧ bitAt v 31 = false ∧ fld v 8 8 ≠ 0 ∧ (v &&& 0x8FFFFF1F).setWidth 31 = (cqAt s n.val).cfg.setWidth 31 ∧ cqInUse s n.val = true) ∧
    (∃ (s : State) (n : Fin 16) (v : Word), devUp s = true ∧ (cqAt s n.val).st ≠ .disabled ∧ bitAt v 31 = false ∧ fld v 8 8 ≠ 0 ∧ (v &&& 0x8FFFFF1F).setWidth 31 = (cqAt s n.val).cfg.setWidth 31 ∧ cqInUse s n.val = false) ∧
    (∃ (s : State) (n : Fin 16) (v : Word), devUp s = true ∧ (sqAt s n.val).st = .running ∧ fld v 0 16 < ringSize (sqAt s n.val).cfg ∧ ringGap (ringSize (sqAt s n.val).cfg) (sqOldest (sqAt s n.val)) (sqAt s n.val).tail ≤ ringGap (ringSize (sqAt s n.val).cfg) (sqOldest (sqAt s n.val)) (fld v 0 16)) ∧
    (∃ (s : State) (n : Fin 16) (v : Word), devUp s = true ∧ (sqAt s n.val).st = .running ∧ ringSize (sqAt s n.val).cfg ≤ fld v 0 16) ∧
    (∃ (s : State) (n : Fin 16), devUp s = true ∧ (sqAt s n.val).st ≠ .running) ∧
    (∃ (s : State) (n : Fin 16) (v : Word), devUp s = true ∧ (cqAt s n.val).st = .running ∧ bitAt v 31 = true ∧ fld v 0 16 = (cqAt s n.val).tail ∧ (cqAt s n.val).tail < ringSize (cqAt s n.val).cfg ∧ cqDue { cqAt s n.val with head := (cqAt s n.val).tail, written := (cqAt s n.val).written.drop (ringGap (ringSize (cqAt s n.val).cfg) (cqAt s n.val).head (cqAt s n.val).tail) } s.now = false) ∧
    (∃ (s : State) (n : Fin 16) (v : Word), devUp s = true ∧ (cqAt s n.val).st = .running ∧ ringSize (cqAt s n.val).cfg ≤ fld v 0 16) ∧
    (∃ (s : State) (n : Fin 16), devUp s = true ∧ (cqAt s n.val).armed = true ∧ fld (cqAt s n.val).cfg 16 12 ≠ 0 ∧ cqUnconsumed (cqAt s n.val) ≠ 0) ∧
    (∃ (s : State) (v : Word), devUp s = true ∧ bitAt v 0 = false ∧ s.msix.pend = true) :=
  ⟨⟨sqs (fun q => { q with st := .disabled }), 3, 0x80050004, by decide +kernel⟩,
   ⟨sqs (fun q => { q with st := .disabled }), 3, 0x80050010, by decide +kernel⟩,
   ⟨r0, 3, 0x80050003, by decide +kernel⟩,
   ⟨r0, 3, 0x80050011, by decide +kernel⟩,
   ⟨r0, 3, 0x80050004, by decide +kernel⟩,
   ⟨r0, 3, 0x80050104, by decide +kernel⟩,
   ⟨oneTaken, 3, 0x00000004, by decide +kernel⟩,
   ⟨oneTaken, 3, 0x80000004, by decide +kernel⟩,
   ⟨ringCh r0, 0, 0x00000104, by decide +kernel⟩,
   ⟨ringCh r0, 3, 0x00000104, by decide +kernel⟩,
   ⟨ringCh r0, 3, 15, by decide +kernel⟩,
   ⟨ringCh r0, 3, 16, by decide +kernel⟩,
   ⟨r0, 3, by decide +kernel⟩,
   ⟨cqs (fun c => { c with tail := 7 }), 3, 0x80000007, by decide +kernel⟩,
   ⟨ringCh r0, 3, 16, by decide +kernel⟩,
   ⟨cqs (fun c => { c with armed := true, cfg := 0x80040104, tail := 2 }), 3, by decide +kernel⟩,
   ⟨{ r0 with msix := { r0.msix with pend := true } }, 0, by decide +kernel⟩⟩

/-- The hypotheses of Descriptors can be met, clause by clause. -/
theorem meets_Descriptors :
    (∃ (s : State) (r : Fin 16) (d : DescBytes), devUp s = true ∧ accepts r d 0 s = true) ∧
    (∃ (s : State) (r : Fin 16) (d : DescBytes), devUp s = true ∧ isServed r.val s = true ∧ fenceOk r.val d s = true ∧ knownOps.contains (dOp d) = false ∧ idFresh r s = true) ∧
    (∃ (s : State) (r : Fin 16), devUp s = true ∧ isServed r.val s = true) ∧
    (∃ (s : State) (r : Fin 16) (d : DescBytes), devUp s = true ∧ accepts r d 0x11 s = true ∧ 528 ≤ dLen d ∧ s.hi.rxWait = []) ∧
    (∃ (s : State) (r : Fin 16) (d : DescBytes) (bs : List Byte), devUp s = true ∧ bufFree s (dExpress d) = true ∧ accepts r d 0x10 s = true ∧ bs.length = dLen d ∧ dLen d ≤ 512 ∧ s.cln.hostmode = false ∧ s.tmp.locked = false ∧ isHead s = true ∧ dLeaf d ≠ 0 ∧ (dLeaf d = bcast ∨ (eState (entryAt s (dLeaf d).toNat) ≠ stFree ∧ eState (entryAt s (dLeaf d).toNat) ≠ stGone))) ∧
    (∃ (s : State) (r : Fin 16) (d : DescBytes) (bs : List Byte), devUp s = true ∧ bufFree s (dExpress d) = true ∧ accepts r d 0x10 s = true ∧ bs.length = dLen d ∧ dLen d ≤ 512 ∧ s.cln.hostmode = false ∧ s.tmp.locked = false ∧ isHead s = true ∧ dLeaf d ≠ 0 ∧ (dLeaf d = bcast ∨ (eState (entryAt s (dLeaf d).toNat) ≠ stFree ∧ eState (entryAt s (dLeaf d).toNat) ≠ stGone))) ∧
    (∃ (s : State) (r : Fin 16) (d : DescBytes), devUp s = true ∧ bufFree s (dExpress d) = true ∧ accepts r d 0x10 s = true ∧ 512 < dLen d) ∧
    (∃ (s : State) (r : Fin 16) (d : DescBytes), devUp s = true ∧ accepts r d 0x20 s = true ∧ remoteCheck d = none ∧ s.tmp.locked = false ∧ isHead s = true ∧ eState (entryAt s (dLeaf d).toNat) ≠ stFree ∧ eState (entryAt s (dLeaf d).toNat) ≠ stGone) ∧
    (∃ (s : State) (r : Fin 16) (d : DescBytes) (bs : List Byte), devUp s = true ∧ bufFree s (dExpress d) = true ∧ accepts r d 0x21 s = true ∧ remoteCheck d = none ∧ dPosted d = false ∧ s.tmp.locked = false ∧ s.cln.hostmode = false ∧ bs.length = dLen d ∧ isHead s = true ∧ eState (entryAt s (dLeaf d).toNat) ≠ stFree ∧ eState (entryAt s (dLeaf d).toNat) ≠ stGone ∧ ePfail (entryAt s (dLeaf d).toNat) = false) ∧
    (∃ (s : State) (r : Fin 16) (d : DescBytes), devUp s = true ∧ accepts r d 0x22 s = true ∧ dLeaf d ≠ 0 ∧ dLeaf d ≠ bcast ∧ s.tmp.locked = false ∧ s.ltx.fences = [] ∧ (s.line.q.any fun f => f.posted && decide (f.dst = dLeaf d)) = false ∧ ePfail (entryAt s (dLeaf d).toNat) = false) ∧
    (∃ (s : State) (r : Fin 16) (d : DescBytes), devUp s = true ∧ accepts r d 0x50 s = true ∧ dAddr d % 32 = 0 ∧ 32 ≤ dLen d ∧ s.cln.hostmode = false) ∧
    (∃ (s : State) (r : Fin 16) (d : DescBytes) (bs : List Byte), devUp s = true ∧ mailCount s < 32 ∧ accepts r d 0x60 s = true ∧ 4 ≤ dLen d ∧ dLen d ≤ 256 ∧ field512 d 32 4 ≤ 4096 ∧ s.mss.st = 1 ∧ s.cln.hostmode = false ∧ bs.length = dLen d ∧ mailCmds.contains (leAt bs 0 2) = true ∧ (s.mss.mail.all fun m => mailCmds.contains (mailCmd m)) = true) ∧
    (∃ (s : State) (r : Fin 16) (d : DescBytes) (bs : List Byte), devUp s = true ∧ mailCount s < 32 ∧ accepts r d 0x60 s = true ∧ 4 ≤ dLen d ∧ dLen d ≤ 256 ∧ field512 d 32 4 ≤ 4096 ∧ s.mss.st = 1 ∧ s.cln.hostmode = false ∧ bs.length = dLen d ∧ mailCmds.contains (leAt bs 0 2) = false ∧ s.mss.mail = []) ∧
    (∃ (s : State) (r : Fin 16) (k : _) (l : _) (res : _), devUp s = true ∧ (sqAt s r.val).taken = k :: l ∧ k.result = some res ∧ evAwake s = true ∧ (cqAt s (sqCq (sqAt s r.val))).st = .running ∧ s.mss.restartDue = none ∧ s.mss.prof = none ∧ s.tmp.zero = [] ∧ s.lg.resets = [] ∧ k.events = [] ∧ dEvent k.bytes = false ∧ (cqAt s (sqCq (sqAt s r.val))).armed = false) :=
  ⟨⟨ringCh r0, 2, (dOf 0), by decide +kernel⟩,
   ⟨ringCh r0, 2, (dOf 0x99), by decide +kernel⟩,
   ⟨ringCh r0, 2, by decide +kernel⟩,
   ⟨sqs (fun q => { q with cfg := 0x82000004 }), 2, (descOf [(0, 2, 0x11), (16, 4, 528)]), by decide +kernel⟩,
   ⟨headR, 2, (dOf 0x10), [1,2,3,4,5,6,7,8], by decide +kernel⟩,
   ⟨headR, 2, (set512 (dOf 0x10) 160 16 0xFFF), [1,2,3,4,5,6,7,8], by decide +kernel⟩,
   ⟨headR, 2, (descOf [(0, 2, 0x10), (16, 4, 513), (20, 2, 1)]), by decide +kernel⟩,
   ⟨headR, 2, (dOf 0x20), by decide +kernel⟩,
   ⟨headR, 2, (dOf 0x21), [1,2,3,4,5,6,7,8], by decide +kernel⟩,
   ⟨headR, 2, (dOf 0x22), by decide +kernel⟩,
   ⟨headR, 2, (descOf [(0, 2, 0x50), (8, 8, 0x1000), (16, 4, 100)]), by decide +kernel⟩,
   ⟨mssS, 2, (dOf 0x60), [5,0,3,4,5,6,7,8], by decide +kernel⟩,
   ⟨mssS, 2, (dOf 0x60), [1,2,3,4,5,6,7,8], by decide +kernel⟩,
   ⟨oneTaken, 2, { id := 0, bytes := 0, result := some (resOk 5), mail := false, events := [] }, [], (resOk 5), by decide +kernel⟩⟩

end Sys2Proof.Tests.Hi

namespace Sys2Proof.Tests.Ev
set_option Elab.async false
open Sys2Proof.Machine

def evs (g : Ev → Ev) (s : State := r0) : State := { s with ev := g s.ev, mssx := { s.mssx with replayed := true } }
def rec0 : EvRec := { seq := 5, code := 0x0201, source := 3, sec := 9, ns := 8, payload := 77 }
def evRun : State := evs fun e => { e with st := .running, cfg := 0x80000106, base := 0x8000, tail := 5, head := 2 }
def ledF (c : Nat) : State := { r0 with lg := { r0.lg with fault := BitVec.ofNat 8 (2 ^ (c - 1)) }, hi := { r0.hi with bufsUsed := 12 } }

/-- The hypotheses of EventRing can be met, clause by clause. -/
theorem meets_EventRing :
    (∃ (s : State) (v : Word), devUp s = true ∧ s.ev.st = .disabled ∧ bitAt v 31 = true ∧ s.cln.hostmode = false ∧ s.ev.base.toNat % 32 = 0 ∧ 6 ≤ fld v 0 5 ∧ fld v 0 5 ≤ 16 ∧ fld v 8 8 ≠ 0 ∧ s.ev.held = [] ∧ s.ev.coal = [] ∧ s.ev.mode = .normal ∧ s.mssx.replayed = true ∧ evAwake s = true) ∧
    (∃ (s : State) (v : Word), devUp s = true ∧ s.ev.st = .disabled ∧ bitAt v 31 = true ∧ s.cln.hostmode = false ∧ s.ev.base.toNat % 32 = 0 ∧ ((fld v 0 5 < 6 ∨ 16 < fld v 0 5))) ∧
    (∃ (s : State) (v : Word), devUp s = true ∧ s.ev.st ≠ .disabled ∧ bitAt v 31 = false ∧ fld v 8 8 ≠ 0 ∧ (v &&& 0x8FFFFF1F).setWidth 31 = s.ev.cfg.setWidth 31) ∧
    (∃ (s : State) (v : Word), devUp s = true ∧ s.ev.st ≠ .disabled ∧ bitAt v 31 = true) ∧
    (∃ (s : State) (v : Word), devUp s = true ∧ s.ev.st = .running ∧ s.ev.held = [] ∧ s.ev.coal = [] ∧ s.ev.mode = .normal ∧ s.ev.armed = false ∧ bitAt v 31 = false ∧ fld v 0 16 < ringSize s.ev.cfg ∧ ringGap (ringSize s.ev.cfg) s.ev.head (fld v 0 16) ≤ ringGap (ringSize s.ev.cfg) s.ev.head s.ev.tail) ∧
    (∃ (s : State) (v : Word), devUp s = true ∧ s.ev.st = .running ∧ ringSize s.ev.cfg ≤ fld v 0 16) ∧
    (∃ (s : State) (r : _), devUp s = true ∧ s.ev.held = [r] ∧ s.ev.mode = .holding ∧ s.ev.armed = false ∧ evMayWrite s = true) ∧
    (∃ (s : State), devUp s = true ∧ s.ev.armed = true ∧ evAwake s = true ∧ fld s.ev.cfg 16 12 ≠ 0 ∧ evUnconsumed s.ev ≠ 0 ∧ s.msix.mask = false) ∧
    (∃ (s : State), devUp s = true) ∧
    (∃ (s : State) (v : Word), devUp s = true ∧ bitAt v 31 = true ∧ fld v 0 4 = 4 ∧ classFaulted s 4 = true ∧ 0 < s.hi.bufsUsed ∧ s.hi.bufsUsed < 4294967296) ∧
    (∃ (s : State) (v : Word), devUp s = true ∧ bitAt v 31 = true ∧ 1 ≤ fld v 0 4 ∧ fld v 0 4 ≤ 8 ∧ classFaulted s (fld v 0 4) = false) ∧
    (∃ (s : State) (v : Word), devUp s = true ∧ bitAt v 31 = true ∧ 0x10 ≤ fld v 0 8 ∧ fld v 0 8 ≤ 0x17 ∧ (s.lg.resets.any fun r => decide (r.unit.toNat = fld v 0 8)) = false) ∧
    (∃ (s : State) (v : Word), devUp s = true ∧ bitAt v 31 = true ∧ 0x10 ≤ fld v 0 8 ∧ fld v 0 8 ≤ 0x17 ∧ (s.lg.resets.any fun r => decide (r.unit.toNat = fld v 0 8)) = false) ∧
    (∃ (s : State) (v : Word), devUp s = true ∧ bitAt v 31 = true ∧ 0x20 ≤ fld v 0 8 ∧ fld v 0 8 ≤ 0x23 ∧ (s.lg.resets.any fun r => decide (r.unit.toNat = fld v 0 8)) = false) ∧
    (∃ (s : State) (v : Word), devUp s = true ∧ bitAt v 31 = true ∧ 0x20 ≤ fld v 0 8 ∧ fld v 0 8 ≤ 0x23 ∧ (s.lg.resets.any fun r => decide (r.unit.toNat = fld v 0 8)) = false) ∧
    (∃ (s : State) (v : Word), devUp s = true ∧ bitAt v 31 = true ∧ ((fld v 0 8 < 0x10 ∨ (0x17 < fld v 0 8 ∧ fld v 0 8 < 0x20) ∨ (0x23 < fld v 0 8 ∧ fld v 0 8 ≠ 0x38)))) ∧
    (∃ (s : State) (v : Word), devUp s = true ∧ bitAt v 31 = true ∧ ((fld v 0 8 < 0x10 ∨ (0x17 < fld v 0 8 ∧ fld v 0 8 < 0x20) ∨ (0x23 < fld v 0 8 ∧ fld v 0 8 ≠ 0x38)))) ∧
    (∃ (s : State) (v : Word), devUp s = true ∧ bitAt v 31 = true ∧ ((fld v 0 8 < 0x10 ∨ (0x17 < fld v 0 8 ∧ fld v 0 8 < 0x20) ∨ (0x23 < fld v 0 8 ∧ fld v 0 8 ≠ 0x38)))) :=
  ⟨⟨evs id, 0x80000106, by decide +kernel⟩,
   ⟨r0, 0x80000105, by decide +kernel⟩,
   ⟨evRun, 0x00000106, by decide +kernel⟩,
   ⟨evRun, 0x80000106, by decide +kernel⟩,
   ⟨evRun, 4, by decide +kernel⟩,
   ⟨evRun, 64, by decide +kernel⟩,
   ⟨evs (fun e => { e with st := .running, cfg := 0x80000106, held := [rec0], mode := .holding }), rec0, by decide +kernel⟩,
   ⟨let s := evs (fun e => { e with st := .running, cfg := 0x80040206, tail := 2, armed := true }); { s with msix := { s.msix with mask := false } }, by decide +kernel⟩,
   ⟨r0, by decide +kernel⟩,
   ⟨ledF 4, 0x80000004, by decide +kernel⟩,
   ⟨ledF 4, 0x80000005, by decide +kernel⟩,
   ⟨ledF 4, 0x80000010, by decide +kernel⟩,
   ⟨ledF 4, 0x80000017, by decide +kernel⟩,
   ⟨ledF 4, 0x80000020, by decide +kernel⟩,
   ⟨ledF 4, 0x80000023, by decide +kernel⟩,
   ⟨ledF 4, 0x8000000F, by decide +kernel⟩,
   ⟨ledF 4, 0x80000018, by decide +kernel⟩,
   ⟨ledF 4, 0x80000024, by decide +kernel⟩⟩

end Sys2Proof.Tests.Ev

namespace Sys2Proof.Tests.Mss
set_option Elab.async false
open Sys2Proof.Machine

def up (s : State := r0) : State := { s with mss := { s.mss with st := 1, loaded := true, smbcfg := 0x80000002 } }
def ms (g : Mss → Mss) (s : State := up) : State := { s with mss := g s.mss }
def mx (g : MssX → MssX) (s : State := up) : State := { s with mssx := g s.mssx }
def mailOf (req : List Byte) (cap : Nat := 500) : Mail := { ring := 2, desc := 0, req := req, addr := 0x4000, cap := cap }
def serveS (m : Mail) (s : State := up) : State := { s with
  mss := { s.mss with mail := [m] }
  hi := { s.hi with sq := s.hi.sq.map fun q => { q with nextId := 1, taken := [{ id := 0, bytes := 0, result := none, mail := true, events := [] }] } } }
def act4 : Forced := { unit := 4, sensor := 0, cause := 1, hw := false, hostWrote := false, clearSince := some 0, lastAt := 0 }
def lrec : LogRec := { seq := 0, code := 0x901, source := 0x10FF, sec := 1, ns := 2, payload := 3, epoch := 4, evseq := 5, posted := false }
def sess (v : Bool) (t : Nat) (n : Nat := 4) (s : State := up) : State := ms (s := s) fun x => { x with sess := some { target := t, len := 10, received := n, data := List.replicate n 7, verified := v } }
def mThr : Mail := mailOf [3,0,0,0, 3, 1,0,0,0, 9,0,0,0, 2,0,0,0]
def mScal : Mail := mailOf [4,0,0,0, 2, 1,0,0,0]
def mSens : Mail := mailOf [0x31,0,0,0, 33, 0x40, 0x8B, 10, 0, 0, 0]
def mXfer (p : Byte) : Mail := mailOf [0x30,0,0,0, 0x40, p, 0x8B, 0, 0]
def mOtp : Mail := mailOf ([0x25,0,0,0] ++ List.replicate 32 9 ++ [0x5A, 0xA5])
def sensX : SmbSens := { idx := 33, addr := 0x40, cmd := 0x8B, fmt := 0, exp := 0, period := 10 }
def smbS : State := mx fun x => { x with smbSens := [sensX] }
def profS (ty : Byte) (r : List Byte) (s : State := up) : State :=
  let p : Profile := { bytes := [ty, 0, BitVec.ofNat 8 r.length, 0] ++ r ++ [0, 0, 0, 0], index := 3, waitDesc := none }
  { s with cln := { s.cln with hostmode := true }, mss := { s.mss with prof := some p } }
def profOf (s : State) : Profile := s.mss.prof.getD { bytes := [], index := 0, waitDesc := none }
def rWrite : List Byte := [0,0,0,0] ++ leBytes 4 0x7010 ++ leBytes 4 0x1416
def rBad : List Byte := [0,0,0,0] ++ leBytes 4 0x8008 ++ leBytes 4 0x80000003
def rData : List Byte := leBytes 4 0x20070010 ++ [1, 2, 3]
def rDesc : List Byte := leBytes 64 77
def sqEq (s : State) : State := { s with hi := { s.hi with sq := s.hi.sq.map fun q => { q with tail := 0 } } }
def upE : State := { up with ev := { r0.ev with mode := .holding } }

/-- The hypotheses of Management can be met, clause by clause. -/
theorem meets_Management :
    (∃ (s : State) (i : Nat) (v : Word), devUp s = true ∧ mssUp s = true ∧ sensKnown i = true ∧ sensReadable s i = true ∧ v ≠ noReading) ∧
    (∃ (s : State) (i : Nat) (a : Forced), devUp s = true ∧ s.mssx.acts[i]? = some a ∧ mssUp s = true ∧ a.clearSince.isSome = true ∧ a.hostWrote = false ∧ 4 ≤ a.unit ∧ a.unit ≤ 6) ∧
    (∃ (s : State) (i : Nat) (a : Forced), devUp s = true ∧ s.mssx.acts[i]? = some a ∧ mssUp s = true ∧ a.clearSince.isSome = true ∧ a.hostWrote = true) ∧
    (∃ (s : State), devUp s = true) ∧
    (∃ (s : State), devUp s = true) ∧
    (∃ (s : State), devUp s = true ∧ mssUp s = true ∧ evAwake s = true) ∧
    (∃ (s : State) (l : LogRec) (r : List LogRec), devUp s = true ∧ s.mssx.logBuf = l :: r ∧ ((s.mssx.logSeq.toNat % 64 ≠ 0 ∨ s.mssx.log.length + 64 ≤ 4096)) ∧ s.mssx.logDropped = 0) ∧
    (∃ (s : State), devUp s = true ∧ s.mss.loaded = true ∧ s.mss.st ≠ 3) ∧
    (∃ (s : State), devUp s = true ∧ s.mss.trial = true ∧ mssUp s = false ∧ bootCounts s = true) ∧
    (∃ (s : State) (v : _), devUp s = true ∧ bitAt v 0 = true) :=
  ⟨⟨up, 3, 5, by decide +kernel⟩,
   ⟨mx (fun x => { x with acts := [act4] }), 0, act4, by decide +kernel⟩,
   ⟨mx (fun x => { x with acts := [{ act4 with hostWrote := true }] }), 0, { act4 with hostWrote := true }, by decide +kernel⟩,
   ⟨onAir r0, by decide +kernel⟩,
   ⟨onAir r0, by decide +kernel⟩,
   ⟨onAir up, by decide +kernel⟩,
   ⟨mx (fun x => { x with logBuf := [lrec, lrec] }), lrec, [lrec], by decide +kernel⟩,
   ⟨up, by decide +kernel⟩,
   ⟨ms (fun x => { x with trial := true, st := 0 }), by decide +kernel⟩,
   ⟨up, 1, by decide +kernel⟩⟩

/-- The hypotheses of Mailbox can be met, clause by clause. -/
theorem meets_Mailbox :
    (∃ (s : State) (m : Mail), devUp s = true ∧ mailLive m s = true ∧ serving 0x01 0 m s = true) ∧
    (∃ (s : State) (m : Mail), devUp s = true ∧ mailLive m s = true ∧ serving 0x02 0 m s = true ∧ 412 ≤ m.cap) ∧
    (∃ (s : State) (m : Mail), let low : Word := BitVec.ofNat 32 (leAt m.req 5 4); let high : Word := BitVec.ofNat 32 (leAt m.req 9 4); let hyst : Word := BitVec.ofNat 32 (leAt m.req 13 4); devUp s = true ∧ mailLive m s = true ∧ serving 0x03 13 m s = true ∧ sensKnown (leAt m.req 4 1) = true ∧ low.toInt < high.toInt ∧ 0 ≤ hyst.toInt ∧ 2 * hyst.toInt < high.toInt - low.toInt) ∧
    (∃ (s : State) (m : Mail), devUp s = true ∧ mailLive m s = true ∧ serving 0x04 5 m s = true ∧ leAt m.req 4 1 ≤ 2) ∧
    (∃ (s : State) (m : Mail), devUp s = true ∧ mailLive m s = true ∧ serving 0x05 0 m s = true ∧ 4 + 8 * units.length ≤ m.cap) ∧
    (∃ (s : State) (m : Mail), devUp s = true ∧ mailLive m s = true ∧ serving 0x06 1 m s = true ∧ units.contains (leAt m.req 4 1) = true) ∧
    (∃ (s : State) (m : Mail), devUp s = true ∧ mailLive m s = true ∧ serving 0x07 0 m s = true) ∧
    (∃ (s : State) (m : Mail), let l := ((s.mssx.log.filter fun l => decide (leAt m.req 4 4 ≤ l.seq.toNat)).take (leAt m.req 8 1)).flatMap logBytes; devUp s = true ∧ mailLive m s = true ∧ serving 0x10 5 m s = true ∧ 1 ≤ leAt m.req 8 1 ∧ leAt m.req 8 1 ≤ 63 ∧ (4 + l.length ≤ m.cap)) :=
  ⟨⟨serveS (mailOf [1,0,0,0]), (mailOf [1,0,0,0]), by decide +kernel⟩,
   ⟨serveS (mailOf [2,0,0,0]), (mailOf [2,0,0,0]), by decide +kernel⟩,
   ⟨serveS mThr, mThr, by decide +kernel⟩,
   ⟨serveS mScal, mScal, by decide +kernel⟩,
   ⟨serveS (mailOf [5,0,0,0]), (mailOf [5,0,0,0]), by decide +kernel⟩,
   ⟨serveS (mailOf [6,0,0,0, 5]), (mailOf [6,0,0,0, 5]), by decide +kernel⟩,
   ⟨serveS (mailOf [7,0,0,0]), (mailOf [7,0,0,0]), by decide +kernel⟩,
   ⟨serveS (mailOf [0x10,0,0,0, 0,0,0,0, 5]) (mx fun x => { x with log := [lrec, lrec] }), (mailOf [0x10,0,0,0, 0,0,0,0, 5]), by decide +kernel⟩⟩

/-- The hypotheses of Updates can be met, clause by clause. -/
theorem meets_Updates :
    (∃ (s : State) (m : Mail), devUp s = true ∧ mailLive m s = true ∧ serving 0x20 5 m s = true ∧ s.mss.sess = none ∧ leAt m.req 4 1 ≤ 1 ∧ updateLenOk (leAt m.req 4 1) (leAt m.req 5 4) = true ∧ bootCounts s = true) ∧
    (∃ (s : State) (m : Mail), devUp s = true ∧ mailLive m s = true ∧ serving 0x20 5 m s = true ∧ s.mss.sess.isSome = true) ∧
    (∃ (s : State) (m : Mail) (x : Session), devUp s = true ∧ mailLive m s = true ∧ serving 0x21 4 m s = true ∧ s.mss.sess = some x ∧ leAt m.req 4 4 = x.received ∧ m.req.drop 8 ≠ [] ∧ x.received + (m.req.drop 8).length ≤ x.len) ∧
    (∃ (s : State) (m : Mail) (x : Session), devUp s = true ∧ mailLive m s = true ∧ serving 0x22 0 m s = true ∧ s.mss.sess = some x ∧ x.received = x.len ∧ bootCounts s = true) ∧
    (∃ (s : State) (m : Mail) (x : Session), devUp s = true ∧ mailLive m s = true ∧ serving 0x22 0 m s = true ∧ s.mss.sess = some x ∧ x.received ≠ x.len) ∧
    (∃ (s : State) (m : Mail) (x : Session), devUp s = true ∧ mailLive m s = true ∧ serving 0x23 0 m s = true ∧ s.mss.sess = some x ∧ x.verified = true ∧ x.target < 2 ∧ bootCounts s = true) ∧
    (∃ (s : State) (m : Mail) (x : Session), devUp s = true ∧ mailLive m s = true ∧ serving 0x23 0 m s = true ∧ s.mss.sess = some x ∧ x.verified = true ∧ 2 ≤ x.target ∧ bootCounts s = true) ∧
    (∃ (s : State) (m : Mail) (x : Session), devUp s = true ∧ mailLive m s = true ∧ serving 0x24 0 m s = true ∧ s.mss.sess = some x) ∧
    (∃ (s : State) (m : Mail), devUp s = true ∧ mailLive m s = true ∧ serving 0x24 0 m s = true ∧ s.mss.sess = none) ∧
    (∃ (s : State) (m : Mail), devUp s = true ∧ mailLive m s = true ∧ serving 0x25 0 m s = true ∧ s.mssx.otpKey = none ∧ leAt m.req 36 1 = 0x5A ∧ leAt m.req 37 1 = 0xA5) ∧
    (∃ (s : State) (m : Mail), devUp s = true ∧ mailLive m s = true ∧ serving 0x25 0 m s = true ∧ s.mssx.otpKey.isSome = true) :=
  ⟨⟨serveS (mailOf [0x20,0,0,0, 0, 0,16,0,0]), (mailOf [0x20,0,0,0, 0, 0,16,0,0]), by decide +kernel⟩,
   ⟨sess true 1 4 (serveS (mailOf [0x20,0,0,0, 0, 0,16,0,0])), (mailOf [0x20,0,0,0, 0, 0,16,0,0]), by decide +kernel⟩,
   ⟨sess true 1 4 (serveS (mailOf [0x21,0,0,0, 4,0,0,0, 9, 9])), (mailOf [0x21,0,0,0, 4,0,0,0, 9, 9]), { target := 1, len := 10, received := 4, data := List.replicate 4 7, verified := true }, by decide +kernel⟩,
   ⟨sess false 1 10 (serveS (mailOf [0x22,0,0,0])), (mailOf [0x22,0,0,0]), { target := 1, len := 10, received := 10, data := List.replicate 10 7, verified := false }, by decide +kernel⟩,
   ⟨sess false 1 9 (serveS (mailOf [0x22,0,0,0])), (mailOf [0x22,0,0,0]), { target := 1, len := 10, received := 9, data := List.replicate 9 7, verified := false }, by decide +kernel⟩,
   ⟨sess true 1 10 (serveS (mailOf [0x23,0,0,0])), (mailOf [0x23,0,0,0]), { target := 1, len := 10, received := 10, data := List.replicate 10 7, verified := true }, by decide +kernel⟩,
   ⟨sess true 3 10 (serveS (mailOf [0x23,0,0,0])), (mailOf [0x23,0,0,0]), { target := 3, len := 10, received := 10, data := List.replicate 10 7, verified := true }, by decide +kernel⟩,
   ⟨sess true 3 10 (serveS (mailOf [0x24,0,0,0])), (mailOf [0x24,0,0,0]), { target := 3, len := 10, received := 10, data := List.replicate 10 7, verified := true }, by decide +kernel⟩,
   ⟨serveS (mailOf [0x24,0,0,0]), (mailOf [0x24,0,0,0]), by decide +kernel⟩,
   ⟨serveS mOtp, mOtp, by decide +kernel⟩,
   ⟨mx (fun x => { x with otpKey := some 5 }) (serveS mOtp), mOtp, by decide +kernel⟩⟩

/-- The hypotheses of Smbus can be met, clause by clause. -/
theorem meets_Smbus :
    (∃ (s : State) (m : Mail) (bs : List Byte), devUp s = true ∧ mailLive m s = true ∧ serving 0x30 5 m s = true ∧ smbEn s = true ∧ smbReads (leAt m.req 5 1) = true ∧ leAt m.req 7 1 = 0 ∧ leAt m.req 8 1 = 0 ∧ 4 + bs.length ≤ m.cap) ∧
    (∃ (s : State) (m : Mail), devUp s = true ∧ mailLive m s = true ∧ serving 0x30 5 m s = true ∧ smbEn s = true ∧ leAt m.req 5 1 ≤ 9 ∧ leAt m.req 8 1 = 0) ∧
    (∃ (s : State) (m : Mail), devUp s = true ∧ mailLive m s = true ∧ serving 0x31 6 m s = true ∧ 32 ≤ leAt m.req 4 1 ∧ leAt m.req 4 1 ≤ 63 ∧ leAt m.req 9 1 = 0) ∧
    (∃ (s : State) (i : Nat) (x : SmbSens) (bs : List Byte), devUp s = true ∧ s.mssx.smbSens.find? (fun x => decide (x.idx = i)) = some x ∧ 32 ≤ i ∧ mssUp s = true ∧ smbEn s = true ∧ 2 ≤ bs.length) ∧
    (∃ (s : State) (i : Nat) (x : SmbSens), devUp s = true ∧ s.mssx.smbSens.find? (fun x => decide (x.idx = i)) = some x ∧ 32 ≤ i ∧ mssUp s = true ∧ smbEn s = true) ∧
    (∃ (s : State) (x : SmbSens) (bs : List Byte), devUp s = true ∧ s.mssx.smbSens = [x] ∧ 32 ≤ x.idx ∧ mssUp s = true ∧ smbEn s = true ∧ inputLevel s 17 = false ∧ 2 ≤ bs.length) ∧
    (∃ (s : State), devUp s = true ∧ mssUp s = true ∧ smbEn s = true ∧ bitAt s.mss.smbcfg 1 = true ∧ s.ev.mode = .holding) :=
  ⟨⟨serveS (mXfer 6), (mXfer 6), [1, 2], by decide +kernel⟩,
   ⟨serveS (mXfer 6), (mXfer 6), by decide +kernel⟩,
   ⟨serveS mSens, mSens, by decide +kernel⟩,
   ⟨smbS, 33, sensX, [1, 2], by decide +kernel⟩,
   ⟨smbS, 33, sensX, by decide +kernel⟩,
   ⟨{ smbS with pmx := { r0.pmx with pin := vupd r0.pmx.pin 5 fun _ => 7 } }, sensX, [1, 2], by decide +kernel⟩,
   ⟨upE, by decide +kernel⟩⟩

/-- The hypotheses of Profiles can be met, clause by clause. -/
theorem meets_Profiles :
    (∃ (s : State), devUp s = true ∧ s.cln.hostmode = true ∧ mssUp s = true ∧ s.mss.prof = none) ∧
    (∃ (s : State) (b : Bool) (off : BitVec 16) (v : _) (r : List Byte) (p : Profile), devUp s = true ∧ profileRecord 1 s = some r ∧ s.mss.prof = some p ∧ decide (leAt r 0 1 = 2) = b ∧ leAt r 4 4 = off.toNat ∧ leAt r 8 4 = v.toNat ∧ baltonRefused b off.toNat v s = false) ∧
    (∃ (s : State) (b : Bool) (off : BitVec 16) (v : _) (r : List Byte), devUp s = true ∧ profileRecord 1 s = some r ∧ decide (leAt r 0 1 = 2) = b ∧ leAt r 4 4 = off.toNat ∧ leAt r 8 4 = v.toNat ∧ baltonRefused b off.toNat v s = true) ∧
    (∃ (s : State) (a : Word) (bs : List Byte) (r : List Byte) (p : Profile), devUp s = true ∧ profileRecord 2 s = some r ∧ s.mss.prof = some p ∧ leAt r 0 4 = a.toNat ∧ r.drop 4 = bs ∧ regionOk s a.toNat bs.length = true) ∧
    (∃ (s : State) (d : DescBytes) (r : List Byte) (p : Profile), devUp s = true ∧ profileRecord 3 s = some r ∧ s.mss.prof = some p ∧ leAt r 0 64 = d.toNat ∧ (sqAt s 0).st = .running ∧ (sqAt s 0).tail = (sqAt s 0).read ∧ (sqAt s 0).read < ringSize (sqAt s 0).cfg ∧ fld (sqAt s 0).cfg 0 5 ≤ 16 ∧ (sqAt s 0).taken.length + 1 < ringSize (sqAt s 0).cfg) ∧
    (∃ (s : State) (r : List Byte) (p : Profile), devUp s = true ∧ profileRecord 4 s = some r ∧ s.mss.prof = some p ∧ s.cln.confirmed = true) ∧
    (∃ (s : State) (r : List Byte) (p : Profile), devUp s = true ∧ profileRecord 4 s = some r ∧ s.mss.prof = some p ∧ s.cln.confirmed = false ∧ strapsValid s = true ∧ s.life.mssReadySeen = true) ∧
    (∃ (s : State) (r : List Byte) (p : Profile), devUp s = true ∧ profileRecord 0 s = some r ∧ s.mss.prof = some p) :=
  ⟨⟨{ up with cln := { r0.cln with hostmode := true } }, by decide +kernel⟩,
   ⟨profS 1 rWrite, false, 0x7010, 0x1416, rWrite, (profOf (profS 1 rWrite)), by decide +kernel⟩,
   ⟨profS 1 rBad, false, 0x8008, 0x80000003, rBad, by decide +kernel⟩,
   ⟨profS 2 rData, 0x20070010, [1, 2, 3], rData, (profOf (profS 2 rData)), by decide +kernel⟩,
   ⟨profS 3 rDesc (sqEq (ringCh up)), 77, rDesc, (profOf (profS 3 rDesc)), by decide +kernel⟩,
   ⟨{ profS 4 [0,0,0,0] with cln := { r0.cln with hostmode := true, confirmed := true } }, [0,0,0,0], (profOf (profS 4 [0,0,0,0])), by decide +kernel⟩,
   ⟨{ profS 4 [0,0,0,0] with cln := { r0.cln with hostmode := true, confirmed := false, role := true }, life := { r0.life with mssReadySeen := true } }, [0,0,0,0], (profOf (profS 4 [0,0,0,0])), by decide +kernel⟩,
   ⟨profS 0 [], [], (profOf (profS 0 [])), by decide +kernel⟩⟩

end Sys2Proof.Tests.Mss
end

section
/-! Writes of MPT_PRIO, NOMINAL and QR_PART that are ignored (01 R52, 02 R96). -/
namespace Sys2Proof.Machine

/-! ### A write completes whether or not the core runs -/

/-- What holds of a command's effect, and of the state left alone while the core is held in reset, holds of its completion. -/
theorem completes_run_or_held {c : Instr} {s : State} {f : State → State} {P : State → Prop} (e : exec c s = run s f)
    (up : P { f s with pending := s.pending }) (held : P s) : Completes c s P := by
  cases h : devUp s with
  | true => exact completes_run e h up
  | false => exact ⟨s, e.trans (run_held f h), held⟩

/-- The state an access by an agent acts on: the agent that plays host wakes the device first (20 R621). -/
def wakenBy (a : Agent) (s : State) : State := if a = hostAgent s then wakeBy 2 s else s

@[simp] theorem wakenBy_mpt (a : Agent) (s : State) : (wakenBy a s).mpt = s.mpt := by
  unfold wakenBy; split <;> simp

@[simp] theorem wakenBy_qr (a : Agent) (s : State) : (wakenBy a s).qr = s.qr := by
  unfold wakenBy; split <;> simp

/-- A register write completes with what the write of the register it reaches does after the wake. -/
theorem completes_registerWrite {a : Agent} {bar2 : Bool} {off : BitVec 16} {be : BitVec 4} {v : Word} {s : State}
    {w : State → State} {P : State → Prop} (reaches : ∀ u, writeReg a bar2 off.toNat be v u = w u)
    (up : P { w (wakenBy a s) with pending := s.pending }) (held : P s) : Completes (.registerWrite a bar2 off be v) s P :=
  completes_run_or_held (f := fun u => writeReg a bar2 off.toNat be v (wakenBy a u)) rfl (reaches (wakenBy a s) ▸ up) held

theorem completes_qrRun {v : Word} {s : State} {P : State → Prop}
    (up : P { qrCtrlWrite (v ||| 1) (wakeBy 2 s) with pending := s.pending }) (held : P s) : Completes (.qrRun v) s P :=
  completes_run_or_held (f := fun u => qrCtrlWrite (v ||| 1) (wakeBy 2 u)) rfl up held

theorem completes_qrStopRequest {v : Word} {s : State} {P : State → Prop}
    (up : P { qrCtrlWrite (v &&& 0xFFFFFFFE) (wakeBy 2 s) with pending := s.pending }) (held : P s) :
    Completes (.qrStopRequest v) s P :=
  completes_run_or_held (f := fun u => qrCtrlWrite (v &&& 0xFFFFFFFE) (wakeBy 2 u)) rfl up held

/-! ### The registers the offsets reach (23) -/

/-- A whole write of an aligned offset that is no _LO register reaches its block of BAR0. -/
theorem writeReg_bar0 (a : Agent) {off : Nat} (v : Word) (s : State) (aligned : off % 4 = 0) (single : isLoRw false off = false) :
    writeReg a false off 0xF v s = wrBar0 a off v s := by
  simp [writeReg, aligned, single]

theorem wrBar0_mpt (a : Agent) {off : Nat} (v : Word) (s : State) (lo : 0x2000 ≤ off) (hi : off < 0x2400) :
    wrBar0 a off v s = wrMpt (off - 0x2000) v s := by
  unfold wrBar0
  rw [if_neg (by omega), if_neg (by omega), if_neg (by omega), if_neg (by omega), if_pos hi]

theorem wrBar0_qr (a : Agent) {off : Nat} (v : Word) (s : State) (lo : 0x2400 ≤ off) (hi : off < 0x2800) :
    wrBar0 a off v s = wrQr (off - 0x2400) v s := by
  unfold wrBar0
  rw [if_neg (by omega), if_neg (by omega), if_neg (by omega), if_neg (by omega), if_neg (by omega), if_pos hi]

theorem writeReg_mptPrio (a : Agent) (v : Word) (s : State) : writeReg a false 0x2090 0xF v s = mptPrioWrite v s :=
  (writeReg_bar0 a v s rfl (by decide)).trans (wrBar0_mpt a v s (by decide) (by decide))

theorem writeReg_qrCtrl (a : Agent) (v : Word) (s : State) : writeReg a false 0x2400 0xF v s = qrCtrlWrite v s :=
  (writeReg_bar0 a v s rfl (by decide)).trans (wrBar0_qr a v s (by decide) (by decide))

theorem writeReg_qrPart (a : Agent) (v : Word) (s : State) : writeReg a false 0x2440 0xF v s = qrPartWrite v s :=
  (writeReg_bar0 a v s rfl (by decide)).trans (wrBar0_qr a v s (by decide) (by decide))

/-! ### The writes that are ignored -/

/-- 01 R52. -/
theorem mptPrioWrite_ignored {v : Word} (s : State)
    (h : fld v 0 2 = fld v 2 2 ∨ fld v 2 2 = fld v 4 2 ∨ fld v 0 2 = fld v 4 2 ∨ fld v 0 2 = 3 ∨ fld v 2 2 = 3 ∨ fld v 4 2 = 3) :
    mptPrioWrite v s = s := if_pos h

/-- A write of QR_CTRL sets NOMINAL only while RUN was 0 (02 R96): what it does to the scheduler's state leaves NOMINAL. -/
theorem qrCtrlWrite_nominal (v : Word) (s : State) :
    (qrCtrlWrite v s).qr.nominal = if s.qr.run then s.qr.nominal else bitAt v 1 := by
  unfold qrCtrlWrite
  extract_lets was on set
  split
  · rfl
  · split
    · split <;> rfl
    · rfl

/-- 02 R96 for NOMINAL, the write coming after a wake. -/
theorem qrCtrlWrite_nominal_of_run (v : Word) {s u : State} (e : u.qr = s.qr) (h : s.qr.run = true) :
    (qrCtrlWrite v u).qr.nominal = s.qr.nominal := by
  rw [qrCtrlWrite_nominal, e, if_pos h]

/-- 02 R96 for QR_PART. -/
theorem qrPartWrite_of_run (v : Word) {s : State} (h : s.qr.run = true) : qrPartWrite v s = s := if_pos h

end Sys2Proof.Machine

open Sys2Proof.Machine

/-- Settles O8: each write reaches its register, where the rule's guard leaves the named fields, and the wake that an access by
the host brings touches neither MPT nor QR. -/
theorem ignoredWrites : Obligations.IgnoredWrites := by
  intro s a v
  refine ⟨fun bad => ?prio, fun running => ?ctrl, fun running => ?part, fun running => ?run, fun running => ?stop⟩
  case prio =>
    have ignored := mptPrioWrite_ignored (wakenBy a s) bad
    exact completes_registerWrite (writeReg_mptPrio a v) (by simp [ignored]) rfl
  case ctrl =>
    exact completes_registerWrite (writeReg_qrCtrl a v) (qrCtrlWrite_nominal_of_run v (wakenBy_qr a s) running) rfl
  case part =>
    have ignored : qrPartWrite v (wakenBy a s) = wakenBy a s := qrPartWrite_of_run v (by simpa using running)
    exact completes_registerWrite (writeReg_qrPart a v) (by simp [ignored]) ⟨rfl, rfl⟩
  case run => exact completes_qrRun (qrCtrlWrite_nominal_of_run _ (wakeBy_qr 2 s) running) rfl
  case stop => exact completes_qrStopRequest (qrCtrlWrite_nominal_of_run _ (wakeBy_qr 2 s) running) rfl

end

section
/-! A descriptor that a ring takes (15 R487, R493, R495): where it stands in the ring, what its work ends with, and RG_FLAG
(11 R392). -/
namespace Sys2Proof.Machine

/-! ### The rings of submitted descriptors -/

@[simp] theorem sqAt_updSq (r : Fin 16) (f : Sq → Sq) (s : State) : sqAt (updSq r.val f s) r.val = f (sqAt s r.val) := by
  simp [sqAt, updSq]

@[simp] theorem sqAt_issue (cls inst n : Nat) (s : State) (r : Nat) : sqAt (issue cls inst n s) r = sqAt s r := by
  simp only [sqAt, issue_hi]

theorem takenAt_updChX (c : Fin 8) (f : RgX → RgX) (s : State) (r id : Nat) :
    takenAt (updChX c f s) r id = takenAt s r id := rfl

/-- What a change of one channel's state makes of the generators follows from the generators alone. -/
theorem updChX_rg_congr (c : Fin 8) (f : RgX → RgX) {s t : State} (e : t.rg = s.rg) : (updChX c f t).rg = (updChX c f s).rg := by
  simp only [updChX, e]

/-! ### A descriptor is taken (15 R487) -/

/-- The entry a descriptor gets when it is taken: its work has no result yet. -/
def Taken.started (id : Nat) (d : DescBytes) : Taken := { id := id, bytes := d, result := none, mail := false, events := [] }

@[simp] theorem takeDesc_id (r : Fin 16) (d : DescBytes) (s : State) : (takeDesc r.val d s).1 = newId r s := by
  simp only [takeDesc, newId]

@[simp] theorem takeDesc_rg (r : Nat) (d : DescBytes) (s : State) : (takeDesc r d s).2.rg = s.rg := by
  simp [takeDesc]

@[simp] theorem takeDesc_cln (r : Nat) (d : DescBytes) (s : State) : (takeDesc r d s).2.cln = s.cln := by
  simp [takeDesc]

theorem sqAt_takeDesc (r : Fin 16) (d : DescBytes) (s : State) :
    sqAt (takeDesc r.val d s).2 r.val = { sqAt s r.val with
      read := ((sqAt s r.val).read + 1) % ringSize (sqAt s r.val).cfg
      taken := (sqAt s r.val).taken ++ [Taken.started (newId r s) d]
      nextId := newId r s + 1 } := by
  simp only [takeDesc, sqAt_issue]
  exact sqAt_updSq r _ s

/-- The descriptor just taken stands under its number, which no earlier one of its ring has. -/
theorem takenAt_takeDesc {r : Fin 16} (d : DescBytes) {s : State} (fresh : idFresh r s = true) :
    takenAt (takeDesc r.val d s).2 r.val (newId r s) = some (Taken.started (newId r s) d) := by
  have earlier : (sqAt s r.val).taken.find? (fun k => decide (k.id = newId r s)) = none :=
    List.find?_eq_none.2 fun k hk => by
      have other : k.id ≠ newId r s := of_decide_eq_true (List.all_eq_true.1 fresh k hk)
      simpa using other
  simp [takenAt, sqAt_takeDesc, List.find?_append, earlier, Taken.started]

/-! ### The common checks (15 R493) -/

/-- The common checks read the role and the configuration of the ring alone. -/
theorem descCheck_congr {r : Nat} (d : DescBytes) {s t : State} (cln : t.cln = s.cln) (cfg : (sqAt t r).cfg = (sqAt s r).cfg) :
    descCheck r d t = descCheck r d s := by
  simp only [descCheck, cln, cfg]

theorem descCheck_takeDesc (r : Fin 16) (d : DescBytes) (s : State) :
    descCheck r.val d (takeDesc r.val d s).2 = descCheck r.val d s :=
  descCheck_congr d (takeDesc_cln ..) (by rw [sqAt_takeDesc])

theorem idFresh_of_accepts {r : Fin 16} {d : DescBytes} {op : Nat} {s : State} (h : accepts r d op s = true) :
    idFresh r s = true := by
  simp only [accepts, Bool.and_eq_true] at h
  exact h.2

/-- A command that takes a descriptor of its opcode goes straight to the opcode's work when the ring accepts it. -/
theorem descRow_of_accepts {ok : Nat → Bool} {r : Fin 16} {d : DescBytes} {op : Nat} {s : State} (body : Nat → State → State)
    (known : ok op = true) (h : accepts r d op s = true) :
    descRow ok r d body s = body (newId r s) (takeDesc r.val d s).2 := by
  simp only [accepts, Bool.and_eq_true, decide_eq_true_eq, Option.isNone_iff_eq_none] at h
  obtain ⟨⟨⟨⟨served, fence⟩, opcode⟩, passes⟩, -⟩ := h
  simp [descRow, descRowPre, served, fence, opcode, known, descCheck_takeDesc, passes]

/-- The command completes with what holds of the opcode's work on the descriptor just taken. -/
theorem completes_descRow {c : Instr} {ok : Nat → Bool} {r : Fin 16} {d : DescBytes} {op : Nat} {s : State}
    {body : Nat → State → State} {P : State → Prop} (e : exec c s = run s (descRow ok r d body)) (up : devUp s = true)
    (known : ok op = true) (h : accepts r d op s = true)
    (p : P { body (newId r s) (takeDesc r.val d s).2 with pending := s.pending }) : Completes c s P :=
  completes_run e up (descRow_of_accepts body known h ▸ p)

/-! ### The work of a descriptor ends (15 R495) -/

/-- What the end of a descriptor's work makes of any entry of its ring: the one of that number has the result, unless it had
one before. -/
def Taken.finishedAs (id : Nat) (res : Result) (k : Taken) : Taken :=
  if k.id = id ∧ k.result.isNone then { k with result := some res } else k

theorem Taken.finishedAs_id (id : Nat) (res : Result) (k : Taken) : (k.finishedAs id res).id = k.id := by
  unfold Taken.finishedAs; split <;> rfl

theorem sqAt_finish (r : Fin 16) (id : Nat) (res : Result) (s : State) :
    sqAt (finish r.val id res s) r.val =
      { sqAt s r.val with taken := (sqAt s r.val).taken.map (Taken.finishedAs id res) } := sqAt_updSq r _ s

theorem takenAt_finish (r : Fin 16) (id : Nat) (res : Result) (s : State) :
    takenAt (finish r.val id res s) r.val id = (takenAt s r.val id).map (Taken.finishedAs id res) := by
  have sameIds : (fun k : Taken => decide (k.id = id)) ∘ Taken.finishedAs id res = fun k => decide (k.id = id) := by
    funext k
    simp only [Function.comp_apply, Taken.finishedAs_id]
  rw [takenAt, sqAt_finish, List.find?_map, sameIds, takenAt]

theorem resultAt_pending (q : List Instr) (s : State) (r : Fin 16) (id : Nat) :
    resultAt { s with pending := q } r id = resultAt s r id := rfl

/-- A descriptor whose work has no result yet ends with the one given. -/
theorem resultAt_finish {r : Fin 16} {id : Nat} {k : Taken} (res : Result) {s : State} (found : takenAt s r.val id = some k)
    (running : k.result = none) : resultAt (finish r.val id res s) r id = some res := by
  have here : k.id = id := by simpa using List.find?_some found
  simp [resultAt, takenAt_finish, found, Taken.finishedAs, here, running]

end Sys2Proof.Machine

open Sys2Proof.Machine

/-- Settles O36: the accepted descriptor goes straight to the work of RG_FLAG, which sets the flag and ends it OK; taking it
leaves the generators as they were. -/
theorem flagDescriptor : Obligations.FlagDescriptor := by
  intro s r d up accepted
  refine completes_descRow rfl up rfl accepted ⟨?flag, ?result⟩
  case flag => exact updChX_rg_congr _ _ (takeDesc_rg r.val d s)
  case result =>
    have started := takenAt_takeDesc d (idFresh_of_accepts accepted)
    exact (resultAt_pending ..).trans <| resultAt_finish (resOk 0) ((takenAt_updChX ..).trans started) rfl

end

section
/-! The check-value unit (14): what each of its commands does to the channel it names, by the owner of the channel and the
fields of the written value. -/
namespace Sys2Proof.Machine

/-! ### A channel after a write -/

theorem cvAt_updCv (c : Fin 8) (g : CvCh → CvCh) (s : State) : cvAt (updCv c.val g s) c.val = g (cvAt s c.val) := by
  simp [cvAt, updCv]

/-- A channel is a part of the unit: what leaves the unit leaves the channel. -/
theorem cvAt_congr {s t : State} (e : t.cv = s.cv) (c : Nat) : cvAt t c = cvAt s c := by
  simp only [cvAt, e]

theorem cvRead_congr {s t : State} (e : t.cv = s.cv) (c : Nat) (r : CvRead) : cvRead t c r = cvRead s c r := by
  cases r <;> simp only [cvRead, cvAt_congr e]

/-! ### CVn_CFG (R459, R462 to R464) -/

/-- The agent that plays host owns channels 4 to 7 (R458). -/
theorem cvOwned_host (c : Nat) : cvOwned c false = decide (4 ≤ c) := by
  simp [cvOwned]

theorem cvCfg_notOwner {c : Nat} (v : Word) (s : State) (other : c < 4) : cvCfg c false v s = cvRefuse c 1 s := by
  simp [cvCfg, cvOwned_host, other]

theorem cvCfg_badWidth {c : Nat} {v : Word} (s : State) (own : 4 ≤ c) (plain : fld v 16 4 = 0)
    (bad : fld v 0 6 = 0 ∨ 32 < fld v 0 6) : cvCfg c false v s = cvRefuse c 2 s := by
  simp [cvCfg, cvOwned_host, own, plain, bad]

theorem cvCfg_badPreset {c : Nat} {v : Word} (s : State) (own : 4 ≤ c) (bad : 8 < fld v 16 4) (pos : 0 < fld v 0 6)
    (fits : fld v 0 6 ≤ 32) : cvCfg c false v s = cvRefuse c 3 s := by
  have width : ¬ (fld v 0 6 = 0 ∨ 32 < fld v 0 6) := by omega
  simp [cvCfg, cvOwned_host, own, bad, width]

/-- A configuration without a preset: the parameters are masked to the new width, and the channel is reloaded. -/
theorem cvCfg_plain {c : Nat} {v : Word} (s : State) (own : 4 ≤ c) (plain : fld v 16 4 = 0) (pos : fld v 0 6 ≠ 0)
    (fits : fld v 0 6 ≤ 32) :
    cvCfg c false v s = updCv c (fun k => cvReload { k with
      cfg := v &&& 0x33F
      poly := cvMask (fld v 0 6) k.poly
      init := cvMask (fld v 0 6) k.init
      xorout := cvMask (fld v 0 6) k.xorout }) s := by
  have width : ¬ (fld v 0 6 = 0 ∨ 32 < fld v 0 6) := by omega
  simp [cvCfg, cvOwned_host, own, plain, width]

/-- A channel configured by row p of Table 14.1. -/
def cvOfPreset (p : Nat) : CvCh :=
  let (w, poly, init, refl, xo) := cvPreset p
  { cfg := at32 p 16 ||| at32 (3 * ofBool refl) 8 ||| at32 w 0, poly := poly, init := init, xorout := xo, state := init, count := 0 }

theorem cvCfg_preset {c : Nat} {v : Word} (s : State) (own : 4 ≤ c) (low : 0 < fld v 16 4) (high : fld v 16 4 ≤ 8) :
    cvCfg c false v s = updCv c (fun _ => cvOfPreset (fld v 16 4)) s := by
  have preset : ¬ (fld v 16 4 = 0 ∨ 8 < fld v 16 4) := by omega
  simp [cvCfg, cvOwned_host, own, preset, cvOfPreset, cvReload]

/-- CRC-32C. -/
theorem cvOfPreset_two : cvOfPreset 2 =
    { cfg := 0x20320, poly := 0x1EDC6F41, init := 0xFFFFFFFF, xorout := 0xFFFFFFFF, state := 0xFFFFFFFF, count := 0 } := by
  decide

/-! ### CVn_INIT (R463, R464) -/

theorem cvParam_init {c : Nat} (v : Word) (s : State) (own : 4 ≤ c) :
    cvParam c false .init v s = updCv c (fun k => { k with
      cfg := k.cfg &&& 0xFFFF
      init := cvMask (cvWidth k) v
      state := cvMask (cvWidth k) v
      count := 0 }) s := by
  simp [cvParam, cvOwned_host, own, cvReload]

/-! ### The data window (R465), its bytes processed within the command (log entry 13) -/

theorem enabledBytes_all (v : Word) : enabledBytes 0xF v =
    [BitVec.ofNat 8 (fld v 0 8), BitVec.ofNat 8 (fld v 8 8), BitVec.ofNat 8 (fld v 16 8), BitVec.ofNat 8 (fld v 24 8)] := rfl

theorem enabledBytes_third (v : Word) : enabledBytes 0x4 v = [BitVec.ofNat 8 (fld v 16 8)] := rfl

theorem cvData_owned {c : Nat} (be : BitVec 4) (v : Word) (s : State) (own : 4 ≤ c) :
    cvData c be v s = updCv c (fun k => (enabledBytes be v).foldl (fun k b => cvFeed b k) k) s := if_pos own

theorem cvData_allLanes {c : Nat} (v : Word) (s : State) (own : 4 ≤ c) :
    cvData c 0xF v s = updCv c (fun k => cvFeed (BitVec.ofNat 8 (fld v 24 8)) (cvFeed (BitVec.ofNat 8 (fld v 16 8))
      (cvFeed (BitVec.ofNat 8 (fld v 8 8)) (cvFeed (BitVec.ofNat 8 (fld v 0 8)) k)))) s := by
  simp only [cvData_owned _ _ _ own, enabledBytes_all, List.foldl_cons, List.foldl_nil]

theorem cvData_thirdLane {c : Nat} (v : Word) (s : State) (own : 4 ≤ c) :
    cvData c 0x4 v s = updCv c (cvFeed (BitVec.ofNat 8 (fld v 16 8))) s := by
  simp only [cvData_owned _ _ _ own, enabledBytes_third, List.foldl_cons, List.foldl_nil]

theorem cvData_noWindow {c : Nat} (be : BitVec 4) (v : Word) (s : State) (other : c < 4) : cvData c be v s = s :=
  if_neg (Nat.not_le.2 other)

/-! ### CVn_CTL and CVn_STATE (R470, R471) -/

theorem cvCtl_restart {c : Nat} {v : Word} (s : State) (own : 4 ≤ c) (restart : bitAt v 0 = true) :
    cvCtl c v s = updCv c cvReload s := if_pos ⟨own, restart⟩

theorem cvCtl_noWindow {c : Nat} (v : Word) (s : State) (other : c < 4) : cvCtl c v s = s :=
  if_neg fun h => Nat.not_le.2 other h.1

theorem cvStateSet_owned {c : Nat} (v : Word) (s : State) (own : 4 ≤ c) :
    cvStateSet c v s = updCv c (fun k => { k with state := cvMask (cvWidth k) v }) s := if_pos own

theorem cvStateSet_noWindow {c : Nat} (v : Word) (s : State) (other : c < 4) : cvStateSet c v s = s :=
  if_neg (Nat.not_le.2 other)

/-! ### How a command of the unit completes

The wake that the host's access brings leaves the unit, so each of these speaks of the unit before the command. -/

section
variable {i : Instr} {f : State → State} {s : State} (e : exec i s = runHost s f) (up : devUp s = true)
include e up

theorem completes_cvRefuse {c cause : Nat} (does : ∀ u, f u = cvRefuse c cause u) :
    Completes i s fun t => t.cv = { s.cv with refused := true, cause := BitVec.ofNat 3 cause, chn := BitVec.ofNat 3 c } :=
  completes_runHost e up (by simp [does, cvRefuse])

theorem completes_cvIgnored (does : ∀ u, f u = u) : Completes i s fun t => t.cv = s.cv :=
  completes_runHost e up (by simp [does])

theorem completes_cvChannels {c : Nat} {g : CvCh → CvCh} (does : ∀ u, f u = updCv c g u) :
    Completes i s fun t => t.cv.ch = vupd s.cv.ch c g :=
  completes_runHost e up (by simp [does, updCv])

theorem completes_cvChannel {c : Fin 8} {g : CvCh → CvCh} {P : CvCh → Prop} (does : ∀ u, f u = updCv c.val g u)
    (p : P (g (cvAt s c.val))) : Completes i s fun t => P (cvAt t c.val) :=
  completes_runHost e up <| by
    have channel : cvAt (f (wakeBy 2 s)) c.val = g (cvAt s c.val) := by
      rw [does, cvAt_updCv, cvAt_congr (wakeBy_cv 2 s)]
    exact channel ▸ p

end

/-- A read answers with the channel as it stood and changes nothing of the unit (R469). -/
theorem completes_cvResultRead {s : State} (c : Fin 8) (r : CvRead) (up : devUp s = true) :
    Completes (.cvResultRead c r) s fun t => t.answer = some (cvRead s c.val r) ∧ t.cv = s.cv :=
  completes_runHost (f := fun u => { u with answer := some (cvRead u c.val r) }) rfl up
    ⟨congrArg some (cvRead_congr (wakeBy_cv 2 s) c.val r), wakeBy_cv 2 s⟩

end Sys2Proof.Machine

open Sys2Proof.Machine

/-- Settles O41: each command comes down to one of a refusal, a write that is ignored, a change of the channel named, or a
read; which of them is decided by the channel's owner and the fields of the value written. -/
theorem checkValues : Obligations.CheckValues := by
  intro s c v up
  refine ⟨fun own plain bad => ?badWidth, fun own bad pos fits => ?badPreset, fun other => ?notOwner,
    fun own plain pos fits => ?plain, fun own two => ?preset, fun own => ?init, fun own => ?allLanes, fun own => ?oneLane,
    fun other be => ?noData, fun own restart => ?restart, fun other => ?noRestart, fun other => ?noState, fun own => ?state,
    completes_cvResultRead c .result up, completes_cvResultRead c .state up, completes_cvResultRead c .count up⟩
  case badWidth => exact completes_cvRefuse rfl up fun u => cvCfg_badWidth u own plain bad
  case badPreset => exact completes_cvRefuse rfl up fun u => cvCfg_badPreset u own bad pos fits
  case notOwner => exact completes_cvRefuse rfl up fun u => cvCfg_notOwner v u other
  case plain => exact completes_cvChannels rfl up fun u => cvCfg_plain u own plain pos fits
  case preset =>
    refine completes_cvChannel rfl up (P := fun k => k = _) (fun u => cvCfg_preset u own (by omega) (by omega)) ?_
    rw [two, cvOfPreset_two]
  case init => exact completes_cvChannels rfl up fun u => cvParam_init v u own
  case allLanes => exact completes_cvChannels rfl up fun u => cvData_allLanes v u own
  case oneLane =>
    exact completes_cvChannel rfl up (P := fun k => k.count = inc32 (cvAt s c.val).count ∧ k.state = _)
      (fun u => cvData_thirdLane v u own) ⟨rfl, rfl⟩
  case noData => exact completes_cvIgnored rfl up fun u => cvData_noWindow be v u other
  case restart => exact completes_cvChannels rfl up fun u => cvCtl_restart u own restart
  case noRestart => exact completes_cvIgnored rfl up fun u => cvCtl_noWindow v u other
  case noState => exact completes_cvIgnored rfl up fun u => cvStateSet_noWindow v u other
  case state => exact completes_cvChannels rfl up fun u => cvStateSet_owned v u own

end

section
/-! The confirmation of the role (21 R643, R644): the frame of every command, and the commands whose frame names the straps
with the confirmation. Each of these leaves CONFIRMED at 1, but for a cold start. -/
namespace Sys2Proof.Machine

/-! ### The frame of every command -/

/-- A command changes no component that mayChange does not name for it, and keeps what is sound. -/
theorem exec_keeps {c : Instr} {s t : State} (h : exec c s = .next t) : Keeps (mayChange c) s t := by
  cases c with
  | coldStart st env => exact execColdStart_keeps st env s h
  | recoveryImageReceive img => exact execRecoveryImageReceive_keeps img s h
  | hiConfirm v => exact execHiConfirm_keeps v s h
  | zcEdge n => exact execZcEdge_keeps n s h
  | phaseAngleWrap n m => exact execPhaseAngleWrap_keeps n m s h
  | mptLocked n => exact execMptLocked_keeps n s h
  | mptFlywheel n => exact execMptFlywheel_keeps n s h
  | acquireAbandon n => exact execAcquireAbandon_keeps n s h
  | mptFreqRange n freq => exact execMptFreqRange_keeps n freq s h
  | mptLost n => exact execMptLost_keeps n s h
  | lockRegain n angle => exact execLockRegain_keeps n angle s h
  | biasClr v => exact execBiasClr_keeps v s h
  | refModeChange v => exact execRefModeChange_keeps v s h
  | phaseDisable v => exact execPhaseDisable_keeps v s h
  | mptSnapCapture v => exact execMptSnapCapture_keeps v s h
  | qrRun v => exact execQrRun_keeps v s h
  | qrStopRequest v => exact execQrStopRequest_keeps v s h
  | ltCommitApply copy => exact execLtCommitApply_keeps copy s h
  | mapDataWrite r v => exact execMapDataWrite_keeps r v s h
  | mapSwapRequest v => exact execMapSwapRequest_keeps v s h
  | qrPartWrite n v => exact execQrPartWrite_keeps n v s h
  | airCtrlWrite v => exact execAirCtrlWrite_keeps v s h
  | airBudgetWrite r b v => exact execAirBudgetWrite_keeps r b v s h
  | frameCommit id => exact execFrameCommit_keeps id s h
  | frameDeadlineExpiry id => exact execFrameDeadlineExpiry_keeps id s h
  | cbandBusyDetect p => exact execCbandBusyDetect_keeps p s h
  | cbandAccessDelayEnd p => exact execCbandAccessDelayEnd_keeps p s h
  | cbandRunEnd p => exact execCbandRunEnd_keeps p s h
  | frameTxStart id => exact execFrameTxStart_keeps id s h
  | frameTxEnd id => exact execFrameTxEnd_keeps id s h
  | ldEnRaise p => exact execLdEnRaise_keeps p s h
  | ldEnFall p => exact execLdEnFall_keeps p s h
  | rxUnblank p => exact execRxUnblank_keeps p s h
  | ackSend p => exact execAckSend_keeps p s h
  | rxSaturation p => exact execRxSaturation_keeps p s h
  | txClip p count => exact execTxClip_keeps p count s h
  | driverFault p byCurrent => exact execDriverFault_keeps p byCurrent s h
  | faultAutoRetry p => exact execFaultAutoRetry_keeps p s h
  | faultClr p v => exact execFaultClr_keeps p v s h
  | portDisable p v => exact execPortDisable_keeps p v s h
  | portOff p => exact execPortOff_keeps p s h
  | portEnable p v => exact execPortEnable_keeps p v s h
  | portUp p => exact execPortUp_keeps p s h
  | firCoeffWrite v => exact execFirCoeffWrite_keeps v s h
  | firSelWrite p v => exact execFirSelWrite_keeps p v s h
  | firBankSwap p => exact execFirBankSwap_keeps p s h
  | notchWrite p ix v => exact execNotchWrite_keeps p ix v s h
  | txLevelWrite p r v => exact execTxLevelWrite_keeps p r v s h
  | afeLock v => exact execAfeLock_keeps v s h
  | frameDiscard f => exact execFrameDiscard_keeps f s h
  | beaconReceive f => exact execBeaconReceive_keeps f s h
  | rolemapReceive f => exact execRolemapReceive_keeps f s h
  | dataReceive f => exact execDataReceive_keeps f s h
  | ackReceive f => exact execAckReceive_keeps f s h
  | joinReqReceive f => exact execJoinReqReceive_keeps f s h
  | joinRespReceive f => exact execJoinRespReceive_keeps f s h
  | rangeReqReceive f => exact execRangeReqReceive_keeps f s h
  | rangeRespReceive f => exact execRangeRespReceive_keeps f s h
  | rangeResultReceive f => exact execRangeResultReceive_keeps f s h
  | wakeReceive f => exact execWakeReceive_keeps f s h
  | remoteReceive f => exact execRemoteReceive_keeps f s h
  | remoteRespReceive f => exact execRemoteRespReceive_keeps f s h
  | relayFrameReceive f => exact execRelayFrameReceive_keeps f s h
  | relayForward id => exact execRelayForward_keeps id s h
  | hcPairDecode f => exact execHcPairDecode_keeps f s h
  | responseTimeout id => exact execResponseTimeout_keeps id s h
  | ltRead copy v => exact execLtRead_keeps copy v s h
  | ltCommit copy v => exact execLtCommit_keeps copy v s h
  | tipinStart v => exact execTipinStart_keeps v s h
  | tipinTimeout leaf => exact execTipinTimeout_keeps leaf s h
  | entrySilent leaf => exact execEntrySilent_keeps leaf s h
  | entryGone leaf => exact execEntryGone_keeps leaf s h
  | listenWindowOpen k => exact execListenWindowOpen_keeps k s h
  | lingerEnd leaf => exact execLingerEnd_keeps leaf s h
  | teCapture v => exact execTeCapture_keeps v s h
  | teSetWrite r v => exact execTeSetWrite_keeps r v s h
  | applyImmediate v => exact execApplyImmediate_keeps v s h
  | applyAtNextSecond v => exact execApplyAtNextSecond_keeps v s h
  | applyCancel v => exact execApplyCancel_keeps v s h
  | teSlew v => exact execTeSlew_keeps v s h
  | teFreqWrite v => exact execTeFreqWrite_keeps v s h
  | teSrcSelect v => exact execTeSrcSelect_keeps v s h
  | ppsInEdge sub => exact execPpsInEdge_keeps sub s h
  | rangingStart p => exact execRangingStart_keeps p s h
  | teRngNow v => exact execTeRngNow_keeps v s h
  | rangeLegSend p => exact execRangeLegSend_keeps p s h
  | rangingTimeout p => exact execRangingTimeout_keeps p s h
  | leapArm v => exact execLeapArm_keeps v s h
  | rgArm c v => exact execRgArm_keeps c v s h
  | rgStart c => exact execRgStart_keeps c s h
  | rgStopRequest c v => exact execRgStopRequest_keeps c v s h
  | rgStop c => exact execRgStop_keeps c s h
  | seqStepWrite c v => exact execSeqStepWrite_keeps c v s h
  | timingSetWrite c t w v => exact execTimingSetWrite_keeps c t w v s h
  | rgStepStart c => exact execRgStepStart_keeps c s h
  | rgStepEnd c => exact execRgStepEnd_keeps c s h
  | rgInputEdge k rising => exact execRgInputEdge_keeps k rising s h
  | maCompareFire c k => exact execMaCompareFire_keeps c k s h
  | todCompareFire c k => exact execTodCompareFire_keeps c k s h
  | maCompareArm c k v => exact execMaCompareArm_keeps c k v s h
  | todCompareArm c k v => exact execTodCompareArm_keeps c k v s h
  | vdacFault m => exact execVdacFault_keeps m s h
  | vdacClear v => exact execVdacClear_keeps v s h
  | ltcFrameStart c => exact execLtcFrameStart_keeps c s h
  | ltcFrameDecode k frame rate at_ => exact execLtcFrameDecode_keeps k frame rate at_ s h
  | ltcLoss k => exact execLtcLoss_keeps k s h
  | telegramSend c => exact execTelegramSend_keeps c s h
  | gofsWrite v => exact execGofsWrite_keeps v s h
  | kettleEdge sub => exact execKettleEdge_keeps sub s h
  | kettleCfgWrite v => exact execKettleCfgWrite_keeps v s h
  | stitchCfgWrite v => exact execStitchCfgWrite_keeps v s h
  | stitchWordReceive w => exact execStitchWordReceive_keeps w s h
  | cxGcmEnc r d m => exact execCxGcmEnc_keeps r d m s h
  | cxGcmDec r d m => exact execCxGcmDec_keeps r d m s h
  | cxCcmEnc r d m => exact execCxCcmEnc_keeps r d m s h
  | cxCcmDec r d m => exact execCxCcmDec_keeps r d m s h
  | cipherJobDone core fault => exact execCipherJobDone_keeps core fault s h
  | cxKeyLoad r d m fault => exact execCxKeyLoad_keeps r d m fault s h
  | keyLoadDone slot fault => exact execKeyLoadDone_keeps slot fault s h
  | cxKeyUnload r d => exact execCxKeyUnload_keeps r d s h
  | keyUnloadDone slot => exact execKeyUnloadDone_keeps slot s h
  | cxRekey r d => exact execCxRekey_keeps r d s h
  | ticketUnwrap leaf => exact execTicketUnwrap_keeps leaf s h
  | faultHoldClear v => exact execFaultHoldClear_keeps v s h
  | coreReset v => exact execCoreReset_keeps v s h
  | coreSelfTestDone core pass => exact execCoreSelfTestDone_keeps core pass s h
  | coreDisable v => exact execCoreDisable_keeps v s h
  | slotSelect v => exact execSlotSelect_keeps v s h
  | cvCfgWrite c v => exact execCvCfgWrite_keeps c v s h
  | cvParamWrite c r v => exact execCvParamWrite_keeps c r v s h
  | cvDataWrite c be v => exact execCvDataWrite_keeps c be v s h
  | cvRestart c v => exact execCvRestart_keeps c v s h
  | cvStateWrite c v => exact execCvStateWrite_keeps c v s h
  | cvResultRead c r => exact execCvResultRead_keeps c r s h
  | ringEnable k n v => exact execRingEnable_keeps k n v s h
  | ringDisable k n v => exact execRingDisable_keeps k n v s h
  | sqDoorbell n v => exact execSqDoorbell_keeps n v s h
  | cqDoorbell m v => exact execCqDoorbell_keeps m v s h
  | nop r d => exact execNop_keeps r d s h
  | lineTx r d m => exact execLineTx_keeps r d m s h
  | rxPost r d => exact execRxPost_keeps r d s h
  | remoteRead r d => exact execRemoteRead_keeps r d s h
  | remoteWrite r d m => exact execRemoteWrite_keeps r d m s h
  | remoteFence r d => exact execRemoteFence_keeps r d s h
  | sigWrite r d m => exact execSigWrite_keeps r d m s h
  | sigWriteDone r => exact execSigWriteDone_keeps r s h
  | rgFlag r d => exact execRgFlag_keeps r d s h
  | rgRetune r d => exact execRgRetune_keeps r d s h
  | ledgerSnap r d => exact execLedgerSnap_keeps r d s h
  | mssRequest r d m => exact execMssRequest_keeps r d m s h
  | unknownOpcode r d => exact execUnknownOpcode_keeps r d s h
  | descriptorReadError r => exact execDescriptorReadError_keeps r s h
  | completionPost r => exact execCompletionPost_keeps r s h
  | cqDelayExpiry m => exact execCqDelayExpiry_keeps m s h
  | msixUnmask v => exact execMsixUnmask_keeps v s h
  | eventRingEnable v => exact execEventRingEnable_keeps v s h
  | eventRingDisable v => exact execEventRingDisable_keeps v s h
  | eventDoorbell v => exact execEventDoorbell_keeps v s h
  | ledgerReinit v => exact execLedgerReinit_keeps v s h
  | unitReset v => exact execUnitReset_keeps v s h
  | ledgerEccError c ix => exact execLedgerEccError_keeps c ix s h
  | readSensors sample => exact execReadSensors_keeps sample s h
  | smbusXfer a => exact execSmbusXfer_keeps a s h
  | smbSensorPoll ix a => exact execSmbSensorPoll_keeps ix a s h
  | smbusHostNotify addr data => exact execSmbusHostNotify_keeps addr data s h
  | smbAlert answers => exact execSmbAlert_keeps answers s h
  | sensorSample ix value => exact execSensorSample_keeps ix value s h
  | forcedActionRestore ix => exact execForcedActionRestore_keeps ix s h
  | hwTrip k => exact execHwTrip_keeps k s h
  | profileWrite bar off v => exact execProfileWrite_keeps bar off v s h
  | profileData addr data => exact execProfileData_keeps addr data s h
  | profileDesc d => exact execProfileDesc_keeps d s h
  | profileConfirm role => exact execProfileConfirm_keeps role s h
  | mssLock v => exact execMssLock_keeps v s h
  | tamperInputAlarm ix => exact execTamperInputAlarm_keeps ix s h
  | glitchAlarm k => exact execGlitchAlarm_keeps k s h
  | tamperUnlock v => exact execTamperUnlock_keeps v s h
  | tamperCfgLock v => exact execTamperCfgLock_keeps v s h
  | railOutOfRange ix high mv => exact execRailOutOfRange_keeps ix high mv s h
  | railInRange ix mv => exact execRailInRange_keeps ix mv s h
  | backupSwitch toBackup => exact execBackupSwitch_keeps toBackup s h
  | ldvCfgWrite v => exact execLdvCfgWrite_keeps v s h
  | ldvRegulationChange good => exact execLdvRegulationChange_keeps good s h
  | dormantRequest v => exact execDormantRequest_keeps v s h
  | clockLoss ix => exact execClockLoss_keeps ix s h
  | clockRestore ix => exact execClockRestore_keeps ix s h
  | pllUnlock ix => exact execPllUnlock_keeps ix s h
  | pllRelock ix => exact execPllRelock_keeps ix s h
  | pinFuncWrite ix v => exact execPinFuncWrite_keeps ix v s h
  | pmxLock v => exact execPmxLock_keeps v s h
  | tapInstructionLoad ir => exact execTapInstructionLoad_keeps ir s h
  | registerWrite a bar2 off be v => exact execRegisterWrite_keeps a bar2 off be v s h
  | loReadShadow a bar2 off => exact execLoReadShadow_keeps a bar2 off s h
  | hiWriteApply a bar2 off v => exact execHiWriteApply_keeps a bar2 off v s h
  | preambleDetection p ofdm => exact execPreambleDetection_keeps p ofdm s h
  | mptAcquiring n => exact execMptAcquiring_keeps n s h
  | porstAssert => exact execPorstAssert_keeps s h
  | linkUp => exact execLinkUp_keeps s h
  | mssReady => exact execMssReady_keeps s h
  | vddCoreLoss => exact execVddCoreLoss_keeps s h
  | aonPowerUp => exact execAonPowerUp_keeps s h
  | qrStart => exact execQrStart_keeps s h
  | quireBoundary => exact execQuireBoundary_keeps s h
  | folioBoundary => exact execFolioBoundary_keeps s h
  | folioMargin => exact execFolioMargin_keeps s h
  | quireRealign => exact execQuireRealign_keeps s h
  | seniorLoss => exact execSeniorLoss_keeps s h
  | tipinRetry => exact execTipinRetry_keeps s h
  | confirmTimeout => exact execConfirmTimeout_keeps s h
  | headLost => exact execHeadLost_keeps s h
  | headGone => exact execHeadGone_keeps s h
  | leafNoAnswer => exact execLeafNoAnswer_keeps s h
  | listenWindowClose => exact execListenWindowClose_keeps s h
  | resyncDue => exact execResyncDue_keeps s h
  | keepaliveDue => exact execKeepaliveDue_keeps s h
  | budgetPeriodStart => exact execBudgetPeriodStart_keeps s h
  | budgetReached => exact execBudgetReached_keeps s h
  | todRollover => exact execTodRollover_keeps s h
  | ppsWidthEnd => exact execPpsWidthEnd_keeps s h
  | slewDone => exact execSlewDone_keeps s h
  | ppsInLoss => exact execPpsInLoss_keeps s h
  | beaconSourceLoss => exact execBeaconSourceLoss_keeps s h
  | kettleDrive => exact execKettleDrive_keeps s h
  | stitchWordSend => exact execStitchWordSend_keeps s h
  | stitchLoss => exact execStitchLoss_keeps s h
  | rxHoldExpiry => exact execRxHoldExpiry_keeps s h
  | flr => exact execFlr_keeps s h
  | pePerstAssert => exact execPePerstAssert_keeps s h
  | hotReset => exact execHotReset_keeps s h
  | linkDown => exact execLinkDown_keeps s h
  | eventRecordWrite => exact execEventRecordWrite_keeps s h
  | eventNotifyDelay => exact execEventNotifyDelay_keeps s h
  | getInfo => exact execGetInfo_keeps s h
  | setThreshold => exact execSetThreshold_keeps s h
  | setMainscal => exact execSetMainscal_keeps s h
  | getReport => exact execGetReport_keeps s h
  | ackMismatch => exact execAckMismatch_keeps s h
  | restart => exact execRestart_keeps s h
  | logRead => exact execLogRead_keeps s h
  | updateBegin => exact execUpdateBegin_keeps s h
  | updateData => exact execUpdateData_keeps s h
  | updateCommit => exact execUpdateCommit_keeps s h
  | updateActivate => exact execUpdateActivate_keeps s h
  | updateAbort => exact execUpdateAbort_keeps s h
  | otpProfkey => exact execOtpProfkey_keeps s h
  | smbSensor => exact execSmbSensor_keeps s h
  | unitViewCompare => exact execUnitViewCompare_keeps s h
  | logWrite => exact execLogWrite_keeps s h
  | watchdogExpiry => exact execWatchdogExpiry_keeps s h
  | trialTimeout => exact execTrialTimeout_keeps s h
  | profileApply => exact execProfileApply_keeps s h
  | profileEnd => exact execProfileEnd_keeps s h
  | zeroisationDone => exact execZeroisationDone_keeps s h
  | sleepEntry => exact execSleepEntry_keeps s h
  | sleepWakeTimer => exact execSleepWakeTimer_keeps s h
  | pwrWakeInput => exact execPwrWakeInput_keeps s h
  | sleepExitDone => exact execSleepExitDone_keeps s h
  | holdoverEnter => exact execHoldoverEnter_keeps s h
  | holdoverExit => exact execHoldoverExit_keeps s h
  | dormantWake => exact execDormantWake_keeps s h
  | fabricRefSwitch => exact execFabricRefSwitch_keeps s h
  | tapReset => exact execTapReset_keeps s h
  | aonPowerLoss => exact execAonPowerLoss_keeps s h

/-! ### The role is confirmed -/

/-- CLN_STRAP.CONFIRMED is 1. -/
def Confirmed (s : State) : Prop := s.cln.confirmed = true

theorem Confirmed.ite {c : Prop} [Decidable c] {s t : State} (h : Confirmed s) (k : Confirmed t) :
    Confirmed (if c then s else t) := by
  split <;> assumption

/-- What leaves CLN_STRAP alone leaves CONFIRMED. -/
theorem Confirmed.keep {l : List Part} {s t : State} (h : Confirmed s) (k : Keeps l s t) (out : l.contains .cln = false) :
    Confirmed t := by
  have same : t.cln = s.cln := k.same.agree .cln (by simpa using out)
  rw [Confirmed, same]
  exact h

theorem Confirmed.run {s t : State} {f : State → State} (h : Confirmed s) (k : ∀ u, Confirmed u → Confirmed (f u))
    (e : run s f = .next t) : Confirmed t := by
  cases e
  exact Confirmed.ite (k s h) h

/-- The wake that an access by the host brings leaves CONFIRMED. -/
theorem Confirmed.wake {s : State} (h : Confirmed s) (src : Nat) : Confirmed (wakeBy src s) := h.keep (wakeBy_keeps ..) rfl

theorem Confirmed.runAgent {s t : State} {a : Agent} {f : State → State} (h : Confirmed s)
    (k : ∀ u, Confirmed u → Confirmed (f u)) (e : runAgent a s f = .next t) : Confirmed t :=
  h.run (fun _ hu => k _ (Confirmed.ite (hu.wake 2) hu)) e

/-! ### HI_CONFIRM (R643, R644) -/

/-- R644: a write with GO = 1 is ignored. -/
theorem confirmWrite_ignored {v : Word} {s : State} (h : Confirmed s) (go : bitAt v 31 = true) : confirmWrite v s = s :=
  if_pos (by simp [go, show s.cln.confirmed = true from h])

/-- A write with GO = 0 sets ROLE alone. -/
theorem confirmWrite_noGo {v : Word} (s : State) (noGo : bitAt v 31 = false) :
    confirmWrite v s = { s with cln := { s.cln with confirmRole := bitAt v 0 } } := by
  simp [confirmWrite, noGo]

theorem confirmNow_confirmed (s : State) : Confirmed (confirmNow s) := rfl

theorem Confirmed.confirmWrite {s : State} (h : Confirmed s) (v : Word) : Confirmed (confirmWrite v s) := by
  cases go : bitAt v 31 with
  | true => rwa [confirmWrite_ignored h go]
  | false => rw [confirmWrite_noGo s go]; exact h

/-! ### Register writes: HI_CONFIRM is the one register that reaches the straps -/

theorem Confirmed.wrHi {s : State} (h : Confirmed s) (a : Agent) (off : Nat) (v : Word) : Confirmed (wrHi a off v s) := by
  unfold Machine.wrHi
  split
  case h_1 => exact h.confirmWrite v
  case h_2 => exact h.keep (hiStatusWrite_keeps ..) rfl
  case h_3 => exact h.keep (rxcfgWrite_keeps ..) rfl
  case h_4 =>
    have low : Confirmed (takeLo a false 0x800 (loHalf s.ev.base.toNat) s).2 := h.keep (takeLo_keeps ..) rfl
    exact low.keep (evBaseWrite_keeps ..) rfl
  case h_5 => exact h.keep (evCfgWrite_keeps ..) rfl
  case h_6 => exact h.keep (evStatWrite_keeps ..) rfl
  case h_7 => exact h

theorem Confirmed.wrBar0 {s : State} (h : Confirmed s) (a : Agent) (off : Nat) (v : Word) : Confirmed (wrBar0 a off v s) := by
  unfold Machine.wrBar0
  refine .ite (h.wrHi a off v) ?_
  refine .ite (h.keep (wrRing_keeps ..) rfl) <| .ite (h.keep (wrRing_keeps ..) rfl) <| .ite h ?_
  refine .ite (h.keep (wrMpt_keeps ..) rfl) <| .ite (h.keep (wrQr_keeps ..) rfl) <| .ite (h.keep (wrAir_keeps ..) rfl) ?_
  refine .ite (h.keep (wrAfe_keeps ..) rfl) <| .ite (h.keep (wrPort_keeps ..) rfl) ?_
  refine .ite (h.keep (wrOfdRbm_keeps ..) rfl) <| .ite (h.keep (wrLt_keeps ..) rfl) <| .ite (h.keep (wrSlp_keeps ..) rfl) ?_
  refine .ite (h.keep (wrTe_keeps ..) rfl) <| .ite (h.keep (wrRgc_keeps ..) rfl) <| .ite (h.keep (wrRg_keeps ..) rfl) <| .ite h ?_
  refine .ite (h.keep (wrCx_keeps ..) rfl) <| .ite (h.keep (wrCv_keeps ..) rfl) <| .ite (h.keep (wrSys_keeps ..) rfl) ?_
  exact .ite (h.keep (wrPmx_keeps ..) rfl) (h.keep (wrBell_keeps ..) rfl)

theorem Confirmed.writeReg {s : State} (h : Confirmed s) (a : Agent) (bar2 : Bool) (off : Nat) (be : BitVec 4) (v : Word) :
    Confirmed (writeReg a bar2 off be v s) := by
  unfold Machine.writeReg
  refine .ite h <| .ite ?badAccess <| .ite h <| .ite (h.keep (stageLo_keeps ..) rfl) <| .ite ?bar2 (h.wrBar0 a off v)
  case badAccess => exact h
  case bar2 => exact h.keep (wrBar2_keeps ..) rfl

/-! ### Records of a profile (18 R577) -/

theorem Confirmed.profileWrite {s t : State} {bar : Bool} {off : BitVec 16} {v : Word} (h : Confirmed s)
    (e : execProfileWrite bar off v s = .next t) : Confirmed t := by
  refine h.run (fun u hu => ?_) e
  dsimp only
  split
  case h_1 => exact hu
  case h_2 r _ =>
    have written : Confirmed (baltonWrite bar (leAt r 4 4) v u) := hu.writeReg ..
    exact .ite (.ite (hu.keep (profileNext_keeps ..) rfl) <|
      .ite (written.keep (profileStop_keeps ..) rfl) (written.keep (profileNext_keeps ..) rfl)) hu

theorem Confirmed.profileConfirm {s t : State} {role : Bool} (h : Confirmed s) (e : execProfileConfirm role s = .next t) :
    Confirmed t := by
  refine h.run (fun u hu => ?_) e
  split
  case h_1 => exact .ite ((hu.confirmWrite _).keep (profileNext_keeps ..) rfl) hu
  case h_2 => exact hu

/-! ### REMOTE frames: the head writes a leaf's registers (08 R275) -/

theorem Confirmed.remoteWriteWords {s : State} (h : Confirmed s) (n off : Nat) (bs : List Byte) :
    Confirmed (remoteWriteWords n off bs s).2 := by
  induction n generalizing off bs s with
  | zero => exact h
  | succ n ih => exact ih (h.writeReg ..) (off + 4) (bs.drop 4)

theorem Confirmed.remoteAct {s : State} (h : Confirmed s) (b : List Byte) : Confirmed (remoteAct b s).2.2 := by
  unfold Machine.remoteAct
  dsimp only
  split
  · exact h
  split
  · exact h
  split
  · exact h.keep (remoteReadWords_keeps ..) rfl
  · exact h.remoteWriteWords ..

theorem Confirmed.setLtx {s : State} (h : Confirmed s) (x : LtX) : Confirmed { s with ltx := x } := h

theorem Confirmed.sendRemoteResp {s : State} (h : Confirmed s) (body : List Byte) : Confirmed (sendRemoteResp body s) :=
  h.keep (sendRemoteResp_keeps ..) rfl

theorem Confirmed.onRemote {s : State} (h : Confirmed s) (o : Front) : Confirmed (onRemote o s) := by
  unfold Machine.onRemote
  refine .ite h <| .ite ?new <| .ite ?repeated (h.keep (pushAck_keeps ..) rfl)
  case new =>
    have acted : Confirmed (Machine.remoteAct o.body s).2.2 := h.remoteAct o.body
    exact (acted.setLtx _).sendRemoteResp _
  case repeated =>
    split
    · exact .ite (h.sendRemoteResp _) h
    · exact h

/-! ### Rows that receive a frame -/

/-- Opening a frame leaves CONFIRMED, so the row leaves it where what the frame does leaves it. -/
theorem Confirmed.rxRow {s : State} {ok : Front → State → Bool} {k : Front → State → State} (h : Confirmed s) (f : RxFrame)
    (does : ∀ o u, Confirmed u → Confirmed (k o u)) : Confirmed (rxRow ok k f s) := by
  have opened : Confirmed (rxOpen f s).2 := h.keep (rxOpen_keeps ..) rfl
  unfold Machine.rxRow
  refine .ite h ?_
  split
  case h_1 t e =>
    rw [e] at opened
    exact .ite (opened.keep (slpFolioUsed_keeps ..) rfl) opened
  case h_2 o t e =>
    rw [e] at opened
    exact .ite (does o t opened) h

/-- The sleepy leaf's part of a reception (09 R290, R305). -/
theorem Confirmed.heard {s : State} (h : Confirmed s) (o : Front) : Confirmed (slpFolioUsed (slpHeard o s)) :=
  (h.keep (slpHeard_keeps ..) rfl).keep (slpFolioUsed_keeps ..) rfl

theorem Confirmed.onFrame {s : State} (h : Confirmed s) (o : Front) : Confirmed (onFrame o s) := by
  have heard := h.heard o
  unfold Machine.onFrame
  refine .ite (.ite ?leg (h.keep (onRelay_keeps ..) rfl)) ?typed
  case leg => exact ((h.keep (countOk_keeps ..) rfl).keep (noteGrant_keeps ..) rfl).keep (onRangeLeg_keeps ..) rfl
  case typed =>
    dsimp only
    split
    case h_1 => exact heard.keep (onBeacon_keeps ..) rfl
    case h_2 => exact heard.keep (onRolemap_keeps ..) rfl
    case h_3 => exact heard.keep (onData_keeps ..) rfl
    case h_4 => exact heard.keep (onAck_keeps ..) rfl
    case h_5 => exact heard.keep (joinReqHead_keeps ..) rfl
    case h_6 => exact heard.keep (onJoinResp_keeps ..) rfl
    case h_7 => exact heard.keep (onRangeReq_keeps ..) rfl
    case h_8 => exact heard.keep (rangeRespHead_keeps ..) rfl
    case h_9 => exact heard.keep (rangeResultLeaf_keeps ..) rfl
    case h_10 => exact heard.keep (onWake_keeps ..) rfl
    case h_11 => exact heard.onRemote o
    case h_12 => exact heard.keep (onRemoteResp_keeps ..) rfl
    case h_13 => exact heard

theorem Confirmed.remoteReceive {s t : State} {f : RxFrame} (h : Confirmed s) (e : execRemoteReceive f s = .next t) :
    Confirmed t :=
  h.run (fun _ hu => hu.rxRow f fun o _ hv => (hv.heard o).onRemote o) e

theorem Confirmed.hcPairDecode {s t : State} {f : RxFrame} (h : Confirmed s) (e : execHcPairDecode f s = .next t) :
    Confirmed t := by
  refine h.run (fun u hu => ?_) e
  refine .ite (Confirmed.rxRow ?_ f fun o _ hv => hv.onFrame o) hu
  exact hu

/-! ### MSS_READY (R643) -/

theorem Confirmed.mssReadyNow {s : State} (h : Confirmed s) : Confirmed (mssReadyNow s) := by
  obtain ⟨-, -, cln⟩ := mssReadyNow_keeps s
  rw [Confirmed, cln]
  exact h

theorem Confirmed.mssReady {s t : State} (h : Confirmed s) (e : execMssReady s = .next t) : Confirmed t := by
  refine h.run (fun u hu => .ite ?starts hu) e
  case starts =>
    have reloaded := (hu.keep (updCv_keeps 2 (fun _ => CvCh.reset 2) u) rfl).keep (updCv_keeps 3 (fun _ => CvCh.reset 3) _) rfl
    have ready := reloaded.mssReadyNow
    exact .ite (confirmNow_confirmed _) (.ite ready (ready.keep (logFree_keeps ..) rfl))

/-! ### FLR and the resets of the link (15 R504, 21 R634) -/

theorem Confirmed.flrRegs {s : State} (h : Confirmed s) : Confirmed (flrRegs s) := h

theorem Confirmed.foldl {α : Type} {l : List Part} {f : State → α → State} {s : State} (h : Confirmed s) (xs : List α)
    (k : ∀ u x, Keeps l u (f u x)) (out : l.contains .cln = false) : Confirmed (xs.foldl f s) :=
  List.foldlRecOn xs f h fun _ hu x _ => hu.keep (k _ x) out

theorem Confirmed.hostLinkReset {s : State} (h : Confirmed s) : Confirmed (hostLinkReset s) := by
  unfold Machine.hostLinkReset
  extract_lets due all disabled noCq noSq aborted noFrames regs raised settled
  have hDisabled : Confirmed disabled := h.keep (evDisable_keeps ..) rfl
  have hNoCq : Confirmed noCq := hDisabled.foldl _ (fun _ _ => cqDisable_keeps ..) rfl
  have hNoSq : Confirmed noSq := hNoCq.foldl _ (fun _ _ => updSq_keeps ..) rfl
  have hAborted : Confirmed aborted := hNoSq.foldl _ (fun _ _ => abortTaken_keeps ..) rfl
  have hNoFrames : Confirmed noFrames := hAborted.foldl _ (fun _ _ => flrFrame_keeps ..) rfl
  have hRegs : Confirmed regs := (hNoFrames.keep (flrUnits_keeps ..) rfl).flrRegs.keep (cvHostReset_keeps ..) rfl
  have hRaised : Confirmed raised := hRegs.keep (raise_keeps ..) rfl
  have hSettled : Confirmed settled := (hRaised.keep (resetsSettle_keeps ..) rfl).keep (zeroSettle_keeps ..) rfl
  clear_value due
  split
  · exact hSettled.keep (mssRestart_keeps ..) rfl
  · exact hSettled

theorem Confirmed.linkLost {s : State} (h : Confirmed s) : Confirmed (linkLost s) :=
  Confirmed.hostLinkReset (s := { s with life := _ }) h

theorem Confirmed.linkRow {s t : State} {f : State → State} (h : Confirmed s) (k : ∀ u, Confirmed u → Confirmed (f u))
    (e : linkRow s f = .next t) : Confirmed t :=
  h.run (fun u hu => .ite hu (k u hu)) e

/-! ### Every command but a cold start

Those whose frame names the straps go by the lemmas above, the others by their frame. -/

theorem Confirmed.exec {c : Instr} {s t : State} (h : Confirmed s) (e : exec c s = .next t) :
    Confirmed t ∨ ∃ a b, c = .coldStart a b := by
  cases c
  case coldStart st env => exact .inr ⟨st, env, rfl⟩
  all_goals apply Or.inl
  case hiConfirm v => exact h.run (fun u hu => (hu.wake 2).confirmWrite v) e
  case registerWrite a bar2 off be v => exact h.runAgent (fun u hu => hu.writeReg a bar2 off.toNat be v) e
  case hiWriteApply a bar2 off v => exact h.runAgent (fun u hu => .ite (hu.writeReg a bar2 off.toNat 0xF v) hu) e
  case profileWrite => exact h.profileWrite e
  case profileConfirm => exact h.profileConfirm e
  case remoteReceive => exact h.remoteReceive e
  case hcPairDecode => exact h.hcPairDecode e
  case mssReady => exact h.mssReady e
  case flr => exact h.linkRow (fun _ hu => hu.hostLinkReset) e
  case pePerstAssert => exact h.linkRow (fun _ hu => hu.linkLost) e
  case hotReset => exact h.linkRow (fun _ hu => hu.linkLost) e
  case linkDown => exact h.linkRow (fun _ hu => .ite hu.linkLost hu) e
  all_goals exact h.keep (exec_keeps e) rfl

end Sys2Proof.Machine

open Sys2Proof.Machine

/-- Settles O7: the write is ignored, and the wake before it leaves the straps; a command either has them outside its frame or
leaves CONFIRMED at 1, unless it is a cold start. -/
theorem confirmedStays : Obligations.ConfirmedStays := by
  refine ⟨fun s v confirmed go => ?ignored, fun c s t confirmed e cleared => ?onlyColdStart⟩
  case ignored =>
    have unchanged := confirmWrite_ignored (Confirmed.wake confirmed 2) go
    exact completes_run_or_held (f := fun u => confirmWrite v (wakeBy 2 u)) rfl (by simp [unchanged]) rfl
  case onlyColdStart =>
    refine (Confirmed.exec confirmed e).resolve_left fun still => ?_
    exact Bool.false_ne_true (cleared.symm.trans still)

end

section
/-! The block as a whole (00, 95): a step and its frame, the invariant of every step, the idle tick, and what stands at reset. -/
namespace Sys2Proof.Machine

/-! ### A component outside the frame is as it was -/

section
variable {l : List Part} {s t : State}

theorem Keeps.cln_eq (k : Keeps l s t) (out : l.contains .cln = false) : t.cln = s.cln :=
  k.same.agree .cln (by simpa using out)
theorem Keeps.life_eq (k : Keeps l s t) (out : l.contains .life = false) : t.life = s.life :=
  k.same.agree .life (by simpa using out)
theorem Keeps.mpt_eq (k : Keeps l s t) (out : l.contains .mpt = false) : t.mpt = s.mpt :=
  k.same.agree .mpt (by simpa using out)
theorem Keeps.qr_eq (k : Keeps l s t) (out : l.contains .qr = false) : t.qr = s.qr :=
  k.same.agree .qr (by simpa using out)
theorem Keeps.qrx_eq (k : Keeps l s t) (out : l.contains .qrx = false) : t.qrx = s.qrx :=
  k.same.agree .qrx (by simpa using out)
theorem Keeps.air_eq (k : Keeps l s t) (out : l.contains .air = false) : t.air = s.air :=
  k.same.agree .air (by simpa using out)
theorem Keeps.afe_eq (k : Keeps l s t) (out : l.contains .afe = false) : t.afe = s.afe :=
  k.same.agree .afe (by simpa using out)
theorem Keeps.line_eq (k : Keeps l s t) (out : l.contains .line = false) : t.line = s.line :=
  k.same.agree .line (by simpa using out)
theorem Keeps.ofd_eq (k : Keeps l s t) (out : l.contains .ofd = false) : t.ofd = s.ofd :=
  k.same.agree .ofd (by simpa using out)
theorem Keeps.rbm_eq (k : Keeps l s t) (out : l.contains .rbm = false) : t.rbm = s.rbm :=
  k.same.agree .rbm (by simpa using out)
theorem Keeps.lt_eq (k : Keeps l s t) (out : l.contains .lt = false) : t.lt = s.lt :=
  k.same.agree .lt (by simpa using out)
theorem Keeps.ltx_eq (k : Keeps l s t) (out : l.contains .ltx = false) : t.ltx = s.ltx :=
  k.same.agree .ltx (by simpa using out)
theorem Keeps.slp_eq (k : Keeps l s t) (out : l.contains .slp = false) : t.slp = s.slp :=
  k.same.agree .slp (by simpa using out)
theorem Keeps.slph_eq (k : Keeps l s t) (out : l.contains .slph = false) : t.slph = s.slph :=
  k.same.agree .slph (by simpa using out)
theorem Keeps.te_eq (k : Keeps l s t) (out : l.contains .te = false) : t.te = s.te :=
  k.same.agree .te (by simpa using out)
theorem Keeps.tex_eq (k : Keeps l s t) (out : l.contains .tex = false) : t.tex = s.tex :=
  k.same.agree .tex (by simpa using out)
theorem Keeps.rg_eq (k : Keeps l s t) (out : l.contains .rg = false) : t.rg = s.rg :=
  k.same.agree .rg (by simpa using out)
theorem Keeps.aln_eq (k : Keeps l s t) (out : l.contains .aln = false) : t.aln = s.aln :=
  k.same.agree .aln (by simpa using out)
theorem Keeps.cx_eq (k : Keeps l s t) (out : l.contains .cx = false) : t.cx = s.cx :=
  k.same.agree .cx (by simpa using out)
theorem Keeps.cv_eq (k : Keeps l s t) (out : l.contains .cv = false) : t.cv = s.cv :=
  k.same.agree .cv (by simpa using out)
theorem Keeps.hi_eq (k : Keeps l s t) (out : l.contains .hi = false) : t.hi = s.hi :=
  k.same.agree .hi (by simpa using out)
theorem Keeps.msix_eq (k : Keeps l s t) (out : l.contains .msix = false) : t.msix = s.msix :=
  k.same.agree .msix (by simpa using out)
theorem Keeps.ev_eq (k : Keeps l s t) (out : l.contains .ev = false) : t.ev = s.ev :=
  k.same.agree .ev (by simpa using out)
theorem Keeps.lg_eq (k : Keeps l s t) (out : l.contains .lg = false) : t.lg = s.lg :=
  k.same.agree .lg (by simpa using out)
theorem Keeps.mss_eq (k : Keeps l s t) (out : l.contains .mss = false) : t.mss = s.mss :=
  k.same.agree .mss (by simpa using out)
theorem Keeps.mssx_eq (k : Keeps l s t) (out : l.contains .mssx = false) : t.mssx = s.mssx :=
  k.same.agree .mssx (by simpa using out)
theorem Keeps.tmp_eq (k : Keeps l s t) (out : l.contains .tmp = false) : t.tmp = s.tmp :=
  k.same.agree .tmp (by simpa using out)
theorem Keeps.pwr_eq (k : Keeps l s t) (out : l.contains .pwr = false) : t.pwr = s.pwr :=
  k.same.agree .pwr (by simpa using out)
theorem Keeps.clk_eq (k : Keeps l s t) (out : l.contains .clk = false) : t.clk = s.clk :=
  k.same.agree .clk (by simpa using out)
theorem Keeps.pmx_eq (k : Keeps l s t) (out : l.contains .pmx = false) : t.pmx = s.pmx :=
  k.same.agree .pmx (by simpa using out)
theorem Keeps.shadow_eq (k : Keeps l s t) (out : l.contains .shadow = false) : t.shadow = s.shadow :=
  k.same.agree .shadow (by simpa using out)
theorem Keeps.staging_eq (k : Keeps l s t) (out : l.contains .staging = false) : t.staging = s.staging :=
  k.same.agree .staging (by simpa using out)
theorem Keeps.hostMem_eq (k : Keeps l s t) (out : l.contains .hostMem = false) : t.hostMem = s.hostMem :=
  k.same.agree .hostMem (by simpa using out)
theorem Keeps.answer_eq (k : Keeps l s t) (out : l.contains .answer = false) : t.answer = s.answer :=
  k.same.agree .answer (by simpa using out)
theorem Keeps.freeCtr_eq (k : Keeps l s t) (out : l.contains .freeCtr = false) : t.freeCtr = s.freeCtr :=
  k.same.agree .freeCtr (by simpa using out)
theorem Keeps.now_eq (k : Keeps l s t) (out : l.contains .now = false) : t.now = s.now :=
  k.same.agree .now (by simpa using out)

end

/-! ### A step -/

theorem step_idle {s : State} (idle : s.pending = []) : step s = .next s.tick := by
  simp only [step, idle]

theorem step_command {s : State} {c : Instr} {rest : List Instr} (waits : s.pending = c :: rest) :
    step s = exec c { s with pending := rest } := by
  simp only [step, waits]

/-- The queue takes no part in what is sound. -/
theorem Sound.queue {s : State} (h : Sound s) (q : List Instr) : Sound { s with pending := q } :=
  ⟨h.mem, h.ledgers, h.confirm, h.ring⟩

theorem step_keeps_sound {s t : State} (h : Sound s) (e : step s = .next t) : Sound t := by
  cases waits : s.pending with
  | nil =>
    rw [step_idle waits] at e
    cases e
    exact (State.tick_keeps s).sound h
  | cons c rest =>
    rw [step_command waits] at e
    exact (exec_keeps e).sound (h.queue rest)

/-! ### The always-on count at a tick (19 R604) -/

/-- The 1PPS latches the always-on count and leaves it. -/
theorem ppsEmit_aon (s : State) : (ppsEmit s).tmp.aon = s.tmp.aon := by
  rw [ppsEmit, (rgPps_keeps _).tmp_eq rfl]
  rfl

theorem secondPassed_aon (s : State) : (secondPassed s).tmp.aon = s.tmp.aon := by
  unfold secondPassed
  extract_lets -merge +onlyGivenNames te old v applied checked tex epoch
  have hApplied : applied.tmp = s.tmp := by
    unfold applied
    split
    · rw [(leapSkip_keeps ..).tmp_eq rfl, (appliedEvent_keeps ..).tmp_eq rfl, (afterApply_keeps ..).tmp_eq rfl, (todJump_keeps ..).tmp_eq rfl]
    · rfl
  have hEpoch : epoch.tmp = s.tmp := by
    unfold epoch
    split
    · exact ((leapCheck_keeps applied).tmp_eq rfl).trans hApplied
    · exact ((leapCheck_keeps applied).tmp_eq rfl).trans hApplied
  rw [ppsEmit_aon, hEpoch]

theorem teTick_aon (s : State) : (teTick s).tmp.aon = s.tmp.aon := by
  unfold teTick
  extract_lets -merge +onlyGivenNames rest te passed u
  split
  · exact secondPassed_aon u
  · rfl

/-- Of what a tick does, the always-on domain alone moves the count. -/
theorem coreTick_aon (s : State) : (onceTick (rgTick (airTick (teTick (mptTick s))))).tmp.aon = s.tmp.aon := by
  rw [(onceTick_keeps _).tmp_eq rfl, (rgTick_keeps _).tmp_eq rfl, (airTick_keeps _).tmp_eq rfl, teTick_aon, (mptTick_keeps s).tmp_eq rfl]

theorem aonTick_aon (s : State) : (aonTick s).tmp.aon = s.tmp.aon ∨ (aonTick s).tmp.aon = s.tmp.aon + 1 := by
  unfold aonTick
  split
  · exact .inr rfl
  · exact .inl rfl

theorem tick_aon (s : State) : s.tick.tmp.aon = s.tmp.aon ∨ s.tick.tmp.aon = s.tmp.aon + 1 := by
  have core : (if devUp s then onceTick (rgTick (airTick (teTick (mptTick s)))) else s).tmp.aon = s.tmp.aon := by
    split
    · exact coreTick_aon s
    · rfl
  exact core ▸ aonTick_aon _

/-! ### The state after reset -/

/-- No byte of host memory is listed, no ledger is open, no role is confirmed and the event ring is disabled. -/
theorem reset_sound : Sound State.reset where
  mem := rfl
  ledgers := ⟨.nil, fun _ none => absurd none List.not_mem_nil⟩
  confirm := ⟨by decide, by decide⟩
  ring := fun running => by cases running

end Sys2Proof.Machine

open Sys2Proof Sys2Proof.Machine

/-- Settles O5: the idle tick and every command keep what is sound; the queue takes no part in it. -/
theorem soundStep : Obligations.SoundStep := fun _ _ sound e => step_keeps_sound sound e

/-- Settles O3: each meaning ends in run, runHost, runAgent or runAon, which answer a next state with the queue of the state
before. -/
theorem everyCommandAnswers : Obligations.EveryCommandAnswers := by
  intro c s
  cases c <;> exact ⟨_, rfl, rfl⟩

/-- Settles O4, by the frame of each meaning. -/
theorem commandFrame : Obligations.CommandFrame := fun _ _ _ e => (exec_keeps e).same

/-- Settles O1: it is how a step is defined. -/
theorem stepTakesFront : Obligations.StepTakesFront := fun _ _ _ => step_command rfl

/-- Settles O2: with an empty queue a step is the tick, which moves the always-on count by its own clock alone. -/
theorem idleTick : Obligations.IdleTick := fun s idle =>
  ⟨s.tick, step_idle idle, idle, rfl, tick_aon s, (State.tick_keeps s).same⟩

/-- Settles O6. -/
theorem soundReset : Obligations.SoundReset := reset_sound

/-- Settles O9, by evaluation of each register's read in the state after reset. -/
theorem resetValues : Obligations.ResetValues := by
  unfold Obligations.ResetValues
  decide +kernel

end

section
/-! How a command completes, in terms of what its effect comes down to. -/
namespace Sys2Proof.Machine

/-- The queue takes no part in what P says. -/
abbrev QueueFree (P : State → Prop) : Prop := ∀ t q, P { t with pending := q } = P t

/-- A command whose domain runs completes with what holds of its effect. -/
theorem completes_up {c : Instr} {s t : State} {P : State → Prop}
    (e : exec c s = .next { (if devUp s then t else s) with pending := s.pending }) (up : devUp s = true)
    (p : P { t with pending := s.pending }) : Completes c s P :=
  ⟨_, e, by rwa [if_pos up]⟩

/-- It completes with what holds of the state that its effect comes down to. -/
theorem completes_does {c : Instr} {s t u : State} {P : State → Prop}
    (e : exec c s = .next { (if devUp s then u else s) with pending := s.pending }) (up : devUp s = true) (does : u = t)
    (p : P t) (free : QueueFree P := by intros _ _; rfl) : Completes c s P :=
  completes_up e up (by rwa [free, does])

/-- The same for a command of the always-on domain. -/
theorem completes_aonDoes {c : Instr} {s t u : State} {P : State → Prop}
    (e : exec c s = .next { (if s.life.aonUp then u else s) with pending := s.pending }) (up : s.life.aonUp = true) (does : u = t)
    (p : P t) (free : QueueFree P := by intros _ _; rfl) : Completes c s P :=
  ⟨_, e, by rwa [if_pos up, does, free]⟩

/-- The state after a wake, whatever it has made of the power state and of the sleep timers. -/
def State.woken (s : State) (w : Pwr) (x : Slp) : State := { s with pwr := w, slp := x }

theorem wakeBy_woken (src : Nat) (s : State) : wakeBy src s = s.woken (wakeBy src s).pwr (wakeBy src s).slp := wakeBy_frame src s

/-- A wake changes nothing else, so a command of the host completes with what holds of its effect whatever these are. -/
theorem completes_host {c : Instr} {s : State} {f : State → State} {P : State → Prop} (e : exec c s = runHost s f)
    (up : devUp s = true) (p : ∀ w x, P (f (s.woken w x))) (free : QueueFree P := by intros _ _; rfl) : Completes c s P := by
  have woken := p (wakeBy 2 s).pwr (wakeBy 2 s).slp
  rw [← wakeBy_woken] at woken
  exact completes_runHost e up (by rwa [free])

/-- It completes with what holds of the state that its effect comes down to. -/
theorem completes_hostDoes {c : Instr} {s : State} {f : State → State} {t : Pwr → Slp → State} {P : State → Prop}
    (e : exec c s = runHost s f) (up : devUp s = true) (does : ∀ w x, f (s.woken w x) = t w x)
    (p : ∀ w x, P (t w x)) (free : QueueFree P := by intros _ _; rfl) : Completes c s P :=
  completes_host e up (fun w x => does w x ▸ p w x) free

end Sys2Proof.Machine
end

section
/-! The mains phase tracker (01): the states of the phases, edges and wraps, and the writes of MPT_CTRL. -/
namespace Sys2Proof.Machine

/-! ### A phase after an update -/

theorem phAt_updPh (n m : Phase) (f : PhaseS → PhaseS) (s : State) :
    phAt (updPh n f s) m = if m = n then f (phAt s n) else phAt s m := by
  have position : n.val = m.val ↔ m = n := Fin.val_inj.trans eq_comm
  simp only [phAt, updPh, upd_get, position]
  split
  · next h => rw [h]
  · rfl

@[simp] theorem phAt_updPh_same (n : Phase) (f : PhaseS → PhaseS) (s : State) : phAt (updPh n f s) n = f (phAt s n) := by
  simp [phAt_updPh]

/-- What leaves the tracker leaves its phases. -/
theorem phAt_congr {s t : State} (e : t.mpt = s.mpt) (n : Phase) : phAt t n = phAt s n := by
  simp only [phAt, e]

@[simp] theorem phAt_raise (c i : Nat) (fs : List (Nat × Nat × Nat)) (s : State) (n : Phase) : phAt (raise c i fs s) n = phAt s n :=
  phAt_congr (raise_mpt ..) n

@[simp] theorem raisePending_mpt (s : State) : (raisePending s).mpt = s.mpt := by
  unfold raisePending
  split
  · exact raise_mpt ..
  · rfl

@[simp] theorem qrFlywheelCheck_mpt (s : State) : (qrFlywheelCheck s).mpt = s.mpt := by
  unfold qrFlywheelCheck
  extract_lets p per u
  split
  · exact raise_mpt ..
  · rfl

@[simp] theorem syncLeafRef_ph (s : State) : (syncLeafRef s).mpt.ph = s.mpt.ph := by
  unfold syncLeafRef
  split <;> rfl

@[simp] theorem phAt_syncLeafRef (s : State) (n : Phase) : phAt (syncLeafRef s) n = phAt s n := by
  simp only [phAt, syncLeafRef_ph]

/-- A head that does not take its reference from another has no leaf's reference. -/
theorem syncLeafRef_head {s : State} (head : usesLeafRef s = false) : syncLeafRef s = s := by
  simp [syncLeafRef, head]

@[simp] theorem rotationCheck_ph (s : State) : (rotationCheck s).mpt.ph = s.mpt.ph := by
  unfold rotationCheck
  extract_lets a near lag lead all d1 d2
  split
  extract_lets u
  split
  · rfl
  · rw [raise_mpt]

@[simp] theorem phAt_rotationCheck (s : State) (n : Phase) : phAt (rotationCheck s) n = phAt s n := by
  simp only [phAt, rotationCheck_ph]

/-! ### The states of the phases (01 Table 01.3) -/

/-- No phase changes state. -/
def StatesKept (s t : State) : Prop := ∀ m, (phAt t m).st = (phAt s m).st

/-- Phase n enters a state and the others keep theirs. -/
def Becomes (n : Phase) (st : PhSt) (s t : State) : Prop := ∀ m, (phAt t m).st = if m = n then st else (phAt s m).st

theorem StatesKept.refl (s : State) : StatesKept s s := fun _ => rfl

theorem StatesKept.trans {s t u : State} (h : StatesKept s t) (k : StatesKept t u) : StatesKept s u :=
  fun m => (k m).trans (h m)

theorem Becomes.after {n : Phase} {st : PhSt} {s t u : State} (k : Becomes n st t u) (h : StatesKept s t) : Becomes n st s u :=
  fun m => by rw [k m, h m]

theorem Becomes.and {n : Phase} {st : PhSt} {s t u : State} (h : Becomes n st s t) (k : StatesKept t u) : Becomes n st s u :=
  fun m => (k m).trans (h m)

theorem statesKept_of_mpt {s t : State} (e : t.mpt = s.mpt) : StatesKept s t := fun m => by rw [phAt_congr e]

theorem statesKept_of_ph {s t : State} (e : t.mpt.ph = s.mpt.ph) : StatesKept s t := fun m => by simp only [phAt, e]

theorem updPh_becomes (n : Phase) {f : PhaseS → PhaseS} {st : PhSt} (s : State) (h : (f (phAt s n)).st = st) :
    Becomes n st s (updPh n f s) := by
  intro m
  rw [phAt_updPh]
  split
  · exact h
  · rfl

/-- An update of a phase that leaves its state. -/
theorem updPh_statesKept (n : Phase) {f : PhaseS → PhaseS} (s : State) (h : ∀ p, (f p).st = p.st) : StatesKept s (updPh n f s) := by
  intro m
  rw [phAt_updPh]
  split
  · next same => rw [h, same]
  · rfl

theorem raise_statesKept (c i : Nat) (fs : List (Nat × Nat × Nat)) (s : State) : StatesKept s (raise c i fs s) :=
  statesKept_of_mpt (raise_mpt ..)

theorem raisePending_statesKept (s : State) : StatesKept s (raisePending s) := statesKept_of_mpt (raisePending_mpt s)

theorem syncLeafRef_statesKept (s : State) : StatesKept s (syncLeafRef s) := statesKept_of_ph (syncLeafRef_ph s)

theorem changeRef_statesKept (r : Phase) (s : State) : StatesKept s (changeRef r s) := by
  unfold changeRef
  extract_lets -merge +onlyGivenNames m old bias stepped mpt rebuilt announced
  have hStepped : StatesKept s stepped := by
    unfold stepped
    split
    · exact updPh_statesKept old s fun _ => rfl
    · exact .refl s
  exact (hStepped.trans (raise_statesKept _ _ _ rebuilt)).trans (raisePending_statesKept announced)

theorem rechooseRef_statesKept (s : State) : StatesKept s (rechooseRef s) := by
  unfold rechooseRef
  split
  · exact .refl s
  split
  · dsimp only
    split
    · exact .refl s
    · exact changeRef_statesKept _ s
  split
  · exact .refl s
  split
  · dsimp only
    split
    · exact .refl s
    · exact fun _ => rfl
  · dsimp only
    split
    · exact fun _ => rfl
    · exact changeRef_statesKept _ { s with mpt := { s.mpt with refChosen := true } }

theorem afterState_statesKept (s : State) : StatesKept s (afterState s) :=
  (rechooseRef_statesKept s).trans (statesKept_of_mpt (qrFlywheelCheck_mpt _))

theorem enterLocked_becomes (n : Phase) (s : State) : Becomes n .locked s (enterLocked n s) :=
  (updPh_becomes n s rfl).and (raise_statesKept _ _ _ _)

theorem enterFlywheel_becomes (n : Phase) (cause : Nat) (s : State) : Becomes n .flywheel s (enterFlywheel n cause s) :=
  ((updPh_becomes n s rfl).and (raise_statesKept _ _ _ _)).and (afterState_statesKept _)

theorem enterLost_becomes (n : Phase) (s : State) : Becomes n .unlocked s (enterLost n s) :=
  (updPh_becomes n s rfl).and (raise_statesKept _ _ _ _)

theorem regainLock_becomes (n : Phase) (angle : Word) (s : State) : Becomes n .locked s (regainLock n angle s) := by
  unfold regainLock
  extract_lets -merge +onlyGivenNames p diff isRef locked
  have hLocked : Becomes n .locked s locked := enterLocked_becomes n s
  split
  · exact hLocked.and (updPh_statesKept n locked fun _ => rfl)
  split
  · exact hLocked.and (raisePending_statesKept { locked with mpt := { locked.mpt with stepRegain := some (sAng diff) } })
  · exact hLocked.and (updPh_statesKept n locked fun _ => rfl)

/-- The phase's frequency is recorded as out of range (01 R18), before its state follows. -/
def leaveRange (n : Phase) (f : Word) (s : State) : State :=
  raise 0x0107 n.val [(0, 1, 0), (4, 4, f.toNat)] (updPh n (fun p => { p with inRange := false, freq := f }) s)

theorem leaveRange_statesKept (n : Phase) (f : Word) (s : State) : StatesKept s (leaveRange n f s) :=
  (updPh_statesKept n (f := fun p => { p with inRange := false, freq := f }) s fun _ => rfl).trans (raise_statesKept _ _ _ _)

end Sys2Proof.Machine

open Sys2Proof Sys2Proof.Machine

/-- Settles O10: in each case the guard of the command holds, the phase enters its state by one update, and what follows a change of
state (the reference, the quire's timing) leaves the states of all phases. -/
theorem phaseStateChanges : Obligations.PhaseStateChanges := by
  intro n s up
  refine ⟨fun unlocked en inRange crossings => ?acquiring, fun acquiring lost => ?abandon,
    fun acquiring fresh inRange en good => ?locked, fun locked lost => ?flywheel, fun flywheel spent => ?lost,
    fun f locked inRange out => ?lockedOut, fun f acquiring inRange out => ?acquiringOut,
    fun a flywheel tracked inRange en => ?regain⟩
  case acquiring =>
    have guard : (decide ((phAt s n).st = .unlocked) && mptEn s n && (phAt s n).inRange &&
        (decide ((phAt s n).noX = 0) || (phAt s n).edge.isSome || (phAt s n).edgeEarly.isSome)) = true := by simp [unlocked, en, inRange, crossings]
    exact completes_does rfl up (if_pos guard) (updPh_becomes n s rfl)
  case abandon =>
    have guard : (decide ((phAt s n).st = .acquiring) && decide (lossCycles s ≤ (phAt s n).noX)) = true := by simp [acquiring, lost]
    exact completes_does rfl up (if_pos guard) (updPh_becomes n s rfl)
  case locked =>
    have guard : (decide ((phAt s n).st = .acquiring) && !(phAt s n).tracked && (phAt s n).inRange && mptEn s n &&
      decide (lockCycles s ≤ (phAt s n).good)) = true := by
      simp [acquiring, fresh, inRange, en, good]
    exact completes_does rfl up (if_pos guard)
      (((enterLocked_becomes n s).and (afterState_statesKept _)).and (syncLeafRef_statesKept _))
  case flywheel =>
    have guard : (decide ((phAt s n).st = .locked) && (decide (lossCycles s ≤ (phAt s n).noX) || decide (lossCycles s ≤ (phAt s n).bad))) = true := by
      simpa [locked] using lost
    exact completes_does rfl up (if_pos guard) (enterFlywheel_becomes n _ s)
  case lost =>
    have guard : (decide ((phAt s n).st = .flywheel) && decide (fwLimit s ≤ (phAt s n).fw)) = true := by simp [flywheel, spent]
    exact completes_does rfl up (if_pos guard) ((enterLost_becomes n s).and (afterState_statesKept _))
  case lockedOut =>
    refine completes_does rfl up (t := enterFlywheel n 3 (leaveRange n f s)) (by simp [out, inRange, locked, leaveRange, ofBool]) ?_
    exact (enterFlywheel_becomes n 3 _).after (leaveRange_statesKept n f s)
  case acquiringOut =>
    refine completes_does rfl up (t := updPh n (fun p => { p with st := .unlocked, fitErr := [] }) (leaveRange n f s))
      (by simp [out, inRange, acquiring, leaveRange, ofBool]) ?_
    exact (updPh_becomes n _ rfl).after (leaveRange_statesKept n f s)
  case regain =>
    have guard : ((phAt s n).tracked && (phAt s n).inRange && mptEn s n &&
        (decide ((phAt s n).st = .flywheel) || (decide ((phAt s n).st = .acquiring) && decide (lockCycles s ≤ (phAt s n).good)))) = true := by
      simp [flywheel, tracked, inRange, en]
    exact completes_does rfl up (if_pos guard)
      (((regainLock_becomes n a s).and (afterState_statesKept _)).and (syncLeafRef_statesKept _))

end

section
/-! The mains phase tracker (01): edges, wraps, the snapshot, and the writes of MPT_CTRL. -/
namespace Sys2Proof.Machine

/-! ### Edges on a zero-crossing input (01 R16, R17, R693) -/

/-- What an edge makes of a phase that takes it at or after its predicted crossing. -/
def PhaseS.takeEdge (off : Word) (now : Nat) (p : PhaseS) : PhaseS := { p with edge := some off, edgeAt := some now }

theorem updPh_congr {n : Phase} {f g : PhaseS → PhaseS} (s : State) (h : f (phAt s n) = g (phAt s n)) :
    updPh n f s = updPh n g s := by
  have h' : f s.mpt.ph[n.val] = g s.mpt.ph[n.val] := h
  simp only [updPh, upd, h']

/-! ### Wraps (01 R11) -/

theorem ownStepApply_none {n : Phase} {s : State} (none : (phAt s n).step = none) : ownStepApply n s = s := by
  simp only [ownStepApply, none]

theorem refStepApply_none {s : State} (none : pendStep s.mpt = none) : refStepApply s = s := by
  simp only [refStepApply, none]

/-- The evaluation of the cycle leaves the angle and the count. -/
theorem cycleEval_acc_cyc (src : Nat) (m : CycleMeas) (p : PhaseS) :
    (cycleEval src m p).cyc = p.cyc ∧ (cycleEval src m p).acc = p.acc := ⟨rfl, rfl⟩

/-- One cycle is counted and taken off the angle; what else the wrap does leaves both. -/
theorem phaseWrap_counts {n : Phase} (m : CycleMeas) {s : State} (noStep : (phAt s n).step = none) :
    (phAt (phaseWrap n m s) n).cyc = (phAt s n).cyc + 1 ∧ (phAt (phaseWrap n m s) n).acc = (phAt s n).acc - cycle48 := by
  unfold phaseWrap
  extract_lets -merge +onlyGivenNames counted stepped evaluated
  have hCounted : phAt counted n = { phAt s n with acc := (phAt s n).acc - cycle48, cyc := (phAt s n).cyc + 1 } :=
    phAt_updPh_same ..
  have hStepped : stepped = counted := ownStepApply_none (by rw [hCounted]; exact noStep)
  have hRotated : phAt (if n = 0 then rotationCheck evaluated else evaluated) n = phAt evaluated n := by
    split
    · exact phAt_rotationCheck ..
    · rfl
  rw [phAt_syncLeafRef, hRotated, phAt_updPh_same, hStepped]
  obtain ⟨cyc, acc⟩ := cycleEval_acc_cyc (mptSrc counted n) (if adcRuns counted n then m else { m with fit := none }) (phAt counted n)
  rw [cyc, acc, hCounted]
  exact ⟨rfl, rfl⟩

/-- The pending step is made of its two parts alone. -/
theorem pendStep_congr {m m' : Mpt} (bias : m'.stepBias = m.stepBias) (regain : m'.stepRegain = m.stepRegain) :
    pendStep m' = pendStep m := by
  simp only [pendStep, bias, regain]

theorem refWrap_noStep {s : State} (noStep : pendStep s.mpt = none) :
    refWrap s = { s with mpt := { s.mpt with refAcc := s.mpt.refAcc - cycle48, refCyc := s.mpt.refCyc + 1 } } := by
  have still : ∀ acc cyc, pendStep { s.mpt with refAcc := acc, refCyc := cyc } = none :=
    fun _ _ => (pendStep_congr rfl rfl).trans noStep
  simp only [refWrap, refStepApply, still, ite_self]

end Sys2Proof.Machine

open Sys2Proof Sys2Proof.Machine

/-- Settles O11: the guards of an edge decide which of the three updates it makes; a wrap without a pending step comes down to its
count; the snapshot copies what stands. -/
theorem cyclesAndSnapshots : Obligations.CyclesAndSnapshots := by
  intro n s up
  refine ⟨fun open_ tracks near fresh late => ?taken, fun open_ tracks far fresh noEarly quiet => ?spurious, fun blank => ?blanked,
    fun m noStep => ?phase, fun m noStep => ?reference, fun v go => ?snapshot⟩
  case taken =>
    have notEarly : ¬ sAng (edgeOffset (phAt s n)) < 0 := Int.not_lt.2 late
    refine completes_does rfl up (t := updPh n (PhaseS.takeEdge (edgeOffset (phAt s n)) s.now) s)
      (by simp [open_, near, fresh, notEarly, tracks]; rfl) ?_
    have taken := phAt_updPh_same n (PhaseS.takeEdge (edgeOffset (phAt s n)) s.now) s
    exact ⟨congrArg PhaseS.edge taken, congrArg PhaseS.edgeAt taken⟩
  case spurious =>
    have idle : (if sAng (edgeOffset (phAt s n)) < 0 then (phAt s n).edgeEarly else (phAt s n).edge) = none := by
      rw [fresh, noEarly, ite_self]
    refine completes_does rfl up (t := updPh n (fun p => { p with spur := p.spur + 1 }) s)
      (by simp [open_, far, tracks, quiet, idle]) ?_
    exact phAt_updPh_same n _ s
  case blanked => exact completes_does rfl up (t := s) (by simp [blank]) rfl
  case phase =>
    exact completes_does rfl up (t := phaseWrap n m s) (dif_pos n.isLt) (phaseWrap_counts m noStep)
  case reference =>
    exact completes_does rfl up (refWrap_noStep noStep) ⟨rfl, rfl⟩
  case snapshot =>
    exact completes_hostDoes (f := mptSnap v) rfl up (fun w x => if_pos go) fun w x => ⟨rfl, rfl⟩

namespace Sys2Proof.Machine

/-! ### The writes of MPT_CTRL (01 R33, R35, R48, R49) -/

/-- What a write of MPT_CTRL does, part by part: the fields, each phase whose EN is cleared, the reference rewritten, the bias
cleared. -/
def ctrlSet (v : Word) (s : State) : State := { s with mpt := { s.mpt with ctrl := mptCtrlValue s.mpt.ctrl v } }

def ctrlOff (v old : Word) (n : Phase) (s : State) : State :=
  if bitAt old n.val && !bitAt (mptCtrlValue old v) n.val then disablePhase n s else s

def ctrlRef (v old : Word) (s : State) : State := if (old ^^^ mptCtrlValue old v) &&& 0x3C0 ≠ 0 then refRewrite s else s

def ctrlBias (v : Word) (s : State) : State := if bitAt v 17 then biasClear s else s

theorem mptCtrlWrite_parts (v : Word) (s : State) : mptCtrlWrite v s =
    syncLeafRef (ctrlBias v (ctrlRef v s.mpt.ctrl (ctrlOff v s.mpt.ctrl 2 (ctrlOff v s.mpt.ctrl 1
      (ctrlOff v s.mpt.ctrl 0 (ctrlSet v s)))))) := rfl

theorem ctrlOff_none {v old : Word} {n : Phase} (h : bitAt old n.val = true → bitAt (mptCtrlValue old v) n.val = true) (s : State) :
    ctrlOff v old n s = s := by
  refine if_neg ?_
  cases e : bitAt old n.val with
  | false => simp
  | true => simp [h e]

theorem disablePhase_becomes (n : Phase) (s : State) : Becomes n .unlocked s (disablePhase n s) := by
  unfold disablePhase
  split
  · next unlocked =>
    intro m
    split
    · next same => rw [same, unlocked]
    · rfl
  · exact (enterLost_becomes n s).and (afterState_statesKept _)
  · exact (updPh_becomes n s rfl).and (afterState_statesKept _)

/-- A phase in UNLOCKED stays there whatever phase is disabled. -/
theorem ctrlOff_unlocked (v old : Word) (m : Phase) {n : Phase} {s : State} (h : (phAt s n).st = .unlocked) :
    (phAt (ctrlOff v old m s) n).st = .unlocked := by
  unfold ctrlOff
  split
  · rw [disablePhase_becomes m s n, h, ite_self]
  · exact h

theorem ctrlOff_disables {v old : Word} {n : Phase} (was : bitAt old n.val = true) (off : bitAt (mptCtrlValue old v) n.val = false)
    (s : State) : (phAt (ctrlOff v old n s) n).st = .unlocked := by
  rw [ctrlOff, if_pos (by simp [was, off]), disablePhase_becomes n s n, if_pos rfl]

/-- A phase whose EN is cleared is in UNLOCKED after all three have been looked at. -/
theorem ctrlOffs_disable {v old : Word} {n : Phase} (was : bitAt old n.val = true) (off : bitAt (mptCtrlValue old v) n.val = false)
    (s : State) : (phAt (ctrlOff v old 2 (ctrlOff v old 1 (ctrlOff v old 0 s))) n).st = .unlocked := by
  match n with
  | 0 => exact ctrlOff_unlocked _ _ 2 (ctrlOff_unlocked _ _ 1 (ctrlOff_disables was off s))
  | 1 => exact ctrlOff_unlocked _ _ 2 (ctrlOff_disables was off _)
  | 2 => exact ctrlOff_disables was off _

theorem biasClear_statesKept (s : State) : StatesKept s (biasClear s) := by
  unfold biasClear
  split
  · exact .refl s
  · exact raisePending_statesKept { s with mpt := { s.mpt with stepBias := some (wrapSigned (-(sAng s.mpt.bias))) } }

theorem refRewrite_statesKept (s : State) : StatesKept s (refRewrite s) := by
  unfold refRewrite
  extract_lets -merge +onlyGivenNames m had _ unchosen chosen r
  have hChosen : StatesKept s chosen := by
    refine StatesKept.trans (t := unchosen) ?_ (rechooseRef_statesKept unchosen)
    unfold unchosen
    split
    · exact fun _ => rfl
    · exact .refl s
  split
  · exact hChosen
  split
  · split
    · exact hChosen
    · exact hChosen.trans (raisePending_statesKept { chosen with mpt := { chosen.mpt with stepBias := _ } })
  · split
    · next x _ =>
      have regained : StatesKept chosen (updPh r (fun p => { p with step := none })
          { chosen with mpt := { chosen.mpt with stepRegain := some x } }) :=
        updPh_statesKept r { chosen with mpt := { chosen.mpt with stepRegain := some x } } fun _ => rfl
      exact hChosen.trans (regained.trans (raisePending_statesKept _))
    · exact hChosen

theorem ctrlRef_statesKept (v old : Word) (s : State) : StatesKept s (ctrlRef v old s) := by
  unfold ctrlRef
  split
  · exact refRewrite_statesKept s
  · exact .refl s

theorem ctrlBias_statesKept (v : Word) (s : State) : StatesKept s (ctrlBias v s) := by
  unfold ctrlBias
  split
  · exact biasClear_statesKept s
  · exact .refl s

/-- 01 R49. -/
theorem mptCtrlWrite_disables {v : Word} {n : Phase} {s : State} (was : bitAt s.mpt.ctrl n.val = true)
    (off : bitAt (mptCtrlValue s.mpt.ctrl v) n.val = false) : (phAt (mptCtrlWrite v s) n).st = .unlocked := by
  rw [mptCtrlWrite_parts, phAt_syncLeafRef, ctrlBias_statesKept, ctrlRef_statesKept]
  exact ctrlOffs_disable was off _

/-- The reference angle of a leaf is no part of a pending step or of the choice of the reference. -/
theorem syncLeafRef_step (s : State) : (syncLeafRef s).mpt.stepBias = s.mpt.stepBias ∧ (syncLeafRef s).mpt.bias = s.mpt.bias := by
  unfold syncLeafRef
  split <;> exact ⟨rfl, rfl⟩

theorem syncLeafRef_refPhase (s : State) : (syncLeafRef s).mpt.refPhase = s.mpt.refPhase := by
  unfold syncLeafRef
  split <;> rfl

/-! The forced reference (01 R33): each part of the rewrite that follows the choice leaves it. -/

theorem changeRef_refPhase (r : Phase) (s : State) : (changeRef r s).mpt.refPhase = r := by
  unfold changeRef
  extract_lets -merge +onlyGivenNames m old bias stepped mpt rebuilt announced
  have hAnnounced : announced.mpt = rebuilt.mpt := raise_mpt ..
  rw [raisePending_mpt, hAnnounced]

theorem rechooseRef_forced {s : State} (head : usesLeafRef s = false) (forced : fld s.mpt.ctrl 8 2 = 1) :
    (rechooseRef s).mpt.refPhase = phaseOf (fld s.mpt.ctrl 6 2) := by
  rw [rechooseRef, if_neg (by simp [head]), if_pos forced]
  dsimp only
  split
  · next same => exact same.symm
  · exact changeRef_refPhase ..

theorem refRewrite_forced {s : State} (head : usesLeafRef s = false) (forced : fld s.mpt.ctrl 8 2 = 1) :
    (refRewrite s).mpt.refPhase = phaseOf (fld s.mpt.ctrl 6 2) := by
  have auto : ¬ fld s.mpt.ctrl 8 2 = 0 := by omega
  have chosen := rechooseRef_forced head forced
  unfold refRewrite
  extract_lets -merge +onlyGivenNames m had _ unchosen u r
  have hu : u.mpt.refPhase = phaseOf (fld s.mpt.ctrl 6 2) := by
    unfold u unchosen m
    rwa [if_neg auto]
  split
  · exact hu
  split
  · split
    · exact hu
    · rwa [raisePending_mpt]
  · split
    · rwa [raisePending_mpt]
    · exact hu

/-- A write that clears no EN and not the bias, and changes REF_MODE or REF_FORCE to a forced phase, makes it the reference
(01 R33, R48). -/
theorem mptCtrlWrite_forces {v : Word} {s : State} (head : usesLeafRef s = false) (noClear : bitAt v 17 = false)
    (noOff : ∀ n : Phase, bitAt s.mpt.ctrl n.val = true → bitAt (mptCtrlValue s.mpt.ctrl v) n.val = true)
    (changes : (s.mpt.ctrl ^^^ mptCtrlValue s.mpt.ctrl v) &&& 0x3C0 ≠ 0) (forced : fld (mptCtrlValue s.mpt.ctrl v) 8 2 = 1) :
    (mptCtrlWrite v s).mpt.refPhase = phaseOf (fld (mptCtrlValue s.mpt.ctrl v) 6 2) := by
  rw [mptCtrlWrite_parts, syncLeafRef_refPhase, ctrlBias, if_neg (by simp [noClear]), ctrlOff_none (noOff 2), ctrlOff_none (noOff 1),
    ctrlOff_none (noOff 0), ctrlRef, if_pos changes]
  exact refRewrite_forced (s := ctrlSet v s) head forced

/-- A write with BIAS_CLR that leaves the fields as they are makes minus the bias a pending step and keeps the bias (01 R35). -/
theorem mptCtrlWrite_biasClr {v : Word} {s : State} (head : usesLeafRef s = false)
    (same : mptCtrlValue s.mpt.ctrl (v ||| 0x20000) = s.mpt.ctrl) :
    (mptCtrlWrite (v ||| 0x20000) s).mpt.stepBias = some (wrapSigned (-(sAng s.mpt.bias))) ∧
      (mptCtrlWrite (v ||| 0x20000) s).mpt.bias = s.mpt.bias := by
  have set : ctrlSet (v ||| 0x20000) s = s := by rw [ctrlSet, same]
  have clear : bitAt (v ||| 0x20000) 17 = true := by simp [bitAt]
  have noOff : ∀ n : Phase, bitAt s.mpt.ctrl n.val = true → bitAt (mptCtrlValue s.mpt.ctrl (v ||| 0x20000)) n.val = true :=
    fun n h => same.symm ▸ h
  rw [mptCtrlWrite_parts, set, ctrlOff_none (noOff 0), ctrlOff_none (noOff 1), ctrlOff_none (noOff 2), ctrlRef,
    if_neg (by rw [same, BitVec.xor_self]; decide), ctrlBias, if_pos clear, biasClear, if_neg (by simp [head]),
    (syncLeafRef_step _).1, (syncLeafRef_step _).2, raisePending_mpt]
  exact ⟨rfl, rfl⟩

end Sys2Proof.Machine

/-- Settles O12, by the parts of a write of MPT_CTRL. -/
theorem mptControl : Obligations.MptControl := by
  intro s v up head
  refine ⟨fun same => ?bias, fun noClear noOff changes forced => ?forced, fun n was off => ?disabled⟩
  case bias =>
    exact completes_host (f := mptCtrlWrite (v ||| 0x20000)) rfl up fun w x => mptCtrlWrite_biasClr head same
  case forced =>
    exact completes_host (f := mptCtrlWrite v) rfl up fun w x => mptCtrlWrite_forces head noClear noOff changes forced
  case disabled => exact completes_host (f := mptCtrlWrite v) rfl up fun w x => mptCtrlWrite_disables was off

end

section
/-! The quire scheduler (02): the boundaries of folios and quires, and the writes of its registers. -/
namespace Sys2Proof.Machine

/-! ### The boundary of a folio (02 R54) -/

/-- A folio that begins leaves the numbers of the quire. -/
@[simp] theorem folioEnter_qr (s : State) : (folioEnter s).qr = s.qr := (folioEnter_keeps s).qr_eq rfl

/-! ### The beginning of a quire (02 R53, R56, R71) -/

/-- A swap at the start of a quire changes the bank, the request and the partition in force. -/
theorem swapIfDue_qr (s : State) : ∃ a q p, (swapIfDue s).qr = { s.qr with active := a, swapQ := q, partNow := p } := by
  unfold swapIfDue
  split
  · exact ⟨_, _, _, rfl⟩
  split
  · split
    · exact ⟨_, _, _, rfl⟩
    · exact ⟨_, _, _, raise_qr ..⟩
  · exact ⟨_, _, _, rfl⟩

/-- The quire begins with its number in folio 0; of the rest of the scheduler's numbers only those of a swap may change. -/
theorem beginQuire_qr (q : Word) (s : State) : ∃ a r p, (beginQuire q s).qr =
    { s.qr with qnum := q, cycle := 0, folio := 0, slipping := false, active := a, swapQ := r, partNow := p } := by
  unfold beginQuire
  extract_lets -merge +onlyGivenNames t0 _ _ _ numbered lapsed
  have hLapsed : lapsed.qr = numbered.qr := by
    unfold lapsed
    split
    · exact (lapseRealign_keeps numbered).qr_eq rfl
    · rfl
  obtain ⟨a, r, p, swapped⟩ := swapIfDue_qr lapsed
  refine ⟨a, r, p, ?_⟩
  rw [folioEnter_qr, (tamperDue_keeps _).qr_eq rfl, (roleMaps_keeps _).qr_eq rfl, (groupSwitch_keeps _).qr_eq rfl, (creditReset_keeps _).qr_eq rfl,
    swapped, hLapsed]

section
variable (q : Word) (s : State)

theorem beginQuire_qnum : (beginQuire q s).qr.qnum = q := by
  obtain ⟨_, _, _, began⟩ := beginQuire_qr q s
  rw [began]

theorem beginQuire_folio : (beginQuire q s).qr.folio = 0 := by
  obtain ⟨_, _, _, began⟩ := beginQuire_qr q s
  rw [began]

theorem beginQuire_cycle : (beginQuire q s).qr.cycle = 0 := by
  obtain ⟨_, _, _, began⟩ := beginQuire_qr q s
  rw [began]

theorem beginQuire_slipping : (beginQuire q s).qr.slipping = false := by
  obtain ⟨_, _, _, began⟩ := beginQuire_qr q s
  rw [began]

theorem beginQuire_st : (beginQuire q s).qr.st = s.qr.st := by
  obtain ⟨_, _, _, began⟩ := beginQuire_qr q s
  rw [began]

theorem beginQuire_run : (beginQuire q s).qr.run = s.qr.run := by
  obtain ⟨_, _, _, began⟩ := beginQuire_qr q s
  rw [began]

theorem beginQuire_slipQ : (beginQuire q s).qr.slipQ = s.qr.slipQ := by
  obtain ⟨_, _, _, began⟩ := beginQuire_qr q s
  rw [began]

end

/-! ### The end of a quire at a head -/

/-- What a quire's end turns over at a head leaves the requests of a stop and of a realignment. -/
theorem quireEnd_head {s : State} (head : isLeaf s = false) : (quireEnd s).qrx.stopReq = s.qrx.stopReq ∧
    (quireEnd s).qrx.seniorRealign = s.qrx.seniorRealign ∧ (quireEnd s).qrx.realignQ = s.qrx.realignQ := by
  have turned : (onceClear (lingerStep s)).qrx = s.qrx := by rw [(onceClear_keeps _).qrx_eq rfl, (lingerStep_keeps _).qrx_eq rfl]
  have role : isLeaf (onceClear (lingerStep s)) = isLeaf s := rfl
  rw [quireEnd, role, if_neg (by simp [head])]
  generalize onceClear (lingerStep s) = u at turned
  unfold headTurn
  extract_lets -merge +onlyGivenNames quiet _ _ _ counted
  have hQuiet : quiet.qrx = u.qrx := (quietTurn_keeps u).qrx_eq rfl
  have hResp : (counted.lt.rekey.foldl (fun s n => sendJoinResp (eUid (entryAt s n)) n 0 s) counted).qrx = counted.qrx :=
    List.foldlRecOn (motive := fun t => t.qrx = counted.qrx) _ _ rfl fun t ht n _ => ((sendJoinResp_keeps _ n 0 t).qrx_eq rfl).trans ht
  rw [hResp, ← turned, ← hQuiet]
  exact ⟨rfl, rfl, rfl⟩

@[simp] theorem quireEnd_qr (s : State) : (quireEnd s).qr = s.qr := (quireEnd_keeps s).qr_eq rfl

/-- With nothing requested the next quire begins (02 R53). -/
theorem quireNext_begins {s : State} (head : isLeaf s = false) (noStop : s.qrx.stopReq = false)
    (noSenior : s.qrx.seniorRealign = false) (noRealign : s.qrx.realignQ = none) :
    quireNext s = beginQuire (s.qr.qnum + 1) s := by
  simp [quireNext, head, noStop, noSenior, noRealign]

/-- The slip is over and measured; the quire realigned to has not begun (02 R90). -/
def realigned (s : State) : State :=
  let us := (roundDiv ((s.now - s.qrx.slipStart : Nat) : Int) 400).toNat
  raise 0x0205 0xFF [(0, 4, (s.qr.qnum + 1).toNat), (4, 4, us)]
    (lapseRealign { s with qr := { s.qr with st := .mains, slip := BitVec.ofNat 32 us, slipQ := s.qr.qnum + 1 } })

theorem realigned_qr (s : State) : (realigned s).qr = { s.qr with
    st := .mains
    slip := BitVec.ofNat 32 (roundDiv ((s.now - s.qrx.slipStart : Nat) : Int) 400).toNat
    slipQ := s.qr.qnum + 1 } := raise_qr ..

/-- The scheduler has started, its first quire q to begin (02 R94). -/
def started (q : Word) (s : State) : State :=
  raise 0x0201 0xFF [(0, 4, q.toNat), (4, 1, 1), (5, 1, s.qr.active.val)] { s with
    qr := { s.qr with st := .mains }
    qrx := { s.qrx with fwQuire := none, stopReq := false } }

theorem started_qr (q : Word) (s : State) : (started q s).qr = { s.qr with st := .mains } := raise_qr ..

/-! ### Banks and swaps (02 R68 to R73) -/

theorem cancelSwap_none {s : State} (cause : Nat) (none : s.qr.swapQ = none) : cancelSwap cause s = s := by
  simp only [cancelSwap, none]

/-- No swap is pending after it is cancelled, and the rest of the scheduler's numbers stay. -/
theorem cancelSwap_qr (cause : Nat) (s : State) : (cancelSwap cause s).qr = { s.qr with swapQ := none } := by
  unfold cancelSwap
  split
  · next none => rw [← none]
  · exact raise_qr ..

theorem bankAt_updBank {b : Nat} (real : b < 2) (f : Bank → Bank) (s : State) : bankAt (updBank b f s) b = f (bankAt s b) := by
  simp [bankAt, updBank, real]

/-- A write to the bank that is not active, with no swap pending, changes that bank alone. -/
theorem bankWrite_inactive {b : Nat} {s : State} (f : Bank → Bank) (other : b ≠ s.qr.active.val) (noSwap : s.qr.swapQ = none) :
    bankWrite b f s = updBank b f s := by
  rw [bankWrite, if_neg other, cancelSwap_none 1 noSwap]

/-- A swap is taken with a valid bank and a quire far enough ahead, and refused otherwise (02 R70). -/
theorem mapSwapWrite_qr (v : Word) (s : State) : (mapSwapWrite v s).qr =
    if bankValid s (inactive s) = true ∧ 2 ≤ (v - s.qr.qnum).toNat ∧ (v - s.qr.qnum).toNat ≤ 2 ^ 31 then
      { s.qr with swapQ := some v, swapReg := v } else { s.qr with refused := true } := by
  unfold mapSwapWrite
  extract_lets -merge +onlyGivenNames d _ refuse
  have hRefuse : ∀ c, (refuse c).qr = { s.qr with refused := true } := fun c => raise_qr ..
  split
  · next bad =>
    rw [hRefuse, if_neg (by simp [by simpa using bad])]
  split
  · next far => rw [hRefuse, if_neg (by omega)]
  · next valid near => rw [if_pos ⟨by simpa using valid, by omega⟩]

/-! ### The run bit (02 R94, R95) -/

theorem qrCtrlWrite_starts {v : Word} {s : State} (go : bitAt v 0 = true) (stopped : s.qr.run = false) (st : s.qr.st = .stopped) :
    qrCtrlWrite v s = { s with
      qr := { s.qr with run := true, nominal := bitAt v 1, st := .waiting }
      qrx := { s.qrx with stopReq := false } } := by
  simp [qrCtrlWrite, go, stopped, st]

theorem qrCtrlWrite_stops {v : Word} {s : State} (off : bitAt v 0 = false) (running : s.qr.run = true)
    (waits : s.qr.st ≠ .waiting) (stands : s.qr.st ≠ .stopped) :
    qrCtrlWrite v s = { s with qr := { s.qr with run := false }, qrx := { s.qrx with stopReq := true } } := by
  simp [qrCtrlWrite, off, running, waits, stands]

end Sys2Proof.Machine

open Sys2Proof Sys2Proof.Machine

/-- Settles O14: each write comes down to the update of one bank or register, or to a refusal. -/
theorem quireControl : Obligations.QuireControl := by
  intro s v up
  refine ⟨fun ok other noSwap real => ?data, fun g other noSwap => ?geom, ?swap, fun n => ?part, fun stopped st => ?run,
    fun running st => ?stop, fun head follower first missed => ?senior⟩
  case data =>
    have written := bankAt_updBank (s := s) real
      (fun k => { k with roles := spPut 0 (96 * mapPhase s.qr.mapAddr + mapWord s.qr.mapAddr) (v &&& 0x77777777) k.roles })
    exact completes_hostDoes (f := mapDataWrite v) rfl up
      (fun w x => congrArg mapAdvance ((if_pos ok).trans (bankWrite_inactive _ other noSwap))) fun w x => congrArg Bank.roles written
  case geom =>
    have row : ∀ u : State, (match (if g = 0 then MapReg.geom0 else .geom1) with
        | .data => mapDataWrite v u | .geom0 => qrGeomWrite 0 v u | .geom1 => qrGeomWrite 1 v u) = qrGeomWrite g.val v u := by
      intro u
      match g with
      | 0 => rfl
      | 1 => rfl
    have written := bankAt_updBank (s := s) g.isLt (fun k => { k with geom := v &&& 0x03FF031F })
    exact completes_hostDoes (f := qrGeomWrite g.val v) (congrArg (run s) (funext fun u => row (wakeBy 2 u))) up
      (fun w x => bankWrite_inactive _ (fun same => other (Fin.ext same)) noSwap) fun w x => ⟨congrArg Bank.geom written, rfl⟩
  case swap => exact completes_host (f := mapSwapWrite v) rfl up fun w x => mapSwapWrite_qr v (s.woken w x)
  case part =>
    refine completes_host (f := qrPartnWrite n.val v) rfl up fun w x => ?_
    have cancelled := cancelSwap_qr 2 (s.woken w x)
    exact ⟨congrArg Qr.swapQ cancelled, congrArg (vupd · n.val fun _ => v &&& 0x03FF03FF) (congrArg Qr.partPend cancelled :)⟩
  case run =>
    have on : bitAt (v ||| 1) 0 = true := by simp [bitAt]
    have nominal : bitAt (v ||| 1) 1 = bitAt v 1 := by simp [bitAt]
    refine completes_hostDoes (f := qrCtrlWrite (v ||| 1)) rfl up (fun w x => qrCtrlWrite_starts on stopped st) fun w x => ?_
    rw [nominal]
    exact ⟨rfl, rfl⟩
  case stop =>
    have off : bitAt (v &&& 0xFFFFFFFE) 0 = false := by simp [bitAt]
    have waits : s.qr.st ≠ .waiting := by rcases st with h | h <;> simp [h]
    have stands : s.qr.st ≠ .stopped := by rcases st with h | h <;> simp [h]
    exact completes_hostDoes (f := qrCtrlWrite (v &&& 0xFFFFFFFE)) rfl up
      (fun w x => qrCtrlWrite_stops off running waits stands) fun w x => ⟨rfl, rfl⟩
  case senior =>
    exact completes_does rfl up (if_pos (by simp [head, follower, first, missed])) ⟨raise_qrx .., raise_qr ..⟩

namespace Sys2Proof.Machine

/-! ### The margin of a folio (02 R57, R74, R76) -/

/-- The margin of the folio in progress has passed. -/
def marginPassed (s : State) : State := { s with qrx := { s.qrx with marginDone := true } }

/-- The ports whose folio in progress is a BEACON folio. -/
def beaconPorts (s : State) : List Nat := (List.range 3).filter fun p => decide (roleNow s p = rBeacon)

theorem beaconPorts_marginPassed (s : State) : beaconPorts (marginPassed s) = beaconPorts s := rfl

/-- What the margin does once it is recorded: the beacon of a BEACON folio goes out. -/
def atMargin (s : State) : State :=
  if isLeaf s || (beaconPorts s).isEmpty || s.pwr.st = .holdover || !lineOpen s then s
  else if !follows s then sendBeacon (if s.qr.folio = 0 then 0 else 2) (beaconPorts s) s
  else if juniorReady s then sendBeacon (if s.qr.folio = fld (partWord s (myHeadId s)) 16 10 then 1 else 2) (beaconPorts s) s
  else s

theorem atMargin_noPorts {s : State} (none : beaconPorts s = []) : atMargin s = s := if_pos (by simp [none])

theorem atMargin_spine {s : State} (head : isLeaf s = false) (ports : (beaconPorts s).isEmpty = false) (awake : s.pwr.st ≠ .holdover)
    (open_ : lineOpen s = true) (senior : follows s = false) (first : s.qr.folio = 0) :
    atMargin s = sendBeacon 0 (beaconPorts s) s := by
  simp [atMargin, head, ports, awake, open_, senior, first]

/-- The spine beacon of a quire that does not fit its folio is skipped (02 R76). -/
theorem sendBeacon_tooLong {ps : List Nat} {s : State} (good : s.rbm.bad = false) (key : (groupSlot s).isSome = true)
    (noRealign : needRealign s = false) (tooLong : ticksToEnd s < ticksUs (airtimeOf s (.robust (bcfg s))
      (frameBytes tyBeacon bcast false (beaconBody 0 (beaconTod 0 (ps.filter (portReady s)) s) s).length))) :
    sendBeacon 0 ps s = beaconSkip 0 s := by
  have noDraw : predictSlip 0 s = s := if_neg (by simp [noRealign])
  have may : ¬ (s.rbm.bad || (groupSlot s).isNone) = true := by simp [good, Option.isSome_iff_ne_none.1 key]
  rw [sendBeacon, if_neg may, noDraw]
  exact if_pos tooLong

/-- A beacon skipped at the margin is counted, and nothing goes on the line. -/
theorem beaconSkip_counts {kind : Nat} (own : kind ≠ 2) (s : State) :
    (beaconSkip kind s).qr = { s.qr with beaconSkip := inc32 s.qr.beaconSkip } ∧ (beaconSkip kind s).line = s.line := by
  rw [beaconSkip, if_neg own]
  exact ⟨raise_qr .., raise_line ..⟩

theorem completes_folioMargin {s t : State} {P : State → Prop} (up : devUp s = true) (runs : qrRunning s = true)
    (due : s.qrx.marginDone = false) (does : atMargin (marginPassed s) = t) (p : P t) (free : QueueFree P := by intros _ _; rfl) :
    Completes .folioMargin s P :=
  completes_does rfl up ((if_neg (by simp [runs, due])).trans does) p free

end Sys2Proof.Machine

/-- Settles O13: a boundary comes down to the beginning of a folio or of a quire, which set the numbers of the scheduler; a margin
without a beacon to send to nothing, and one whose beacon does not fit to its count. -/
theorem quireBoundaries : Obligations.QuireBoundaries := by
  intro s up
  refine ⟨fun runs more => ?folio, fun runs last head noStop noSenior noRealign => ?quire, fun slips noStop => ?realign,
    fun waits on ref confirmed head senior => ?start, fun runs due head none => ?noBeacon,
    fun runs due head senior first some awake open_ good key noRealign tooLong => ?skip⟩
  case folio =>
    refine completes_does rfl up (if_pos (by simp [runs, more])) ((folioEnter_qr _).trans ?_)
    rfl
  case quire =>
    obtain ⟨stop, senior, realign⟩ := quireEnd_head head
    have role : isLeaf (quireEnd s) = isLeaf s := congrArg Cln.role ((quireEnd_keeps s).cln_eq rfl)
    have begins : quireNext (quireEnd s) = beginQuire (s.qr.qnum + 1) (quireEnd s) := by
      rw [quireNext_begins (role.trans head) (stop.trans noStop) (senior.trans noSenior) (realign.trans noRealign), quireEnd_qr]
    refine completes_does rfl up ((if_pos (by simp [runs, last])).trans begins) ?_
    exact ⟨beginQuire_qnum .., beginQuire_folio .., beginQuire_cycle ..,
      (beginQuire_st ..).trans (congrArg Qr.st (quireEnd_qr s))⟩
  case realign =>
    refine completes_does rfl up (t := beginQuire (s.qr.qnum + 1) (realigned s))
      (by simp [slips, noStop, lapseRealign, realigned]) ?_
    have qr := realigned_qr s
    exact ⟨beginQuire_qnum .., beginQuire_folio .., (beginQuire_st ..).trans (congrArg Qr.st qr), beginQuire_slipping ..,
      (beginQuire_slipQ ..).trans (congrArg Qr.slipQ qr)⟩
  case start =>
    have own : ledBy s = Option.none := by simp [ledBy, senior]
    refine completes_does rfl up (t := beginQuire s.qr.qnumInit (started s.qr.qnumInit s))
      (by simp [waits, on, ref, confirmed, senior, own, started]) ?_
    have qr := started_qr s.qr.qnumInit s
    exact ⟨beginQuire_qnum .., beginQuire_folio .., (beginQuire_st ..).trans (congrArg Qr.st qr),
      (beginQuire_run ..).trans ((congrArg Qr.run qr).trans on)⟩
  case noBeacon =>
    have empty : beaconPorts s = [] := List.filter_eq_nil_iff.2 fun p hp => by simpa using none p (List.mem_range.1 hp)
    exact completes_folioMargin up runs due (atMargin_noPorts empty) ⟨rfl, rfl, rfl⟩
  case skip =>
    have ports : (beaconPorts s).isEmpty = false := by
      obtain ⟨p, hp, beacon⟩ := List.any_eq_true.1 some
      exact List.isEmpty_eq_false_iff.2 (List.ne_nil_of_mem (List.mem_filter.2 ⟨hp, beacon⟩))
    have skipped : atMargin (marginPassed s) = beaconSkip 0 (marginPassed s) :=
      (atMargin_spine (s := marginPassed s) head ports awake open_ senior first).trans
        (sendBeacon_tooLong (s := marginPassed s) good key noRealign tooLong)
    exact completes_folioMargin up runs due skipped (beaconSkip_counts (by decide) (marginPassed s))

end

section
namespace Sys2Proof.Machine

/-- A command whose domain runs completes with what holds of the whole state that its effect comes down to. -/
theorem completes_state {c : Instr} {s t u : State} {P : State → Prop}
    (e : exec c s = .next { (if devUp s then u else s) with pending := s.pending }) (up : devUp s = true) (does : u = t)
    (queue : t.pending = s.pending) (p : P t) : Completes c s P :=
  ⟨_, e, by rw [if_pos up, does, ← queue]; exact p⟩

/-- The same for a command of the always-on domain. -/
theorem completes_aonState {c : Instr} {s t u : State} {P : State → Prop}
    (e : exec c s = .next { (if s.life.aonUp then u else s) with pending := s.pending }) (up : s.life.aonUp = true) (does : u = t)
    (queue : t.pending = s.pending) (p : P t) : Completes c s P :=
  ⟨_, e, by rw [if_pos up, does, ← queue]; exact p⟩

/-- A wake changes at most the exit in progress and the time awake is counted from. -/
theorem wakeBy_exits (src : Nat) (s : State) :
    ∃ e a, wakeBy src s = s.woken { s.pwr with exiting := e } { s.slp with awakeFrom := a } := by
  unfold wakeBy
  split
  · exact ⟨_, _, rfl⟩
  · exact ⟨s.pwr.exiting, s.slp.awakeFrom, rfl⟩

/-- So a command of the host completes with what holds of its effect whatever these two are. -/
theorem completes_hostExits {c : Instr} {s : State} {f : State → State} {P : State → Prop} (e : exec c s = runHost s f)
    (up : devUp s = true) (p : ∀ x a, P (f (s.woken { s.pwr with exiting := x } { s.slp with awakeFrom := a })))
    (free : QueueFree P := by intros _ _; rfl) : Completes c s P := by
  obtain ⟨x, a, woken⟩ := wakeBy_exits 2 s
  exact completes_runHost e up (by rw [woken, free]; exact p x a)

end Sys2Proof.Machine
end

section
/-! Fields of a register word, and the entries of the line ports and of the governor (03, 04) after an update. -/
namespace Sys2Proof.Machine

/-! ### Fields -/

theorem fld_testBit (w : Word) (lo len j : Nat) : (fld w lo len).testBit j = (decide (j < len) && bitAt w (lo + j)) := by
  rw [fld, Nat.testBit_mod_two_pow, Nat.testBit_shiftRight]
  rfl

/-- A bit of a word in which a field is set. -/
theorem getLsbD_setBits {w : Nat} (d : BitVec w) (lo len v : Nat) {i : Nat} (h : i < w) :
    ((d &&& ~~~ BitVec.ofNat w ((2 ^ len - 1) <<< lo)) ||| BitVec.ofNat w ((v % 2 ^ len) <<< lo)).getLsbD i =
      if lo ≤ i ∧ i < lo + len then v.testBit (i - lo) else d.getLsbD i := by
  simp only [BitVec.getLsbD_or, BitVec.getLsbD_and, BitVec.getLsbD_not, BitVec.getLsbD_ofNat, h, Nat.testBit_shiftLeft,
    Nat.testBit_two_pow_sub_one, Nat.testBit_mod_two_pow, decide_true, Bool.true_and]
  by_cases above : lo ≤ i
  · have inside : i - lo < len ↔ i < lo + len := by omega
    by_cases below : i < lo + len <;> simp [above, below, inside]
  · simp [above]

theorem bitAt_setFld (w : Word) (lo len v : Nat) {i : Nat} (h : i < 32) :
    bitAt (setFld w lo len v) i = if lo ≤ i ∧ i < lo + len then v.testBit (i - lo) else bitAt w i := getLsbD_setBits w lo len v h

theorem fld_lt (w : Word) (lo len : Nat) : fld w lo len < 2 ^ len := Nat.mod_lt _ (Nat.two_pow_pos _)

theorem fld_setFld {w : Word} {lo len v : Nat} (h : lo + len ≤ 32) : fld (setFld w lo len v) lo len = v % 2 ^ len := by
  apply Nat.eq_of_testBit_eq
  intro j
  rw [fld_testBit, Nat.testBit_mod_two_pow]
  by_cases inside : j < len
  · rw [bitAt_setFld _ _ _ _ (by omega), if_pos (by omega), Nat.add_sub_cancel_left]
  · simp [inside]

theorem bitAt_and_not_one (w : Word) : bitAt (w &&& ~~~1) 0 = false := by
  simp [bitAt]

/-! ### Line ports -/

theorem portS_updPort (p q : Nat) (f : PortS → PortS) (s : State) :
    portS (updPort p f s) q = if p = q ∧ q < 3 then f (portS s q) else portS s q := vget_vupd ..

@[simp] theorem portS_updPort_same (p : Port) (f : PortS → PortS) (s : State) : portS (updPort p.val f s) p.val = f (portS s p.val) := by
  rw [portS_updPort, if_pos ⟨rfl, p.isLt⟩]

theorem portX_updPortX (p q : Nat) (f : PortX → PortX) (s : State) :
    portX (updPortX p f s) q = if p = q ∧ q < 3 then f (portX s q) else portX s q := vget_vupd ..

@[simp] theorem portX_updPortX_same (p : Port) (f : PortX → PortX) (s : State) : portX (updPortX p.val f s) p.val = f (portX s p.val) := by
  rw [portX_updPortX, if_pos ⟨rfl, p.isLt⟩]

@[simp] theorem portX_updPort (p q : Nat) (f : PortS → PortS) (s : State) : portX (updPort p f s) q = portX s q := rfl
@[simp] theorem portS_updPortX (p q : Nat) (f : PortX → PortX) (s : State) : portS (updPortX p f s) q = portS s q := rfl

theorem portS_congr {s t : State} (e : t.afe = s.afe) (p : Nat) : portS t p = portS s p := by simp only [portS, e]
theorem portX_congr {s t : State} (e : t.afe = s.afe) (p : Nat) : portX t p = portX s p := by simp only [portX, e]

@[simp] theorem portS_raise (c i : Nat) (fs : List (Nat × Nat × Nat)) (s : State) (p : Nat) : portS (raise c i fs s) p = portS s p :=
  portS_congr (raise_afe ..) p
@[simp] theorem portX_raise (c i : Nat) (fs : List (Nat × Nat × Nat)) (s : State) (p : Nat) : portX (raise c i fs s) p = portX s p :=
  portX_congr (raise_afe ..) p
@[simp] theorem portS_framesOffPort (p cause q : Nat) (s : State) : portS (framesOffPort p cause s) q = portS s q :=
  portS_congr ((framesOffPort_keeps p cause s).afe_eq rfl) q
@[simp] theorem portX_framesOffPort (p cause q : Nat) (s : State) : portX (framesOffPort p cause s) q = portX s q :=
  portX_congr ((framesOffPort_keeps p cause s).afe_eq rfl) q
@[simp] theorem portS_hostWrote (u q : Nat) (s : State) : portS (hostWrote u s) q = portS s q := rfl
@[simp] theorem portX_hostWrote (u q : Nat) (s : State) : portX (hostWrote u s) q = portX s q := rfl

/-- The vector of the ports read at a port. -/
theorem portS_eq (s : State) (p : Port) : portS s p.val = s.afe.p[p.val] := dif_pos p.isLt

/-! ### The governor's bands and the ports' band C access -/

theorem bandAt_updBand (b k : Nat) (f : AirBand → AirBand) (s : State) :
    bandAt (updBand b f s) k = if b = k ∧ k < 4 then f (bandAt s k) else bandAt s k := vget_vupd ..

theorem cportAt_updC (p q : Nat) (f : CPort → CPort) (s : State) :
    cportAt (updC p f s) q = if p = q ∧ q < 3 then f (cportAt s q) else cportAt s q := vget_vupd ..

@[simp] theorem cportAt_updC_same (p : Port) (f : CPort → CPort) (s : State) : cportAt (updC p.val f s) p.val = f (cportAt s p.val) := by
  rw [cportAt_updC, if_pos ⟨rfl, p.isLt⟩]

end Sys2Proof.Machine
end

section
/-! The registers of the governor (03 R100, R104). -/
namespace Sys2Proof.Machine

theorem airRefuse_air (cause off : Nat) (v : Word) (s : State) :
    (airRefuse cause off v s).air = { s.air with refused := true, cause := BitVec.ofNat 3 cause } := raise_air ..

theorem rechecks_air (s : State) : (rbmRecheck (slotsRecheck s)).air = s.air :=
  ((rbmRecheck_keeps _).air_eq rfl).trans ((slotsRecheck_keeps _).air_eq rfl)

theorem airCtrlWrite_accepted {v : Word} {s : State} (ok : airCtrlFault s v = none) :
    (airCtrlWrite v s).air.ctrl = v &&& 0x71F03 ∧ (airCtrlWrite v s).air.band = s.air.band ∧
      (airCtrlWrite v s).air.refused = s.air.refused := by
  simp only [airCtrlWrite, ok, rechecks_air, and_self]

theorem airCtrlWrite_refused {v : Word} {s : State} {c : Nat} (fault : airCtrlFault s v = some c) :
    (airCtrlWrite v s).air = { s.air with refused := true, cause := BitVec.ofNat 3 c } := by
  simp only [airCtrlWrite, fault, airRefuse_air]

theorem airBudgetWrite_accepted {r : AirReg} {b : Fin 4} {v : Word} {s : State} (ok : budgetOk (airSetReg r v s.air.band[b.val]) = true) :
    airBudgetWrite r b v s = updBand b.val (fun _ => { airSetReg r v s.air.band[b.val] with
      beacon := min (airSetReg r v s.air.band[b.val]).beacon (fld (airSetReg r v s.air.band[b.val]).bres 0 20)
      main := min (airSetReg r v s.air.band[b.val]).main (mainCap (airSetReg r v s.air.band[b.val]) : Int) }) s := if_pos ok

theorem airBudgetWrite_refused {r : AirReg} {b : Fin 4} {v : Word} {s : State} (bad : budgetOk (airSetReg r v s.air.band[b.val]) = false) :
    (airBudgetWrite r b v s).air = { s.air with refused := true, cause := 5 } := by
  rw [airBudgetWrite, if_neg (by simp [bad])]
  exact airRefuse_air ..

end Sys2Proof.Machine

open Sys2Proof Sys2Proof.Machine

/-- Settles O15, by the two outcomes of each register's write. -/
theorem airRegisters : Obligations.AirRegisters := by
  intro s v up
  refine ⟨fun ok => ?ctrl, fun c fault => ?ctrlRefused, fun r b ok => ?budget, fun r b bad => ?budgetRefused⟩
  case ctrl => exact completes_host (f := airCtrlWrite v) rfl up fun w x => airCtrlWrite_accepted (s := s.woken w x) ok
  case ctrlRefused => exact completes_host (f := airCtrlWrite v) rfl up fun w x => airCtrlWrite_refused (s := s.woken w x) fault
  case budget =>
    refine completes_hostDoes (f := airBudgetWrite r b v) rfl up
      (fun w x => airBudgetWrite_accepted (s := s.woken w x) ok) fun w x => ⟨?_, fun k other => ?_⟩
    · rw [bandAt_updBand, if_pos ⟨rfl, b.isLt⟩]
      rfl
    · rw [bandAt_updBand, if_neg fun same => other (Fin.ext same.1.symm)]
      rfl
  case budgetRefused => exact completes_host (f := airBudgetWrite r b v) rfl up fun w x => airBudgetWrite_refused (s := s.woken w x) bad

end

section
/-! The line ports (04): what the commands and the writes of AFE_PCTRL do to a port, its faults, and the AFE's registers. -/
namespace Sys2Proof.Machine

/-! ### AFE_PCTRL (04 Table 04.4) -/

theorem bitAt_pctrlNorm (v : Word) : bitAt (pctrlNorm v) 0 = bitAt v 0 := by
  rw [pctrlNorm, bitAt_setFld _ _ _ _ (by decide), if_neg (by decide), bitAt_setFld _ _ _ _ (by decide), if_neg (by decide)]
  simp [bitAt]

/-- The port as a write of AFE_PCTRL leaves it, before the enable is looked at. -/
def pctrlSet (v : Word) (y : PortS) : PortS :=
  { y with
    pctrl := if pEn y && !bitAt v 0 then pctrlNorm v ||| 1 else pctrlNorm v
    pgaNow := if bitAt (pctrlNorm v) 2 then y.pgaNow else BitVec.ofNat 5 (fld (pctrlNorm v) 5 5)
    firReq := if fld (pctrlNorm v) 4 1 = y.firAct.val then none else some (if bitAt (pctrlNorm v) 4 then 1 else 0) }

theorem bitAt_pctrlNorm_bank (v : Word) : bitAt (pctrlNorm v) 4 = bitAt v 4 := by
  rw [pctrlNorm, bitAt_setFld _ _ _ _ (by decide), if_neg (by decide), bitAt_setFld _ _ _ _ (by decide), if_neg (by decide)]
  simp [bitAt]

/-- A write with EN = 1 sets the register and takes a waiting disable back (04 R145). -/
theorem pctrlHost_enable {p : Port} {v : Word} (en : bitAt v 0 = true) (s : State) :
    portS (pctrlHost p v s) p = pctrlSet v (portS s p) ∧ (portX (pctrlHost p v s) p).offPend = false := by
  have en' : bitAt (pctrlNorm v) 0 = true := by rwa [bitAt_pctrlNorm]
  simp only [pctrlHost, pctrlWrite, en', Bool.not_true, Bool.and_false, Bool.false_eq_true, if_false, if_true, portS_hostWrote,
    portX_hostWrote, portS_updPortX, portX_updPortX_same, portS_updPort_same]
  simp [pctrlSet, en]

theorem pctrlSet_enable {v : Word} (en : bitAt v 0 = true) (y : PortS) :
    (pctrlSet v y).pctrl = pctrlNorm v ∧ (pctrlSet v y).st = y.st := by
  simp [pctrlSet, en]

theorem pctrlSet_bank {v : Word} {y : PortS} (other : fld (pctrlNorm v) 4 1 ≠ y.firAct.val) :
    (pctrlSet v y).firReq = some (if bitAt v 4 then 1 else 0) := by
  rw [← bitAt_pctrlNorm_bank]
  exact if_neg other

theorem portOff_port (p : Port) (s : State) :
    portS (portOff p s) p = { portS s p with st := .off, cause := 0 } ∧
      portX (portOff p s) p = { portX s p with ldEn := false, blank := false, offPend := false, rxActive := none } := by
  simp [portOff]

/-- EN cleared at a port that is not OFF: at once, or at the end of the frame in progress (04 R143). -/
theorem portDisable_port {p : Port} {s : State} (mss : Bool) (on : (portS s p).st ≠ .off) :
    pEn (portS (portDisable p mss s) p) = false ∧
      (if onLineAt s p then (portS (portDisable p mss s) p).st = (portS s p).st ∧ (portX (portDisable p mss s) p).offPend = true
       else (portS (portDisable p mss s) p).st = .off) := by
  unfold portDisable
  extract_lets cleared asked
  have hCleared : portS cleared p = { portS s p with pctrl := (portS s p).pctrl &&& ~~~1 } := portS_updPort_same ..
  have hAsked : portS asked p = portS cleared p := rfl
  have wait : (portX asked p).offPend = true := by simp [asked]
  have line : onLineAt asked p = onLineAt s p := rfl
  rw [if_neg (by rwa [hCleared]), line]
  split
  · exact ⟨by rw [hAsked, hCleared]; exact bitAt_and_not_one _, by rw [hAsked, hCleared], wait⟩
  · rw [(portOff_port p asked).1, hAsked, hCleared]
    exact ⟨bitAt_and_not_one _, rfl⟩

theorem pctrlHost_disable {p : Port} {v : Word} {s : State} (en : bitAt v 0 = false) (was : pEn (portS s p) = true)
    (on : (portS s p).st ≠ .off) :
    pEn (portS (pctrlHost p v s) p) = false ∧
      (if onLineAt s p then (portS (pctrlHost p v s) p).st = (portS s p).st ∧ (portX (pctrlHost p v s) p).offPend = true
       else (portS (pctrlHost p v s) p).st = .off) := by
  have en' : bitAt (pctrlNorm v) 0 = false := by rwa [bitAt_pctrlNorm]
  have was' : pEn s.afe.p[p.val] = true := by rwa [← portS_eq]
  unfold pctrlHost pctrlWrite
  extract_lets v' was'' set
  have hSet : (portS set p).st = (portS s p).st := by simp [set]
  rw [portS_hostWrote, portX_hostWrote, if_pos (by simp [was'', was', v', en']), ← hSet]
  exact portDisable_port false (by rwa [hSet])

/-! ### Frames at a port that goes OFF (17 R543) -/

/-- Whatever is on the line at a port afterwards was there before. -/
structure NoneNew (p : Nat) (s t : State) : Prop where
  calm : (∀ f ∈ s.line.q, f.st = .onLine → f.ports.getLsbD p = false) → ∀ f ∈ t.line.q, f.st = .onLine → f.ports.getLsbD p = false

theorem onLineAt_false {s : State} {p : Nat} : onLineAt s p = false ↔ ∀ f ∈ s.line.q, f.st = .onLine → f.ports.getLsbD p = false := by
  simp [onLineAt]

theorem NoneNew.of_line {p : Nat} {s t : State} (e : t.line = s.line) : NoneNew p s t := ⟨fun h => by rwa [e]⟩

theorem NoneNew.trans {p : Nat} {s t u : State} (h : NoneNew p s t) (k : NoneNew p t u) : NoneNew p s u := ⟨fun x => k.calm (h.calm x)⟩

theorem noneNew_dropFrame (p id : Nat) (s : State) : NoneNew p s (dropFrame id s) :=
  ⟨fun h f hf => h f (List.mem_of_mem_filter hf)⟩

/-- An update of frames that brings none onto the line at the port. -/
theorem noneNew_updFrame {p : Nat} (id : Nat) {g : TxFrame → TxFrame} (s : State)
    (calm : ∀ f, (g f).st = .onLine → (g f).ports.getLsbD p = true → f.st = .onLine ∧ f.ports.getLsbD p = true) :
    NoneNew p s (updFrame id g s) := by
  refine ⟨fun h f hf on => ?_⟩
  obtain ⟨f₀, mem, rfl⟩ := List.mem_map.1 hf
  split at on
  · next same =>
    rw [if_pos same]
    by_contra bit
    obtain ⟨st, has⟩ := calm f₀ on (by simpa using bit)
    simp [h f₀ mem st] at has
  · next other => rw [if_neg other]; exact h f₀ mem on

/-- A fold of steps that bring nothing onto the line. -/
theorem noneNew_foldl {α : Type} {p : Nat} {step : State → α → State} (one : ∀ s x, NoneNew p s (step s x)) (l : List α) :
    ∀ s, NoneNew p s (l.foldl step s) := by
  induction l with
  | nil => exact fun s => .of_line rfl
  | cons x l ih => exact fun s => (one s x).trans (ih _)

theorem endFrame_line (f : TxFrame) (s : State) : (endFrame f s).line = (dropFrame f.id s).line := by
  unfold endFrame
  extract_lets dropped buffered
  rw [(airSettle_keeps buffered).line_eq rfl]
  unfold buffered
  split <;> rfl

theorem noneNew_endFrame (p : Nat) (f : TxFrame) (s : State) : NoneNew p s (endFrame f s) :=
  (noneNew_dropFrame p f.id s).trans (.of_line (endFrame_line f s))

theorem noneNew_uncommit (p : Nat) (f : TxFrame) (s : State) : NoneNew p s (uncommit f s) := by
  unfold uncommit
  extract_lets cancelled credited
  have hCredited : credited.line = s.line := by
    unfold credited
    have := (cancelCost_keeps f.cost s).line_eq rfl
    split
    · exact this
    · exact this
  split
  · exact (NoneNew.of_line hCredited).trans (noneNew_updFrame _ _ fun g st => by cases st)
  · exact .of_line rfl

theorem refusePosted_line (f : TxFrame) (s : State) : (refusePosted f s).line = (dropFrame f.id s).line := by
  rw [refusePosted, endFrame_line, dropFrame, dropFrame, (finishOpt_keeps ..).line_eq rfl, (postedFailed_keeps ..).line_eq rfl]

theorem noneNew_pfailSweep (p n : Nat) (s : State) : NoneNew p s (pfailSweep n s) := by
  unfold pfailSweep
  split
  · exact noneNew_foldl (fun s f => (noneNew_dropFrame p f.id s).trans (.of_line (refusePosted_line f s))) _ s
  · exact .of_line rfl

theorem noneNew_failFrame (p : Nat) (f : TxFrame) (res : Result) (cause : Nat) (s : State) : NoneNew p s (failFrame f res cause s) := by
  unfold failFrame
  refine (noneNew_uncommit p f s).trans ?_
  split
  · exact ((NoneNew.of_line ((postedFailed_keeps ..).line_eq rfl)).trans (noneNew_endFrame p f _)).trans (noneNew_pfailSweep _ _ _)
  · refine NoneNew.trans (.of_line ?_) (noneNew_endFrame p f _)
    rw [(finishOpt_keeps ..).line_eq rfl]
    split
    · exact (fenceDrop_keeps ..).line_eq rfl
    · rfl


theorem portMask_covers (m : BitVec 3) (p : Nat) : (m &&& ~~~(portMask [p])).getLsbD p = false := by
  by_cases inside : p < 3
  · have set : (portMask [p]).getLsbD p = true := by
      obtain rfl | rfl | rfl : p = 0 ∨ p = 1 ∨ p = 2 := by omega
      all_goals rfl
    rw [BitVec.getLsbD_and, BitVec.getLsbD_not, set, Bool.not_true, Bool.and_false, Bool.and_false]
  · exact BitVec.getLsbD_of_ge _ _ (by omega)

theorem noneNew_frameOffPort (p : Nat) (f : TxFrame) (s : State) : NoneNew p s (frameOffPort p f s).2 := by
  unfold frameOffPort
  extract_lets rest gone share returned
  have hGone : ∀ g t, NoneNew p t (gone g t).2 := by
    intro g t
    unfold gone
    split
    · exact noneNew_updFrame _ _ fun f st => by cases st
    · exact noneNew_failFrame _ _ _ _ _
  have hReturned : returned.line = s.line := by
    unfold returned
    split
    · exact (returnCost_keeps ..).line_eq rfl
    · exact (cancelCost_keeps ..).line_eq rfl
  have noPort : rest.getLsbD p = false := portMask_covers f.ports p
  split
  · split
    · exact .of_line rfl
    · exact noneNew_failFrame _ _ _ _ _
  split
  · exact .of_line rfl
  split
  · refine (NoneNew.of_line hReturned).trans (noneNew_updFrame _ _ fun g _ (bit : rest.getLsbD p = true) => ?_)
    rw [noPort] at bit
    cases bit
  split
  · exact (NoneNew.of_line ((returnCost_keeps ..).line_eq rfl)).trans (hGone _ _)
  · exact (noneNew_uncommit p f s).trans (hGone _ _)

/-- The frames of a port that went OFF, one after the other, with the descriptors they ended. -/
theorem noneNew_framesOff (p : Nat) (q : List TxFrame) : ∀ a : List (Nat × Nat) × State,
    NoneNew p a.2 (q.foldl (fun (a : List (Nat × Nat) × State) f =>
      let (d, s) := frameOffPort p f a.2
      (a.1 ++ d, s)) a).2 := by
  induction q with
  | nil => exact fun a => .of_line rfl
  | cons f q ih =>
    exact fun a => (noneNew_frameOffPort p f a.2).trans (ih (a.1 ++ (frameOffPort p f a.2).1, (frameOffPort p f a.2).2))

theorem noneNew_framesOffPort (p cause : Nat) (s : State) : NoneNew p s (framesOffPort p cause s) := by
  refine (noneNew_framesOff p s.line.q ([], s)).trans ⟨fun h => ?_⟩
  unfold framesOffPort
  rw [(resetsSettle_keeps _).line_eq rfl, (resetBegin_keeps ..).line_eq rfl]
  exact h

theorem portOff_calm {p : Port} {s : State} (calm : onLineAt s p = false) :
    ∀ f ∈ (portOff p s).line.q, f.st = .onLine → f.ports.getLsbD p = false := by
  unfold portOff
  extract_lets x off closed by_
  refine (noneNew_framesOffPort _ _ _).calm ?_
  rw [raise_line]
  exact onLineAt_false.1 calm

/-! ### Driver faults (04 R139 to R142) -/

/-- A port that is neither OFF nor in FAULT enters it. -/
theorem driverFault_enters {p : Port} {s : State} (c : BitVec 2) (on : (portS s p).st ≠ .off) (ok : (portS s p).st ≠ .fault) :
    portS (driverFault p c s) p = { portS s p with st := .fault, cause := c } ∧ (portX (driverFault p c s) p).ldEn = false := by
  simp only [driverFault, if_neg on, if_neg ok, portS_framesOffPort, portX_framesOffPort, portS_raise, portX_raise, portS_updPortX,
    portX_updPortX_same, portS_updPort_same, and_true]
  rfl

/-- A second condition joins CAUSE. -/
theorem driverFault_again {p : Port} {s : State} (c : BitVec 2) (fault : (portS s p).st = .fault) :
    driverFault p c s = updPort p (fun y => { y with cause := y.cause ||| c }) s := by
  rw [driverFault, if_neg (by simp [fault]), if_pos fault]

theorem portIdle_good {p : Nat} {s : State} (good : ldvBad s = false) :
    portIdle p s = updPort p (fun x => { x with st := .idle }) s := if_neg (by simpa [ldvBad] using good)

theorem faultLeave_port (p : Port) (how : Nat) (s : State) :
    portS (faultLeave p how s) p = { portS s p with st := .idle, cause := 0 } ∧ portX (faultLeave p how s) p = portX s p := by
  simp [faultLeave]

/-! ### The AFE's registers (04 R147 to R158) -/

theorem afeRefuse_afe (cause port off : Nat) (v : Word) (s : State) : (afeRefuse cause port off v s).afe =
    { s.afe with refused := true, cause := BitVec.ofNat 3 cause, port := BitVec.ofNat 2 port } := raise_afe ..

theorem firDataWrite_taken {p : Port} {s : State} (v : Word) (addr : fld s.afe.firAddr 8 2 = p.val)
    (other : (portS s p).firAct.val ≠ fld s.afe.firAddr 6 1) :
    (portX (firDataWrite v s) p).fir = spPut 0 (firKey s) (v.setWidth 18) (portX s p).fir ∧
      fld (firDataWrite v s).afe.firAddr 0 6 = (fld s.afe.firAddr 0 6 + 1) % 64 := by
  have port : ¬ 3 ≤ p.val := by omega
  simp only [firDataWrite, addr, if_neg port, if_neg other]
  exact ⟨congrArg PortX.fir (portX_updPortX_same ..), fld_setFld (by decide)⟩

theorem firDataWrite_refused {p : Port} {s : State} (v : Word) (addr : fld s.afe.firAddr 8 2 = p.val)
    (active : (portS s p).firAct.val = fld s.afe.firAddr 6 1) :
    firDataWrite v s = firAdvance (afeRefuse 3 p 0x300C v s) := by
  have port : ¬ 3 ≤ p.val := by omega
  simp only [firDataWrite, addr, if_neg port, if_pos active]

/-- A gain under which the level is not above the ceiling is set (04 R155). -/
theorem txLevelWrite_gain {p : Port} {v : Word} {s : State}
    (ok : levelOk { portS s p with txgain := BitVec.ofNat 32 (min 192 (fld v 0 8)) } = true) :
    txLevelWrite p .gain v s = updPort p (fun _ => { portS s p with txgain := BitVec.ofNat 32 (min 192 (fld v 0 8)) }) s := by
  rw [portS_eq] at ok ⊢
  exact (if_neg (by simp)).trans (if_pos ok)

theorem txLevelWrite_cal_refused {p : Port} {v : Word} {s : State} (bad : levelOk { portS s p with txcal := v &&& 0x3FF } = false) :
    txLevelWrite p .cal v s = afeRefuse 1 p (portBase p + 0x0C) v s := by
  rw [portS_eq] at bad
  exact (if_neg (by simp)).trans (if_neg (by rw [bad]; decide))

/-- The locked ceiling is not written (04 R158). -/
theorem txLevelWrite_locked {p : Port} {v : Word} {s : State} (locked : s.afe.lock = true) :
    txLevelWrite p .ceil v s = afeRefuse 4 p (portBase p + 0x10) v s := if_pos (by simp [locked])

end Sys2Proof.Machine

open Sys2Proof Sys2Proof.Machine

/-- Settles O18, by what each command does to the port; a port goes OFF with nothing of it on the line. -/
theorem linePorts : Obligations.LinePorts := by
  intro s p up
  refine ⟨fun usable => ?raised, fun silent => ?fallen, fun off => ?unblanked, fun ofdm idle open_ listens => ?heard,
    fun off en active good => ?upAgain, fun pend silent => ?portOff, fun v en on was => ?disabled, fun v en => ?enabled⟩
  case raised => exact completes_does rfl up (if_pos usable) (by simp)
  case fallen =>
    refine completes_does rfl up (if_neg (by simp [silent])) ⟨by simp, ?_⟩
    rw [portS_updPortX, portS_updPort_same]
    split <;> rfl
  case unblanked => exact completes_does rfl up (if_neg (by simp [off])) (portX_updPortX_same ..)
  case heard =>
    exact completes_does rfl up (if_pos ⟨idle, by simp [open_], listens⟩) ⟨portS_updPort_same .., by simp⟩
  case upAgain =>
    refine completes_does rfl up (if_pos ⟨off, en, by simp [lineDomain, active]⟩) ?_
    rw [portIdle_good (by rwa [ldvBad, raise_pwr]), portS_updPort_same, portS_raise]
  case portOff =>
    refine completes_does rfl up (if_pos (by simp [pend, silent])) ?_
    rw [(portOff_port p s).1, (portOff_port p s).2]
    exact ⟨rfl, rfl, rfl, portOff_calm silent⟩
  case disabled =>
    exact completes_host (f := pctrlHost p v) rfl up fun w x => pctrlHost_disable (s := s.woken w x) en was on
  case enabled =>
    refine completes_host (f := pctrlHost p v) rfl up fun w x => ?_
    obtain ⟨set, kept⟩ := pctrlHost_enable en (s.woken w x)
    rw [set]
    exact ⟨(pctrlSet_enable en _).1, (pctrlSet_enable en _).2, kept⟩

/-- Settles O19, by the entry into FAULT, the second condition and the end of the fault. -/
theorem driverFaults : Obligations.DriverFaults := by
  intro s p up
  refine ⟨fun c on ok => ?enters, fun c fault => ?again, fun fault retry few good => ?retried, fun v clr fault good => ?cleared,
    fun on => ?saturated, fun n on some_ => ?clipped⟩
  case enters =>
    have fault := driverFault_enters (if c then 2 else 1) on ok
    exact completes_up rfl up fault
  case again =>
    exact completes_does rfl up (driverFault_again (if c then 2 else 1) fault) (portS_updPort_same ..)
  case retried =>
    refine completes_does rfl up (if_pos ⟨fault, retry, few, by simp [good]⟩) ?_
    rw [(faultLeave_port p 1 _).1, (faultLeave_port p 1 _).2, portS_updPortX, portX_updPortX_same]
    exact ⟨rfl, rfl⟩
  case cleared =>
    refine completes_hostExits (f := pstatWrite p v) rfl up fun y a => ?_
    have left : pstatWrite p v (s.woken { s.pwr with exiting := y } { s.slp with awakeFrom := a }) =
        faultLeave p 2 (s.woken { s.pwr with exiting := y } { s.slp with awakeFrom := a }) :=
      if_pos ⟨clr, by rw [← portS_eq]; exact fault, by rw [Bool.not_eq_true']; exact good⟩
    rw [left]
    exact faultLeave_port p 2 _
  case saturated =>
    refine completes_does rfl up (if_neg on) ?_
    dsimp only
    split
    · next once => rw [portS_updPort_same] at once ⊢; rw [← once]
    · rw [portS_raise, portS_updPort_same, portS_updPort_same]
  case clipped =>
    refine completes_does rfl up (if_neg (by simp [on]; omega)) ?_
    dsimp only
    split
    · next once => rw [portS_updPort_same] at once ⊢; rw [← once]
    · rw [portS_raise, portS_updPort_same, portS_updPort_same]

/-- Settles O20, by the two outcomes of each register's write. -/
theorem afeRegisters : Obligations.AfeRegisters := by
  intro s p v up
  refine ⟨fun addr other => ?coeff, fun addr active => ?coeffRefused, fun en other => ?sel, fun b req silent => ?swap,
    fun i ok => ?notch, fun i bad => ?notchRefused, fun ok => ?gain, fun bad => ?cal, fun locked => ?ceil, ?lock⟩
  case coeff => exact completes_host (f := firDataWrite v) rfl up fun w x => firDataWrite_taken (s := s.woken w x) v addr other
  case coeffRefused =>
    refine completes_hostDoes (f := firDataWrite v) rfl up (fun w x => firDataWrite_refused (s := s.woken w x) v addr active) fun w x => ?_
    rw [firAdvance, afeRefuse_afe]
    exact ⟨rfl, rfl, rfl⟩
  case sel =>
    refine completes_host (f := pctrlHost p v) rfl up fun w x => ?_
    rw [(pctrlHost_enable en (s.woken w x)).1]
    exact ⟨pctrlSet_bank other, rfl⟩
  case swap =>
    refine completes_does (t := updPort p (fun x => { x with firAct := b, firReq := none }) s) rfl up ?_ (portS_updPort_same ..)
    simp only [req]
    exact if_neg (by simp [silent])
  case notch => exact completes_hostDoes (f := notchWrite p i v) rfl up (fun w x => if_pos ok) fun w x => portX_updPortX_same ..
  case notchRefused =>
    exact completes_hostDoes (f := notchWrite p i v) rfl up (fun w x => if_neg (by simp [bad])) fun w x => afeRefuse_afe ..
  case gain =>
    exact completes_hostDoes (f := txLevelWrite p .gain v) rfl up (fun w x => txLevelWrite_gain (s := s.woken w x) ok)
      fun w x => portS_updPort_same p _ (s.woken w x)
  case cal =>
    exact completes_hostDoes (f := txLevelWrite p .cal v) rfl up (fun w x => txLevelWrite_cal_refused (s := s.woken w x) bad)
      fun w x => afeRefuse_afe ..
  case ceil =>
    exact completes_hostDoes (f := txLevelWrite p .ceil v) rfl up (fun w x => txLevelWrite_locked (s := s.woken w x) locked)
      fun w x => afeRefuse_afe ..
  case lock => exact completes_host (f := afeCtrlWrite v) rfl up fun w x => rfl

end

section
/-! The queue of frames to send (02, 03), band C access and the first and last sample of a frame (04 R126 to R133). -/
namespace Sys2Proof.Machine

/-! ### The queue -/

/-- A frame of the queue with the number, of which P holds. -/
def HasFrame (id : Nat) (P : TxFrame → Prop) (s : State) : Prop := ∃ g ∈ s.line.q, g.id = id ∧ P g

theorem frameAt_mem {s : State} {id : Nat} {f : TxFrame} (h : frameAt s id = some f) : f ∈ s.line.q ∧ f.id = id :=
  ⟨List.mem_of_find?_eq_some h, by simpa using List.find?_some h⟩

theorem HasFrame.of_frameAt {s : State} {id : Nat} {f : TxFrame} (h : frameAt s id = some f) : HasFrame id (· = f) s :=
  ⟨f, (frameAt_mem h).1, (frameAt_mem h).2, rfl⟩

/-- The frame after its update. -/
theorem HasFrame.updFrame {s : State} {id : Nat} {P Q : TxFrame → Prop} {g : TxFrame → TxFrame} (h : HasFrame id P s)
    (does : ∀ f, f.id = id → P f → (g f).id = id ∧ Q (g f)) : HasFrame id Q (updFrame id g s) := by
  obtain ⟨f, mem, same, p⟩ := h
  exact ⟨g f, List.mem_map.2 ⟨f, mem, if_pos same⟩, (does f same p).1, (does f same p).2⟩

theorem HasFrame.of_line {s t : State} {id : Nat} {P : TxFrame → Prop} (h : HasFrame id P s) (e : t.line = s.line) : HasFrame id P t := by
  rwa [HasFrame, e]

theorem HasFrame.imp {s : State} {id : Nat} {P Q : TxFrame → Prop} (h : HasFrame id P s) (i : ∀ f, P f → Q f) : HasFrame id Q s := by
  obtain ⟨f, mem, same, p⟩ := h
  exact ⟨f, mem, same, i f p⟩

theorem mem_portList {m : BitVec 3} {p : Port} : p.val ∈ portList m ↔ m.getLsbD p = true := by
  simp [portList]

/-! ### First sample -/

/-- A port begins to send. -/
def portStart (s : State) (p : Nat) : State :=
  updPortX p (fun x => { x with notchNow := x.notch }) <| updPort p (fun x => if x.st = .idle ∨ x.st = .rx then { x with st := .tx } else x) s

theorem portStart_line (s : State) (p : Nat) : (portStart s p).line = s.line := rfl

theorem portsStart_line (l : List Nat) : ∀ s, (l.foldl portStart s).line = s.line := by
  induction l with
  | nil => exact fun s => rfl
  | cons p l ih => exact fun s => ih (portStart s p)

theorem portStart_tx {p : Port} {q : Nat} {s : State} (h : (portS s p).st = .tx ∨ (portS s p).st = .idle ∧ q = p) :
    (portS (portStart s q) p).st = .tx := by
  rw [portStart, portS_updPortX, portS_updPort]
  obtain tx | ⟨idle, rfl⟩ := h
  · split
    · simp [tx]
    · exact tx
  · simp [idle]

theorem portStart_idle {p : Port} {q : Nat} {s : State} (idle : (portS s p).st = .idle) (other : q ≠ p) :
    (portS (portStart s q) p).st = .idle := by
  rw [portStart, portS_updPortX, portS_updPort, if_neg fun same => other same.1, idle]

/-- A port in the list that is IDLE transmits, and one that transmits goes on. -/
theorem portsStart_tx {p : Port} (l : List Nat) : ∀ s, (portS s p).st = .tx ∨ (portS s p).st = .idle ∧ p.val ∈ l →
    (portS (l.foldl portStart s) p).st = .tx := by
  induction l with
  | nil => simp
  | cons q l ih =>
    intro s h
    refine ih _ ?_
    by_cases same : q = p
    · exact .inl (portStart_tx (h.imp_right fun idle => ⟨idle.1, same⟩))
    · refine h.imp (fun tx => portStart_tx (.inl tx)) fun ⟨idle, mem⟩ => ⟨portStart_idle idle same, ?_⟩
      exact (List.mem_cons.1 mem).resolve_left (Ne.symm same)

/-- The frame with its first sample out. -/
def TxFrame.started (s : State) (f g : TxFrame) : TxFrame :=
  { g with st := .onLine, stamp := txStamp s f.ports, start := s.now, endAt := s.now + ticksUs f.airtime }

/-- The line's output as a frame starts. -/
def lineStart (f : TxFrame) (s : State) : State :=
  let t := updFrame f.id (TxFrame.started s f) s
  { t with line := { t.line with
    out := some { port := f.ports, mode := f.mode, bytes := f.built,
                  bits := if f.ty.toNat = tyTamper then tamperRfc else modBitsOf t f.mode f.copy f.built } } }

theorem goOnLine_eq (f : TxFrame) (s : State) : goOnLine f s = (portList f.ports).foldl portStart (lineStart f s) := rfl

theorem goOnLine_line (f : TxFrame) (s : State) : (goOnLine f s).line = (lineStart f s).line := by
  rw [goOnLine_eq, portsStart_line]

theorem goOnLine_frame {f : TxFrame} {s : State} {P : TxFrame → Prop} (h : HasFrame f.id P s) :
    HasFrame f.id (fun g => ∃ g₀, P g₀ ∧ g = TxFrame.started s f g₀) (goOnLine f s) := by
  have started : HasFrame f.id (fun g => ∃ g₀, P g₀ ∧ g = TxFrame.started s f g₀) (updFrame f.id (TxFrame.started s f) s) :=
    h.updFrame fun g same p => ⟨same, g, p, rfl⟩
  rw [HasFrame, goOnLine_line]
  exact started

theorem goOnLine_out (f : TxFrame) (s : State) :
    ∃ o, (goOnLine f s).line.out = some o ∧ o.port = f.ports ∧ o.mode = f.mode ∧ o.bytes = f.built := by
  rw [goOnLine_line]
  exact ⟨_, rfl, rfl, rfl, rfl⟩

theorem goOnLine_port {f : TxFrame} {s : State} {p : Port} (has : f.ports.getLsbD p = true) (idle : (portS s p).st = .idle) :
    (portS (goOnLine f s) p).st = .tx := by
  rw [goOnLine_eq]
  exact portsStart_tx _ _ (.inr ⟨idle, mem_portList.2 has⟩)

/-- A frame started, with the count of a wake (09 R300). -/
def txStarted (f : TxFrame) (s : State) : State :=
  if f.ty.toNat = tyWake then
    { goOnLine f s with slph := { (goOnLine f s).slph with
        wakeCopies := (goOnLine f s).slph.wakeCopies + 1
        episodes := (goOnLine f s).slph.episodes.map fun e => if e.leaf = f.dst then { e with sent := e.sent + 1 } else e } }
  else goOnLine f s

theorem txStarted_line (f : TxFrame) (s : State) : (txStarted f s).line = (goOnLine f s).line := by
  unfold txStarted
  split <;> rfl

theorem txStarted_afe (f : TxFrame) (s : State) : (txStarted f s).afe = (goOnLine f s).afe := by
  unfold txStarted
  split <;> rfl

/-! ### Last sample -/

/-- The last sample of a frame leaves a port. -/
def portEnd (s : State) (p : Nat) : State := updPortX p (fun x => { x with lastTxEnd := some s.now }) s

theorem portEnd_time {p : Port} {q : Nat} {s : State} (h : (portX s p).lastTxEnd = some s.now ∨ q = p) :
    (portX (portEnd s q) p).lastTxEnd = some s.now := by
  rw [portEnd, portX_updPortX]
  split
  · rfl
  · next other => exact h.resolve_right fun same => other ⟨same, p.isLt⟩

theorem portsEnd_time {p : Port} (l : List Nat) : ∀ s, (portX s p).lastTxEnd = some s.now ∨ p.val ∈ l →
    (portX (l.foldl portEnd s) p).lastTxEnd = some s.now := by
  induction l with
  | nil => simp
  | cons q l ih =>
    intro s h
    refine ih (portEnd s q) ?_
    rw [List.mem_cons] at h
    by_cases rest : p.val ∈ l
    · exact .inr rest
    · exact .inl (portEnd_time (h.imp_right fun mem => (mem.resolve_right rest).symm))

theorem portsEnd_line (l : List Nat) : ∀ s, (l.foldl portEnd s).line = s.line := by
  induction l with
  | nil => exact fun s => rfl
  | cons p l ih => exact fun s => ih (portEnd s p)

/-- The last sample in band C is kept with each port. -/
theorem updC_foldl {f : State → CPort → CPort} (l : List Nat) :
    ∀ s, (l.foldl (fun s p => updC p (f s) s) s).line = s.line ∧ (l.foldl (fun s p => updC p (f s) s) s).afe = s.afe := by
  induction l with
  | nil => exact fun s => ⟨rfl, rfl⟩
  | cons p l ih => exact fun s => ih (updC p (f s) s)

/-- The ports after the last sample, the one in band C with its time. -/
def portsEnded (f : TxFrame) (s : State) : State :=
  let s := (portList f.ports).foldl portEnd s
  if (bandsOf s f.mode).contains 1 then (portList f.ports).foldl (fun s p => updC p (fun c => { c with lastSample := s.now }) s) s else s

theorem portsEnded_line (f : TxFrame) (s : State) : (portsEnded f s).line = s.line := by
  unfold portsEnded
  extract_lets t
  have ends : t.line = s.line := portsEnd_line _ s
  split
  · exact (updC_foldl (f := fun s c => { c with lastSample := s.now }) _ t).1.trans ends
  · exact ends

theorem portsEnded_time {f : TxFrame} {p : Port} (s : State) (has : f.ports.getLsbD p = true) :
    (portX (portsEnded f s) p).lastTxEnd = some s.now := by
  have ends := portsEnd_time (p := p) _ s (.inr (mem_portList.2 has))
  unfold portsEnded
  extract_lets t
  split
  · rw [portX_congr (updC_foldl (f := fun s c => { c with lastSample := s.now }) _ t).2]
    exact ends
  · exact ends

/-- The frame's cost and credit are returned (03 R123, 08 R272). -/
def costReturned (id : Nat) (f : TxFrame) (s : State) : State :=
  let s := returnCost f.cost s
  let s := if f.credit then giveBack 5 f.hop.toNat 1 s else s
  updFrame id (fun g => { g with cost := Vector.replicate 4 0, credit := false }) s

theorem costReturned_afe (id : Nat) (f : TxFrame) (s : State) : (costReturned id f s).afe = s.afe := by
  unfold costReturned
  extract_lets returned given
  have h : returned.afe = s.afe := (returnCost_keeps ..).afe_eq rfl
  have hGiven : given.afe = returned.afe := by unfold given; split <;> rfl
  exact hGiven.trans h

theorem costReturned_frame {id : Nat} {f : TxFrame} {s : State} {P : TxFrame → Prop} (h : HasFrame id P s) :
    HasFrame id (fun g => g.cost = Vector.replicate 4 0) (costReturned id f s) := by
  unfold costReturned
  extract_lets returned given
  have hReturned : returned.line = s.line := (returnCost_keeps ..).line_eq rfl
  have hGiven : given.line = returned.line := by unfold given; split <;> rfl
  exact (h.of_line (hGiven.trans hReturned)).updFrame fun g same _ => ⟨same, rfl⟩

/-- A frame of data that wants an answer waits for it after its last sample (05 R184). -/
theorem afterLast_waits {f : TxFrame} (s : State) (raw : f.raw = none) (own : f.orphan = false) (data : f.ty.toNat = tyData)
    (one : f.dst ≠ bcast) (asks : f.ackreq = true) :
    ∃ t, afterLast f s = updFrame f.id (fun g => { g with st := .waiting }) t ∧ t.line = s.line ∧ t.afe = s.afe := by
  unfold afterLast
  extract_lets -merge +onlyGivenNames ty lingers _ sent
  have hLingers : lingers.line = s.line ∧ lingers.afe = s.afe := by
    unfold lingers
    split <;> exact ⟨rfl, rfl⟩
  have hSent : sent.line = lingers.line ∧ sent.afe = lingers.afe := by
    unfold sent
    split <;> exact ⟨rfl, rfl⟩
  rw [if_neg (by simp [raw, own]), if_neg fun h => one h.2, if_pos (.inl ⟨data, asks⟩)]
  exact ⟨sent, rfl, hSent.1.trans hLingers.1, hSent.2.trans hLingers.2⟩

end Sys2Proof.Machine

open Sys2Proof Sys2Proof.Machine

/-- Settles O17, by the queue and the ports after the first and the last sample. -/
theorem bandCAndSamples : Obligations.BandCAndSamples := by
  intro s up
  refine ⟨fun p access wait delay hears => ?busy, fun p wait delay => ?delayEnd, fun p runs silent => ?runEnd,
    fun id f here committed => ?start, fun id f here online single asks data one raw own => ?last⟩
  case busy =>
    exact completes_does rfl up (if_pos ⟨access, wait, delay, by simp [hears]⟩) (cportAt_updC_same ..)
  case delayEnd => exact completes_does rfl up (if_pos ⟨wait, delay⟩) (cportAt_updC_same ..)
  case runEnd => exact completes_does rfl up (if_pos ⟨runs, by rw [Bool.not_eq_true']; exact silent⟩) (cportAt_updC_same ..)
  case start =>
    obtain ⟨mem, rfl⟩ := frameAt_mem here
    refine completes_does (t := txStarted f s) rfl up (by simp only [here, if_pos committed]; rfl) ⟨?_, ?_, fun p has idle => ?_⟩
    · obtain ⟨g, inQueue, same, g₀, rfl, rfl⟩ := goOnLine_frame (.of_frameAt here)
      rw [txStarted_line]
      exact ⟨_, inQueue, same, rfl, rfl, rfl⟩
    · rw [txStarted_line]
      exact goOnLine_out f s
    · rw [portS_congr (txStarted_afe f s)]
      exact goOnLine_port has idle
  case last =>
    obtain ⟨mem, rfl⟩ := frameAt_mem here
    obtain ⟨t, waits, line, afe⟩ := afterLast_waits (costReturned f.id f (portsEnded f s)) raw own data one asks
    refine completes_does (t := updFrame f.id (fun g => { g with st := .waiting }) t) rfl up ?_ ⟨?_, fun p has => ?_⟩
    · simp only [here, if_pos online, single, Bool.false_and, Bool.false_eq_true, if_false]
      exact waits
    · have returned := (costReturned_frame ((HasFrame.of_frameAt here).of_line (portsEnded_line f s))).of_line line
      obtain ⟨g, inQueue, same, st, cost⟩ := returned.updFrame (Q := fun g => g.st = .waiting ∧ g.cost = Vector.replicate 4 0)
        (g := fun g => { g with st := .waiting }) fun g same cost => ⟨same, rfl, cost⟩
      exact ⟨g, inQueue, same, st, cost⟩
    · rw [portX_congr ((updFrame_afe ..).trans (afe.trans (costReturned_afe ..)))]
      exact portsEnded_time s has

end

section
/-! The entries of the leaf table: their fields, and an entry after it is written (08 Table 08.1). -/
namespace Sys2Proof.Machine

theorem bits512_testBit (d : BitVec 512) (lo len j : Nat) : (bits512 d lo len).testBit j = (decide (j < len) && d.getLsbD (lo + j)) := by
  rw [bits512, Nat.testBit_mod_two_pow, Nat.testBit_shiftRight]
  rfl

/-- A field of an entry after another one is set. -/
theorem bits512_set512_other {d : BitVec 512} {lo len v lo' len' : Nat} (apart : lo' + len' ≤ lo ∨ lo + len ≤ lo')
    (inside : lo' + len' ≤ 512) : bits512 (set512 d lo len v) lo' len' = bits512 d lo' len' := by
  apply Nat.eq_of_testBit_eq
  intro j
  rw [bits512_testBit, bits512_testBit]
  by_cases h : j < len'
  · rw [set512, getLsbD_setBits d lo len v (by omega), if_neg (by omega)]
  · simp [h]

theorem bits512_set512_same {d : BitVec 512} {lo len v : Nat} (inside : lo + len ≤ 512) :
    bits512 (set512 d lo len v) lo len = v % 2 ^ len := by
  apply Nat.eq_of_testBit_eq
  intro j
  rw [bits512_testBit, Nat.testBit_mod_two_pow]
  by_cases h : j < len
  · rw [set512, getLsbD_setBits d lo len v (by omega), if_pos (by omega), Nat.add_sub_cancel_left]
  · simp [h]

/-- A value that is not the default one is read where it was written, in whatever order the keys stand. -/
theorem spGet_put_self {α : Type} [DecidableEq α] {d v : α} (i : Nat) (h : v ≠ d) :
    (m : Sparse α) → spGet d (spPut d i v m) i = v
  | [] => by simp [spPut, spGet, h]
  | (k, w) :: m => by
    unfold spPut
    split
    · simp [spGet]
    split
    · simp [spGet]
    · next other =>
      rw [spGet, if_neg (Ne.symm other)]
      exact spGet_put_self i h m

theorem bits512_zero (lo len : Nat) : bits512 0 lo len = 0 := by
  apply Nat.eq_of_testBit_eq
  simp [bits512_testBit]

/-- An entry that is not FREE is not the empty one. -/
theorem entry_ne_zero {e : Entry} (h : eState e ≠ stFree) : e ≠ 0 := by
  rintro rfl
  exact h (by rw [eState, bits512_zero]; rfl)

theorem entryAt_updEntry_ne {m n : Nat} (f : Entry → Entry) (s : State) (other : m ≠ n) :
    entryAt (updEntry n f s) m = entryAt s m := spGet_put_ne other _

theorem entryAt_updEntry_same {n : Nat} {f : Entry → Entry} {s : State} (kept : eState (f (entryAt s n)) ≠ stFree) :
    entryAt (updEntry n f s) n = f (entryAt s n) := spGet_put_self n (entry_ne_zero kept) _

end Sys2Proof.Machine
end

section
/-! A frame sealed with a leaf's key (13 R437 to R443), committed to a folio, expired or acknowledged (02 R59, 03 R107, R113). -/
namespace Sys2Proof.Machine

/-! ### The key of a leaf at a head -/

theorem cachedSlot_use {s : State} {n i : Nat} (h : cachedSlot s n = some i) :
    (slotAt s i).use = useCached ∧ (slotAt s i).owner.toNat = n := by
  have mem := List.mem_of_head? h
  simp only [slotsWhere, List.mem_filter, Bool.and_eq_true, decide_eq_true_eq] at mem
  exact ⟨mem.2.1.1, mem.2.1.2⟩

/-- The search for a leaf's key looks at its slots and at the generation in its ticket. -/
theorem cachedSlot_congr {s t : State} {n : Nat} (cx : t.cx = s.cx) (ticket : eTicket (entryAt t n) = eTicket (entryAt s n)) :
    cachedSlot t n = cachedSlot s n := by
  unfold cachedSlot slotsWhere slotAt
  rw [cx, ticket]

theorem classKey_cached {s : State} {n i : Nat} (head : isHead s = true) (cached : cachedSlot s n = some i)
    (unload : (slotAt s i).unload = none) : classKey 1 n s = (.slot i, s) := by
  have leaf : isLeaf s = false := by simpa [isLeaf, isHead] using head
  simp [classKey, leaf, leafKey, cached, unload]

/-- The use of a leaf's key by a job of so many blocks: within its limits, and without a re-key that its warning would begin
(13 R440 to R443, R452). -/
structure KeyServes (s : State) (n i blocks : Nat) : Prop where
  head : isHead s = true
  cached : cachedSlot s n = some i
  unload : (slotAt s i).unload = none
  fhold : (slotAt s i).fhold = false
  core : anyCore s = true
  exh : (useRec s n).exh = false
  inv : (useRec s n).inv + 1 ≤ (keyLimits s (slotAt s i)).1
  blk : (useRec s n).blk + blocks ≤ (keyLimits s (slotAt s i)).2
  calm : bitAt s.cx.ctrl 8 = false ∨ (useRec s n).warn = true ∨
    8 * ((useRec s n).inv + 1) < 7 * (keyLimits s (slotAt s i)).1 ∧ 8 * ((useRec s n).blk + blocks) < 7 * (keyLimits s (slotAt s i)).2

theorem KeyServes.congr {s t : State} {n i blocks : Nat} (h : KeyServes s n i blocks) (cln : t.cln = s.cln) (cx : t.cx = s.cx)
    (ticket : eTicket (entryAt t n) = eTicket (entryAt s n)) : KeyServes t n i blocks := by
  have slot : ∀ i, slotAt t i = slotAt s i := fun i => by rw [slotAt, cx]; rfl
  have use : useRec t n = useRec s n := by rw [useRec, cx]; rfl
  have limits : ∀ k, keyLimits t k = keyLimits s k := fun k => by rw [keyLimits, cx]; rfl
  refine ⟨?_, (cachedSlot_congr cx ticket).trans h.cached, ?_, ?_, ?_, ?_, ?_, ?_, ?_⟩
  · rw [isHead, cln]; exact h.head
  · rw [slot]; exact h.unload
  · rw [slot]; exact h.fhold
  · rw [anyCore, cx]; exact h.core
  · rw [use]; exact h.exh
  · rw [use, slot, limits]; exact h.inv
  · rw [use, slot, limits]; exact h.blk
  · rw [use, slot, limits, cx]; exact h.calm

theorem keyCounts_cached {s : State} {n i : Nat} (cached : cachedSlot s n = some i) :
    keyCounts s i = ((useRec s n).inv, (useRec s n).blk, (useRec s n).warn, (useRec s n).exh) := by
  obtain ⟨use, owner⟩ := cachedSlot_use cached
  simp [keyCounts, use, owner]

@[simp] theorem setCounts_ctrl (i inv blk : Nat) (warn exh : Bool) (s : State) : (setCounts i inv blk warn exh s).cx.ctrl = s.cx.ctrl := by
  unfold setCounts
  extract_lets k
  split <;> rfl

@[simp] theorem keyEvent_cx (code i which count : Nat) (s : State) : (keyEvent code i which count s).cx = s.cx := raise_cx ..

/-- The job is admitted; a warning it raises begins no re-key. -/
theorem admitJob_serves {s : State} {n i blocks : Nat} (h : KeyServes s n i blocks) :
    (admitJob i blocks s).1.ok = true ∧ (admitJob i blocks s).2.cx.ctrl = s.cx.ctrl ∧
      ((admitJob i blocks s).1.warned = true → bitAt s.cx.ctrl 8 = false) := by
  have below : ¬ ((keyLimits s (slotAt s i)).1 < (useRec s n).inv + 1 ∨ (keyLimits s (slotAt s i)).2 < (useRec s n).blk + blocks) := by
    have := h.inv; have := h.blk; omega
  simp only [admitJob, keyCounts_cached h.cached, h.exh, Bool.false_eq_true, if_false, if_neg below]
  split
  · next warns =>
    refine ⟨rfl, by simp [updSlot], fun _ => h.calm.resolve_right ?_⟩
    simp only [Bool.and_eq_true, Bool.not_eq_true', Bool.or_eq_true, decide_eq_true_eq] at warns
    obtain ⟨quiet, near⟩ := warns
    rw [quiet]
    simp only [Bool.false_eq_true, false_or]
    omega
  · exact ⟨rfl, by simp [updSlot], fun warned => by cases warned⟩


@[simp] theorem nextInv_ctrl (i : Nat) (s : State) : (nextInv i s).2.cx.ctrl = s.cx.ctrl := by
  unfold nextInv
  extract_lets k
  split
  · rfl
  split <;> rfl

@[simp] theorem jobDone_ctrl (i : Nat) (s : State) : (jobDone i s).cx.ctrl = s.cx.ctrl := rfl

theorem counterSpent_cached {s : State} {n i : Nat} (cached : cachedSlot s n = some i) : counterSpent i s = false := by
  rw [counterSpent, (cachedSlot_use cached).1]
  rfl

/-- A frame of a leaf's class is sealed where the leaf's key serves; a warning it raises begins no re-key. -/
theorem sealFrame_serves {h : Hdr} {rt : Option Route} {n i : Nat} {body : List Byte} {s : State} (cls : (frameSec h.ty h.dst).1 = 1)
    (serves : KeyServes s n i (lineBlocks h.ty h.dst rt.isSome body.length)) :
    ∃ bytes inv warned t, sealFrame h rt n body s = (.ok bytes inv, warned, t) ∧ Keeps (.cx :: eventParts) s t ∧
      t.cx.ctrl = s.cx.ctrl ∧ (warned = true → bitAt s.cx.ctrl 8 = false) := by
  obtain ⟨ok, ctrl, calm⟩ := admitJob_serves serves
  have kept := sealFrame_keeps h rt n body s
  have usable : ¬ ((slotAt s i).fhold || !anyCore s) = true := by simp [serves.fhold, serves.core]
  have open_ : ¬ counterSpent i s = true := by simp [counterSpent_cached serves.cached]
  simp only [sealFrame, cls, classKey_cached serves.head serves.cached serves.unload, if_neg usable, if_neg open_, if_pos ok] at kept ⊢
  exact ⟨_, _, _, _, rfl, kept, by simp [ctrl], calm⟩

/-- Then no re-key begins. -/
theorem noRekey {warned : Bool} {s t : State} (ctrl : t.cx.ctrl = s.cx.ctrl) (calm : warned = true → bitAt s.cx.ctrl 8 = false)
    (b : Bool) (n : Nat) : (if warned && b then autoRekey n 2 t else t) = t := by
  split
  · next h =>
    simp only [Bool.and_eq_true] at h
    exact if_neg (by rw [ctrl, calm h.1]; decide)
  · rfl

/-! ### A frame that expires (03 R113) -/

theorem expire_line {f : TxFrame} (s : State) (idle : inFlight f = false) (posted : f.posted = false) (desc : f.desc = none)
    : (expire f s).line.q = s.line.q.filter fun g => decide (g.id ≠ f.id) := by
  have waits : ¬ f.st = .committed := fun h => by simp [inFlight, h] at idle
  rw [expire, failFrame, uncommit, if_neg waits, posted]
  simp only [Bool.false_and, Bool.false_eq_true, if_false, endFrame_line, desc]
  rfl

/-! ### An acknowledgement (05 R182, 03 R108) -/

theorem takeBands_line (beacon : Bool) (cost : Vector Nat 4) (s : State) : (takeBands beacon cost s).line = s.line :=
  (takeBands_keeps ..).line_eq rfl

/-- The tokens of a frame taken, and its runs in band C begun. -/
def tokensTaken (bands : List Nat) (cost : Vector Nat 4) (ports : List Nat) (start : Nat) (s : State) : State :=
  if bands.contains 1 then cRun ports start (takeBands false cost s) else takeBands false cost s

theorem tokensTaken_keeps (bands : List Nat) (cost : Vector Nat 4) (ports : List Nat) (start : Nat) (s : State) :
    Keeps [.air, .lg] s (tokensTaken bands cost ports start s) := by
  unfold tokensTaken
  split
  · exact (cRun_keeps ..).step (by decide) (takeBands_keeps ..)
  · exact takeBands_keeps ..

/-- The body of an acknowledgement of a device that grants no credit. -/
def ackBody (a : AckDue) (s : State) : List Byte := [a.seq, a.status, lqiByte s a.lqi, BitVec.ofNat 8 0]

/-- The acknowledgement before it is sealed, and as it is queued. -/
def ackTx (a : AckDue) (air : Nat) (s : State) : TxFrame :=
  { txNew tyAck a.dst (ackBody a s) s with ports := portMask [a.port.val], mode := a.rate, route := none, airtime := air }

def ackSealed (f : TxFrame) (bytes : List Byte) (inv : Nat) (cost : Vector Nat 4) (t : State) : TxFrame :=
  { f with id := t.line.nextId, built := bytes, inv := BitVec.ofNat 40 inv, cost := cost, quire := t.qr.qnum }

/-- The acknowledgement of a head with the frame sealed. -/
theorem ackOnLine_sealed {a : AckDue} {air inv : Nat} {bytes : List Byte} {warned : Bool} {s t u v : State} {cost : Vector Nat 4}
    (direct : a.route = none) (leaf : isLeaf s = false)
    (sealed : sealFrame (hdrFor (ackTx a air s) 0 false s) none a.dst.toNat (ackBody a s) s = (.ok bytes inv, warned, t))
    (hCost : cost = costVec (bandsOf t a.rate) air)
    (taken : u = tokensTaken (bandsOf (takeBands false cost t) a.rate) cost [a.port.val] (takeBands false cost t).now t)
    (goes : v = goOnLine (ackSealed (ackTx a air s) bytes inv cost u) (submit (ackSealed (ackTx a air s) bytes inv cost u) u)) :
    ackOnLine a air s = if warned && isHead v then autoRekey a.dst.toNat 2 v else v := by
  have noGrant : grantNow s = (0, s) := by simp [grantNow, leaf]
  subst hCost taken goes
  unfold ackTx ackBody at sealed
  simp only [ackOnLine, direct, Option.isSome_none, Bool.false_eq_true, if_false, noGrant, sealed]
  rfl

/-- The acknowledgement goes on the line where the leaf's key serves. -/
theorem ackOnLine_goes {a : AckDue} {i : Nat} {s : State} (air : Nat) (direct : a.route = none)
    (serves : KeyServes s a.dst.toNat i (lineBlocks tyAck a.dst false 4)) :
    ∃ f t, ackOnLine a air s = goOnLine f (submit f t) ∧ t.line = s.line ∧ t.now = s.now ∧ f.id = s.line.nextId ∧
      f.ty.toNat = tyAck ∧ f.dst = a.dst := by
  have leaf : isLeaf s = false := by simpa [isLeaf, isHead] using serves.head
  obtain ⟨bytes, inv, warned, t, sealed, kept, ctrl, calm⟩ :=
    sealFrame_serves (h := hdrFor (ackTx a air s) 0 false s) (rt := none) (body := ackBody a s) rfl serves
  obtain ⟨cost, hCost⟩ : ∃ c, c = costVec (bandsOf t a.rate) air := ⟨_, rfl⟩
  obtain ⟨u, hu⟩ : ∃ u, u = tokensTaken (bandsOf (takeBands false cost t) a.rate) cost [a.port.val] (takeBands false cost t).now t :=
    ⟨_, rfl⟩
  obtain ⟨f, hf⟩ : ∃ f, f = ackSealed (ackTx a air s) bytes inv cost u := ⟨_, rfl⟩
  obtain ⟨v, hv⟩ : ∃ v, v = goOnLine f (submit f u) := ⟨_, rfl⟩
  have goes := ackOnLine_sealed direct leaf sealed hCost hu (hf ▸ hv)
  have taken : Keeps [.air, .lg] t u := hu ▸ tokensTaken_keeps ..
  have started : v.cx = u.cx := by rw [hv, (goOnLine_keeps ..).cx_eq rfl]; rfl
  rw [noRekey (s := s) (by rw [started, taken.cx_eq rfl, ctrl]) calm] at goes
  refine ⟨f, u, goes.trans hv, (taken.line_eq rfl).trans (kept.line_eq rfl), (taken.now_eq rfl).trans (kept.now_eq rfl), ?_, ?_, ?_⟩
  · rw [hf]
    exact congrArg Line.nextId ((taken.line_eq rfl).trans (kept.line_eq rfl))
  · rw [hf]
    rfl
  · rw [hf]
    rfl

theorem submit_frame (f : TxFrame) (s : State) : HasFrame f.id (· = f) (submit f s) := ⟨f, by simp [submit], rfl, rfl⟩


/-! ### A frame placed in a folio (03 R107, 07 R246) -/

/-- The frame as its plan and its seal make it. -/
def TxFrame.placed (f : TxFrame) (p : Plan) (cost : Vector Nat 4) (bytes : List Byte) (inv : Nat) (quire : Word) (g : TxFrame) : TxFrame :=
  { g with
    st := .committed
    mode := p.mode
    ports := p.ports
    airtime := p.air
    cost := cost
    credit := false
    route := none
    hop := f.dst
    inv := BitVec.ofNat 40 inv
    start := p.start
    endAt := p.start + ticksUs p.air
    quire := quire
    attempts := f.attempts + 1
    lastStatus := 0
    built := bytes
    copy := false }

/-- A frame of a head to a leaf of its own, with the frame sealed. -/
theorem placeFrame_sealed {f : TxFrame} {p : Plan} {seq : Byte} {bytes : List Byte} {inv : Nat} {warned : Bool}
    {s s₁ s₂ s₃ t u v : State} {cost : Vector Nat 4} (path : pathOf f s = (none, f.dst)) (posted : f.posted = false)
    (latched : latchSlot (modeOf f s).1 f.dst.toNat s = (p.mode, s₁)) (given : giveSeq f s₁ = (seq, s₂))
    (numbered : s₃ = updFrame f.id (fun g => { g with seq := some seq }) s₂)
    (sealed : sealFrame (hdrFor f seq false s₃) none f.dst.toNat f.body s₃ = (.ok bytes inv, warned, t))
    (hCost : cost = costVec (bandsOf t p.mode) ((portList p.ports).length * (if isPair p.mode then 2 else 1) * p.air))
    (taken : u = tokensTaken (bandsOf (takeBands false cost t) p.mode) cost (portList p.ports) p.start t)
    (placed : v = airSettle (updFrame f.id (f.placed p cost bytes inv u.qr.qnum) u)) :
    placeFrame f p s = if warned && (decide ((frameSec f.ty.toNat f.dst).1 = 1) && isHead v) then autoRekey f.dst.toNat 2 v else v := by
  subst numbered hCost taken placed
  simp only [placeFrame, path, latched, given, ite_self, Option.isSome_none, Bool.false_eq_true, if_false, Option.map_none, sealed, posted,
    ne_eq, not_true_eq_false, decide_false, Bool.and_assoc]
  rfl


theorem latchSlot_mode (m : Mode) (leaf : Nat) (s : State) : (latchSlot m leaf s).1 = effMode s m := by
  unfold latchSlot effMode
  split
  · split <;> rfl
  · rfl

theorem eTicket_eSetDseqTx (v : Byte) (e : Entry) : eTicket (eSetDseqTx v e) = eTicket e :=
  congrArg (BitVec.ofNat 256) (bits512_set512_other (.inr (by decide)) (by decide))

theorem eState_eSetDseqTx (v : Byte) (e : Entry) : eState (eSetDseqTx v e) = eState e :=
  bits512_set512_other (.inl (by decide)) (by decide)

/-- The number that a frame of data takes leaves the leaf's ticket. -/
theorem giveSeq_ticket {f : TxFrame} {s : State} (head : isLeaf s = false) (data : f.ty.toNat = tyData) (one : f.dst ≠ bcast)
    (known : eState (entryAt s f.dst.toNat) ≠ stFree) :
    eTicket (entryAt (giveSeq f s).2 f.dst.toNat) = eTicket (entryAt s f.dst.toNat) := by
  unfold giveSeq
  split
  · rfl
  rw [if_neg fun h => one h.2, if_pos data]
  simp only [head, Bool.false_eq_true, if_false]
  rw [entryAt_updEntry_same (by rwa [eState_eSetDseqTx]), eTicket_eSetDseqTx]

theorem hasFrame_placed {f : TxFrame} {s : State} {p : Plan} {P : TxFrame → Prop} (h : HasFrame f.id P s) (cost : Vector Nat 4)
    (bytes : List Byte) (inv : Nat) (quire : Word) :
    HasFrame f.id (fun g => g.st = .committed ∧ g.mode = p.mode ∧ g.ports = p.ports ∧ g.start = p.start ∧ g.airtime = p.air ∧
      g.attempts = f.attempts + 1) (updFrame f.id (f.placed p cost bytes inv quire) s) :=
  h.updFrame fun _ same _ => ⟨same, rfl, rfl, rfl, rfl, rfl, rfl⟩

/-- A frame of data to a leaf of the head's own is committed as planned, where the leaf's key serves. -/
theorem placeFrame_commits {f : TxFrame} {p : Plan} {i : Nat} {s : State} (here : HasFrame f.id (· = f) s)
    (path : pathOf f s = (none, f.dst)) (posted : f.posted = false) (data : f.ty.toNat = tyData) (one : f.dst ≠ bcast)
    (known : eState (entryAt s f.dst.toNat) ≠ stFree) (plan : (modeOf f s).1 = p.mode) (eff : effMode s p.mode = p.mode)
    (serves : KeyServes s f.dst.toNat i (lineBlocks f.ty.toNat f.dst false f.body.length)) :
    HasFrame f.id (fun g => g.st = .committed ∧ g.mode = p.mode ∧ g.ports = p.ports ∧ g.start = p.start ∧ g.airtime = p.air ∧
      g.attempts = f.attempts + 1) (placeFrame f p s) := by
  obtain ⟨s₁, latched⟩ : ∃ s₁, latchSlot (modeOf f s).1 f.dst.toNat s = (p.mode, s₁) :=
    ⟨_, Prod.ext ((latchSlot_mode ..).trans (plan ▸ eff)) rfl⟩
  have kept₁ : Keeps (.ofd :: eventParts) s s₁ := by simpa [latched] using latchSlot_keeps (modeOf f s).1 f.dst.toNat s
  obtain ⟨⟨seq, s₂⟩, given⟩ : ∃ r, giveSeq f s₁ = r := ⟨_, rfl⟩
  have kept₂ : Keeps [.lt, .ltx] s₁ s₂ := by simpa [given] using giveSeq_keeps f s₁
  have leaf : isLeaf s₁ = false := by rw [isLeaf, kept₁.cln_eq rfl]; simpa [isHead] using serves.head
  have entry₁ : entryAt s₁ = entryAt s := by unfold entryAt; rw [kept₁.lt_eq rfl]
  have ticket : eTicket (entryAt s₂ f.dst.toNat) = eTicket (entryAt s f.dst.toNat) := by
    have := giveSeq_ticket leaf data one (by rwa [entry₁])
    rwa [given, entry₁] at this
  obtain ⟨s₃, numbered⟩ : ∃ s₃, s₃ = updFrame f.id (fun g => { g with seq := some seq }) s₂ := ⟨_, rfl⟩
  have kept₃ : Keeps [.line] s₂ s₃ := numbered ▸ updFrame_keeps ..
  have serves₃ : KeyServes s₃ f.dst.toNat i (lineBlocks f.ty.toNat f.dst false f.body.length) :=
    serves.congr ((kept₃.cln_eq rfl).trans ((kept₂.cln_eq rfl).trans (kept₁.cln_eq rfl)))
      ((kept₃.cx_eq rfl).trans ((kept₂.cx_eq rfl).trans (kept₁.cx_eq rfl)))
      (by unfold entryAt; rw [kept₃.lt_eq rfl]; exact ticket)
  have cls : (frameSec f.ty.toNat f.dst).1 = 1 := by rw [data]; exact congrArg Prod.fst (if_neg one)
  obtain ⟨bytes, inv, warned, t, sealed, keptT, ctrl, calm⟩ :=
    sealFrame_serves (h := hdrFor f seq false s₃) (rt := none) (body := f.body) cls serves₃
  obtain ⟨cost, hCost⟩ : ∃ c, c = costVec (bandsOf t p.mode) ((portList p.ports).length * (if isPair p.mode then 2 else 1) * p.air) :=
    ⟨_, rfl⟩
  obtain ⟨u, taken⟩ : ∃ u, u = tokensTaken (bandsOf (takeBands false cost t) p.mode) cost (portList p.ports) p.start t := ⟨_, rfl⟩
  obtain ⟨v, placed⟩ : ∃ v, v = airSettle (updFrame f.id (f.placed p cost bytes inv u.qr.qnum) u) := ⟨_, rfl⟩
  have keptU : Keeps [.air, .lg] t u := taken ▸ tokensTaken_keeps ..
  have ctrlV : v.cx.ctrl = s₃.cx.ctrl := by rw [placed, (airSettle_keeps _).cx_eq rfl, updFrame_cx, keptU.cx_eq rfl, ctrl]
  rw [placeFrame_sealed path posted latched given numbered sealed hCost taken placed, noRekey ctrlV calm, placed]
  have before : HasFrame f.id (fun _ => True) s₃ := by
    rw [numbered]
    exact (here.of_line ((kept₂.line_eq rfl).trans (kept₁.line_eq rfl))).updFrame fun g same _ => ⟨same, trivial⟩
  exact (hasFrame_placed (before.of_line ((keptU.line_eq rfl).trans (keptT.line_eq rfl))) cost bytes inv _).of_line ((airSettle_keeps _).line_eq rfl)

/-- A plan uses a port that can carry the frame. -/
theorem planFor_usable {f : TxFrame} {p : Plan} {s : State} (plan : planFor f s = some p) :
    ((portList (modeOf f s).2).all fun q => !portUsable s q) = false := by
  unfold planFor at plan
  dsimp only at plan
  split at plan
  · next fits =>
    obtain ⟨some_, -⟩ := fits
    rw [List.all_eq_false]
    by_contra none_
    refine some_ ?_
    have empty : (portList (modeOf f s).2).filter (portReady s) = [] := by
      refine List.filter_eq_nil_iff.2 fun q mem ready => none_ ⟨q, mem, ?_⟩
      have : portUsable s q = true := by
        simp only [portReady, Bool.or_eq_true, decide_eq_true_eq] at ready
        obtain st | st := ready <;> simp [portUsable, st]
      simp [this]
    unfold usePorts
    simp only [empty]
    split <;> rfl
  · cases plan

/-- A frame of data for which the folio, its turn and its tokens stand is placed. -/
theorem commitFrame_places {f : TxFrame} {p : Plan} {s : State} (head : isHead s = true) (data : f.ty.toNat = tyData)
    (active : eState (entryAt s f.dst.toNat) = stActive) (posted : f.posted = false) (timeless : f.deadline = none)
    (fits : fitsNone f s = false) (good : s.rbm.bad = false) (plan : planFor f s = some p) (path : pathOf f s = (none, f.dst))
    (turn : inTurn s f p.ports = true) (first : blockedBehind s f p = false) (single : isPair p.mode = false)
    (tokens : ∀ b ∈ bandsOf s p.mode, b ≠ 1 ∧ covers (bandAt s b) ((portList p.ports).length * p.air) = true) :
    commitFrame f s = placeFrame f p s := by
  have noC : ¬ 1 ∈ bandsOf s p.mode := fun mem => (tokens 1 mem).1 rfl
  have covered : ((bandsOf s p.mode).all fun b => covers (bandAt s b) ((portList p.ports).length * p.air)) = true :=
    List.all_eq_true.2 fun b mem => (tokens b mem).2
  have sends : leafMaySend s f = true := by simp [leafMaySend, head]
  have plain : ¬ f.ty.toNat = tyWake := by rw [data]; decide
  unfold commitFrame
  rw [if_neg (by rw [active]; simp [stActive, stFree, stGone]), if_neg (by simp [posted]), if_neg (by simp [fits]),
    if_neg (by simp [good]), if_neg (by simp [sends]), if_neg (by rw [planFor_usable plan]; decide)]
  simp only [plan, path, timeless, single, turn, first]
  simp only [Bool.not_true, ne_eq, not_true_eq_false, decide_false, Bool.false_and, Bool.or_self, Bool.false_eq_true, if_false,
    List.contains_eq_mem, noC, List.isEmpty_nil, Nat.mul_one, covered, plain, false_and]

end Sys2Proof.Machine

open Sys2Proof Sys2Proof.Machine

/-- Settles O16: the commit by the sealed frame in its queue, the expiry by the end of a frame, the acknowledgement by its seal. -/
theorem framesCommitted : Obligations.FramesCommitted := by
  intro s up
  refine ⟨fun id f p i here unlocked head data one raw timeless posted waits awake active fits good plan mode eff path turn first single
      tokens cached unload fhold core exh inv blk calm => ?commit,
    fun id f d here due waits posted desc buffer => ?expiry, fun p a due denied => ?denied,
    fun p a i due head open_ permits usable direct fits tokens cached unload fhold core exh inv blk calm => ?ack⟩
  case commit =>
    obtain ⟨mem, rfl⟩ := frameAt_mem here
    have noEpisode : needsEpisode s f = false := by simp [needsEpisode, awake]
    refine completes_does (t := placeFrame f p s) rfl up ?_ (placeFrame_commits (.of_frameAt here) path posted data one ?_ mode eff
      ⟨head, cached, unload, fhold, core, exh, inv, blk, calm⟩)
    · simp only [unlocked, Bool.false_eq_true, if_false, here, raw, waits, noEpisode, Option.isSome_none, Bool.or_self]
      exact commitFrame_places head data active posted timeless fits good plan path turn first single tokens
    · rw [active]
      decide
  case expiry =>
    obtain ⟨mem, rfl⟩ := frameAt_mem here
    refine completes_does (t := expire f s) rfl up ?_ (expire_line s waits posted desc)
    simp only [here, due, waits, Bool.false_eq_true, if_false]
  case denied =>
    refine completes_state (t := { s with line := { s.line with acks := s.line.acks.erase a } }) rfl up ?_ rfl rfl
    simp only [due]
    exact if_pos (by rw [Bool.or_eq_true, Bool.or_eq_true, Bool.or_eq_true]; exact .inl (.inl (.inr (congrArg not denied))))
  case ack =>
    have serves : KeyServes { s with line := { s.line with acks := s.line.acks.erase a } } a.dst.toNat i (lineBlocks tyAck a.dst false 4) :=
      KeyServes.congr ⟨head, cached, unload, fhold, core, exh, inv, blk, calm⟩ rfl rfl rfl
    obtain ⟨f, t, goes, line, now, number, ack, dst⟩ :=
      ackOnLine_goes (airtimeOf s a.rate (frameBytes tyAck a.dst false 4)) direct serves
    refine completes_does (t := goOnLine f (submit f t)) rfl up ?_ ⟨?_, ?_⟩
    · simp only [due]
      have wet : (bandsOf s a.rate).filter (fun b => !coversAck (bandAt s b)) = [] :=
        List.filter_eq_nil_iff.2 fun b mem => by simp [coversAck, tokens b mem]
      have passes : (!lineOpen s || !ackPermitted s p || !portUsable s p ||
          decide (ticksToEnd s < ticksUs (airtimeOf s a.rate (frameBytes tyAck a.dst a.route.isSome 4)))) = false := by
        simp [open_, permits, usable, direct, fits]
      refine (if_neg ?_).trans ((if_neg ?_).trans ?_)
      · exact fun h => absurd (h.symm.trans passes) (by decide)
      · exact fun h => absurd (h.symm.trans (congrArg (fun l => !List.isEmpty l) wet)) (by decide)
      · rw [direct]; exact goes
    · rw [goOnLine_line]
      exact congrArg Line.acks line
    · obtain ⟨g, mem, same, g₀, rfl, rfl⟩ := goOnLine_frame (submit_frame f t)
      exact ⟨_, mem, number ▸ same, ack, rfl, dst, now⟩

end

section
/-! Clocks (20 R627 to R630), the pins and the test access port (22). -/
namespace Sys2Proof.Machine

theorem refLost_clk (s : State) : (refLost s).clk = { s.clk with onref := false } := by
  unfold refLost
  extract_lets -merge +onlyGivenNames _ lost
  have hLost : lost.clk = { s.clk with onref := false } := (srcOkSet_keeps ..).clk_eq rfl
  split
  · rw [raise_clk]
    exact hLost
  · exact hLost

/-- The pins themselves are no part of what an edge or a conflict moves. -/
theorem confEnd_pin (x : Nat) (s : State) : (confEnd x s).pmx.pin = s.pmx.pin := by
  unfold confEnd
  split
  · split
    · rw [raise_pmx]
    · rfl
  · rfl

theorem confBegin_pin (x : Nat) (s : State) : (confBegin x s).pmx.pin = s.pmx.pin := by
  unfold confBegin
  split
  · dsimp only
    split
    · rw [raise_pmx]
    · rfl
  · rfl

theorem foldl_kept {α β : Type} {g : State → β} {step : State → α → State} (one : ∀ s x, g (step s x) = g s) (l : List α) :
    ∀ s, g (l.foldl step s) = g s := by
  induction l with
  | nil => exact fun s => rfl
  | cons x l ih => exact fun s => (ih _).trans (one s x)

theorem confSettle_pin (s : State) : (confSettle s).pmx.pin = s.pmx.pin := by
  unfold confSettle
  generalize List.range 18 = l
  have ends := foldl_kept (g := fun s => s.pmx.pin) (fun s x => confEnd_pin x s) l s
  exact (foldl_kept (g := fun s => s.pmx.pin) (fun s x => confBegin_pin x s) l _).trans ends

theorem withInputs_pmx (f : State → State) (s : State) : (withInputs f s).pmx = (f s).pmx := by
  unfold withInputs
  extract_lets before t
  refine foldl_kept (g := State.pmx) (fun s k => ?_) _ t
  dsimp only
  split
  · rfl
  · exact (rgInputEdge_keeps ..).pmx_eq rfl

theorem pinWrite_open {i : Nat} {v : Word} {s : State} (open_ : s.pmx.lock = false) :
    (pinWrite i v s).pmx.pin = vupd s.pmx.pin i fun _ => pinNorm v := by
  rw [pinWrite, if_neg (by simp [open_]), withInputs_pmx]
  exact confSettle_pin _

theorem pinWrite_locked {i : Nat} {v : Word} {s : State} (locked : s.pmx.lock = true) : pinWrite i v s = pmxRefuse s :=
  if_pos locked

end Sys2Proof.Machine

open Sys2Proof Sys2Proof.Machine

/-- Settles O56, by the clock component after each command. -/
theorem clocks : Obligations.Clocks := by
  intro s up
  refine ⟨fun i there => ?lost, fun i gone => ?back, fun i runs locked => ?unlocked, fun i runs locks => ?relocked, fun sel there => ?switched⟩
  case lost =>
    refine completes_does (t := if i = 1 then refLost (raise 0x0B03 i.val [] (setPresent i.val false s)) else
      raise 0x0B03 i.val [] (setPresent i.val false s)) rfl up (if_pos there) ?_
    split
    · rw [refLost_clk, raise_clk]
      rfl
    · rw [raise_clk]
      rfl
  case back =>
    refine completes_does (t := if i = 1 then srcBack 1 (srcOkSet 1 true (raise 0x0B04 i.val [] (setPresent i.val true s))) else
      raise 0x0B04 i.val [] (setPresent i.val true s)) rfl up (if_neg (by rw [gone]; decide)) ?_
    split
    · rw [(srcBack_keeps ..).clk_eq rfl, (srcOkSet_keeps ..).clk_eq rfl, raise_clk]
      rfl
    · rw [raise_clk]
      rfl
  case unlocked => exact completes_does rfl up (if_pos (by rw [runs, locked]; rfl)) (raise_clk ..)
  case relocked => exact completes_state rfl up (if_pos (by rw [runs, locks]; rfl)) rfl rfl
  case switched => exact completes_state rfl up (if_pos (by rw [sel, there]; rfl)) rfl rfl

/-- Settles O57, by the pin multiplexer after each command. -/
theorem pinsAndTap : Obligations.PinsAndTap := by
  intro s
  refine ⟨fun i v up open_ => ?pin, fun i v up locked => ?refused, fun v up => ?lock, fun ir => ⟨_, rfl, rfl⟩, ⟨_, rfl, rfl⟩⟩
  case pin => exact completes_host (f := pinWrite i.val v) rfl up fun w x => pinWrite_open (s := s.woken w x) open_
  case refused =>
    exact completes_hostDoes (f := pinWrite i.val v) rfl up (fun w x => pinWrite_locked (s := s.woken w x) locked) fun w x => rfl
  case lock => exact completes_host (f := pmxCtrlWrite v) rfl up fun w x => rfl

end

section
/-! What an event leaves of the components of the event path (16, 18 R568): the vector's mask, the event ring's place, the ledgers but
its own, and the management subsystem's memory but the log. -/
namespace Sys2Proof.Machine

structure Raised (s t : State) : Prop where
  msix : t.msix = { s.msix with pend := t.msix.pend, sent := t.msix.sent }
  lg : t.lg = { s.lg with inst := t.lg.inst }
  ledger : ∀ k : Nat × Nat, k.1 ≠ 3 → lgGet k t.lg.inst = lgGet k s.lg.inst
  mssx : t.mssx = { s.mssx with log := t.mssx.log, logBuf := t.mssx.logBuf, logDropped := t.mssx.logDropped }
  base : t.ev.base = s.ev.base
  cfg : t.ev.cfg = s.ev.cfg
  st : t.ev.st = s.ev.st
  head : t.ev.head = s.ev.head

theorem Raised.refl (s : State) : Raised s s := ⟨rfl, rfl, fun _ _ => rfl, rfl, rfl, rfl, rfl, rfl⟩

theorem Raised.trans {s t u : State} (h : Raised s t) (k : Raised t u) : Raised s u where
  msix := k.msix.trans (congrArg (fun m : Msix => { m with pend := u.msix.pend, sent := u.msix.sent }) h.msix)
  lg := k.lg.trans (congrArg (fun g : Lg => { g with inst := u.lg.inst }) h.lg)
  ledger n other := (k.ledger n other).trans (h.ledger n other)
  mssx := k.mssx.trans (congrArg (fun m : MssX =>
    { m with log := u.mssx.log, logBuf := u.mssx.logBuf, logDropped := u.mssx.logDropped }) h.mssx)
  base := k.base.trans h.base
  cfg := k.cfg.trans h.cfg
  st := k.st.trans h.st
  head := k.head.trans h.head

/-- An update of other components. -/
theorem Raised.of_same {s t : State} (msix : t.msix = s.msix) (lg : t.lg = s.lg) (mssx : t.mssx = s.mssx) (ev : t.ev = s.ev) : Raised s t :=
  ⟨by rw [msix], by rw [lg], fun _ _ => by rw [lg], by rw [mssx], by rw [ev], by rw [ev], by rw [ev], by rw [ev]⟩

theorem lgGet_lgSet_other {k k' : Nat × Nat} (v : Ledger) (other : k' ≠ k) :
    (l : List ((Nat × Nat) × Ledger)) → lgGet k' (lgSet k v l) = lgGet k' l
  | [] => by
    unfold lgSet
    split
    · rfl
    · simp [lgGet, Ne.symm other]
  | (n, w) :: l => by
    unfold lgSet
    split
    · split
      · rfl
      · simp [lgGet, Ne.symm other]
    split
    · next same =>
      split
      · simp [lgGet, ← same, Ne.symm other]
      · simp [lgGet, ← same, Ne.symm other]
    · rw [lgGet, lgGet, lgGet_lgSet_other v other l]

theorem raised_issue (i n : Nat) (s : State) : Raised s (issue 3 i n s) :=
  ⟨rfl, rfl, fun k other => lgGet_lgSet_other _ (fun same => other (by rw [same])) _, rfl, rfl, rfl, rfl, rfl⟩

theorem raised_logMark (p : LogRec → Bool) (s : State) : Raised s (logMark p s) := ⟨rfl, rfl, fun _ _ => rfl, rfl, rfl, rfl, rfl, rfl⟩

theorem raised_evNotify (s : State) : Raised s (evNotify s) := by
  unfold evNotify
  split
  · refine ⟨?_, rfl, fun _ _ => rfl, rfl, rfl, rfl, rfl, rfl⟩
    rw [evFire, msiSend]
    split <;> rfl
  · exact .refl s

theorem raised_evWrite (r : EvRec) (s : State) : Raised s (evWrite r s) := by
  unfold evWrite
  extract_lets e written advanced
  have hAdvanced : Raised s advanced := ⟨rfl, rfl, fun _ _ => rfl, rfl, rfl, rfl, rfl, rfl⟩
  exact ((hAdvanced.trans (raised_logMark _ _)).trans (raised_issue 0 1 _)).trans (raised_evNotify _)

theorem raised_evHold (r : EvRec) (s : State) : Raised s (evHold r s) := ⟨rfl, rfl, fun _ _ => rfl, rfl, rfl, rfl, rfl, rfl⟩

theorem raised_evForm (code source : Nat) (sec ns : Word) (p : BitVec 128) (s : State) : Raised s (evForm code source sec ns p s).2 :=
  ⟨rfl, rfl, fun _ _ => rfl, rfl, rfl, rfl, rfl, rfl⟩

theorem raised_raiseRaw (code source : Nat) (sec ns : Word) (p : BitVec 128) (s : State) : Raised s (raiseRaw code source sec ns p s) := by
  unfold raiseRaw
  split
  · exact ⟨rfl, rfl, fun _ _ => rfl, rfl, rfl, rfl, rfl, rfl⟩
  · exact (raised_evForm code source sec ns p s).trans (raised_evHold _ _)
  · refine (raised_evForm code source sec ns p s).trans ?_
    dsimp only
    split
    · exact raised_evWrite _ _
    · exact raised_evHold _ _

theorem raised_logAdd (code source : Nat) (sec : BitVec 48) (ns : Word) (p : BitVec 128) (evseq : Word) (s : State) :
    Raised s (logAdd code source sec ns p evseq s) := by
  unfold logAdd
  split <;> exact ⟨rfl, rfl, fun _ _ => rfl, rfl, rfl, rfl, rfl, rfl⟩

theorem raised_raiseAt (code source : Nat) (sec : BitVec 48) (ns : Word) (p : BitVec 128) (s : State) :
    Raised s (raiseAt code source sec ns p s) := by
  unfold raiseAt
  extract_lets t
  refine Raised.trans (t := t) ?_ (raised_raiseRaw ..)
  unfold t
  split
  · exact raised_logAdd ..
  · exact .refl s

theorem raised_raiseP (code inst : Nat) (p : BitVec 128) (s : State) : Raised s (raiseP code inst p s) := raised_raiseAt ..
theorem raised_raise (code inst : Nat) (fs : List (Nat × Nat × Nat)) (s : State) : Raised s (raise code inst fs s) := raised_raiseAt ..
theorem raised_raiseMss (code inst : Nat) (fs : List (Nat × Nat × Nat)) (s : State) : Raised s (raiseMss code inst fs s) := raised_raiseAt ..

theorem raised_raiseAon (code inst : Nat) (p : BitVec 128) (stamp : Option (BitVec 64)) (s : State) :
    Raised s (raiseAon code inst p stamp s) := by
  unfold raiseAon
  split
  · split <;> exact raised_raiseAt ..
  · exact .of_same rfl rfl rfl rfl

theorem Raised.mask {s t : State} (h : Raised s t) : t.msix.mask = s.msix.mask := by rw [h.msix]

end Sys2Proof.Machine
end

section
/-! What holds the core in reset (20 R609, 19 R587), and the resets of the host link (15 R504, 21 R634). -/
namespace Sys2Proof.Machine

theorem aonPowerUp_drawn (s : State) : (aonPowerUp s).life = { s.life with aonUp := true } ∧ (aonPowerUp s).tmp.ksmk.isSome = true ∧
    (aonPowerUp s).tmp.ks = 1 ∧ (aonPowerUp s).tmp.aonpor = true ∧ (aonPowerUp s).tmp.latch = 0 ∧ (aonPowerUp s).cx = s.cx :=
  ⟨rfl, rfl, rfl, rfl, rfl, rfl⟩

/-! ### A host-link reset (15 R504) -/

/-- The host side as a reset of it leaves it. -/
structure HostCleared (t : State) : Prop where
  rings : ∀ r : Fin 16, (sqAt t r).st = .disabled ∧ (sqAt t r).taken = []
  posts : t.hi.rxPosts = []
  mail : t.mss.mail = []
  mask : t.msix.mask = true

theorem HostCleared.of_eq {s t : State} (h : HostCleared s) (hi : t.hi = s.hi) (mail : t.mss.mail = s.mss.mail)
    (mask : t.msix.mask = s.msix.mask) : HostCleared t :=
  ⟨fun r => by rw [sqAt, hi]; exact h.rings r, by rw [hi]; exact h.posts, mail.trans h.mail, mask.trans h.mask⟩

theorem flrUnits_mail (s : State) : (flrUnits s).mss.mail = [] := by
  unfold flrUnits
  extract_lets -merge +onlyGivenNames js _ _ _ _ _ cut ended
  have hEnded : ended.mss = cut.mss := foldl_kept (g := State.mss) (fun _ _ => (endJob_keeps ..).mss_eq rfl) js cut
  have hChannels := foldl_kept (g := State.mss) (step := fun s c => updCh c (fun h => { h with retune := none }) s)
    (fun s c => (updCh_keeps ..).mss_eq rfl) allCh ended
  have hCut : cut.mss.mail = [] := rfl
  rw [hChannels, hEnded, hCut]

theorem hostCleared_flrRegs {s : State} (mail : s.mss.mail = []) : HostCleared (flrRegs s) where
  rings r := by
    have read : sqAt (flrRegs s) r = sqAfterFlr (sqAt s r) := by simp [sqAt, vget, flrRegs]
    rw [read]
    exact ⟨rfl, rfl⟩
  posts := rfl
  mail := mail
  mask := rfl

theorem resetsSettle_mask (s : State) : (resetsSettle s).msix.mask = s.msix.mask :=
  foldl_kept (g := fun s => s.msix.mask) (fun s _ => (raised_raise _ _ _ s).mask) _ _

theorem gateEvents_mask (action : Nat) (s : State) : (gateEvents action s).msix.mask = s.msix.mask :=
  foldl_kept (g := fun s => s.msix.mask) (fun s _ => (raised_raiseMss _ _ _ (draw s).2).mask) _ _

theorem zeroEvents_mask (z : Zeroise) (s : State) : (zeroEvents s z).msix.mask = s.msix.mask := by
  unfold zeroEvents
  extract_lets ns erased locked
  have hErased : erased.msix.mask = s.msix.mask := (raised_raiseAon ..).mask
  have hLocked : locked.msix.mask = erased.msix.mask := (raised_raiseAon ..).mask
  split
  · split
    · rw [gateEvents_mask, hLocked, hErased]
    · rw [hLocked, hErased]
  · exact hErased

theorem zeroSettle_mask (s : State) : (zeroSettle s).msix.mask = s.msix.mask :=
  foldl_kept (g := fun s => s.msix.mask) (fun s z => zeroEvents_mask z s) _ _

theorem HostCleared.resetsSettle {s : State} (h : HostCleared s) : HostCleared (resetsSettle s) :=
  h.of_eq ((resetsSettle_keeps s).hi_eq rfl) (by rw [(resetsSettle_keeps s).mss_eq rfl]) (resetsSettle_mask s)

theorem HostCleared.zeroSettle {s : State} (h : HostCleared s) : HostCleared (zeroSettle s) :=
  h.of_eq ((zeroSettle_keeps s).hi_eq rfl) (by rw [(zeroSettle_keeps s).mss_eq rfl]) (zeroSettle_mask s)

theorem bootActive_mail (s : State) : (bootActive s).mss.mail = s.mss.mail := by
  unfold bootActive
  extract_lets -merge +onlyGivenNames a _ u
  split
  · rfl
  split <;> rfl

theorem trialFallback_mail (outcome : Nat) (s : State) : (trialFallback outcome s).mss.mail = s.mss.mail := by
  unfold trialFallback
  extract_lets -merge +onlyGivenNames slot written _ told
  have hWritten : written.mss = s.mss := (bootWrite_keeps ..).mss_eq rfl
  have hTold : told.mss.mail = written.mss.mail := rfl
  rw [bootActive_mail, hTold, hWritten]

theorem bootRom_mail (s : State) : (bootRom s).mss.mail = s.mss.mail := by
  unfold bootRom
  extract_lets b written
  have hWritten : written.mss = s.mss := (bootWrite_keeps ..).mss_eq rfl
  split
  · split
    · split
      · show written.mss.mail = s.mss.mail
        rw [hWritten]
      · rw [trialFallback_mail, hWritten]
    · exact trialFallback_mail ..
  · exact bootActive_mail s

/-- A restart with no request in the mailbox. -/
theorem hostCleared_mssRestart {s : State} (h : HostCleared s) (cause unitCause : Nat) (byHost : Bool) :
    HostCleared (mssRestart cause unitCause byHost s) := by
  unfold mssRestart
  extract_lets -merge +onlyGivenNames told _ closed ds start _ restarted reset ended
  have hTold : HostCleared told := h.of_eq (raiseMss_hi ..) (by rw [raiseMss_mss]) (raised_raiseMss ..).mask
  have hClosed : HostCleared closed := by
    unfold closed
    split
    · exact hTold.of_eq rfl rfl rfl
    · exact hTold
  have none_ : ds = [] := by simp [ds, hClosed.mail]
  have hReset : HostCleared reset := ⟨hClosed.rings, hClosed.posts, rfl, hClosed.mask⟩
  have hEnded : HostCleared ended := by
    unfold ended
    rw [none_]
    exact hReset
  have hBooted : HostCleared (bootRom ended) := hEnded.of_eq ((bootRom_keeps ended).hi_eq rfl) (bootRom_mail ended)
    (by rw [(bootRom_keeps ended).msix_eq rfl])
  exact hBooted.resetsSettle

theorem hostCleared_reset (s : State) : HostCleared (hostLinkReset s) := by
  unfold hostLinkReset
  extract_lets due all disabled noCq noSq aborted noFrames regs raised settled
  have hRegs : HostCleared regs := (hostCleared_flrRegs (flrUnits_mail noFrames)).of_eq rfl rfl rfl
  have hRaised : HostCleared raised := hRegs.of_eq (raise_hi ..) (by rw [raise_mss]) (raised_raise ..).mask
  have hSettled : HostCleared settled := hRaised.resetsSettle.zeroSettle
  clear_value due
  split
  · exact hostCleared_mssRestart hSettled _ _ _
  · exact hSettled

theorem hostLinkReset_cln (s : State) :
    (hostLinkReset s).cln = { s.cln with confirmPending := false, confirmRole := false } := by
  unfold hostLinkReset
  extract_lets due all disabled noCq noSq aborted noFrames regs raised settled
  have hNoCq : noCq.cln = disabled.cln := foldl_kept (g := State.cln) (fun _ _ => (cqDisable_keeps ..).cln_eq rfl) _ _
  have hNoSq : noSq.cln = noCq.cln := foldl_kept (g := State.cln) (fun _ _ => (updSq_keeps ..).cln_eq rfl) _ _
  have hAborted : aborted.cln = noSq.cln := foldl_kept (g := State.cln) (fun _ _ => (abortTaken_keeps ..).cln_eq rfl) _ _
  have hNoFrames : noFrames.cln = s.cln := by
    refine (foldl_kept (g := State.cln) (fun _ _ => (flrFrame_keeps ..).cln_eq rfl) _ _).trans ?_
    rw [hAborted, hNoSq, hNoCq, (evDisable_keeps s).cln_eq rfl]
  have hRegs : regs.cln = { s.cln with confirmPending := false, confirmRole := false } := by
    rw [← hNoFrames, ← (flrUnits_keeps noFrames).cln_eq rfl]
    exact (cvHostReset_keeps _).cln_eq rfl
  have hSettled : settled.cln = regs.cln := by
    rw [(zeroSettle_keeps _).cln_eq rfl, (resetsSettle_keeps _).cln_eq rfl, raise_cln]
  clear_value due
  split
  · rw [(mssRestart_keeps ..).cln_eq rfl, hSettled, hRegs]
  · rw [hSettled, hRegs]

/-- The host side is reset and the confirmation kept (15 R504, 21 R645). -/
def HostReset (s t : State) : Prop :=
  (∀ r : Fin 16, (sqAt t r).st = .disabled ∧ (sqAt t r).taken = []) ∧ t.hi.rxPosts = [] ∧ t.mss.mail = [] ∧
    t.msix.mask = true ∧ t.cln.confirmed = s.cln.confirmed

theorem HostCleared.kept {s t : State} (h : HostCleared t) (confirmed : t.cln.confirmed = s.cln.confirmed) : HostReset s t :=
  ⟨h.rings, h.posts, h.mail, h.mask, confirmed⟩

theorem linkLost_life (s : State) : (linkLost s).life.linkUp = false := by
  rw [linkLost, (hostLinkReset_keeps _).life_eq rfl]

theorem hostLinkReset_clears (s : State) : HostReset s (hostLinkReset s) :=
  (hostCleared_reset s).kept (by rw [hostLinkReset_cln])

theorem linkLost_clears (s : State) : HostReset s (linkLost s) :=
  (hostCleared_reset _).kept (by rw [hostLinkReset_cln])

end Sys2Proof.Machine

open Sys2Proof Sys2Proof.Machine

/-- Settles O51, by the core held in reset and the always-on domain drawn anew. -/
theorem coreHeldInReset : Obligations.CoreHeldInReset := by
  intro s
  refine ⟨fun up => ?porst, fun up awake => ?core, fun up => ?loss, fun down => ?back⟩
  case porst => exact completes_aonDoes rfl up rfl ⟨rfl, rfl, rfl, rfl, rfl⟩
  case core =>
    refine completes_aonDoes (t := coreDown { s with life := { s.life with coreLost := true } }) rfl up (if_neg awake) ⟨?_, rfl, rfl, rfl⟩
    simp [devUp, coreDown]
  case loss => exact completes_aonDoes rfl up rfl ⟨rfl, rfl, rfl, rfl, rfl, rfl⟩
  case back =>
    refine ⟨_, rfl, ?_⟩
    rw [if_neg (by rw [down]; decide)]
    exact aonPowerUp_drawn s

/-- Settles O53, by the state a host-link reset leaves. -/
theorem hostLinkResets : Obligations.HostLinkResets := by
  intro s up
  refine ⟨fun linked => ?flr, fun linked => ?perst, fun linked => ?hot, fun linked on => ?down, fun alone => ?held⟩
  case flr =>
    refine completes_does (t := hostLinkReset s) rfl up (if_neg (by simp [linked])) ⟨hostLinkReset_clears s, ?_⟩
    rw [(hostLinkReset_keeps s).life_eq rfl]
  case perst =>
    exact completes_does (t := linkLost s) rfl up (if_neg (by simp [linked])) ⟨linkLost_clears s, linkLost_life s⟩
  case hot =>
    exact completes_does (t := linkLost s) rfl up (if_neg (by simp [linked])) ⟨linkLost_clears s, linkLost_life s⟩
  case down =>
    exact completes_does (t := linkLost s) rfl up ((if_neg (by simp [linked])).trans (if_pos on)) ⟨linkLost_clears s, linkLost_life s⟩
  case held => exact completes_state rfl up (if_pos alone) rfl rfl

end

section
/-! From power-on to ready (21): the cold start, the recovery image, MSS_READY and the confirmation. -/
namespace Sys2Proof.Machine

/-- What follows step 4 of a cold start leaves the blocks at their reset values. -/
theorem coldStart_afterBlocks (st : Straps) (env : BootEnv) (s : State) :
    Keeps (.cx :: .tmp :: .pwr :: .mss :: .freeCtr :: eventParts) (coldBlocks st env.banks s) (coldStart st env s) := by
  unfold coldStart
  refine (coldBoot_keeps ..).step (by decide) ((coldTamper_keeps ..).step (by decide) ((logFree_keeps ..).step (by decide) ?_))
  exact (coldTests_keeps ..).step (by decide) ((coldEvents_keeps ..).step (by decide) ((bootAdvance_keeps ..).step (by decide) (.refl _ _)))

/-! ### MSS_READY (18 R572, 21 Table 21.2) -/

theorem mssFresh_mss (s : State) : (mssFresh s).mss = s.mss := (mssFresh_keeps s).mss_eq rfl

theorem trialConfirm_st (s : State) : (trialConfirm s).mss.st = s.mss.st := by
  unfold trialConfirm
  split
  · extract_lets -merge +onlyGivenNames slot written _ _ trial
    have hWritten : written.mss = s.mss := (bootWrite_keeps ..).mss_eq rfl
    have hTrial : trial.mss.st = written.mss.st := rfl
    rw [mssUpdateEv, raiseMss_mss, hTrial, hWritten]
  · rfl

theorem mssReadyNow_up (s : State) : (mssReadyNow s).mss.st = 1 ∧ (mssReadyNow s).life.mssReadySeen = true ∧
    (mssReadyNow s).cln = { s.cln with fw := s.mss.fw } := by
  unfold mssReadyNow
  extract_lets -merge +onlyGivenNames _ _ _ up fresh told due _ emptied
  have hFresh := mssFresh_keeps up
  have hDue : (due.foldl (fun s u => mssUpdateEv u.1 u.2.1 u.2.2 s) emptied).mss = emptied.mss :=
    foldl_kept (g := State.mss) (fun _ _ => raiseMss_mss ..) _ _
  have hDueLife : (due.foldl (fun s u => mssUpdateEv u.1 u.2.1 u.2.2 s) emptied).life = emptied.life :=
    foldl_kept (g := State.life) (fun _ _ => raiseMss_life ..) _ _
  have hDueCln : (due.foldl (fun s u => mssUpdateEv u.1 u.2.1 u.2.2 s) emptied).cln = emptied.cln :=
    foldl_kept (g := State.cln) (fun _ _ => raiseMss_cln ..) _ _
  have hTold : emptied.mss.st = told.mss.st := rfl
  refine ⟨?_, ?_, ?_⟩
  · rw [trialConfirm_st, hDue, hTold, raiseMss_mss, hFresh.mss_eq rfl]
  · rw [(trialConfirm_keeps _).life_eq rfl, hDueLife]
    show told.life.mssReadySeen = true
    rw [raiseMss_life, hFresh.life_eq rfl]
  · rw [(trialConfirm_keeps _).cln_eq rfl, hDueCln]
    show told.cln = _
    rw [raiseMss_cln, hFresh.cln_eq rfl]

theorem mssStarting_up {s : State} (up : s.mss.st = 1) : mssStarting s = false := by
  simp [mssStarting, up]

/-- The firmware is up: no longer starting, and a pending confirmation accepted (21 R643). -/
def MssUp (s t : State) : Prop :=
  mssStarting t = false ∧ t.life.mssReadySeen = true ∧ t.cln.confirmed = (s.cln.confirmed || s.cln.confirmPending)


/-- The check-value channels reloaded, the firmware up, its complaint about the straps logged. -/
def firmwareUp (s : State) : State :=
  let s := mssReadyNow (updCv 3 (fun _ => CvCh.reset 3) (updCv 2 (fun _ => CvCh.reset 2) s))
  if strapsValid s then s else logFree 0x09F1 s

theorem firmwareUp_up (s : State) : (firmwareUp s).mss.st = 1 ∧ (firmwareUp s).life.mssReadySeen = true ∧
    (firmwareUp s).cln = { s.cln with fw := s.mss.fw } := by
  unfold firmwareUp
  extract_lets ready
  obtain ⟨st, seen, cln⟩ := mssReadyNow_up (updCv 3 (fun _ => CvCh.reset 3) (updCv 2 (fun _ => CvCh.reset 2) s))
  split
  · exact ⟨st, seen, cln⟩
  · rw [(logFree_keeps ..).mss_eq rfl, (logFree_keeps ..).life_eq rfl, (logFree_keeps ..).cln_eq rfl]
    exact ⟨st, seen, cln⟩

theorem mssReady_up (s : State) : MssUp s (if (firmwareUp s).cln.confirmPending then confirmNow (firmwareUp s) else firmwareUp s) := by
  obtain ⟨st, seen, cln⟩ := firmwareUp_up s
  split
  · next waits =>
    have pend : s.cln.confirmPending = true := (congrArg Cln.confirmPending cln).symm.trans waits
    exact ⟨mssStarting_up st, seen, by rw [pend, Bool.or_true]; rfl⟩
  · next none_ =>
    have pend : s.cln.confirmPending = false := (congrArg Cln.confirmPending cln).symm.trans (by simpa using none_)
    exact ⟨mssStarting_up st, seen, by rw [pend, Bool.or_false, cln]⟩

/-! ### The confirmation (21 R643, R644, 00 R7) -/

theorem confirmWrite_matches {v : Word} {s : State} (go : bitAt v 31 = true) (fresh : s.cln.confirmed = false)
    (role : bitAt v 0 = s.cln.role) (valid : s.cln.role = true ∨ s.cln.hostmode = false) :
    (confirmWrite v s).cln =
      { s.cln with confirmRole := s.cln.role, confirmed := s.life.mssReadySeen, confirmPending := !s.life.mssReadySeen } := by
  have straps : strapsValid { s with cln := { s.cln with confirmRole := s.cln.role } } = true := by
    simpa [strapsValid] using valid
  unfold confirmWrite
  rw [if_neg (by simp [fresh]), role]
  dsimp only
  rw [if_neg (by simp [go, straps]), if_neg (by simp)]
  cases seen : s.life.mssReadySeen
  · simp [fresh]
  · simp [confirmNow]

theorem confirmWrite_differs {v : Word} {s : State} (go : bitAt v 31 = true) (fresh : s.cln.confirmed = false)
    (role : bitAt v 0 ≠ s.cln.role) (valid : s.cln.role = true ∨ s.cln.hostmode = false) :
    (confirmWrite v s).cln = { s.cln with confirmRole := !s.cln.role, confirmPending := false } := by
  have other : bitAt v 0 = !s.cln.role := by
    cases h : s.cln.role <;> simp_all
  have straps : strapsValid { s with cln := { s.cln with confirmRole := !s.cln.role } } = true := by
    simpa [strapsValid] using valid
  unfold confirmWrite
  rw [if_neg (by simp [fresh]), other]
  dsimp only
  rw [if_neg (by simp [go, straps]), if_pos (by simp), raise_cln]

end Sys2Proof.Machine

open Sys2Proof Sys2Proof.Machine

/-- Settles O52, by the blocks a cold start resets, the firmware coming up and the two outcomes of a confirmation. -/
theorem powerOnToReady : Obligations.PowerOnToReady := by
  intro s
  refine ⟨fun st env up => ?cold, fun up linked => ?link, fun img up waits => ?image, fun up starts => ?ready,
    fun v up go fresh role valid => ?matching, fun v up go fresh role valid => ?other⟩
  case cold =>
    have kept := coldStart_afterBlocks st env s
    refine completes_aonDoes (t := coldStart st env s) rfl up rfl ?_
    rw [kept.cln_eq rfl, kept.life_eq rfl, kept.mpt_eq rfl, kept.qr_eq rfl, kept.air_eq rfl, kept.lt_eq rfl]
    exact ⟨rfl, rfl, rfl, rfl, rfl, rfl, rfl, rfl, rfl, rfl⟩
  case link => exact completes_state rfl up (if_neg (by simp [linked])) rfl rfl
  case image =>
    cases fault : imgFault s 1 img with
    | none => exact completes_does rfl up (if_pos ⟨waits, by rw [fault]; rfl⟩) ⟨rfl, fun _ => ⟨rfl, rfl, rfl⟩⟩
    | some c =>
      refine completes_does (t := s) rfl up (if_neg fun h => ?_) ⟨waits, nofun⟩
      rw [fault] at h
      exact Bool.noConfusion h.2
  case ready =>
    refine completes_does (t := if (firmwareUp s).cln.confirmPending then confirmNow (firmwareUp s) else firmwareUp s) rfl up
      (if_pos starts) (mssReady_up s)
  case matching =>
    exact completes_host (f := confirmWrite v) rfl up fun w x => confirmWrite_matches (s := s.woken w x) go fresh role valid
  case other =>
    exact completes_host (f := confirmWrite v) rfl up fun w x => confirmWrite_differs (s := s.woken w x) go fresh role valid

end

section
/-! Sleep, HOLDOVER and DORMANT, the rails and the line-driver supply (20). -/
namespace Sys2Proof.Machine

/-! ### The line domain (20 R617) -/

/-- A port as the line domain going off leaves it. -/
def portDark (s : State) (p : Nat) : State :=
  updPortX p (fun y => { y with ldEn := false, blank := false, offPend := false, rxActive := none })
    (updPort p (fun y => { y with st := .off, cause := 0 }) s)

theorem lineOff_eq (s : State) : lineOff s = [0, 1, 2].foldl (fun s p => dropPortFrames p s) ([0, 1, 2].foldl portDark s) := rfl

theorem portDark_off {p q : Nat} {s : State} (h : (portS s p).st = .off ∨ q = p ∧ p < 3) : (portS (portDark s q) p).st = .off := by
  rw [portDark, portS_updPortX, portS_updPort]
  split
  · rfl
  · next other => exact h.resolve_right other

theorem lineOff_ports (s : State) {p : Nat} (inside : p < 3) : (portS (lineOff s) p).st = .off := by
  rw [lineOff_eq, portS_congr (foldl_kept (g := State.afe) (fun _ _ => (dropPortFrames_keeps ..).afe_eq rfl) _ _)]
  obtain rfl | rfl | rfl : p = 0 ∨ p = 1 ∨ p = 2 := by omega
  · exact portDark_off (.inl (portDark_off (.inl (portDark_off (.inr ⟨rfl, inside⟩)))))
  · exact portDark_off (.inl (portDark_off (.inr ⟨rfl, inside⟩)))
  · exact portDark_off (.inr ⟨rfl, inside⟩)

theorem setPwr_pwr (new : PwrSt) (src : Nat) (s : State) :
    (setPwr new src s).pwr = { s.pwr with st := new, lastSrc := BitVec.ofNat 4 src, since := s.now } := raise_pwr ..

/-! ### Sleep (20 R620 to R622) -/

theorem wakeBy_asleep {src : Nat} {s : State} (sleeps : asleep s = true) (fresh : s.pwr.exiting = none) :
    wakeBy src s = { s with
      pwr := { s.pwr with exiting := some (BitVec.ofNat 4 src) }
      slp := { s.slp with awakeFrom := some (s.slp.awakeFrom.getD s.now) } } :=
  if_pos ⟨by simpa [asleep] using sleeps, fresh⟩

/-- The device after it has gone to sleep. -/
def sleeping (s : State) : State :=
  if slMode s 0 = 1 then awakeStop (ticksUs 20) (setPwr .appointed 0 (lineOff s))
  else
    let s := setPwr .sampled 0 (lineOff s)
    awakeStop (ticksUs 50) { s with
      clk := { s.clk with pll := 0 }
      slp := { s.slp with beaconHeard := false } }

theorem sleeping_state (s : State) : (sleeping s).pwr.st = (if slMode s 0 = 1 then PwrSt.appointed else .sampled) ∧
    ∀ p < 3, (portS (sleeping s) p).st = .off := by
  unfold sleeping
  split
  · refine ⟨?_, fun p inside => ?_⟩
    · rw [(awakeStop_keeps ..).pwr_eq rfl, setPwr_pwr]
    · rw [portS_congr (((awakeStop_keeps ..).afe_eq rfl).trans ((setPwr_keeps ..).afe_eq rfl)), lineOff_ports s inside]
  · extract_lets slept
    have hSlept : slept.pwr.st = .sampled := by rw [setPwr_pwr]
    have hAfe : slept.afe = (lineOff s).afe := (setPwr_keeps ..).afe_eq rfl
    refine ⟨?_, fun p inside => ?_⟩
    · rw [(awakeStop_keeps ..).pwr_eq rfl]
      exact hSlept
    · refine (congrArg PortS.st (portS_congr ?_ p)).trans (lineOff_ports s inside)
      exact ((awakeStop_keeps ..).afe_eq rfl).trans hAfe

theorem sleepLeave_pwr (src : Nat) (s : State) :
    (sleepLeave src s).pwr = { s.pwr with exiting := none, st := .active, lastSrc := BitVec.ofNat 4 src, since := s.now } := by
  unfold sleepLeave
  rw [(evNotify_keeps _).pwr_eq rfl, evDrainAll_pwr, (lineOn_keeps _).pwr_eq rfl, setPwr_pwr]

/-! ### HOLDOVER (20 R623, R624) -/

/-- The device with the generators, the windows and the line's supply stopped (20 Table 20.5). -/
def powerSaved (s : State) : State :=
  let s := rgHoldover s
  let s := awakeStop 0 { s with slp := { s.slp with window := none, linger := none } }
  { s with
    pwr := { s.pwr with ldvGood := false }
    clk := { s.clk with pll := s.clk.pll &&& 7 } }

theorem holdoverIn_eq (s : State) : holdoverIn s = setPwr .holdover 6 (lineOff (powerSaved s)) := rfl

theorem powerSaved_pwr (s : State) : (powerSaved s).pwr = { s.pwr with ldvGood := false } := by
  have held : (rgHoldover s).pwr = s.pwr := (rgHoldover_keeps s).pwr_eq rfl
  rw [← held]
  exact congrArg (fun p : Pwr => { p with ldvGood := false }) ((awakeStop_keeps ..).pwr_eq rfl)

theorem holdoverIn_state (s : State) : (holdoverIn s).pwr.st = .holdover ∧ (holdoverIn s).pwr.pwrfail = s.pwr.pwrfail ∧
    (holdoverIn s).pwr.ldvGood = false ∧ ∀ p < 3, (portS (holdoverIn s) p).st = .off := by
  rw [holdoverIn_eq, setPwr_pwr, (lineOff_keeps (powerSaved s)).pwr_eq rfl, powerSaved_pwr]
  refine ⟨rfl, rfl, rfl, fun p inside => ?_⟩
  rw [portS_congr ((setPwr_keeps ..).afe_eq rfl), lineOff_ports _ inside]

/-- The device as HOLDOVER is left. -/
def holdoverOut (s : State) : State :=
  let s := { s with
    pwr := { s.pwr with ldvGood := bitAt s.pwr.ldv 31 }
    clk := { s.clk with pll := s.clk.pll ||| (pllsLocked s true &&& 8) } }
  teResume (lineOn (setPwr .active 7 s))

theorem holdoverOut_pwr (s : State) : (holdoverOut s).pwr =
    { s.pwr with ldvGood := bitAt s.pwr.ldv 31, st := .active, lastSrc := 7, since := s.now } := by
  unfold holdoverOut
  rw [(teResume_keeps _).pwr_eq rfl, (lineOn_keeps _).pwr_eq rfl]
  exact setPwr_pwr ..

end Sys2Proof.Machine

open Sys2Proof Sys2Proof.Machine

/-- Settles O54, by the power state and the ports after each transition. -/
theorem powerStates : Obligations.PowerStates := by
  intro s up
  refine ⟨fun may => ?entry, fun sleeps fresh => ?timer, fun i pin sleeps fresh => ?input, fun src sleeps exits => ?exit,
    fun cfg active silent => ?enter, fun held => ?leave⟩
  case entry => exact completes_does (t := sleeping s) rfl up (if_pos may) (sleeping_state s)
  case timer =>
    exact completes_does rfl up ((if_pos sleeps).trans (wakeBy_asleep sleeps fresh)) ⟨rfl, rfl⟩
  case input =>
    have awake : s.pwr.st ≠ .dormant := fun dormant => by simp [devUp, dormant] at up
    have aon : s.life.aonUp = true := by simp [devUp] at up; exact up.1.2
    refine completes_aonDoes (t := wakeBy 3 (setPad i true s)) rfl aon ?_ ?_
    · refine (if_neg awake).trans ((if_pos up).trans ?_)
      rw [pin]
      rfl
    · rw [wakeBy_asleep (s := setPad i true s) sleeps fresh]
      rfl
  case exit =>
    refine completes_does (t := sleepLeave src.toNat s) rfl up ?_ ?_
    · simp only [exits, if_pos sleeps]
    · rw [sleepLeave_pwr]
      exact ⟨rfl, by simp, rfl⟩
  case enter =>
    have noFrame : (s.line.q.any fun f => decide (f.st = .onLine)) = false := by simpa using silent
    have awake : asleep { s with pwr := { s.pwr with pwrfail := true } } = false := by simp [asleep, active]
    refine completes_does (t := holdoverIn { s with pwr := { s.pwr with pwrfail := true } }) rfl up ?_
      (holdoverIn_state { s with pwr := { s.pwr with pwrfail := true } })
    have enters : (!bitAt s.pwr.cfg 31 || decide (s.pwr.st = .holdover) || s.line.q.any fun f => decide (f.st = .onLine)) = false := by
      rw [cfg, active, noFrame]
      rfl
    refine (if_neg fun h => absurd (h.symm.trans enters) (by decide)).trans ?_
    exact congrArg holdoverIn (if_neg (by rw [awake]; decide))
  case leave =>
    refine completes_does (t := holdoverOut { s with pwr := { s.pwr with pwrfail := false } }) rfl up (if_pos held) ?_
    rw [holdoverOut_pwr]
    exact ⟨rfl, rfl, rfl⟩

end

section
/-! DORMANT, the rails and the line-driver supply (20 R610 to R614, R625). -/
namespace Sys2Proof.Machine

theorem awake_of_up {s : State} (up : devUp s = true) : s.pwr.st ≠ .dormant := fun dormant => by simp [devUp, dormant] at up

theorem aon_of_up {s : State} (up : devUp s = true) : s.life.aonUp = true := by
  simp only [devUp, Bool.and_eq_true] at up
  exact up.1.2

theorem wakeBy_active {src : Nat} {s : State} (active : s.pwr.st = .active) : wakeBy src s = s :=
  wakeBy_awake (by rw [active]; exact ⟨nofun, nofun⟩)

/-- A write that finds the device ACTIVE is its effect. -/
theorem completes_active {c : Instr} {s t : State} {f : State → State} {P : State → Prop} (e : exec c s = runHost s f)
    (up : devUp s = true) (active : s.pwr.st = .active) (does : f s = t) (queue : t.pending = s.pending) (p : P t) : Completes c s P :=
  completes_state (u := f (wakeBy 2 s)) e up (by rw [wakeBy_active active]; exact does) queue p

theorem pwrCtrlWrite_dormant {v : Word} {s : State} (go : bitAt v 31 = true) (active : s.pwr.st = .active) (idle : workOpen s = false)
    (ahead : bitAt s.pwr.cfg 1 = false ∨ s.tmp.aon.toNat + 32768 ≤ s.pwr.wakeAt.toNat) :
    pwrCtrlWrite v s = dormantIn (rxPostsDown s) := by
  have awake : asleep s = false := by simp [asleep, active]
  have late : ¬ (bitAt s.pwr.cfg 1 = true ∧ s.pwr.wakeAt.toNat < s.tmp.aon.toNat + 32768) := by
    rintro ⟨cfg, soon⟩
    obtain off | ahead := ahead
    · rw [off] at cfg
      cases cfg
    · omega
  simp only [pwrCtrlWrite, go, awake, idle, late, Bool.not_true, Bool.false_eq_true, if_false]

theorem pwrCtrlWrite_refused {v : Word} {s : State} (go : bitAt v 31 = true) (active : s.pwr.st = .active) (busy : workOpen s = true) :
    pwrCtrlWrite v s = pwrRefuse 2 s := by
  have awake : asleep s = false := by simp [asleep, active]
  simp only [pwrCtrlWrite, go, awake, busy, Bool.not_true, Bool.false_eq_true, if_false, if_true]

theorem setBank_bank (b : Nat) (v : BankVolt) (s : State) : (setBank b v s).pmx = { s.pmx with bank := vupd s.pmx.bank b fun _ => v } :=
  withInputs_pmx _ s

theorem setBank_pwr (b : Nat) (v : BankVolt) (s : State) : (setBank b v s).pwr = s.pwr := (setBank_keeps b v s).pwr_eq rfl

/-- A rail out of range, and its bank, where it supplies one. -/
def railOut (i : Fin 8) (s : State) : State :=
  let s := setRail i.val false s
  if 2 ≤ i.val ∧ i.val ≤ 4 then setBank (i.val - 2) .out s else s

theorem railOut_state (i : Fin 8) (s : State) :
    (railOut i s).pwr = { s.pwr with rails := s.pwr.rails &&& ~~~ BitVec.ofNat 8 (2 ^ i.val) } ∧
      (2 ≤ i.val → i.val ≤ 4 → vget (railOut i s).pmx.bank (i.val - 2) .v18 = .out) := by
  unfold railOut
  extract_lets t
  split
  · rw [setBank_pwr, setBank_bank]
    refine ⟨rfl, fun _ _ => ?_⟩
    rw [vget_vupd, if_pos ⟨rfl, by omega⟩]
  · next plain => exact ⟨rfl, fun low high => absurd ⟨low, high⟩ plain⟩

/-- A rail in range again, and its bank measured anew. -/
def railIn (i : Fin 8) (mv : BitVec 16) (s : State) : State :=
  let s := setRail i.val true s
  if 2 ≤ i.val ∧ i.val ≤ 4 then setBank (i.val - 2) (bankOf mv.toNat) s else s

theorem railIn_pwr (i : Fin 8) (mv : BitVec 16) (s : State) :
    (railIn i mv s).pwr = { s.pwr with rails := s.pwr.rails ||| BitVec.ofNat 8 (2 ^ i.val) } := by
  unfold railIn
  extract_lets t
  split
  · exact setBank_pwr ..
  · rfl

/-- The device on the other supply, and its event. -/
def backupSet (b : Bool) (s : State) : State :=
  raiseAon 0x0B06 0xFF (payload [(0, 1, ofBool b), (4, 4, (draw s).1.toNat)]) none
    { (draw s).2 with pwr := { (draw s).2.pwr with backup := b } }

theorem bitAt_ldvNorm (v : Word) : bitAt (ldvNorm v) 31 = bitAt v 31 := by
  have masked : bitAt (v &&& 0xDF000FFF) 31 = bitAt v 31 := by simp [bitAt]
  have kept : ∀ n, bitAt (setFld (v &&& 0xDF000FFF) 24 5 n) 31 = bitAt v 31 := fun n => by
    rw [bitAt_setFld _ _ _ _ (by decide), if_neg (by decide), masked]
  unfold ldvNorm limFld
  split
  · exact kept _
  split
  · exact kept _
  · exact masked

theorem ldvWrite_off {v : Word} {s : State} (was : bitAt s.pwr.ldv 31 = false) (off : bitAt v 31 = false) :
    ldvWrite v s = { s with pwr := { s.pwr with ldv := ldvNorm v, ldvGood := false } } := by
  simp only [ldvWrite, was, bitAt_ldvNorm, off, Bool.false_eq_true, false_and, if_false, Bool.false_and]

theorem ldvFault_pwr (s : State) : (ldvFault s).pwr = s.pwr := (ldvFault_keeps s).pwr_eq rfl

end Sys2Proof.Machine

open Sys2Proof Sys2Proof.Machine

/-- Settles O55, by the power component, the banks and the supply's register after each command. -/
theorem dormantAndRails : Obligations.DormantAndRails := by
  intro s
  refine ⟨fun v up go active idle ahead => ?dormant, fun v up go active busy => ?refused, fun up dormant cfg due fresh => ?wake,
    fun i high mv up other => ?out, fun i mv up other => ?back, fun b up changes => ?backup, fun v up was off => ?ldv,
    fun good up on held => ?regulation⟩
  case dormant =>
    refine completes_hostExits (f := pwrCtrlWrite v) rfl up fun x a => ?_
    rw [pwrCtrlWrite_dormant (s := s.woken { s.pwr with exiting := x } { s.slp with awakeFrom := a }) go active idle ahead]
    exact ⟨rfl, rfl, rfl, rfl⟩
  case refused =>
    exact completes_active (f := pwrCtrlWrite v) rfl up active (pwrCtrlWrite_refused go active busy) rfl rfl
  case wake =>
    refine completes_aonState (t := { s with pwr := { s.pwr with exiting := some 5 } }) rfl up ((if_pos ⟨dormant, cfg, due⟩).trans ?_) rfl rfl
    rw [fresh]
    rfl
  case out =>
    refine completes_does (t := raise 0x0B02 i.val [(0, 1, if high then 1 else 2), (4, 4, mv.toNat)] (railOut i s)) rfl up
      (if_neg other) ?_
    rw [raise_pwr, raise_pmx]
    exact railOut_state i s
  case back =>
    refine completes_does (t := raise 0x0B02 i.val [(0, 1, 3), (4, 4, mv.toNat)] (railIn i mv s)) rfl up (if_neg other) ?_
    rw [raise_pwr, railIn_pwr]
  case backup =>
    refine completes_aonDoes (t := backupSet b s) rfl up (if_neg changes) ?_
    rw [backupSet, (raiseAon_keeps ..).pwr_eq rfl]
    rfl
  case ldv =>
    refine completes_hostExits (f := ldvWrite v) rfl up fun x a => ?_
    rw [ldvWrite_off (s := s.woken { s.pwr with exiting := x } { s.slp with awakeFrom := a }) was off]
    exact ⟨rfl, rfl, rfl⟩
  case regulation =>
    refine completes_does (t := if good then { s with pwr := { s.pwr with ldvGood := good } } else
      ldvFault { s with pwr := { s.pwr with ldvGood := good } }) rfl up (if_pos ⟨on, held⟩) ?_
    split
    · rfl
    · rw [ldvFault_pwr]

end

section
/-! Tamper alarms, their zeroisation, the unlock and the lock of the configuration (19). -/
namespace Sys2Proof.Machine

/-! ### Zeroisation (19 R591 to R593) -/

theorem raiseAon_tmp (code inst : Nat) (p : BitVec 128) (stamp : Option (BitVec 64)) (s : State) :
    (raiseAon code inst p stamp s).tmp = { s.tmp with waiting := (raiseAon code inst p stamp s).tmp.waiting } := by
  unfold raiseAon
  split
  · split
    · rw [(raiseAt_keeps ..).tmp_eq rfl]
    · rw [raiseP_tmp]
  · rfl

/-- The keys are gone (19 R591). -/
structure KeysErased (t : State) : Prop where
  ksmk : t.tmp.ksmk = none
  ks : t.tmp.ks = 0
  kdk : t.cx.kdk = none
  use : t.cx.use = []

theorem KeysErased.of_cx {s t : State} (h : KeysErased s) (tmp : t.tmp.ksmk = s.tmp.ksmk ∧ t.tmp.ks = s.tmp.ks) (cx : t.cx = s.cx) :
    KeysErased t :=
  ⟨tmp.1.trans h.ksmk, tmp.2.trans h.ks, by rw [cx]; exact h.kdk, by rw [cx]; exact h.use⟩

theorem keysErased_eraseKeys (s : State) : KeysErased (eraseKeys s) := ⟨rfl, rfl, rfl, rfl⟩

theorem eraseKeys_latch (s : State) : (eraseKeys s).tmp.latch = s.tmp.latch := by
  unfold eraseKeys
  generalize List.range 64 = slots
  extract_lets -merge +onlyGivenNames cleared
  have hCleared : cleared.tmp = s.tmp := by
    refine foldl_kept (g := State.tmp) (fun s i => ?_) slots s
    dsimp only
    rw [(clearSlot_keeps ..).tmp_eq rfl]
    split
    · rfl
    · exact (dropKeyLedger_keeps ..).tmp_eq rfl
  show cleared.tmp.latch = s.tmp.latch
  rw [hCleared]

/-- The jobs and frames of a running device end before the keys are erased. -/
def tamperEnds (s : State) : List (Nat × Nat) × State :=
  if devUp s then
    let (a, s) := cxTamper s
    let (b, s) := tamperFrames s
    (a ++ b, s)
  else ([], s)

theorem tamperEnds_tmp (s : State) : (tamperEnds s).2.tmp = s.tmp := by
  unfold tamperEnds
  split
  · exact ((tamperFrames_keeps _).tmp_eq rfl).trans ((cxTamper_keeps s).tmp_eq rfl)
  · rfl

/-- The state in which TAMPER_LOCKED is entered, the zeroisation noted. -/
def zeroised (src : Nat) (s : State) : State :=
  let e := tamperEnds s
  let live := e.1.filter fun d => (takenAt e.2 d.1 d.2).isSome
  let t := eraseKeys e.2
  { t with tmp := { t.tmp with
      locked := true
      zero := t.tmp.zero ++
        [{ at_ := t.now, jobs := live.length, waits := live, done := none, source := src, enters := !s.tmp.locked }] } }

theorem zeroise_eq {src : Nat} {s : State} (none_ : (s.tmp.zero.any fun z => z.done.isNone) = false) :
    zeroise src s = if devUp (wakeBy 4 (zeroised src s)) then tamperUpdate (wakeBy 4 (zeroised src s)) else wakeBy 4 (zeroised src s) := by
  rw [zeroise, if_neg (by simp [none_])]
  unfold zeroised tamperEnds
  generalize (if devUp s = true then _ else _) = ends
  generalize eraseKeys = erase
  obtain ⟨ds, t⟩ := ends
  rfl


theorem zeroised_state (src : Nat) (s : State) :
    KeysErased (zeroised src s) ∧ (zeroised src s).tmp.locked = true ∧ (zeroised src s).tmp.latch = s.tmp.latch := by
  have erased := keysErased_eraseKeys (tamperEnds s).2
  have latch := eraseKeys_latch (tamperEnds s).2
  rw [tamperEnds_tmp] at latch
  unfold zeroised
  dsimp only
  generalize eraseKeys (tamperEnds s).2 = t at erased latch ⊢
  exact ⟨erased.of_cx ⟨rfl, rfl⟩ rfl, rfl, latch⟩

/-- The decision, its zeroisation and the restart it brings (19 R591, R596). -/
theorem zeroise_state {src : Nat} {s : State} (none_ : (s.tmp.zero.any fun z => z.done.isNone) = false) :
    KeysErased (zeroise src s) ∧ (zeroise src s).tmp.locked = true ∧ (zeroise src s).tmp.latch = s.tmp.latch := by
  obtain ⟨erased, locked, latch⟩ := zeroised_state src s
  have kept : (zeroise src s).tmp = (zeroised src s).tmp ∧ (zeroise src s).cx = (zeroised src s).cx := by
    rw [zeroise_eq none_]
    split
    · exact ⟨((tamperUpdate_keeps _).tmp_eq rfl).trans ((wakeBy_keeps ..).tmp_eq rfl),
        ((tamperUpdate_keeps _).cx_eq rfl).trans ((wakeBy_keeps ..).cx_eq rfl)⟩
    · exact ⟨(wakeBy_keeps ..).tmp_eq rfl, (wakeBy_keeps ..).cx_eq rfl⟩
  obtain ⟨tmp, cx⟩ := kept
  exact ⟨erased.of_cx (by rw [tmp]; exact ⟨rfl, rfl⟩) cx, by rw [tmp, locked], by rw [tmp, latch]⟩

theorem zeroise_latch (src : Nat) (s : State) : (zeroise src s).tmp.latch = s.tmp.latch := by
  cases running : s.tmp.zero.any fun z => z.done.isNone with
  | true => rw [zeroise, if_pos running]
  | false => exact (zeroise_state running).2.2

/-! ### Alarms (19 R590) -/

/-- The alarm latched and its event raised, before the decision. -/
def alarmNoted (src : Nat) (s : State) : State :=
  let p := pwrCode s.pwr.st
  let c := situation s
  let first := decide (s.tmp.latch = 0)
  let act := tmpAct s src
  let s := { s with tmp := { s.tmp with
    latch := s.tmp.latch ||| BitVec.ofNat 5 (2 ^ src)
    live := if src = 2 ∨ src = 3 then s.tmp.live else s.tmp.live ||| BitVec.ofNat 5 (2 ^ src)
    causeReg := if first && act then at32 p 8 ||| at32 c 4 ||| at32 src 0 else s.tmp.causeReg
    stamp := if first && act then s.tmp.aon else s.tmp.stamp } }
  raiseAon 0x0A01 src (payload [(0, 1, p), (1, 1, c), (4, 8, s.tmp.aon.toNat)]) (some s.tmp.aon) s

theorem alarmNoted_tmp (src : Nat) (s : State) :
    (alarmNoted src s).tmp.latch = s.tmp.latch ||| BitVec.ofNat 5 (2 ^ src) ∧ (alarmNoted src s).tmp.zero = s.tmp.zero := by
  rw [alarmNoted, raiseAon_tmp]
  exact ⟨rfl, rfl⟩

theorem alarm_eq (src : Nat) (s : State) : alarm src s =
    if tmpAct s src then
      let t := zeroise src (alarmNoted src s)
      if t.pwr.st = .dormant then { t with pwr := { t.pwr with exiting := some (t.pwr.exiting.getD 4) } } else t
    else alarmNoted src s := rfl

theorem alarm_acts {src : Nat} {s : State} (act : tmpAct s src = true) : (alarm src s).tmp = (zeroise src (alarmNoted src s)).tmp ∧
    (alarm src s).cx = (zeroise src (alarmNoted src s)).cx := by
  rw [alarm_eq, if_pos act]
  dsimp only
  split <;> exact ⟨rfl, rfl⟩

theorem alarm_latch (src : Nat) (s : State) : (alarm src s).tmp.latch = s.tmp.latch ||| BitVec.ofNat 5 (2 ^ src) := by
  cases act : tmpAct s src with
  | true => rw [(alarm_acts act).1, zeroise_latch, (alarmNoted_tmp src s).1]
  | false =>
    rw [alarm_eq, act]
    exact (alarmNoted_tmp src s).1

/-- An alarm that acts, with no zeroisation in progress, locks the device and erases its keys. -/
theorem alarm_locks {src : Nat} {s : State} (act : tmpAct s src = true) (idle : ∀ z ∈ s.tmp.zero, z.done ≠ none) :
    (alarm src s).tmp.locked = true ∧ KeysErased (alarm src s) := by
  have none_ : ((alarmNoted src s).tmp.zero.any fun z => z.done.isNone) = false := by
    rw [(alarmNoted_tmp src s).2]
    simpa using idle
  obtain ⟨tmp, cx⟩ := alarm_acts act
  obtain ⟨erased, locked, -⟩ := zeroise_state (src := src) none_
  exact ⟨by rw [tmp, locked], erased.of_cx (by rw [tmp]; exact ⟨rfl, rfl⟩) cx⟩

/-! ### The end of a zeroisation (19 R592) -/

theorem zeroEvents_zero (s : State) (z : Zeroise) :
    (zeroEvents s z).tmp.zero = s.tmp.zero ∧ (zeroEvents s z).tmp.locked = s.tmp.locked := by
  unfold zeroEvents
  extract_lets ns erased locked
  have hErased : erased.tmp.zero = s.tmp.zero ∧ erased.tmp.locked = s.tmp.locked := by
    rw [show erased.tmp = _ from raiseAon_tmp ..]
    exact ⟨rfl, rfl⟩
  have hLocked : locked.tmp.zero = s.tmp.zero ∧ locked.tmp.locked = s.tmp.locked := by
    rw [show locked.tmp = _ from raiseAon_tmp ..]
    exact hErased
  split
  · split
    · rw [(gateEvents_keeps ..).tmp_eq rfl]
      exact hLocked
    · exact hLocked
  · exact hErased

theorem zeroSettle_zero (s : State) :
    (zeroSettle s).tmp.zero = s.tmp.zero.filter (fun z => !zeroOver z) ∧ (zeroSettle s).tmp.locked = s.tmp.locked := by
  unfold zeroSettle
  extract_lets -merge +onlyGivenNames ended
  exact ⟨foldl_kept (g := fun s => s.tmp.zero) (fun s z => (zeroEvents_zero s z).1) ended _,
    foldl_kept (g := fun s => s.tmp.locked) (fun s z => (zeroEvents_zero s z).2) ended _⟩

/-! ### The unlock (19 R598, R600) -/

/-- With no source in alarm nothing is observed. -/
theorem observeLive_calm {s : State} (calm : s.tmp.live = 0) : observeLive s = s :=
  List.foldlRecOn (motive := (· = s)) _ _ rfl fun t same i _ => by
    subst same
    exact if_neg (by simp [calm])

theorem keyUnseal_unsealed {s : State} (store : s.tmp.ks = 0 ∨ s.tmp.ksmk.isSome = true) :
    (keyUnseal s).tmp.ks = 2 ∧ (keyUnseal s).cx.kdk.isSome = true := by
  have drawn : ∃ k, (if s.tmp.ks = 0 then drawKsmk s else s).tmp.ksmk = some k := by
    split
    · exact ⟨_, rfl⟩
    · next sealed => exact Option.isSome_iff_exists.1 (store.resolve_left sealed)
  obtain ⟨k, drawn⟩ := drawn
  simp only [keyUnseal, drawn, Option.isSome_some, and_self]

theorem unlockNow_opens {s : State} (store : s.tmp.ks = 0 ∨ s.tmp.ksmk.isSome = true) :
    (unlockNow s).tmp.locked = false ∧ (unlockNow s).tmp.causeReg = 0 ∧ (unlockNow s).tmp.ks = 2 ∧ (unlockNow s).cx.kdk.isSome = true := by
  obtain ⟨ks, kdk⟩ := keyUnseal_unsealed store
  unfold unlockNow
  rw [(gateEvents_keeps ..).tmp_eq rfl, (gateEvents_keeps ..).cx_eq rfl, raise_tmp, raise_cx]
  exact ⟨rfl, rfl, ks, kdk⟩

theorem tmpCtrlWrite_unlocks {v : Word} {s : State} (noLock : bitAt v 31 = false) (unlock : bitAt v 0 = true) (calm : s.tmp.live = 0)
    (clear : s.tmp.latch = 0) (locked : s.tmp.locked = true) : tmpCtrlWrite v s = unlockNow s := by
  simp only [tmpCtrlWrite, noLock, unlock, observeLive_calm calm, calm, clear, locked, Bool.false_eq_true, if_false, Bool.not_true, ne_eq,
    not_true_eq_false]

theorem tmpCtrlWrite_locks {v : Word} (s : State) (lock : bitAt v 31 = true) (noUnlock : bitAt v 0 = false) :
    tmpCtrlWrite v s = { s with tmp := { s.tmp with cfgLocked := true } } := by
  simp only [tmpCtrlWrite, lock, noUnlock, if_true, Bool.not_false]

end Sys2Proof.Machine

open Sys2Proof Sys2Proof.Machine

/-- Settles O58, by the alarm latched, the keys erased, the zeroisations that are over and the store unsealed. -/
theorem tamper : Obligations.Tamper := by
  intro s
  refine ⟨fun i up en => ?input, fun k aon up en armed => ?glitch, fun up => ?done, fun v up noLock unlock calm clear locked store => ?unlock,
    fun v up lock noUnlock => ?lock⟩
  case input =>
    refine completes_aonDoes (t := alarm (tamperIdx i) s) rfl up (if_pos en) ⟨alarm_latch .., fun act idle => ?_⟩
    obtain ⟨locked, erased⟩ := alarm_locks act idle
    exact ⟨locked, erased.ksmk, erased.ks, erased.kdk, erased.use⟩
  case glitch =>
    exact completes_aonDoes (t := alarm (glitchIdx k) s) rfl aon (if_pos (by simp [up, en, armed])) (alarm_latch ..)
  case done =>
    refine completes_aonDoes rfl up rfl ⟨fun z mem => ?_, (zeroSettle_zero _).2⟩
    rw [(zeroSettle_zero _).1, List.mem_filter] at mem
    obtain ⟨mem, waits⟩ := mem
    obtain ⟨z₀, -, rfl⟩ := List.mem_map.1 mem
    have done : (if z₀.done.isNone then { z₀ with done := some s.now } else z₀).done.isSome = true := by
      split
      · rfl
      · next set => simpa [Option.isSome_iff_ne_none] using set
    refine ⟨done, fun empty => ?_⟩
    rw [zeroOver, done, empty] at waits
    cases waits
  case unlock =>
    refine completes_host (f := tmpCtrlWrite v) rfl up fun w x => ?_
    rw [tmpCtrlWrite_unlocks (s := s.woken w x) noLock unlock calm clear locked]
    exact unlockNow_opens (s := s.woken w x) store
  case lock =>
    exact completes_hostDoes (f := tmpCtrlWrite v) rfl up (fun w x => tmpCtrlWrite_locks (s.woken w x) lock noUnlock) fun w x => rfl

end

section
/-! The time engine (10): its setting registers and applies, its steering and sources, the second and the leap. -/
namespace Sys2Proof.Machine

theorem teRefuse_te (cause off : Nat) (v : Word) (s : State) :
    (teRefuse cause off v s).te = { s.te with refused := true, cause := BitVec.ofNat 3 cause } := raise_te ..

/-! ### A time of day in 2^-48 ns (10 R322) -/

/-- The time that the parts make up. -/
def todOf (sec : BitVec 48) (ns : Nat) (frac : BitVec 16) (sub : Word) : Nat :=
  ((sec.toNat * 1000000000 + ns) * 65536 + frac.toNat) * 4294967296 + sub.toNat

/-- A time of day set from its parts has them. -/
theorem setTod48_todOf {sec : BitVec 48} {ns : Nat} {frac : BitVec 16} {sub : Word} (t : Te) (below : ns < 1000000000) :
    setTod48 (todOf sec ns frac sub) t = { t with sec := sec, ns := ns, frac := frac, sub := sub } := by
  have hFrac := frac.isLt
  have hSub := sub.isLt
  have whole : todOf sec ns frac sub / ns48 = sec.toNat * 1000000000 + ns := by unfold todOf ns48; omega
  have high : todOf sec ns frac sub / 4294967296 = (sec.toNat * 1000000000 + ns) * 65536 + frac.toNat := by unfold todOf; omega
  have hSec : BitVec.ofNat 48 (todOf sec ns frac sub / ns48 / 1000000000) = sec := by
    rw [whole, show (sec.toNat * 1000000000 + ns) / 1000000000 = sec.toNat by omega, BitVec.ofNat_toNat, BitVec.setWidth_eq]
  have hNs : todOf sec ns frac sub / ns48 % 1000000000 = ns := by rw [whole]; omega
  have hFracOf : BitVec.ofNat 16 (todOf sec ns frac sub / 4294967296) = frac := by
    apply BitVec.eq_of_toNat_eq
    rw [high, BitVec.toNat_ofNat]
    omega
  have hSubOf : BitVec.ofNat 32 (todOf sec ns frac sub) = sub := by
    apply BitVec.eq_of_toNat_eq
    rw [BitVec.toNat_ofNat, todOf]
    omega
  rw [setTod48, hSec, hNs, hFracOf, hSubOf]

/-! ### Jumps and applies (10 R330 to R332) -/

theorem failExch_te (e : Exch) (cause : Nat) (s : State) : (failExch e cause s).te = s.te := (failExch_keeps ..).te_eq rfl

theorem todJump_te (v cause : Nat) (s : State) : (todJump v cause s).te = { setTod48 v s.te with slew := 0 } := by
  unfold todJump
  extract_lets -merge +onlyGivenNames before d _ _ jumped failed
  have hFailed : failed.te = jumped.te := foldl_kept (g := State.te) (fun _ _ => failExch_te ..) _ _
  rw [(todPassed_keeps ..).te_eq rfl, (ltcCutAll_keeps ..).te_eq rfl, hFailed]

theorem ppsEmit_te (s : State) : (ppsEmit s).te = { s.te with pps := s.te.pps || bitAt s.te.ctrl 4 } := by
  rw [ppsEmit, (rgPps_keeps _).te_eq rfl]
  rfl

theorem ppsEmit_tmp (s : State) :
    (ppsEmit s).tmp = { s.tmp with ppsAon := s.tmp.aon, ppsSec := s.te.sec, ppsValid := true } := by
  rw [ppsEmit, (rgPps_keeps _).tmp_eq rfl]
  rfl

theorem leapSkip_off {old : BitVec 48} {s : State} (off : leapArmed s = false) : leapSkip old s = s := by
  rw [leapSkip, off]
  rfl

theorem leapCheck_off {s : State} (off : leapArmed s = false) : leapCheck s = s := by
  rw [leapCheck, off]
  rfl

/-- The time set by a jump, with what of it follows the jump. -/
def jumped (v : Nat) (s : State) : State := afterApply (todJump v 1 { s with te := { s.te with armed := none } })

theorem jumped_te {sec : BitVec 48} {ns : Nat} {frac : BitVec 16} {sub : Word} {v : Nat} (s : State) (hv : v = todOf sec ns frac sub)
    (below : ns < 1000000000) :
    (jumped v s).te = { s.te with armed := none, sec := sec, ns := ns, frac := frac, sub := sub, slew := 0 } := by
  rw [jumped, (afterApply_keeps _).te_eq rfl, todJump_te, hv, setTod48_todOf _ below]

/-- The time in the setting registers. -/
def settingTod (s : State) : Nat :=
  ((s.te.setSec.toNat * 1000000000 + s.te.setNs.toNat) * 65536 + fld s.te.setFrac 0 16) * 4294967296

theorem settingTod_eq (s : State) :
    settingTod s = todOf s.te.setSec s.te.setNs.toNat (BitVec.ofNat 16 (fld s.te.setFrac 0 16)) 0 := by
  have hFrac : (BitVec.ofNat 16 (fld s.te.setFrac 0 16)).toNat = fld s.te.setFrac 0 16 :=
    (BitVec.toNat_ofNat ..).trans (Nat.mod_eq_of_lt (fld_lt ..))
  have hSub : (0 : Word).toNat = 0 := BitVec.toNat_zero
  rw [settingTod, todOf, hFrac, hSub, Nat.add_zero]

/-- A 1PPS where the jump stands at a second. -/
def secondEmitted (s : State) : State := if jumpPps s then ppsEmit s else s

theorem secondEmitted_te (s : State) : (secondEmitted s).te = { s.te with pps := (secondEmitted s).te.pps } := by
  unfold secondEmitted
  split
  · rw [ppsEmit_te]
  · rfl

theorem applyNow_eq (s : State) : applyNow s = leapSkip s.te.sec
    (appliedEvent 1 (jumpPps (jumped (settingTod s) s)) (secondEmitted (jumped (settingTod s) s))) := rfl

theorem applyNow_te {s : State} (below : s.te.setNs.toNat < 1000000000) (off : leapArmed s = false) :
    (applyNow s).te.sec = s.te.setSec ∧ (applyNow s).te.ns = s.te.setNs.toNat ∧
      (applyNow s).te.frac = BitVec.ofNat 16 (fld s.te.setFrac 0 16) ∧ (applyNow s).te.sub = 0 ∧ (applyNow s).te.slew = 0 ∧
      (applyNow s).te.armed = none := by
  have landed := jumped_te s (settingTod_eq s) below
  have hOff : leapArmed (appliedEvent 1 (jumpPps (jumped (settingTod s) s)) (secondEmitted (jumped (settingTod s) s))) = false := by
    rw [leapArmed, (appliedEvent_keeps ..).te_eq rfl, secondEmitted_te, landed]
    exact off
  rw [applyNow_eq, leapSkip_off hOff, (appliedEvent_keeps ..).te_eq rfl, secondEmitted_te, landed]
  exact ⟨rfl, rfl, rfl, rfl, rfl, rfl⟩

/-! ### TE_APPLY by its mode (10 R329) -/

theorem teApplyWrite_one {v : Word} (s : State) (mode : fld v 0 2 = 1) :
    teApplyWrite v s = if s.te.armed.isSome then teRefuse 3 0x840 v s else applyNow s := by
  rw [teApplyWrite, mode]
  rfl

theorem teApplyWrite_two {v : Word} (s : State) (mode : fld v 0 2 = 2) :
    teApplyWrite v s = if s.te.armed.isSome then teRefuse 3 0x840 v s else { s with te := { s.te with armed := some 2 } } := by
  rw [teApplyWrite, mode]
  rfl

theorem teApplyWrite_zero_te {v : Word} (s : State) (mode : fld v 0 2 = 0) : (teApplyWrite v s).te = { s.te with armed := none } := by
  rw [teApplyWrite, mode]
  match idle : s.te.armed with
  | some m => exact raise_te ..
  | none => exact congrArg (fun a => { s.te with armed := a }) idle

end Sys2Proof.Machine

open Sys2Proof Sys2Proof.Machine

/-- Settles O28, by the two outcomes of each register's write and the time that an apply sets. -/
theorem timeSetting : Obligations.TimeSetting := by
  intro s v up
  refine ⟨fun go => ?capture, fun idle below => ?ns, fun m armed => ?armed, fun idle above => ?above, fun idle => ?frac,
    fun idle below off => ?apply, fun idle => ?arm, fun m armed => ?again, ?cancel⟩
  case capture => exact completes_hostDoes (f := teCaptureWrite v) rfl up (fun w x => if_pos go) fun w x => rfl
  case ns =>
    exact completes_hostDoes (f := teSetNs v) rfl up
      (fun w x => (if_neg (by simp [State.woken, idle])).trans (if_neg (Nat.not_le.mpr below))) fun w x => rfl
  case armed => exact completes_hostDoes (f := teSetNs v) rfl up (fun w x => if_pos (by simp [State.woken, armed])) fun w x => teRefuse_te ..
  case above =>
    exact completes_hostDoes (f := teSetNs v) rfl up
      (fun w x => (if_neg (by simp [State.woken, idle])).trans (if_pos above)) fun w x => teRefuse_te ..
  case frac => exact completes_hostDoes (f := teSetFrac v) rfl up (fun w x => if_neg (by simp [State.woken, idle])) fun w x => rfl
  case apply =>
    exact completes_hostDoes (f := teApplyWrite (setFld v 0 2 1)) rfl up
      (fun w x => (teApplyWrite_one _ (fld_setFld (by decide))).trans (if_neg (by simp [State.woken, idle])))
      fun w x => applyNow_te (s := s.woken w x) below off
  case arm =>
    exact completes_hostDoes (f := teApplyWrite (setFld v 0 2 2)) rfl up
      (fun w x => (teApplyWrite_two _ (fld_setFld (by decide))).trans (if_neg (by simp [State.woken, idle]))) fun w x => rfl
  case again =>
    exact completes_hostDoes (f := teApplyWrite (setFld v 0 2 2)) rfl up
      (fun w x => (teApplyWrite_two _ (fld_setFld (by decide))).trans (if_pos (by simp [State.woken, armed]))) fun w x => teRefuse_te ..
  case cancel =>
    exact completes_host (f := teApplyWrite (setFld v 0 2 0)) rfl up
      fun w x => teApplyWrite_zero_te (s.woken w x) (fld_setFld (by decide))

end

section
/-! The time engine (10): its steering, its source and the discipline. -/
namespace Sys2Proof.Machine

/-! ### The discipline and its sources (10 R336 to R339) -/

theorem srcBack_srcOk (src : Nat) (s : State) : (srcBack src s).te.srcOk = s.te.srcOk := by
  unfold srcBack
  split
  · rw [raise_te]
  · rfl

theorem srcLostNow_st (src : Nat) (s : State) : (srcLostNow src s).te.st = 3 ∧ (srcLostNow src s).te.srcOk = s.te.srcOk := by
  rw [srcLostNow, raise_te]
  exact ⟨rfl, rfl⟩

theorem srcLostNow_tex (src : Nat) (s : State) :
    (srcLostNow src s).tex = { s.tex with srcLost := s.tex.srcLost ||| BitVec.ofNat 3 (2 ^ src) } := raise_tex ..

/-- The bit of a source, set and cleared. -/
theorem srcBit_set : ∀ (x : BitVec 3) (i : Fin 3), (x ||| BitVec.ofNat 3 (2 ^ i.val)).getLsbD i.val = true := by decide

theorem srcBit_clear : ∀ (x : BitVec 3) (i : Fin 3), (x &&& ~~~(BitVec.ofNat 3 (2 ^ i.val))).getLsbD i.val = false := by decide

/-! ### TE_FREQ and TE_CTRL (10 R335, R360) -/

theorem takeLo_none {a : Agent} {bar2 : Bool} {off : Nat} {live : Word} {s : State} (none_ : s.staging = []) :
    takeLo a bar2 off live s = (live, { s with staging := [] }) := by
  rw [takeLo, none_]
  rfl

theorem teFreqHiWrite_te {a : Agent} {v : Word} {s : State} (src : teSrc s = 0) (none_ : s.staging = []) :
    (teFreqHiWrite a v s).te = { s.te with s := BitVec.ofNat 40 ((s.te.s.setWidth 32).toNat + 4294967296 * fld v 0 8) } := by
  rw [teFreqHiWrite, takeLo_none none_]
  exact congrArg State.te (if_neg fun h => h src)

theorem teCtrlWrite_te {v : Word} {s : State} (ok : ¬(fld v 0 3 = 3 ∧ isHead s = true)) :
    (teCtrlWrite v s).te = { s.te with ctrl := v &&& 0x17 } := by
  rw [teCtrlWrite, if_neg ok]
  dsimp only
  split <;> rfl

/-! ### The 1PPS input (10 R336) -/

/-- The instant of an edge, in 1/256 ns. -/
def edgeTime (sub : BitVec 6) (s : State) : Int :=
  (stamp256 (todNow s) : Int) + (sub.toNat * 64 / 5 : Nat) - s.te.ppsinDly.toNat

/-- What a good edge leaves before the discipline measures it. -/
def edgeTaken (sub : BitVec 6) (s : State) : State :=
  srcOkSet 0 true { s with tex := { s.tex with
    lastEdge := some (edgeTime sub s), ppsinErr := BitVec.ofNat 32 (satO (fromSecond (edgeTime sub s))) } }

end Sys2Proof.Machine

open Sys2Proof Sys2Proof.Machine

/-- Settles O29, by the two outcomes of each write and what the loss of a source leaves. -/
theorem timeSteering : Obligations.TimeSteering := by
  intro s v up
  refine ⟨fun free => ?slew, fun steered => ?slewRefused, fun small => ?done, fun free none_ => ?freq, fun line head => ?srcRefused,
    fun ok => ?src, fun one two first sub => ?first, fun e sub last bad => ?bad, fun src held => ?loss, fun leaf miss src held => ?beacon⟩
  case slew =>
    exact completes_hostDoes (f := teSlewWrite v) rfl up (fun w x => if_neg fun h => h free) fun w x => rfl
  case slewRefused =>
    exact completes_hostDoes (f := teSlewWrite v) rfl up (fun w x => if_pos steered) fun w x => teRefuse_te ..
  case done => exact completes_does rfl up (if_pos small) rfl
  case freq =>
    exact completes_host (f := fun s => teFreqHiWrite (hostAgent s) v s) rfl up fun w x =>
      teFreqHiWrite_te (s := s.woken w x) free none_
  case srcRefused =>
    exact completes_hostDoes (f := teCtrlWrite v) rfl up (fun w x => if_pos ⟨line, head⟩) fun w x => teRefuse_te ..
  case src =>
    have allowed : ¬(fld v 0 3 = 3 ∧ isHead s = true) := by
      rintro ⟨line, head⟩
      rcases ok with other | leaf
      · exact other line
      · simp [isHead, show s.cln.role = true from leaf] at head
    exact completes_host (f := teCtrlWrite v) rfl up fun w x => teCtrlWrite_te (s := s.woken w x) allowed
  case first =>
    have noSrc : ¬(teSrc (edgeTaken sub s) = 1 ∨ teSrc (edgeTaken sub s) = 2) := fun h => h.elim one two
    refine completes_does (t := edgeTaken sub s) rfl up ?_ ⟨srcBit_set _ 0, rfl, rfl⟩
    simp only [first]
    exact if_neg noSrc
  case bad =>
    refine completes_does (t := { s with tex := { s.tex with ppsinBad := inc32 s.tex.ppsinBad } }) rfl up ?_ ⟨rfl, rfl⟩
    have far := decide_eq_false (Nat.not_le.mpr bad)
    simp only [last, far]
    rfl
  case loss =>
    refine completes_does (t := srcLostNow 0 (srcOkSet 0 false { s with tex := { s.tex with lastEdge := none } })) rfl up
      (if_pos ⟨.inl src, by simpa [srcOkSet] using held⟩) ?_
    obtain ⟨hSt, hOk⟩ := srcLostNow_st 0 (srcOkSet 0 false { s with tex := { s.tex with lastEdge := none } })
    rw [hSt, hOk, srcLostNow_tex]
    exact ⟨rfl, srcBit_clear _ 0, rfl, srcBit_set _ 0⟩
  case beacon =>
    refine completes_does (t := srcLostNow 2 (srcOkSet 2 false s)) rfl up
      ((if_pos ⟨leaf, miss⟩).trans (if_pos ⟨src, by simpa [srcOkSet] using held⟩)) ?_
    obtain ⟨hSt, hOk⟩ := srcLostNow_st 2 (srcOkSet 2 false s)
    rw [hSt, hOk, srcLostNow_tex]
    exact ⟨rfl, srcBit_clear _ 2, srcBit_set _ 2⟩

end

section
/-! The time engine (10): the second, the 1PPS and the leap (10 R323, R332, R334, R353). -/
namespace Sys2Proof.Machine

/-- A second that ends. -/
def secondEnds (s : State) : State := { s with te := { s.te with ns := s.te.ns - 1000000000, sec := s.te.sec + 1 } }

/-- The time that an apply at the second sets: its second, with the part of a second that has passed. -/
def secondTod (s : State) : Nat :=
  ((s.te.setSec.toNat * 1000000000 + s.te.ns) * 65536 + s.te.frac.toNat) * 4294967296 + s.te.sub.toNat

/-- The armed apply of a rollover. -/
def secondApplied (s : State) : State :=
  if s.te.armed = some 2 then leapSkip (s.te.sec - 1) (appliedEvent 2 true (jumped (secondTod s) s)) else s

/-- The compare with the timecode epoch. -/
def epochReached (s : State) : State :=
  if s.te.tcEpoch = s.te.sec then { s with tex := { s.tex with tcActive := s.te.tcEpoch } } else s

theorem secondPassed_eq (s : State) : secondPassed s = ppsEmit (epochReached (leapCheck (secondApplied s))) := rfl

theorem epochReached_te (s : State) : (epochReached s).te = s.te := by
  unfold epochReached
  split <;> rfl

theorem epochReached_tmp (s : State) : (epochReached s).tmp = s.tmp := by
  unfold epochReached
  split <;> rfl

theorem secondApplied_none {s : State} (none_ : s.te.armed = none) : secondApplied s = s := if_neg (by simp [none_])

theorem secondApplied_te {s : State} (armed : s.te.armed = some 2) (off : leapArmed s = false) (below : s.te.ns < 1000000000) :
    (secondApplied s).te = { s.te with armed := none, sec := s.te.setSec, slew := 0 } := by
  have landed := jumped_te s (show secondTod s = todOf s.te.setSec s.te.ns s.te.frac s.te.sub from rfl) below
  have hOff : leapArmed (appliedEvent 2 true (jumped (secondTod s) s)) = false := by
    rw [leapArmed, (appliedEvent_keeps ..).te_eq rfl, landed]
    exact off
  rw [secondApplied, if_pos armed, leapSkip_off hOff, (appliedEvent_keeps ..).te_eq rfl, landed]

/-- The leap second begins where it is inserted after this second. -/
theorem leapCheck_begins {s : State} (on : leapArmed s = true) (insert : leapDir s = false) (at_ : s.te.sec = s.te.leapAt) :
    leapCheck s = { s with te := { s.te with leap := true } } := by
  rw [leapCheck, on, insert]
  exact if_pos at_

end Sys2Proof.Machine

open Sys2Proof Sys2Proof.Machine

/-- Settles O30, by the rollover's parts: the apply, the leap compare and the 1PPS. -/
theorem seconds : Obligations.Seconds := by
  intro s up
  refine ⟨fun idle off => ?plain, fun armed off below => ?applied, fun idle on insert at_ => ?leap, ?width, fun v far => ?arm,
    fun v near => ?refused⟩
  case plain =>
    have rolled : secondPassed (secondEnds s) = ppsEmit (epochReached (secondEnds s)) := by
      rw [secondPassed_eq, secondApplied_none (s := secondEnds s) idle, leapCheck_off (s := secondEnds s) off]
    refine completes_does (t := ppsEmit (epochReached (secondEnds s))) rfl up rolled ?_
    rw [ppsEmit_te, ppsEmit_tmp, epochReached_te, epochReached_tmp]
    exact ⟨rfl, rfl, rfl, rfl, rfl, rfl⟩
  case applied =>
    have landed := secondApplied_te (s := secondEnds s) armed off below
    have hOff : leapArmed (secondApplied (secondEnds s)) = false := by
      rw [leapArmed, landed]
      exact off
    have rolled : secondPassed (secondEnds s) = ppsEmit (epochReached (secondApplied (secondEnds s))) := by
      rw [secondPassed_eq, leapCheck_off hOff]
    refine completes_does (t := ppsEmit (epochReached (secondApplied (secondEnds s)))) rfl up rolled ?_
    rw [ppsEmit_te, epochReached_te, landed]
    exact ⟨rfl, rfl, rfl⟩
  case leap =>
    have rolled : secondPassed (secondEnds s) = ppsEmit (epochReached { secondEnds s with te := { (secondEnds s).te with leap := true } }) := by
      rw [secondPassed_eq, secondApplied_none (s := secondEnds s) idle, leapCheck_begins (s := secondEnds s) on insert at_.symm]
    refine completes_does rfl up rolled ?_
    rw [ppsEmit_te, epochReached_te]
    exact ⟨rfl, rfl⟩
  case width => exact completes_state rfl up rfl rfl rfl
  case arm =>
    have ok : (bitAt (v ||| 0x80000000) 31 && decide (s.te.leapAt.toNat ≤ s.te.sec.toNat + 2)) = false := by
      rw [decide_eq_false (Nat.not_le.mpr far), Bool.and_false]
    exact completes_hostDoes (f := leapCtrlWrite (v ||| 0x80000000)) rfl up (fun w x => if_neg (ok ▸ Bool.false_ne_true)) fun w x => rfl
  case refused =>
    have bad : (bitAt (v ||| 0x80000000) 31 && decide (s.te.leapAt.toNat ≤ s.te.sec.toNat + 2)) = true := by
      rw [decide_eq_true near, Bool.and_true]
      simp [bitAt]
    exact completes_hostDoes (f := leapCtrlWrite (v ||| 0x80000000)) rfl up (fun w x => if_pos bad) fun w x => teRefuse_te ..

end

section
/-! Requests of the mailbox (18 R555, R556): how one is served and answered. -/
namespace Sys2Proof.Machine

theorem leAt_drop (l : List Byte) (k i n : Nat) : leAt (l.drop k) i n = leAt l (k + i) n := by
  rw [leAt, leAt, List.drop_drop]

/-! ### The front of the mailbox is served -/

theorem mailSettle_known {s : State} (known : s.mss.mail.all (fun k => mailCmds.contains (mailCmd k)) = true) : mailSettle s = s := by
  unfold mailSettle
  match mail : s.mss.mail with
  | [] => rfl
  | m :: rest =>
    have front : mailCmds.contains (mailCmd m) = true := List.all_eq_true.mp known m (by simp [mail])
    rw [List.length_cons, mailUnknown, mail]
    simp only [front]
    exact if_neg (by simp)

/-- What the service of a request rests on. -/
structure Serves (cmd n : Nat) (m : Mail) (s : State) : Prop where
  up : mssUp s = true
  front : s.mss.mail = m :: s.mss.mail.drop 1
  command : mailCmd m = cmd
  long : 4 + n ≤ m.req.length
  known : (s.mss.mail.drop 1).all (fun k => mailCmds.contains (mailCmd k)) = true

theorem serves_of_serving {cmd n : Nat} {m : Mail} {s : State} (h : serving cmd n m s = true) : Serves cmd n m s := by
  simp only [serving, Bool.and_eq_true, decide_eq_true_eq] at h
  obtain ⟨⟨⟨⟨up, front⟩, command⟩, long⟩, known⟩ := h
  refine ⟨up, ?_, command, long, known⟩
  match s.mss.mail, front with
  | m' :: rest, front => rw [Option.some.inj front]; rfl

/-- A served request is worked on, and the next one is known. -/
theorem serve_serving {cmd n : Nat} {m : Mail} {s t : State} {k : Mail → List Byte → State → State} (h : serving cmd n m s = true)
    (does : k m (m.req.drop 4) s = t) (gone : t.mss.mail = s.mss.mail.drop 1) : serve cmd n k s = t := by
  have serves := serves_of_serving h
  have here : (mssUp s && decide (mailCmd m = cmd)) = true := by simp [serves.up, serves.command]
  unfold serve
  rw [serves.front]
  simp only [here, if_true, if_neg (Nat.not_lt.mpr serves.long), does]
  exact mailSettle_known (by rw [gone]; exact serves.known)

/-! ### The answer -/

/-- The request has left the mailbox. -/
def mailTaken (s : State) : State := { s with mss := { s.mss with mail := s.mss.mail.drop 1 } }

/-- The bytes of an answer. -/
def answerBytes (m : Mail) (result : Nat) (data : List Byte) : List Byte :=
  let fits := data.isEmpty || decide (4 + data.length ≤ m.cap)
  m.req.take 2 ++ [BitVec.ofNat 8 (if fits then result else 2), 0] ++ (if fits then data else [])

theorem answerMail_eq (m : Mail) (result : Nat) (data : List Byte) {s : State} (pcie : s.cln.hostmode = false) :
    answerMail m result data s = finish m.ring m.desc (resOk (answerBytes m result data).length)
      (hostWrite m.addr (answerBytes m result data) (mailTaken s)) :=
  if_pos (by simp [regionOk, pcie])

theorem answerBytes_fits {m : Mail} {result : Nat} {data : List Byte} (fits : data = [] ∨ 4 + data.length ≤ m.cap) :
    answerBytes m result data = reply m result data := by
  have ok : (data.isEmpty || decide (4 + data.length ≤ m.cap)) = true := by
    rcases fits with empty | room
    · simp [empty]
    · simp [room]
  simp only [answerBytes, ok, if_true, reply]

theorem reply_length {m : Mail} {result : Nat} {data : List Byte} (long : 4 ≤ m.req.length) : (reply m result data).length = 4 + data.length := by
  simp only [reply, List.length_append, List.length_take, List.length_cons, List.length_nil]
  omega

/-- The result of a running descriptor, on whatever ring, is the one it ends with. -/
theorem takenAt_finish_running {r id : Nat} {res : Result} {s : State} (running : (takenAt s r id).map (·.result) = some none) :
    (takenAt (finish r id res s) r id).bind (·.result) = some res := by
  by_cases ring : r < 16
  · have found := takenAt_finish ⟨r, ring⟩ id res s
    obtain ⟨k, taken, unfinished⟩ := Option.map_eq_some_iff.mp running
    have here : k.id = id := by simpa using List.find?_some taken
    rw [found, taken]
    simp [Taken.finishedAs, here, unfinished]
  · have none_ : takenAt s r id = none := by
      simp only [takenAt, sqAt, vget, ring, dif_neg, not_false_eq_true]
      rfl
    simp [none_] at running

theorem pcie_of_live {m : Mail} {s : State} (live : mailLive m s = true) : s.cln.hostmode = false := by
  simp only [mailLive, Bool.and_eq_true, Bool.not_eq_true'] at live
  exact live.2

/-- What leaves the host interface and the straps leaves a request live. -/
theorem mailLive_congr {m : Mail} {s u : State} (hi : u.hi = s.hi) (cln : u.cln = s.cln) : mailLive m u = mailLive m s := by
  have taken : takenAt u m.ring m.desc = takenAt s m.ring m.desc := by simp only [takenAt, sqAt, hi]
  rw [mailLive, mailLive, taken, cln]

theorem answerMail_result {m : Mail} {result : Nat} {data : List Byte} {u : State} (live : mailLive m u = true) :
    (takenAt (answerMail m result data u) m.ring m.desc).bind (·.result) = some (resOk (answerBytes m result data).length) := by
  have running := live
  simp only [mailLive, Bool.and_eq_true, decide_eq_true_eq] at running
  rw [answerMail_eq _ _ _ (pcie_of_live live)]
  exact takenAt_finish_running running.1

theorem answerMail_mail (m : Mail) (result : Nat) (data : List Byte) {u : State} (pcie : u.cln.hostmode = false) :
    (answerMail m result data u).mss = { u.mss with mail := u.mss.mail.drop 1 } := by
  rw [answerMail_eq _ _ _ pcie]
  rfl

theorem answerMail_mssx (m : Mail) (result : Nat) (data : List Byte) {u : State} (pcie : u.cln.hostmode = false) :
    (answerMail m result data u).mssx = u.mssx := by
  rw [answerMail_eq _ _ _ pcie]
  rfl

theorem answerMail_hostMem {m : Mail} {result : Nat} {data : List Byte} {u : State} (pcie : u.cln.hostmode = false)
    (fits : data = [] ∨ 4 + data.length ≤ m.cap) :
    (answerMail m result data u).hostMem = spPutBytes u.hostMem m.addr (reply m result data) := by
  rw [answerMail_eq _ _ _ pcie, answerBytes_fits fits]
  rfl

/-- The work on a request, up to its answer, leaves the mailbox and the descriptors. -/
structure Asked (s u : State) : Prop where
  hi : u.hi = s.hi
  cln : u.cln = s.cln
  mail : u.mss.mail = s.mss.mail

theorem Asked.refl (s : State) : Asked s s := ⟨rfl, rfl, rfl⟩

theorem Asked.trans {s t u : State} (h : Asked s t) (k : Asked t u) : Asked s u :=
  ⟨k.hi.trans h.hi, k.cln.trans h.cln, k.mail.trans h.mail⟩

theorem Asked.live {m : Mail} {s u : State} (h : Asked s u) (live : mailLive m s = true) : mailLive m u = true :=
  (mailLive_congr h.hi h.cln).trans live

theorem asked_raiseMss (code inst : Nat) (fs : List (Nat × Nat × Nat)) (s : State) : Asked s (raiseMss code inst fs s) :=
  ⟨raiseMss_hi .., raiseMss_cln .., by rw [raiseMss_mss]⟩

theorem Asked.answered {m : Mail} {result n : Nat} {data : List Byte} {s u : State} (h : Asked s u) (live : mailLive m s = true)
    (long : 4 ≤ m.req.length) (fits : data = [] ∨ 4 + data.length ≤ m.cap) (len : 4 + data.length = n) :
    Answered m n s (answerMail m result data u) := by
  have result_ := answerMail_result (result := result) (data := data) (h.live live)
  rw [answerBytes_fits fits, reply_length long, len] at result_
  have gone := answerMail_mail m result data (pcie_of_live (h.live live))
  exact ⟨by rw [gone, h.mail], result_⟩

theorem Asked.pcie {m : Mail} {s u : State} (h : Asked s u) (live : mailLive m s = true) : u.cln.hostmode = false :=
  pcie_of_live (h.live live)

/-- What the answer leaves of the subsystem. -/
theorem Asked.mssx {m : Mail} {result : Nat} {data : List Byte} {s u : State} (h : Asked s u) (live : mailLive m s = true) :
    (answerMail m result data u).mssx = u.mssx := answerMail_mssx _ _ _ (h.pcie live)

theorem Asked.mss {m : Mail} {result : Nat} {data : List Byte} {s u : State} (h : Asked s u) (live : mailLive m s = true) :
    (answerMail m result data u).mss = { u.mss with mail := u.mss.mail.drop 1 } := answerMail_mail _ _ _ (h.pcie live)

theorem Serves.four {cmd n : Nat} {m : Mail} {s : State} (h : Serves cmd n m s) : 4 ≤ m.req.length := Nat.le_trans (Nat.le_add_right ..) h.long

/-- A served request is answered with the state that its work comes down to. -/
theorem completes_mail {c : Instr} {cmd n result : Nat} {data : List Byte} {m : Mail} {s u : State} {k : Mail → List Byte → State → State}
    {P : State → Prop} (e : exec c s = run s (serve cmd n k)) (up : devUp s = true) (live : mailLive m s = true)
    (h : serving cmd n m s = true) (does : k m (m.req.drop 4) s = answerMail m result data u) (asked : Asked s u)
    (p : P (answerMail m result data u)) (free : QueueFree P := by intros _ _; rfl) : Completes c s P := by
  refine completes_does e up (serve_serving h does ?_) p free
  rw [answerMail_mail _ _ _ (pcie_of_live (asked.live live)), asked.mail]

end Sys2Proof.Machine
end

section
/-! The commands of information, sensors and restart (18 Table 18.3). -/
namespace Sys2Proof.Machine

/-! ### The management subsystem's memory, but the log (18 R568) -/

/-- Nothing of it changes but the log. -/
def MssKept (s t : State) : Prop :=
  t.mssx = { s.mssx with log := t.mssx.log, logBuf := t.mssx.logBuf, logDropped := t.mssx.logDropped }

theorem MssKept.of_eq {s t : State} (e : t.mssx = s.mssx) : MssKept s t := by rw [MssKept, e]

theorem MssKept.refl (s : State) : MssKept s s := rfl

theorem MssKept.trans {s t u : State} (h : MssKept s t) (k : MssKept t u) : MssKept s u :=
  Eq.trans k (congrArg (fun m : MssX => { m with log := u.mssx.log, logBuf := u.mssx.logBuf, logDropped := u.mssx.logDropped }) h)

theorem Raised.mssKept {s t : State} (h : Raised s t) : MssKept s t := h.mssx

theorem mssKept_raise (code inst : Nat) (fs : List (Nat × Nat × Nat)) (s : State) : MssKept s (raise code inst fs s) :=
  (raised_raise ..).mssKept

theorem mssKept_raiseMss (code inst : Nat) (fs : List (Nat × Nat × Nat)) (s : State) : MssKept s (raiseMss code inst fs s) :=
  (raised_raiseMss ..).mssKept

theorem MssKept.sens {s t : State} (h : MssKept s t) : t.mssx.sens = s.mssx.sens := by rw [h]
theorem MssKept.boot {s t : State} (h : MssKept s t) : t.mssx.boot = s.mssx.boot := by rw [h]

/-! ### What an action on a port or a core leaves (18 R562 to R564)

It may end descriptors, but takes none from its ring, and it leaves that memory. -/

/-- The descriptors taken from a ring and not yet completed, by number. -/
def takenIds (s : State) (r : Nat) : List Nat := (sqAt s r).taken.map (·.id)

structure Stays (s t : State) : Prop where
  kept : MssKept s t
  ids : ∀ r, takenIds t r = takenIds s r

theorem Stays.refl (s : State) : Stays s s := ⟨.refl s, fun _ => rfl⟩

theorem Stays.trans {s t u : State} (h : Stays s t) (k : Stays t u) : Stays s u :=
  ⟨h.kept.trans k.kept, fun r => (k.ids r).trans (h.ids r)⟩

theorem Stays.of_eq {s t : State} (mssx : t.mssx = s.mssx) (hi : t.hi = s.hi) : Stays s t :=
  ⟨.of_eq mssx, fun r => by rw [takenIds, sqAt, hi]; rfl⟩

theorem Stays.foldl {α : Type} {step : State → α → State} (one : ∀ s x, Stays s (step s x)) :
    (l : List α) → (s : State) → Stays s (l.foldl step s)
  | [], s => .refl s
  | x :: l, s => (one s x).trans (Stays.foldl one l (step s x))

theorem stays_raise (code inst : Nat) (fs : List (Nat × Nat × Nat)) (s : State) : Stays s (raise code inst fs s) :=
  ⟨mssKept_raise .., fun r => by rw [takenIds, sqAt, raise_hi]; rfl⟩

theorem stays_raiseMss (code inst : Nat) (fs : List (Nat × Nat × Nat)) (s : State) : Stays s (raiseMss code inst fs s) :=
  ⟨mssKept_raiseMss .., fun r => by rw [takenIds, sqAt, raiseMss_hi]; rfl⟩

theorem Stays.raised {code inst : Nat} {fs : List (Nat × Nat × Nat)} {s t : State} (h : Stays s t) : Stays s (raise code inst fs t) :=
  h.trans (stays_raise ..)

/-- An update of a ring's taken descriptors that keeps their numbers. -/
theorem stays_updSq {r : Nat} {f : Sq → Sq} (s : State) (same : ∀ q, (f q).taken.map (·.id) = q.taken.map (·.id)) :
    Stays s (updSq r f s) := by
  refine ⟨.of_eq rfl, fun k => ?_⟩
  rw [takenIds, sqAt, updSq, vget_vupd]
  split
  · exact same _
  · rfl

theorem stays_finish (r id : Nat) (res : Result) (s : State) : Stays s (finish r id res s) := by
  refine stays_updSq s fun q => ?_
  simp only [List.map_map, List.map_inj_left, Function.comp_apply]
  intro k _
  split <;> rfl

theorem stays_finishOpt (d : Option (Nat × Nat)) (res : Result) (s : State) : Stays s (finishOpt d res s) := by
  unfold finishOpt
  split
  · exact stays_finish ..
  · exact .refl s

theorem stays_fenceDrop (id : Nat) (failed : Bool) (s : State) : Stays s (fenceDrop id failed s) := by
  unfold fenceDrop fencesSettle
  extract_lets -merge +onlyGivenNames done _ _ kept
  have hKept : Stays s kept := .of_eq rfl rfl
  refine hKept.trans (Stays.foldl (fun s f => ?_) _ kept)
  split
  · exact stays_finish ..
  · exact stays_finish ..

theorem stays_giveBuf (express : Bool) (s : State) : Stays s (giveBuf express s) := ⟨.of_eq rfl, fun _ => rfl⟩

theorem stays_airSettle (s : State) : Stays s (airSettle s) := by
  unfold airSettle
  refine Stays.foldl (fun s b => ?_) _ s
  dsimp only
  split
  · exact Stays.raised (.of_eq rfl rfl)
  · exact .refl s

theorem stays_resetsSettle (s : State) : Stays s (resetsSettle s) := by
  unfold resetsSettle
  extract_lets -merge +onlyGivenNames done _ kept
  exact Stays.trans (t := kept) (.of_eq rfl rfl) (Stays.foldl (fun s u => stays_raise ..) done kept)

theorem stays_raiseFor (o : Option (Nat × Nat)) (code inst : Nat) (fs : List (Nat × Nat × Nat)) (s : State) :
    Stays s (raiseFor o code inst fs s) := by
  unfold raiseFor
  split
  · exact stays_raise ..
  split
  · refine stays_updSq s fun q => ?_
    simp only [List.map_map, List.map_inj_left, Function.comp_apply]
    intro k _
    split <;> rfl
  · exact stays_raise ..

theorem stays_postedFailed (f : TxFrame) (cause : Nat) (s : State) : Stays s (postedFailed f cause s) := by
  unfold postedFailed
  extract_lets -merge +onlyGivenNames n counted told
  have hCounted : Stays s counted := by
    unfold counted
    split
    · exact .refl s
    · exact .of_eq rfl rfl
  exact (hCounted.trans (stays_raiseFor ..)).trans (stays_fenceDrop ..)

theorem stays_endFrame (f : TxFrame) (s : State) : Stays s (endFrame f s) := by
  unfold endFrame
  extract_lets dropped given
  have hGiven : Stays s given := by
    unfold given
    have hDropped : Stays s dropped := .of_eq rfl rfl
    split
    · exact hDropped.trans (stays_giveBuf ..)
    · exact hDropped
  exact hGiven.trans (stays_airSettle _)

theorem stays_refusePosted (f : TxFrame) (s : State) : Stays s (refusePosted f s) :=
  ((stays_postedFailed f 7 s).trans (stays_finishOpt ..)).trans (stays_endFrame ..)

theorem stays_failFrame (f : TxFrame) (res : Result) (cause : Nat) (s : State) : Stays s (failFrame f res cause s) := by
  unfold failFrame
  extract_lets back
  have hBack : Stays s back := .of_eq ((uncommit_keeps ..).mssx_eq rfl) ((uncommit_keeps ..).hi_eq rfl)
  split
  · refine ((hBack.trans (stays_postedFailed f cause back)).trans (stays_endFrame f _)).trans ?_
    unfold pfailSweep
    split
    · exact Stays.foldl (fun s g => stays_refusePosted g s) _ _
    · exact .refl _
  · refine (hBack.trans ?_).trans (stays_endFrame f _)
    split
    · exact (stays_fenceDrop ..).trans (stays_finishOpt ..)
    · exact stays_finishOpt ..

theorem stays_frameOffPort (p : Nat) (f : TxFrame) (s : State) : Stays s (frameOffPort p f s).2 := by
  unfold frameOffPort
  extract_lets -merge +onlyGivenNames rest gone
  have hGone : ∀ f u, Stays u (gone f u).2 := by
    intro f u
    simp only [gone]
    split
    · exact .of_eq rfl rfl
    · exact stays_failFrame ..
  clear_value gone
  split
  · split
    · exact .refl s
    · exact stays_failFrame ..
  split
  · exact .refl s
  split
  · split
    · exact .of_eq ((returnCost_keeps ..).mssx_eq rfl) ((returnCost_keeps ..).hi_eq rfl)
    · exact .of_eq ((cancelCost_keeps ..).mssx_eq rfl) ((cancelCost_keeps ..).hi_eq rfl)
  split
  · exact Stays.trans (.of_eq ((returnCost_keeps ..).mssx_eq rfl) ((returnCost_keeps ..).hi_eq rfl)) (hGone ..)
  · exact Stays.trans (.of_eq ((uncommit_keeps ..).mssx_eq rfl) ((uncommit_keeps ..).hi_eq rfl)) (hGone ..)

theorem stays_framesOffPort (p cause : Nat) (s : State) : Stays s (framesOffPort p cause s) := by
  have each : ∀ (q : List TxFrame) (a : List (Nat × Nat) × State), Stays a.2 (q.foldl (fun (a : List (Nat × Nat) × State) f =>
      let (d, s) := frameOffPort p f a.2
      (a.1 ++ d, s)) a).2 := by
    intro q
    induction q with
    | nil => exact fun a => .refl a.2
    | cons f q ih => exact fun a => (stays_frameOffPort p f a.2).trans (ih (a.1 ++ (frameOffPort p f a.2).1, (frameOffPort p f a.2).2))
  have began : ∀ u acks ds, Stays u (resetsSettle (resetBegin (4 + p) cause false ds { u with line := { u.line with acks := acks } })) :=
    fun u acks ds => Stays.trans (t := resetBegin (4 + p) cause false ds { u with line := { u.line with acks := acks } })
      (.of_eq rfl rfl) (stays_resetsSettle _)
  exact (each s.line.q ([], s)).trans (began ..)

theorem stays_portOff (p : Nat) (s : State) : Stays s (portOff p s) := by
  unfold portOff
  extract_lets -merge +onlyGivenNames x off down by_
  have hDown : Stays s down := .of_eq rfl rfl
  exact (hDown.trans (stays_raise ..)).trans (stays_framesOffPort ..)

theorem stays_portDisable (p : Nat) (byMss : Bool) (s : State) : Stays s (portDisable p byMss s) := by
  unfold portDisable
  extract_lets -merge +onlyGivenNames cleared
  split
  · exact .of_eq rfl rfl
  extract_lets -merge +onlyGivenNames pending
  split
  · exact .of_eq rfl rfl
  · have hPending : Stays s pending := .of_eq rfl rfl
    exact hPending.trans (stays_portOff p pending)

theorem stays_noCoreCheck (s : State) : Stays s (noCoreCheck s) := by
  unfold noCoreCheck
  split
  · exact .of_eq rfl rfl
  split
  · exact .refl s
  · exact Stays.raised (.of_eq rfl rfl)

theorem stays_coreEnables (en : BitVec 4) (s : State) : Stays s (coreEnables en s) := by
  unfold coreEnables
  generalize List.range 4 = cores
  extract_lets -merge +onlyGivenNames _ written each
  have hEach : Stays written each := by
    refine Stays.foldl (fun s c => ?_) cores written
    dsimp only
    split
    · exact .of_eq rfl rfl
    · exact .refl s
  have hWritten : Stays s written := .of_eq rfl rfl
  exact ((hWritten.trans hEach).trans (stays_noCoreCheck each)).trans
    (.of_eq ((dispatchAll_keeps _).mssx_eq rfl) ((dispatchAll_keeps _).hi_eq rfl))

end Sys2Proof.Machine
end

section
/-! The sensors and the actions forced on units (18 R558 to R564). -/
namespace Sys2Proof.Machine

/-! ### Readings (18 R558 to R560) -/

theorem sensAt_setSens (i j : Nat) (x : Sensor) (s : State) : sensAt (setSens i x s) j = if i = j then x else sensAt s j := by
  by_cases same : i = j
  · simp [sensAt, setSens, same]
  · have earlier : (s.mssx.sens.filter fun y => decide (y.1 ≠ i)).find? (fun y => decide (y.1 = j)) =
        s.mssx.sens.find? fun y => decide (y.1 = j) := by
      rw [List.find?_filter]
      congr 1
      funext y
      by_cases here : y.1 = j
      · simp [here, Ne.symm same]
      · simp [here]
    simp only [sensAt, setSens, List.find?_cons, same, decide_false, earlier, if_false]
    rfl

/-- A sensor's state follows from the readings and the banks' voltages. -/
theorem sensAt_congr {s t : State} (sens : t.mssx.sens = s.mssx.sens) (pmx : t.pmx = s.pmx) (i : Nat) : sensAt t i = sensAt s i := by
  simp only [sensAt, sensDefault, sensLimits, sens, pmx]

theorem sensAt_sensEvent (i kind : Nat) (v : Word) (th : Option Word) (s : State) (j : Nat) :
    sensAt (sensEvent i kind v th s) j = sensAt s j :=
  sensAt_congr (mssKept_raiseMss ..).sens (raiseMss_pmx ..) j

/-- A reading that can be made, and what it leaves of its sensor. -/
theorem sensTake_read {i : Nat} {v : Word} {s : State} (readable : sensReadable s i = true) (value : v ≠ noReading) :
    (sensAt (sensTake i v s) i).value = v ∧ (sensAt (sensTake i v s) i).raw = sensSide (sensAt s i) v ∧
      ((sensAt s i).side = 0 → (sensAt (sensTake i v s) i).side = sensSide (sensAt s i) v) := by
  unfold sensTake
  extract_lets -merge +onlyGivenNames x w
  have hW : w = v := if_pos readable
  rw [hW, if_neg value]
  extract_lets -merge +onlyGivenNames side y
  split
  · next between =>
    split
    · next inside =>
      rw [sensAt_setSens, if_pos rfl]
      exact ⟨rfl, rfl, fun _ => between.trans inside.symm⟩
    · simp [sensAt_setSens, sensAt_sensEvent, y, side, x]
  · next beyond =>
    have other : ¬(sensAt s i).side = 0 := beyond
    split
    · simp [sensAt_setSens, sensAt_sensEvent, y, side, x, other]
    · simp [sensAt_setSens, y, side, x, other]

theorem sensTake_value {i : Nat} (v : Word) {s : State} (readable : sensReadable s i = true) : (sensAt (sensTake i v s) i).value = v := by
  by_cases none_ : v = noReading
  · unfold sensTake
    simp [readable, none_, sensAt_setSens]
  · exact (sensTake_read readable none_).1

theorem sensTake_unread {i : Nat} (s : State) : (sensAt (sensTake i noReading s) i).value = noReading := by
  unfold sensTake
  simp [sensAt_setSens]

/-- A reading of one sensor leaves the others, and all but the readings of the subsystem's memory. -/
structure Sensed (i : Nat) (s t : State) : Prop where
  others : ∀ j, j ≠ i → sensAt t j = sensAt s j
  mainscal : t.mssx.mainscal = s.mssx.mainscal
  te : t.te = s.te
  clk : t.clk = s.clk
  pmx : t.pmx = s.pmx
  hi : t.hi = s.hi
  cln : t.cln = s.cln
  mss : t.mss = s.mss

theorem sensed_setSens (i : Nat) (x : Sensor) (s : State) : Sensed i s (setSens i x s) :=
  ⟨fun j other => by rw [sensAt_setSens, if_neg (Ne.symm other)], rfl, rfl, rfl, rfl, rfl, rfl, rfl⟩

theorem Sensed.event {i kind : Nat} {v : Word} {th : Option Word} {s t : State} (h : Sensed i s t) : Sensed i s (sensEvent i kind v th t) where
  others j other := (sensAt_sensEvent ..).trans (h.others j other)
  mainscal := (show (sensEvent i kind v th t).mssx.mainscal = t.mssx.mainscal by rw [sensEvent, (mssKept_raiseMss ..)]).trans h.mainscal
  te := (raiseMss_te ..).trans h.te
  clk := (raiseMss_clk ..).trans h.clk
  pmx := (raiseMss_pmx ..).trans h.pmx
  hi := (raiseMss_hi ..).trans h.hi
  cln := (raiseMss_cln ..).trans h.cln
  mss := (raiseMss_mss ..).trans h.mss

theorem sensed_sensTake (i : Nat) (v : Word) (s : State) : Sensed i s (sensTake i v s) := by
  unfold sensTake
  extract_lets -merge +onlyGivenNames x w
  split
  · exact sensed_setSens ..
  extract_lets -merge +onlyGivenNames side y
  split
  · split
    · exact sensed_setSens ..
    · exact (sensed_setSens ..).event
  split
  · exact (sensed_setSens ..).event
  · exact sensed_setSens ..

theorem Sensed.readable {i : Nat} {s t : State} (h : Sensed i s t) (j : Nat) : sensReadable t j = sensReadable s j := by
  simp only [sensReadable, h.mainscal, h.te, h.clk]

/-! ### Forced actions (18 R562, R563) -/

theorem stays_clearUnit (u : Nat) (s : State) : Stays s (clearUnit u s) := by
  unfold clearUnit
  split
  · exact stays_portDisable ..
  · exact stays_coreEnables ..

/-- The readings and the numbers of the taken descriptors, as an action on a unit leaves them. -/
structure Scanned (s t : State) : Prop where
  sens : t.mssx.sens = s.mssx.sens
  ids : ∀ r, takenIds t r = takenIds s r

theorem Scanned.refl (s : State) : Scanned s s := ⟨rfl, fun _ => rfl⟩

theorem Scanned.trans {s t u : State} (h : Scanned s t) (k : Scanned t u) : Scanned s u :=
  ⟨k.sens.trans h.sens, fun r => (k.ids r).trans (h.ids r)⟩

theorem Stays.scanned {s t : State} (h : Stays s t) : Scanned s t := ⟨h.kept.sens, h.ids⟩

theorem scanned_forceUnit (u cause sensor : Nat) (hw : Bool) (s : State) : Scanned s (forceUnit u cause sensor hw s) := by
  unfold forceUnit
  extract_lets -merge +onlyGivenNames a cleared _ noted p
  have hNoted : Scanned s noted := (stays_clearUnit u s).scanned.trans ⟨rfl, fun _ => rfl⟩
  split
  · exact hNoted.trans (stays_raise ..).scanned
  · have hView : Scanned noted (setView u (if u ≤ 6 then 0 else 2) noted) := ⟨rfl, fun _ => rfl⟩
    exact (hNoted.trans hView).trans (stays_raiseMss ..).scanned

theorem scanned_forcedTakes : (l : List (Nat × Nat × Nat)) → (s : State) → Scanned s (l.foldl forcedTake s)
  | [], s => .refl s
  | c :: l, s => by
    refine Scanned.trans (t := forcedTake s c) ?_ (scanned_forcedTakes l _)
    unfold forcedTake
    extract_lets recent
    split
    · exact scanned_forceUnit ..
    · exact .refl s

theorem scanned_forcedScan (s : State) : Scanned s (forcedScan s) :=
  (scanned_forcedTakes (forcedDue s) s).trans ⟨rfl, fun _ => rfl⟩

theorem sensAt_forcedScan (s : State) (i : Nat) : sensAt (forcedScan s) i = sensAt s i :=
  sensAt_congr (scanned_forcedScan s).sens ((forcedScan_keeps s).pmx_eq rfl) i

/-! ### A pass over the sensors of the die (18 R561) -/

/-- One sensor of the pass. -/
def passSens (sample : List Word) (s : State) (i : Nat) : State :=
  match sample[i]? with
  | some v => sensTake i v s
  | none => s

theorem sensed_passSens (sample : List Word) (s : State) (i : Nat) : Sensed i s (passSens sample s i) := by
  unfold passSens
  split
  · exact sensed_sensTake ..
  · exact ⟨fun _ _ => rfl, rfl, rfl, rfl, rfl, rfl, rfl, rfl⟩

/-- A sensor that the pass does not come to keeps its state. -/
theorem sensAt_pass {sample : List Word} {j : Nat} : (l : List Nat) → (s : State) → j ∉ l →
    sensAt (l.foldl (passSens sample) s) j = sensAt s j
  | [], _, _ => rfl
  | i :: l, s, outside => by
    obtain ⟨other, rest⟩ := not_or.mp (List.mem_cons.not.mp outside)
    exact (sensAt_pass l _ rest).trans ((sensed_passSens sample s i).others j other)

/-- A sensor that it comes to has the value read. -/
theorem pass_value {sample : List Word} {j : Nat} (given : j < sample.length) (l : List Nat) (s : State) (inside : j ∈ l)
    (once : l.Nodup) (readable : sensReadable s j = true) : (sensAt (l.foldl (passSens sample) s) j).value = sample.getD j 0 := by
  induction l generalizing s with
  | nil => exact absurd inside List.not_mem_nil
  | cons i l ih =>
    obtain ⟨notAgain, once⟩ := List.nodup_cons.mp once
    by_cases here : j = i
    · subst here
      have value : sample[j]? = some (sample.getD j 0) := by simp [given]
      rw [List.foldl_cons, sensAt_pass l _ notAgain, passSens, value]
      exact sensTake_value _ readable
    · have later : j ∈ l := (List.mem_cons.mp inside).resolve_left here
      exact ih _ later once (((sensed_passSens sample s i).readable j).trans readable)

theorem pass_host {sample : List Word} : (l : List Nat) → (s : State) → (l.foldl (passSens sample) s).hi = s.hi ∧
    (l.foldl (passSens sample) s).cln = s.cln ∧ (l.foldl (passSens sample) s).mss = s.mss
  | [], _ => ⟨rfl, rfl, rfl⟩
  | i :: l, s => by
    obtain ⟨hi, cln, mss⟩ := pass_host l (passSens sample s i)
    have one := sensed_passSens sample s i
    exact ⟨hi.trans one.hi, cln.trans one.cln, mss.trans one.mss⟩

end Sys2Proof.Machine
end


section
/-! The mailbox commands of information, sensors and restart (18 Table 18.3). -/
namespace Sys2Proof.Machine

theorem takenAt_isSome (s : State) (r id : Nat) : (takenAt s r id).isSome = (takenIds s r).any fun i => decide (i = id) := by
  rw [takenAt, Bool.eq_iff_iff, List.find?_isSome, takenIds, List.any_map, List.any_eq_true]
  rfl

/-- A descriptor that is still taken has a result once it ends. -/
theorem takenAt_finish_isSome {r id : Nat} {res : Result} {s : State} (taken : (takenAt s r id).isSome = true) :
    ((takenAt (finish r id res s) r id).bind (·.result)).isSome = true := by
  obtain ⟨k, found⟩ := Option.isSome_iff_exists.mp taken
  match before : k.result with
  | none => rw [takenAt_finish_running (by rw [found, Option.map_some, before])]; rfl
  | some x =>
    by_cases ring : r < 16
    · have after := takenAt_finish ⟨r, ring⟩ id res s
      rw [after, found]
      simp [Taken.finishedAs, before]
    · have none_ : takenAt s r id = none := by
        simp only [takenAt, sqAt, vget, ring, dif_neg, not_false_eq_true]
        rfl
      simp [none_] at found

theorem taken_of_live {m : Mail} {s : State} (live : mailLive m s = true) : (takenAt s m.ring m.desc).isSome = true := by
  simp only [mailLive, Bool.and_eq_true, decide_eq_true_eq] at live
  obtain ⟨k, found, -⟩ := Option.map_eq_some_iff.mp live.1
  rw [found, Option.isSome_some]

theorem answerMail_done {m : Mail} {result : Nat} {data : List Byte} {u : State} (pcie : u.cln.hostmode = false)
    (taken : (takenAt u m.ring m.desc).isSome = true) :
    ((takenAt (answerMail m result data u) m.ring m.desc).bind (·.result)).isSome = true := by
  rw [answerMail_eq _ _ _ pcie]
  exact takenAt_finish_isSome taken

/-- The pass over the die's sensors, with the actions that its readings force. -/
def dieRead (sample : List Word) (s : State) : State := forcedScan ((List.range 16).foldl (passSens sample) s)

/-- The latest reading of every sensor, as READ_SENSORS answers it. -/
def sensorBytes (s : State) : List Byte := sensors.flatMap fun i =>
  [BitVec.ofNat 8 i, BitVec.ofNat 8 (sensStatus (sensAt s i)), 0, 0] ++ leBytes 4 (sensAt s i).value.toNat

/-- Both views of a unit, as GET_REPORT answers them. -/
def unitBytes (s : State) (u : Nat) : List Byte :=
  [BitVec.ofNat 8 u, BitVec.ofNat 8 (hwState s u), BitVec.ofNat 8 (viewOf s u), BitVec.ofNat 8 (ofBool (actedOn s u))] ++
    leBytes 4 (mismMs s u)

theorem unitBytes_length (s : State) (l : List Nat) : (l.flatMap (unitBytes s)).length = 8 * l.length := by
  induction l with
  | nil => rfl
  | cons u l ih =>
    have one : (unitBytes s u).length = 8 := by simp [unitBytes, leBytes]
    rw [List.flatMap_cons, List.length_append, ih, one, List.length_cons]
    omega

theorem dieRead_host (sample : List Word) (s : State) :
    (dieRead sample s).cln = s.cln ∧ (dieRead sample s).mss = s.mss ∧ ∀ r, takenIds (dieRead sample s) r = takenIds s r := by
  unfold dieRead
  generalize List.range 16 = l
  obtain ⟨hi, cln, mss⟩ := pass_host (sample := sample) l s
  have scan := forcedScan_keeps (l.foldl (passSens sample) s)
  refine ⟨(scan.cln_eq rfl).trans cln, (scan.mss_eq rfl).trans mss, fun r => ((scanned_forcedScan _).ids r).trans ?_⟩
  rw [takenIds, sqAt, hi]
  rfl

theorem dieRead_value {sample : List Word} {s : State} (i : Fin 16) (given : i.val < sample.length) (readable : sensReadable s i.val = true) :
    (sensAt (dieRead sample s) i.val).value = sample.getD i.val 0 := by
  rw [dieRead, sensAt_forcedScan]
  exact pass_value given _ s (List.mem_range.mpr i.isLt) List.nodup_range readable

theorem execReadSensors_eq (l : List Word) (s : State) : execReadSensors l s =
    run s (serve 0x02 0 fun m _ s => answerMail m 0 (sensorBytes (dieRead l s)) (dieRead l s)) := by
  unfold execReadSensors dieRead
  rfl

end Sys2Proof.Machine

open Sys2Proof Sys2Proof.Machine

/-- Settles O46, by the work that each command does on its request and the answer that ends it. -/
theorem mailbox : Obligations.Mailbox := by
  intro s m up live
  have pcie := pcie_of_live live
  refine ⟨fun h => ?info, fun l h _ => ?read, fun h known => ?threshold, fun h phase => ?mainscal, fun h room => ?report, fun h unit => ?ack,
    fun h => ?restart, fun h low high => ?log⟩
  case info =>
    exact completes_mail rfl up live h rfl (.refl s)
      ⟨by rw [answerMail_mail _ _ _ pcie], by rw [answerMail_result live]; rfl⟩
  case read =>
    obtain ⟨cln, mss, ids⟩ := dieRead_host l s
    have pcie' : (dieRead l s).cln.hostmode = false := by rw [cln, pcie]
    have gone : ∀ data, (answerMail m 0 data (dieRead l s)).mss.mail = s.mss.mail.drop 1 := fun data => by
      rw [answerMail_mail _ _ _ pcie', mss]
    have taken : (takenAt (dieRead l s) m.ring m.desc).isSome = true := by
      rw [takenAt_isSome, ids, ← takenAt_isSome, taken_of_live live]
    refine completes_does (t := answerMail m 0 (sensorBytes (dieRead l s)) (dieRead l s)) (execReadSensors_eq l s) up (serve_serving h rfl (gone _))
      ⟨gone _, ?_, fun i given readable => ?_⟩
    · exact answerMail_done pcie' taken
    · rw [← dieRead_value i given readable, sensAt_congr (by rw [answerMail_mssx _ _ _ pcie']) ((answerMail_keeps ..).pmx_eq rfl)]
  case threshold =>
    intro low high hyst ordered wide narrow
    have ok : (!sensKnown (leAt m.req 4 1) || decide (high.toInt ≤ low.toInt) || decide (hyst.toInt < 0) ||
        decide (high.toInt - low.toInt ≤ 2 * hyst.toInt)) = false := by
      simp only [known, Bool.not_true, Bool.false_or, Bool.or_eq_false_iff, decide_eq_false_iff_not, Int.not_le, Int.not_lt]
      exact ⟨⟨ordered, wide⟩, narrow⟩
    have asked : Asked s (setSens (leAt m.req 4 1) { sensAt s (leAt m.req 4 1) with low := some low, high := some high, hyst := hyst } s) :=
      ⟨rfl, rfl, rfl⟩
    refine completes_mail (result := 0) (data := []) rfl up live h ?_ asked
      ⟨asked.answered live (serves_of_serving h).four (.inl rfl) rfl, ?_, answerMail_hostMem pcie (.inl rfl)⟩
    · simp only [leAt_drop]
      exact if_neg (ok ▸ Bool.false_ne_true)
    · rw [sensAt_congr (by rw [asked.mssx live]) ((answerMail_keeps ..).pmx_eq rfl), sensAt_setSens, if_pos rfl]
  case mainscal =>
    have asked :
      Asked s { s with mssx := { s.mssx with mainscal := vupd s.mssx.mainscal (leAt m.req 4 1) fun _ => some (BitVec.ofNat 32 (leAt m.req 5 4)) } } :=
      ⟨rfl, rfl, rfl⟩
    refine completes_mail (result := 0) (data := []) rfl up live h ?_ asked
      ⟨asked.answered live (serves_of_serving h).four (.inl rfl) rfl, by rw [asked.mssx live]⟩
    simp only [leAt_drop]
    exact if_neg (Nat.not_lt.mpr phase)
  case report =>
    have long := unitBytes_length s units
    have fits : units.flatMap (unitBytes s) = [] ∨ 4 + (units.flatMap (unitBytes s)).length ≤ m.cap := .inr (by rw [long]; exact room)
    exact completes_mail (data := units.flatMap (unitBytes s)) rfl up live h rfl (.refl s)
      ⟨(Asked.refl s).answered live (serves_of_serving h).four fits (by rw [long]), answerMail_hostMem pcie fits⟩
  case ack =>
    have asked : Asked s (ackView (leAt m.req 4 1) s) := ⟨rfl, rfl, rfl⟩
    refine completes_mail (result := 0) (data := []) rfl up live h ?_ asked
      ⟨asked.answered live (serves_of_serving h).four (.inl rfl) rfl, by rw [asked.mssx live]; rfl,
        by rw [asked.mssx live]; rfl⟩
    simp only [leAt_drop]
    exact if_pos unit
  case restart =>
    have asked : Asked s { s with mss := { s.mss with restartDue := some (m.ring, m.desc, 2) } } := ⟨rfl, rfl, rfl⟩
    exact completes_mail rfl up live h rfl asked
      ⟨asked.answered live (serves_of_serving h).four (.inl rfl) rfl, by rw [asked.mss live]⟩
  case log =>
    intro l room
    refine completes_mail (result := 0) (data := l) rfl up live h ?_ (.refl s)
      ⟨(Asked.refl s).answered live (serves_of_serving h).four (.inr room) rfl, answerMail_hostMem pcie (.inr room)⟩
    simp only [leAt_drop]
    exact if_neg fun bad => bad.elim (Nat.ne_of_gt low) (Nat.not_lt.mpr high)

end


section
/-! The update procedure and the OTP key (18 R557, R574, R575). -/
namespace Sys2Proof.Machine

/-! ### The boot state (18 R551, R552) -/

theorem bootState_congr {s t : State} (boot : t.mssx.boot = s.mssx.boot) : bootState t = bootState s := by
  simp only [bootState, bootCopy, boot]

/-- The copy in force is the first one. -/
def firstCopy (s : State) : Bool :=
  s.mssx.boot[0].valid && (!s.mssx.boot[1].valid || decide (s.mssx.boot[1].count ≤ s.mssx.boot[0].count))

theorem bootState_first {s : State} (first : firstCopy s = true) : bootState s = s.mssx.boot[0] := by
  have copy : bootCopy s = some 0 := if_pos first
  rw [bootState, copy]
  rfl

theorem bootState_second {s : State} (first : firstCopy s = false) (valid : s.mssx.boot[1].valid = true) : bootState s = s.mssx.boot[1] := by
  have copy : bootCopy s = some 1 := (if_neg (Bool.eq_false_iff.mp first)).trans (if_pos valid)
  rw [bootState, copy]
  rfl

/-- The copy that an update writes. -/
def nextCopy (f : BootCopy → BootCopy) (s : State) : BootCopy :=
  { f (bootState s) with valid := true, count := (bootState s).count + 1 }

theorem bootWrite_second (f : BootCopy → BootCopy) {s : State} (first : firstCopy s = true) :
    (bootWrite f s).mssx.boot = s.mssx.boot.set 1 (nextCopy f s) := by
  have copy : bootCopy s = some 0 := if_pos first
  simp only [bootWrite, copy, if_true]
  rfl

theorem bootWrite_first (f : BootCopy → BootCopy) {s : State} (first : firstCopy s = false) :
    (bootWrite f s).mssx.boot = s.mssx.boot.set 0 (nextCopy f s) := by
  have copy : bootCopy s ≠ some 0 := by
    intro copy
    rw [bootCopy] at copy
    have notFirst : ¬firstCopy s = true := Bool.eq_false_iff.mp first
    replace copy := (if_neg notFirst).symm.trans copy
    split at copy <;> simp at copy
  simp only [bootWrite, if_neg copy]
  rfl

/-- The next count is above the last, while that has not run out. -/
theorem count_lt_next {s : State} (counts : bootCounts s = true) : (bootState s).count < (bootState s).count + 1 := by
  have below : (bootState s).count ≠ 0xFFFFFFFF := by simpa [bootCounts] using counts
  bv_omega

/-- An update is in force once it is written, while the count has not run out. -/
theorem bootState_bootWrite (f : BootCopy → BootCopy) {s : State} (counts : bootCounts s = true) :
    bootState (bootWrite f s) = nextCopy f s := by
  have above := count_lt_next counts
  match first : firstCopy s with
  | true =>
    have boot := bootWrite_second f first
    rw [bootState_first first] at above
    have second : firstCopy (bootWrite f s) = false := by
      simp only [firstCopy, boot, nextCopy, bootState_first first]
      simpa using fun _ => above
    rw [bootState_second second (by simp [boot, nextCopy])]
    simp [boot]
  | false =>
    have boot := bootWrite_first f first
    have again : firstCopy (bootWrite f s) = true := by
      match valid : s.mssx.boot[1].valid with
      | false => simp [firstCopy, boot, nextCopy, valid]
      | true =>
        rw [bootState_second first valid] at above
        simp only [firstCopy, boot, nextCopy, bootState_second first valid]
        simpa [valid] using BitVec.le_of_lt above
    rw [bootState_first again]
    simp [boot]

theorem asked_bootWrite (f : BootCopy → BootCopy) (s : State) : Asked s (bootWrite f s) := ⟨rfl, rfl, rfl⟩

theorem mssKept_mssUpdateEv (step outcome slot : Nat) (s : State) : MssKept s (mssUpdateEv step outcome slot s) := mssKept_raiseMss ..

theorem mssUpdateEv_mss (step outcome slot : Nat) (s : State) : (mssUpdateEv step outcome slot s).mss = s.mss := raiseMss_mss ..

theorem asked_mssUpdateEv (step outcome slot : Nat) (s : State) : Asked s (mssUpdateEv step outcome slot s) := asked_raiseMss ..

theorem slotValidSet_clear : ∀ (x : BitVec 4) (i : Fin 4), (x &&& ~~~ BitVec.ofNat 4 (2 ^ i.val)).getLsbD i.val = false := by decide
theorem slotValidSet_set : ∀ (x : BitVec 4) (i : Fin 4), (x ||| BitVec.ofNat 4 (2 ^ i.val)).getLsbD i.val = true := by decide

/-- The boot state as the work on the request left it, after its event and its answer. -/
theorem bootState_answered {m : Mail} {result step outcome slot : Nat} {data : List Byte} {s u : State}
    (asked : Asked s (mssUpdateEv step outcome slot u)) (live : mailLive m s = true) :
    bootState (answerMail m result data (mssUpdateEv step outcome slot u)) = bootState u :=
  bootState_congr (by rw [asked.mssx live, (mssKept_mssUpdateEv ..).boot])

/-! ### The steps of an update (18 R574, Table 18.8) -/

theorem updateSlot_lt (s : State) (target : Nat) : updateSlot s target < 4 := by
  have bit : ∀ b, ofBool b ≤ 1 := by decide
  unfold updateSlot imageSlot profileSlot
  extract_lets b
  have first := bit (!b.active)
  have second := bit (!b.profile.getD true)
  split <;> omega

/-- A session opened, its slot no longer valid and its image empty. -/
def sessionOpened (x : Session) (s : State) : State :=
  let s := bootWrite (slotValidSet x.target false) s
  { s with
    mss := { s.mss with sess := some x }
    mssx := { s.mssx with sessMark := some (1, x.target), img := vupd s.mssx.img x.target fun _ => [] } }

theorem sessionOpened_boot (x : Session) {s : State} (counts : bootCounts s = true) :
    bootState (sessionOpened x s) = nextCopy (slotValidSet x.target false) s := bootState_bootWrite _ counts

/-- The data of a step taken. -/
def dataTaken (x : Session) (s : State) : State :=
  putSession x { s with mssx := { s.mssx with img := vupd s.mssx.img x.target fun _ => x.data } }

/-- An image committed. -/
def committedImage (x : Session) (s : State) : State :=
  mssUpdateEv 3 0 x.target (bootWrite (slotValidSet x.target true) (putSession { x with verified := true } s))

/-- The slot of an image boots once on trial. -/
def onTrial (b : BootCopy) : BootCopy := { b with pending := true, tries := 1 }

/-- An image activated: the restart follows the completion. -/
def imageActivated (m : Mail) (s : State) : State :=
  { bootWrite onTrial (closeSession s) with mss := { (closeSession s).mss with restartDue := some (m.ring, m.desc, 1) } }

/-- A profile activated. -/
def profileActivated (x : Session) (s : State) : State :=
  bootWrite (fun b => { b with profile := some (decide (x.target = 3)) }) (closeSession s)

/-- A step that fails. -/
theorem updateFail_answer (step result slot : Nat) (m : Mail) (s : State) :
    updateFail step result slot m s = answerMail m result [] (mssUpdateEv step result slot (closeSession s)) := rfl

theorem asked_closeSession (s : State) : Asked s (closeSession s) := ⟨rfl, rfl, rfl⟩

theorem asked_failed (step result slot : Nat) (s : State) : Asked s (mssUpdateEv step result slot (closeSession s)) :=
  (asked_closeSession s).trans (asked_mssUpdateEv ..)

theorem inSession_some {m : Mail} {k : Session → State → State} {s : State} {x : Session} (sess : s.mss.sess = some x) :
    inSession m k s = k x s := by
  rw [inSession, sess]

theorem inSession_none {m : Mail} {k : Session → State → State} {s : State} (sess : s.mss.sess = none) :
    inSession m k s = answerMail m 4 [] s := by
  rw [inSession, sess]

end Sys2Proof.Machine

open Sys2Proof Sys2Proof.Machine

/-- Settles O47, by the step of the session that each command does. -/
theorem updates : Obligations.Updates := by
  intro s m up live
  have pcie := pcie_of_live live
  refine ⟨fun h idle target len counts => ?begin, fun h busy => ?busy, fun x h sess offset data room => ?data, fun x h sess all counts => ?commit,
    fun x h sess short => ?short, fun x h sess verified image counts => ?image, fun x h sess verified profile counts => ?profile,
    fun x h sess => ?abort, fun h idle => ?idle, fun h free first second => ?otp, fun h burnt => ?burnt⟩
  case begin =>
    obtain ⟨x, hx⟩ : ∃ x : Session, x =
      { target := updateSlot s (leAt m.req 4 1), len := leAt m.req 5 4, received := 0, data := [], verified := false } := ⟨_, rfl⟩
    have slot : x.target = updateSlot s (leAt m.req 4 1) := by rw [hx]
    have inRange : x.target < 4 := slot ▸ updateSlot_lt ..
    have asked : Asked s (mssUpdateEv 1 0 x.target (sessionOpened x s)) := Asked.trans (t := sessionOpened x s) ⟨rfl, rfl, rfl⟩ (asked_mssUpdateEv ..)
    have kept := mssKept_mssUpdateEv 1 0 x.target (sessionOpened x s)
    rw [← hx, ← slot]
    refine completes_mail (result := 0) (data := Config.responseLayout 0x20 [x.target])
      (u := mssUpdateEv 1 0 x.target (sessionOpened x s)) rfl up live h ?_ asked ⟨?_, ?_, ?_, ?_⟩
    · subst hx
      simp only [leAt_drop]
      exact (if_neg (by simp [idle])).trans ((if_neg (Nat.not_lt.mpr target)).trans (if_neg (by simp [len])))
    · rw [asked.mss live, asked.mail]
    · rw [asked.mss live, mssUpdateEv_mss]
      rfl
    · rw [bootState_answered asked live, sessionOpened_boot x counts]
      exact slotValidSet_clear _ ⟨x.target, inRange⟩
    · rw [imgAt, asked.mssx live, kept, sessionOpened, vget_vupd, if_pos ⟨rfl, inRange⟩]
  case busy =>
    exact completes_mail (result := 3) (data := []) rfl up live h (if_pos busy) (.refl s)
      ⟨(Asked.refl s).answered live (serves_of_serving h).four (.inl rfl) rfl, by rw [(Asked.refl s).mss live],
        answerMail_hostMem pcie (.inl rfl)⟩
  case data =>
    obtain ⟨y, hy⟩ : ∃ y : Session, y =
      { x with received := x.received + (m.req.drop 8).length, data := x.data ++ m.req.drop 8 } := ⟨_, rfl⟩
    have asked : Asked s (dataTaken y s) := ⟨rfl, rfl, rfl⟩
    have taken : ¬(leAt (m.req.drop 4) 0 4 ≠ x.received ∨ ((m.req.drop 4).drop 4).isEmpty = true ∨
        x.len < x.received + ((m.req.drop 4).drop 4).length) := by
      simp only [leAt_drop, List.drop_drop, not_or, not_not, Nat.not_lt, List.isEmpty_iff]
      exact ⟨offset, data, room⟩
    rw [← hy]
    refine completes_mail (result := 0) (data := []) (u := dataTaken y s) rfl up live h ?_ asked
      ⟨asked.answered live (serves_of_serving h).four (.inl rfl) rfl, by rw [asked.mss live]; rfl⟩
    refine (inSession_some sess).trans ((if_neg taken).trans ?_)
    subst hy
    simp only [List.drop_drop]
    rfl
  case commit =>
    match verify : imgFault s (if x.target < 2 then 1 else 2) x.data with
    | some f =>
      have asked := asked_failed 3 f x.target s
      refine completes_mail (result := f) (data := []) (u := mssUpdateEv 3 f x.target (closeSession s)) rfl up live h
        ((inSession_some sess).trans ?_) asked
        ⟨asked.answered live (serves_of_serving h).four (.inl rfl) rfl, by rw [asked.mss live, mssUpdateEv_mss]; rfl,
          fun _ none_ => by simp at none_⟩
      simp only [if_neg (not_not.mpr all), verify, updateFail_answer]
    | none =>
      have asked : Asked s (committedImage x s) := Asked.trans (t := bootWrite (slotValidSet x.target true) (putSession { x with verified := true } s))
        ⟨rfl, rfl, rfl⟩ (asked_mssUpdateEv ..)
      refine completes_mail (result := 0) (data := []) (u := committedImage x s) rfl up live h ((inSession_some sess).trans ?_) asked
        ⟨asked.answered live (serves_of_serving h).four (.inl rfl) rfl, ?_, fun inRange _ => ?_⟩
      · simp only [if_neg (not_not.mpr all), verify]
        rfl
      · rw [asked.mss live, committedImage, mssUpdateEv_mss]
        rfl
      · rw [committedImage, bootState_answered asked live,
          bootState_bootWrite _ (s := putSession { x with verified := true } s) counts]
        exact slotValidSet_set _ ⟨x.target, inRange⟩
  case short =>
    have asked := asked_failed 3 6 x.target s
    have fault : (if x.received ≠ x.len then some 6 else imgFault s (if x.target < 2 then 1 else 2) x.data) = some 6 := if_pos short
    refine completes_mail (result := 6) (data := []) (u := mssUpdateEv 3 6 x.target (closeSession s)) rfl up live h
      ((inSession_some sess).trans ?_) asked
      ⟨asked.answered live (serves_of_serving h).four (.inl rfl) rfl, by rw [asked.mss live, mssUpdateEv_mss]; rfl⟩
    simp only [fault, updateFail_answer]
  case image =>
    have asked : Asked s (mssUpdateEv 4 0 x.target (imageActivated m s)) :=
      Asked.trans (t := imageActivated m s) ⟨rfl, rfl, rfl⟩ (asked_mssUpdateEv ..)
    have boot : bootState (answerMail m 0 [] (mssUpdateEv 4 0 x.target (imageActivated m s))) = nextCopy onTrial (closeSession s) := by
      rw [bootState_answered asked live]
      exact bootState_bootWrite onTrial (s := closeSession s) counts
    refine completes_mail (result := 0) (data := []) (u := mssUpdateEv 4 0 x.target (imageActivated m s)) rfl up live h
      ((inSession_some sess).trans ((if_neg (by simp [verified])).trans ?_)) asked
      ⟨asked.answered live (serves_of_serving h).four (.inl rfl) rfl, by rw [asked.mss live, mssUpdateEv_mss]; rfl,
        by rw [boot]; rfl, by rw [boot]; rfl, by rw [asked.mss live, mssUpdateEv_mss]; rfl⟩
    simp only [if_pos image]
    rfl
  case profile =>
    have asked : Asked s (mssUpdateEv 4 0 x.target (profileActivated x s)) :=
      Asked.trans (t := profileActivated x s) ⟨rfl, rfl, rfl⟩ (asked_mssUpdateEv ..)
    refine completes_mail (result := 0) (data := []) (u := mssUpdateEv 4 0 x.target (profileActivated x s)) rfl up live h
      ((inSession_some sess).trans ((if_neg (by simp [verified])).trans ?_)) asked
      ⟨asked.answered live (serves_of_serving h).four (.inl rfl) rfl, by rw [asked.mss live, mssUpdateEv_mss]; rfl, ?_,
        by rw [asked.mss live, mssUpdateEv_mss]; rfl⟩
    · simp only [if_neg (Nat.not_lt.mpr profile)]
      rfl
    · rw [bootState_answered asked live, profileActivated, bootState_bootWrite _ (s := closeSession s) counts]
      rfl
  case abort =>
    have asked := asked_closeSession s
    exact completes_mail (result := 0) (data := []) (u := closeSession s) rfl up live h (inSession_some sess) asked
      ⟨asked.answered live (serves_of_serving h).four (.inl rfl) rfl, by rw [asked.mss live]; rfl, by rw [asked.mssx live]; rfl⟩
  case idle =>
    exact completes_mail (result := 4) (data := []) rfl up live h (inSession_none idle) (.refl s)
      ⟨(Asked.refl s).answered live (serves_of_serving h).four (.inl rfl) rfl, answerMail_hostMem pcie (.inl rfl)⟩
  case otp =>
    have asked : Asked s { s with mssx := { s.mssx with otpKey := some (BitVec.ofNat 256 (leAt m.req 4 32)) } } := ⟨rfl, rfl, rfl⟩
    refine completes_mail (result := 0) (data := []) rfl up live h ?_ asked
      ⟨asked.answered live (serves_of_serving h).four (.inl rfl) rfl, by rw [asked.mssx live]⟩
    simp only [leAt_drop]
    exact if_neg (by simp [free, first, second])
  case burnt =>
    exact completes_mail (result := 8) (data := []) rfl up live h (if_pos (.inl burnt)) (.refl s)
      ⟨(Asked.refl s).answered live (serves_of_serving h).four (.inl rfl) rfl, by rw [(Asked.refl s).mssx live],
        answerMail_hostMem pcie (.inl rfl)⟩

end


section
/-! SMBus: transfers, board sensors, the alert and the host notify (18 R558, R578 to R580, 22 R655). -/
namespace Sys2Proof.Machine

/-! ### An event while records are held (16 R520) -/

theorem logAdd_ev (code source : Nat) (sec : BitVec 48) (ns : Word) (p : BitVec 128) (evseq : Word) (s : State) :
    (logAdd code source sec ns p evseq s).ev = s.ev := by
  unfold logAdd
  split <;> rfl

/-- It is held behind those already held. -/
theorem raiseRaw_holding {code source : Nat} {sec ns : Word} {p : BitVec 128} {s : State} (holding : s.ev.mode = .holding) :
    (raiseRaw code source sec ns p s).ev.held = s.ev.held ++
      [{ seq := s.ev.nextSeq, code := BitVec.ofNat 16 code, source := BitVec.ofNat 16 source, sec := sec, ns := ns, payload := p }] := by
  rw [raiseRaw, holding]
  rfl

theorem raiseMss_holding {code inst : Nat} {fs : List (Nat × Nat × Nat)} {s : State} (holding : s.ev.mode = .holding) :
    (raiseMss code inst fs s).ev.held = s.ev.held ++
      [{ seq := s.ev.nextSeq, code := BitVec.ofNat 16 code, source := BitVec.ofNat 16 (0x1000 + inst % 256),
         sec := s.te.sec.setWidth 32, ns := BitVec.ofNat 32 s.te.ns, payload := payload fs }] := by
  unfold raiseMss raiseAt
  extract_lets logged_
  have same : logged_.ev = s.ev := by
    unfold logged_
    split
    · exact logAdd_ev ..
    · rfl
  rw [raiseRaw_holding (by rw [same, holding]), same]

/-! ### Board sensors (18 R558) -/

/-- A board sensor is read on request, whatever the mains and the clocks. -/
theorem sensReadable_board {i : Nat} (s : State) (board : 32 ≤ i) : sensReadable s i = true :=
  (if_neg (fun h => by omega)).trans (if_neg (fun h => by omega))

theorem smbPoll_ok {x : SmbSens} {bs : List Byte} {s : State} (board : 32 ≤ x.idx) (long : 2 ≤ bs.length) :
    (sensAt (smbPoll x (.ok bs) s) x.idx).value = smbValue x bs := by
  have value : (if 0 = 0 ∧ 2 ≤ bs.length then smbValue x bs else noReading) = smbValue x bs := if_pos ⟨rfl, long⟩
  have taken : smbPoll x (.ok bs) s = sensTake x.idx (if 0 = 0 ∧ 2 ≤ bs.length then smbValue x bs else noReading) s := rfl
  rw [taken, value]
  exact sensTake_value _ (sensReadable_board s board)

theorem smbPoll_nack {x : SmbSens} {s : State} : (sensAt (smbPoll x .nack s) x.idx).value = noReading := sensTake_unread s

/-- A board sensor set. -/
def sensorSet (i : Nat) (x : SmbSens) (s : State) : State :=
  { s with mssx := { s.mssx with smbSens := s.mssx.smbSens.filter (fun y => decide (y.idx ≠ i)) ++ [x] } }

theorem getD_drop {α : Type} (l : List α) (k i : Nat) (d : α) : (l.drop k).getD i d = l.getD (k + i) d := by
  simp [List.getD_eq_getElem?_getD]

/-- A poll of a board sensor that is set. -/
theorem poll_found {i : Nat} {x : SmbSens} {a : SmbAnswer} {s : State} (found : s.mssx.smbSens.find? (fun x => decide (x.idx = i)) = some x)
    (up : mssUp s = true) (en : smbEn s = true) :
    (match s.mssx.smbSens.find? fun x => decide (x.idx = i) with
      | some x => if mssUp s && smbEn s then smbPoll x a s else s
      | none => s) = smbPoll x a s := by
  rw [found]
  simp [up, en]

end Sys2Proof.Machine

open Sys2Proof Sys2Proof.Machine

/-- Settles O48, by the end of the transfer or the reading it brings. -/
theorem smbus : Obligations.Smbus := by
  intro s m up
  refine ⟨fun bs live h en reads pec none_ room => ?ok, fun live h en proto none_ => ?nack, fun live h low high fmt => ?sensor,
    fun i x bs found board mup en long => ?poll, fun i x found board mup en => ?pollNack, fun x bs only board mup en alert long => ?alert,
    fun a v mup en notify holding => ?notify⟩
  case ok =>
    have pcie := pcie_of_live live
    have proto : leAt m.req 5 1 ≤ 9 := by
      have known : leAt m.req 5 1 ∈ [2, 5, 6, 8, 9] := List.contains_iff_mem.mp reads
      simp only [List.mem_cons, List.not_mem_nil, or_false] at known
      omega
    have taken : ¬(9 < leAt (m.req.drop 4) 1 1 ∨ 240 < leAt (m.req.drop 4) 4 1 ∨
        (((m.req.drop 4).drop 5).take (leAt (m.req.drop 4) 4 1)).length < leAt (m.req.drop 4) 4 1) := by
      simp only [leAt_drop, Nat.reduceAdd]
      omega
    have fits : bs = [] ∨ 4 + bs.length ≤ m.cap := .inr room
    refine completes_mail (result := 0) (data := bs) rfl up live h ((if_neg taken).trans ((if_neg (by simp [en])).trans ?_)) (.refl s)
      ⟨(Asked.refl s).answered live (serves_of_serving h).four fits rfl, answerMail_hostMem pcie fits⟩
    simp only [leAt_drop, smbEnd]
    exact (if_neg (by simp [reads])).trans (if_neg (by simp [pec]))
  case nack =>
    have pcie := pcie_of_live live
    have taken : ¬(9 < leAt (m.req.drop 4) 1 1 ∨ 240 < leAt (m.req.drop 4) 4 1 ∨
        (((m.req.drop 4).drop 5).take (leAt (m.req.drop 4) 4 1)).length < leAt (m.req.drop 4) 4 1) := by
      simp only [leAt_drop, Nat.reduceAdd]
      omega
    exact completes_mail (result := 9) (data := []) rfl up live h
      ((if_neg taken).trans ((if_neg (by simp [en])).trans (if_pos (.inl (by decide))))) (.refl s)
      ⟨(Asked.refl s).answered live (serves_of_serving h).four (.inl rfl) rfl, answerMail_hostMem pcie (.inl rfl)⟩
  case sensor =>
    have ok : ¬(leAt (m.req.drop 4) 0 1 < 32 ∨ 63 < leAt (m.req.drop 4) 0 1 ∨ 1 < leAt (m.req.drop 4) 5 1 ∨
        leAt (m.req.drop 4) 5 1 = 1 ∧ (m.req.drop 4).length < 7) := by
      simp only [leAt_drop, Nat.reduceAdd]
      omega
    have asked : Asked s (sensorSet (leAt m.req 4 1)
        { idx := leAt m.req 4 1, addr := m.req.getD 5 0, cmd := m.req.getD 6 0, fmt := 0, exp := m.req.getD 10 0,
          period := BitVec.ofNat 16 (leAt m.req 7 2) } s) :=
      ⟨rfl, rfl, rfl⟩
    refine completes_mail (result := 0) (data := []) rfl up live h ((if_neg ok).trans ?_) asked
      ⟨asked.answered live (serves_of_serving h).four (.inl rfl) rfl, by rw [asked.mssx live]; rfl⟩
    simp only [leAt_drop, Nat.reduceAdd, fmt, getD_drop]
    rfl
  case poll =>
    have idx : x.idx = i := by simpa using List.find?_some found
    subst idx
    exact completes_does rfl up (poll_found found mup en) (smbPoll_ok board long)
  case pollNack =>
    have idx : x.idx = i := by simpa using List.find?_some found
    subst idx
    exact completes_does rfl up (poll_found found mup en) smbPoll_nack
  case alert =>
    have does : (s.mssx.smbSens.zip [SmbAnswer.ok bs]).foldl (fun s x => smbPoll x.1 x.2 s) s = smbPoll x (.ok bs) s := by
      rw [only]
      rfl
    exact completes_does rfl up ((if_pos (by simp [mup, en, alert])).trans does) (smbPoll_ok board long)
  case notify =>
    exact completes_does rfl up (if_pos (by simp [mup, en, notify])) (raiseMss_holding holding)

end


section
/-! Register accesses: byte enables and register pairs (15 R476, 23 R673, R675 to R682). -/
namespace Sys2Proof.Machine

theorem woken_same (s : State) : s.woken s.pwr s.slp = s := rfl

/-- An access by an agent completes with what holds of its effect, whatever a wake has made of the power state and the sleep timers. -/
theorem completes_agent {c : Instr} {a : Agent} {s : State} {f : State → State} {P : State → Prop} (e : exec c s = runAgent a s f)
    (up : devUp s = true) (p : ∀ w x, P (f (s.woken w x))) (free : QueueFree P := by intros _ _; rfl) : Completes c s P := by
  refine ⟨_, e.trans (runAgent_next a f up), ?_⟩
  rw [free]
  split
  · rw [wakeBy_woken]
    exact p ..
  · exact p s.pwr s.slp

/-! ### Register pairs (23 R675, R676) -/

theorem pairGet_same (k : Agent × Bool × Nat) (v : Word) (l : List ((Agent × Bool × Nat) × Word)) : pairGet k ((k, v) :: l) = some v := by
  simp [pairGet]

/-- What is taken is no longer held. -/
theorem pairGet_drop (k : Agent × Bool × Nat) (l : List ((Agent × Bool × Nat) × Word)) : pairGet k (pairDrop k l) = none := by
  have gone : (pairDrop k l).find? (fun e => decide (e.1 = k)) = none :=
    List.find?_eq_none.mpr fun e he => by simpa [pairDrop] using (List.mem_filter.mp he).2
  rw [pairGet, gone]
  rfl

/-- The _LO registers that can be written lie at multiples of 4. -/
theorem aligned_of_isLoRw {b : Bool} {off : Nat} (lo : isLoRw b off = true) : off % 4 = 0 := by
  match b with
  | true =>
    simp only [isLoRw, isLo2, if_true, List.contains_iff_mem, List.mem_cons, List.not_mem_nil, or_false] at lo
    omega
  | false =>
    simp only [isLoRw, isLo0, if_true, Bool.false_eq_true, if_false, Bool.or_eq_true, Bool.and_eq_true, decide_eq_true_eq, List.contains_iff_mem,
      List.mem_cons, List.not_mem_nil, or_false] at lo
    omega

theorem writeReg_lo {a : Agent} {b : Bool} {off : Nat} {v : Word} {s : State} (lo : isLoRw b off = true) (may : b = false ∨ a ≠ .remote) :
    writeReg a b off 0xF v s = stageLo a b off v s := by
  have reached : ¬(b && decide (a = .remote)) = true := by
    rcases may with bar0 | agent
    · simp [bar0]
    · simp [agent]
  unfold writeReg
  extract_lets window
  rw [if_neg reached, if_neg (by simp), if_neg (by simp [aligned_of_isLoRw lo]), if_pos lo]

/-- A write of the _HI register of a pair reaches its block. -/
theorem writeReg_secHi {a : Agent} (v : Word) (s : State) (agent : a ≠ .remote) : writeReg a true 0x834 0xF v s = teSetSecHi a v s := by
  simp [writeReg, agent, isLoRw, isLo2, wrBar2, wrTe2]

theorem writeReg_limNet (a : Agent) (v : Word) (s : State) : writeReg a false 0x7010 0xF v s = cxLimNetWrite v s :=
  (writeReg_bar0 a v s rfl (by decide)).trans (by simp [wrBar0, wrCx])

theorem writeReg_kcfg (a : Agent) (v : Word) (s : State) : writeReg a false 0x6104 0xF v s = kcfgWrite v s :=
  (writeReg_bar0 a v s rfl (by decide)).trans (by simp [wrBar0, wrRgc])

/-- BAR2 is the host's: a remote access to it does nothing. -/
theorem writeReg_remote (off : Nat) (be : BitVec 4) (v : Word) (s : State) : writeReg .remote true off be v s = s := by
  simp [writeReg]

/-! ### The new parts of a register outside a field -/

theorem bitAt_oneFld {w : Word} {lo len i : Nat} (inside : i < 32) (outside : lo + len ≤ i) : bitAt (oneFld w lo len) i = bitAt w i := by
  unfold oneFld
  split
  · rw [bitAt_setFld _ _ _ _ inside, if_neg (by omega)]
  · rfl

theorem bitAt_limFld {w : Word} {lo len a b i : Nat} (inside : i < 32) (outside : lo + len ≤ i) :
    bitAt (limFld w lo len a b) i = bitAt w i := by
  unfold limFld
  split
  · rw [bitAt_setFld _ _ _ _ inside, if_neg (by omega)]
  split
  · rw [bitAt_setFld _ _ _ _ inside, if_neg (by omega)]
  · rfl

/-- KETTLE_CFG is taken where neither of its modes clashes. -/
theorem kcfgWrite_en {v : Word} {s : State} (low : bitAt v 29 = false) : bitAt (kcfgWrite v s).aln.kcfg 31 = bitAt v 31 := by
  have taken : ((bitAt v 30 && bitAt v 29) || (bitAt v 29 && decide (stRole s = 2))) = false := by simp [low]
  have en : bitAt (v &&& 0xF70000FF) 31 = bitAt v 31 := by simp [bitAt]
  have written : bitAt (oneFld (limFld (v &&& 0xF70000FF) 24 3 0 6) 0 8) 31 = bitAt v 31 := by
    rw [bitAt_oneFld (by decide) (by decide), bitAt_limFld (by decide) (by decide), en]
  unfold kcfgWrite
  rw [if_neg (Bool.eq_false_iff.mp taken)]
  dsimp only
  split
  · exact written
  · exact written

/-! ### TE_SET_SEC (10 R328) -/

theorem teSetSecHi_idle {a : Agent} {v : Word} {s : State} (idle : s.te.armed = none) :
    (teSetSecHi a v s).te = { s.te with setSec := BitVec.ofNat 48 (((pairGet (a, true, 0x830) s.staging).getD (s.te.setSec.setWidth 32)).toNat +
      4294967296 * fld v 0 16) } ∧ pairGet (a, true, 0x830) (teSetSecHi a v s).staging = none := by
  unfold teSetSecHi
  simp only [takeLo, idle, Option.isSome_none, Bool.false_eq_true, if_false]
  exact ⟨trivial, pairGet_drop ..⟩

theorem teSetSecHi_armed {a : Agent} {v : Word} {s : State} {m : BitVec 2} (armed : s.te.armed = some m) :
    (teSetSecHi a v s).te = { s.te with refused := true, cause := 1 } ∧ pairGet (a, true, 0x830) (teSetSecHi a v s).staging = none := by
  unfold teSetSecHi
  simp only [takeLo, armed, Option.isSome_some, if_true, teRefuse_te]
  refine ⟨rfl, ?_⟩
  rw [teRefuse, raise_staging]
  exact pairGet_drop ..

/-- What HI_WRITE_APPLY does. -/
def hiApplied (a : Agent) (b : Bool) (off : BitVec 16) (v : Word) (s : State) : State :=
  if 4 ≤ off.toNat ∧ isLoRw b (off.toNat - 4) then writeReg a b off.toNat 0xF v s else s

theorem hiApplied_sec {a : Agent} {v : Word} (s : State) (agent : a ≠ .remote) : hiApplied a true 0x834 v s = teSetSecHi a v s :=
  (if_pos (by decide)).trans (writeReg_secHi v s agent)

/-- What a read leaves. -/
def answered (a : Agent) (b : Bool) (off : Nat) (s : State) : State := { rdEffect a b off s with answer := some (rdValue a b off s) }

end Sys2Proof.Machine

open Sys2Proof Sys2Proof.Machine

/-- Settles O50, by the register that each access reaches. -/
theorem registerAccess : Obligations.RegisterAccess := by
  intro s a b off v up
  refine ⟨fun be part => ?enables, fun lo may => ?stage, ?limit, ?kettle, ?remote, fun lo agent held idle => ?apply,
    fun lo m agent held armed => ?refuse, ?secLo, fun idle none_ => ?secHi, fun lo => ?shadow, fun w high lo held => ?high, ?read⟩
  case enables =>
    have counted : ∀ u, writeReg a false off.toNat be v u = { u with hi := { u.hi with badacc := inc32 u.hi.badacc } } :=
      fun u => by simp [writeReg, show ¬be = 15#4 from part]
    refine completes_state (t := { (if a = hostAgent s then wakeBy 2 s else s) with hi := { s.hi with badacc := inc32 s.hi.badacc } })
      rfl up ((counted _).trans ?_) ?_ rfl
    · split
      · rw [wakeBy_woken]; rfl
      · rfl
    · split
      · rw [wakeBy_woken]; rfl
      · rfl
  case stage =>
    refine completes_agent (f := writeReg a b off.toNat 0xF v) rfl up fun w x => ?_
    rw [writeReg_lo lo may]
    exact ⟨rfl, rfl, rfl, rfl, rfl⟩
  case limit =>
    refine completes_agent (f := writeReg a false 0x7010 0xF v) rfl up fun w x => ?_
    rw [writeReg_limNet]
    rfl
  case kettle =>
    refine completes_agent (f := writeReg a false 0x6104 0xF (v &&& 0x9FFFFFFF)) rfl up fun w x => ?_
    rw [writeReg_kcfg]
    exact (kcfgWrite_en (by simp [bitAt])).trans (by simp [bitAt])
  case remote =>
    refine completes_agent (f := writeReg .remote true off.toNat 0xF v) rfl up fun w x => ?_
    rw [writeReg_remote]
    exact ⟨rfl, rfl, rfl⟩
  case apply =>
    refine completes_agent (f := hiApplied a true 0x834 v) rfl up fun w x => ?_
    have applied := teSetSecHi_idle (a := a) (v := v) (s := s.woken w x) idle
    rw [show (s.woken w x).staging = s.staging from rfl, held] at applied
    rw [hiApplied_sec _ agent]
    exact applied
  case refuse =>
    refine completes_agent (f := hiApplied a true 0x834 v) rfl up fun w x => ?_
    rw [hiApplied_sec _ agent]
    exact teSetSecHi_armed (s := s.woken w x) armed
  case secLo =>
    exact completes_hostDoes (f := fun s => stageLo (hostAgent s) true 0x830 v s) rfl up (fun w x => rfl) fun w x => ⟨pairGet_same .., rfl⟩
  case secHi =>
    refine completes_host (f := fun s => teSetSecHi (hostAgent s) v s) rfl up fun w x => ?_
    have applied := (teSetSecHi_idle (a := hostAgent s) (v := v) (s := s.woken w x) idle).1
    rw [show (s.woken w x).staging = s.staging from rfl, none_] at applied
    exact applied
  case shadow =>
    refine ⟨_, runAgent_next a (answered a b off.toNat) up, ?_⟩
    obtain ⟨u, hu⟩ : ∃ u, u = if a = hostAgent s then wakeBy 2 s else s := ⟨_, rfl⟩
    rw [← hu]
    have filled : (answered a b off.toNat u).shadow = ((a, b, off.toNat), rdLive a b (off.toNat + 4) u) :: pairDrop (a, b, off.toNat) u.shadow :=
      congrArg State.shadow (if_pos lo)
    exact (congrArg (pairGet (a, b, off.toNat)) filled).trans (pairGet_same ..)
  case high =>
    refine completes_agent (f := answered a b off.toNat) rfl up fun w' x => ?_
    obtain ⟨u, hu⟩ : ∃ u, u = s.woken w' x := ⟨_, rfl⟩
    have kept : u.shadow = s.shadow := by rw [hu]; rfl
    rw [← hu, answered, rdValue, if_pos ⟨high, lo⟩, kept, held, Option.getD_some]
  case read =>
    refine completes_agent (f := answered a false 0x7010) rfl up fun w x => ?_
    have single : isLo false 0x7010 = false := by decide
    have effect : rdEffect a false 0x7010 (s.woken w x) = s.woken w x := by simp [rdEffect, single]
    have value : rdValue a false 0x7010 (s.woken w x) = s.cx.limNet := by
      rw [rdValue, if_neg (by decide)]
      simp [rdLive, rdBar0, rdCx, State.woken]
    rw [answered, effect, value]
    exact ⟨rfl, rfl⟩

end


section
/-! The management subsystem's own actions (18 R558 to R569, R575, R576, R582). -/
namespace Sys2Proof.Machine

/-! ### Actions on units (18 R562 to R564) -/

/-- An action on a unit leaves the enable of every port as it was, or clears it. -/
theorem portDisable_pctrl (p : Nat) (byMss : Bool) (s : State) (q : Nat) : (portS (portDisable p byMss s) q).pctrl =
    if p = q ∧ q < 3 then (portS s q).pctrl &&& ~~~1 else (portS s q).pctrl := by
  have cleared : (portS (updPort p (fun y => { y with pctrl := y.pctrl &&& ~~~1 }) s) q).pctrl =
      if p = q ∧ q < 3 then (portS s q).pctrl &&& ~~~1 else (portS s q).pctrl := by
    rw [portS_updPort]
    split <;> rfl
  have off : ∀ u, (portS (portOff p u) q).pctrl = (portS u q).pctrl := by
    intro u
    simp only [portOff, portS_framesOffPort, portS_raise, portS_updPortX, portS_updPort]
    split <;> rfl
  unfold portDisable
  extract_lets was asked
  split
  · exact cleared
  split
  · exact cleared
  · exact (off asked).trans cleared

theorem clearUnit_port {u : Nat} (port : u ≤ 6) (s : State) (q : Nat) : (portS (clearUnit u s) q).pctrl =
    if u - 4 = q ∧ q < 3 then (portS s q).pctrl &&& ~~~1 else (portS s q).pctrl := by
  rw [clearUnit, if_pos port, portDisable_pctrl]

theorem clearUnit_core {u : Nat} (core : ¬u ≤ 6) (s : State) : (clearUnit u s).afe = s.afe := by
  rw [clearUnit, if_neg core]
  exact (coreEnables_keeps ..).afe_eq rfl

theorem forceUnit_unit (u cause sensor : Nat) (hw : Bool) (s : State) :
    (forceUnit u cause sensor hw s).afe = (clearUnit u s).afe ∧ (forceUnit u cause sensor hw s).cx = (clearUnit u s).cx := by
  unfold forceUnit
  extract_lets -merge +onlyGivenNames a cleared _ noted p
  split
  · exact ⟨raise_afe .., raise_cx ..⟩
  · exact ⟨raiseMss_afe .., raiseMss_cx ..⟩

/-- One unit of a trip (18 R564). -/
def tripUnit (cause sensor : Nat) (s : State) (u : Nat) : State := if unitEnabled s u then forceUnit u cause sensor true s else s

theorem bit_cleared (w : Word) : bitAt (w &&& ~~~1) 0 = false := by simp [bitAt]

/-- A port that is not enabled stays so. -/
theorem tripUnit_stays {cause sensor : Nat} {s : State} {q : Nat} (off : bitAt (portS s q).pctrl 0 = false) (u : Nat) :
    bitAt (portS (tripUnit cause sensor s u) q).pctrl 0 = false := by
  unfold tripUnit
  split
  · rw [portS_congr (forceUnit_unit ..).1]
    by_cases port : u ≤ 6
    · rw [clearUnit_port port]
      split
      · exact bit_cleared _
      · exact off
    · rw [portS_congr (clearUnit_core port s), off]
  · exact off

theorem tripUnits_stay {cause sensor : Nat} {q : Nat} : (l : List Nat) → (s : State) → bitAt (portS s q).pctrl 0 = false →
    bitAt (portS (l.foldl (tripUnit cause sensor) s) q).pctrl 0 = false
  | [], _, off => off
  | u :: l, _, off => tripUnits_stay l _ (tripUnit_stays off u)

/-- The ports among the units of a trip are not enabled after it. -/
theorem tripUnits_off {cause sensor : Nat} {p : Fin 3} (l : List Nat) (s : State) (inside : p.val + 4 ∈ l) :
    bitAt (portS (l.foldl (tripUnit cause sensor) s) p.val).pctrl 0 = false := by
  induction l generalizing s with
  | nil => exact absurd inside List.not_mem_nil
  | cons u l ih =>
    by_cases here : p.val + 4 = u
    · refine tripUnits_stay l _ ?_
      have port : u ≤ 6 := by omega
      unfold tripUnit
      split
      · rw [portS_congr (forceUnit_unit ..).1, clearUnit_port port, if_pos ⟨by omega, p.isLt⟩]
        exact bit_cleared _
      · next off =>
        rw [unitEnabled, if_pos port, show u - 4 = p.val by omega] at off
        exact Bool.eq_false_iff.mpr off
    · exact ih _ ((List.mem_cons.mp inside).resolve_left here)

theorem dispatchJobs_coreEn : (n : Nat) → (s : State) → (dispatchJobs n s).cx.coreEn = s.cx.coreEn
  | 0, _ => rfl
  | n + 1, s => by
    unfold dispatchJobs
    split
    · exact (dispatchJobs_coreEn n _).trans rfl
    · rfl

theorem coreEnables_coreEn (en : BitVec 4) (s : State) : (coreEnables en s).cx.coreEn = en := by
  unfold coreEnables
  generalize List.range 4 = cores
  extract_lets -merge +onlyGivenNames _ written each
  have hEach : each.cx.coreEn = written.cx.coreEn := by
    refine foldl_kept (g := fun s => s.cx.coreEn) (fun s c => ?_) cores written
    dsimp only
    split <;> rfl
  have check : (noCoreCheck each).cx.coreEn = each.cx.coreEn := by
    unfold noCoreCheck
    split
    · rfl
    split
    · rfl
    · rw [raise_cx]
  rw [dispatchAll, dispatchJobs_coreEn, check, hEach]

/-- The cores' enables after one unit of a trip. -/
theorem tripUnit_coreEn (cause sensor : Nat) (s : State) (c : Fin 4) {u : Nat} (unit : u = 0x20 + c.val) :
    (tripUnit cause sensor s u).cx.coreEn = s.cx.coreEn &&& ~~~ BitVec.ofNat 4 (2 ^ c.val) := by
  subst unit
  have core : ¬0x20 + c.val ≤ 6 := by omega
  have index : 0x20 + c.val - 0x20 = c.val := Nat.add_sub_cancel_left ..
  have same : ∀ (x : BitVec 4) (c : Fin 4), x.getLsbD c.val = false → x = x &&& ~~~ BitVec.ofNat 4 (2 ^ c.val) := by decide
  unfold tripUnit
  split
  · rw [(forceUnit_unit ..).2, clearUnit, if_neg core, coreEnables_coreEn, index]
  · next off =>
    rw [unitEnabled, if_neg core, index] at off
    exact same _ c (Bool.eq_false_iff.mpr off)

theorem tripUnit_port (cause sensor : Nat) (s : State) {u : Nat} (port : u ≤ 6) : (tripUnit cause sensor s u).cx = s.cx := by
  unfold tripUnit
  split
  · rw [(forceUnit_unit ..).2, clearUnit, if_pos port, (portDisable_keeps ..).cx_eq rfl]
  · rfl

/-- A trip by temperature: no port is enabled after it, and of the cores the first alone, where it was. -/
theorem tripAll_temp (sensor : Nat) (s : State) :
    (∀ p : Fin 3, bitAt (portS ([4, 5, 6, 0x21, 0x22, 0x23].foldl (tripUnit 1 sensor) s) p.val).pctrl 0 = false) ∧
    ([4, 5, 6, 0x21, 0x22, 0x23].foldl (tripUnit 1 sensor) s).cx.coreEn = s.cx.coreEn &&& 1 := by
  have inside : ∀ p : Fin 3, p.val + 4 ∈ [4, 5, 6, 0x21, 0x22, 0x23] := by decide
  have left : ∀ x : BitVec 4, x &&& ~~~ BitVec.ofNat 4 (2 ^ (1 : Fin 4).val) &&& ~~~ BitVec.ofNat 4 (2 ^ (2 : Fin 4).val) &&&
      ~~~ BitVec.ofNat 4 (2 ^ (3 : Fin 4).val) = x &&& 1 := by decide
  refine ⟨fun p => tripUnits_off _ _ (inside p), ?_⟩
  simp only [List.foldl_cons, List.foldl_nil]
  rw [tripUnit_coreEn (u := 0x23) 1 sensor _ 3 rfl, tripUnit_coreEn (u := 0x22) 1 sensor _ 2 rfl, tripUnit_coreEn (u := 0x21) 1 sensor _ 1 rfl,
    tripUnit_port _ _ _ (by decide),
    tripUnit_port _ _ _ (by decide), tripUnit_port _ _ _ (by decide), left]

/-! ### The unit views (18 R565, R566) -/

/-- What the hardware state and the view of a unit follow from. -/
structure SameUnits (s t : State) : Prop where
  resets : t.lg.resets = s.lg.resets
  afe : t.afe = s.afe
  cx : t.cx = s.cx
  mss : t.mss = s.mss
  acts : t.mssx.acts = s.mssx.acts
  view : t.mssx.view = s.mssx.view
  now : t.now = s.now

theorem SameUnits.hwState {s t : State} (h : SameUnits s t) (u : Nat) : hwState t u = hwState s u := by
  simp only [Machine.hwState, actedOn, portS, coreAt, mssUp, h.resets, h.afe, h.cx, h.mss, h.acts]
  rfl

theorem SameUnits.viewOf {s t : State} (h : SameUnits s t) (u : Nat) : viewOf t u = viewOf s u := by
  rw [Machine.viewOf, h.view]
  rfl

/-- One comparison leaves the units, and the differences of the others. -/
theorem compareUnit_leaves (s : State) (u : Nat) : SameUnits s (compareUnit s u) ∧
    ∀ m : Nat × Nat × Bool, m.1 ≠ u → (m ∈ (compareUnit s u).mssx.mism ↔ m ∈ s.mssx.mism) := by
  have others : ∀ (l : List (Nat × Nat × Bool)) x, x.1 = u → ∀ m : Nat × Nat × Bool, m.1 ≠ u →
      (m ∈ (l.filter fun m => decide (m.1 ≠ u)) ++ [x] ↔ m ∈ l) := by
    intro l x here m other
    have new : m ≠ x := fun same => other (same ▸ here)
    simp [other, new]
  unfold compareUnit
  extract_lets h v rest
  split
  · refine ⟨⟨rfl, rfl, rfl, rfl, rfl, rfl, rfl⟩, fun m other => ?_⟩
    simp [rest, other]
  split
  · exact ⟨⟨rfl, rfl, rfl, rfl, rfl, rfl, rfl⟩, fun m other => others _ _ rfl m other⟩
  · next m found =>
    split
    · have told := raised_raiseMss 0x0903 u [(0, 1, h), (1, 1, v), (4, 4, mismMs s u)]
        { s with mssx := { s.mssx with mism := rest ++ [(u, m.2.1, true)] } }
      refine ⟨⟨by rw [told.lg], raiseMss_afe .., raiseMss_cx .., raiseMss_mss .., by rw [told.mssx], by rw [told.mssx], raiseMss_now ..⟩, ?_⟩
      rw [told.mssx]
      exact fun m other => others _ _ rfl m other
    · exact ⟨⟨rfl, rfl, rfl, rfl, rfl, rfl, rfl⟩, fun _ _ => Iff.rfl⟩

/-- A unit whose views agree has no difference noted after its comparison. -/
theorem compareUnit_agrees {s : State} {u : Nat} (agree : hwState s u = viewOf s u) (m : Nat × Nat × Bool) (here : m.1 = u) :
    m ∉ (compareUnit s u).mssx.mism := by
  have compared : compareUnit s u = { s with mssx := { s.mssx with mism := s.mssx.mism.filter fun m => decide (m.1 ≠ u) } } := if_pos agree
  rw [compared]
  simp [here]

/-- One whose views differ, not noted before, is noted from now. -/
theorem compareUnit_differs {s : State} {u : Nat} (differ : hwState s u ≠ viewOf s u)
    (fresh : ∀ m ∈ s.mssx.mism, m.1 ≠ u) : (u, s.now, false) ∈ (compareUnit s u).mssx.mism := by
  have none_ : (s.mssx.mism.find? fun m => decide (m.1 = u)) = none :=
    List.find?_eq_none.mpr fun m hm => by simpa using fresh m hm
  unfold compareUnit
  simp only [if_neg differ, none_]
  simp

theorem compared_others {u : Nat} : (l : List Nat) → (s : State) → u ∉ l →
    ∀ m : Nat × Nat × Bool, m.1 = u → (m ∈ (l.foldl compareUnit s).mssx.mism ↔ m ∈ s.mssx.mism)
  | [], _, _ => fun _ _ => Iff.rfl
  | v :: l, s, outside => fun m here => by
    obtain ⟨other, rest⟩ := not_or.mp (List.mem_cons.not.mp outside)
    exact (compared_others l _ rest m here).trans ((compareUnit_leaves s v).2 m (fun same => other (here ▸ same)))

/-- The comparison of a list of units, each once. -/
theorem compared {u : Nat} (l : List Nat) (s : State) (once : l.Nodup) (inside : u ∈ l) :
    (hwState s u = viewOf s u → ∀ m ∈ (l.foldl compareUnit s).mssx.mism, m.1 ≠ u) ∧
    (hwState s u ≠ viewOf s u → (∀ m ∈ s.mssx.mism, m.1 ≠ u) → (u, s.now, false) ∈ (l.foldl compareUnit s).mssx.mism) := by
  induction l generalizing s with
  | nil => exact absurd inside List.not_mem_nil
  | cons v l ih =>
    obtain ⟨notAgain, once⟩ := List.nodup_cons.mp once
    by_cases here : u = v
    · subst here
      have rest := compared_others l (compareUnit s u) notAgain
      exact ⟨fun agree m noted same => compareUnit_agrees agree m same ((rest m same).mp noted),
        fun differ fresh => (rest _ rfl).mpr (compareUnit_differs differ fresh)⟩
    · obtain ⟨same, others⟩ := compareUnit_leaves s v
      have later := ih (compareUnit s v) once ((List.mem_cons.mp inside).resolve_left here)
      rw [same.hwState, same.viewOf, same.now] at later
      refine ⟨later.1, fun differ fresh => later.2 differ fun m noted own => ?_⟩
      exact fresh m ((others m (fun v_ => here (own ▸ v_))).mp noted) own

/-! ### Boots and restarts (18 R573 to R576) -/

/-- What a boot leaves of the subsystem's registers. -/
structure Booted (s t : State) : Prop where
  mail : t.mss.mail = s.mss.mail
  sess : t.mss.sess = s.mss.sess
  cause : t.mss.startCause = s.mss.startCause
  at_ : t.mss.bootAt = s.mss.bootAt
  st : t.mss.st = s.mss.st ∨ t.mss.st = 3

theorem Booted.trans {s t u : State} (h : Booted s t) (k : Booted t u) : Booted s u :=
  ⟨k.mail.trans h.mail, k.sess.trans h.sess, k.cause.trans h.cause, k.at_.trans h.at_,
    k.st.elim (fun same => same ▸ h.st) .inr⟩

theorem booted_bootActive (s : State) : Booted s (bootActive s) ∧ (bootActive s).mss.trial = false ∧
    (bootActive s).mss.updateDue = s.mss.updateDue ∧ (bootActive s).mssx = s.mssx := by
  unfold bootActive
  extract_lets -merge +onlyGivenNames a _ u
  split
  · exact ⟨⟨rfl, rfl, rfl, rfl, .inl rfl⟩, rfl, rfl, rfl⟩
  split
  · exact ⟨⟨rfl, rfl, rfl, rfl, .inl rfl⟩, rfl, rfl, rfl⟩
  · exact ⟨⟨rfl, rfl, rfl, rfl, .inr rfl⟩, rfl, rfl, rfl⟩

theorem booted_trialFallback (outcome : Nat) (s : State) : Booted s (trialFallback outcome s) := by
  unfold trialFallback
  extract_lets -merge +onlyGivenNames slot written _ told
  have hTold : Booted s told := ⟨rfl, rfl, rfl, rfl, .inl rfl⟩
  exact hTold.trans (booted_bootActive told).1

theorem booted_bootRom (s : State) : Booted s (bootRom s) := by
  have written : Booted s (bootWrite (fun b => { b with tries := 0 }) s) := ⟨rfl, rfl, rfl, rfl, .inl rfl⟩
  unfold bootRom
  extract_lets b w
  split
  · split
    · split
      · exact ⟨rfl, rfl, rfl, rfl, .inl rfl⟩
      · exact written.trans (booted_trialFallback ..)
    · exact booted_trialFallback ..
  · exact (booted_bootActive s).1

theorem mssRestart_mss (cause unitCause : Nat) (byHost : Bool) (s : State) :
    (mssRestart cause unitCause byHost s).mss.startCause = (if cause = 1 then 2 else if cause = 3 then 3 else 1) ∧
    (mssRestart cause unitCause byHost s).mss.mail = [] ∧ (mssRestart cause unitCause byHost s).mss.sess = none ∧
    (mssRestart cause unitCause byHost s).mss.bootAt = s.now ∧
    ((mssRestart cause unitCause byHost s).mss.st = 2 ∨ (mssRestart cause unitCause byHost s).mss.st = 3) := by
  unfold mssRestart
  extract_lets -merge +onlyGivenNames told _ closed ds start _ restarted reset ended
  have hSess : closed.mss.sess = none := by
    unfold closed
    split
    · rfl
    · next none_ => exact none_
  have hNow : closed.now = s.now := by
    have now : told.now = s.now := raiseMss_now ..
    unfold closed
    split
    · exact now
    · exact now
  have hReset : reset.mss = restarted.mss := (resetBegin_keeps ..).mss_eq rfl
  have hEnded : ended.mss = restarted.mss := (foldl_kept (g := State.mss) (fun _ _ => (finish_keeps ..).mss_eq rfl) ds reset).trans hReset
  have hSettled : (resetsSettle (bootRom ended)).mss = (bootRom ended).mss := (resetsSettle_keeps _).mss_eq rfl
  obtain ⟨mail, sess, cause_, at_, st⟩ := booted_bootRom ended
  rw [hEnded] at mail sess cause_ at_ st
  rw [hSettled]
  exact ⟨cause_, mail, sess.trans hSess, at_.trans hNow, st⟩

/-- A trial boot in time is given up: the boot ROM boots ACTIVE. -/
theorem trialFallback_boot (outcome : Nat) {s : State} (counts : bootCounts s = true) :
    bootState (trialFallback outcome s) = nextCopy (fun b => { b with pending := false, tries := 0 }) s ∧
    (trialFallback outcome s).mss.bootAt = s.mss.bootAt ∧ (trialFallback outcome s).mss.trial = false ∧
    (trialFallback outcome s).mss.updateDue = s.mss.updateDue ++ [(5, outcome, imageSlot !(bootState s).active)] := by
  unfold trialFallback
  extract_lets -merge +onlyGivenNames slot written _ told
  obtain ⟨booted, trial, due, mssx⟩ := booted_bootActive told
  refine ⟨?_, booted.at_, trial, due⟩
  exact (bootState_congr (by rw [mssx])).trans (bootState_bootWrite _ counts)

/-- A port's enable is restored. -/
theorem restoreUnit_port {u : Nat} (low : 4 ≤ u) (high : u ≤ 6) (s : State) :
    bitAt (portS (restoreUnit u s) (u - 4)).pctrl 0 = true ∧ (restoreUnit u s).mssx = s.mssx := by
  rw [restoreUnit, if_pos high]
  refine ⟨?_, rfl⟩
  rw [portS_updPortX, portS_updPort, if_pos ⟨rfl, by omega⟩]
  simp [bitAt]

end Sys2Proof.Machine

open Sys2Proof Sys2Proof.Machine

/-- Settles O45, by what each of the subsystem's own commands comes down to. -/
theorem management : Obligations.Management := by
  intro s up
  refine ⟨fun i v mup known readable value => ?sample, fun i a here mup clear host low high => ?restore, fun i a here mup clear host => ?host,
    ?vdda, ?temp, fun mup awake => ?views, fun l r buf room none_ => ?log, fun loaded running => ?watchdog, fun trial down counts => ?trial,
    fun v set_ => ?lock⟩
  case sample =>
    have read := sensTake_read readable value
    rw [← sensAt_forcedScan (sensTake i v s)] at read
    exact completes_does rfl up (if_pos (by simp [mup, known])) read
  case restore =>
    obtain ⟨u, hu⟩ : ∃ u, u = { s with mssx := { s.mssx with acts := s.mssx.acts.filter fun b => decide (b ≠ a) } } := ⟨_, rfl⟩
    obtain ⟨on, kept⟩ := restoreUnit_port low high u
    refine completes_does (t := raiseMss 0x0905 a.unit [(0, 1, 3), (1, 1, a.cause), (2, 1, a.sensor)] (setView a.unit 1 (restoreUnit a.unit u)))
      rfl up ?_ ⟨?_, ?_⟩
    · simp only [here]
      rw [hu]
      exact (if_pos (by simp [mup, clear])).trans (if_neg (by simp [host]))
    · rw [portS_congr (raiseMss_afe ..)]
      exact on
    · rw [(mssKept_raiseMss ..)]
      exact (congrArg MssX.acts kept).trans (by rw [hu])
  case host =>
    refine completes_does (t := { s with mssx := { s.mssx with acts := s.mssx.acts.filter fun b => decide (b ≠ a) } }) rfl up ?_ ⟨rfl, rfl, rfl⟩
    simp only [here]
    exact (if_pos (by simp [mup, clear])).trans (if_pos host)
  case vdda =>
    exact completes_does (t := [4, 5, 6].foldl (tripUnit 2 4) s) rfl up rfl fun p => tripUnits_off _ _ (by revert p; decide)
  case temp =>
    match hot : dieHot s (hwTripTemp s) with
    | some i =>
      refine completes_does (t := [4, 5, 6, 0x21, 0x22, 0x23].foldl (tripUnit 1 i) s) rfl up ?_ (tripAll_temp i s)
      simp only [hot]
      rfl
    | none =>
      refine completes_does (t := [4, 5, 6, 0x21, 0x22, 0x23].foldl (tripUnit 1 ((draw s).1.toNat % 3)) (draw s).2) rfl up ?_
        (tripAll_temp _ (draw s).2)
      simp only [hot]
      rfl
  case views =>
    refine completes_does (t := units.foldl compareUnit s) rfl up (if_pos (by simp [mup, awake])) fun u inside => ?_
    obtain ⟨agree, differ⟩ := compared units s (by decide) inside
    refine ⟨fun same => ?_, fun other fresh => differ other fun m noted => ?_⟩
    · simpa using agree same
    · simpa using List.any_eq_false.mp fresh m noted
  case log =>
    have free : ¬(s.mssx.logSeq.toNat % 64 = 0 ∧ 4096 < s.mssx.log.length + 64) := by
      rintro ⟨sector, full⟩
      exact room.elim (fun h => h sector) (fun h => absurd h (Nat.not_le.mpr full))
    refine completes_does (t := { s with mssx := { s.mssx with
      logBuf := r, log := s.mssx.log ++ [{ l with seq := s.mssx.logSeq }], logSeq := s.mssx.logSeq + 1 } }) rfl up ?_ rfl
    simp only [buf, logProgram, if_neg free]
    exact if_neg (by simp [none_])
  case watchdog =>
    obtain ⟨cause, mail, sess, at_, st⟩ := mssRestart_mss 3 2 false s
    exact completes_does rfl up (if_pos ⟨loaded, running⟩) ⟨cause, mail, sess, at_, st⟩
  case trial =>
    obtain ⟨boot, at_, done, due⟩ := trialFallback_boot 0x10 (s := { s with mss := { s.mss with bootAt := s.now } }) counts
    refine completes_does (t := trialFallback 0x10 { s with mss := { s.mss with bootAt := s.now } }) rfl up
      (if_pos (by simp [trial, down])) ⟨by rw [boot]; rfl, by rw [boot]; rfl, at_, done, ?_⟩
    rw [due]
    exact List.mem_append_right _ (List.mem_singleton.mpr rfl)
  case lock =>
    refine completes_host (f := mssCtrlWrite v) rfl up fun w x => ?_
    show { s.mss with lock := s.mss.lock || bitAt v 0 } = _
    rw [set_, Bool.or_true]

end


section
/-! The rings: their configuration and their doorbells (15 R478 to R486, R498). -/
namespace Sys2Proof.Machine

/-! ### Fields of a masked word -/

/-- A mask that is 1 in every bit of a field leaves the field. -/
theorem fld_and {w m : Word} {lo len : Nat} (all : fld m lo len = 2 ^ len - 1) : fld (w &&& m) lo len = fld w lo len := by
  apply Nat.eq_of_testBit_eq
  intro j
  have bit : (fld m lo len).testBit j = decide (j < len) := by rw [all, Nat.testBit_two_pow_sub_one]
  rw [fld_testBit] at bit
  rw [fld_testBit, fld_testBit]
  by_cases inside : j < len
  · simp only [inside, decide_true, Bool.true_and] at bit ⊢
    simp only [bitAt, BitVec.getLsbD_and] at bit ⊢
    rw [bit, Bool.and_true]
  · simp [inside]

theorem oneFld_same {w : Word} {lo len : Nat} (set_ : fld w lo len ≠ 0) : oneFld w lo len = w := if_neg set_

/-- The fields of HI_SQn_CFG, HI_CQn_CFG and EV_CFG that a write keeps. -/
theorem sqCfg_fields (v : Word) : bitAt (v &&& 0x833F001F) 31 = bitAt v 31 ∧ fld (v &&& 0x833F001F) 0 5 = fld v 0 5 ∧
    fld (v &&& 0x833F001F) 16 4 = fld v 16 4 ∧ fld (v &&& 0x833F001F) 24 2 = fld v 24 2 :=
  ⟨by simp [bitAt], fld_and (by decide), fld_and (by decide), fld_and (by decide)⟩

theorem cqCfg_fields (v : Word) : bitAt (v &&& 0x8FFFFF1F) 31 = bitAt v 31 ∧ fld (v &&& 0x8FFFFF1F) 0 5 = fld v 0 5 ∧
    fld (v &&& 0x8FFFFF1F) 8 8 = fld v 8 8 ∧ fld (v &&& 0x8FFFFF1F) 16 12 = fld v 16 12 :=
  ⟨by simp [bitAt], fld_and (by decide), fld_and (by decide), fld_and (by decide)⟩

theorem cqCfg_one {v : Word} (set_ : fld v 8 8 ≠ 0) : oneFld (v &&& 0x8FFFFF1F) 8 8 = v &&& 0x8FFFFF1F :=
  oneFld_same (by rw [(cqCfg_fields v).2.2.1]; exact set_)

/-! ### Refusals and vectors of rings -/

theorem hiRefuse_hi (cause : Nat) (cq : Bool) (ring : Nat) (s : State) : (hiRefuse cause cq ring s).hi =
    { s.hi with refused := true, cause := BitVec.ofNat 3 cause, causeCq := cq, causeRing := BitVec.ofNat 4 ring } := raise_hi ..

theorem vupd_vupd {α : Type} {n : Nat} (v : Vector α n) (i : Nat) (f g : α → α) : vupd (vupd v i f) i g = vupd v i fun x => g (f x) := by
  unfold vupd
  by_cases inside : i < n
  · simp [inside]
  · simp [inside]

theorem cqAt_updCq (m k : Nat) (f : Cq → Cq) (s : State) : cqAt (updCq m f s) k = if m = k ∧ k < 16 then f (cqAt s k) else cqAt s k :=
  vget_vupd ..

theorem cqAt_updCq_same (m : Fin 16) (f : Cq → Cq) (s : State) : cqAt (updCq m.val f s) m.val = f (cqAt s m.val) := by
  rw [cqAt_updCq, if_pos ⟨rfl, m.isLt⟩]

/-- What leaves the host interface leaves its rings. -/
theorem cqAt_congr {s t : State} (hi : t.hi = s.hi) (m : Nat) : cqAt t m = cqAt s m := by rw [cqAt, hi, cqAt]
theorem sqAt_congr {s t : State} (hi : t.hi = s.hi) (r : Nat) : sqAt t r = sqAt s r := by rw [sqAt, hi, sqAt]

theorem ringFault_hi (cq : Bool) (r fcause v : Nat) (s : State) : (ringFault cq r fcause v s).hi = s.hi := raise_hi ..

/-! ### Rings enabled and disabled (15 R478 to R480) -/

theorem baseOk_pcie {s : State} {base align entries : Nat} (pcie : s.cln.hostmode = false) (aligned : base % align = 0) :
    baseOk s base align entries = true := by
  simp [baseOk, regionOk, pcie, aligned]

theorem sizeOk_iff {v : Word} {lo : Nat} : sizeOk v lo = true ↔ lo ≤ fld v 0 5 ∧ fld v 0 5 ≤ 16 := by simp [sizeOk]

theorem sqEnableCause_none {s : State} {n : Nat} {w : Word} (pcie : s.cln.hostmode = false) (aligned : (sqAt s n).base.toNat % 64 = 0)
    (size : 4 ≤ fld w 0 5 ∧ fld w 0 5 ≤ 16) (cq : (cqAt s (fld w 16 4)).st = .running) (cls : fld w 24 2 ≠ 3) :
    sqEnableCause s n w = none := by
  have base := baseOk_pcie (entries := 2 ^ fld w 0 5) pcie aligned
  have sized := sizeOk_iff.mpr size
  simp [sqEnableCause, base, sized, cq, sqClass, cls]

theorem sqEnableCause_size {s : State} {n : Nat} {w : Word} (pcie : s.cln.hostmode = false) (aligned : (sqAt s n).base.toNat % 64 = 0)
    (size : fld w 0 5 < 4 ∨ 16 < fld w 0 5) : sqEnableCause s n w = some 2 := by
  have base := baseOk_pcie (entries := 2 ^ fld w 0 5) pcie aligned
  have sized : sizeOk w 4 = false := Bool.eq_false_iff.mpr fun ok => by
    have := sizeOk_iff.mp ok
    omega
  simp [sqEnableCause, base, sized]

theorem sqEnableCause_cq {s : State} {n : Nat} {w : Word} (pcie : s.cln.hostmode = false) (aligned : (sqAt s n).base.toNat % 64 = 0)
    (size : 4 ≤ fld w 0 5 ∧ fld w 0 5 ≤ 16) (cq : (cqAt s (fld w 16 4)).st ≠ .running) : sqEnableCause s n w = some 4 := by
  have base := baseOk_pcie (entries := 2 ^ fld w 0 5) pcie aligned
  have sized := sizeOk_iff.mpr size
  simp [sqEnableCause, base, sized, cq]

theorem cqEnableCause_none {s : State} {n : Nat} {w : Word} (pcie : s.cln.hostmode = false) (aligned : (cqAt s n).base.toNat % 16 = 0)
    (size : 4 ≤ fld w 0 5 ∧ fld w 0 5 ≤ 16) : cqEnableCause s n w = none := by
  have base := baseOk_pcie (entries := 2 ^ fld w 0 5) pcie aligned
  have sized := sizeOk_iff.mpr size
  simp [cqEnableCause, base, sized]

theorem onlyClears_iff {old new : Word} : onlyClears old new = true ↔ bitAt new 31 = false ∧ new.setWidth 31 = old.setWidth 31 := by
  simp [onlyClears]

/-! ### What a write of a ring's configuration does -/

/-- The write of an enabled bit to a ring that is DISABLED. -/
theorem sqCfgWrite_enable {n : Nat} {v : Word} {s : State} (idle : (sqAt s n).st = .disabled) (en : bitAt v 31 = true) :
    sqCfgWrite n v s = match sqEnableCause s n (v &&& 0x833F001F) with
      | some c => hiRefuse c false n s
      | none => updSq n (fun q => { q with cfg := v &&& 0x833F001F, st := .running, read := 0, tail := 0, bell := 0, taken := [] }) s :=
  (if_neg (not_not.mpr idle)).trans ((if_pos (by rw [(sqCfg_fields v).1]; exact en)).trans rfl)

theorem sqCfgWrite_clears {n : Nat} {v : Word} {s : State} (on : (sqAt s n).st ≠ .disabled)
    (clears : onlyClears (sqAt s n).cfg (v &&& 0x833F001F) = true) :
    sqCfgWrite n v s = sqStop n (updSq n (fun q => { q with cfg := v &&& 0x833F001F }) s) := (if_pos on).trans (if_pos clears)

theorem sqCfgWrite_keeps_on {n : Nat} {v : Word} {s : State} (on : (sqAt s n).st ≠ .disabled) (en : bitAt v 31 = true) :
    sqCfgWrite n v s = hiRefuse 3 false n s :=
  (if_pos on).trans (if_neg fun clears => by
    have off := (onlyClears_iff.mp clears).1
    rw [(sqCfg_fields v).1, en] at off
    exact Bool.noConfusion off)

theorem cqCfgWrite_enable {n : Nat} {v : Word} {s : State} (idle : (cqAt s n).st = .disabled) (en : bitAt v 31 = true)
    (pcie : s.cln.hostmode = false) (aligned : (cqAt s n).base.toNat % 16 = 0) (size : 4 ≤ fld v 0 5 ∧ fld v 0 5 ≤ 16) (count : fld v 8 8 ≠ 0) :
    cqCfgWrite n v s = updCq n (fun c => { c with
      cfg := v &&& 0x8FFFFF1F, st := .running, armed := false, head := 0, tail := 0, seq := 1, bell := 0, reserved := 0, written := [] }) s := by
  rw [cqCfgWrite, cqCfg_one count]
  refine (if_neg (not_not.mpr idle)).trans ((if_pos (by rw [(cqCfg_fields v).1]; exact en)).trans ?_)
  rw [cqEnableCause_none pcie aligned (by rw [(cqCfg_fields v).2.1]; exact size)]

theorem cqCfgWrite_clears {n : Nat} {v : Word} {s : State} (on : (cqAt s n).st ≠ .disabled) (count : fld v 8 8 ≠ 0)
    (clears : onlyClears (cqAt s n).cfg (v &&& 0x8FFFFF1F) = true) :
    cqCfgWrite n v s = if cqInUse s n then hiRefuse 5 true n s else cqDisable n (updCq n (fun c => { c with cfg := v &&& 0x8FFFFF1F }) s) := by
  rw [cqCfgWrite, cqCfg_one count]
  exact (if_pos on).trans (if_neg (by rw [clears]; decide))

theorem updSq_sq (n : Nat) (f : Sq → Sq) (s : State) : (updSq n f s).hi.sq = vupd s.hi.sq n f := rfl

theorem sqStop_sq (n : Nat) (w : Word) (s : State) : (sqStop n (updSq n (fun q => { q with cfg := w }) s)).hi.sq = vupd s.hi.sq n (fun q =>
    { q with cfg := w, st := if q.taken.isEmpty then .disabled else .stopping, fcause := 0 }) := by
  rw [sqStop, updSq_sq, updSq_sq, vupd_vupd]

/-- The vector unmasked with a message pending: it is sent (16 R518). -/
theorem msixWrite_unmask {v : Word} {s : State} (unmask : bitAt v 0 = false) (pend : s.msix.pend = true) :
    msixWrite 12 v s = { s with msix := { s.msix with mask := false, pend := false, sent := s.msix.sent + 1 } } := by
  simp [msixWrite, unmask, pend]

/-- A doorbell that takes every record and arms the ring, where nothing is due (15 R484, R498). -/
theorem cqBell_all {n : Fin 16} {v : Word} {s : State} (on : (cqAt s n.val).st = .running) (arm : bitAt v 31 = true)
    (all : fld v 0 16 = (cqAt s n.val).tail) (inRing : (cqAt s n.val).tail < ringSize (cqAt s n.val).cfg)
    (notDue : cqDue { cqAt s n.val with
      head := (cqAt s n.val).tail
      written := (cqAt s n.val).written.drop (ringGap (ringSize (cqAt s n.val).cfg) (cqAt s n.val).head (cqAt s n.val).tail) } s.now = false) :
    (cqAt (cqBell n.val v s) n.val).head = fld v 0 16 ∧ (cqAt (cqBell n.val v s) n.val).armed = true := by
  unfold cqBell
  extract_lets c S h k moved
  have ring : cqAt (giveBack 2 n.val k moved) n.val = { c with
      head := h, bell := v &&& 0x8000FFFF, armed := c.armed || bitAt v 31, written := c.written.drop k } := cqAt_updCq_same n _ s
  have quiet : cqDue (cqAt (giveBack 2 n.val k moved) n.val) s.now = false := by
    rw [ring]
    simp only [k, h, all]
    exact notDue
  have taken : h < S ∧ ringGap S c.head h ≤ ringGap S c.head c.tail := by
    simp only [h, all]
    exact ⟨inRing, Nat.le_refl _⟩
  rw [if_neg (not_not.mpr on), if_pos taken, cqNotify, if_neg, ring]
  · exact ⟨rfl, by simp [arm]⟩
  · exact fun go => Bool.false_ne_true (quiet.symm.trans (Bool.and_eq_true_iff.mp go).2)

theorem cqDisable_cq (m : Fin 16) (s : State) : (cqAt (cqDisable m.val s) m.val).st = .disabled ∧ (cqAt (cqDisable m.val s) m.val).reserved = 0 := by
  have ring : cqAt (cqDisable m.val s) m.val = _ := cqAt_updCq_same m _ s
  rw [ring]
  exact ⟨rfl, rfl⟩

end Sys2Proof.Machine

open Sys2Proof Sys2Proof.Machine

/-- Settles O42, by the outcomes of each ring's configuration and doorbell. -/
theorem rings : Obligations.Rings := by
  intro s n v up
  refine ⟨fun idle en pcie aligned low high cq cls => ?sqOn, fun idle en pcie aligned size => ?sqSize, fun idle en pcie aligned low high cq => ?sqCq,
    fun idle en pcie aligned low high count => ?cqOn, fun on off same => ?sqOff, fun on en => ?sqStays, fun on off count same used => ?cqUsed,
    fun on off count same free => ?cqOff, fun on inRing ahead => ?sqBell, fun on beyond => ?sqFault, fun off => ?sqIdle,
    fun on arm all inRing notDue => ?cqBell, fun on beyond => ?cqFault, fun armed delay some_ => ?delay, fun unmask pend => ?unmask⟩
  case sqOn =>
    obtain ⟨-, size, ring, cls_⟩ := sqCfg_fields v
    refine completes_host (f := ringCfgWrite .sq n.val v) rfl up fun w x => ?_
    have enabled := sqCfgWrite_enable (s := s.woken w x) idle en
    rw [sqEnableCause_none (s := s.woken w x) pcie aligned (by rw [size]; exact ⟨low, high⟩)
      (by rw [ring]; exact cq) (by rw [cls_]; exact cls)] at enabled
    exact congrArg (fun t => t.hi.sq) enabled
  case sqSize =>
    obtain ⟨-, size_, -, -⟩ := sqCfg_fields v
    refine completes_host (f := ringCfgWrite .sq n.val v) rfl up fun w x => ?_
    have refused := sqCfgWrite_enable (s := s.woken w x) idle en
    rw [sqEnableCause_size (s := s.woken w x) pcie aligned (by rw [size_]; exact size)] at refused
    rw [show ringCfgWrite .sq n.val v (s.woken w x) = _ from refused, hiRefuse_hi]
    exact ⟨rfl, rfl, rfl, rfl, rfl⟩
  case sqCq =>
    obtain ⟨-, size, ring, -⟩ := sqCfg_fields v
    refine completes_host (f := ringCfgWrite .sq n.val v) rfl up fun w x => ?_
    have refused := sqCfgWrite_enable (s := s.woken w x) idle en
    rw [sqEnableCause_cq (s := s.woken w x) pcie aligned (by rw [size]; exact ⟨low, high⟩) (by rw [ring]; exact cq)] at refused
    rw [show ringCfgWrite .sq n.val v (s.woken w x) = _ from refused, hiRefuse_hi]
    exact ⟨rfl, rfl, rfl⟩
  case cqOn =>
    exact completes_hostDoes (f := ringCfgWrite .cq n.val v) rfl up
      (fun w x => cqCfgWrite_enable (s := s.woken w x) idle en pcie aligned ⟨low, high⟩ count) fun w x => rfl
  case sqOff =>
    have clears : onlyClears (sqAt s n.val).cfg (v &&& 0x833F001F) = true := onlyClears_iff.mpr ⟨by rw [(sqCfg_fields v).1, off], same⟩
    exact completes_hostDoes (f := ringCfgWrite .sq n.val v) rfl up (fun w x => sqCfgWrite_clears (s := s.woken w x) on clears)
      fun w x => sqStop_sq ..
  case sqStays =>
    refine completes_hostDoes (f := ringCfgWrite .sq n.val v) rfl up (fun w x => sqCfgWrite_keeps_on (s := s.woken w x) on en) fun w x => ?_
    rw [hiRefuse_hi]
    exact ⟨rfl, rfl, rfl⟩
  case cqUsed =>
    have clears : onlyClears (cqAt s n.val).cfg (v &&& 0x8FFFFF1F) = true := onlyClears_iff.mpr ⟨by rw [(cqCfg_fields v).1, off], same⟩
    refine completes_hostDoes (f := ringCfgWrite .cq n.val v) rfl up
      (fun w x => (cqCfgWrite_clears (s := s.woken w x) on count clears).trans (if_pos used)) fun w x => ?_
    rw [hiRefuse_hi]
    exact ⟨rfl, rfl, rfl⟩
  case cqOff =>
    have clears : onlyClears (cqAt s n.val).cfg (v &&& 0x8FFFFF1F) = true := onlyClears_iff.mpr ⟨by rw [(cqCfg_fields v).1, off], same⟩
    exact completes_hostDoes (f := ringCfgWrite .cq n.val v) rfl up
      (fun w x => (cqCfgWrite_clears (s := s.woken w x) on count clears).trans (if_neg (Bool.eq_false_iff.mp free))) fun w x => cqDisable_cq ..
  case sqBell =>
    exact completes_hostDoes (f := sqBell n.val v) rfl up (fun w x => (if_neg (not_not.mpr on)).trans (if_pos ⟨inRing, ahead⟩)) fun w x => rfl
  case sqFault =>
    exact completes_hostDoes (f := sqBell n.val v) rfl up
      (fun w x => (if_neg (not_not.mpr on)).trans (if_neg fun h => absurd h.1 (Nat.not_lt.mpr beyond))) fun w x => ringFault_hi ..
  case sqIdle => exact completes_hostDoes (f := sqBell n.val v) rfl up (fun w x => if_pos off) fun w x => rfl
  case cqBell =>
    exact completes_host (f := cqBell n.val v) rfl up fun w x => cqBell_all (s := s.woken w x) on arm all inRing notDue
  case cqFault =>
    refine completes_hostDoes (f := cqBell n.val v) rfl up
      (fun w x => (if_neg (not_not.mpr on)).trans (if_neg fun h => absurd h.1 (Nat.not_lt.mpr beyond))) fun w x => ?_
    rw [cqAt_congr (ringFault_hi ..), cqAt_updCq_same]
  case delay =>
    exact completes_does (t := cqFire n.val s) rfl up (if_pos (by simp [armed, delay, some_])) (raise_hi ..)
  case unmask =>
    refine completes_host (f := msixWrite 12 v) rfl up fun w x => ?_
    rw [msixWrite_unmask (s := s.woken w x) unmask pend]
    rfl

end


section
/-! The event ring's configuration, doorbell and records (16 R512 to R521), and the ledgers (17 R532, R533, R541, R542). -/
namespace Sys2Proof.Machine

/-! ### What an event leaves of EV_STAT's refusal -/

/-- The refusal of the last refused write stands. -/
def RefusalKept (s t : State) : Prop := t.ev.refused = s.ev.refused ∧ t.ev.cause = s.ev.cause

theorem RefusalKept.trans {s t u : State} (h : RefusalKept s t) (k : RefusalKept t u) : RefusalKept s u :=
  ⟨k.1.trans h.1, k.2.trans h.2⟩

theorem refusalKept_evNotify (s : State) : RefusalKept s (evNotify s) := by
  unfold evNotify
  split <;> exact ⟨rfl, rfl⟩

theorem refusalKept_evWrite (r : EvRec) (s : State) : RefusalKept s (evWrite r s) := by
  unfold evWrite
  extract_lets e written advanced
  exact RefusalKept.trans (t := issue 3 0 1 (logMark (fun l => decide (l.evseq = r.seq)) advanced)) ⟨rfl, rfl⟩ (refusalKept_evNotify _)

theorem refusalKept_raiseRaw (code source : Nat) (sec ns : Word) (p : BitVec 128) (s : State) :
    RefusalKept s (raiseRaw code source sec ns p s) := by
  have formed : RefusalKept s (evForm code source sec ns p s).2 := ⟨rfl, rfl⟩
  unfold raiseRaw
  split
  · exact ⟨rfl, rfl⟩
  · exact ⟨rfl, rfl⟩
  · dsimp only
    split
    · exact formed.trans (refusalKept_evWrite ..)
    · exact ⟨rfl, rfl⟩

theorem refusalKept_raise (code inst : Nat) (fs : List (Nat × Nat × Nat)) (s : State) : RefusalKept s (raise code inst fs s) := by
  unfold raise raiseP raiseAt
  extract_lets logged_
  refine RefusalKept.trans (t := logged_) ?_ (refusalKept_raiseRaw ..)
  unfold logged_
  split
  · rw [RefusalKept, logAdd_ev]
    exact ⟨rfl, rfl⟩
  · exact ⟨rfl, rfl⟩

/-- A refused write (16 R513). -/
theorem evRefuse_ev (cause : Nat) (s : State) : (evRefuse cause s).ev.refused = true ∧ (evRefuse cause s).ev.cause = BitVec.ofNat 3 cause ∧
    (evRefuse cause s).ev.st = s.ev.st ∧ (evRefuse cause s).ev.cfg = s.ev.cfg := by
  have raised := raised_raise 0x0D05 0xFF [(0, 1, cause), (3, 1, 1)] { s with ev := { s.ev with refused := true, cause := BitVec.ofNat 3 cause } }
  have kept := refusalKept_raise 0x0D05 0xFF [(0, 1, cause), (3, 1, 1)] { s with ev := { s.ev with refused := true, cause := BitVec.ofNat 3 cause } }
  exact ⟨kept.1, kept.2, raised.st, raised.cfg⟩

/-! ### Records written (16 R514, R521) -/

/-- A record written while the ring's notification is not armed. -/
theorem evWrite_quiet (r : EvRec) {s : State} (quiet : s.ev.armed = false) :
    (evWrite r s).ev = { s.ev with tail := (s.ev.tail + 1) % ringSize s.ev.cfg, written := s.ev.written ++ [s.now] } ∧
    (evWrite r s).hostMem = spPutBytes s.hostMem (s.ev.base.toNat + 32 * s.ev.tail) (recBytes r) := by
  unfold evWrite
  extract_lets e written advanced
  have hNow : written.now = s.now := hostWrite_now ..
  have hMem : written.hostMem = spPutBytes s.hostMem (e.base.toNat + 32 * e.tail) (recBytes r) := by
    unfold written
    rw [hostWrite]
  clear_value written
  have hEv : advanced.ev = { e with tail := (e.tail + 1) % ringSize e.cfg, written := e.written ++ [written.now] } := rfl
  have hAdvanced : advanced.hostMem = written.hostMem := rfl
  clear_value advanced
  rw [hNow] at hEv
  have armed : advanced.ev.armed = false := by rw [hEv]; exact quiet
  have idle : evNotify (issue 3 0 1 (logMark (fun l => decide (l.evseq = r.seq)) advanced)) =
      issue 3 0 1 (logMark (fun l => decide (l.evseq = r.seq)) advanced) :=
    if_neg fun go => Bool.false_ne_true (armed.symm.trans (Bool.and_eq_true_iff.mp go).1)
  rw [idle]
  exact ⟨hEv, hAdvanced.trans hMem⟩

theorem evDrain_empty {n : Nat} {s : State} (none_ : s.ev.held = []) (mode : s.ev.mode ≠ .coalescing) :
    evDrain (n + 1) s = { s with ev := { s.ev with mode := .normal } } := by
  rw [evDrain, none_]
  match h : s.ev.mode with
  | .coalescing => exact absurd h mode
  | .normal => rfl
  | .holding => rfl

/-- The one record held is written, and nothing is held after it. -/
theorem evDrainAll_one {r : EvRec} {s : State} (held : s.ev.held = [r]) (mode : s.ev.mode ≠ .coalescing) (may : evMayWrite s = true)
    (quiet : s.ev.armed = false) :
    (evDrainAll s).ev = { s.ev with held := [], mode := .normal, tail := (s.ev.tail + 1) % ringSize s.ev.cfg, written := s.ev.written ++ [s.now] } ∧
    (evDrainAll s).hostMem = spPutBytes s.hostMem (s.ev.base.toNat + 32 * s.ev.tail) (recBytes r) ∧
    (evDrainAll s).mssx.replayed = s.mssx.replayed := by
  obtain ⟨ev, mem⟩ := evWrite_quiet r (s := { s with ev := { s.ev with held := [] } }) quiet
  have mssx := (raised_evWrite r { s with ev := { s.ev with held := [] } }).mssx
  have drained : evDrainAll s = { evWrite r { s with ev := { s.ev with held := [] } } with
      ev := { (evWrite r { s with ev := { s.ev with held := [] } }).ev with mode := .normal } } := by
    rw [evDrainAll, held, List.length_singleton, show 1 + s.ev.coal.length + 1 = s.ev.coal.length + 1 + 1 by omega, evDrain, held]
    refine (if_pos may).trans (evDrain_empty (by rw [ev]) (by rw [ev]; exact mode))
  rw [drained]
  refine ⟨?_, mem, ?_⟩
  · rw [ev]
  · exact (congrArg MssX.replayed mssx).trans rfl

/-! ### The event ring enabled (16 R513) -/

theorem ringSize_pos (cfg : Word) : 0 < ringSize cfg := Nat.two_pow_pos _

/-- An empty ring of at least two places has one free. -/
theorem evHasSlot_empty {e : Ev} (on : e.st = .running) (head : e.head = 0) (tail : e.tail = 0) (size : 1 < ringSize e.cfg) :
    evHasSlot e = true := by
  simp [evHasSlot, evUnconsumed, on, head, tail, size]

/-- The event ring as its enable starts it. -/
def evRunning (v : Word) (s : State) : State :=
  { s with ev := { s.ev with cfg := v, st := .running, armed := false, head := 0, tail := 0, bell := 0, written := [] } }

/-- EV_RING_STARTED, held behind nothing. -/
def startedRecord (s : State) : EvRec :=
  { seq := s.ev.nextSeq, code := 0x0D09, source := 0x00FF, sec := s.te.sec.setWidth 32, ns := BitVec.ofNat 32 s.te.ns,
    payload := payload [(0, 1, s.ev.startCause.toNat), (4, 4, 0), (8, 4, 0), (12, 4, s.lg.epoch.toNat)] }

theorem evStarted_ev {s : State} (held : s.ev.held = []) (coal : s.ev.coal = []) (mode : s.ev.mode = .normal) :
    (evStarted s).ev = { s.ev with held := [startedRecord s], mode := .holding, startCause := 2, nextSeq := nextSeqNo s.ev.nextSeq } := by
  unfold evStarted
  simp only [held, coal, evForm, mode, startedRecord, List.length_nil, List.foldl_nil, List.nil_append]
  rfl

/-- The ring enabled with nothing held, and the log replayed before: its first record is EV_RING_STARTED. -/
theorem evEnable_first {v : Word} {s : State} (held : s.ev.held = []) (coal : s.ev.coal = []) (mode : s.ev.mode = .normal)
    (replayed : s.mssx.replayed = true) (awake : evAwake s = true) (size : 1 < ringSize v) :
    (evEnable v s).ev.st = .running ∧ (evEnable v s).ev.cfg = v ∧ (evEnable v s).ev.tail = 1 ∧
    (evEnable v s).ev.nextSeq = nextSeqNo s.ev.nextSeq ∧
    (evEnable v s).hostMem = spPutBytes s.hostMem s.ev.base.toNat (recBytes (startedRecord s)) := by
  have started := evStarted_ev (s := evRunning v s) held coal mode
  obtain ⟨u, hu⟩ : ∃ u, u = evStarted (evRunning v s) := ⟨_, rfl⟩
  have hStarted : startedRecord (evRunning v s) = startedRecord s := rfl
  have hPwr : u.pwr = s.pwr := by rw [hu, (evStarted_keeps _).pwr_eq rfl]; rfl
  have hMem : u.hostMem = s.hostMem := by rw [hu, (evStarted_keeps _).hostMem_eq rfl]; rfl
  have hReplayed : u.mssx.replayed = true := by rw [hu, (evStarted_keeps _).mssx_eq rfl]; exact replayed
  rw [← hu, hStarted] at started
  have enabled : evEnable v s = evReplay (evDrainAll u) := by rw [hu]; rfl
  have may : evMayWrite u = true := by
    have slot : evHasSlot u.ev = true := evHasSlot_empty (by rw [started]; rfl) (by rw [started]; rfl) (by rw [started]; rfl)
      (by rw [started]; exact size)
    have wake : evAwake u = true := by rw [evAwake, hPwr]; exact awake
    rw [evMayWrite, slot, wake]
    rfl
  obtain ⟨ev, mem, same⟩ := evDrainAll_one (r := startedRecord s) (s := u) (by rw [started]) (by rw [started]; exact EvMode.noConfusion) may
    (by rw [started]; rfl)
  have replay : evReplay (evDrainAll u) = evDrainAll u := if_pos (by rw [same, hReplayed])
  rw [enabled, replay, ev, mem, hMem, started]
  refine ⟨rfl, rfl, ?_, rfl, rfl⟩
  exact Nat.mod_eq_of_lt size

theorem evDisable_ev (s : State) : (evDisable s).ev.st = .disabled ∧ (evDisable s).ev.armed = false ∧ (evDisable s).ev.held = s.ev.held :=
  ⟨rfl, rfl, rfl⟩

/-! ### The ledgers (17 R532, R533) -/

/-- What a ledger reads after it is set to a value that is not zero. -/
theorem lgGet_lgSet_same {k : Nat × Nat} {v : Ledger} (some_ : v ≠ Ledger.zero) : (l : List ((Nat × Nat) × Ledger)) → lgGet k (lgSet k v l) = v
  | [] => by simp [lgSet, lgGet, some_]
  | (n, w) :: l => by
    simp only [lgSet, if_neg some_]
    split
    · rw [lgGet, if_pos rfl]
    split
    · rw [lgGet, if_pos rfl]
    · next other => rw [lgGet, if_neg (Ne.symm other), lgGet_lgSet_same some_ l]

/-- The recount of a ledger of class 4. -/
def recounted (n : Nat) (l : Ledger) : Ledger := { l with issued := BitVec.ofNat 64 n, returned := 0, held := BitVec.ofNat 32 n }

theorem recounted_ne_zero {n : Nat} (l : Ledger) (pos : 0 < n) (small : n < 4294967296) : recounted n l ≠ Ledger.zero := by
  intro zero
  have held : BitVec.ofNat 32 n = 0 := congrArg Ledger.held zero
  have value := congrArg BitVec.toNat held
  rw [BitVec.toNat_ofNat, Nat.mod_eq_of_lt small] at value
  exact Nat.ne_of_gt pos value

/-- One ledger recounted. -/
def recountStep (s : State) (k : Nat × Nat) : State :=
  { s with lg := lgUpd k.1 k.2 (fun l =>
    { l with issued := BitVec.ofNat 64 (liveHeld s k), returned := 0, held := BitVec.ofNat 32 (liveHeld s k) }) s.lg }

theorem recountStep_own {s : State} (pos : 0 < s.hi.bufsUsed) (small : s.hi.bufsUsed < 4294967296) :
    lgGet (4, 0) (recountStep s (4, 0)).lg.inst = recounted s.hi.bufsUsed (lgGet (4, 0) s.lg.inst) :=
  lgGet_lgSet_same (recounted_ne_zero (lgGet (4, 0) s.lg.inst) pos small) s.lg.inst

theorem recountStep_other {s : State} {k : Nat × Nat} (other : k ≠ (4, 0)) :
    lgGet (4, 0) (recountStep s k).lg.inst = lgGet (4, 0) s.lg.inst := lgGet_lgSet_other _ (Ne.symm other) _

/-- Once recounted it stays so through further recounts. -/
theorem recount_stays {L : Ledger} : (l : List (Nat × Nat)) → (s : State) → 0 < s.hi.bufsUsed → s.hi.bufsUsed < 4294967296 →
    lgGet (4, 0) s.lg.inst = recounted s.hi.bufsUsed L → lgGet (4, 0) (l.foldl recountStep s).lg.inst = recounted s.hi.bufsUsed L
  | [], _, _, _, done => done
  | k :: l, s, pos, small, done => by
    refine recount_stays l (recountStep s k) pos small ?_
    by_cases own : k = (4, 0)
    · rw [own, recountStep_own pos small, done]
      rfl
    · rw [recountStep_other own, done]
      rfl

theorem recount_all (l : List (Nat × Nat)) (s : State) (inside : (4, 0) ∈ l) (pos : 0 < s.hi.bufsUsed) (small : s.hi.bufsUsed < 4294967296) :
    lgGet (4, 0) (l.foldl recountStep s).lg.inst = recounted s.hi.bufsUsed (lgGet (4, 0) s.lg.inst) := by
  induction l generalizing s with
  | nil => exact absurd inside List.not_mem_nil
  | cons k l ih =>
    by_cases own : k = (4, 0)
    · subst own
      exact recount_stays l _ pos small (recountStep_own pos small)
    · have later := ih (recountStep s k) ((List.mem_cons.mp inside).resolve_left (Ne.symm own)) pos small
      rw [recountStep_other own] at later
      exact later

theorem snapKeys_bufs (s : State) : (4, 0) ∈ snapKeys s := by simp [snapKeys]

/-- The frame buffers' ledger re-initialised. -/
theorem ledgerReinit_bufs {s : State} (pos : 0 < s.hi.bufsUsed) (small : s.hi.bufsUsed < 4294967296) :
    classFaulted (ledgerReinit 4 s) 4 = false ∧ lgGet (4, 0) (ledgerReinit 4 s).lg.inst = recounted s.hi.bufsUsed (lgGet (4, 0) s.lg.inst) := by
  have cleared : ∀ x : BitVec 8, (x &&& ~~~ BitVec.ofNat 8 (2 ^ 3)).getLsbD 3 = false := by decide
  have inside : (4, 0) ∈ ((snapKeys s ++ s.lg.inst.map (·.1)).filter fun k => decide (k.1 = 4)).eraseDups := by
    rw [List.mem_eraseDups, List.mem_filter]
    exact ⟨List.mem_append_left _ (snapKeys_bufs s), rfl⟩
  unfold ledgerReinit
  extract_lets -merge +onlyGivenNames ks counted
  have hCounted : lgGet (4, 0) counted.lg.inst = recounted s.hi.bufsUsed (lgGet (4, 0) s.lg.inst) := recount_all ks s inside pos small
  obtain ⟨u, hu⟩ : ∃ u, u = { counted with lg := { counted.lg with fault := counted.lg.fault &&& ~~~ BitVec.ofNat 8 (2 ^ (4 - 1)) } } := ⟨_, rfl⟩
  have told := raised_raise 0x0803 0xFF [(0, 1, 4), (1, 1, 0xFF)] u
  rw [← hu]
  refine ⟨?_, ?_⟩
  · rw [classFaulted, told.lg, hu]
    exact cleared _
  · rw [told.ledger _ (by decide), hu]
    exact hCounted

/-- The counts an error leaves in one ledger: free values. -/
def scrambleStep (s : State) (k : Nat × Nat) : State :=
  let (a, s) := draw s
  let (b, s) := draw s
  let (h, s) := draw s
  { s with lg := lgUpd k.1 k.2 (fun l => { l with issued := a, returned := b, held := h.setWidth 32 }) s.lg }

theorem scrambleStep_fault (s : State) (k : Nat × Nat) : (scrambleStep s k).lg.fault = s.lg.fault := rfl

/-- One storage error: the class is faulted. -/
theorem ledgerFault_fault (c : Fin 8) (i : Nat) (s : State) : (ledgerFault (c.val + 1) i s).lg.fault.getLsbD c.val = true := by
  have set_ : ∀ x : BitVec 8, (x ||| BitVec.ofNat 8 (2 ^ c.val)).getLsbD c.val = true := fun x => by
    rw [BitVec.getLsbD_or, BitVec.getLsbD_ofNat, Nat.testBit_two_pow_self, decide_eq_true c.isLt, Bool.and_true, Bool.or_true]
  unfold ledgerFault
  extract_lets -merge +onlyGivenNames inst _ faulted ks counted
  have hCounted : counted.lg.fault = faulted.lg.fault := foldl_kept (g := fun s => s.lg.fault) scrambleStep_fault ks faulted
  rw [(raised_raise ..).lg, hCounted]
  exact set_ s.lg.fault

/-! ### Resets of units by the host (17 R542) -/

theorem coreAt_updCore (c k : Nat) (f : CxCore → CxCore) (s : State) :
    coreAt (updCore c f s) k = if c = k ∧ k < 4 then f (coreAt s k) else coreAt s k := vget_vupd ..

theorem coreAt_congr {s t : State} (cx : t.cx = s.cx) (c : Nat) : coreAt t c = coreAt s c := by rw [coreAt, cx, coreAt]

theorem coreAt_noCoreCheck (s : State) (c : Nat) : coreAt (noCoreCheck s) c = coreAt s c := by
  unfold noCoreCheck
  split
  · rfl
  split
  · rfl
  · rw [coreAt_congr (raise_cx ..)]
    rfl

theorem mem_freeCores {s : State} {c : Nat} (free : c ∈ freeCores s) : (coreAt s c).st = .idle := by
  simp only [freeCores, List.mem_filter, Bool.and_eq_true, decide_eq_true_eq] at free
  exact free.2.2

/-- The state after a waiting job is given to core c. -/
def jobStarted (c : Nat) (j : CxJob) (s : State) : State :=
  let s := { s with freeCtr := s.freeCtr + 1, cx := { s.cx with jobs := s.cx.jobs.erase j } }
  updCore c (fun x => { x with st := .busy, job := some j, hold := jobHeld (slotAt s j.slot) j }) s

/-- The next dispatch: nothing to do, or one waiting job to one idle core. -/
theorem dispatchJobs_succ (n : Nat) (s : State) : dispatchJobs (n + 1) s = s ∨
    ∃ j ∈ s.cx.jobs, (slotAt s j.slot).fhold = false ∧ ∃ c ∈ freeCores s, dispatchJobs (n + 1) s = dispatchJobs n (jobStarted c j s) := by
  generalize next_ : dispatchJobs (n + 1) s = t
  unfold dispatchJobs at next_
  split at next_
  · next j c0 cs found free =>
    refine Or.inr ⟨j, List.mem_of_find?_eq_some found, by simpa using List.find?_some found,
      (c0 :: cs).getD ((draw s).1.toNat % (cs.length + 1)) c0, ?_, next_.symm⟩
    have inside : (draw s).1.toNat % (cs.length + 1) < (c0 :: cs).length := Nat.mod_lt _ (Nat.succ_pos _)
    rw [free, List.getD_eq_getElem _ _ inside]
    exact List.getElem_mem inside
  · exact Or.inl next_.symm

/-- A core that is not idle is given no job. -/
theorem coreAt_dispatchJobs {c : Nat} : (n : Nat) → (s : State) → (coreAt s c).st ≠ .idle → coreAt (dispatchJobs n s) c = coreAt s c
  | 0, _, _ => rfl
  | n + 1, s, busy => by
    obtain same | ⟨j, -, -, k, free, next⟩ := dispatchJobs_succ n s
    · rw [same]
    · have other : k ≠ c := fun same => busy (same ▸ mem_freeCores free)
      have kept : coreAt (jobStarted k j s) c = coreAt s c := (coreAt_updCore ..).trans (if_neg fun h => other h.1)
      rw [next, coreAt_dispatchJobs n _ (kept ▸ busy), kept]

theorem coreAt_dispatchAll {c : Nat} {s : State} (busy : (coreAt s c).st ≠ .idle) : coreAt (dispatchAll s) c = coreAt s c :=
  coreAt_dispatchJobs _ s busy

theorem slotSettle_core (i : Nat) (s : State) : (slotSettle i s).cx.core = s.cx.core := by
  unfold slotSettle
  dsimp only
  split <;> rfl

/-- The end of a job leaves the cores as they are. -/
theorem endJob_core (j : CxJob) (res : Result) (s : State) : (endJob j res s).cx.core = s.cx.core := by
  rw [endJob, slotSettle_core, (finish_keeps ..).cx_eq rfl]
  rfl

theorem coreAt_endJob (j : CxJob) (res : Result) (s : State) (c : Nat) : coreAt (endJob j res s) c = coreAt s c := by
  rw [coreAt, endJob_core, coreAt]

theorem coreAt_updCore_same {c : Nat} (f : CxCore → CxCore) (s : State) (small : c < 4) : coreAt (updCore c f s) c = f (coreAt s c) :=
  (coreAt_updCore ..).trans (if_pos ⟨rfl, small⟩)

/-- A core reset stands FAULTED without a job until its test vector is through (13 R449). -/
theorem coreReset_core {byHost : Bool} {c : Nat} {s : State} (small : c < 4) : (coreAt (coreReset byHost c s) c).st = .faulted ∧
    (coreAt (coreReset byHost c s) c).selfTest = true ∧ (coreAt (coreReset byHost c s) c).job = none := by
  unfold coreReset
  extract_lets -merge +onlyGivenNames job cleared ds begun ended
  have hCleared := coreAt_updCore_same (fun x => { x with st := .faulted, job := none, hold := [], selfTest := true }) s small
  have hBegun : coreAt begun c = coreAt cleared c := rfl
  have hEnded : coreAt ended c = coreAt begun c := by
    unfold ended
    match job with
    | some j => exact coreAt_endJob ..
    | none => rfl
  have stopped : (coreAt (noCoreCheck ended) c).st ≠ .idle := by
    rw [coreAt_noCoreCheck, hEnded, hBegun, hCleared]
    exact CoreSt.noConfusion
  have all : coreAt (resetsSettle (dispatchAll (noCoreCheck ended))) c = coreAt cleared c := by
    rw [coreAt_congr ((resetsSettle_keeps _).cx_eq rfl), coreAt_dispatchAll stopped, coreAt_noCoreCheck, hEnded, hBegun]
  rw [all, hCleared]
  exact ⟨rfl, rfl, rfl⟩

theorem chAt_updCh_same (c : Fin 8) (f : RgCh → RgCh) (s : State) : chAt (updCh c f s) c = f (chAt s c) := by
  exact (upd_get s.rg.ch c f c.val c.isLt).trans (if_pos rfl)

theorem chAt_congr {s t : State} (rg : t.rg = s.rg) (c : Fin 8) : chAt t c = chAt s c := by rw [chAt, rg, chAt]

/-- The channel of a reset stands STOPPED with its step memory kept (11 R394). -/
theorem resetCh_ch (c : Fin 8) (s : State) : chAt (resetCh c s).2 c = { chAt s c with st := .stopped, retune := none } := by
  have stopped := chAt_updCh_same c (fun h => { h with st := .stopped, retune := none }) s
  unfold resetCh
  dsimp only
  split
  · rw [chAt_congr ((finish_keeps ..).rg_eq rfl)]
    exact stopped
  · exact stopped

theorem rgReset_ch (n : Nat) (s : State) (c : Fin 8) (same : n % 8 = c.val) :
    chAt (rgReset n s) c = { chAt s c with st := .stopped, retune := none } := by
  have channel : (⟨n % 8, Nat.mod_lt _ (by decide)⟩ : Fin 8) = c := Fin.ext same
  unfold rgReset
  rw [channel]
  dsimp only
  rw [chAt_congr ((resetsSettle_keeps _).rg_eq rfl), chAt_congr ((resetBegin_keeps ..).rg_eq rfl)]
  split
  · rw [chAt_congr ((stitchLost_keeps ..).rg_eq rfl), resetCh_ch]
  · exact resetCh_ch c s

/-! ### Writes of EV_CFG, EV_BELL and LG_URESET -/

theorem fld_oneFld_below {w : Word} {lo len a n : Nat} (below : a + n ≤ lo) (fits : lo + len ≤ 32) : fld (oneFld w lo len) a n = fld w a n := by
  unfold oneFld
  split
  · apply Nat.eq_of_testBit_eq
    intro j
    rw [fld_testBit, fld_testBit]
    by_cases inside : j < n
    · rw [bitAt_setFld _ _ _ _ (by omega), if_neg (by omega)]
    · simp [inside]
  · rfl

/-- The fields that decide whether the event ring may start. -/
theorem evCfg_fields (v : Word) : bitAt (oneFld (v &&& 0x8FFFFF1F) 8 8) 31 = bitAt v 31 ∧ fld (oneFld (v &&& 0x8FFFFF1F) 8 8) 0 5 = fld v 0 5 := by
  obtain ⟨en, size, -, -⟩ := cqCfg_fields v
  exact ⟨(bitAt_oneFld (by decide) (by decide)).trans en, (fld_oneFld_below (by decide) (by decide)).trans size⟩

theorem evCfgWrite_enable {v : Word} {s : State} (idle : s.ev.st = .disabled) (en : bitAt v 31 = true) (pcie : s.cln.hostmode = false)
    (aligned : s.ev.base.toNat % 32 = 0) : evCfgWrite v s =
      if !sizeOk (oneFld (v &&& 0x8FFFFF1F) 8 8) 6 then evRefuse 2 s else evEnable (oneFld (v &&& 0x8FFFFF1F) 8 8) s := by
  have base := baseOk_pcie (entries := 2 ^ fld (oneFld (v &&& 0x8FFFFF1F) 8 8) 0 5) pcie aligned
  rw [evCfgWrite]
  refine (if_neg (not_not.mpr idle)).trans ((if_pos ((evCfg_fields v).1.trans en)).trans (if_neg ?_))
  rw [base]
  decide

/-- The write that starts the ring for the first time. -/
theorem evCfgWrite_first {v : Word} {s : State} (idle : s.ev.st = .disabled) (en : bitAt v 31 = true) (pcie : s.cln.hostmode = false)
    (aligned : s.ev.base.toNat % 32 = 0) (size : 6 ≤ fld v 0 5 ∧ fld v 0 5 ≤ 16) (count : fld v 8 8 ≠ 0) :
    evCfgWrite v s = evEnable (v &&& 0x8FFFFF1F) s := by
  rw [evCfgWrite_enable idle en pcie aligned, cqCfg_one count]
  refine if_neg ?_
  rw [sizeOk_iff.mpr (by rw [(cqCfg_fields v).2.1]; exact size)]
  decide

theorem msiSend_unmasked {m : Msix} (mask : m.mask = false) : msiSend m = { m with sent := m.sent + 1 } :=
  if_neg (Bool.eq_false_iff.mp mask)

/-- A doorbell of a running ring that has nothing to write and whose notification stays unarmed. -/
theorem evBell_quiet {v : Word} {s : State} (on : s.ev.st = .running) (held : s.ev.held = []) (mode : s.ev.mode = .normal)
    (armed : s.ev.armed = false) (arm : bitAt v 31 = false) (inRing : fld v 0 16 < ringSize s.ev.cfg)
    (ahead : ringGap (ringSize s.ev.cfg) s.ev.head (fld v 0 16) ≤ ringGap (ringSize s.ev.cfg) s.ev.head s.ev.tail) :
    (evBell v s).ev = { s.ev with head := fld v 0 16, bell := v &&& 0x8000FFFF
                                  written := s.ev.written.drop (ringGap (ringSize s.ev.cfg) s.ev.head (fld v 0 16)) } := by
  unfold evBell
  extract_lets -merge e S h k moved
  have hMoved : (giveBack 3 0 k moved).ev = { s.ev with head := h, bell := v &&& 0x8000FFFF, written := s.ev.written.drop k } := by
    have stays : (s.ev.armed || bitAt v 31) = s.ev.armed := by rw [arm, Bool.or_false]
    exact congrArg (fun a => ({ s.ev with head := h, bell := v &&& 0x8000FFFF, armed := a, written := s.ev.written.drop k } : Ev)) stays
  obtain ⟨u, hu⟩ : ∃ u, u = giveBack 3 0 k moved := ⟨_, rfl⟩
  rw [← hu] at hMoved ⊢
  have drained : evDrainAll u = { u with ev := { u.ev with mode := .normal } } := by
    rw [evDrainAll]
    exact evDrain_empty (by rw [hMoved]; exact held) (by rw [hMoved, mode]; exact EvMode.noConfusion)
  have idle : evNotify (evDrainAll u) = evDrainAll u := if_neg (by rw [drained, hMoved, armed]; exact Bool.false_ne_true)
  refine (congrArg State.ev ((if_neg (not_not.mpr on)).trans (if_pos ⟨inRing, ahead⟩))).trans ?_
  rw [idle, drained, hMoved, ← mode]

theorem evBell_beyond {v : Word} {s : State} (on : s.ev.st = .running) (beyond : ringSize s.ev.cfg ≤ fld v 0 16) :
    evBell v s = { s with ev := { s.ev with st := .fault } } :=
  (if_neg (not_not.mpr on)).trans (if_neg fun h => absurd h.1 (Nat.not_lt.mpr beyond))

/-- Units that a host may reset (17 R542). -/
def resettable (u : Nat) : Bool := (decide (0x10 ≤ u) && decide (u ≤ 0x17)) || (decide (0x20 ≤ u) && decide (u ≤ 0x23)) || decide (u = 0x38)

theorem uresetWrite_begins {v : Word} {s : State} (go : bitAt v 31 = true) (unit : resettable (fld v 0 8) = true)
    (free : (s.lg.resets.any fun r => decide (r.unit.toNat = fld v 0 8)) = false) : uresetWrite v s =
      if fld v 0 8 = 0x38 then mssRestart 2 1 true s else if 0x20 ≤ fld v 0 8 then coreReset true (fld v 0 8 - 0x20) s
      else rgReset (fld v 0 8 - 0x10) s := by
  unfold resettable at unit
  unfold uresetWrite
  simp only [go, unit, free, Bool.not_true, Bool.false_eq_true, if_false]

theorem uresetWrite_refused {v : Word} {s : State} (go : bitAt v 31 = true) (unit : resettable (fld v 0 8) = false) :
    uresetWrite v s = lgRefuse 2 s := by
  unfold resettable at unit
  unfold uresetWrite
  simp only [go, unit, Bool.not_true, Bool.not_false, Bool.false_eq_true, if_false, if_true]

theorem lgReinitWrite_of {v : Word} {s : State} (go : bitAt v 31 = true) (cls : 1 ≤ fld v 0 4 ∧ fld v 0 4 ≤ 8) :
    lgReinitWrite v s = if classFaulted s (fld v 0 4) then ledgerReinit (fld v 0 4) s else lgRefuse 3 s := by
  have class_ : ¬ fld v 0 4 = 0 ∧ ¬ 8 < fld v 0 4 := by omega
  unfold lgReinitWrite
  simp only [go, class_.1, class_.2, false_or, Bool.not_true, Bool.false_eq_true, if_false]
  cases classFaulted s (fld v 0 4) <;> rfl

end Sys2Proof.Machine

open Sys2Proof Sys2Proof.Machine

/-- Settles O44, by the outcomes of the event ring's registers, of the ledgers' and of LG_URESET. -/
theorem eventRing : Obligations.EventRing := by
  intro s v up
  refine ⟨fun idle en pcie aligned low high count held coal mode replayed awake => ?on, fun idle en pcie aligned size => ?size,
    fun on off count same => ?off, fun on en => ?stays, fun on held coal mode armed arm inRing ahead => ?bell, fun on beyond => ?fault,
    fun r held mode armed may => ?record, fun armed awake delay some_ mask => ?delay, fun c i => ?ecc,
    fun go cls faulted some_ small => ?reinit, fun go low high sound => ?sound, fun go low high free => ?channel,
    fun go low high free => ?core, fun go other => ?other⟩
  case on =>
    have big : 1 < ringSize (v &&& 0x8FFFFF1F) := by
      rw [ringSize, (cqCfg_fields v).2.1]
      exact Nat.one_lt_two_pow (by omega)
    refine completes_hostExits (f := evCfgWrite v) rfl up fun x a => ?_
    have started := evCfgWrite_first (s := s.woken { s.pwr with exiting := x } { s.slp with awakeFrom := a }) idle en pcie aligned ⟨low, high⟩ count
    exact started ▸ evEnable_first held coal mode replayed awake big
  case size =>
    have refused : sizeOk (oneFld (v &&& 0x8FFFFF1F) 8 8) 6 = false := Bool.eq_false_iff.mpr fun ok => by
      have := sizeOk_iff.mp ok
      rw [(evCfg_fields v).2] at this
      omega
    refine completes_hostDoes (f := evCfgWrite v) rfl up (t := fun w x => evRefuse 2 (s.woken w x)) (fun w x => ?_) fun w x => ?_
    · rw [evCfgWrite_enable (s := s.woken w x) idle en pcie aligned, refused]
      rfl
    · obtain ⟨hRefused, hCause, hSt, -⟩ := evRefuse_ev 2 (s.woken w x)
      exact ⟨hSt.trans idle, hRefused, hCause⟩
  case off =>
    have clears : onlyClears s.ev.cfg (v &&& 0x8FFFFF1F) = true := onlyClears_iff.mpr ⟨by rw [(cqCfg_fields v).1, off], same⟩
    refine completes_hostDoes (f := evCfgWrite v) rfl up (t := fun w x => evDisable { s.woken w x with ev := { s.ev with cfg := v &&& 0x8FFFFF1F } })
      (fun w x => ?_) fun w x => evDisable_ev _
    rw [evCfgWrite, cqCfg_one count]
    exact (if_pos on).trans (if_pos clears)
  case stays =>
    have open_ : ¬ onlyClears s.ev.cfg (oneFld (v &&& 0x8FFFFF1F) 8 8) = true := fun clears =>
      Bool.false_ne_true ((onlyClears_iff.mp clears).1.symm.trans ((evCfg_fields v).1.trans en))
    refine completes_hostDoes (f := evCfgWrite v) rfl up (t := fun w x => evRefuse 3 (s.woken w x))
      (fun w x => (if_pos on).trans (if_neg open_)) fun w x => ?_
    obtain ⟨hRefused, hCause, hSt, hCfg⟩ := evRefuse_ev 3 (s.woken w x)
    exact ⟨hRefused, hCause, hSt, hCfg⟩
  case bell =>
    exact completes_host (f := evBell v) rfl up fun w x => evBell_quiet (s := s.woken w x) on held mode armed arm inRing ahead
  case fault =>
    exact completes_hostDoes (f := evBell v) rfl up (fun w x => evBell_beyond (s := s.woken w x) on beyond) fun w x => rfl
  case record =>
    obtain ⟨ev, mem, -⟩ := evDrainAll_one held (by rw [mode]; exact EvMode.noConfusion) may armed
    exact completes_does (t := evDrainAll s) rfl up rfl ⟨by rw [ev], by rw [ev], by rw [ev], mem⟩
  case delay =>
    exact completes_does (t := evFire s) rfl up (if_pos (by simp [armed, awake, delay, some_])) ⟨rfl, msiSend_unmasked mask⟩
  case ecc => exact completes_does (t := ledgerFault (c.val + 1) i s) rfl up rfl (ledgerFault_fault c i s)
  case reinit =>
    refine completes_hostDoes (f := lgReinitWrite v) rfl up (t := fun w x => ledgerReinit 4 (s.woken w x)) (fun w x => ?_) fun w x =>
      ledgerReinit_bufs (s := s.woken w x) some_ small
    rw [lgReinitWrite_of go (by omega), cls]
    exact if_pos faulted
  case sound =>
    refine completes_hostDoes (f := lgReinitWrite v) rfl up (t := fun w x => lgRefuse 3 (s.woken w x)) (fun w x => ?_) fun w x => rfl
    rw [lgReinitWrite_of go ⟨low, high⟩]
    exact if_neg (Bool.eq_false_iff.mp sound)
  case channel =>
    have unit : resettable (fld v 0 8) = true := by simp [resettable, low, high]
    have index : (fld v 0 8 - 0x10) % 8 = (Fin.ofNat 8 (fld v 0 8 - 0x10)).val := rfl
    refine completes_hostDoes (f := uresetWrite v) rfl up (t := fun w x => rgReset (fld v 0 8 - 0x10) (s.woken w x)) (fun w x => ?_) fun w x => ?_
    · rw [uresetWrite_begins (s := s.woken w x) go unit free, if_neg (by omega), if_neg (by omega)]
    · rw [rgReset_ch _ _ _ index]
      exact ⟨rfl, rfl, rfl⟩
  case core =>
    have unit : resettable (fld v 0 8) = true := by simp [resettable, low, high]
    refine completes_hostDoes (f := uresetWrite v) rfl up (t := fun w x => coreReset true (fld v 0 8 - 0x20) (s.woken w x)) (fun w x => ?_)
      fun w x => coreReset_core (by omega)
    rw [uresetWrite_begins (s := s.woken w x) go unit free, if_neg (by omega), if_pos low]
  case other =>
    have unit : resettable (fld v 0 8) = false := by
      simp only [resettable, Bool.or_eq_false_iff, Bool.and_eq_false_iff, decide_eq_false_iff_not]
      omega
    exact completes_hostDoes (f := uresetWrite v) rfl up (fun w x => uresetWrite_refused (s := s.woken w x) go unit) fun w x =>
      ⟨rfl, rfl, rfl, rfl⟩

end


section
/-! The host's cipher jobs (13 R422 to R428, R440 to R443): their checks, their admission and the cores that take them. -/
namespace Sys2Proof.Machine

/-! ### The work of a descriptor just taken -/

/-- The state of a ring after a descriptor is taken from it, which the descriptor's work begins in. -/
def TakenFrom (r : Fin 16) (d : DescBytes) (s u : State) : Prop := u = (takeDesc r.val d s).2

/-- A command completes with what holds of its opcode's work on the descriptor just taken. -/
theorem completes_taken {c : Instr} {ok : Nat → Bool} {r : Fin 16} {d : DescBytes} {op : Nat} {s : State}
    {body : Nat → State → State} {P : State → Prop} (e : exec c s = run s (descRow ok r d body)) (up : devUp s = true)
    (known : ok op = true) (h : accepts r d op s = true) (p : ∀ u, TakenFrom r d s u → P (body (newId r s) u))
    (free : QueueFree P := by intros _ _; rfl) : Completes c s P :=
  completes_does e up (descRow_of_accepts body known h) (p _ rfl) free

/-- What work that leaves the rings alone finds of the descriptor just taken. -/
theorem takenAt_taken {r : Fin 16} {d : DescBytes} {op : Nat} {s u v : State} (h : accepts r d op s = true) (from_ : TakenFrom r d s u)
    (hi : v.hi = u.hi) : takenAt v r.val (newId r s) = some (Taken.started (newId r s) d) := by
  rw [takenAt, sqAt, hi, from_]
  exact takenAt_takeDesc d (idFresh_of_accepts h)

/-- The descriptor just taken ends with the result given, whatever ran before that left the rings alone. -/
theorem resultAt_taken {r : Fin 16} {d : DescBytes} {op : Nat} {s u v : State} (res : Result) (h : accepts r d op s = true)
    (from_ : TakenFrom r d s u) (hi : v.hi = u.hi) : resultAt (finish r.val (newId r s) res v) r (newId r s) = some res :=
  resultAt_finish res (takenAt_taken h from_ hi) rfl

theorem TakenFrom.cx {r : Fin 16} {d : DescBytes} {s u : State} (h : TakenFrom r d s u) : u.cx = s.cx := h ▸ ((takeDesc_keeps ..).cx_eq rfl)
theorem TakenFrom.tmp {r : Fin 16} {d : DescBytes} {s u : State} (h : TakenFrom r d s u) : u.tmp = s.tmp := h ▸ ((takeDesc_keeps ..).tmp_eq rfl)
theorem TakenFrom.cln {r : Fin 16} {d : DescBytes} {s u : State} (h : TakenFrom r d s u) : u.cln = s.cln := h ▸ ((takeDesc_keeps ..).cln_eq rfl)

theorem finish_cx (r id : Nat) (res : Result) (s : State) : (finish r id res s).cx = s.cx := (finish_keeps ..).cx_eq rfl

/-- Within PCIe no region is forbidden (15 R505). -/
theorem withDst_pcie {r id addr len : Nat} {k : State → State} {s : State} (pcie : s.cln.hostmode = false) :
    withDst r id addr len k s = k s := if_pos (by simp [regionOk, pcie])

/-! ### Key slots -/

theorem slotAt_congr {s t : State} (cx : t.cx = s.cx) (i : Nat) : slotAt t i = slotAt s i := by rw [slotAt, cx, slotAt]

theorem slotAt_updSlot (i k : Nat) (f : Slot → Slot) (s : State) :
    slotAt (updSlot i f s) k = if i = k ∧ k < 64 then f (slotAt s k) else slotAt s k := vget_vupd ..

theorem slotAt_updSlot_same {i : Nat} (f : Slot → Slot) (s : State) (small : i < 64) : slotAt (updSlot i f s) i = f (slotAt s i) :=
  (slotAt_updSlot ..).trans (if_pos ⟨rfl, small⟩)

theorem slotAt_updSlot_other {i k : Nat} (f : Slot → Slot) (s : State) (other : i ≠ k) : slotAt (updSlot i f s) k = slotAt s k :=
  (slotAt_updSlot ..).trans (if_neg fun h => other h.1)

/-! ### Waiting jobs and the cores that take them (R419) -/

theorem slotAt_dispatchJobs : (n : Nat) → (s : State) → (i : Nat) → slotAt (dispatchJobs n s) i = slotAt s i
  | 0, _, _ => rfl
  | n + 1, s, i => by
    obtain same | ⟨j, -, -, k, -, next⟩ := dispatchJobs_succ n s
    · rw [same]
    · rw [next, slotAt_dispatchJobs n]
      rfl

theorem slotAt_dispatchAll (s : State) (i : Nat) : slotAt (dispatchAll s) i = slotAt s i := slotAt_dispatchJobs _ s i

/-- The job waits, or runs on a core that is not idle. -/
def Admitted (j : CxJob) (s : State) : Prop := j ∈ s.cx.jobs ∨ ∃ c < 4, (coreAt s c).job = some j ∧ (coreAt s c).st ≠ .idle

theorem admitted_jobStarted {j x : CxJob} {c : Nat} {s : State} (free : c ∈ freeCores s) (h : Admitted j s) :
    Admitted j (jobStarted c x s) := by
  have small : c < 4 := List.mem_range.mp (List.mem_filter.mp free).1
  have core : ∀ k, coreAt (jobStarted c x s) k = if c = k ∧ k < 4 then
      { coreAt s k with st := .busy, job := some x, hold := jobHeld (slotAt s x.slot) x } else coreAt s k := fun k => coreAt_updCore ..
  have jobs : (jobStarted c x s).cx.jobs = s.cx.jobs.erase x := rfl
  obtain waits | ⟨k, hk, job, busy⟩ := h
  · by_cases same : j = x
    · refine Or.inr ⟨c, small, ?_⟩
      rw [core, if_pos ⟨rfl, small⟩, same]
      exact ⟨rfl, CoreSt.noConfusion⟩
    · exact Or.inl (jobs ▸ (List.mem_erase_of_ne same).mpr waits)
  · have other : c ≠ k := fun same => busy (same ▸ mem_freeCores free)
    refine Or.inr ⟨k, hk, ?_⟩
    rw [core, if_neg fun h => other h.1]
    exact ⟨job, busy⟩

theorem admitted_dispatchJobs {j : CxJob} : (n : Nat) → (s : State) → Admitted j s → Admitted j (dispatchJobs n s)
  | 0, _, h => h
  | n + 1, s, h => by
    obtain same | ⟨x, -, -, k, free, next⟩ := dispatchJobs_succ n s
    · rw [same]
      exact h
    · rw [next]
      exact admitted_dispatchJobs n _ (admitted_jobStarted free h)

theorem mem_jobsOf {j : CxJob} {s : State} (h : Admitted j s) : j ∈ jobsOf s := by
  obtain waits | ⟨c, small, job, -⟩ := h
  · exact List.mem_append_left _ waits
  · have core : coreAt s c = s.cx.core[c] := dif_pos small
    exact List.mem_append_right _ (List.mem_filterMap.mpr ⟨coreAt s c, core ▸ Vector.mem_toList_iff.mpr (Vector.getElem_mem small), job⟩)

/-! ### Admission (R441 to R443) -/

/-- What an admission of b blocks on a HOST key leaves. -/
def AdmittedOn (i b : Nat) (s t : State) : Prop :=
  (slotAt t i).inv = (slotAt s i).inv + 1 ∧ (slotAt t i).blk = (slotAt s i).blk + b ∧ (slotAt t i).held = (slotAt s i).held + 1

theorem keyCounts_host {s : State} {i : Nat} (host : (slotAt s i).use = useHost) :
    keyCounts s i = ((slotAt s i).inv, (slotAt s i).blk, (slotAt s i).warn, (slotAt s i).exh) := by
  have other : ¬ (slotAt s i).use = useCached := by rw [host]; decide
  rw [keyCounts, if_neg other]

/-- The slot of a HOST key after an admission. -/
theorem admitJob_slot {s : State} {i b : Nat} (small : i < 64) (host : (slotAt s i).use = useHost) (exh : (slotAt s i).exh = false)
    (inv : (slotAt s i).inv + 1 ≤ 2 ^ (slotAt s i).inve) (blk : (slotAt s i).blk + b ≤ 2 ^ (slotAt s i).blke) :
    (admitJob i b s).1.ok = true ∧ AdmittedOn i b s (admitJob i b s).2 := by
  have below : ¬ (2 ^ (slotAt s i).inve < (slotAt s i).inv + 1 ∨ 2 ^ (slotAt s i).blke < (slotAt s i).blk + b) := by omega
  have other : ¬ (slotAt s i).use = useCached := by rw [host]; decide
  have limits : keyLimits s (slotAt s i) = (2 ^ (slotAt s i).inve, 2 ^ (slotAt s i).blke) := if_pos host
  simp only [admitJob, keyCounts_host host, limits, exh, Bool.false_eq_true, if_false, if_neg below, setCounts, if_neg other]
  generalize ((slotAt s i).warn || decide (7 * 2 ^ (slotAt s i).inve ≤ 8 * ((slotAt s i).inv + 1)) ||
    decide (7 * 2 ^ (slotAt s i).blke ≤ 8 * ((slotAt s i).blk + b))) = w
  obtain ⟨f, hf⟩ : ∃ f : Slot → Slot,
    f = fun k => { k with inv := (slotAt s i).inv + 1, blk := (slotAt s i).blk + b, warn := w, exh := false } := ⟨_, rfl⟩
  rw [← hf]
  have counted : slotAt (updSlot i f s) i = f (slotAt s i) := slotAt_updSlot_same f s small
  obtain ⟨u, hu⟩ : ∃ u, u = issue 7 (keyInst (updSlot i f s) i) 1 (updSlot i f s) := ⟨_, rfl⟩
  have held : ∀ n, AdmittedOn i b s (updSlot i (fun k => { k with held := k.held + 1, lru := n }) { u with cx := { u.cx with lru := n } }) := fun n => by
    have slot : slotAt { u with cx := { u.cx with lru := n } } i = f (slotAt s i) := hu ▸ counted
    rw [AdmittedOn, slotAt_updSlot_same _ _ small, slot, hf]
    exact ⟨rfl, rfl, rfl⟩
  rw [← hu]
  split
  · refine ⟨rfl, ?_⟩
    simp only [AdmittedOn, slotAt_congr (keyEvent_cx ..)]
    exact held _
  · exact ⟨rfl, held _⟩

theorem admitJob_exhausted {s : State} {i b : Nat} (host : (slotAt s i).use = useHost) (exh : (slotAt s i).exh = true) :
    admitJob i b s = (⟨false, false, false⟩, s) := by
  unfold admitJob
  rw [keyCounts_host host]
  simp only [exh, if_true]

/-! ### The four opcodes -/

theorem exec_cxOp (r : Fin 16) (d : DescBytes) (m : MemRead) (dec ccm : Bool) (s : State) : exec (cxOp dec ccm r d m) s =
    run s (descRow (· == cxOpcode dec ccm) r d fun id s => hostJob dec ccm d m r.val id s) := by
  cases dec <;> cases ccm <;> rfl

/-- The length of the text a job reads (R427, R428). -/
def jText (dec : Bool) (d : DescBytes) : Nat := dLen d + (if dec then jTlen d else 0)

theorem jobBad_congr {dec ccm : Bool} {d : DescBytes} {s t : State} (cx : t.cx = s.cx) : jobBad dec ccm d t = jobBad dec ccm d s := by
  simp only [jobBad, slotAt_congr cx]

theorem hostJob_bad {dec ccm : Bool} {d : DescBytes} {m : MemRead} {r id : Nat} {s : State} (bad : jobBad dec ccm d s = true) :
    hostJob dec ccm d m r id s = finish r id (resBad 9) s := if_pos bad

theorem hostJob_locked {dec ccm : Bool} {d : DescBytes} {m : MemRead} {r id : Nat} {s : State} (good : jobBad dec ccm d s = false)
    (locked : s.tmp.locked = true) : hostJob dec ccm d m r id s = finish r id (resSt 0x12) s :=
  (if_neg (Bool.eq_false_iff.mp good)).trans (if_pos locked)

theorem hostJob_noKey {dec ccm : Bool} {d : DescBytes} {m : MemRead} {r id : Nat} {s : State} (good : jobBad dec ccm d s = false)
    (unlocked : s.tmp.locked = false) (noKey : (slotAt s (jSlot d)).use = useEmpty) :
    hostJob dec ccm d m r id s = finish r id (resSt 0x23) s :=
  (if_neg (Bool.eq_false_iff.mp good)).trans ((if_neg (Bool.eq_false_iff.mp unlocked)).trans (if_pos (by simp [noKey])))

/-- A job with its data at hand comes to its admission. -/
theorem hostJob_data {dec ccm : Bool} {d : DescBytes} {bs : List Byte} {r id : Nat} {s : State} (good : jobBad dec ccm d s = false)
    (unlocked : s.tmp.locked = false) (host : (slotAt s (jSlot d)).use = useHost) (kept : (slotAt s (jSlot d)).unload = none)
    (pcie : s.cln.hostmode = false) : hostJob dec ccm d (.data bs) r id s =
      admitHost dec ccm r id d ((bs ++ List.replicate (jText dec d + jAadlen d - bs.length) 0).take (jText dec d + jAadlen d)) s := by
  refine (if_neg (Bool.eq_false_iff.mp good)).trans ((if_neg (Bool.eq_false_iff.mp unlocked)).trans ((if_neg ?_).trans ?_))
  · rw [host, kept]
    decide
  · rw [withDst_pcie pcie, withDst_pcie pcie, withDst_pcie pcie]
    rfl

/-- Bytes of the right length are not padded. -/
theorem padded_full {bs : List Byte} {n : Nat} (full : bs.length = n) : (bs ++ List.replicate (n - bs.length) 0).take n = bs := by
  subst full
  simp

theorem jSlot_lt (d : DescBytes) : jSlot d < 64 := Nat.mod_lt _ (by decide)

/-- The job that a descriptor with its data makes. -/
def jobOf (dec ccm : Bool) (r id : Nat) (d : DescBytes) (bs : List Byte) (inv : Nat) : CxJob :=
  { ring := r, desc := id, decrypt := dec, ccm := ccm, slot := jSlot d
    nonce := if jNgen d then jNonce d 4 ++ leBytes 8 inv else jNonce d (jNlen d)
    aad := bs.drop (jText dec d), input := bs.take (jText dec d), tlen := jTlen d, dst := jDst d }

/-- An admission that succeeds counts the invocation and its blocks, and the job waits or runs. -/
theorem admitHost_ok {dec ccm : Bool} {r id : Nat} {d : DescBytes} {bs : List Byte} {s : State}
    (host : (slotAt s (jSlot d)).use = useHost) (exh : (slotAt s (jSlot d)).exh = false)
    (inv : (slotAt s (jSlot d)).inv + 1 ≤ 2 ^ (slotAt s (jSlot d)).inve)
    (blk : (slotAt s (jSlot d)).blk + blocksOf (jAadlen d) (dLen d) ≤ 2 ^ (slotAt s (jSlot d)).blke) :
    AdmittedOn (jSlot d) (blocksOf (jAadlen d) (dLen d)) s (admitHost dec ccm r id d bs s) ∧
    jobOf dec ccm r id d bs (slotAt s (jSlot d)).inv ∈ jobsOf (admitHost dec ccm r id d bs s) := by
  obtain ⟨ok, slot⟩ := admitJob_slot (jSlot_lt d) host exh inv blk
  unfold admitHost
  dsimp only
  rw [if_pos ok, keyCounts_host host]
  obtain ⟨t, ht⟩ : ∃ t : State, t = (admitJob (jSlot d) (blocksOf (jAadlen d) (dLen d)) s).2 := ⟨_, rfl⟩
  rw [← ht] at slot ⊢
  refine ⟨?_, mem_jobsOf (admitted_dispatchJobs _ _ (Or.inl (List.mem_append_right _ (List.mem_singleton.mpr rfl))))⟩
  unfold AdmittedOn
  rw [slotAt_dispatchAll]
  exact slot

theorem admitHost_exhausted {dec ccm : Bool} {r id : Nat} {d : DescBytes} {bs : List Byte} {s : State}
    (host : (slotAt s (jSlot d)).use = useHost) (exh : (slotAt s (jSlot d)).exh = true) :
    admitHost dec ccm r id d bs s = finish r id (resSt 0x20) s := by
  rw [admitHost, admitJob_exhausted host exh]
  rfl

end Sys2Proof.Machine

open Sys2Proof Sys2Proof.Machine

/-- Settles O38, by the outcomes of the checks before an admission and of the admission. -/
theorem cipherJobs : Obligations.CipherJobs := by
  intro s r d dec ccm up
  have known : (cxOpcode dec ccm == cxOpcode dec ccm) = true := beq_self_eq_true _
  have key : ∀ u, TakenFrom r d s u → slotAt u (jSlot d) = slotAt s (jSlot d) := fun u h => slotAt_congr h.cx _
  have checked : ∀ u, TakenFrom r d s u → jobBad dec ccm d u = jobBad dec ccm d s := fun u h => jobBad_congr h.cx
  refine ⟨fun bs h good unlocked host kept pcie => ?admitted, fun m h bad => ?bad, fun m h good locked => ?locked,
    fun m h good unlocked noKey => ?noKey, fun bs h good unlocked host kept pcie exh => ?exhausted⟩
  case admitted =>
    intro n k b full exh inv blk
    refine completes_taken (exec_cxOp ..) up known h fun u from_ => ?_
    rw [hostJob_data ((checked u from_).trans good) (from_.tmp ▸ unlocked) (by rw [key u from_]; exact host) (by rw [key u from_]; exact kept)
      (from_.cln ▸ pcie), padded_full (n := jText dec d + jAadlen d) full]
    obtain ⟨⟨hInv, hBlk, hHeld⟩, job⟩ := admitHost_ok (dec := dec) (ccm := ccm) (r := r.val) (id := newId r s) (d := d) (bs := bs) (s := u)
      (by rw [key u from_]; exact host) (by rw [key u from_]; exact exh) (by rw [key u from_]; exact inv) (by rw [key u from_]; exact blk)
    rw [key u from_] at hInv hBlk hHeld job
    exact ⟨hInv, hBlk, hHeld, job⟩
  case bad =>
    refine completes_taken (exec_cxOp ..) up known h fun u from_ => ?_
    rw [hostJob_bad ((checked u from_).trans bad)]
    exact ⟨(finish_cx ..).trans from_.cx, resultAt_taken (resBad 9) h from_ rfl⟩
  case locked =>
    refine completes_taken (exec_cxOp ..) up known h fun u from_ => ?_
    rw [hostJob_locked ((checked u from_).trans good) (from_.tmp ▸ locked)]
    exact ⟨(finish_cx ..).trans from_.cx, resultAt_taken (resSt 0x12) h from_ rfl⟩
  case noKey =>
    refine completes_taken (exec_cxOp ..) up known h fun u from_ => ?_
    rw [hostJob_noKey ((checked u from_).trans good) (from_.tmp ▸ unlocked) (by rw [key u from_]; exact noKey)]
    exact ⟨(finish_cx ..).trans from_.cx, resultAt_taken (resSt 0x23) h from_ rfl⟩
  case exhausted =>
    refine completes_taken (exec_cxOp ..) up known h fun u from_ => ?_
    rw [hostJob_data ((checked u from_).trans good) (from_.tmp ▸ unlocked) (by rw [key u from_]; exact host) (by rw [key u from_]; exact kept)
      (from_.cln ▸ pcie), admitHost_exhausted (by rw [key u from_]; exact host) (by rw [key u from_]; exact exh)]
    exact ⟨(finish_cx ..).trans from_.cx, resultAt_taken (resSt 0x20) h from_ rfl⟩

end


section
/-! The cores of the cipher cluster: the end of a job, a core reset and a core disabled (13 R427, R428, R444 to R450, R455). -/
namespace Sys2Proof.Machine

/-! ### What the end of a descriptor's work leaves of another's -/

/-- The result of a taken descriptor: none while it is outstanding. -/
def workOf (s : State) (r id : Nat) : Option (Option Result) := (takenAt s r id).map (·.result)

theorem workOf_congr {s t : State} (hi : t.hi = s.hi) (r id : Nat) : workOf t r id = workOf s r id := by
  rw [workOf, takenAt, sqAt, hi]
  rfl

theorem result_of_workOf {s : State} {r id : Nat} {res : Result} (h : workOf s r id = some (some res)) :
    (takenAt s r id).bind (·.result) = some res := by
  obtain ⟨k, found, result⟩ := Option.map_eq_some_iff.mp h
  rw [found, Option.bind_some, result]

theorem workOf_of_jobLive {s : State} {j : CxJob} (live : jobLive s j = true) : workOf s j.ring j.desc = some none := by
  unfold jobLive at live
  rw [workOf]
  split at live
  · next k found =>
    rw [found, Option.map_some, Option.isNone_iff_eq_none.mp live]
  · exact absurd live Bool.false_ne_true

theorem takenAt_finish_any (r id r' id' : Nat) (res : Result) (s : State) : takenAt (finish r' id' res s) r id =
    (takenAt s r id).map fun k => if r' = r then k.finishedAs id' res else k := by
  have ring : sqAt (finish r' id' res s) r = if r' = r ∧ r < 16 then
      { sqAt s r with taken := (sqAt s r).taken.map (Taken.finishedAs id' res) } else sqAt s r := vget_vupd ..
  by_cases same : r' = r
  · subst same
    have find : ∀ l : List Taken, (l.map (Taken.finishedAs id' res)).find? (fun t => decide (t.id = id)) =
        (l.find? fun t => decide (t.id = id)).map (Taken.finishedAs id' res) := fun l => by
      rw [List.find?_map]
      refine congrArg (fun p => (l.find? p).map (Taken.finishedAs id' res)) (funext fun k => ?_)
      simp only [Function.comp_apply, Taken.finishedAs_id]
    by_cases near : r' < 16
    · rw [takenAt, ring, if_pos ⟨rfl, near⟩]
      simp only [if_true]
      exact find _
    · have empty : sqAt s r' = Sq.reset := dif_neg near
      rw [takenAt, ring, if_neg fun h => near h.2, takenAt, empty]
      rfl
  · simp only [takenAt, ring, same, false_and, if_false, Option.map_id']

/-- A descriptor that has its result keeps it. -/
theorem workOf_finish_done {r id : Nat} {res : Result} {s : State} (done : workOf s r id = some (some res)) (r' id' : Nat) (res' : Result) :
    workOf (finish r' id' res' s) r id = some (some res) := by
  obtain ⟨k, found, result⟩ := Option.map_eq_some_iff.mp done
  rw [workOf, takenAt_finish_any, found]
  simp only [Option.map_some, Option.some.injEq]
  split
  · rw [Taken.finishedAs, if_neg (by rw [result]; simp)]
    exact result
  · exact result

theorem workOf_finish {r id : Nat} {res : Result} {s : State} (running : workOf s r id = some none) :
    workOf (finish r id res s) r id = some (some res) := by
  obtain ⟨k, found, result⟩ := Option.map_eq_some_iff.mp running
  have here : k.id = id := by simpa using List.find?_some found
  rw [workOf, takenAt_finish_any, found]
  simp [Taken.finishedAs, here, result]

/-- Outstanding, or ended with this result. -/
def EndsWith (res : Result) (r id : Nat) (s : State) : Prop := workOf s r id = some none ∨ workOf s r id = some (some res)

theorem EndsWith.after {res : Result} {r id : Nat} {s : State} (h : EndsWith res r id s) (r' id' : Nat) :
    EndsWith res r id (finish r' id' res s) := by
  obtain running | done := h
  · by_cases own : r' = r ∧ id' = id
    · rw [own.1, own.2]
      exact Or.inr (workOf_finish running)
    · obtain ⟨k, found, result⟩ := Option.map_eq_some_iff.mp running
      have here : k.id = id := by simpa using List.find?_some found
      left
      rw [workOf, takenAt_finish_any, found]
      simp only [Option.map_some, Option.some.injEq]
      split
      · next ring => rw [Taken.finishedAs, if_neg fun h => own ⟨ring, h.1.symm.trans here⟩, result]
      · exact result
  · exact Or.inr (workOf_finish_done done ..)

theorem EndsWith.ended {res : Result} {r id : Nat} {s : State} (h : EndsWith res r id s) :
    workOf (finish r id res s) r id = some (some res) :=
  h.elim workOf_finish fun done => workOf_finish_done done ..

theorem EndsWith.congr {res : Result} {r id : Nat} {s t : State} (h : EndsWith res r id s) (hi : t.hi = s.hi) : EndsWith res r id t := by
  rw [EndsWith, workOf_congr hi]
  exact h

/-! ### The end of a job -/

theorem slotSettle_hi (i : Nat) (s : State) : (slotSettle i s).hi = s.hi := by
  unfold slotSettle
  dsimp only
  split <;> rfl

theorem workOf_endJob (j : CxJob) (res : Result) (s : State) (r id : Nat) :
    workOf (endJob j res s) r id = workOf (finish j.ring j.desc res s) r id := by
  rw [endJob, workOf_congr (slotSettle_hi ..)]
  rfl

theorem endJob_jobs (j : CxJob) (res : Result) (s : State) : (endJob j res s).cx.jobs = s.cx.jobs := by
  have settled : ∀ i s, (slotSettle i s).cx.jobs = s.cx.jobs := fun i s => by
    unfold slotSettle
    dsimp only
    split <;> rfl
  rw [endJob, settled, finish_cx]
  rfl

theorem endJob_coreEn (j : CxJob) (res : Result) (s : State) : (endJob j res s).cx.coreEn = s.cx.coreEn := by
  have settled : ∀ i s, (slotSettle i s).cx.coreEn = s.cx.coreEn := fun i s => by
    unfold slotSettle
    dsimp only
    split <;> rfl
  rw [endJob, settled, finish_cx]
  rfl

theorem endJob_hostMem (j : CxJob) (res : Result) (s : State) : (endJob j res s).hostMem = s.hostMem := (endJob_keeps ..).hostMem_eq rfl

theorem dispatchAll_none {s : State} (none_ : s.cx.jobs = []) : dispatchAll s = s := by
  rw [dispatchAll, none_]
  rfl

/-- With a core that can take jobs, CX_NO_CORE is armed again and nothing else. -/
theorem noCoreCheck_some {s : State} {c : Nat} (small : c < 4) (en : s.cx.coreEn.getLsbD c = true) (idle : (coreAt s c).st = .idle) :
    noCoreCheck s = { s with cx := { s.cx with noCore := false } } := by
  refine if_pos (List.any_eq_true.mpr ⟨c, List.mem_range.mpr small, ?_⟩)
  have st : (vget s.cx.core c CxCore.reset).st = .idle := idle
  simp [coreUsable, en, st]

/-- A core without its job. -/
def jobLeaves (c : Nat) (t : State) : State := updCore c (fun x => { x with st := restState t c, job := none, hold := [] }) t

/-- A core that ends a job without a fault, nothing else waiting. -/
theorem jobDone_idle {s : State} {c : Fin 4} {t : State} (en : t.cx.coreEn.getLsbD c.val = true) (none_ : t.cx.jobs = [])
    (core : coreAt t c.val = coreAt s c.val) :
    (dispatchAll (noCoreCheck (jobLeaves c.val t))).hi = t.hi ∧ (dispatchAll (noCoreCheck (jobLeaves c.val t))).hostMem = t.hostMem ∧
    coreAt (dispatchAll (noCoreCheck (jobLeaves c.val t))) c.val = { coreAt s c.val with st := .idle, job := none, hold := [] } := by
  have idle : restState t c.val = .idle := if_pos en
  obtain ⟨w, hw⟩ : ∃ w, w = jobLeaves c.val t := ⟨_, rfl⟩
  have hCore : coreAt w c.val = { coreAt s c.val with st := .idle, job := none, hold := [] } := by
    rw [hw, jobLeaves, coreAt_updCore_same _ _ c.isLt, core, idle]
  have hEn : w.cx.coreEn.getLsbD c.val = true := by rw [hw]; exact en
  have hJobs : w.cx.jobs = [] := by rw [hw]; exact none_
  have settled : dispatchAll (noCoreCheck w) = { w with cx := { w.cx with noCore := false } } := by
    rw [noCoreCheck_some c.isLt hEn (by rw [hCore])]
    exact dispatchAll_none hJobs
  rw [← hw, settled]
  exact ⟨by rw [hw]; rfl, by rw [hw]; rfl, hCore⟩

/-- What a job that ends writes: its output where it has one and its descriptor is outstanding. -/
theorem releaseJob_output {s : State} {j : CxJob} {out : List Byte} (output : jobOutput (slotAt s j.slot) j = some out) (live : jobLive s j = true) :
    releaseJob j s = endJob j (resOk out.length) (hostWrite j.dst out s) := by
  simp only [releaseJob, output, live, if_true]

theorem releaseJob_unverified {s : State} {j : CxJob} (output : jobOutput (slotAt s j.slot) j = none) :
    releaseJob j s = endJob j (resSt 0x21) s := by
  simp only [releaseJob, output]

/-! ### A fault of a core -/

/-- The key of an ended job keeps its fault hold, unless the slot waits to be overwritten. -/
theorem endJob_fhold {j : CxJob} {res : Result} {s : State} (small : j.slot < 64) (stays : (slotAt s j.slot).retire = false)
    (hold : (slotAt s j.slot).fhold = true) : (slotAt (endJob j res s) j.slot).fhold = true := by
  obtain ⟨u, hu⟩ : ∃ u, u = finish j.ring j.desc res (jobDone j.slot s) := ⟨_, rfl⟩
  have slot : slotAt u j.slot = { slotAt s j.slot with held := (slotAt s j.slot).held - 1 } := by
    rw [hu, slotAt_congr (finish_cx ..)]
    exact slotAt_updSlot_same _ _ small
  have settled : slotSettle j.slot u = u := by
    refine if_neg ?_
    rw [slot, stays]
    exact Bool.false_ne_true
  rw [endJob, ← hu, settled, slot]
  exact hold

theorem jobLive_of_hi {s t : State} (hi : t.hi = s.hi) (j : CxJob) : jobLive t j = jobLive s j := by
  rw [jobLive, takenAt, sqAt, hi]
  rfl

theorem dispatchAll_hi (s : State) : (dispatchAll s).hi = s.hi := (dispatchAll_keeps _).hi_eq rfl
theorem noCoreCheck_hi (s : State) : (noCoreCheck s).hi = s.hi := (noCoreCheck_keeps _).hi_eq rfl

theorem noCoreCheck_slot (s : State) : (noCoreCheck s).cx.slot = s.cx.slot := by
  unfold noCoreCheck
  split
  · rfl
  split
  · rfl
  · rw [raise_cx]

/-- The core and the key of a job whose two computations differ, and CX_CORE_FAULT with a free block index. -/
def jobFaults (c : Nat) (j : CxJob) (s : State) : State :=
  raise 0x0701 c [(0, 1, j.slot), (1, 1, 1), (4, 4, (draw s).1.toNat)] (updSlot j.slot (fun k => { k with fhold := true })
    (updCore c (fun x => { x with st := .faulted, job := none, hold := [] }) { s with freeCtr := s.freeCtr + 1 }))

def jobFaulted (c : Nat) (j : CxJob) (s : State) : State := dispatchAll (noCoreCheck (endJob j (resSt 0x22) (jobFaults c j s)))

theorem jobFaulted_leaves {c : Fin 4} {j : CxJob} {s : State} (live : jobLive s j = true) (stays : (slotAt s j.slot).retire = false)
    (small : j.slot < 64) : workOf (jobFaulted c.val j s) j.ring j.desc = some (some (resSt 0x22)) ∧
    coreAt (jobFaulted c.val j s) c.val = { coreAt s c.val with st := .faulted, job := none, hold := [] } ∧
    (slotAt (jobFaulted c.val j s) j.slot).fhold = true := by
  obtain ⟨u, hu⟩ : ∃ u, u = jobFaults c.val j s := ⟨_, rfl⟩
  have hi : u.hi = s.hi := by
    rw [hu, jobFaults, raise_hi]
    rfl
  have core : coreAt u c.val = { coreAt s c.val with st := .faulted, job := none, hold := [] } := by
    rw [hu, jobFaults, coreAt_congr (raise_cx ..)]
    exact coreAt_updCore_same _ _ c.isLt
  have slot : slotAt u j.slot = { slotAt s j.slot with fhold := true } := by
    rw [hu, jobFaults, slotAt_congr (raise_cx ..), slotAt_updSlot_same _ _ small]
    rfl
  have checked : coreAt (noCoreCheck (endJob j (resSt 0x22) u)) c.val = coreAt u c.val := (coreAt_noCoreCheck ..).trans (coreAt_endJob ..)
  rw [jobFaulted, ← hu]
  refine ⟨?_, ?_, ?_⟩
  · rw [workOf_congr ((dispatchAll_hi _).trans (noCoreCheck_hi _)), workOf_endJob]
    exact workOf_finish ((workOf_congr hi ..).trans (workOf_of_jobLive live))
  · rw [coreAt_dispatchAll (by rw [checked, core]; exact CoreSt.noConfusion), checked, core]
  · rw [slotAt_dispatchAll, slotAt, noCoreCheck_slot]
    exact endJob_fhold small (by rw [slot]; exact stays) (by rw [slot])

/-! ### Core resets and enables (R449, R450) -/
theorem resetsSettle_hi (s : State) : (resetsSettle s).hi = s.hi := (resetsSettle_keeps _).hi_eq rfl

/-- What a core reset leaves of the rings is what the end of the core's job leaves. -/
theorem workOf_coreReset (byHost : Bool) (k : Nat) (s : State) (r id : Nat) : workOf (coreReset byHost k s) r id =
    match (coreAt s k).job with
    | some j => workOf (finish j.ring j.desc (resSt 0x10) s) r id
    | none => workOf s r id := by
  unfold coreReset
  extract_lets -merge +onlyGivenNames job cleared ds begun ended
  have hBegun : begun.hi = s.hi := rfl
  have hEnded : workOf (resetsSettle (dispatchAll (noCoreCheck ended))) r id = workOf ended r id :=
    workOf_congr ((resetsSettle_hi _).trans ((dispatchAll_hi _).trans (noCoreCheck_hi _))) r id
  rw [hEnded]
  show workOf ended r id = match job with
    | some j => workOf (finish j.ring j.desc (resSt 0x10) s) r id
    | none => workOf s r id
  unfold ended
  match job with
  | some j => exact (workOf_endJob ..).trans (workOf_congr rfl r id)
  | none => exact workOf_congr hBegun r id

/-- A reset of another core leaves one that is not idle. -/
theorem coreAt_coreReset_other {byHost : Bool} {c k : Nat} {s : State} (other : k ≠ c) (busy : (coreAt s c).st ≠ .idle) :
    coreAt (coreReset byHost k s) c = coreAt s c := by
  unfold coreReset
  extract_lets -merge +onlyGivenNames job cleared ds begun ended
  have hCleared : coreAt cleared c = coreAt s c := (coreAt_updCore ..).trans (if_neg fun h => other h.1)
  have hBegun : coreAt begun c = coreAt cleared c := rfl
  have hEnded : coreAt ended c = coreAt s c := by
    unfold ended
    match job with
    | some j => exact (coreAt_endJob ..).trans (hBegun.trans hCleared)
    | none => exact hBegun.trans hCleared
  have checked : coreAt (noCoreCheck ended) c = coreAt s c := (coreAt_noCoreCheck ..).trans hEnded
  rw [coreAt_congr ((resetsSettle_keeps _).cx_eq rfl), coreAt_dispatchAll (by rw [checked]; exact busy), checked]

/-- The reset bits of a write of CX_CORE over some cores. -/
def coreResets (v : Word) (s : State) (c : Nat) : State := if bitAt v (8 + c) then coreReset false c s else s

theorem cxCoreWrite_eq (v : Word) (s : State) :
    cxCoreWrite v s = (List.range 4).foldl (coreResets v) (coreEnables (BitVec.ofNat 4 (fld v 0 4)) s) := rfl

/-- Through the resets of a write, core c's job is outstanding or ended ABORTED_RESET, and c itself is as the write finds it until its
own reset, FAULTED after it. -/
structure ResetSoFar (c : Nat) (j : CxJob) (done : Bool) (s : State) : Prop where
  ends : EndsWith (resSt 0x10) j.ring j.desc s
  ended : done = true → workOf s j.ring j.desc = some (some (resSt 0x10))
  core : (coreAt s c).st = (if done then .faulted else .busy) ∧ (coreAt s c).job = (if done then none else some j) ∧
    (done = true → (coreAt s c).selfTest = true)

theorem ResetSoFar.other {c k : Nat} {j : CxJob} {done : Bool} {s : State} {v : Word} (h : ResetSoFar c j done s) (other : k ≠ c) :
    ResetSoFar c j done (coreResets v s k) := by
  have busy : (coreAt s c).st ≠ .idle := by
    rw [h.core.1]
    split <;> exact CoreSt.noConfusion
  unfold coreResets
  split
  · have work := workOf_coreReset false k s j.ring j.desc
    refine ⟨?_, fun e => ?_, by rw [coreAt_coreReset_other other busy]; exact h.core⟩
    · unfold EndsWith
      rw [work]
      split
      · exact h.ends.after ..
      · exact h.ends
    · rw [work]
      split
      · exact workOf_finish_done (h.ended e) ..
      · exact h.ended e
  · exact h

theorem ResetSoFar.own {c : Nat} {j : CxJob} {s : State} {v : Word} (h : ResetSoFar c j false s) (small : c < 4) (reset : bitAt v (8 + c) = true) :
    ResetSoFar c j true (coreResets v s c) := by
  obtain ⟨faulted, test, free⟩ := coreReset_core (byHost := false) (s := s) small
  have work := workOf_coreReset false c s j.ring j.desc
  rw [show (coreAt s c).job = some j from h.core.2.1] at work
  have ended : workOf (coreReset false c s) j.ring j.desc = some (some (resSt 0x10)) := work.trans h.ends.ended
  rw [coreResets, if_pos reset]
  exact ⟨Or.inr ended, fun _ => ended, faulted, free, fun _ => test⟩

/-- Over all cores from the first: core c is reset once its turn has come. -/
theorem ResetSoFar.fold {c : Nat} {j : CxJob} {v : Word} (small : c < 4) (reset : bitAt v (8 + c) = true) :
    (l : List Nat) → l.Nodup → (done : Bool) → (s : State) → ResetSoFar c j done s → (done = true → c ∉ l) → (done = false → c ∈ l) →
      ResetSoFar c j true (l.foldl (coreResets v) s)
  | [], _, true, _, h, _, _ => h
  | [], _, false, _, _, _, inside => absurd (inside rfl) List.not_mem_nil
  | k :: l, nodup, done, s, h, past, ahead => by
    obtain ⟨fresh, nodup⟩ := List.nodup_cons.mp nodup
    by_cases own : k = c
    · subst own
      cases done with
      | true => exact absurd List.mem_cons_self (past rfl)
      | false => exact ResetSoFar.fold small reset l nodup true _ (h.own small reset) (fun _ => fresh) (fun e => absurd e Bool.noConfusion)
    · exact ResetSoFar.fold small reset l nodup done _ (h.other own) (fun e inside => past e (List.mem_cons_of_mem _ inside))
        fun e => (List.mem_cons.mp (ahead e)).resolve_left (Ne.symm own)

/-- One core after the enables changed. -/
def coreEnabled (s : State) (k : Nat) : State :=
  let x := coreAt s k
  if x.st = .idle ∨ x.st = .off then updCore k (fun x => { x with st := restState s k }) s else s

theorem coreEnables_eq (en : BitVec 4) (s : State) : coreEnables en s =
    dispatchAll (noCoreCheck ((List.range 4).foldl coreEnabled { s with cx := { s.cx with coreEn := en } })) := rfl

theorem coreEnabled_hi (s : State) (k : Nat) : (coreEnabled s k).hi = s.hi := by
  unfold coreEnabled
  dsimp only
  split <;> rfl

theorem coreAt_coreEnabled {c : Nat} {s : State} (busy : (coreAt s c).st = .busy) (k : Nat) : coreAt (coreEnabled s k) c = coreAt s c := by
  unfold coreEnabled
  dsimp only
  split
  · next rests =>
    refine (coreAt_updCore ..).trans (if_neg fun own => ?_)
    rw [own.1, busy] at rests
    simp at rests
  · rfl

theorem coreAt_enabledAll {c : Nat} : (l : List Nat) → (s : State) → (coreAt s c).st = .busy → coreAt (l.foldl coreEnabled s) c = coreAt s c
  | [], _, _ => rfl
  | k :: l, s, busy => by
    have one := coreAt_coreEnabled busy k
    rw [List.foldl_cons, coreAt_enabledAll l _ (by rw [one]; exact busy), one]

/-- The enables of the cores leave a core that runs a job as it is, and the rings. -/
theorem coreEnables_busy {c : Nat} {s : State} (en : BitVec 4) (busy : (coreAt s c).st = .busy) :
    coreAt (coreEnables en s) c = coreAt s c ∧ (coreEnables en s).hi = s.hi := by
  have cores := coreAt_enabledAll (c := c) (List.range 4) { s with cx := { s.cx with coreEn := en } } busy
  rw [coreEnables_eq]
  refine ⟨?_, ?_⟩
  · have checked := (coreAt_noCoreCheck ((List.range 4).foldl coreEnabled { s with cx := { s.cx with coreEn := en } }) c).trans cores
    rw [coreAt_dispatchAll (by rw [checked]; exact fun idle => CoreSt.noConfusion (busy.symm.trans idle)), checked]
    rfl
  · rw [dispatchAll_hi, noCoreCheck_hi]
    exact foldl_kept (g := State.hi) coreEnabled_hi _ _

/-- A write of CX_CORE without reset bits changes the enables alone. -/
theorem cxCoreWrite_enables {v : Word} {s : State} (none_ : fld v 8 4 = 0) : cxCoreWrite v s = coreEnables (BitVec.ofNat 4 (fld v 0 4)) s := by
  have off : ∀ c < 4, bitAt v (8 + c) = false := fun c small => by
    have bit := congrArg (fun n => n.testBit c) none_
    simpa [fld_testBit, small] using bit
  have kept : ∀ l : List Nat, (∀ c ∈ l, c < 4) → ∀ u, l.foldl (coreResets v) u = u := fun l => by
    induction l with
    | nil => exact fun _ u => rfl
    | cons c l ih =>
      intro small u
      rw [List.foldl_cons, coreResets, off c (small c List.mem_cons_self), if_neg Bool.false_ne_true]
      exact ih (fun c h => small c (List.mem_cons_of_mem _ h)) u
  rw [cxCoreWrite_eq, kept _ fun c => List.mem_range.mp]

/-- The write of CX_CORE by the host adds only which units the host wrote. -/
theorem cxCoreHost_keeps_cx (v : Word) (s : State) : (cxCoreHost v s).cx = (cxCoreWrite v s).cx ∧ (cxCoreHost v s).hi = (cxCoreWrite v s).hi :=
  ⟨foldl_kept (g := State.cx) (fun s c => (hostWrote_keeps (0x20 + c) s).cx_eq rfl) _ _,
    foldl_kept (g := State.hi) (fun s c => (hostWrote_keeps (0x20 + c) s).hi_eq rfl) _ _⟩

end Sys2Proof.Machine

open Sys2Proof Sys2Proof.Machine

/-- Settles O39, by the end of a job in its three forms and, for a write of CX_CORE, by what each of its core resets leaves. -/
theorem cipherCores : Obligations.CipherCores := by
  intro s c j up job
  refine ⟨fun out en none_ output live => ?released, fun en none_ output live => ?unverified, fun live stays small => ?fault,
    fun v reset busy live => ?reset, fun v keep off busy => ?disable⟩
  case released =>
    obtain ⟨t, ht⟩ : ∃ t, t = releaseJob j s := ⟨_, rfl⟩
    have freed := ht.trans (releaseJob_output output live)
    have work : workOf t j.ring j.desc = some (some (resOk out.length)) := by
      rw [freed, workOf_endJob]
      exact workOf_finish (workOf_of_jobLive live)
    have mem : t.hostMem = spPutBytes s.hostMem j.dst out := by
      rw [freed, endJob_hostMem, hostWrite]
    obtain ⟨hi, same, ended⟩ := jobDone_idle (s := s) (c := c) (t := t) (by rw [freed, endJob_coreEn]; exact en)
      (by rw [freed, endJob_jobs]; exact none_) (by rw [freed, coreAt_endJob]; rfl)
    exact completes_does (t := dispatchAll (noCoreCheck (jobLeaves c.val t))) rfl up
      (by simp only [job, Bool.false_eq_true, if_false, ← ht]; rfl) ⟨result_of_workOf ((workOf_congr hi ..).trans work), same.trans mem, ended⟩
  case unverified =>
    obtain ⟨t, ht⟩ : ∃ t, t = releaseJob j s := ⟨_, rfl⟩
    have freed := ht.trans (releaseJob_unverified output)
    have work : workOf t j.ring j.desc = some (some (resSt 0x21)) := by
      rw [freed, workOf_endJob]
      exact workOf_finish (workOf_of_jobLive live)
    obtain ⟨hi, same, ended⟩ := jobDone_idle (s := s) (c := c) (t := t) (by rw [freed, endJob_coreEn]; exact en)
      (by rw [freed, endJob_jobs]; exact none_) (by rw [freed, coreAt_endJob])
    exact completes_does (t := dispatchAll (noCoreCheck (jobLeaves c.val t))) rfl up
      (by simp only [job, Bool.false_eq_true, if_false, ← ht]; rfl)
      ⟨result_of_workOf ((workOf_congr hi ..).trans work), same.trans (by rw [freed, endJob_hostMem]), by rw [ended], by rw [ended]⟩
  case fault =>
    refine completes_does (t := jobFaulted c.val j s) rfl up (by simp only [job, if_true]; rfl) ?_
    obtain ⟨work, core, hold⟩ := jobFaulted_leaves (c := c) live stays small
    exact ⟨result_of_workOf work, core, hold⟩
  case reset =>
    refine completes_host (f := cxCoreHost v) rfl up fun w x => ?_
    obtain ⟨cx, hi⟩ := cxCoreHost_keeps_cx v (s.woken w x)
    obtain ⟨core, rings⟩ := coreEnables_busy (s := s.woken w x) (c := c.val) (BitVec.ofNat 4 (fld v 0 4)) busy
    have begin_ : ResetSoFar c.val j false (coreEnables (BitVec.ofNat 4 (fld v 0 4)) (s.woken w x)) :=
      ⟨Or.inl ((workOf_congr rings ..).trans (workOf_of_jobLive live)), fun e => absurd e Bool.noConfusion,
        core ▸ busy, core ▸ job, fun e => absurd e Bool.noConfusion⟩
    have all := begin_.fold c.isLt reset (List.range 4) List.nodup_range false _ (fun e => absurd e Bool.noConfusion) fun _ => List.mem_range.mpr c.isLt
    rw [← cxCoreWrite_eq] at all
    obtain ⟨st, free, test⟩ := all.core
    rw [coreAt_congr cx]
    exact ⟨result_of_workOf ((workOf_congr hi ..).trans (all.ended rfl)), st, test rfl, free⟩
  case disable =>
    refine completes_host (f := cxCoreHost v) rfl up fun w x => ?_
    obtain ⟨cx, -⟩ := cxCoreHost_keeps_cx v (s.woken w x)
    rw [coreAt_congr cx, cx, cxCoreWrite_enables keep]
    exact ⟨coreEnables_coreEn .., (coreEnables_busy (s := s.woken w x) _ busy).1⟩

end


section
/-! A re-key (13 R452) fails the committed posted writes to the leaf (08 R262, R279), which ends the fences that wait for them
(08 R281). The clause of O40 on an accepted re-key holds of every state, and so of one whose fence bears the number that the ring gives
its next descriptor. -/
namespace Sys2Proof.Machine

/-- A posted write to leaf 1 that was committed once. -/
def postedOnce (s : State) : TxFrame := { txNew tyData 1 [] s with posted := true, built := [0] }

/-- A head with leaf 1 ACTIVE, about to take descriptor 0 of ring 2, a number that a fence on the posted write already has. -/
def staleFence : State :=
  let s := State.reset
  { s with
    hi := { s.hi with
      sq := s.hi.sq.map fun q => { q with st := .running, cfg := 0x80000004, tail := 3 }
      cq := s.hi.cq.map fun q => { q with st := .running, cfg := 0x80000104 } }
    lt := { s.lt with mem := [(1, set512 0 60 3 2)] }
    cx := { s.cx with kdk := some 0 }
    line := { s.line with q := [postedOnce s] }
    ltx := { s.ltx with fences := [{ ring := 2, desc := 0, leaf := 1, failed := false, waits := [(postedOnce s).id] }] } }

/-- CX_REKEY of leaf 1 (15 Table 15.3). -/
def rekeyOne : DescBytes := set512 (set512 0 0 16 0x46) 160 16 1

theorem staleFence_accepts : devUp staleFence = true ∧ accepts 2 rekeyOne 0x46 staleFence = true ∧ staleFence.tmp.locked = false ∧
    staleFence.cx.kdk.isSome = true ∧ eState (entryAt staleFence (dLeaf rekeyOne).toNat) = stActive ∧ newId 2 staleFence = 0 := by
  decide +kernel

/-- The result of a descriptor in the state a command answers. -/
def outResult (o : Out) (r : Fin 16) (id : Nat) : Option Result := match o with
  | .next t => resultAt t r id
  | _ => none

/-- The fence ends REMOTE_TIMEOUT and with it the descriptor of that number, before the re-key would end it OK. -/
theorem staleFence_result : outResult (exec (.cxRekey 2 rekeyOne) staleFence) 2 0 = some (resSt 0x42 0) := by
  decide +kernel

end Sys2Proof.Machine

open Sys2Proof Sys2Proof.Machine

/-- Refutes O40: an accepted CX_REKEY need not end OK where a fence bears the number of the descriptor just taken, which no clause
excludes (no run reaches such a state). -/
theorem not_keys : ¬ Obligations.Keys := by
  intro h
  obtain ⟨up, accepted, unlocked, key, active, fresh⟩ := staleFence_accepts
  obtain ⟨-, -, -, -, -, -, -, rekey, -⟩ := h staleFence 2 rekeyOne up
  obtain ⟨t, answers, result, -⟩ := rekey accepted unlocked key (Or.inl active)
  have ended : resultAt t 2 0 = some (resSt 0x42 0) := by
    have := staleFence_result
    rwa [answers] at this
  rw [fresh, ended] at result
  exact absurd result (by decide)

end


section
/-! Descriptors taken from a ring and the records that complete them (15 R492 to R503; 08 R277 to R281; 17 R535 to R540). -/
namespace Sys2Proof.Machine

/-! ### The state that a descriptor's work begins in -/

/-- A state with other rings and ledgers. -/
def State.hosted (s : State) (h : Hi) (l : Lg) : State := { s with hi := h, lg := l }

theorem TakenFrom.hosted {r : Fin 16} {d : DescBytes} {s u : State} (h : TakenFrom r d s u) : u = s.hosted u.hi u.lg := by
  rw [h]
  simp only [takeDesc, issue, updCq, updSq, State.hosted]

theorem cqAt_takeDesc (r : Fin 16) (d : DescBytes) (s : State) : cqAt (takeDesc r.val d s).2 (sqCq (sqAt s r.val)) =
    { cqAt s (sqCq (sqAt s r.val)) with reserved := (cqAt s (sqCq (sqAt s r.val))).reserved + 1 } := by
  have small : sqCq (sqAt s r.val) < 16 := fld_lt _ 16 4
  have ring := cqAt_updCq_same ⟨sqCq (sqAt s r.val), small⟩ (fun c => { c with reserved := c.reserved + 1 }) s
  simp only [cqAt, updCq] at ring
  simp only [takeDesc, cqAt, updCq, updSq, issue, ring]

theorem cqAt_finish (r id m : Nat) (res : Result) (s : State) : cqAt (finish r id res s) m = cqAt s m := rfl

/-- A frame of a descriptor reads neither rings nor ledgers. -/
theorem descFrame_hosted (r id : Nat) (d : DescBytes) (ty : Nat) (dst : BitVec 12) (body : List Byte) (s : State) (h : Hi) (l : Lg) :
    descFrame r id d ty dst body (s.hosted h l) = descFrame r id d ty dst body s := rfl

/-- A frame to a leaf that is there, or to all, is not swept away. -/
theorem sweepLeaf_there {n : Nat} {s : State} (there : n = 4095 ∨ eState (entryAt s n) ≠ stFree ∧ eState (entryAt s n) ≠ stGone) :
    sweepLeaf n s = s := by
  refine if_neg ?_
  obtain all | ⟨free, gone⟩ := there
  · simp [all]
  · simp [free, gone]

/-- A data buffer read in full. -/
theorem withData_region {r id addr len : Nat} {bs : List Byte} {k : List Byte → State → State} {s : State} (inside : regionOk s addr len = true)
    (full : bs.length = len) : withData (.data bs) r id addr len k s = k bs s :=
  (if_pos inside).trans (congrArg (k · s) (padded_full full))

theorem withData_full {r id addr len : Nat} {bs : List Byte} {k : List Byte → State → State} {s : State} (pcie : s.cln.hostmode = false)
    (full : bs.length = len) : withData (.data bs) r id addr len k s = k bs s :=
  withData_region (by simp [regionOk, pcie]) full

/-- The same for a descriptor that is taken only while something it needs is free. -/
theorem completes_takenWhile {c : Instr} {free_ : State → Bool} {ok : Nat → Bool} {r : Fin 16} {d : DescBytes} {op : Nat} {s : State}
    {body : Nat → State → State} {P : State → Prop} (e : exec c s = run s fun s => if free_ s then descRow ok r d body s else s)
    (has : free_ s = true) (up : devUp s = true) (known : ok op = true) (h : accepts r d op s = true)
    (p : ∀ u, TakenFrom r d s u → P (body (newId r s) u)) (free : QueueFree P := by intros _ _; rfl) : Completes c s P :=
  completes_does e up ((if_pos has).trans (descRow_of_accepts body known h)) (p _ rfl) free

/-! ### RX_POST (15 R500) -/

/-- A buffer posted for received frames. -/
def rxOf (r id : Nat) (d : DescBytes) : RxPostS := { ring := r, desc := id, addr := dAddr d, len := dLen d }

def rxPosted (p : RxPostS) (s : State) : State := { s with hi := { s.hi with rxPosts := s.hi.rxPosts ++ [p] } }

/-- With no frame waiting nothing is delivered. -/
theorem rxFill_none {s : State} (none_ : s.hi.rxWait = []) (n : Nat) : rxFill n s = s := by
  cases n with
  | zero => rfl
  | succ n =>
    unfold rxFill
    rw [none_]
    match s.hi.rxPosts with
    | [] => rfl
    | p :: ps => rfl

theorem rxFillAll_none {s : State} (none_ : s.hi.rxWait = []) : rxFillAll s = s := rxFill_none none_ _

/-! ### LINE_TX and the REMOTE descriptors -/

theorem takeBuf_hosted (express : Bool) (s : State) : takeBuf express s = s.hosted (takeBuf express s).hi (takeBuf express s).lg := rfl

/-- The frame of a LINE_TX. -/
def txOf (r id : Nat) (d : DescBytes) (bs : List Byte) (s : State) : TxFrame :=
  { descFrame r id d tyData (dLeaf d) bs s with ackreq := decide (dLeaf d ≠ bcast) }

/-- LINE_TX at a head to a leaf that is there. -/
theorem lineTx_head {r id : Nat} {d : DescBytes} {bs : List Byte} {s : State} (head : isHead s = true) (other : dLeaf d ≠ 0)
    (short : dLen d ≤ 512) (unlocked : s.tmp.locked = false) (pcie : s.cln.hostmode = false) (full : bs.length = dLen d)
    (there : (dLeaf d).toNat = 4095 ∨ eState (entryAt s (dLeaf d).toNat) ≠ stFree ∧ eState (entryAt s (dLeaf d).toNat) ≠ stGone) :
    lineTx r id d (.data bs) s = submit (txOf r id d bs s) (takeBuf (dExpress d) s) := by
  have leaf : isLeaf s = false := by simpa [isLeaf, isHead] using head
  have sweeps : sweepLeaf (dLeaf d).toNat (submit (txOf r id d bs (takeBuf (dExpress d) s)) (takeBuf (dExpress d) s)) =
      submit (txOf r id d bs s) (takeBuf (dExpress d) s) := sweepLeaf_there there
  have role : ¬ (isLeaf s && decide (dLeaf d ≠ 0) || isHead s && decide (dLeaf d = 0)) = true := fun bad =>
    other (by simpa [leaf, head] using bad)
  unfold lineTx
  refine (if_neg (Nat.not_lt.mpr short)).trans ((if_neg role).trans ((if_neg (Bool.eq_false_iff.mp unlocked)).trans ?_))
  split
  · next empty =>
    have nil : bs = [] := List.length_eq_zero_iff.mp (full.trans empty)
    subst nil
    exact (if_neg (Bool.eq_false_iff.mp leaf)).trans sweeps
  · refine (withData_full pcie full).trans ?_
    exact (if_neg (Bool.eq_false_iff.mp leaf)).trans sweeps

theorem remoteRead_sends {r id : Nat} {d : DescBytes} {s : State} (good : remoteCheck d = none) (unlocked : s.tmp.locked = false)
    (there : eState (entryAt s (dLeaf d).toNat) ≠ stFree ∧ eState (entryAt s (dLeaf d).toNat) ≠ stGone) : remoteRead r id d s =
      submit { descFrame r id d tyRemote (dLeaf d) (remoteBody 0 (dLen d / 4) 0 (field512 d 28 4) []) s with buffer := false } s := by
  unfold remoteRead
  rw [good]
  exact (if_neg (Bool.eq_false_iff.mp unlocked)).trans (sweepLeaf_there (.inr there))

theorem remoteWrite_sends {r id : Nat} {d : DescBytes} {bs : List Byte} {s : State} (good : remoteCheck d = none)
    (answered : dPosted d = false) (unlocked : s.tmp.locked = false) (pcie : s.cln.hostmode = false) (full : bs.length = dLen d)
    (there : eState (entryAt s (dLeaf d).toNat) ≠ stFree ∧ eState (entryAt s (dLeaf d).toNat) ≠ stGone)
    (sound : ePfail (entryAt s (dLeaf d).toNat) = false) : remoteWrite r id d (.data bs) s =
      submit { descFrame r id d tyRemote (dLeaf d) (remoteBody 1 (dLen d / 4) 0 (field512 d 28 4) bs) s with posted := false }
        (takeBuf (dExpress d) s) := by
  have sweeps : ∀ f, pfailSweep (dLeaf d).toNat (sweepLeaf (dLeaf d).toNat (submit f (takeBuf (dExpress d) s))) = submit f (takeBuf (dExpress d) s) :=
    fun f => (congrArg _ (sweepLeaf_there (s := submit f (takeBuf (dExpress d) s)) (.inr there))).trans (if_neg (Bool.eq_false_iff.mp sound))
  unfold remoteWrite
  rw [good]
  refine (if_neg (Bool.eq_false_iff.mp unlocked)).trans ((withData_full pcie full).trans ?_)
  simp only [answered, Bool.false_eq_true, if_false, sweeps]
  rfl

/-- A fence with nothing to wait for completes at once (08 R281). -/
theorem fence_alone {f : Fence} {s : State} (none_ : s.ltx.fences = []) (waits : f.waits = []) (good : f.failed = false)
    (sound : ePfail (entryAt s f.leaf.toNat) = false) :
    fencesSettle { s with ltx := { s.ltx with fences := s.ltx.fences ++ [f] } } =
      finish f.ring f.desc (resOk 0) { s with ltx := { s.ltx with fences := [] } } := by
  simp only [fencesSettle, none_, List.nil_append, List.filter_cons, waits, List.isEmpty_nil, List.filter_nil, List.foldl_cons, List.foldl_nil,
    Bool.not_true, Bool.false_eq_true, if_true, if_false]
  exact if_neg fun bad => (Bool.or_eq_true_iff.mp bad).elim (fun h => Bool.false_ne_true (good.symm.trans h))
    fun h => Bool.false_ne_true (sound.symm.trans h)

/-! ### LEDGER_SNAP (17 R537 to R540) -/

theorem length_leBytes : (n v : Nat) → (leBytes n v).length = n
  | 0, _ => rfl
  | n + 1, v => by rw [leBytes, List.length_cons, length_leBytes]

theorem length_snapHeader (s : State) (total written : Nat) : (snapHeader s total written).length = 32 := by
  simp [snapHeader, length_leBytes]

theorem length_snapEntry (s : State) (k : Nat × Nat) : (snapEntry s k).length = 32 := by
  simp [snapEntry, length_leBytes]

theorem length_snapEntries (s : State) (l : List (Nat × Nat)) : ((l.map (snapEntry s)).flatten).length = 32 * l.length := by
  induction l with
  | nil => rfl
  | cons k l ih => simp only [List.map_cons, List.flatten_cons, List.length_append, length_snapEntry, ih, List.length_cons]; omega

/-- The state a snapshot is taken of: counted, its ledgers as they stand. -/
def snapOf (s : State) : State := { s with lg := { s.lg with snapCnt := inc32 s.lg.snapCnt } }

/-- The bytes of a snapshot with n entries. -/
def snapBytes (u : State) (n : Nat) : List Byte :=
  snapHeader u (snapKeys u).length n ++ (((snapKeys u).take n).map (snapEntry u)).flatten

theorem length_snapBytes {u : State} {n : Nat} (few : n ≤ (snapKeys u).length) : (snapBytes u n).length = 32 + 32 * n := by
  rw [snapBytes, List.length_append, length_snapHeader, length_snapEntries, List.length_take_of_le few]

theorem ledgerSnap_writes {r id : Nat} {d : DescBytes} {s : State} (aligned : dAddr d % 32 = 0) (long : 32 ≤ dLen d)
    (pcie : s.cln.hostmode = false) : ledgerSnap r id d s =
      finish r id (resOk (32 + 32 * min (snapKeys (snapOf s)).length ((dLen d - 32) / 32)))
        (hostWrite (dAddr d) (snapBytes (snapOf s) (min (snapKeys (snapOf s)).length ((dLen d - 32) / 32))) (snapOf s)) := by
  unfold ledgerSnap
  refine (if_neg (not_not.mpr aligned)).trans ((if_neg (Nat.not_lt.mpr long)).trans ((withDst_pcie pcie).trans ?_))
  rw [← length_snapBytes (Nat.min_le_left _ _)]
  rfl

/-! ### MSS_REQUEST (17 R535, 18 R555) -/

theorem sqAt_placeMail (r : Fin 16) (id : Nat) (s : State) : sqAt (placeMail r.val id s) r.val = { sqAt s r.val with
    taken := (sqAt s r.val).taken.map fun t => if t.id = id then { t with mail := true } else t } := by
  rw [placeMail, sqAt_issue]
  exact sqAt_updSq r _ s

theorem takenAt_placeMail (r : Fin 16) (id : Nat) (s : State) :
    takenAt (placeMail r.val id s) r.val id = (takenAt s r.val id).map fun t => { t with mail := true } := by
  have sameIds : (fun k : Taken => decide (k.id = id)) ∘ (fun t => if t.id = id then { t with mail := true } else t) = fun k => decide (k.id = id) := by
    funext k
    simp only [Function.comp_apply]
    split <;> rfl
  rw [takenAt, sqAt_placeMail, List.find?_map, sameIds, takenAt]
  match found : (sqAt s r.val).taken.find? fun k => decide (k.id = id) with
  | none => simp only [found, Option.map_none]
  | some k =>
    have here : k.id = id := by simpa using List.find?_some found
    simp only [found, Option.map_some, if_pos here]

/-- The state in which the work of a request begins: its mailbox slot is taken. -/
def MailFrom (r : Fin 16) (d : DescBytes) (s u : State) : Prop := u = placeMail r.val (newId r s) (takeDesc r.val d s).2

theorem descRowPre_of_accepts {r : Fin 16} {d : DescBytes} {s : State} (body : Nat → State → State) (h : accepts r d 0x60 s = true) :
    descRowPre (placeMail r.val) (· == 0x0060) r d body s = body (newId r s) (placeMail r.val (newId r s) (takeDesc r.val d s).2) := by
  simp only [accepts, Bool.and_eq_true, decide_eq_true_eq, Option.isNone_iff_eq_none] at h
  obtain ⟨⟨⟨⟨served, fence⟩, opcode⟩, passes⟩, -⟩ := h
  have cfg : (sqAt (placeMail r.val (newId r s) (takeDesc r.val d s).2) r.val).cfg = (sqAt s r.val).cfg := by
    rw [sqAt_placeMail, sqAt_takeDesc]
  have cln : (placeMail r.val (newId r s) (takeDesc r.val d s).2).cln = s.cln := ((placeMail_keeps ..).cln_eq rfl).trans ((takeDesc_keeps ..).cln_eq rfl)
  have checks := (descCheck_congr d cln cfg).trans passes
  simp [descRowPre, served, fence, opcode, checks]

theorem MailFrom.mss {r : Fin 16} {d : DescBytes} {s u : State} (h : MailFrom r d s u) : u.mss = s.mss :=
  h ▸ ((placeMail_keeps ..).mss_eq rfl).trans ((takeDesc_keeps ..).mss_eq rfl)
theorem MailFrom.cln {r : Fin 16} {d : DescBytes} {s u : State} (h : MailFrom r d s u) : u.cln = s.cln :=
  h ▸ ((placeMail_keeps ..).cln_eq rfl).trans ((takeDesc_keeps ..).cln_eq rfl)
theorem MailFrom.hostMem {r : Fin 16} {d : DescBytes} {s u : State} (h : MailFrom r d s u) : u.hostMem = s.hostMem :=
  h ▸ ((placeMail_keeps ..).hostMem_eq rfl).trans ((takeDesc_keeps ..).hostMem_eq rfl)

theorem MailFrom.takenAt {r : Fin 16} {d : DescBytes} {op : Nat} {s u : State} (h : MailFrom r d s u) (accepted : accepts r d op s = true) :
    takenAt u r.val (newId r s) = some { Taken.started (newId r s) d with mail := true } := by
  rw [h, takenAt_placeMail, takenAt_takeDesc d (idFresh_of_accepts accepted)]
  rfl

/-- The request a descriptor brings. -/
def mailOf (r id : Nat) (d : DescBytes) (bs : List Byte) : Mail :=
  { ring := r, desc := id, req := bs, addr := field512 d 24 8, cap := field512 d 32 4 }

/-- The request waits in the mailbox. -/
def mailed (m : Mail) (s : State) : State := { s with mss := { s.mss with mail := s.mss.mail ++ [m] } }

theorem mssRequest_mails {r id : Nat} {d : DescBytes} {bs : List Byte} {s : State} (long : 4 ≤ dLen d) (short : dLen d ≤ 256)
    (cap : field512 d 32 4 ≤ 4096) (ready : s.mss.st = 1) (pcie : s.cln.hostmode = false) (full : bs.length = dLen d) :
    mssRequest r id d (.data bs) s = mailed (mailOf r id d bs) s := by
  unfold mssRequest
  refine (if_neg (by omega)).trans ((if_neg (Nat.not_lt.mpr cap)).trans ((if_neg ?_).trans (withData_full pcie full)))
  simp [mssUp, ready]

/-- Alone in the mailbox with a command that is none, a request is answered RESULT 0x01. -/
theorem mailSettle_unknown {m : Mail} {s : State} (alone : s.mss.mail = [m]) (ready : s.mss.st = 1)
    (none_ : mailCmds.contains (mailCmd m) = false) : mailSettle s = answerMail m 1 [] s := by
  have here : (mssUp s && !mailCmds.contains (mailCmd m)) = true := by simp only [mssUp, ready, none_]; rfl
  rw [mailSettle, alone, List.length_singleton, mailUnknown, alone]
  exact (if_pos here).trans rfl

/-! ### Completion records (15 R494, R495) -/

theorem zeroSettle_none {s : State} (none_ : s.tmp.zero = []) : zeroSettle s = s := by
  unfold zeroSettle
  simp only [none_, List.filter_nil, List.foldl_nil]
  rw [← none_]

theorem resetsSettle_none {s : State} (none_ : s.lg.resets = []) : resetsSettle s = s := by
  unfold resetsSettle
  simp only [none_, List.filter_nil, List.foldl_nil]
  rw [← none_]

theorem resetsDrop_none {r id : Nat} {s : State} (zero : s.tmp.zero = []) (resets : s.lg.resets = []) : resetsDrop r id s = s := by
  unfold resetsDrop
  simp only [zero, resets, List.map_nil]
  rw [← zero, ← resets]

/-- Where nothing waits for a completion, nothing goes on after it. -/
theorem afterPost_none {r : Nat} {t : Taken} {res : Result} {s : State} (zero : s.tmp.zero = []) (resets : s.lg.resets = [])
    (restart : s.mss.restartDue = none) (prof : s.mss.prof = none) : afterPost r t res s = s := by
  have settled : zeroSettle (resetsSettle (resetsDrop r t.id s)) = s := by
    rw [resetsDrop_none zero resets, resetsSettle_none resets, zeroSettle_none zero]
  simp only [afterPost, settled, restart, prof]

/-- The completion ring after a record. -/
def cplWritten (now : Nat) (c : Cq) : Cq :=
  { c with tail := (c.tail + 1) % ringSize c.cfg, seq := nextSeqNo c.seq, reserved := c.reserved - 1, written := c.written ++ [now] }

/-- A record without events, in a ring whose notification is not armed. -/
theorem writeCpl_quiet {r : Nat} {m : Fin 16} {t : Taken} {res : Result} {s : State} (events : t.events = []) (event : dEvent t.bytes = false)
    (armed : (cqAt s m.val).armed = false) : writeCpl r m.val t res s = updCq m.val (cplWritten s.now)
      (hostWrite ((cqAt s m.val).base.toNat + 16 * (cqAt s m.val).tail) (cplBytes r t res (cqAt s m.val).seq) s) := by
  have quiet : ∀ w, (cqAt w m.val).armed = false → cqNotify m.val w = w := fun w unarmed => if_neg (by rw [unarmed]; exact Bool.false_ne_true)
  obtain ⟨w, hw⟩ : ∃ w, w = hostWrite ((cqAt s m.val).base.toNat + 16 * (cqAt s m.val).tail) (cplBytes r t res (cqAt s m.val).seq) s := ⟨_, rfl⟩
  have now : w.now = s.now := by rw [hw, hostWrite_now]
  have ring : cqAt w m.val = cqAt s m.val := cqAt_congr (by rw [hw, hostWrite_hi]) m.val
  unfold writeCpl
  simp only [events, List.foldl_nil, event, Bool.false_eq_true, if_false, ← hw]
  rw [now]
  refine quiet (updCq m.val (cplWritten s.now) w) ?_
  rw [cqAt_updCq_same, ring]
  exact armed

/-- The oldest descriptor completed, its ring's record written. -/
theorem postOldest_quiet {r : Fin 16} {k : Taken} {l : List Taken} {res : Result} {s : State} (oldest : (sqAt s r.val).taken = k :: l)
    (result : k.result = some res) (on : (cqAt s (sqCq (sqAt s r.val))).st = .running) (restart : s.mss.restartDue = none)
    (prof : s.mss.prof = none) (zero : s.tmp.zero = []) (resets : s.lg.resets = []) (events : k.events = []) (event : dEvent k.bytes = false)
    (armed : (cqAt s (sqCq (sqAt s r.val))).armed = false) :
    (sqAt (postOldest r.val s) r.val).taken = l ∧
    cqAt (postOldest r.val s) (sqCq (sqAt s r.val)) = cplWritten s.now (cqAt s (sqCq (sqAt s r.val))) ∧
    (postOldest r.val s).hostMem = spPutBytes s.hostMem ((cqAt s (sqCq (sqAt s r.val))).base.toNat + 16 * (cqAt s (sqCq (sqAt s r.val))).tail)
      (cplBytes r.val k res (cqAt s (sqCq (sqAt s r.val))).seq) := by
  obtain ⟨m, hm⟩ : ∃ m : Fin 16, m.val = sqCq (sqAt s r.val) := ⟨⟨_, fld_lt _ 16 4⟩, rfl⟩
  rw [← hm] at on armed ⊢
  unfold postOldest
  extract_lets -merge +onlyGivenNames q m'
  have hm' : m' = m.val := hm.symm
  rw [show q.taken = k :: l from oldest]
  simp only [result, hm']
  obtain ⟨u, hu⟩ : ∃ u, u = giveBack 1 r.val 1 (updSq r.val (fun q => { q with
    taken := l, st := if q.st = .stopping ∧ l.isEmpty then .disabled else q.st }) s) := ⟨_, rfl⟩
  obtain ⟨v, hv⟩ : ∃ v, v = if k.mail then giveBack 8 0 1 u else u := ⟨_, rfl⟩
  rw [← hu, ← hv]
  have hi : v.hi = (updSq r.val (fun q => { q with taken := l, st := if q.st = .stopping ∧ l.isEmpty then .disabled else q.st }) s).hi := by
    rw [hv, hu]
    split <;> rfl
  obtain ⟨now, mem, mss, tmp, back⟩ : v.now = s.now ∧ v.hostMem = s.hostMem ∧ v.mss = s.mss ∧ v.tmp = s.tmp ∧ v.lg.resets = s.lg.resets := by
    rw [hv, hu]
    split <;> exact ⟨rfl, rfl, rfl, rfl, rfl⟩
  have ring : cqAt v m.val = cqAt s m.val := cqAt_congr hi m.val
  have taken : (sqAt v r.val).taken = l := by rw [sqAt_congr hi, sqAt_updSq]
  obtain ⟨x, hx⟩ : ∃ x, x = hostWrite ((cqAt s m.val).base.toNat + 16 * (cqAt s m.val).tail) (cplBytes r.val k res (cqAt s m.val).seq) v :=
    ⟨_, rfl⟩
  have put : x.hostMem = spPutBytes s.hostMem ((cqAt s m.val).base.toNat + 16 * (cqAt s m.val).tail) (cplBytes r.val k res (cqAt s m.val).seq) := by
    rw [hx, hostWrite, mem]
  have same : x.hi = v.hi ∧ x.tmp = v.tmp ∧ x.lg = v.lg ∧ x.mss = v.mss := by
    rw [hx]
    exact ⟨hostWrite_hi .., hostWrite_tmp .., hostWrite_lg .., hostWrite_mss ..⟩
  obtain ⟨hiX, tmpX, lgX, mssX⟩ := same
  obtain ⟨w, hw⟩ : ∃ w, w = updCq m.val (cplWritten s.now) x := ⟨_, rfl⟩
  have written : writeCpl r.val m.val k res v = w := by
    rw [writeCpl_quiet events event (by rw [ring]; exact armed), ring, now, ← hx, hw]
  have after : afterPost r.val k res w = w := by
    refine afterPost_none ?_ ?_ ?_ ?_
    · rw [hw]; exact (congrArg Tmp.zero (tmpX.trans tmp)).trans zero
    · rw [hw]; exact (congrArg Lg.resets lgX).trans (back.trans resets)
    · rw [hw]; exact (congrArg Mss.restartDue (mssX.trans mss)).trans restart
    · rw [hw]; exact (congrArg Mss.prof (mssX.trans mss)).trans prof
  rw [ring, if_pos on, written, after, hw]
  refine ⟨?_, ?_, put⟩
  · rw [← taken, ← sqAt_congr hiX]
    rfl
  · rw [cqAt_updCq_same, cqAt_congr hiX, ring]

end Sys2Proof.Machine

open Sys2Proof Sys2Proof.Machine

/-- Settles O43, by the outcomes of each descriptor's work on the state it begins in. -/
theorem descriptors : Obligations.Descriptors := by
  intro s r d up
  refine ⟨fun h => ?nop, fun served fence unknown fresh => ?unknown, fun served => ?readError, fun h long none_ => ?rxPost,
    fun bs free h full short pcie unlocked head other there => ?lineTx, fun m free h long => ?tooLong,
    fun h good unlocked head notFree notGone => ?read, fun bs free h good answered unlocked pcie full head notFree notGone sound => ?write,
    fun h some_ one unlocked none_ quiet sound => ?fence, fun h aligned long pcie => ?snap,
    fun bs free h long short cap ready pcie full known others => ?mail, fun bs free h long short cap ready pcie full none_ empty => ?answered,
    fun k l res oldest result awake on restart prof zero resets events event armed => ?post⟩
  case nop =>
    refine completes_taken rfl up rfl h fun u from_ => ⟨resultAt_taken (resOk 0) h from_ rfl, ?_, ?_⟩
    · rw [sqAt_finish, from_, sqAt_takeDesc]
    · rw [cqAt_finish, from_, cqAt_takeDesc]
  case unknown =>
    have checks : descCheck r.val d s = some 1 := if_pos (by simp only [unknown]; rfl)
    refine completes_does (t := finish r.val (newId r s) (resBad 1) (takeDesc r.val d s).2) rfl up ?_
      (resultAt_finish (resBad 1) (takenAt_takeDesc d fresh) rfl)
    simp only [descRow, descRowPre, served, fence, unknown, Bool.not_false, Bool.and_self, if_true, takeDesc_id, descCheck_takeDesc, checks]
  case readError =>
    exact completes_does (t := ringFault false r.val 2 0 (updSq r.val (fun q => { q with st := .fault, fcause := 2 }) s)) rfl up
      (if_pos served) (ringFault_hi ..)
  case rxPost =>
    refine completes_taken rfl up rfl h fun u from_ => ?_
    have posts : u.hi.rxPosts = s.hi.rxPosts := by rw [from_]; rfl
    have waits : u.hi.rxWait = [] := by rw [from_]; exact none_
    have does : (if dLen d < 528 then finish r.val (newId r s) (resBad 3) u else rxFillAll (rxPosted (rxOf r.val (newId r s) d) u)) =
        rxPosted (rxOf r.val (newId r s) d) u := (if_neg (Nat.not_lt.mpr long)).trans (rxFillAll_none waits)
    have leaves : (rxPosted (rxOf r.val (newId r s) d) u).hi.rxPosts = s.hi.rxPosts ++ [rxOf r.val (newId r s) d] :=
      congrArg (· ++ _) posts
    have found : takenAt (rxPosted (rxOf r.val (newId r s) d) u) r.val (newId r s) = some (Taken.started (newId r s) d) :=
      takenAt_taken (v := u) h from_ rfl
    refine does ▸ ⟨leaves, ?_⟩
    rw [found]
    rfl
  case lineTx =>
    refine completes_takenWhile (free_ := fun s => bufFree s (dExpress d)) rfl free up rfl h fun u from_ => ?_
    have place := from_.hosted
    have entry : ∀ n, entryAt u n = entryAt s n := fun n => by rw [place]; rfl
    have leaf : (dLeaf d).toNat = 4095 ∨ eState (entryAt u (dLeaf d).toNat) ≠ stFree ∧ eState (entryAt u (dLeaf d).toNat) ≠ stGone :=
      there.imp (fun all => by rw [all]; rfl) fun here => by rw [entry]; exact here
    rw [lineTx_head (by rw [place]; exact head) other short (from_.tmp ▸ unlocked) (from_.cln ▸ pcie) full leaf, txOf]
    have frame := descFrame_hosted r.val (newId r s) d tyData (dLeaf d) bs s u.hi u.lg
    rw [← place] at frame
    rw [frame]
    have queue : u.line.q = s.line.q := by rw [place]; rfl
    have bufs : u.hi.bufsUsed = s.hi.bufsUsed := by rw [from_]; rfl
    exact ⟨congrArg (· ++ _) queue, congrArg (· + 1) bufs⟩
  case tooLong =>
    refine completes_takenWhile (free_ := fun s => bufFree s (dExpress d)) rfl free up rfl h fun u from_ => ?_
    have ends : lineTx r.val (newId r s) d m u = finish r.val (newId r s) (resBad 3) u := if_pos long
    rw [ends]
    exact ⟨by rw [from_.hosted]; rfl, resultAt_taken (resBad 3) h from_ rfl⟩
  case read =>
    refine completes_taken rfl up rfl h fun u from_ => ?_
    have place := from_.hosted
    have frame := descFrame_hosted r.val (newId r s) d tyRemote (dLeaf d) (remoteBody 0 (dLen d / 4) 0 (field512 d 28 4) []) s u.hi u.lg
    have entry : ∀ n, entryAt u n = entryAt s n := fun n => by rw [place]; rfl
    have queue : u.line.q = s.line.q := by rw [place]; rfl
    rw [← place] at frame
    rw [remoteRead_sends good (from_.tmp ▸ unlocked) (by rw [entry]; exact ⟨notFree, notGone⟩), frame]
    exact congrArg (· ++ _) queue
  case write =>
    refine completes_takenWhile (free_ := fun s => bufFree s (dExpress d)) rfl free up rfl h fun u from_ => ?_
    have place := from_.hosted
    have frame := descFrame_hosted r.val (newId r s) d tyRemote (dLeaf d) (remoteBody 1 (dLen d / 4) 0 (field512 d 28 4) bs) s u.hi u.lg
    have entry : ∀ n, entryAt u n = entryAt s n := fun n => by rw [place]; rfl
    have queue : u.line.q = s.line.q := by rw [place]; rfl
    have bufs : u.hi.bufsUsed = s.hi.bufsUsed := by rw [from_]; rfl
    rw [← place] at frame
    rw [remoteWrite_sends good answered (from_.tmp ▸ unlocked) (from_.cln ▸ pcie) full (by rw [entry]; exact ⟨notFree, notGone⟩)
      (by rw [entry]; exact sound), frame]
    exact ⟨congrArg (· ++ _) queue, congrArg (· + 1) bufs⟩
  case fence =>
    refine completes_taken rfl up rfl h fun u from_ => ?_
    have place := from_.hosted
    have queue : u.line = s.line := by rw [place]; rfl
    have fences : u.ltx.fences = [] := by rw [place]; exact none_
    have waits : (u.line.q.filter fun f => f.posted && decide (f.dst = dLeaf d)).map (·.id) = [] := by
      rw [queue, List.map_eq_nil_iff, List.filter_eq_nil_iff]
      exact fun f inside bad => Bool.false_ne_true (quiet.symm.trans (List.any_eq_true.mpr ⟨f, inside, bad⟩))
    have entry : ePfail (entryAt u (dLeaf d).toNat) = false := by rw [place]; exact sound
    have ends := fence_alone (f := { ring := r.val, desc := newId r s, leaf := dLeaf d, failed := false, waits := _ }) fences waits rfl entry
    rw [if_neg (not_or.mpr ⟨some_, one⟩), if_neg (by rw [from_.tmp, unlocked]; exact Bool.false_ne_true), ends]
    exact ⟨resultAt_taken (resOk 0) h from_ rfl, rfl⟩
  case snap =>
    intro k u n
    refine completes_taken rfl up rfl h fun v from_ => ?_
    have snap : snapOf v = u := by
      rw [from_]
      rfl
    have mem : u.hostMem = s.hostMem := (takeDesc_keeps r.val d s).hostMem_eq rfl
    have count : min (snapKeys u).length ((dLen d - 32) / 32) = n := rfl
    rw [ledgerSnap_writes aligned long (from_.cln ▸ pcie), snap, count]
    clear_value n u
    have hi : (hostWrite (dAddr d) (snapBytes u n) u).hi = v.hi := by
      rw [hostWrite_hi, ← snap]
      rfl
    refine ⟨resultAt_taken _ h from_ hi, by rw [(finish_keeps ..).lg_eq rfl, hostWrite_lg], ?_⟩
    rw [(finish_keeps ..).hostMem_eq rfl, hostWrite, ← mem, snapBytes]
  case mail =>
    obtain ⟨u, from_⟩ : ∃ u, MailFrom r d s u := ⟨_, rfl⟩
    have does : descRowPre (placeMail r.val) (· == 0x0060) r d (fun id => mssRequest r.val id d (.data bs)) s
        = mailed (mailOf r.val (newId r s) d bs) u := by
      rw [descRowPre_of_accepts _ h, ← from_]
      exact mssRequest_mails long short cap (from_.mss ▸ ready) (from_.cln ▸ pcie) full
    have all : (mailed (mailOf r.val (newId r s) d bs) u).mss.mail = s.mss.mail ++ [mailOf r.val (newId r s) d bs] :=
      congrArg (· ++ _) (congrArg Mss.mail from_.mss)
    have settled : mailSettle (mailed (mailOf r.val (newId r s) d bs) u) = mailed (mailOf r.val (newId r s) d bs) u :=
      mailSettle_known (by rw [all, List.all_append, others, List.all_cons, List.all_nil, Bool.true_and, Bool.and_true]; exact known)
    refine completes_does (t := mailed (mailOf r.val (newId r s) d bs) u) rfl up ((if_pos free).trans (by rw [does, settled])) ⟨all, ?_⟩
    exact (congrArg (Option.map (·.mail)) (from_.takenAt h)).trans rfl
  case answered =>
    obtain ⟨u, from_⟩ : ∃ u, MailFrom r d s u := ⟨_, rfl⟩
    obtain ⟨m, hm⟩ : ∃ m, m = mailOf r.val (newId r s) d bs := ⟨_, rfl⟩
    have does : descRowPre (placeMail r.val) (· == 0x0060) r d (fun id => mssRequest r.val id d (.data bs)) s = mailed m u := by
      rw [descRowPre_of_accepts _ h, ← from_, hm]
      exact mssRequest_mails long short cap (from_.mss ▸ ready) (from_.cln ▸ pcie) full
    have alone : (mailed m u).mss.mail = [m] := by
      show u.mss.mail ++ [m] = [m]
      rw [from_.mss, empty, List.nil_append]
    have none_ : mailCmds.contains (mailCmd m) = false := by rw [hm]; exact none_
    have pcie_ : (mailed m u).cln.hostmode = false := from_.cln ▸ pcie
    have size : (reply m 1 []).length = 4 := reply_length (by rw [hm]; exact full ▸ long)
    have bytes : answerBytes m 1 [] = reply m 1 [] := answerBytes_fits (.inl rfl)
    refine completes_does (t := answerMail m 1 [] (mailed m u)) rfl up
      ((if_pos free).trans (by rw [does]; exact mailSettle_unknown alone ((congrArg Mss.st from_.mss).trans ready) none_)) ⟨?_, ?_, ?_⟩
    · rw [answerMail_mail m 1 [] pcie_]
      exact congrArg (List.drop 1) alone
    · rw [answerMail_eq m 1 [] pcie_, bytes, size, hm]
      exact resultAt_finish (resOk 4) (from_.takenAt h) rfl
    · have mem : (mailed m u).hostMem = s.hostMem := from_.hostMem
      rw [answerMail_hostMem pcie_ (.inl rfl), mem, hm, reply, List.append_nil]
      rfl
  case post =>
    obtain ⟨taken, ring, mem⟩ := postOldest_quiet oldest result on restart prof zero resets events event armed
    exact completes_does (t := postOldest r.val s) rfl up (if_pos awake) ⟨taken, by rw [ring]; rfl, mem⟩

end


section
/-! The channels of the reference generators: their registers, starts, stops and steps (11 R361 to R374, R383, R397). -/
namespace Sys2Proof.Machine

/-! ### Parts of the channels -/

theorem upd_upd {α : Type} {n : Nat} (v : Vector α n) (i : Fin n) (f g : α → α) : upd (upd v i f) i g = upd v i fun x => g (f x) := by
  unfold upd
  simp

theorem upd_congr {α : Type} {n : Nat} (v : Vector α n) (i : Fin n) {f g : α → α} (same : f v[i.val] = g v[i.val]) : upd v i f = upd v i g := by
  unfold upd
  rw [same]

theorem chX_updChX_same (c : Fin 8) (f : RgX → RgX) (s : State) : chX (updChX c f s) c = f (chX s c) :=
  (upd_get s.rg.x c f c.val c.isLt).trans (if_pos rfl)

theorem chX_updChX_other {c j : Fin 8} (other : c ≠ j) (f : RgX → RgX) (s : State) : chX (updChX c f s) j = chX s j :=
  (upd_get s.rg.x c f j.val j.isLt).trans (if_neg fun same => other (Fin.ext same))

theorem chAt_updChX (c j : Fin 8) (f : RgX → RgX) (s : State) : chAt (updChX c f s) j = chAt s j := rfl
theorem chX_updCh (c j : Fin 8) (f : RgCh → RgCh) (s : State) : chX (updCh c f s) j = chX s j := rfl
theorem chX_congr {s t : State} (rg : t.rg = s.rg) (c : Fin 8) : chX t c = chX s c := by rw [chX, rg, chX]

/-! ### Refusals and events leave the channels -/

theorem rgRefuse_rg (c cause off : Nat) (v : Word) (s : State) : (rgRefuse c cause off v s).rg =
    { s.rg with refused := true, cause := BitVec.ofNat 3 cause, chn := BitVec.ofNat 3 c } := raise_rg ..

theorem startedEvent_rg (c : Fin 8) (s : State) : (startedEvent c s).rg = s.rg := raise_rg ..

/-- A channel stopped. -/
def stopped (c : Fin 8) (s : State) : State :=
  updChX c (fun x => { x with stopReq := false, activeSig := [], next := none, frame := none, tsetWait := none })
    (updCh c (fun h => { h with st := .stopped }) s)

theorem stopChannel_rg (c : Fin 8) (s : State) : (stopChannel c s).rg = (stopped c s).rg := raise_rg ..

/-! ### RGn_CTRL (R361 to R363) -/

/-- The fields of RGn_CTRL that a write of RUN keeps. -/
theorem ctrl_fields (v : Word) : fld ((v ||| 0x80000000) &&& 0xE0FF0330) 4 2 = fld v 4 2 ∧ fld ((v ||| 0x80000000) &&& 0xE0FF0330) 16 8 = fld v 16 8 ∧
    bitAt ((v ||| 0x80000000) &&& 0xE0FF0330) 31 = true := by
  have or_fld : ∀ lo len, lo + len ≤ 31 → fld (v ||| 0x80000000) lo len = fld v lo len := fun lo len below => by
    apply Nat.eq_of_testBit_eq
    intro j
    rw [fld_testBit, fld_testBit]
    by_cases inside : j < len
    · have bit : bitAt (0x80000000 : Word) (lo + j) = false := by
        have small : lo + j < 31 := by omega
        generalize lo + j = i at small
        interval_cases i <;> decide
      simp only [inside, decide_true, Bool.true_and, bitAt, BitVec.getLsbD_or] at bit ⊢
      rw [bit, Bool.or_false]
    · simp [inside]
  refine ⟨?_, ?_, ?_⟩
  · rw [fld_and (by decide), or_fld _ _ (by decide)]
  · rw [fld_and (by decide), or_fld _ _ (by decide)]
  · simp [bitAt]

theorem rgCtrlWrite_arms {c : Fin 8} {v : Word} {s : State} (idle : (chAt s c).st = .stopped)
    (tuned : fld v 4 2 = 1 ∨ fld v 4 2 = 2 ∨ ((chAt s c).ftw ≠ 0 ∧ (chAt s c).ftw.toNat ≤ 140737488355328)) :
    rgCtrlWrite c (v ||| 0x80000000) s = updChX c (fun x => { x with
      stopReq := false, next := none, activeSig := if fld v 4 2 = 0 then marksOf (chAt s c) (fld v 16 8) else [] })
      (updCh c (fun h => { h with ctrl := (v ||| 0x80000000) &&& 0xE0FF0330, st := .armed }) s) := by
  obtain ⟨mode, entry, run_⟩ := ctrl_fields v
  have twice : ∀ w, updCh c (fun h => { h with st := .armed }) (updCh c (fun h => { h with ctrl := w }) s) =
      updCh c (fun h => { h with ctrl := w, st := .armed }) s := fun w => by
    simp only [updCh, upd_upd]
  have steps : ∀ w n, marksOf (chAt (updCh c (fun h => { h with ctrl := w, st := .armed }) s) c) n = marksOf (chAt s c) n := fun w n => by
    rw [chAt_updCh_same]
    rfl
  have good : ¬ ((fld v 4 2 = 0 ∨ fld v 4 2 = 3) ∧ ((chAt s c).ftw = 0 ∨ 140737488355328 < (chAt s c).ftw.toNat)) := by
    rintro ⟨sine, zero | big⟩
    · obtain one | two | ⟨some_, -⟩ := tuned
      · omega
      · omega
      · exact some_ zero
    · omega
  unfold rgCtrlWrite
  generalize (v ||| 0x80000000) &&& 0xE0FF0330 = w at mode entry run_ ⊢
  simp only [idle, ne_eq, not_true_eq_false, false_and, if_false, run_, decide_true, Bool.true_or, Bool.true_and, true_and, mode, entry, if_neg good,
    if_true, twice, steps]

theorem rgCtrlWrite_untuned {c : Fin 8} {v : Word} {s : State} (idle : (chAt s c).st = .stopped) (mode : fld v 4 2 = 0 ∨ fld v 4 2 = 3)
    (bad : (chAt s c).ftw = 0 ∨ 140737488355328 < (chAt s c).ftw.toNat) :
    (rgCtrlWrite c (v ||| 0x80000000) s).rg = { s.rg with refused := true, cause := 5, chn := BitVec.ofNat 3 c.val } := by
  obtain ⟨mode_, -, run_⟩ := ctrl_fields v
  have refuses : rgCtrlWrite c (v ||| 0x80000000) s = rgRefuse c.val 5 (chOff c 0) ((v ||| 0x80000000) &&& 0xE0FF0330) s := by
    unfold rgCtrlWrite
    generalize (v ||| 0x80000000) &&& 0xE0FF0330 = w at mode_ run_ ⊢
    simp only [idle, ne_eq, not_true_eq_false, false_and, if_false, run_, decide_true, Bool.true_or, Bool.true_and, mode_, mode, bad,
      and_self, if_true]
  rw [refuses, rgRefuse_rg]
  rfl

/-- The fields of RGn_CTRL that a channel in play keeps are those the word with RUN = 0 has. -/
theorem ctrl_cleared (old v : Word) : (old ^^^ (v &&& 0x7FFFFFFF &&& 0xE0FF0330)) &&& 0x00FF0330 = (old ^^^ v) &&& 0x00FF0330 := by
  apply BitVec.eq_of_getLsbD_eq
  intro i small
  simp only [BitVec.getLsbD_and, BitVec.getLsbD_xor]
  by_cases masked : BitVec.getLsbD (0x00FF0330 : Word) i = true
  · have kept : BitVec.getLsbD (0x7FFFFFFF : Word) i = true ∧ BitVec.getLsbD (0xE0FF0330 : Word) i = true := by
      interval_cases i <;> revert masked <;> decide
    simp only [kept.1, kept.2, Bool.and_true]
  · simp only [Bool.eq_false_iff.mpr masked, Bool.and_false]

theorem rgCtrlWrite_changed {c : Fin 8} {v : Word} {s : State} (on : (chAt s c).st ≠ .stopped) (changed : ((chAt s c).ctrl ^^^ v) &&& 0x00FF0330 ≠ 0) :
    (rgCtrlWrite c (v &&& 0x7FFFFFFF) s).rg = { s.rg with refused := true, cause := 1, chn := BitVec.ofNat 3 c.val } := by
  have refuses : rgCtrlWrite c (v &&& 0x7FFFFFFF) s = rgRefuse c.val 1 (chOff c 0) (v &&& 0x7FFFFFFF &&& 0xE0FF0330) s :=
    if_pos ⟨on, by rw [ctrl_cleared]; exact changed⟩
  rw [refuses, rgRefuse_rg]
  rfl

theorem rgCtrlWrite_stops {c : Fin 8} {v : Word} {s : State} (on : (chAt s c).st = .running) (same : ((chAt s c).ctrl ^^^ v) &&& 0x00FF0330 = 0) :
    rgCtrlWrite c (v &&& 0x7FFFFFFF) s = updChX c (fun x => { x with stopReq := true }) (updCh c (fun h => { h with ctrl := v &&& 0x60FF0330 }) s) := by
  have word : v &&& 0x7FFFFFFF &&& 0xE0FF0330 = v &&& 0x60FF0330 := by rw [BitVec.and_assoc]; rfl
  have off : bitAt (v &&& 0x60FF0330) 31 = false := by simp [bitAt]
  have kept : ¬ ((chAt s c).st ≠ .stopped ∧ ((chAt s c).ctrl ^^^ (v &&& 0x7FFFFFFF &&& 0xE0FF0330)) &&& 0x00FF0330 ≠ 0) := fun h =>
    h.2 (by rw [ctrl_cleared]; exact same)
  unfold rgCtrlWrite
  refine (if_neg kept).trans ?_
  rw [word]
  simp only [off, Bool.false_and, Bool.false_eq_true, false_and, if_false, on]

/-! ### Steps (R365, R371 to R374) -/

theorem claimedOf_none {s : State} {sigs : List Nat} (none_ : s.rg.claims = []) : claimedOf s sigs = none := by
  simp [claimedOf, none_]

/-- What every event of a step leaves: the generators but for the counts of events. -/
theorem stepEvent_ch (c : Fin 8) (n : Nat) (s : State) : (∀ j, chAt (stepEvent c n s) j = chAt s j) ∧
    ∃ k a, chX (stepEvent c n s) c = { chX s c with evtCount := k, evtAt := a } := by
  unfold stepEvent
  extract_lets counted due
  have hCounted : chX counted c = { chX s c with evtCount := (chX s c).evtCount + 1 } := chX_updChX_same ..
  split
  · refine ⟨fun j => chAt_congr (raise_rg ..) j, 0, some counted.now, ?_⟩
    rw [chX_congr (raise_rg ..), chX_updChX_same, hCounted]
  · exact ⟨fun j => rfl, _, _, hCounted⟩

/-- The state of a step that begins, before its retune and its event. -/
def stepBegun (c : Fin 8) (n : Nat) (taken : Bool) (s : State) : State :=
  updChX c (fun x => { x with
    activeSig := marksOf (chAt s c) n, taken := taken, tsetWait := if taken then some (sTset (stepAt (chAt s c) n)) else none, next := none
    pos := 0, reps := 0, out := sampleOf s (sSig (stepAt (chAt s c) n)) (sFirst (stepAt (chAt s c) n)) })
    (updCh c (fun h => { h with step := BitVec.ofNat 8 n, tset := if taken then h.tset else sTset (stepAt (chAt s c) n) }) s)

/-- A step begins where no signature it marks is claimed and no retune waits. -/
theorem beginStep_free {c : Fin 8} {n : Nat} {taken : Bool} {s : State} (none_ : s.rg.claims = []) (still : (chAt s c).retune = none) :
    chAt (beginStep c n taken s) c = { chAt s c with
      step := BitVec.ofNat 8 n, tset := if taken then (chAt s c).tset else sTset (stepAt (chAt s c) n) } ∧
    ∃ k a, chX (beginStep c n taken s) c = { chX s c with
      activeSig := marksOf (chAt s c) n, taken := taken, tsetWait := if taken then some (sTset (stepAt (chAt s c) n)) else none, next := none
      pos := 0, reps := 0, out := sampleOf s (sSig (stepAt (chAt s c) n)) (sFirst (stepAt (chAt s c) n)), evtCount := k, evtAt := a } := by
  have channel : chAt (stepBegun c n taken s) c = { chAt s c with
      step := BitVec.ofNat 8 n, tset := if taken then (chAt s c).tset else sTset (stepAt (chAt s c) n) } := by
    rw [stepBegun, chAt_updChX, chAt_updCh_same]
  have state : chX (stepBegun c n taken s) c = { chX s c with
      activeSig := marksOf (chAt s c) n, taken := taken, tsetWait := if taken then some (sTset (stepAt (chAt s c) n)) else none, next := none
      pos := 0, reps := 0, out := sampleOf s (sSig (stepAt (chAt s c) n)) (sFirst (stepAt (chAt s c) n)) } := by
    rw [stepBegun, chX_updChX_same, chX_updCh]
  have begun : beginStep c n taken s = if sEvt (stepAt (chAt s c) n) then stepEvent c n (stepBegun c n taken s) else stepBegun c n taken s := by
    simp only [beginStep, claimedOf_none none_, chAt_updChX, chAt_updCh_same, still]
    rfl
  rw [begun]
  split
  · obtain ⟨channels, k, a, later⟩ := stepEvent_ch c n (stepBegun c n taken s)
    exact ⟨(channels c).trans channel, k, a, by rw [later, state]⟩
  · exact ⟨channel, (chX s c).evtCount, (chX s c).evtAt, state⟩

/-- A step that would mark a claimed signature halts its channel instead (R367). -/
theorem beginStep_claimed {c : Fin 8} {n : Nat} {taken : Bool} {s : State} {k : Nat × Nat × Nat × Nat × List Byte} (claim : k ∈ s.rg.claims)
    (marked : k.2.2.1 ∈ marksOf (chAt s c) n) : (beginStep c n taken s).rg =
      (updChX c (fun x => { x with activeSig := [], next := none, stopReq := false }) (updCh c (fun h => { h with st := .halted }) s)).rg := by
  have found : (claimedOf s (marksOf (chAt s c) n)).isSome = true := List.find?_isSome.mpr
    ⟨k.2.2.1, marked, List.any_eq_true.mpr ⟨k, claim, decide_eq_true rfl⟩⟩
  obtain ⟨g, claimed⟩ := Option.isSome_iff_exists.mp found
  simp only [beginStep, claimed, raise_rg]

/-! ### Channels started (R362) -/

/-- The state of a channel that starts its sequence, before its first step. -/
def sequenceStarts (c : Fin 8) (s : State) : State :=
  updChX c (fun x => { x with
    cnt := Vector.ofFn fun k : Fin 4 => (chAt s c).cntld[k.val].setWidth 16, pinL := 0, maL := 0, todL := 0, ppsL := false })
    (updCh c (fun h => { h with st := .running, nco := 0, ftwNow := h.ftw }) s)

theorem startChannel_sequence {c : Fin 8} {s : State} (armed : (chAt s c).st = .armed) (mode : chMode (chAt s c) = 0) (none_ : s.rg.claims = []) :
    startChannel c s = beginStep c (chEntry (chAt s c)) false (startedEvent c (sequenceStarts c s)) := by
  unfold startChannel
  simp only [armed, ne_eq, not_true_eq_false, if_false, mode, claimedOf_none none_, Option.isSome_none, Bool.false_eq_true]
  rfl

theorem startChannel_other {c : Fin 8} {s : State} (armed : (chAt s c).st = .armed) (mode : 2 ≤ chMode (chAt s c)) :
    (startChannel c s).rg.ch = upd s.rg.ch c fun h => { h with st := .running, nco := 0, ftwNow := h.ftw } := by
  unfold startChannel
  simp only [armed, ne_eq, not_true_eq_false, if_false]
  match h : chMode (chAt s c), mode with
  | n + 2, _ => exact (congrArg Rg.ch (startedEvent_rg c _)).trans rfl

/-! ### Step memory and timing sets (R370, R383) -/

theorem seqHighWrite_stores {c : Fin 8} {v : Word} {s : State} (good : stepBad (v ++ (chAt s c).seqLow) = false)
    (free : stepUsed (chAt s c) (fld (chAt s c).seqAddr 0 8) = false) : (seqHighWrite c v s).rg = (updCh c (fun h => { h with
      steps := spPut 0 (fld h.seqAddr 0 8) (v ++ h.seqLow) h.steps, seqAddr := (h.seqAddr + 1) &&& 0xFF, seqHi := false }) s).rg := by
  unfold seqHighWrite
  simp only [good, free, Bool.false_eq_true, if_false, seqAdvance, updCh, upd_upd]
  exact congrArg (fun ch => { s.rg with ch := ch }) (upd_congr s.rg.ch c rfl)

/-- A refused write of step memory still moves the address on. -/
theorem seqHighWrite_refused {c : Fin 8} {v : Word} {s : State} {cause : Nat} (refuses : (if stepBad (v ++ (chAt s c).seqLow) then
      rgRefuse c.val 2 (chOff c 0x14) v s else if stepUsed (chAt s c) (fld (chAt s c).seqAddr 0 8) then rgRefuse c.val 3 (chOff c 0x14) v s
      else updCh c (fun h => { h with steps := spPut 0 (fld (chAt s c).seqAddr 0 8) (v ++ (chAt s c).seqLow) h.steps }) s) =
    rgRefuse c.val cause (chOff c 0x14) v s) :
    (seqHighWrite c v s).rg.refused = true ∧ (seqHighWrite c v s).rg.cause = BitVec.ofNat 3 cause ∧
    (chAt (seqHighWrite c v s) c).steps = (chAt s c).steps := by
  have written : seqHighWrite c v s = seqAdvance c (rgRefuse c.val cause (chOff c 0x14) v s) := congrArg (seqAdvance c) refuses
  have rg := rgRefuse_rg c.val cause (chOff c 0x14) v s
  rw [written, seqAdvance, chAt_updCh_same]
  refine ⟨?_, ?_, ?_⟩
  · exact (congrArg Rg.refused rg).trans rfl
  · exact (congrArg Rg.cause rg).trans rfl
  · rw [chAt, rg]
    rfl

end Sys2Proof.Machine

open Sys2Proof Sys2Proof.Machine

/-- Settles O32, by the outcomes of the writes of RGn_CTRL, of a start and a stop, and of the writes of step memory and timing sets. -/
theorem generatorChannels : Obligations.GeneratorChannels := by
  intro s c v up
  refine ⟨fun idle tuned => ?arm, fun idle mode bad => ?untuned, fun on changed => ?changed, fun on same => ?request, fun on asked => ?stop,
    fun armed mode none_ still => ?start, fun armed mode => ?other, fun good free => ?store, fun bad => ?bad, fun good used => ?used,
    fun k w free => ?timing, fun k w on inForce => ?inForce⟩
  case arm =>
    refine completes_hostDoes (f := rgCtrlWrite c (v ||| 0x80000000)) rfl up (fun w x => rgCtrlWrite_arms (s := s.woken w x) idle tuned) fun w x => ?_
    rw [chX_updChX_same]
    exact ⟨rfl, rfl, rfl⟩
  case untuned =>
    exact completes_host (f := rgCtrlWrite c (v ||| 0x80000000)) rfl up fun w x => rgCtrlWrite_untuned (s := s.woken w x) idle mode bad
  case changed =>
    exact completes_host (f := rgCtrlWrite c (v &&& 0x7FFFFFFF)) rfl up fun w x => rgCtrlWrite_changed (s := s.woken w x) on changed
  case request =>
    exact completes_hostDoes (f := rgCtrlWrite c (v &&& 0x7FFFFFFF)) rfl up (fun w x => rgCtrlWrite_stops (s := s.woken w x) on same)
      fun w x => ⟨rfl, rfl⟩
  case stop =>
    refine completes_does (t := stopChannel c s) rfl up (if_pos ⟨on, asked⟩) ?_
    rw [chX_congr (stopChannel_rg c s), stopChannel_rg, stopped, chX_updChX_same, chX_updCh]
    exact ⟨rfl, rfl, rfl, rfl⟩
  case start =>
    refine completes_does (t := startChannel c s) rfl up rfl ?_
    obtain ⟨u, hu⟩ : ∃ u, u = startedEvent c (sequenceStarts c s) := ⟨_, rfl⟩
    have rg : u.rg = (sequenceStarts c s).rg := by rw [hu, startedEvent_rg]
    have channel : chAt u c = { chAt s c with st := .running, nco := 0, ftwNow := (chAt s c).ftw } := by
      rw [chAt_congr rg, sequenceStarts, chAt_updChX, chAt_updCh_same]
    obtain ⟨begun, k, a, state⟩ := beginStep_free (c := c) (n := chEntry (chAt s c)) (taken := false) (s := u) (by rw [rg]; exact none_)
      (by rw [channel]; exact still)
    have sample : ∀ g i, sampleOf u g i = sampleOf s g i := fun g i => by rw [sampleOf, rg]; rfl
    rw [startChannel_sequence armed mode none_, ← hu, begun, state, channel, sample]
    exact ⟨rfl, rfl, rfl, rfl⟩
  case other => exact completes_does (t := startChannel c s) rfl up rfl (startChannel_other armed mode)
  case store =>
    exact completes_host (f := seqHighWrite c v) rfl up fun w x => seqHighWrite_stores (s := s.woken w x) good free
  case bad =>
    exact completes_host (f := seqHighWrite c v) rfl up fun w x => seqHighWrite_refused (s := s.woken w x) (cause := 2) (if_pos bad)
  case used =>
    exact completes_host (f := seqHighWrite c v) rfl up fun w x => seqHighWrite_refused (s := s.woken w x) (cause := 3)
      ((if_neg (Bool.eq_false_iff.mp good)).trans (if_pos used))
  case timing =>
    exact completes_hostDoes (f := tsetWrite c k w v) rfl up (fun p x => if_neg free) fun p x => rfl
  case inForce =>
    exact completes_hostDoes (f := tsetWrite c k w v) rfl up (fun p x => if_pos ⟨on, inForce⟩) fun p x => rgRefuse_rg ..

end


section
/-! The steps of a running sequence (11 R367, R371 to R374). -/
namespace Sys2Proof.Machine

/-! ### The last sample of a step -/

/-- The timing set of a taken branch comes into force. -/
theorem settleTset_channel (c : Fin 8) (s : State) :
    chAt (settleTset c s) c = { chAt s c with tset := (chX s c).tsetWait.getD (chAt s c).tset } ∧
    chX (settleTset c s) c = { chX s c with tsetWait := none } := by
  unfold settleTset
  match wait : (chX s c).tsetWait with
  | some t =>
    refine ⟨?_, ?_⟩
    · rw [chAt_updChX, chAt_updCh_same]
      rfl
    · rw [chX_updChX_same, chX_updCh]
  | none =>
    have same : { chX s c with tsetWait := none } = chX s c := by rw [← wait]
    exact ⟨rfl, same.symm⟩

theorem settleTset_none {c : Fin 8} {s : State} (none_ : (chX s c).tsetWait = none) : settleTset c s = s := by
  rw [settleTset, none_]

/-- What the last sample of a step leaves. -/
theorem lastSample_channel (c : Fin 8) (w : BitVec 64) (s : State) :
    chAt (lastSample c w s) c = { chAt s c with tset := (chX s c).tsetWait.getD (chAt s c).tset } ∧
    chX (lastSample c w s) c = { chX s c with
      pos := sLen w, reps := sCount w, out := sampleOf s (sSig w) (sFirst w + sLen w), tsetWait := none } := by
  obtain ⟨channel, state⟩ := settleTset_channel c (updChX c (fun x => { x with
    pos := sLen w, reps := sCount w, out := sampleOf s (sSig w) (sFirst w + sLen w) }) s)
  rw [chAt_updChX, chX_updChX_same] at channel
  rw [chX_updChX_same] at state
  exact ⟨channel, state⟩

/-! ### Where a step leads (R363, R372) -/

theorem leadTo_goes {c : Fin 8} {n : Nat} {taken : Bool} {s : State} (on : (chX s c).stopReq = false) :
    leadTo c n taken s = updChX c (fun x => { x with next := some (BitVec.ofNat 8 n), taken := taken }) s := if_neg (Bool.eq_false_iff.mp on)

theorem leadTo_stops {c : Fin 8} {n : Nat} {taken : Bool} {s : State} (asked : (chX s c).stopReq = true) : leadTo c n taken s = stopChannel c s :=
  if_pos asked

/-- A step that does not wait ends: its condition is evaluated at its last sample. -/
theorem endStep_plain {c : Fin 8} {s : State} (goes : sCond (stepAt (chAt s c) (chAt s c).step.toNat) ≠ 8)
    (plain : sWait (stepAt (chAt s c) (chAt s c).step.toNat) = false) : endStep c s =
      (let w := stepAt (chAt s c) (chAt s c).step.toNat
       let r := evalCond c w (lastSample c w s)
       if (r.1 ^^ sCpol w) then leadTo c (sTarget w) true r.2 else leadTo c (((chAt s c).step.toNat + 1) % 256) false r.2) := by
  simp only [endStep, goes, if_false, plain, Bool.false_eq_true]

/-- The conditions that no latch or counter takes part in: never, and always. -/
theorem evalCond_never {c : Fin 8} {w : BitVec 64} {s : State} (never : sCond w = 0) : evalCond c w s = (false, s) := by
  simp only [evalCond, never]

theorem evalCond_always {c : Fin 8} {w : BitVec 64} {s : State} (always : sCond w = 1) : evalCond c w s = (true, s) := by
  simp only [evalCond, always]

/-- A counter that is not 0 counts down. -/
theorem evalCond_counts {c : Fin 8} {w : BitVec 64} {s : State} (counter : sCond w = 3) (some_ : vget (chX s c).cnt (sArg w) 0 ≠ 0) :
    evalCond c w s = (true, updChX c (fun x => { x with cnt := vupd x.cnt (sArg w) fun v => v - 1 }) s) := by
  simp only [evalCond, counter, if_neg some_]

/-- HALT: the channel plays its last sample and is HALTED. -/
theorem endStep_halts {c : Fin 8} {s : State} (halt : sCond (stepAt (chAt s c) (chAt s c).step.toNat) = 8) : (endStep c s).rg =
    (updChX c (fun x => { x with activeSig := [], stopReq := false }) (updCh c (fun h => { h with st := .halted })
      (lastSample c (stepAt (chAt s c) (chAt s c).step.toNat) s))).rg := by
  simp only [endStep, halt, if_true, raise_rg]

end Sys2Proof.Machine

open Sys2Proof Sys2Proof.Machine

/-- Settles O33, by the start of a step with its race check and the end of a step by its condition. -/
theorem generatorSteps : Obligations.GeneratorSteps := by
  intro s c up on mode
  refine ⟨fun n next none_ still => ?begins, fun n k next claim marked => ?claimed, fun next halt settled => ?halts,
    fun next goes never plain straight => ?never, fun next goes counter plain straight few some_ => ?counter, fun next asked always plain => ?stops⟩
  case begins =>
    obtain ⟨begun, k, a, state⟩ := beginStep_free (n := n.toNat) (taken := (chX s c).taken) none_ still
    refine completes_does (t := beginStep c n.toNat (chX s c).taken s) rfl up (by simp only [next, on, mode, and_self, if_true]) ?_
    rw [begun, state]
    refine ⟨?_, rfl, rfl, rfl⟩
    rw [BitVec.ofNat_toNat, BitVec.setWidth_eq]
  case claimed =>
    have begun := beginStep_claimed (c := c) (n := n.toNat) (taken := (chX s c).taken) claim marked
    refine completes_does (t := beginStep c n.toNat (chX s c).taken s) rfl up (by simp only [next, on, mode, and_self, if_true]) ?_
    rw [chX_congr begun, begun, chX_updChX_same, chX_updCh]
    exact ⟨rfl, rfl⟩
  case halts =>
    have ended := endStep_halts halt
    refine completes_does (t := endStep c s) rfl up (if_pos ⟨on, mode, next⟩) ?_
    rw [chX_congr ended, ended, chX_updChX_same, chX_updCh, (lastSample_channel ..).2]
    refine ⟨?_, rfl⟩
    rw [lastSample, settleTset_none (by rw [chX_updChX_same]; exact settled)]
    rfl
  case never =>
    obtain ⟨channel, state⟩ := lastSample_channel c (stepAt (chAt s c) (chAt s c).step.toNat) s
    have quiet : (chX (lastSample c (stepAt (chAt s c) (chAt s c).step.toNat) s) c).stopReq = false := by rw [state]; exact goes
    have ended : endStep c s = updChX c (fun x => { x with next := some (BitVec.ofNat 8 (((chAt s c).step.toNat + 1) % 256)), taken := false })
        (lastSample c (stepAt (chAt s c) (chAt s c).step.toNat) s) := by
      rw [endStep_plain (by rw [never]; decide) plain]
      simp only [evalCond_never never, straight, Bool.false_xor, Bool.false_eq_true, if_false]
      exact leadTo_goes quiet
    refine completes_does (t := endStep c s) rfl up (if_pos ⟨on, mode, next⟩) ?_
    rw [ended, chX_updChX_same, chAt_updChX, channel]
    refine ⟨congrArg some ?_, rfl, on⟩
    apply BitVec.eq_of_toNat_eq
    simp
  case counter =>
    obtain ⟨-, state⟩ := lastSample_channel c (stepAt (chAt s c) (chAt s c).step.toNat) s
    obtain ⟨u, hu⟩ : ∃ u, u = updChX c (fun x => { x with cnt := vupd x.cnt (sArg (stepAt (chAt s c) (chAt s c).step.toNat)) fun v => v - 1 })
      (lastSample c (stepAt (chAt s c) (chAt s c).step.toNat) s) := ⟨_, rfl⟩
    have counted := hu ▸ chX_updChX_same c (fun x => { x with cnt := vupd x.cnt (sArg (stepAt (chAt s c) (chAt s c).step.toNat)) fun v => v - 1 })
      (lastSample c (stepAt (chAt s c) (chAt s c).step.toNat) s)
    have full : vget (chX (lastSample c (stepAt (chAt s c) (chAt s c).step.toNat) s) c).cnt (sArg (stepAt (chAt s c) (chAt s c).step.toNat)) 0 ≠ 0 := by
      rw [state]
      exact some_
    have ended : endStep c s = updChX c (fun x => { x with
        next := some (BitVec.ofNat 8 (sTarget (stepAt (chAt s c) (chAt s c).step.toNat))), taken := true }) u := by
      rw [endStep_plain (by rw [counter]; decide) plain]
      simp only [evalCond_counts counter full, straight, Bool.xor_false, if_true, ← hu]
      exact leadTo_goes (by rw [counted, state]; exact goes)
    refine completes_does (t := endStep c s) rfl up (if_pos ⟨on, mode, next⟩) ?_
    rw [ended, chX_updChX_same, counted, state]
    exact ⟨rfl, rfl, rfl⟩
  case stops =>
    obtain ⟨-, state⟩ := lastSample_channel c (stepAt (chAt s c) (chAt s c).step.toNat) s
    have asked_ : (chX (lastSample c (stepAt (chAt s c) (chAt s c).step.toNat) s) c).stopReq = true := by rw [state]; exact asked
    have ended : endStep c s = stopChannel c (lastSample c (stepAt (chAt s c) (chAt s c).step.toNat) s) := by
      rw [endStep_plain (by rw [always]; decide) plain]
      simp only [evalCond_always always, leadTo_stops asked_, ite_self]
    refine completes_does (t := endStep c s) rfl up (if_pos ⟨on, mode, next⟩) ?_
    rw [ended, chAt_congr (stopChannel_rg ..), stopped, chAt_updChX, chAt_updCh_same]

end


section
/-! What comes into the reference generators from outside their sequences: inputs, compares, VDAC faults, timecode and the telegram
(11 R374 to R378, R387 to R391), and the descriptors SIG_WRITE and RG_RETUNE (11 R364, R366, R381). -/
namespace Sys2Proof.Machine

/-! ### Inputs (R374) -/

/-- One channel's latch of an input. -/
def latchIn (n : Nat) (s : State) (c : Fin 8) : State := updChX c (fun x => { x with pinL := x.pinL ||| BitVec.ofNat 16 (2 ^ n) }) s

/-- The latches of an input over some channels. -/
theorem chX_latchIn {n : Nat} : (l : List (Fin 8)) → l.Nodup → (s : State) → (j : Fin 8) → chX (l.foldl (latchIn n) s) j =
    if j ∈ l then { chX s j with pinL := (chX s j).pinL ||| BitVec.ofNat 16 (2 ^ n) } else chX s j
  | [], _, _, _ => rfl
  | c :: l, distinct, s, j => by
    obtain ⟨fresh, distinct⟩ := List.nodup_cons.mp distinct
    rw [List.foldl_cons, chX_latchIn l distinct]
    by_cases own : c = j
    · subst own
      rw [if_neg fresh, if_pos List.mem_cons_self, latchIn, chX_updChX_same]
    · have same : chX (latchIn n s c) j = chX s j := chX_updChX_other own ..
      have mem : j ∈ c :: l ↔ j ∈ l := by simp [Ne.symm own]
      simp only [same, mem]

theorem rgInputEdge_rising {n : Nat} {s : State} (selected : fld s.rg.incfg (2 * n) 2 = 1 ∨ fld s.rg.incfg (2 * n) 2 = 3) (j : Fin 8) :
    chX (rgInputEdge n true s) j = { chX s j with pinL := (chX s j).pinL ||| BitVec.ofNat 16 (2 ^ n) } := by
  have goes : fld s.rg.incfg (2 * n) 2 = 3 ∨ (fld s.rg.incfg (2 * n) 2 = 1 ∧ true = true) ∨ (fld s.rg.incfg (2 * n) 2 = 2 ∧ (!true) = true) :=
    selected.symm.imp_right fun one => .inl ⟨one, rfl⟩
  have latches : rgInputEdge n true s = allCh.foldl (latchIn n) s := if_pos goes
  rw [latches, chX_latchIn allCh (List.nodup_finRange 8), if_pos (show j ∈ allCh from List.mem_finRange j)]

theorem rgInputEdge_pmx (n : Nat) (rising : Bool) (s : State) : (rgInputEdge n rising s).pmx = s.pmx := by
  unfold rgInputEdge
  extract_lets
  split
  · exact foldl_kept (g := State.pmx) (step := latchIn n) (fun _ _ => rfl) allCh s
  · rfl

/-! ### Compares (R376 to R378) -/

/-- A bit cleared in a latch. -/
theorem clear_bit (x : BitVec 2) (k : Fin 2) : (x &&& ~~~(BitVec.ofNat 2 (2 ^ k.val))).getLsbD k.val = false := by
  revert x k
  decide

/-- A mains-angle compare that no retune waits for and that starts nothing. -/
theorem fireMa_state {c : Fin 8} {k : Fin 2} {s : State} (still : (chAt s c).retune = none) (start : chStart (chAt s c) ≠ 3) :
    chX (fireMa c k.val s) c = { chX s c with
      maArm := if maQen (chAt s c) k.val then (chX s c).maArm &&& ~~~(BitVec.ofNat 2 (2 ^ k.val)) else (chX s c).maArm
      maL := (chX s c).maL ||| BitVec.ofNat 2 (2 ^ k.val) } := by
  unfold fireMa
  simp only [still, start, and_false, if_false]
  rw [chX_updChX_same]
  split
  · rw [chX_updChX_same]
  · rfl

/-- A time-of-day compare that no retune waits for and that starts nothing. -/
theorem fireTod_state {c : Fin 8} {k : Fin 2} {s : State} (still : (chAt s c).retune = none) (start : chStart (chAt s c) ≠ 2) :
    chX (fireTod c k.val s) c = { chX s c with
      todArm := (chX s c).todArm &&& ~~~(BitVec.ofNat 2 (2 ^ k.val)), todL := (chX s c).todL ||| BitVec.ofNat 2 (2 ^ k.val) } := by
  unfold fireTod
  simp only [still, start, and_false, if_false]
  rw [chX_updChX_same, chX_updChX_same]

theorem vget_upd {α : Type} {n : Nat} (v : Vector α n) (i : Fin n) (f : α → α) (d : α) : vget (upd v i f) i.val d = f (vget v i.val d) := by
  rw [vget, dif_pos i.isLt, vget, dif_pos i.isLt, upd_get, if_pos rfl]

/-- An arming without a quire in the compare fires nothing (R378). -/
theorem maCfgWrite_arms {c : Fin 8} {k : Fin 2} {v : Word} {s : State} (plain : bitAt v 9 = false) :
    maCfgWrite c k (v ||| 0x80000000) s = updChX c (fun x => { x with maArm := x.maArm ||| BitVec.ofNat 2 (2 ^ k.val) })
      (updCh c (fun h => { h with maCfg := upd h.maCfg k fun _ => v &&& 0x31F }) s) := by
  have word : (v ||| 0x80000000) &&& 0x31F = v &&& 0x31F := by
    apply BitVec.eq_of_getLsbD_eq
    intro i small
    simp only [BitVec.getLsbD_and, BitVec.getLsbD_or]
    by_cases masked : BitVec.getLsbD (0x31F : Word) i = true
    · have low : BitVec.getLsbD (0x80000000 : Word) i = false := by
        interval_cases i <;> revert masked <;> decide
      rw [low, Bool.or_false]
    · rw [Bool.eq_false_iff.mpr masked, Bool.and_false, Bool.and_false]
  have armed : bitAt (v ||| 0x80000000) 31 = true := by simp [bitAt]
  obtain ⟨u, hu⟩ : ∃ u, u = updChX c (fun x => { x with maArm := x.maArm ||| BitVec.ofNat 2 (2 ^ k.val) })
    (updCh c (fun h => { h with maCfg := upd h.maCfg k fun _ => v &&& 0x31F }) s) := ⟨_, rfl⟩
  have open_ : maQen (chAt u c) k.val = false := by
    rw [hu, chAt_updChX, chAt_updCh_same, maQen, maCfg, vget_upd]
    simpa [bitAt] using plain
  unfold maCfgWrite
  rw [word, if_pos armed, ← hu]
  exact if_neg (by rw [open_]; exact Bool.false_ne_true)

/-- An arming for an instant to come fires nothing (R378). -/
theorem todSecHiWrite_arms {a : Agent} {c : Fin 8} {k : Fin 2} {v : Word} {s : State} {x : BitVec 48} (none_ : s.staging = [])
    (word : x = BitVec.ofNat 48 (((chAt s c).todSec[k.val].setWidth 32).toNat + 4294967296 * fld v 0 16))
    (ahead : genTime s < ((x.toNat : Int) * 1000000000 + (vget (chAt s c).todNs k.val 0).toNat) * 256) :
    todSecHiWrite a c k (v ||| 0x80000000) s = updChX c (fun x => { x with todArm := x.todArm ||| BitVec.ofNat 2 (2 ^ k.val) })
      (updCh c (fun h => { h with todSec := upd h.todSec k fun _ => x }) { s with staging := [] }) := by
  have armed : bitAt (v ||| 0x80000000) 31 = true := by simp [bitAt]
  have same : fld (v ||| 0x80000000) 0 16 = fld v 0 16 := by
    apply Nat.eq_of_testBit_eq
    intro j
    rw [fld_testBit, fld_testBit]
    by_cases inside : j < 16
    · have low : BitVec.getLsbD (0x80000000 : Word) (0 + j) = false := by interval_cases j <;> decide
      simp only [bitAt, BitVec.getLsbD_or, low, Bool.or_false]
    · simp [inside]
  obtain ⟨u, hu⟩ : ∃ u, u = updChX c (fun x => { x with todArm := x.todArm ||| BitVec.ofNat 2 (2 ^ k.val) })
    (updCh c (fun h => { h with todSec := upd h.todSec k fun _ => x }) { s with staging := [] }) := ⟨_, rfl⟩
  have channel : chAt u c = { chAt s c with todSec := upd (chAt s c).todSec k fun _ => x } := by
    rw [hu, chAt_updChX, chAt_updCh_same]
    rfl
  have later : ¬ todValue (chAt u c) k.val ≤ genTime u := by
    have now : genTime u = genTime s := by rw [hu]; rfl
    rw [now, channel, todValue, vget_upd]
    exact not_le.mpr ahead
  unfold todSecHiWrite
  rw [takeLo_none none_]
  dsimp only
  rw [same, ← word, if_pos armed, ← hu]
  exact if_neg later

/-! ### Timecode in (R390) -/

theorem raiseAt_rg (code source : Nat) (sec : BitVec 48) (ns : Word) (p : BitVec 128) (s : State) : (raiseAt code source sec ns p s).rg = s.rg :=
  (raiseAt_keeps ..).rg_eq rfl

/-- One reader of a decoded frame. -/
def readFrame (frame : BitVec 80) (rate : BitVec 2) (at_ : Stamp) (s : State) (c : Fin 8) : State :=
  raiseAt 0x0609 c.val at_.sec at_.ns (payload [(0, 8, frame.toNat % 2 ^ 64), (8, 1, rate.toNat)])
    (updChX c (fun x => { x with ltcHeard := true, frame := some frame }) s)

/-- One reader of a loss. -/
def readLoss (n : Nat) (s : State) (c : Fin 8) : State :=
  if (chX s c).ltcHeard then raise 0x060A c.val [(0, 1, n)] (updChX c (fun x => { x with ltcHeard := false }) s) else s

/-- What one channel has stays so through steps that act on other channels or bring it about again. -/
theorem chX_foldl {step : State → Fin 8 → State} {p : RgX → Prop} {c : Fin 8} (own : ∀ s, p (chX (step s c) c))
    (other : ∀ s j, j ≠ c → chX (step s j) c = chX s c) : (l : List (Fin 8)) →
    (s : State) → p (chX s c) ∨ c ∈ l → p (chX (l.foldl step s) c)
  | [], _, h => h.resolve_right List.not_mem_nil
  | j :: l, s, h => by
    refine chX_foldl own other l (step s j) ?_
    by_cases here : j = c
    · exact .inl (here ▸ own s)
    · rw [other s j here]
      exact h.imp_right fun inside => (List.mem_cons.mp inside).resolve_left (Ne.symm here)

theorem readFrame_own (frame : BitVec 80) (rate : BitVec 2) (at_ : Stamp) (s : State) (c : Fin 8) :
    (chX (readFrame frame rate at_ s c) c).frame = some frame ∧ (chX (readFrame frame rate at_ s c) c).ltcHeard = true := by
  rw [readFrame, chX_congr (raiseAt_rg ..), chX_updChX_same]
  exact ⟨rfl, rfl⟩

theorem readFrame_other (frame : BitVec 80) (rate : BitVec 2) (at_ : Stamp) (s : State) {c j : Fin 8} (other : j ≠ c) :
    chX (readFrame frame rate at_ s j) c = chX s c := by
  rw [readFrame, chX_congr (raiseAt_rg ..), chX_updChX_other other]

theorem readLoss_own (n : Nat) (s : State) (c : Fin 8) : (chX (readLoss n s c) c).ltcHeard = false := by
  unfold readLoss
  split
  · rw [chX_congr (raise_rg ..), chX_updChX_same]
  · next silent => exact Bool.eq_false_iff.mpr silent

theorem readLoss_other (n : Nat) (s : State) {c j : Fin 8} (other : j ≠ c) : chX (readLoss n s j) c = chX s c := by
  unfold readLoss
  split
  · rw [chX_congr (raise_rg ..), chX_updChX_other other]
  · rfl

theorem mem_readers {s : State} {n : Fin 16} {c : Fin 8} (mode : chMode (chAt s c) = 2) (on : (chAt s c).st = .running)
    (input : fld (chAt s c).ltc 16 4 = n.val) : c ∈ readers s n :=
  List.mem_filter.mpr ⟨List.mem_finRange c, by simp [mode, on, input]⟩

end Sys2Proof.Machine

open Sys2Proof Sys2Proof.Machine

/-- Settles O34, by the latches of an input, the two compares and their arming, and what each timecode command leaves in its channels. -/
theorem generatorInputs : Obligations.GeneratorInputs := by
  intro s c k up
  refine ⟨fun n i pin low selected => ?input, fun armed may still start => ?ma, fun armed still start => ?tod, fun v plain => ?maArm,
    fun v none_ => ?todArm, ?vdac, fun v clears faulted => ?clear, fun mode on => ?frame, fun n f r p mode on input sync => ?decode,
    fun n mode on input => ?loss, fun mode on => ?telegram⟩
  case input =>
    have inside : i < 48 := by
      unfold inputPin at pin
      split at pin
      · next j found =>
        have mem : j ∈ selectors s n.val := found ▸ List.mem_singleton.mpr rfl
        split at pin
        · exact Option.some.inj pin ▸ List.mem_range.mp (List.mem_filter.mp mem).1
        · exact absurd pin (Option.some_ne_none i).symm
      · exact absurd pin (Option.some_ne_none i).symm
    refine completes_does (t := rgInputEdge n.val true (setPad i true s)) rfl up
      (by simp only [pin, low, Bool.false_eq_true, if_false]) ⟨?_, fun j => ?_⟩
    · rw [rgInputEdge_pmx]
      show (s.pmx.pad ||| BitVec.ofNat 48 (2 ^ i)).getLsbD i = true
      rw [BitVec.getLsbD_or, BitVec.getLsbD_ofNat, Nat.testBit_two_pow_self, decide_eq_true inside, Bool.and_true, Bool.or_true]
    · exact rgInputEdge_rising (s := setPad i true s) selected j
  case ma =>
    have fired := fireMa_state (k := k) still start
    refine completes_does (t := fireMa c k.val s) rfl up (if_pos (by rw [armed, may]; rfl)) ?_
    rw [fired]
    refine ⟨rfl, fun quire => ?_⟩
    simp only [quire, if_true]
    exact clear_bit _ k
  case tod =>
    exact completes_does (t := fireTod c k.val s) rfl up (if_pos armed) (fireTod_state still start)
  case maArm =>
    refine completes_hostDoes (f := maCfgWrite c k (v ||| 0x80000000)) rfl up (fun w x => maCfgWrite_arms (s := s.woken w x) plain) fun w x => ?_
    rw [chX_updChX_same, chAt_updChX, chAt_updCh_same]
    exact ⟨rfl, rfl⟩
  case todArm =>
    intro x ahead
    refine completes_host (f := todSecHiWrite (hostAgent s) c k (v ||| 0x80000000)) rfl up fun p q => ?_
    rw [todSecHiWrite_arms (s := s.woken p q) (x := x) none_ rfl ahead, chX_updChX_same, chAt_updChX, chAt_updCh_same]
    exact ⟨rfl, rfl⟩
  case vdac =>
    refine completes_does rfl up rfl ?_
    have mute : ∀ (t : State) (m : Fin 2), t.rg.vfault = true → vdacCode t m = 2048 := fun t m faulted => by simp [vdacCode, faulted]
    refine ⟨raise_rg .., fun m => mute _ m ?_⟩
    rw [raise_rg]
  case clear =>
    refine completes_hostDoes (f := rgcCtrlWrite v) rfl up (fun w x => if_pos (by rw [clears]; exact faulted)) fun w x => raise_rg ..
  case frame =>
    refine completes_does rfl up (if_pos ⟨mode, .inr on⟩) ?_
    rw [if_neg (by rw [on]; exact RgSt.noConfusion)]
  case decode =>
    refine completes_does (t := (readers s n).foldl (readFrame f r p) s) rfl up (if_pos sync) ?_
    exact chX_foldl (p := fun x => x.frame = some f ∧ x.ltcHeard = true) (fun s => readFrame_own f r p s c)
      (fun s j other => readFrame_other f r p s other) _ s (.inr (mem_readers mode on input))
  case loss =>
    refine completes_does (t := (readers s n).foldl (readLoss n.val) s) rfl up rfl ?_
    exact chX_foldl (p := fun x => x.ltcHeard = false) (fun s => readLoss_own n.val s c) (fun s j other => readLoss_other n.val s other) _ s
      (.inr (mem_readers mode on input))
  case telegram => exact completes_does rfl up (if_pos ⟨mode, on⟩) rfl

end


section
/-! The descriptors SIG_WRITE and RG_RETUNE (11 R364, R366, R381). -/
namespace Sys2Proof.Machine

theorem TakenFrom.rg {r : Fin 16} {d : DescBytes} {s u : State} (h : TakenFrom r d s u) : u.rg = s.rg := h ▸ ((takeDesc_keeps ..).rg_eq rfl)

theorem sigActive_congr {s t : State} (rg : t.rg = s.rg) (g : Nat) : sigActive t g = sigActive s g := by
  simp only [sigActive, chX_congr rg]

theorem regionOk_congr {s t : State} (cln : t.cln = s.cln) (addr len : Nat) : regionOk t addr len = regionOk s addr len := by
  simp only [regionOk, cln]

/-- The oldest claim of a ring written out. -/
def claimWritten (k : Nat × Nat × Nat × Nat × List Byte) (s : State) : State :=
  { s with rg := { s.rg with sig := spPutBytes s.rg.sig (4096 * k.2.2.1 + k.2.2.2.1) k.2.2.2.2, claims := s.rg.claims.erase k } }

/-- A descriptor that is outstanding has no result. -/
theorem workOf_outstanding {s : State} {r id : Nat} (taken : (takenAt s r id).isSome = true) (running : (takenAt s r id).bind (·.result) = none) :
    workOf s r id = some none := by
  obtain ⟨k, found⟩ := Option.isSome_iff_exists.mp taken
  rw [found, Option.bind_some] at running
  rw [workOf, found, Option.map_some, running]

/-- The word of a retune is 0 exactly where its field is. -/
theorem retuneWord_zero {f : Nat} (small : f ≤ 140737488355328) : BitVec.ofNat 48 f = 0 ↔ f = 0 := by
  constructor
  · intro zero
    have value := congrArg BitVec.toNat zero
    rw [BitVec.toNat_ofNat, Nat.mod_eq_of_lt (by omega)] at value
    exact value
  · rintro rfl
    rfl

/-- The retune a descriptor brings. -/
def retuneOf (r id : Nat) (d : DescBytes) : Retune :=
  { ftw := BitVec.ofNat 48 (field512 d 24 6), phi := BitVec.ofNat 48 (field512 d 32 6), when_ := dByte d 21, desc := (r, id) }

theorem applyRetune_rg (c : Fin 8) (t : Retune) (s : State) : (applyRetune c t s).rg =
    (updCh c (fun h => { h with nco := h.nco + t.phi, ftwNow := if t.ftw = 0 then h.ftwNow else t.ftw, retune := none }) s).rg :=
  (finish_keeps ..).rg_eq rfl

end Sys2Proof.Machine

open Sys2Proof Sys2Proof.Machine

/-- Settles O35, by the checks of SIG_WRITE, the end of a claim, and the two ways of a retune. -/
theorem generatorDescriptors : Obligations.GeneratorDescriptors := by
  intro s r d up
  refine ⟨fun h long short even aligned inside free ok bs full => ?claims, fun h long short even aligned inside active m => ?active,
    fun id g o bs l claims => ?done, fun h small still now => ?now, fun h small still low high => ?later⟩
  case claims =>
    refine completes_taken rfl up rfl h fun u from_ => ?_
    have free_ : ¬ sigActive u (dByte d 20) = true := by rw [sigActive_congr from_.rg, free]; exact Bool.false_ne_true
    rw [if_neg (by omega), if_neg (by omega), if_neg free_, withData_region ((regionOk_congr from_.cln ..).trans ok) full]
    refine ⟨by rw [from_.rg], ?_⟩
    exact (congrArg Option.isSome (takenAt_taken (v := u) h from_ rfl)).trans rfl
  case active =>
    refine completes_taken rfl up rfl h fun u from_ => ?_
    have active_ : sigActive u (dByte d 20) = true := (sigActive_congr from_.rg _).trans active
    rw [if_neg (by omega), if_neg (by omega), if_pos active_]
    exact ⟨((finish_keeps ..).rg_eq rfl).trans from_.rg, resultAt_taken (resSt 0x30) h from_ rfl⟩
  case done =>
    have first : s.rg.claims.find? (fun k => decide (k.1 = r.val)) = some (r.val, id, g, o, bs) := by
      rw [claims]
      exact List.find?_cons_of_pos (decide_eq_true rfl)
    refine completes_does (t := finish r.val id (resOk bs.length) (claimWritten (r.val, id, g, o, bs) s)) rfl up (by simp only [first]; rfl)
      ⟨?_, fun taken running => ?_⟩
    · rw [(finish_keeps ..).rg_eq rfl, claimWritten, claims, List.erase_cons_head]
    · exact result_of_workOf (workOf_finish (s := claimWritten (r.val, id, g, o, bs) s) (workOf_outstanding taken running))
  case now =>
    refine completes_taken rfl up rfl h fun u from_ => ?_
    have still_ : ¬ (chAt u (descCh d)).retune.isSome = true := by
      rw [chAt_congr from_.rg, still]
      exact Bool.false_ne_true
    have word : (BitVec.ofNat 48 (field512 d 24 6) = 0) = (field512 d 24 6 = 0) := propext (retuneWord_zero small)
    rw [if_neg (by omega), if_neg still_, if_pos now]
    refine ⟨?_, ?_⟩
    · rw [applyRetune_rg]
      simp only [updCh, from_.rg, word]
    · exact resultAt_taken (v := updCh (descCh d) _ u) (resOk 0) h from_ rfl
  case later =>
    refine completes_taken rfl up rfl h fun u from_ => ?_
    have still_ : ¬ (chAt u (descCh d)).retune.isSome = true := by
      rw [chAt_congr from_.rg, still]
      exact Bool.false_ne_true
    rw [if_neg (by omega), if_neg still_, if_neg (by omega), chAt_updCh_same, chAt_congr from_.rg]
    exact ⟨rfl, rfl⟩

end


section
/-! The alignment of generators across devices: the generator offset, kettle mode and the stitch chain (12 R399 to R418). -/
namespace Sys2Proof.Machine

/-! ### The generator offset (R399) -/

/-- A channel's part in a change of the offset by d. -/
def gofsStep (d : Int) (s : State) (c : Fin 8) : State :=
  let h := chAt s c
  if chMode h = 0 then
    (if chTelock h && (decide (h.st = .running) || decide (h.st = .armed)) then
      updCh c (fun h => { h with nco := h.nco + gofsPhase s h d }) s
     else s)
  else if (chMode h = 1 ∨ chMode h = 3) ∧ halfBit s h < d.natAbs then ltcCut c 3 s
  else s

theorem gofsStep_aln (d : Int) (s : State) (c : Fin 8) : (gofsStep d s c).aln = s.aln := by
  unfold gofsStep
  dsimp only
  split
  · split <;> rfl
  split
  · exact (ltcCut_keeps ..).aln_eq rfl
  · rfl

theorem gofsChange_aln (v : Word) (s : State) : (gofsChange v s).aln = { s.aln with gofs := v } := by
  have changed : gofsChange v s = todPassed (genTime s)
      (allCh.foldl (gofsStep (v.toInt - s.aln.gofs.toInt)) { s with aln := { s.aln with gofs := v } }) := rfl
  rw [changed, (todPassed_keeps ..).aln_eq rfl, foldl_kept (g := State.aln) (gofsStep_aln _)]

theorem gofsAdd_aln (d : Int) (s : State) : (gofsAdd d s).aln = { s.aln with gofs := BitVec.ofInt 32 (s.aln.gofs.toInt + d) } := gofsChange_aln ..

/-- A refusal of an alignment register (R418). -/
theorem alnRefuse_state (off : Nat) (v : Word) (s : State) : (alnRefuse off v s).aln = s.aln ∧ (alnRefuse off v s).rg.refused = true ∧
    (alnRefuse off v s).rg.cause = 6 := by
  have rg := rgRefuse_rg ((draw s).1.toNat % 8) 6 off v (draw s).2
  exact ⟨(alnRefuse_keeps ..).aln_eq rfl, (congrArg Rg.refused rg).trans rfl, (congrArg Rg.cause rg).trans rfl⟩

/-! ### Kettle mode (R401 to R404) -/

/-- The error of an edge. -/
def kettleError (sub : BitVec 6) (s : State) : Int :=
  fromSecond (genTime s + (sub.toNat * 64 / 5 : Nat) - s.aln.kdly.toInt - (fld s.aln.kexp 0 30 * 256 : Nat))

/-- An edge counted in its window. -/
def kettleCounted (e : Int) (s : State) : State :=
  { s with aln := { s.aln with kok := incSat16 s.aln.kok, ksum := s.aln.ksum + e, kn := s.aln.kn + 1 } }

theorem kettleEdge_measured {sub : BitVec 6} {s : State} {P : State → Prop} (up : devUp s = true) (on : kEn s = true) (power : s.pwr.st ≠ .holdover)
    (source : refPresent s = true) (steady : justJumped s = false)
    (p : P (if kWin s * 256000 < (kettleError sub s).natAbs then kettleMiss (kettleError sub s) s
      else if 2 ^ kAvg s ≤ s.aln.kn + 1 then kettleMean (kettleCounted (kettleError sub s) s) else kettleCounted (kettleError sub s) s))
    (free : QueueFree P := by intros _ _; rfl) : Completes (.kettleEdge sub) s P :=
  completes_does rfl up (if_neg (by simp [on, power, source, steady])) p free

theorem kettleMiss_aln (e : Int) (s : State) : ∃ a, (kettleMiss e s).aln = { s.aln with kmiss := incSat16 s.aln.kmiss, missTick := a } := by
  unfold kettleMiss
  extract_lets -merge +onlyGivenNames _ counted due
  split
  · exact ⟨some counted.now, raise_aln ..⟩
  · exact ⟨s.aln.missTick, rfl⟩

/-- A mean that corrects the offset. -/
theorem kettleMean_corrects {m : Int} {s : State} (mean : m = roundDiv s.aln.ksum (2 ^ kAvg s)) (near : m.natAbs ≤ fld s.aln.kmax 0 16 * 256)
    (auto : kAuto s = true) (always : kOnce s = false) : (kettleMean s).aln = { s.aln with
      ksum := 0, kn := 0, kmeas := BitVec.ofNat 32 (satO m), gofs := BitVec.ofInt 32 (s.aln.gofs.toInt + m) } := by
  obtain ⟨u, hu⟩ : ∃ u : State, u = raise 0x0610 0xFF [(0, 4, satO m), (4, 2, s.aln.kok.toNat), (6, 2, s.aln.kmiss.toNat)]
    { s with aln := { s.aln with ksum := 0, kn := 0, kmeas := BitVec.ofNat 32 (satO m) } } := ⟨_, rfl⟩
  have aln : u.aln = { s.aln with ksum := 0, kn := 0, kmeas := BitVec.ofNat 32 (satO m) } := by rw [hu, raise_aln]
  obtain ⟨v, hv⟩ : ∃ v : State, v = raise 0x0611 0xFF [(0, 4, satO m), (4, 4, (gofsAdd m u).aln.gofs.toNat)] (gofsAdd m u) := ⟨_, rfl⟩
  have alnV : v.aln = { s.aln with ksum := 0, kn := 0, kmeas := BitVec.ofNat 32 (satO m), gofs := BitVec.ofInt 32 (s.aln.gofs.toInt + m) } := by
    rw [hv, raise_aln, gofsAdd_aln, aln]
  have autoU : kAuto u = true := by rw [kAuto, aln]; exact auto
  have onceV : kOnce v = false := by rw [kOnce, alnV]; exact always
  have nearU : ¬ fld u.aln.kmax 0 16 * 256 < m.natAbs := by rw [aln]; exact Nat.not_lt.mpr near
  have does : kettleMean s = v := by
    unfold kettleMean
    simp only [← mean, ← hu, if_neg nearU, autoU, if_true, ← hv, onceV, Bool.false_eq_true, if_false]
  rw [does, alnV]

/-- The fields of KETTLE_CFG that a legal write keeps. -/
theorem kettleCfg_legal {v : Word} (win : fld v 0 8 ≠ 0) (avg : fld v 24 3 ≠ 7) :
    oneFld (limFld (v &&& 0xF70000FF) 24 3 0 6) 0 8 = v &&& 0xF70000FF := by
  have keepsAvg : fld (v &&& 0xF70000FF) 24 3 = fld v 24 3 := fld_and (by decide)
  have keepsWin : fld (v &&& 0xF70000FF) 0 8 = fld v 0 8 := fld_and (by decide)
  have limit : limFld (v &&& 0xF70000FF) 24 3 0 6 = v &&& 0xF70000FF := by
    have small := fld_lt v 24 3
    rw [limFld, keepsAvg, if_neg (by omega), if_neg (by omega)]
  rw [limit, oneFld_same (by rw [keepsWin]; exact win)]

/-- The two bits of a field of two. -/
theorem fld_two_eq_three {v : Word} {lo : Nat} : fld v lo 2 = 3 ↔ bitAt v lo = true ∧ bitAt v (lo + 1) = true := by
  have low := fld_testBit v lo 2 0
  have high := fld_testBit v lo 2 1
  have small := fld_lt v lo 2
  simp only [Nat.add_zero] at low
  have bit0 : bitAt v lo = (fld v lo 2).testBit 0 := by simpa using low.symm
  have bit1 : bitAt v (lo + 1) = (fld v lo 2).testBit 1 := by simpa using high.symm
  rw [bit0, bit1]
  generalize fld v lo 2 = n at small
  interval_cases n <;> decide

/-! ### The stitch chain (R407 to R413) -/

theorem stitchCfg_legal {v : Word} (role : fld v 30 2 = 2) (period : fld v 16 3 ≤ 4) (gain : fld v 8 4 ≠ 0) :
    oneFld (limFld (v &&& 0xE7073F00) 16 3 0 4) 8 4 = v &&& 0xE7073F00 ∧ fld (v &&& 0xE7073F00) 30 2 = 2 := by
  have keepsPer : fld (v &&& 0xE7073F00) 16 3 = fld v 16 3 := fld_and (by decide)
  have keepsLoss : fld (v &&& 0xE7073F00) 8 4 = fld v 8 4 := fld_and (by decide)
  have limit : limFld (v &&& 0xE7073F00) 16 3 0 4 = v &&& 0xE7073F00 := by
    rw [limFld, keepsPer, if_neg (by omega), if_neg (by omega)]
  exact ⟨by rw [limit, oneFld_same (by rw [keepsLoss]; exact gain)], (fld_and (by decide)).trans role⟩

theorem stitchLost_aln (cause : Nat) (s : State) : (stitchLost cause s).aln = { s.aln with ststate := 4, lockRun := 0 } := raise_aln ..

theorem stitchAcquire_aln (e : Int) (s : State) : (stitchAcquire e s).aln =
    { s.aln with gofs := BitVec.ofInt 32 (s.aln.gofs.toInt + e), ststate := 2, lockRun := 0 } := by
  unfold stitchAcquire
  dsimp only
  rw [raise_aln, gofsAdd_aln]

/-- What the count of near words changes. -/
theorem stitchCount_aln (e : Int) (s : State) : (stitchCount e s).aln = { s.aln with
    lockRun := if e.natAbs ≤ stLock s then s.aln.lockRun + 1 else 0
    ststate := if s.aln.ststate.toNat = 2 ∧ 4 ≤ (if e.natAbs ≤ stLock s then s.aln.lockRun + 1 else 0) then 3 else s.aln.ststate } := by
  unfold stitchCount
  extract_lets -merge +onlyGivenNames _ counted
  by_cases locks : s.aln.ststate.toNat = 2 ∧ 4 ≤ (if e.natAbs ≤ stLock s then s.aln.lockRun + 1 else 0)
  · rw [if_pos (by simpa [counted] using locks), raise_aln, if_pos locks]
  · rw [if_neg (by simpa [counted] using locks), if_neg locks]

/-- What a tracked word leaves of the position and of the error. -/
theorem stitchTrack_aln (e : Int) (s : State) : (stitchTrack e s).aln.pos = s.aln.pos ∧ (stitchTrack e s).aln.sterr = s.aln.sterr := by
  unfold stitchTrack
  split
  · exact ⟨rfl, rfl⟩
  · rw [stitchCount_aln, gofsAdd_aln]
    exact ⟨rfl, rfl⟩

/-- The error of a word, and the state in which it is handled (R410). -/
def stitchError (w : StitchRx) (s : State) : Int :=
  (stamp256 w.mark : Int) - s.aln.gofs.toInt - s.aln.stdly.toNat -
    ((leAt (leBytes 16 w.word.toNat) 4 6 * 1000000000 + leAt (leBytes 16 w.word.toNat) 10 4) * 256 : Nat)

def stitchTaken (w : StitchRx) (s : State) : State :=
  { s with aln := { s.aln with
    pos := BitVec.ofNat 3 (leAt (leBytes 16 w.word.toNat) 1 1 + 1), holdIn := false, deep := false, sterr := BitVec.ofNat 32 (satO (stitchError w s)) } }

/-- A good word without HOLD, of a depth that goes on. -/
theorem stitchWord_good {w : StitchRx} {s : State} {P : State → Prop} (up : devUp s = true) (role : stRole s = 2) (power : s.pwr.st ≠ .holdover)
    (sync : (leBytes 16 w.word.toNat).getD 0 0 = 0xD5) (crc : hcs ((leBytes 16 w.word.toNat).take 14) = leAt (leBytes 16 w.word.toNat) 14 2)
    (depth : leAt (leBytes 16 w.word.toNat) 1 1 < 7)
    (p : P (if s.aln.ststate = 1 ∨ s.aln.ststate = 4 then stitchAcquire (stitchError w s) (stitchTaken w s) else
      stitchTrack (stitchError w s) (stitchTaken w s)))
    (free : QueueFree P := by intros _ _; rfl) : Completes (.stitchWordReceive w) s P := by
  have mod : leAt (leBytes 16 w.word.toNat) 1 1 % 8 = leAt (leBytes 16 w.word.toNat) 1 1 := Nat.mod_eq_of_lt (by omega)
  have hold : (leAt (leBytes 16 w.word.toNat) 1 1).testBit 3 = false := Nat.testBit_lt_two_pow (by omega)
  refine completes_does rfl up ?_ p free
  refine (if_neg (by simp [role, power])).trans ((if_neg (not_or.mpr ⟨not_not.mpr sync, not_not.mpr crc⟩)).trans ?_)
  simp only [mod, hold, if_neg (show ¬ leAt (leBytes 16 w.word.toNat) 1 1 = 7 by omega), Bool.false_eq_true, if_false]
  rfl

end Sys2Proof.Machine

open Sys2Proof Sys2Proof.Machine

/-- Settles O37, by what each command of the offset, of kettle mode and of the stitch chain leaves in the alignment. -/
theorem alignment : Obligations.Alignment := by
  intro s up
  refine ⟨fun v manual alone => ?gofs, fun v busy => ?gofsRefused, fun sub on power source steady => ?counted, fun sub on power source steady => ?mean,
    fun sub on power source steady far => ?miss, fun drive => ?drive, fun v both slave win avg on => ?kettleCfg, fun v both => ?kettleRefused,
    fun v role manual alone period gain => ?stitchCfg, fun v role on auto => ?stitchRefused, fun role power => ?send,
    fun w role power sync => ?badWord, fun w role power sync crc depth => ?word, fun role state power => ?loss⟩
  case gofs =>
    refine completes_hostDoes (f := gofsWrite v) rfl up (fun w x => if_neg (not_or.mpr ⟨?_, alone⟩)) fun w x => gofsChange_aln ..
    exact Bool.eq_false_iff.mp manual
  case gofsRefused =>
    exact completes_hostDoes (f := gofsWrite v) rfl up (fun w x => if_pos busy) fun w x => alnRefuse_state ..
  case counted =>
    intro e near few
    refine kettleEdge_measured up on power source steady ?_
    have same : kettleError sub s = e := rfl
    rw [same, if_neg (Nat.not_lt.mpr near), if_neg (Nat.not_le.mpr few)]
    rfl
  case mean =>
    intro e m near enough small auto always
    refine kettleEdge_measured up on power source steady ?_
    have same : kettleError sub s = e := rfl
    have corrected := kettleMean_corrects (m := m) (s := kettleCounted e s) rfl small auto always
    rw [same, if_neg (Nat.not_lt.mpr near), if_pos enough, corrected]
    exact ⟨rfl, rfl, rfl, rfl⟩
  case miss =>
    refine kettleEdge_measured up on power source steady ?_
    obtain ⟨a, missed⟩ := kettleMiss_aln (kettleError sub s) s
    have beyond : kWin s * 256000 < (kettleError sub s).natAbs := far
    rw [if_pos beyond, missed]
    exact ⟨rfl, rfl, rfl, rfl⟩
  case drive => exact completes_state (t := { s with aln := { s.aln with kout := some s.now } }) rfl up (if_pos drive) rfl rfl
  case kettleCfg =>
    have legal : ¬ ((bitAt v 30 && bitAt v 29) || (bitAt v 29 && decide (stRole s = 2))) = true := by
      intro bad
      rcases Bool.or_eq_true_iff.mp bad with two | one
      · obtain ⟨b30, b29⟩ := Bool.and_eq_true_iff.mp two
        exact both (fld_two_eq_three.mpr ⟨b29, b30⟩)
      · obtain ⟨b29, role⟩ := Bool.and_eq_true_iff.mp one
        exact slave.elim (fun off => Bool.false_ne_true (off.symm.trans b29)) fun other => other (of_decide_eq_true role)
    have stale : ¬ (bitAt v 31 && !kEn s) = true := by simp [on]
    refine completes_hostDoes (f := kcfgWrite v) rfl up (fun w x => (if_neg legal).trans (if_neg stale)) fun w x => ?_
    rw [kettleCfg_legal win avg]
    rfl
  case kettleRefused =>
    obtain ⟨b29, b30⟩ := fld_two_eq_three.mp both
    exact completes_hostDoes (f := kcfgWrite v) rfl up (fun w x => if_pos (by simp [b29, b30])) fun w x => alnRefuse_state ..
  case stitchCfg =>
    obtain ⟨word, kept⟩ := stitchCfg_legal role period gain
    have legal : ¬ (fld v 30 2 = 2 ∧ kEn s = true ∧ kAuto s = true) := fun bad =>
      manual.elim (fun off => Bool.false_ne_true (off.symm.trans bad.2.1)) fun off => Bool.false_ne_true (off.symm.trans bad.2.2)
    have slave : fld (if fld (v &&& 0xE7073F00) 30 2 = 3 then setFld (v &&& 0xE7073F00) 30 2 0 else v &&& 0xE7073F00) 30 2 % 3 = 2 := by
      rw [if_neg (by omega), kept]
    refine completes_hostDoes (f := stcfgWrite v) rfl up (fun w x => ?_) (t := fun w x => { s.woken w x with aln := { s.aln with
      stcfg := v &&& 0xE7073F00, ststate := 1, lockRun := 0, deep := false } }) fun w x => rfl
    refine (if_neg legal).trans ?_
    rw [word]
    refine (if_pos slave).trans ((if_neg alone).trans ?_)
    rw [if_neg (by omega)]
    rfl
  case stitchRefused =>
    exact completes_hostDoes (f := stcfgWrite v) rfl up (fun w x => if_pos ⟨role, on, auto⟩) fun w x => alnRefuse_state ..
  case send =>
    refine completes_does rfl up (if_pos ⟨.inl role, power⟩) ?_
    have master : ¬ stRole s = 2 := by omega
    simp only [master, decide_false, Bool.false_eq_true, if_false, Bool.false_and, Bool.or_false]
  case badWord =>
    exact completes_does rfl up ((if_neg (by simp [role, power])).trans (if_pos (.inl sync))) rfl
  case word =>
    intro e
    have same : stitchError w s = e := rfl
    refine stitchWord_good up role power sync crc depth ?_
    rw [same]
    obtain ⟨t, ht⟩ : ∃ t, t = stitchTaken w s := ⟨_, rfl⟩
    have aln : t.aln = { s.aln with
        pos := BitVec.ofNat 3 (leAt (leBytes 16 w.word.toNat) 1 1 + 1), holdIn := false, deep := false, sterr := BitVec.ofNat 32 (satO e) } := by
      rw [ht, stitchTaken, same]
    rw [← ht]
    clear_value e
    split
    · next acquires =>
      rw [stitchAcquire_aln, aln]
      refine ⟨rfl, rfl, fun _ => ⟨rfl, rfl⟩, fun locked => ?_, fun locking => ?_⟩
      · rw [locked] at acquires
        exact absurd acquires (by decide)
      · rw [locking] at acquires
        exact absurd acquires (by decide)
    · next tracks =>
      obtain ⟨pos, err⟩ := stitchTrack_aln e t
      refine ⟨by rw [pos, aln], by rw [err, aln], fun acquiring => absurd (.inl acquiring) tracks,
        fun locked far => ?_, fun locking near close run => ?_⟩
      · have far_ : stMax t < e.natAbs := by rw [stMax, aln]; exact far
        rw [stitchTrack, if_pos far_]
        exact ⟨rfl, by rw [aln]⟩
      · have near_ : ¬ stMax t < e.natAbs := by rw [stMax, aln]; exact Nat.not_lt.mpr near
        have close_ : e.natAbs ≤ stLock (gofsAdd (roundDiv e (stGain t)) t) := by rw [stLock, gofsAdd_aln, aln]; exact close
        rw [stitchTrack, if_neg near_, stitchCount_aln, if_pos close_, gofsAdd_aln, aln]
        simp [locking, run]
  case loss =>
    exact completes_does (t := stitchLost 2 s) rfl up (if_pos ⟨role, state, power⟩) (stitchLost_aln 2 s)

end


section
/-! The windows, lingering, resync, keep-alives and wake budget of a sleepy leaf (09 R296 to R315). -/
namespace Sys2Proof.Machine

theorem notLeaf_of_head {s : State} (head : isHead s = true) : ¬ isLeaf s = true := by
  simp only [isHead, isLeaf] at head ⊢
  grind

/-! ### A frame given a folio -/

/-- The frame itself, given one of the next folios. -/
theorem contend_frame {f : TxFrame} {s : State} (mem : f ∈ s.line.q) : ∃ n, { f with folio := some n } ∈ (contend f.id s).line.q := by
  unfold contend
  split
  next gone =>
    have other := List.find?_eq_none.mp gone f mem
    simp at other
  next g _ =>
    refine ⟨_, List.mem_map.mpr ⟨f, ?_, if_pos rfl⟩⟩
    exact mem

theorem contend_submit (f : TxFrame) (s : State) : ∃ n, { f with folio := some n } ∈ (contend f.id (submit f s)).line.q :=
  contend_frame (List.mem_append_right _ (List.mem_singleton_self f))

theorem keepAlive_frame (s : State) : ∃ f ∈ (keepAlive s).line.q, f.id = s.line.nextId ∧ f.ty.toNat = tyData ∧ f.body = [] ∧ f.ackreq = true :=
  have ⟨_, mem⟩ := contend_submit { txNew tyData 0 [] s with ackreq := true } s
  ⟨_, mem, rfl, rfl, rfl, rfl⟩

/-! ### Windows -/

/-- What a window's end leaves but the count of awake time. -/
theorem awakeSettle_slp (s : State) : (awakeSettle s).slp.window = s.slp.window ∧ (awakeSettle s).slp.missed = s.slp.missed ∧
    (awakeSettle s).slp.search = s.slp.search ∧ (awakeSettle s).slp.linger = s.slp.linger := by
  unfold awakeSettle awakeStop
  split
  · split <;> exact ⟨rfl, rfl, rfl, rfl⟩
  · exact ⟨rfl, rfl, rfl, rfl⟩

/-- The count of misses in a row after one more (R309). -/
def missesNext (s : State) : BitVec 8 := if s.slp.missed = 255 then 255 else s.slp.missed + 1

theorem countMiss_slp (kind : Nat) (s : State) : (countMiss kind s).slp.window = s.slp.window ∧
    (countMiss kind s).slp.missed = missesNext s ∧ (slpMiss s ≤ (missesNext s).toNat → (countMiss kind s).slp.search = true) := by
  unfold countMiss
  extract_lets -merge +onlyGivenNames m _ counted _ told
  have told_slp : told.slp.window = s.slp.window ∧ told.slp.missed = missesNext s ∧ told.slp.search = s.slp.search ∧ told.slp.cfg = s.slp.cfg := by
    unfold told
    split
    · exact ⟨rfl, rfl, rfl, rfl⟩
    · rw [raise_slp]
      exact ⟨rfl, rfl, rfl, rfl⟩
  obtain ⟨window, missed, search, cfg⟩ := told_slp
  have limit : slpMiss told = slpMiss s := by rw [slpMiss, cfg, slpMiss]
  clear_value told
  split
  · simp only [awakeStart, searchEvent, raise_slp]
    exact ⟨window, missed, fun _ => trivial⟩
  next stays =>
    refine ⟨window, missed, fun enough => ?_⟩
    rw [limit] at stays
    by_contra idle
    exact stays ⟨enough, by simpa using idle⟩

/-- The window shut. -/
def windowShut (s : State) : State := { s with slp := { s.slp with window := none } }

/-- The kind of a miss does not depend on the window still being kept. -/
theorem missKind_closed (k : WindowKind) (s : State) : missKind k (windowShut s) = missKind k s := by
  cases k <;> rfl

/-- Closing a window that no port is in a frame of. -/
theorem listenWindow_closes {k : WindowKind} {s : State} {P : State → Prop} (up : devUp s = true) (window : s.slp.window = some k)
    (quiet : ∀ p, p < 3 → (portX s p).rxActive = none)
    (p : P (awakeSettle (match missKind k s with
      | some m => countMiss m (windowShut s)
      | none => windowShut s)))
    (free : QueueFree P := by intros _ _; rfl) : Completes .listenWindowClose s P := by
  have none_ : ((List.range 3).any fun p => (portX s p).rxActive.isSome) = false := by
    simpa [List.any_eq_false] using quiet
  refine completes_does rfl up ?_ p free
  simp only [window, none_, Bool.false_eq_true, if_false]
  rw [← missKind_closed]
  rfl

end Sys2Proof.Machine

open Sys2Proof Sys2Proof.Machine

/-- Settles O27, by what each timer of a sleepy leaf leaves in its registers and in the queue. -/
theorem sleepyLeaf : Obligations.SleepyLeaf := by
  intro s up
  refine ⟨fun sleepy due idle => ?keep, fun k sleepy active running shut due => ?opens, fun k window quiet hit => ?hit,
    fun k m window quiet miss => ?miss, fun leaf ran n => ?linger, fun n head => ?headLinger, fun sleepy sampled due => ?resync, ?period,
    fun leaf within spent => ?budget⟩
  case keep =>
    refine completes_does rfl up (if_pos ?_) (keepAlive_frame s)
    simp only [sleepy, decide_eq_true due, idle, Bool.not_false, Bool.and_self]
  case opens =>
    refine completes_does rfl up (if_pos ?_) ⟨rfl, rfl⟩
    simp only [sleepy, active, running, shut, due, decide_true, Option.isNone_none, Bool.and_self]
  case hit =>
    refine listenWindow_closes up window quiet ?_
    rw [hit]
    obtain ⟨closed, missed, -, -⟩ := awakeSettle_slp (windowShut s)
    exact ⟨closed, missed⟩
  case miss =>
    refine listenWindow_closes up window quiet ?_
    rw [miss]
    obtain ⟨closed, missed, search, -⟩ := awakeSettle_slp (countMiss m (windowShut s))
    obtain ⟨closed_, missed_, search_⟩ := countMiss_slp m (windowShut s)
    refine ⟨closed.trans closed_, missed.trans missed_, fun enough => search.trans (search_ ?_)⟩
    rw [missed.trans missed_] at enough
    exact enough
  case linger =>
    refine completes_does rfl up ((if_pos leaf).trans (if_pos ran)) ?_
    exact (awakeSettle_slp _).2.2.2
  case headLinger => exact completes_does rfl up (if_neg (notLeaf_of_head head)) rfl
  case resync =>
    refine completes_does rfl up (if_pos ?_) rfl
    simp only [sleepy, decide_eq_true sampled, decide_eq_true due, Bool.true_or, Bool.and_self]
  case period => exact completes_does rfl up rfl ⟨rfl, rfl⟩
  case budget =>
    refine completes_does rfl up (if_pos ?_) (raise_slp ..)
    simp only [leaf, within, decide_eq_true spent, Bool.not_false, Bool.and_self]

end


section
/-! A leaf's own tip-in (08 R259 to R265, 13 R453). -/
namespace Sys2Proof.Machine

theorem joinReq_type : (BitVec.ofNat 4 tyJoinReq).toNat = tyJoinReq := by decide

/-- The JOIN_REQ of a leaf that asks is queued for one of the next folios. -/
theorem sendJoinReq_frame (s : State) :
    ∃ f ∈ (sendJoinReq s).line.q, f.ty.toNat = tyJoinReq ∧ f.folio ≠ none ∧ f.id = s.line.nextId :=
  have ⟨_, mem⟩ := contend_submit { txNew tyJoinReq 0 (joinReqBody (dropJoinFrames s)) (dropJoinFrames s) with
    src := 0xFFF, ports := portMask [s.mpt.leafPort.val] } (dropJoinFrames s)
  ⟨_, mem, joinReq_type, Option.some_ne_none _, rfl⟩

/-- An entry forgotten as learned leaves the state of joining. -/
theorem unlearn_lt (s : State) : (unlearn s).lt.jstate = s.lt.jstate ∧ (unlearn s).lt.join = s.lt.join := by
  unfold unlearn
  extract_lets -merge +onlyGivenNames e _ reset marked
  split
  · rw [raise_lt]
    exact ⟨rfl, rfl⟩
  · exact ⟨rfl, rfl⟩

/-- Tip-in begun, or begun again: the state of joining, its waits cleared, and its request. -/
def AsksAgain (t : State) : Prop := t.lt.jstate = 1 ∧ t.ltx.confirmWait = false ∧ ∃ f ∈ t.line.q, f.ty.toNat = tyJoinReq ∧ f.folio ≠ none

theorem beginTipin_asks (s : State) : AsksAgain (beginTipin s) ∧ (beginTipin s).lt.join = s.lt.join := by
  unfold beginTipin
  extract_lets -merge +onlyGivenNames _ _ _ _ unlearned
  have lt : unlearned.lt.jstate = 1 ∧ unlearned.lt.join = s.lt.join := unlearn_lt _
  have ltx : unlearned.ltx.confirmWait = false := congrArg LtX.confirmWait ((unlearn_keeps _).ltx_eq rfl)
  clear_value unlearned
  obtain ⟨f, mem, ty, folio, -⟩ := sendJoinReq_frame (updEntry 0 (fun e => set512 e 200 24 0) unlearned)
  have kept := sendJoinReq_keeps (updEntry 0 (fun e => set512 e 200 24 0) unlearned)
  refine ⟨⟨?_, ?_, f, mem, ty, folio⟩, ?_⟩
  · rw [kept.lt_eq rfl]
    exact lt.1
  · rw [kept.ltx_eq rfl]
    exact ltx
  · rw [kept.lt_eq rfl]
    exact lt.2

theorem retryTipin_asks (s : State) : AsksAgain (retryTipin s) := (beginTipin_asks _).1

/-- Only the low 18 bits of LT_JOIN are kept, START is not one of them (R259). -/
theorem join_kept (v : Word) : (v ||| 0x80000000) &&& 0x3FFFF = v &&& 0x3FFFF ∧ bitAt (v ||| 0x80000000) 31 = true := by
  constructor
  · rw [BitVec.and_or_distrib_right]
    simp
  · simp [bitAt]

end Sys2Proof.Machine

open Sys2Proof Sys2Proof.Machine

/-- Settles O26: every way back to tip-in begins it anew with a request of its own. -/
theorem tipIn : Obligations.TipIn := by
  intro s up leaf
  refine ⟨fun v => ?start, fun asking waiting late => ?retry, fun waiting late => ?confirm, fun joined lost => ?lost, fun joined gone => ?gone,
    fun joined mute => ?mute⟩
  case start =>
    refine completes_hostDoes (f := ltJoinWrite (v ||| 0x80000000)) (t := fun w x =>
        retryTipin { s.woken w x with lt := { s.lt with join := v &&& 0x3FFFF } }) rfl up
      (fun w x => ?_) fun w x => ⟨retryTipin_asks _, (beginTipin_asks _).2⟩
    obtain ⟨kept, starts⟩ := join_kept v
    unfold ltJoinWrite
    rw [kept, starts]
    exact if_pos leaf
  case retry =>
    refine completes_does (t := sendJoinReq { s with ltx := { s.ltx with tipWait := 0 } }) rfl up (if_pos ?_) ?_
    · simp only [joining, leaf, decide_eq_true asking, waiting, decide_eq_true late, Bool.not_false, Bool.and_self]
    · obtain ⟨f, mem, ty, -, id⟩ := sendJoinReq_frame { s with ltx := { s.ltx with tipWait := 0 } }
      refine ⟨?_, f, mem, ty, id⟩
      rw [(sendJoinReq_keeps _).ltx_eq rfl]
  case confirm =>
    refine completes_does rfl up (if_pos ?_) (retryTipin_asks (dropConfirm s))
    simp only [leaf, waiting, decide_eq_true late, Bool.and_self]
  case lost =>
    refine completes_does rfl up (if_pos ?_) (raise_lt ..)
    simp only [leaf, decide_eq_true joined, decide_eq_true lost, Bool.and_self]
  case gone =>
    refine completes_does rfl up (if_pos ?_) (retryTipin_asks s)
    simp only [leaf, isJoined, decide_eq_true joined, decide_eq_true gone, Bool.and_self]
  case mute =>
    refine completes_does rfl up (if_pos ?_) (retryTipin_asks s)
    simp only [leaf, isJoined, decide_eq_true joined, decide_eq_true mute, Bool.and_self]

end


section
/-! A REMOTE_RESP ends the REMOTE that it answers (08 R277). Where that REMOTE is held for its next attempt and is the last frame held in
its band, the band is restored and AIR_BAND_RESTORED is raised (03 R111), whose record goes to host memory beside the data read. The
clause of O22 on the data of a read names no event, so a late answer refutes it. -/
namespace Sys2Proof.Machine

/-- A REMOTE_READ of one word of leaf 1 into address 0x1000. -/
def readOne : DescBytes := set512 (set512 (set512 0 0 16 0x20) 64 64 0x1000) 128 32 4

/-- The REMOTE of that descriptor, which timed out once and is held for its next attempt. -/
def heldRead (s : State) : TxFrame :=
  { txNew tyRemote 1 (remoteBody 0 1 0 0 []) s with st := .held, built := [0], desc := some (2, 0) }

/-- Descriptor 0 of a ring, taken and not yet done. -/
def takenOf (d : DescBytes) : Taken := { id := 0, bytes := d, result := none, mail := false, events := [] }

/-- A head with leaf 1 ACTIVE and its key in slot 0, the event ring running, the REMOTE_READ held as the last frame of band 0. -/
def lateAnswer : State :=
  let s := State.reset
  { s with
    hi := { s.hi with
      sq := s.hi.sq.map fun q => { q with taken := [takenOf readOne] } }
    ev := { s.ev with st := .running }
    air := { s.air with dry := 1 }
    afe := { s.afe with p := s.afe.p.map fun p => { p with st := .idle } }
    lt := { s.lt with mem := [(1, set512 0 60 3 2)] }
    cx := { s.cx with slot := vupd s.cx.slot 0 fun k => { k with use := useCached, owner := 1 } }
    line := { s.line with q := [heldRead s] } }

/-- The header of the leaf's answer: the word read is 0. -/
def respHdr : Hdr := hdrFor { txNew tyRemoteResp 0 (remoteBody 0 0 0 0 [0, 0, 0, 0]) lateAnswer with src := 1 } 0 false lateAnswer

/-- The answer as port 0 hears it. -/
def respRx : RxFrame :=
  { port := 0, ofdm := false, fc := 0, copy := false, mse := 128, rsOk := true, corrected := 0, ofs := 0,
    bytes := buildFrame respHdr none 0 0 0 false 0 (remoteBody 0 0 0 0 [0, 0, 0, 0]),
    lqi := 0, snr := 0, stamp := zeroStamp, angle := 0, ports := 1, headUid := 0 }


/-- The answer past its checks. -/
def respFront : Front :=
  { f := respRx, h := respHdr, rt := none, hops := 0, cls := 1, gen := 0, inv := 0, sec := (respRx.bytes.drop 12).take 8,
    body := remoteBody 0 0 0 0 [0, 0, 0, 0], tag := (respRx.bytes.drop 34).take 16 }

theorem lateAnswer_opens : (rxOpen respRx lateAnswer).1 = some respFront := by decide +kernel

/-- The answer meets every condition of the clause. -/
theorem lateAnswer_meets : devUp lateAnswer = true ∧ pairHeld respRx lateAnswer = false ∧
    mustRelay (rxOpen respRx lateAnswer).2 respFront.h respFront.rt respFront.hops = false ∧
    respFront.h.ty = tyRemoteResp ∧ isHead lateAnswer = true ∧
    answeredBy respFront (rxOpen respRx lateAnswer).2 = some (heldRead State.reset) ∧ leAt respFront.body 1 1 = 0 ∧
    takenAt (rxOpen respRx lateAnswer).2 2 0 = some (takenOf readOne) ∧ dOp readOne = 0x20 ∧
    regionOk (rxOpen respRx lateAnswer).2 (dAddr readOne) (4 * leAt (heldRead State.reset).body 1 1) = true := by decide +kernel

/-- Host memory in the state a command answers. -/
def outMem (o : Out) : Option (Sparse Byte) := match o with
  | .next t => some t.hostMem
  | _ => none

/-- The record of AIR_BAND_RESTORED stands in host memory besides the data. -/
theorem lateAnswer_mem : outMem (exec (.remoteRespReceive respRx) lateAnswer) ≠ some (spPutBytes (rxOpen respRx lateAnswer).2.hostMem
    (dAddr readOne) (respFront.body.drop 10)) := by
  decide +kernel

end Sys2Proof.Machine

open Sys2Proof Sys2Proof.Machine

/-- Refutes O22: the answer to a REMOTE_READ that is the last frame held in a band also writes the record of AIR_BAND_RESTORED to host
memory, where the clause has the data alone. -/
theorem not_networkFramesReceived : ¬ Obligations.NetworkFramesReceived := by
  intro h
  obtain ⟨up, alone, own, ty, head, answers, ok, taken_, op, region⟩ := lateAnswer_meets
  obtain ⟨-, -, -, -, -, read⟩ := h respRx lateAnswer respFront up alone lateAnswer_opens own
  obtain ⟨t, ends, mem, -⟩ := read (heldRead State.reset) 2 0 (takenOf readOne) ty head answers rfl (by decide) ok (by decide) rfl taken_ rfl op region
  refine lateAnswer_mem ?_
  rw [ends]
  exact congrArg some mem

end


section
/-! What no reception changes: the windows of contention (02 R65) and, by a second copy, the first copies held (07 R241). -/
namespace Sys2Proof.Machine

/-! ### The windows of contention -/

theorem uncommit_cw (f : TxFrame) (s : State) : (uncommit f s).line.cw = s.line.cw := by
  unfold uncommit
  split
  · extract_lets -merge +onlyGivenNames cancelled given
    have kept : given.line = s.line := by
      unfold given
      split
      · rw [giveBack_line]
        exact (cancelCost_keeps ..).line_eq rfl
      · exact (cancelCost_keeps ..).line_eq rfl
    exact (congrArg Line.cw kept :)
  · rfl

theorem endFrame_cw (f : TxFrame) (s : State) : (endFrame f s).line.cw = s.line.cw := (congrArg Line.cw (endFrame_line f s)).trans rfl
theorem refusePosted_cw (f : TxFrame) (s : State) : (refusePosted f s).line.cw = s.line.cw := (congrArg Line.cw (refusePosted_line f s)).trans rfl

theorem pfailSweep_cw (n : Nat) (s : State) : (pfailSweep n s).line.cw = s.line.cw := by
  unfold pfailSweep
  split
  · exact foldl_kept (g := fun s => s.line.cw) (fun s f => refusePosted_cw f s) _ s
  · rfl

theorem failFrame_cw (f : TxFrame) (res : Result) (cause : Nat) (s : State) : (failFrame f res cause s).line.cw = s.line.cw := by
  unfold failFrame
  extract_lets back
  have start : back.line.cw = s.line.cw := uncommit_cw f s
  split
  · rw [pfailSweep_cw, endFrame_cw, (postedFailed_keeps ..).line_eq rfl, start]
  · rw [endFrame_cw, (finishOpt_keeps ..).line_eq rfl]
    split
    · rw [(fenceDrop_keeps ..).line_eq rfl, start]
    · exact start

theorem failPosted_cw (n cause : Nat) (s : State) : (failPosted n cause s).line.cw = s.line.cw :=
  foldl_kept (g := fun s => s.line.cw) (fun s f => failFrame_cw f (resSt 0x42 0) cause s) _ s

theorem joinEntry_cw (n uid : Nat) (caps : Option Nat) (ports : Option (BitVec 3)) (kdk : BitVec 256) (s : State) :
    (joinEntry n uid caps ports kdk s).line.cw = s.line.cw := by
  unfold joinEntry
  extract_lets invited failed entered placed
  have kept : placed.line = failed.line := (placeKey_keeps ..).line_eq rfl
  exact (congrArg Line.cw kept).trans (failPosted_cw n 6 s)

theorem startRekey_cw (n trigger : Nat) (s : State) : (startRekey n trigger s).line.cw = s.line.cw := by
  unfold startRekey
  extract_lets -merge +onlyGivenNames e st
  split
  · rfl
  · split
    · extract_lets -merge +onlyGivenNames told joined _ listed
      have start : told.line = s.line := raise_line ..
      have kept : joined.line.cw = told.line.cw := joinEntry_cw ..
      clear_value joined
      exact kept.trans (congrArg Line.cw start)
    · rfl

theorem autoRekey_cw (n trigger : Nat) (s : State) : (autoRekey n trigger s).line.cw = s.line.cw := by
  unfold autoRekey
  split
  · exact startRekey_cw n trigger s
  · rfl

/-! ### Receptions -/

/-- The windows of contention are the same, and after a second copy the copies held are too. -/
structure Heard (f : RxFrame) (s t : State) : Prop where
  cw : t.line.cw = s.line.cw
  held : f.copy = true → t.rbm.held = s.rbm.held

namespace Heard
variable {f : RxFrame} {s t u : State}

theorem refl (f : RxFrame) (s : State) : Heard f s s := ⟨rfl, fun _ => rfl⟩
theorem trans (h : Heard f s t) (k : Heard f t u) : Heard f s u := ⟨k.cw.trans h.cw, fun c => (k.held c).trans (h.held c)⟩
theorem of_parts (line : t.line = s.line) (rbm : t.rbm = s.rbm) : Heard f s t := ⟨congrArg Line.cw line, fun _ => congrArg Rbm.held rbm⟩
theorem of_rbm (cw : t.line.cw = s.line.cw) (rbm : t.rbm = s.rbm) : Heard f s t := ⟨cw, fun _ => congrArg Rbm.held rbm⟩
theorem ite {c : Prop} [Decidable c] {a b : State} (x : Heard f s a) (y : Heard f s b) : Heard f s (if c then a else b) := by
  split
  · exact x
  · exact y

theorem ite2 {α : Type} {c : Prop} [Decidable c] {a b : α × State} (x : Heard f s a.2) (y : Heard f s b.2) :
    Heard f s (if c then a else b).2 := by
  split
  · exact x
  · exact y

end Heard

section
variable (f : RxFrame) (s : State)

theorem heard_raise (code inst : Nat) (p : List (Nat × Nat × Nat)) : Heard f s (raise code inst p s) := .of_parts (raise_line ..) (raise_rbm ..)

theorem heard_lfRaise (code port : Nat) (p : List (Nat × Nat × Nat)) : Heard f s (lfRaise code port p s) := by
  unfold lfRaise
  refine .ite (.refl f s) (.of_rbm ?_ (raise_rbm ..))
  rw [raise_line]

theorem heard_updRbm (p : Nat) (g : RbmPort → RbmPort) : Heard f s (updRbm p g s) := ⟨rfl, fun _ => rfl⟩

theorem heard_countFc (g : RxFrame) : Heard f s (countFc g s) := .ite (.of_parts rfl rfl) (heard_updRbm f s ..)
theorem heard_countHcs (g : RxFrame) : Heard f s (countHcs g s) := .ite (.of_parts rfl rfl) (heard_updRbm f s ..)
theorem heard_countRs (g : RxFrame) : Heard f s (countRs g s) := .ite (.of_parts rfl rfl) (heard_updRbm f s ..)
theorem heard_countFcs (g : RxFrame) : Heard f s (countFcs g s) := .ite (.of_parts rfl rfl) (heard_updRbm f s ..)
theorem heard_countOk (g : RxFrame) : Heard f s (countOk g s) := .ite (.of_parts rfl rfl) ⟨rfl, fun _ => rfl⟩

/-- A second copy is never held. -/
theorem heard_holdPair : Heard f s (holdPair f s) := by
  unfold holdPair
  split
  next first =>
    refine ⟨rfl, fun copy => ?_⟩
    obtain ⟨-, sole⟩ := Bool.and_eq_true_iff.mp first
    rw [copy] at sole
    exact absurd sole Bool.false_ne_true
  · exact .refl f s

theorem heard_rxFront : Heard f s (rxFront f s).2 := by
  unfold rxFront
  refine .ite2 (.refl f s) ?_
  extract_lets -merge +onlyGivenNames ended h roff rt hops sec tlen cls
  have start : Heard f s ended := .of_parts rfl rfl
  clear_value ended
  refine .ite2 ?train (.ite2 ?control (.ite2 ?header (.ite2 ?code (.ite2 start (.ite2 ?version (.ite2 start (.ite2 start (.ite2 ?check ?_))))))))
  case train =>
    extract_lets -merge +onlyGivenNames counted
    have count : Heard f s counted := start.trans (heard_countFc f ended f)
    clear_value counted
    exact .ite2 count (count.trans ((heard_updRbm f counted ..).trans (heard_raise f _ ..)))
  case control => exact start.trans (heard_countFc f ended f)
  case header => exact start.trans ((heard_countHcs f ended f).trans (heard_holdPair f _))
  case code => exact start.trans ((heard_countRs f ended f).trans (heard_holdPair f _))
  case version => exact start.trans (heard_lfRaise f ended ..)
  case check => exact start.trans ((heard_countFcs f ended f).trans (heard_holdPair f _))
  split
  exact .ite2 start start

theorem heard_accepted (o : Front) : Heard f s (accepted o s) := by
  unfold accepted
  extract_lets noted
  have start : Heard f s noted := (heard_countOk f s o.f).trans (.of_parts ((noteGrant_keeps ..).line_eq rfl) ((noteGrant_keeps ..).rbm_eq rfl))
  split
  · exact .ite (start.trans (.of_parts ((heardLeaf_keeps ..).line_eq rfl) ((heardLeaf_keeps ..).rbm_eq rfl))) start
  · exact .ite (start.trans (.of_parts rfl rfl)) start

theorem heard_failReply (o : Front) (st : Nat) : Heard f s (failReply o st s) := .ite ⟨rfl, fun _ => rfl⟩ (.refl f s)

theorem heard_autoRekey (n trigger : Nat) : Heard f s (autoRekey n trigger s) := .of_rbm (autoRekey_cw n trigger s) ((autoRekey_keeps ..).rbm_eq rfl)

theorem heard_rxVerify (o : Front) (i : Nat) : Heard f s (rxVerify o i s).2 := by
  unfold rxVerify
  extract_lets k
  split
  next enc =>
    generalize hadmit : admitJob i (lineBlocks o.h.ty o.h.dst o.h.rly o.h.len) s = r
    obtain ⟨a, u⟩ := r
    have admission : Heard f s u := by
      have kept := admitJob_keeps i (lineBlocks o.h.ty o.h.dst o.h.rly o.h.len) s
      rw [hadmit] at kept
      exact .of_parts (kept.line_eq rfl) (kept.rbm_eq rfl)
    refine .ite2 admission ?_
    · have done : Heard f s (jobDone i u) := admission.trans (.of_parts ((jobDone_keeps ..).line_eq rfl) ((jobDone_keeps ..).rbm_eq rfl))
      have warn : ∀ v, Heard f v (if a.warned && isHead v && decide (o.cls = 1) then autoRekey o.h.src.toNat 2 v else v) :=
        fun v => .ite (heard_autoRekey f v ..) (.refl f v)
      split
      · refine .trans ?_ (warn _)
        refine .trans ?_ (heard_failReply f _ o 1)
        exact done.trans (heard_lfRaise f _ ..)
      · refine .trans ?_ (warn _)
        refine .trans ?_ (heard_accepted f _ _)
        exact done.trans (.of_parts ((setHeld_keeps ..).line_eq rfl) ((setHeld_keeps ..).rbm_eq rfl))

/-- Opening a frame. -/
theorem heard_rxOpen : Heard f s (rxOpen f s).2 := by
  have front := heard_rxFront f s
  unfold rxOpen
  generalize rxFront f s = r at front ⊢
  obtain ⟨o, t⟩ := r
  match o with
  | none => exact front
  | some o =>
    refine .ite2 front (.ite2 front (.ite2 (front.trans (heard_countOk f t f)) (.ite2 front ?_)))
    have key : Heard f t (classKey o.cls o.h.src.toNat t).2 :=
      .of_parts ((classKey_keeps o.cls o.h.src.toNat t).line_eq rfl) ((classKey_keeps o.cls o.h.src.toNat t).rbm_eq rfl)
    generalize classKey o.cls o.h.src.toNat t = r at key ⊢
    obtain ⟨k, u⟩ := r
    have start : Heard f s u := front.trans key
    cases k with
    | wait => exact start
    | empty => exact Heard.ite (start.trans (heard_autoRekey f u ..)) start
    | slot i =>
      refine .ite2 ?wrong (.ite2 (start.trans (.of_parts rfl rfl)) (.ite2 ?old (start.trans (heard_rxVerify f u o i))))
      case wrong => exact Heard.ite (start.trans (heard_failReply f u ..)) start
      case old => exact Heard.ite start (start.trans
        (.trans (t := { u with cx := { u.cx with replay := inc32 u.cx.replay } }) (.of_parts rfl rfl) (heard_lfRaise f _ ..)))

end

end Sys2Proof.Machine
end


section
/-! A pair of half-cycle copies decoded (07 R241): the copies held stay as they are through whatever the frame does. -/
namespace Sys2Proof.Machine

/-! ### Register writes -/

theorem ite_held {c : Prop} [Decidable c] {a b : State} {h : List (Nat × Nat)} (x : a.rbm.held = h) (y : b.rbm.held = h) :
    (if c then a else b).rbm.held = h := by
  split
  · exact x
  · exact y

theorem held_of_rbm {s t : State} (rbm : t.rbm = s.rbm) : t.rbm.held = s.rbm.held := congrArg Rbm.held rbm

section
variable (v : Word) (s : State)

theorem rbmSet_held (fc bc dc : Word) (off : Nat) : (rbmSet fc bc dc off v s).rbm.held = s.rbm.held :=
  ite_held rfl (by rw [raise_rbm])

theorem rbmRecheck_held : (rbmRecheck s).rbm.held = s.rbm.held := ite_held rfl (by rw [raise_rbm])

theorem airCtrlWrite_held : (airCtrlWrite v s).rbm.held = s.rbm.held := by
  unfold airCtrlWrite
  split
  · exact held_of_rbm ((airRefuse_keeps ..).rbm_eq rfl)
  · exact (rbmRecheck_held _).trans (held_of_rbm ((slotsRecheck_keeps ..).rbm_eq rfl))

theorem wrAir_held (off : Nat) : (wrAir off v s).rbm.held = s.rbm.held := by
  unfold wrAir
  extract_lets b
  have budget : ∀ r, (airBudgetWrite r b v s).rbm.held = s.rbm.held := fun r => held_of_rbm ((airBudgetWrite_keeps ..).rbm_eq rfl)
  exact ite_held (airCtrlWrite_held v s) (ite_held (held_of_rbm ((airStatusWrite_keeps ..).rbm_eq rfl)) (ite_held (budget _)
    (ite_held (budget _) (ite_held (budget _) (ite_held rfl (ite_held rfl (ite_held rfl (ite_held rfl (ite_held rfl rfl)))))))))

theorem wrOfdRbm_held (off : Nat) : (wrOfdRbm off v s).rbm.held = s.rbm.held := by
  unfold wrOfdRbm
  split
  · exact held_of_rbm ((ofdCtrlWrite_keeps ..).rbm_eq rfl)
  · exact held_of_rbm ((ofdStatusWrite_keeps ..).rbm_eq rfl)
  · exact held_of_rbm ((ofdAddrWrite_keeps ..).rbm_eq rfl)
  · exact held_of_rbm ((tmDataWrite_keeps ..).rbm_eq rfl)
  · exact held_of_rbm ((tmValidWrite_keeps ..).rbm_eq rfl)
  · exact held_of_rbm ((ofdBcastWrite_keeps ..).rbm_eq rfl)
  · rfl
  · rfl
  · exact rbmSet_held ..
  · exact rbmSet_held ..
  · exact rbmSet_held ..
  · rfl

theorem wrBar0_held (a : Agent) (off : Nat) : (wrBar0 a off v s).rbm.held = s.rbm.held := by
  have quiet : ∀ {t : State}, t.rbm = s.rbm → t.rbm.held = s.rbm.held := held_of_rbm
  unfold wrBar0
  exact ite_held (quiet ((wrHi_keeps ..).rbm_eq rfl)) (ite_held (quiet ((wrRing_keeps ..).rbm_eq rfl)) (ite_held (quiet ((wrRing_keeps ..).rbm_eq rfl))
    (ite_held rfl (ite_held (quiet ((wrMpt_keeps ..).rbm_eq rfl)) (ite_held (quiet ((wrQr_keeps ..).rbm_eq rfl)) (ite_held (wrAir_held v s _)
    (ite_held (quiet ((wrAfe_keeps ..).rbm_eq rfl)) (ite_held (quiet ((wrPort_keeps ..).rbm_eq rfl)) (ite_held (wrOfdRbm_held v s _)
    (ite_held (quiet ((wrLt_keeps ..).rbm_eq rfl)) (ite_held (quiet ((wrSlp_keeps ..).rbm_eq rfl)) (ite_held (quiet ((wrTe_keeps ..).rbm_eq rfl))
    (ite_held (quiet ((wrRgc_keeps ..).rbm_eq rfl)) (ite_held (quiet ((wrRg_keeps ..).rbm_eq rfl)) (ite_held rfl
    (ite_held (quiet ((wrCx_keeps ..).rbm_eq rfl)) (ite_held (quiet ((wrCv_keeps ..).rbm_eq rfl)) (ite_held (quiet ((wrSys_keeps ..).rbm_eq rfl))
    (ite_held (quiet ((wrPmx_keeps ..).rbm_eq rfl)) (quiet ((wrBell_keeps ..).rbm_eq rfl)))))))))))))))))))))

theorem writeReg_held (a : Agent) (bar2 : Bool) (off : Nat) (be : BitVec 4) : (writeReg a bar2 off be v s).rbm.held = s.rbm.held := by
  unfold writeReg
  exact ite_held rfl (ite_held rfl (ite_held rfl (ite_held rfl (ite_held (held_of_rbm ((wrBar2_keeps ..).rbm_eq rfl)) (wrBar0_held v s a off)))))

end

theorem remoteWriteWords_held (n off : Nat) (bs : List Byte) (s : State) : (remoteWriteWords n off bs s).2.rbm.held = s.rbm.held := by
  induction n generalizing off bs s with
  | zero => rfl
  | succ n ih => exact (ih ..).trans (writeReg_held ..)

/-! ### What a frame does -/

theorem remoteAct_held (b : List Byte) (s : State) : (remoteAct b s).2.2.rbm.held = s.rbm.held := by
  unfold remoteAct
  extract_lets op n off
  split
  · rfl
  · split
    · rfl
    · split
      · exact held_of_rbm ((remoteReadWords_keeps ..).rbm_eq rfl)
      · exact remoteWriteWords_held ..

theorem onRemote_held (o : Front) (s : State) : (onRemote o s).rbm.held = s.rbm.held := by
  unfold onRemote
  refine ite_held rfl ?_
  extract_lets d
  refine ite_held ?_ (ite_held ?_ rfl)
  · have act := remoteAct_held o.body s
    generalize remoteAct o.body s = r at act ⊢
    obtain ⟨st, data, t⟩ := r
    exact (held_of_rbm ((sendRemoteResp_keeps ..).rbm_eq rfl)).trans act
  · split
    · exact ite_held (held_of_rbm ((sendRemoteResp_keeps ..).rbm_eq rfl)) rfl
    · rfl

theorem countOk_held (f : RxFrame) (s : State) : (countOk f s).rbm.held = s.rbm.held := ite_held rfl rfl

theorem onRelay_held (o : Front) (s : State) : (onRelay o s).rbm.held = s.rbm.held := by
  unfold onRelay
  split
  · rfl
  next r _ =>
    extract_lets -merge +onlyGivenNames prev noted
    have start : noted.rbm.held = s.rbm.held := (held_of_rbm ((noteGrant_keeps ..).rbm_eq rfl)).trans (countOk_held o.f s)
    clear_value noted
    refine ite_held ?_ (ite_held start ((held_of_rbm (raise_rbm ..)).trans start))
    exact (held_of_rbm ((contend_keeps ..).rbm_eq rfl)).trans start

theorem onFrame_held (o : Front) (s : State) : (onFrame o s).rbm.held = s.rbm.held := by
  unfold onFrame
  refine ite_held (ite_held ?_ (onRelay_held o s)) ?_
  · exact (held_of_rbm (((onRangeLeg_keeps ..).rbm_eq rfl).trans ((noteGrant_keeps ..).rbm_eq rfl))).trans (countOk_held o.f s)
  · extract_lets heard
    have start : heard.rbm.held = s.rbm.held := held_of_rbm (((slpFolioUsed_keeps ..).rbm_eq rfl).trans ((slpHeard_keeps ..).rbm_eq rfl))
    clear_value heard
    split
    · exact (held_of_rbm ((onBeacon_keeps ..).rbm_eq rfl)).trans start
    · exact (held_of_rbm ((onRolemap_keeps ..).rbm_eq rfl)).trans start
    · exact (held_of_rbm ((onData_keeps ..).rbm_eq rfl)).trans start
    · exact (held_of_rbm ((onAck_keeps ..).rbm_eq rfl)).trans start
    · exact (held_of_rbm ((joinReqHead_keeps ..).rbm_eq rfl)).trans start
    · exact (held_of_rbm ((onJoinResp_keeps ..).rbm_eq rfl)).trans start
    · exact (ite_held (held_of_rbm ((onRangeLeg_keeps ..).rbm_eq rfl)) rfl).trans start
    · exact (held_of_rbm ((rangeRespHead_keeps ..).rbm_eq rfl)).trans start
    · exact (held_of_rbm ((rangeResultLeaf_keeps ..).rbm_eq rfl)).trans start
    · exact (held_of_rbm ((onWake_keeps ..).rbm_eq rfl)).trans start
    · exact (onRemote_held o heard).trans start
    · exact (held_of_rbm ((onRemoteResp_keeps ..).rbm_eq rfl)).trans start
    · exact start

/-- A second copy that is decoded leaves the copies held. -/
theorem rxRow_onFrame_held {f : RxFrame} (copy : f.copy = true) (s : State) :
    (rxRow (fun _ _ => true) onFrame f s).rbm.held = s.rbm.held := by
  unfold rxRow
  refine ite_held rfl ?_
  have opened := (heard_rxOpen f s).held copy
  generalize rxOpen f s = r at opened ⊢
  obtain ⟨o, t⟩ := r
  cases o with
  | none => exact ite_held (c := canHear f s = true) opened opened
  | some o => exact (onFrame_held o t).trans opened

end Sys2Proof.Machine
end


section
/-! Frames discarded and relayed, and the timers of waiting frames (05 R171, R179, 08 R268, R274, 15 R501). -/
namespace Sys2Proof.Machine

/-! ### A buffered frame goes on (08 R268) -/

/-- A port that is used is usable. -/
theorem usePorts_usable {s : State} {m : Mode} {ports : BitVec 3} (some_ : usePorts s m ports ≠ 0) :
    ((portList ports).all fun p => !portUsable s p) = false := by
  rw [Bool.eq_false_iff]
  intro all_
  have empty : (portList ports).filter (portReady s) = [] := by
    rw [List.filter_eq_nil_iff]
    intro p mem ready
    have dead := List.all_eq_true.mp all_ p mem
    simp only [portReady, portUsable, Bool.not_eq_true', Bool.or_eq_true, decide_eq_true_eq, Bool.and_eq_false_iff, decide_eq_false_iff_not,
      not_not] at ready dead
    rcases ready with idle | tx <;> rcases dead with off | fault <;> simp_all
  refine some_ ?_
  unfold usePorts
  simp only [empty]
  cases m <;> rfl

theorem grantNow_fst (s : State) :
    (grantNow s).1 = if isLeaf s && bitAt s.lt.cfg 4 then min (crMax s) (freeBufs s - s.ltx.granted) else 0 := by
  unfold grantNow
  split <;> rfl

/-- What is granted depends on the credits and on the buffers alone. -/
theorem grantNow_congr {s t : State} (cln : t.cln = s.cln) (lt : t.lt = s.lt) (hi : t.hi = s.hi) (granted : t.ltx.granted = s.ltx.granted) :
    (grantNow t).1 = (grantNow s).1 := by
  rw [grantNow_fst, grantNow_fst]
  unfold isLeaf crMax freeBufs
  rw [cln, lt, hi, granted]

/-- A buffered frame that fits the folio in progress is committed to it. -/
theorem relayForward_commits {id : Nat} {x : TxFrame} {bs : List Byte} {r : Route} {s : State} {mode m : Mode} {ports ps : BitVec 3} {l : Nat}
    (up : devUp s = true) (here : frameAt s id = some x) (raw : x.raw = some bs) (route : x.route = some r) (still : inFlight x = false)
    (open_ : lineOpen s = true) (hmode : relayMode x.hop bs.length s = (mode, ports)) (hm : effMode s mode = m) (hps : usePorts s m ports = ps)
    (hl : airtimeOf s m bs.length = l) (fits : fitsNominal s (quireF s) (geomBase (actGeom s)) l = true) (used : ps ≠ 0)
    (running : qrRunning s = true) (good : s.rbm.bad = false) (single : isPair m = false)
    (roles : ((portList ps).all fun p => decide (roleNow s p = rContention)) = true) (turn : x.folio = some 0)
    (time : startOn s ps + ticksUs l ≤ s.now + ticksToEnd s) (credit : x.hop = x.dst ∨ creditOf s x.hop.toNat ≠ 0)
    (tokens : ∀ b ∈ bandsOf s m, b ≠ 1 ∧ covers (bandAt s b) ((portList ps).length * l) = true)
    (first : blockedBehind s x { mode := m, ports := ps, air := l, start := startOn s ps, bytes := bs.length } = false) :
    Completes (.relayForward id) s fun t => ∃ y ∈ t.line.q, y.id = id ∧ y.st = .committed ∧ y.ports = ps ∧
      y.built = relayRebuild bs (r.idx + 1) (grantNow s).1 := by
  have noC : ¬ 1 ∈ bandsOf s m := fun mem => (tokens 1 mem).1 rfl
  have covered : ((bandsOf s m).all fun b => covers (bandAt s b) ((portList ps).length * l)) = true :=
    List.all_eq_true.2 fun b mem => (tokens b mem).2
  have usable := usePorts_usable (hps ▸ used : usePorts s m ports ≠ 0)
  have permitted : ((portList ps).all fun p => decide (roleNow s p = rUp) && appointed s p || decide (roleNow s p = rContention)) = true :=
    List.all_eq_true.2 fun p mem => Bool.or_eq_true_iff.mpr (.inr (List.all_eq_true.mp roles p mem))
  have granted : (decide (x.hop ≠ x.dst) && decide (creditOf s x.hop.toNat = 0)) = false := by
    rcases credit with direct | some_
    · rw [decide_eq_false (not_not.mpr direct), Bool.false_and]
    · rw [decide_eq_false some_, Bool.and_false]
  refine completes_up rfl up ?_
  simp only [here, raw, route, hmode, hm, hps, hl, still, open_, fits, usable, good, used, running, single, turn, first, covered, noC, granted,
    permitted, Nat.not_lt.mpr time, List.contains_eq_mem, decide_false, decide_true, Bool.not_true, Bool.or_self,
    Bool.false_eq_true, if_false, Bool.and_false, Bool.and_true, Bool.false_and, List.isEmpty_nil, Nat.mul_one]
  generalize hu : (if decide (x.hop ≠ x.dst) = true then
    useCredit x.hop.toNat (takeBands false (costVec (bandsOf s m) ((portList ps).length * l)) s)
    else takeBands false (costVec (bandsOf s m) ((portList ps).length * l)) s) = u
  obtain ⟨line, grant⟩ : u.line = s.line ∧ (grantNow u).1 = (grantNow s).1 := by
    have taken := takeBands_keeps false (costVec (bandsOf s m) ((portList ps).length * l)) s
    have granted := congrArg LtX.granted (taken.ltx_eq rfl)
    rw [← hu]
    split
    · exact ⟨taken.line_eq rfl, grantNow_congr (taken.cln_eq rfl) (taken.lt_eq rfl) (taken.hi_eq rfl) granted⟩
    · exact ⟨taken.line_eq rfl, grantNow_congr (taken.cln_eq rfl) (taken.lt_eq rfl) (taken.hi_eq rfl) granted⟩
  have kept : (latchSlot mode x.hop.toNat (grantNow u).2).2.line = s.line :=
    ((latchSlot_keeps ..).line_eq rfl).trans (((grantNow_keeps ..).line_eq rfl).trans line)
  obtain ⟨mem, number⟩ := frameAt_mem here
  generalize latchSlot mode x.hop.toNat (grantNow u).2 = v at kept ⊢
  rw [(airSettle_keeps _).line_eq rfl]
  refine ⟨_, List.mem_map.mpr ⟨x, ?_, if_pos number⟩, number, rfl, rfl, congrArg (relayRebuild bs (r.idx + 1)) grant⟩
  rw [kept]
  exact mem

end Sys2Proof.Machine
end


section
/-! What the checks of a received frame answer (05 R179), and a frame that a relay takes (05 R171). -/
namespace Sys2Proof.Machine

/-! ### A frame past its checks -/

/-- Two frames taken apart are of one reception: the same frame, header and path. -/
structure SameFrame (o p : Front) : Prop where
  f : o.f = p.f
  h : o.h = p.h
  rt : o.rt = p.rt
  hops : o.hops = p.hops

/-- A check that fails answers no frame, so one that is answered passed it. -/
theorem passes_ite {c : Prop} [Decidable c] {a b : Option Front × State} {o : Front} {t : State} (fails : a.1 = none)
    (e : (if c then a else b) = (some o, t)) : b = (some o, t) := by
  split at e
  · rw [e] at fails
    exact absurd fails (Option.some_ne_none o)
  · exact e

/-- A frame past its FCS is the frame received; the port is IDLE again and nothing else is changed. -/
theorem rxFront_passes {f : RxFrame} {s t : State} {o : Front} (e : rxFront f s = (some o, t)) : o.f = f ∧ t = endRx f s := by
  unfold rxFront at e
  have heard := passes_ite rfl e
  have trained := passes_ite (by dsimp only; split <;> rfl) heard
  have coded := passes_ite rfl (passes_ite rfl (passes_ite rfl trained))
  have known := passes_ite rfl (passes_ite rfl (passes_ite rfl (passes_ite rfl (passes_ite rfl coded))))
  dsimp only at known
  have whole := passes_ite rfl known
  injection whole with front state
  injection front with front
  exact ⟨by rw [← front], state.symm⟩

theorem rxVerify_passes {o p : Front} {i : Nat} {s t : State} (e : rxVerify o i s = (some p, t)) : SameFrame p o := by
  unfold rxVerify at e
  split at e
  · split at e
    have admitted := passes_ite rfl e
    dsimp only at admitted
    split at admitted
    · injection admitted with none_
      exact absurd none_ (Option.some_ne_none p).symm
    · injection admitted with front
      injection front with front
      rw [← front]
      split <;> exact ⟨rfl, rfl, rfl, rfl⟩

/-- How a frame opens: one to relay as it was heard, one of a leaf that tips in without a key, any other by its tag. -/
theorem rxOpen_cases {f : RxFrame} {s t : State} {o : Front} (e : rxOpen f s = (some o, t)) : ∃ q, q.f = f ∧ SameFrame o q ∧
    (mustRelay (endRx f s) q.h q.rt q.hops = true ∧ t = endRx f s ∨
      mustRelay (endRx f s) q.h q.rt q.hops = false ∧ (joining (endRx f s) = true ∧ t = countOk f (endRx f s) ∨
        ∃ i u, classKey q.cls q.h.src.toNat (endRx f s) = (.slot i, u) ∧ rxVerify q i u = (some o, t))) := by
  unfold rxOpen at e
  split at e
  · injection e with none_
    exact absurd none_ (Option.some_ne_none o).symm
  next q u front =>
    obtain ⟨same, rfl⟩ := rxFront_passes front
    have unlocked := passes_ite rfl e
    refine ⟨q, same, ?_⟩
    split at unlocked
    next relay =>
      injection unlocked with front state
      injection front with front
      subst front
      exact ⟨⟨rfl, rfl, rfl, rfl⟩, .inl ⟨relay, state.symm⟩⟩
    next own =>
      have own := Bool.eq_false_iff.mpr own
      split at unlocked
      next tips =>
        injection unlocked with front state
        injection front with front
        subst front
        exact ⟨⟨rfl, rfl, rfl, rfl⟩, .inr ⟨own, .inl ⟨(Bool.and_eq_true_iff.mp tips).1, state.symm⟩⟩⟩
      next =>
        have known := passes_ite rfl unlocked
        split at known
        · injection known with none_
          exact absurd none_ (Option.some_ne_none o).symm
        · injection known with none_
          exact absurd none_ (Option.some_ne_none o).symm
        next i v key =>
          have verified := passes_ite rfl (passes_ite rfl (passes_ite rfl known))
          exact ⟨rxVerify_passes verified, .inr ⟨own, .inr ⟨i, v, key, verified⟩⟩⟩

/-- A frame that a device opens is the frame received. -/
theorem rxOpen_frame {f : RxFrame} {s : State} {o : Front} (e : (rxOpen f s).1 = some o) : o.f = f := by
  obtain ⟨q, same, ⟨frame, -⟩, -⟩ := rxOpen_cases (t := (rxOpen f s).2) (Prod.ext e rfl)
  exact frame.trans same

/-! ### Relaying (05 R171) -/

/-- The device bears the same number in the same state of joining, with the same table. -/
structure SameName (s t : State) : Prop where
  cln : t.cln = s.cln
  lt : t.lt = s.lt
  num : t.ltx.myNum = s.ltx.myNum
  confirm : t.ltx.confirmWait = s.ltx.confirmWait

namespace SameName
variable {s t u : State}

theorem refl (s : State) : SameName s s := ⟨rfl, rfl, rfl, rfl⟩
theorem trans (h : SameName s t) (k : SameName t u) : SameName s u :=
  ⟨k.cln.trans h.cln, k.lt.trans h.lt, k.num.trans h.num, k.confirm.trans h.confirm⟩
theorem of_parts (cln : t.cln = s.cln) (lt : t.lt = s.lt) (ltx : t.ltx = s.ltx) : SameName s t :=
  ⟨cln, lt, congrArg LtX.myNum ltx, congrArg LtX.confirmWait ltx⟩
theorem ite {c : Prop} [Decidable c] {a b : State} (x : SameName s a) (y : SameName s b) : SameName s (if c then a else b) := by
  split
  · exact x
  · exact y
theorem ite2 {α : Type} {c : Prop} [Decidable c] {a b : α × State} (x : SameName s a.2) (y : SameName s b.2) :
    SameName s (if c then a else b).2 := by
  split
  · exact x
  · exact y

theorem mustRelay (same : SameName s t) (h : Hdr) (rt : Option Route) (hops : Nat) :
    mustRelay t h rt hops = mustRelay s h rt hops := by
  obtain ⟨cln, lt, num, confirm⟩ := same
  unfold Machine.mustRelay mySrc isLeaf isJoined
  rw [cln, lt, num, confirm]

theorem isLeaf (same : SameName s t) : isLeaf t = isLeaf s := congrArg Cln.role same.cln

end SameName

theorem noteGrant_name (o : Front) (s : State) : SameName s (noteGrant o s) := by
  unfold noteGrant
  split
  · exact .refl s
  · exact .ite ⟨rfl, rfl, rfl, rfl⟩ (.refl s)

theorem accepted_name {o : Front} {s : State} (leaf : isLeaf s = true) : SameName s (accepted o s) := by
  have start : SameName s (noteGrant o (countOk o.f s)) :=
    SameName.trans (.of_parts ((countOk_keeps ..).cln_eq rfl) ((countOk_keeps ..).lt_eq rfl) ((countOk_keeps ..).ltx_eq rfl)) (noteGrant_name o _)
  unfold accepted
  generalize noteGrant o (countOk o.f s) = t at start ⊢
  have head : ¬ isHead t = true := fun head => notLeaf_of_head head (start.isLeaf.trans leaf)
  dsimp only
  rw [if_neg head]
  exact .ite (start.trans ⟨rfl, rfl, rfl, rfl⟩) start

/-- The checks of the key and the tag leave a leaf its name. -/
theorem rxVerify_name {o : Front} {i : Nat} {s : State} (leaf : isLeaf s = true) : SameName s (rxVerify o i s).2 := by
  unfold rxVerify
  extract_lets k
  split
  next enc =>
    have kept := admitJob_keeps i (lineBlocks o.h.ty o.h.dst o.h.rly o.h.len) s
    generalize admitJob i (lineBlocks o.h.ty o.h.dst o.h.rly o.h.len) s = r at kept ⊢
    obtain ⟨a, u⟩ := r
    have admission : SameName s u := .of_parts (kept.cln_eq rfl) (kept.lt_eq rfl) (kept.ltx_eq rfl)
    refine .ite2 admission ?_
    have done : SameName s (jobDone i u) := admission.trans
      (.of_parts ((jobDone_keeps ..).cln_eq rfl) ((jobDone_keeps ..).lt_eq rfl) ((jobDone_keeps ..).ltx_eq rfl))
    have warn : ∀ v, SameName s v → SameName s (if a.warned && isHead v && decide (o.cls = 1) then autoRekey o.h.src.toNat 2 v else v) := by
      intro v same
      have head : isHead v = false := Bool.eq_false_iff.mpr fun head => notLeaf_of_head head (same.isLeaf.trans leaf)
      rw [head, Bool.and_false, Bool.false_and, if_neg Bool.false_ne_true]
      exact same
    split
    · refine warn _ (done.trans ?_)
      refine .trans (t := lfRaise 0x0310 o.f.port.val [(0, 2, o.h.src.toNat), (2, 1, o.h.ty), (3, 1, o.cls)] (jobDone i u)) ?_ ?_
      · exact .of_parts ((lfRaise_keeps ..).cln_eq rfl) ((lfRaise_keeps ..).lt_eq rfl) ((lfRaise_keeps ..).ltx_eq rfl)
      · exact .of_parts ((failReply_keeps ..).cln_eq rfl) ((failReply_keeps ..).lt_eq rfl) ((failReply_keeps ..).ltx_eq rfl)
    · have held : ∀ p, SameName s (setHeld p i (jobDone i u)) := fun p =>
        done.trans (.of_parts ((setHeld_keeps ..).cln_eq rfl) ((setHeld_keeps ..).lt_eq rfl) ((setHeld_keeps ..).ltx_eq rfl))
      exact warn _ ((held _).trans (accepted_name ((held _).isLeaf.trans leaf)))

/-- A frame that is to be relayed opens as it was heard. -/
theorem rxOpen_relay {f : RxFrame} {s : State} {o : Front} (e : (rxOpen f s).1 = some o)
    (relay : mustRelay (rxOpen f s).2 o.h o.rt o.hops = true) : (rxOpen f s).2 = endRx f s := by
  obtain ⟨q, -, ⟨-, hdr, route, hops⟩, relayed | ⟨own, tips | ⟨i, u, key, verified⟩⟩⟩ :=
    rxOpen_cases (t := (rxOpen f s).2) (Prod.ext e rfl)
  · exact relayed.2
  all_goals
    exfalso
    rw [hdr, route, hops] at relay
    refine Bool.false_ne_true (own.symm.trans (Eq.trans (Eq.symm (SameName.mustRelay ?_ ..)) relay))
  · rw [tips.2]
    exact .of_parts ((countOk_keeps ..).cln_eq rfl) ((countOk_keeps ..).lt_eq rfl) ((countOk_keeps ..).ltx_eq rfl)
  · have kept := classKey_keeps q.cls q.h.src.toNat (endRx f s)
    rw [key] at kept
    have found : SameName (endRx f s) u := .of_parts (kept.cln_eq rfl) (kept.lt_eq rfl) (kept.ltx_eq rfl)
    have leaf : isLeaf (rxOpen f s).2 = true := by
      unfold mustRelay at relay
      simp only [Bool.and_eq_true] at relay
      exact relay.1.1.1.1
    have cln : (rxOpen f s).2.cln = u.cln := by
      have same := rxVerify_keeps q i u
      rw [verified] at same
      exact same.cln_eq rfl
    have same := rxVerify_name (o := q) (i := i) (s := u) ((congrArg Cln.role cln).symm.trans leaf)
    rw [verified] at same
    exact found.trans same

end Sys2Proof.Machine
end


section
/-! The rows that receive a frame, a frame cut short, and the settled statement of relays and timers. -/
namespace Sys2Proof.Machine

/-- A frame that opens goes to what its row does. -/
theorem rxRow_opens {ok : Front → State → Bool} {k : Front → State → State} {f : RxFrame} {s : State} {o : Front} (alone : pairHeld f s = false)
    (e : (rxOpen f s).1 = some o) (accepts : ok o (rxOpen f s).2 = true) : rxRow ok k f s = k o (rxOpen f s).2 := by
  unfold rxRow
  rw [alone]
  generalize rxOpen f s = r at e accepts
  obtain ⟨p, t⟩ := r
  obtain rfl : p = some o := e
  exact if_pos accepts

/-- An OFDM frame too short for a header fails its header check. -/
theorem rxFront_short {f : RxFrame} {s : State} (hears : canHear f s = true) (ofdm : f.ofdm = true) (valid : fcValid f s = true)
    (short : f.bytes.length < 12) : rxFront f s = (none, countHcs f (endRx f s)) := by
  have unheld : holdPair f (countHcs f (endRx f s)) = countHcs f (endRx f s) := if_neg (by simp [ofdm])
  have control : fcValid f (endRx f s) = fcValid f s := rfl
  unfold rxFront
  refine (if_neg (by simp [hears])).trans ((if_neg (by simp [ofdm])).trans ((if_neg ?_).trans ((if_pos (.inl short)).trans ?_)))
  · rw [control, valid]
    decide
  · rw [unheld]

theorem rxRow_short {ok : Front → State → Bool} {k : Front → State → State} {f : RxFrame} {s : State} (alone : pairHeld f s = false)
    (hears : canHear f s = true) (ofdm : f.ofdm = true) (valid : fcValid f s = true) (short : f.bytes.length < 12) :
    rxRow ok k f s = slpFolioUsed (countHcs f (endRx f s)) := by
  have closed : rxOpen f s = (none, countHcs f (endRx f s)) := by
    unfold rxOpen
    rw [rxFront_short hears ofdm valid short]
  unfold rxRow
  rw [alone, closed]
  exact if_pos hears

/-- A relay with a free buffer queues the frame for its next actor. -/
theorem onRelay_queues {o : Front} {r : Route} {s : State} (route : o.rt = some r) (free : bufFree s false = true) :
    ∃ x ∈ (onRelay o s).line.q, x.id = s.line.nextId ∧ x.raw = some o.f.bytes ∧ x.buffer = true ∧
      x.hop = nextActor { r with idx := r.idx + 1 } o.hops o.h.dst := by
  have grant := noteGrant_keeps o (countOk o.f s)
  have hi : (noteGrant o (countOk o.f s)).hi = s.hi := (grant.hi_eq rfl).trans ((countOk_keeps ..).hi_eq rfl)
  have next_ : (noteGrant o (countOk o.f s)).line.nextId = s.line.nextId := by
    rw [grant.line_eq rfl]
    unfold countOk
    split <;> rfl
  unfold onRelay
  rw [route]
  dsimp only
  generalize noteGrant o (countOk o.f s) = t at hi next_
  have free_ : bufFree t false = true := by
    unfold bufFree
    rw [hi]
    exact free
  rw [if_pos free_]
  obtain ⟨n, mem⟩ := contend_submit { txNew o.h.ty o.h.dst [] (takeBuf false t) with
    src := o.h.src, raw := some o.f.bytes, route := some r, hop := nextActor { r with idx := r.idx + 1 } o.hops o.h.dst, buffer := true } (takeBuf false t)
  exact ⟨_, mem, next_, rfl, rfl, rfl⟩

/-- A frame without its answer is queued again while attempts are left (R274). -/
theorem attemptOver_queues {x : TxFrame} {s : State} (here : frameAt s x.id = some x) (unlocked : s.tmp.locked = false) (head : isHead s = true)
    (left : x.attempts < retries s) : ∃ y ∈ (attemptOver x s).line.q, y.id = x.id ∧ y.st = .queued := by
  have noLeaf : ¬ isLeaf s = true := notLeaf_of_head head
  have requeued : (requeue x.id s) = updFrame x.id (fun f => { f with st := .queued, folio := none, copy := false }) s := by
    unfold requeue
    rw [here]
    dsimp only
    rw [if_neg noLeaf]
  have again : attemptOver x s = requeue x.id s := by
    unfold attemptOver
    refine (if_neg (by simp [unlocked])).trans ((if_neg ?_).trans ?_)
    · simp [Nat.not_le.mpr left]
    · rw [requeued]
      exact if_neg noLeaf
  rw [again, requeued]
  exact ⟨_, List.mem_map.mpr ⟨x, (frameAt_mem here).1, if_pos rfl⟩, rfl, rfl⟩

/-- The oldest frame that waited for a buffer of the host is discarded (15 R501). -/
def rxExpired (w : RxWait) (ws : List RxWait) (s : State) : State :=
  let s := giveBuf false { s with hi := { s.hi with rxWait := ws, rxdrop := inc32 s.hi.rxdrop } }
  if s.hi.rxOnce then s
  else raise 0x0D06 0xFF [(0, 4, s.hi.rxdrop.toNat), (4, 2, w.src.toNat)] { s with hi := { s.hi with rxOnce := true } }

theorem rxExpired_hi (w : RxWait) (ws : List RxWait) (s : State) :
    (rxExpired w ws s).hi.rxWait = ws ∧ (rxExpired w ws s).hi.rxdrop = inc32 s.hi.rxdrop := by
  unfold rxExpired
  extract_lets -merge +onlyGivenNames _ given
  have hi : given.hi.rxWait = ws ∧ given.hi.rxdrop = inc32 s.hi.rxdrop := by
    unfold given giveBuf
    rw [giveBack_hi]
    exact ⟨rfl, rfl⟩
  split
  · exact hi
  · rw [raise_hi]
    exact hi

end Sys2Proof.Machine

open Sys2Proof Sys2Proof.Machine

/-- Settles O24: the discard by the header check, the relay by what it queues, the pair by the copies that reception keeps, the timers by
what each leaves in its queue. -/
theorem relaysAndTimers : Obligations.RelaysAndTimers := by
  intro s up
  refine ⟨fun f hears alone ofdm valid short => ?discard, fun f o r alone e relay plain route free => ?relay, fun f copy due => ?pair,
    fun w ws waits => ?hold, fun id x here waits unlocked head left => ?again,
    fun id x bs r here raw route still open_ fits used running good single roles turn time credit tokens first => ?forward⟩
  case discard =>
    refine completes_does (t := slpFolioUsed (countHcs f (endRx f s))) rfl up (rxRow_short alone hears ofdm valid short) ?_
    unfold countHcs
    rw [if_pos ofdm]
    exact ⟨(vget_vupd ..).trans (if_pos ⟨rfl, f.port.isLt⟩), rfl⟩
  case relay =>
    have heard := rxOpen_relay e relay
    refine completes_does (t := onRelay o (endRx f s)) rfl up ?_ ?_
    · rw [← heard]
      refine rxRow_opens alone e ?_
      rw [relay, plain]
      rfl
    · obtain rfl := rxOpen_frame e
      exact onRelay_queues (s := endRx o.f s) route free
  case pair =>
    refine completes_does rfl up (if_pos ?_) (rxRow_onFrame_held copy _)
    rw [copy]
    exact due
  case hold =>
    refine completes_does (t := rxExpired w ws s) rfl up ?_ (rxExpired_hi w ws s)
    simp only [waits]
    rfl
  case again =>
    obtain ⟨mem, rfl⟩ := frameAt_mem here
    refine completes_does (t := attemptOver x s) rfl up ?_ (attemptOver_queues here unlocked head left)
    simp only [here]
    exact if_pos waits
  case forward =>
    exact relayForward_commits up here raw route still open_ rfl rfl rfl rfl fits used running good single roles turn time credit tokens first

end


section
/-! Ranging frames received (10 R344, R349, R350). -/
namespace Sys2Proof.Machine

/-! ### A frame handed to its type -/

/-- The state in which the type of a frame acts: the sleepy leaf's part is done. -/
def afterHeard (o : Front) (s : State) : State := slpFolioUsed (slpHeard o s)

theorem rxTyped_opens {ty : Nat} {k : Front → State → State} {f : RxFrame} {s : State} {o : Front} (alone : pairHeld f s = false)
    (e : (rxOpen f s).1 = some o) (own : mustRelay (rxOpen f s).2 o.h o.rt o.hops = false) (type_ : o.h.ty = ty) :
    rxTyped ty k f s = k o (afterHeard o (rxOpen f s).2) := by
  refine rxRow_opens alone e ?_
  rw [own, decide_eq_true type_]
  rfl

theorem rxLeg_opens {ty : Nat} {k : Front → State → State} {f : RxFrame} {s : State} {o : Front} (alone : pairHeld f s = false)
    (e : (rxOpen f s).1 = some o) (own : mustRelay (rxOpen f s).2 o.h o.rt o.hops = false) (type_ : o.h.ty = ty) :
    rxLeg ty k f s = k o (afterHeard o (rxOpen f s).2) := by
  refine (rxRow_opens alone e (decide_eq_true type_)).trans (if_neg ?_)
  rw [own]
  exact Bool.false_ne_true

theorem afterHeard_keeps (o : Front) (s : State) : Keeps (.lt :: .slp :: .slph :: eventParts) s (afterHeard o s) :=
  (slpFolioUsed_keeps ..).step (by decide) ((slpHeard_keeps ..).step (by decide) (Keeps.refl _ _))

theorem rxOpen_role (f : RxFrame) (s : State) : isLeaf (rxOpen f s).2 = isLeaf s := congrArg Cln.role ((rxOpen_keeps f s).cln_eq rfl)
theorem afterHeard_role (o : Front) (s : State) : isLeaf (afterHeard o s) = isLeaf s := congrArg Cln.role ((afterHeard_keeps o s).cln_eq rfl)
theorem isHead_of_role {s t : State} (role : isLeaf t = isLeaf s) (head : isHead s = true) : isHead t = true := by
  rw [isHead, ← isLeaf, role]
  exact head

/-- Outside what the sleepy leaf's part may change, the state is the same. -/
theorem afterHeard_eq (o : Front) (s : State) : ∃ lt slp slph ev msix lg mssx mem pending, afterHeard o s = { s with
    lt := lt, slp := slp, slph := slph, ev := ev, msix := msix, lg := lg, mssx := mssx, hostMem := mem, pending := pending } := by
  have k := afterHeard_keeps o s
  generalize afterHeard o s = t at k
  refine ⟨t.lt, t.slp, t.slph, t.ev, t.msix, t.lg, t.mssx, t.hostMem, t.pending, ?_⟩
  rw [← k.cln_eq rfl, ← k.life_eq rfl, ← k.mpt_eq rfl, ← k.qr_eq rfl, ← k.qrx_eq rfl, ← k.air_eq rfl, ← k.afe_eq rfl, ← k.line_eq rfl,
    ← k.ofd_eq rfl, ← k.rbm_eq rfl, ← k.ltx_eq rfl, ← k.te_eq rfl, ← k.tex_eq rfl, ← k.rg_eq rfl, ← k.aln_eq rfl, ← k.cx_eq rfl,
    ← k.cv_eq rfl, ← k.hi_eq rfl, ← k.mss_eq rfl, ← k.tmp_eq rfl, ← k.pwr_eq rfl, ← k.clk_eq rfl, ← k.pmx_eq rfl, ← k.shadow_eq rfl,
    ← k.staging_eq rfl, ← k.answer_eq rfl, ← k.freeCtr_eq rfl, ← k.now_eq rfl]

/-! ### Legs -/

/-- A leg at its leaf, in its folio, is answered one cycle after it was heard (R344). -/
theorem onRangeLeg_due {o : Front} {s : State} (request : o.h.ty = tyRangeReq) (inFolio : legInFolio o (folioJ s) s = true) :
    ∃ e ∈ (onRangeLeg o false s).tex.exch, e.exch = o.body.getD 0 0 ∧ e.leg = (o.rt.map (·.idx)).getD 0 + 1 ∧ e.initiator = false ∧
      e.due = some (stamp256 (rxStamp o.f s) + 256 * e.p) := by
  unfold onRangeLeg
  simp only [if_pos request, if_pos inFolio]
  exact ⟨_, List.mem_cons_self, rfl, rfl, rfl, rfl⟩

theorem rangeResult_type : (BitVec.ofNat 4 tyRangeResult).toNat = tyRangeResult := by decide

/-- The head's exchange ends with its result queued for the leaf (R349). -/
theorem onRangeResp_ends {o : Front} {e : Exch} {s : State}
    (found : s.tex.exch.find? (fun e => e.initiator && decide (e.exch = o.body.getD 0 0) && decide (e.leaf = o.h.src)) = some e)
    (inFolio : legInFolio o e.folio s = true) : (onRangeResp o s).tex.rngOk = inc32 s.tex.rngOk ∧ e ∉ (onRangeResp o s).tex.exch ∧
      ∃ x ∈ (onRangeResp o s).line.q, x.ty.toNat = tyRangeResult ∧ x.dst = e.leaf := by
  unfold onRangeResp
  simp only [found, inFolio, Bool.not_true, Bool.false_eq_true, if_false]
  rw [raise_tex, raise_line]
  refine ⟨rfl, ?_, _, List.mem_append_right _ (List.mem_singleton_self _), rangeResult_type, rfl⟩
  intro mem
  obtain ⟨-, other⟩ := List.mem_filter.mp mem
  exact of_decide_eq_true other rfl

/-! ### The result at the leaf -/

theorem failExch_tex (e : Exch) (cause : Nat) (s : State) : (failExch e cause s).tex.firstDone = s.tex.firstDone ∧
    (failExch e cause s).tex.rejRun = s.tex.rejRun := by
  unfold failExch
  extract_lets dropped
  split
  · unfold rngFailed
    rw [raise_tex]
    exact ⟨rfl, rfl⟩
  · exact ⟨rfl, rfl⟩

theorem todJump_tex (v cause : Nat) (s : State) : (todJump v cause s).tex.firstDone = s.tex.firstDone ∧
    (todJump v cause s).tex.rejRun = s.tex.rejRun := by
  unfold todJump
  extract_lets -merge +onlyGivenNames before d _ _ jumped_ failed
  have tex : (todPassed before (ltcCutAll cause failed)).tex = failed.tex := ((todPassed_keeps ..).tex_eq rfl).trans ((ltcCutAll_keeps ..).tex_eq rfl)
  rw [tex]
  exact ⟨foldl_kept (g := fun s => s.tex.firstDone) (fun s e => (failExch_tex e 2 s).1) _ _,
    foldl_kept (g := fun s => s.tex.rejRun) (fun s e => (failExch_tex e 2 s).2) _ _⟩

theorem teStep_ranging (x : Int) (s : State) : (teStep x s).te.ranged = s.te.ranged ∧ (teStep x s).tex.firstDone = s.tex.firstDone ∧
    (teStep x s).tex.rejRun = s.tex.rejRun := by
  unfold teStep
  extract_lets m landed emitted
  obtain ⟨first, rejected⟩ := todJump_tex (((tod48 s.te : Int) - x * (u48 : Int)).emod m).toNat 2 s
  have te : landed.te.ranged = s.te.ranged := by
    unfold landed
    rw [todJump_te]
    rfl
  rw [raise_te, raise_tex]
  unfold emitted
  split
  · rw [ppsEmit_te, (ppsEmit_keeps _).tex_eq rfl]
    exact ⟨te, first, rejected⟩
  · exact ⟨te, first, rejected⟩

theorem rangeCorrect_ranging (th2 : Int) (g : Nat) (s : State) : (rangeCorrect th2 g s).te.ranged = s.te.ranged ∧
    (rangeCorrect th2 g s).tex.firstDone = s.tex.firstDone ∧ (rangeCorrect th2 g s).tex.rejRun = s.tex.rejRun := by
  unfold rangeCorrect
  split
  · extract_lets -merge +onlyGivenNames _ told
    obtain ⟨ranged, first, rejected⟩ := teStep_ranging (roundDiv th2 (2 ^ (g + 1))) { told with tex := { told.tex with consIn := 0, consOut := 0 } }
    have start : told.te.ranged = s.te.ranged ∧ told.tex.firstDone = s.tex.firstDone ∧ told.tex.rejRun = s.tex.rejRun := by
      unfold told
      split
      · rw [raise_te, raise_tex]
        exact ⟨rfl, rfl, rfl⟩
      · exact ⟨rfl, rfl, rfl⟩
    exact ⟨ranged.trans start.1, first.trans start.2.1, rejected.trans start.2.2⟩
  · exact ⟨rfl, rfl, rfl⟩

/-- A first result is taken as the leaf's range (R350). -/
theorem onRangeResult_first {o : Front} {x : Byte} {t2 t3 m : Nat} {s : State} (sent : s.tex.lastResp = some (x, t2, t3, m))
    (same : o.body.getD 0 0 = x) (mark : m = s.tex.stepMark) (full : s.tex.firstDone = false ∨ 3 ≤ s.tex.rejRun) :
    (onRangeResult o s).te.ranged = true ∧ (onRangeResult o s).tex.firstDone = true ∧ (onRangeResult o s).tex.rejRun = 0 := by
  have full_ : (!s.tex.firstDone || decide (3 ≤ s.tex.rejRun)) = true := by
    rcases full with first | many
    · rw [first]
      rfl
    · rw [decide_eq_true many, Bool.or_true]
  unfold onRangeResult
  simp only [sent]
  rw [if_neg (not_or.mpr ⟨not_not.mpr same, not_not.mpr mark⟩), full_, if_neg (by simp)]
  exact rangeCorrect_ranging ..

end Sys2Proof.Machine

open Sys2Proof Sys2Proof.Machine

/-- Settles O23, by what the state in which the frame was opened holds of the exchange. -/
theorem rangingReceived : Obligations.RangingReceived := by
  intro f s o up u alone e own
  obtain rfl := rxOpen_frame e
  obtain ⟨lt, slp, slph, ev, msix, lg, mssx, mem, pending, heard⟩ := afterHeard_eq o u
  refine ⟨fun request leaf inFolio => ?request, fun x response head found inFolio => ?response,
    fun x t2 t3 m result leaf sent same mark full => ?result⟩
  case request =>
    refine completes_does (t := onRangeLeg o false (afterHeard o u)) rfl up ((rxLeg_opens alone e own request).trans (if_pos ?_)) ?_
    · exact (afterHeard_role o u).trans ((rxOpen_role o.f s).trans leaf)
    · rw [heard]
      exact onRangeLeg_due request inFolio
  case response =>
    refine completes_does (t := onRangeResp o (afterHeard o u)) rfl up ((rxLeg_opens alone e own response).trans (if_pos ?_)) ?_
    · exact isHead_of_role ((afterHeard_role o u).trans (rxOpen_role o.f s)) head
    · rw [heard]
      exact onRangeResp_ends found inFolio
  case result =>
    refine completes_does (t := onRangeResult o (afterHeard o u)) rfl up ((rxTyped_opens alone e own result).trans (if_pos ?_)) ?_
    · exact (afterHeard_role o u).trans ((rxOpen_role o.f s).trans leaf)
    · rw [heard]
      exact onRangeResult_first sent same mark full

end


section
/-! How long a frame is as built (05 Table 05.4, R172 to R178): blocks and tags of AES have 16 bytes whatever the key. -/
namespace Sys2Proof.Machine

/-! ### Blocks -/

theorem length_xorBytes {a b : List Nat} {n : Nat} (left : a.length = n) (right : b.length = n) : (xorBytes a b).length = n := by
  rw [xorBytes, List.length_zipWith, left, right, Nat.min_self]

theorem length_beNat : (n v : Nat) → (beNat n v).length = n
  | 0, _ => rfl
  | n + 1, v => by rw [beNat, List.length_cons, length_beNat]

theorem length_aesShift (st : List Nat) : (aesShift st).length = 16 := rfl

theorem length_aesMix {st : List Nat} (n : Nat) (size : st.length = 4 * n) : (aesMix st).length = 4 * n := by
  induction n generalizing st with
  | zero =>
    obtain rfl := List.eq_nil_of_length_eq_zero size
    rfl
  | succ n ih =>
    obtain ⟨a, b, c, d, t, rfl⟩ : ∃ a b c d t, st = a :: b :: c :: d :: t := by
      match st, size with
      | a :: b :: c :: d :: t, _ => exact ⟨a, b, c, d, t, rfl⟩
    have rest : t.length = 4 * n := by
      simp only [List.length_cons] at size
      omega
    rw [aesMix]
    simp only [List.length_cons, ih rest]
    omega

theorem length_aesRounds {ks : List (List Nat)} {st : List Nat} (keys : ∀ k ∈ ks, k.length = 16) (size : st.length = 16) :
    (aesRounds ks st).length = 16 := by
  induction ks generalizing st with
  | nil => exact size
  | cons k ks ih =>
    have first : k.length = 16 := keys k List.mem_cons_self
    cases ks with
    | nil => exact length_xorBytes (length_aesShift _) first
    | cons l ls =>
      refine ih (fun k mem => keys k (List.mem_cons_of_mem _ mem)) ?_
      exact length_xorBytes (length_aesMix 4 (length_aesShift _)) first

/-! ### Round keys -/

theorem chunks_even (n : Nat) (pos : 0 < n) (m : Nat) {l : List Nat} (size : l.length = n * m) :
    (chunks n m l).length = m ∧ ∀ c ∈ chunks n m l, c.length = n := by
  induction m generalizing l with
  | zero => exact ⟨rfl, fun c mem => nomatch mem⟩
  | succ m ih =>
    have some_ : l.isEmpty = false := by
      rw [Bool.eq_false_iff]
      intro empty
      rw [List.isEmpty_iff.mp empty, List.length_nil, Nat.mul_succ] at size
      omega
    have rest : (l.drop n).length = n * m := by
      rw [List.length_drop, size, Nat.mul_succ, Nat.add_sub_cancel]
    obtain ⟨count, sizes⟩ := ih rest
    rw [chunks, some_]
    refine ⟨congrArg (· + 1) count, fun c mem => ?_⟩
    rcases List.mem_cons.mp mem with rfl | later
    · rw [List.length_take, size, Nat.mul_succ]
      omega
    · exact sizes c later

/-- Every word of the key schedule has four bytes. -/
theorem aesExpand_words {nk : Nat} (n i rcon : Nat) {ws : List (List Nat)} (pos : 0 < nk) (enough : nk ≤ ws.length)
    (words : ∀ w ∈ ws, w.length = 4) : (aesExpand nk n i rcon ws).length = ws.length + n ∧ ∀ w ∈ aesExpand nk n i rcon ws, w.length = 4 := by
  induction n generalizing i rcon ws with
  | zero => exact ⟨rfl, words⟩
  | succ n ih =>
    have newest : (ws.headD []).length = 4 := by
      cases ws with
      | nil => exact absurd enough (by simpa using Nat.pos_iff_ne_zero.mp pos)
      | cons w ws => exact words w List.mem_cons_self
    have back : (ws.getD (nk - 1) []).length = 4 := by
      rw [List.getD_eq_getElem _ _ (by omega)]
      exact words _ (List.getElem_mem _)
    have grows : ∀ w : List Nat, w.length = 4 → ∀ i rcon, (aesExpand nk n i rcon (w :: ws)).length = ws.length + (n + 1) ∧
        ∀ v ∈ aesExpand nk n i rcon (w :: ws), v.length = 4 := by
      intro w size i rcon
      obtain ⟨count, sizes⟩ := ih i rcon (ws := w :: ws) (Nat.le_succ_of_le enough) fun v mem => by
        rcases List.mem_cons.mp mem with rfl | old
        · exact size
        · exact words v old
      exact ⟨count.trans (by rw [List.length_cons]; omega), sizes⟩
    obtain ⟨a, b, c, d, whole⟩ : ∃ a b c d, ws.headD [] = [a, b, c, d] := by
      match ws.headD [], newest with
      | [a, b, c, d], _ => exact ⟨a, b, c, d, rfl⟩
    unfold aesExpand
    rw [whole]
    dsimp only
    split
    · exact grows _ (length_xorBytes back rfl) _ _
    · split
      · exact grows _ (length_xorBytes back rfl) _ _
      · exact grows _ (length_xorBytes back rfl) _ _

theorem aesKeys_blocks {key : List Nat} {nk : Nat} (pos : 0 < nk) (size : key.length = 4 * nk) :
    (aesKeys key).length = nk + 7 ∧ ∀ k ∈ aesKeys key, k.length = 16 := by
  have words : key.length / 4 = nk := by omega
  obtain ⟨count, sizes⟩ := chunks_even 4 (by decide) nk size
  obtain ⟨total, all_⟩ := aesExpand_words (nk := nk) (4 * (nk + 7) - nk) nk 1 (ws := (chunks 4 nk key).reverse) pos
    (by rw [List.length_reverse, count]) fun w mem => sizes w (List.mem_reverse.mp mem)
  unfold aesKeys
  rw [words]
  refine chunks_even 16 (by decide) (nk + 7) ?_
  rw [List.length_flatten, List.map_congr_left fun w mem => all_ w (List.mem_reverse.mp mem), List.map_const', List.sum_replicate,
    List.length_reverse, total, List.length_reverse, count, smul_eq_mul]
  omega

theorem length_keyBytes (size : Bool) (key : BitVec 256) : (keyBytes size key).length = 4 * if size then 8 else 4 := by
  rw [keyBytes, toNats, List.length_map, length_leBytes]
  split <;> rfl

theorem length_aesBlock (size : Bool) (key : BitVec 256) {blk : List Nat} (whole : blk.length = 16) :
    (aesBlock (aesKeys (keyBytes size key)) blk).length = 16 := by
  obtain ⟨count, sizes⟩ := aesKeys_blocks (by split <;> decide) (length_keyBytes size key)
  generalize aesKeys (keyBytes size key) = ks at count sizes
  cases ks with
  | nil => exact absurd count (by simp)
  | cons k ks =>
    exact length_aesRounds (fun k mem => sizes k (List.mem_cons_of_mem _ mem)) (length_xorBytes whole (sizes k List.mem_cons_self))

/-! ### Frames -/

theorem length_gcmTag (size : Bool) (key : BitVec 256) {iv : List Nat} (nonce : iv.length = 12) (aad ct : List Nat) :
    (gcmTag (aesKeys (keyBytes size key)) iv aad ct).length = 16 := by
  refine length_xorBytes (length_beNat ..) (length_aesBlock size key ?_)
  rw [List.length_append, nonce]
  rfl

theorem length_nonceOf (headId cls gen inv : Nat) (edition : BitVec 16) (src : BitVec 12) (uid : BitVec 48) :
    (nonceOf headId cls gen inv edition src uid).length = 12 := by
  unfold nonceOf
  split <;> simp [length_leBytes]

theorem length_hdrBytes (h : Hdr) : (hdrBytes h).length = 12 := by simp [hdrBytes, length_leBytes]

theorem length_secBytes (cls gen inv tlen : Nat) (enc : Bool) : (secBytes cls gen inv tlen enc).length = 8 := by simp [secBytes, length_leBytes]

/-- A frame without encryption and without a path, as built, has N bytes. -/
theorem length_buildFrame {h : Hdr} {cls tlen : Nat} (sec : frameSec h.ty h.dst = (cls, false, tlen)) (short : tlen ≤ 16) (gen inv : Nat)
    (uid : BitVec 48) (size : Bool) (key : BitVec 256) (body : List Byte) :
    (buildFrame h none gen inv uid size key body).length = frameBytes h.ty h.dst false body.length := by
  have tag : (gcmEnc size key (nonceOf h.headId cls gen inv h.edition h.src uid) (aadOf (hdrBytes h) none (secBytes cls gen inv tlen false) false body)
      [] tlen).2.length = tlen := by
    unfold gcmEnc ofNats
    rw [List.length_map, List.length_take, length_gcmTag]
    · omega
    · rw [toNats, List.length_map, length_nonceOf]
  unfold buildFrame frameBytes
  rw [sec]
  simp only [Bool.false_eq_true, if_false, List.length_append, length_hdrBytes, length_secBytes, length_leBytes, List.append_nil, tag]
  rfl

end Sys2Proof.Machine
end


section
/-! A ranging exchange asked for, begun, answered and timed out (10 R342 to R346). -/
namespace Sys2Proof.Machine

/-! ### A frame sealed with the key of a slot -/

/-- A frame is sealed where its key serves, whether or not the key's warning is raised by it (13 R437 to R443). -/
theorem sealFrame_ok {h : Hdr} {n i : Nat} {body : List Byte} {s : State} (key : classKey (frameSec h.ty h.dst).1 n s = (.slot i, s))
    (fhold : (slotAt s i).fhold = false) (core : anyCore s = true) (spent : counterSpent i s = false)
    (exh : (keyCounts s i).2.2.2 = false) (inv : (keyCounts s i).1 + 1 ≤ (keyLimits s (slotAt s i)).1)
    (blk : (keyCounts s i).2.1 + lineBlocks h.ty h.dst false body.length ≤ (keyLimits s (slotAt s i)).2) :
    ∃ gen no uid size k warned t, sealFrame h none n body s = (.ok (buildFrame h none gen no uid size k body) no, warned, t) ∧
      Keeps (.cx :: eventParts) s t := by
  have kept := sealFrame_keeps h none n body s
  have below : ¬ ((keyLimits s (slotAt s i)).1 < (keyCounts s i).1 + 1 ∨
      (keyLimits s (slotAt s i)).2 < (keyCounts s i).2.1 + lineBlocks h.ty h.dst false body.length) := by omega
  have ok : (admitJob i (lineBlocks h.ty h.dst false body.length) s).1.ok = true := by
    rcases counts : keyCounts s i with ⟨a, b, c, d⟩
    simp only [counts] at exh below
    simp only [admitJob, counts, exh, Bool.false_eq_true, if_false, if_neg below]
    split <;> rfl
  have usable : ¬ ((slotAt s i).fhold || !anyCore s) = true := by simp [fhold, core]
  have open_ : ¬ counterSpent i s = true := by simp [spent]
  simp only [sealFrame, key, if_neg usable, if_neg open_, Option.isSome_none, if_pos ok] at kept ⊢
  exact ⟨_, _, _, _, _, _, _, rfl, kept⟩

/-- Outside the cipher cluster and the events, a state in which a frame was sealed is as before. -/
theorem sealed_eq {s t : State} (k : Keeps (.cx :: eventParts) s t) : ∃ cx ev msix lg mssx mem pending, t = { s with
    cx := cx, ev := ev, msix := msix, lg := lg, mssx := mssx, hostMem := mem, pending := pending } := by
  refine ⟨t.cx, t.ev, t.msix, t.lg, t.mssx, t.hostMem, t.pending, ?_⟩
  rw [← k.cln_eq rfl, ← k.life_eq rfl, ← k.mpt_eq rfl, ← k.qr_eq rfl, ← k.qrx_eq rfl, ← k.air_eq rfl, ← k.afe_eq rfl, ← k.line_eq rfl,
    ← k.ofd_eq rfl, ← k.rbm_eq rfl, ← k.lt_eq rfl, ← k.ltx_eq rfl, ← k.slp_eq rfl, ← k.slph_eq rfl, ← k.te_eq rfl, ← k.tex_eq rfl,
    ← k.rg_eq rfl, ← k.aln_eq rfl, ← k.cv_eq rfl, ← k.hi_eq rfl, ← k.mss_eq rfl, ← k.tmp_eq rfl, ← k.pwr_eq rfl, ← k.clk_eq rfl,
    ← k.pmx_eq rfl, ← k.shadow_eq rfl, ← k.staging_eq rfl, ← k.answer_eq rfl, ← k.freeCtr_eq rfl, ← k.now_eq rfl]

/-- A leg that its tokens cover goes on the line of its port (R344). -/
theorem legOnLine_goes {f : TxFrame} {port : Nat} {mode : Mode} {built : List Byte} {s : State} (ready : portReady s port = true)
    (tokens : ∀ b ∈ bandsOf s mode, b ≠ 1 ∧ covers (bandAt s b) (airtimeOf s mode built.length) = true) :
    ∃ t, legOnLine f port mode built s = (true, t) ∧ t.tex = s.tex ∧
      ∃ g ∈ t.line.q, g.id = s.line.nextId ∧ g.ty = f.ty ∧ g.st = .onLine := by
  have noC : ¬ 1 ∈ bandsOf s mode := fun mem => (tokens 1 mem).1 rfl
  have covered : ((bandsOf s mode).all fun b => covers (bandAt s b) (airtimeOf s mode built.length)) = true :=
    List.all_eq_true.2 fun b mem => (tokens b mem).2
  have taken := takeBands_keeps false (costVec (bandsOf s mode) (airtimeOf s mode built.length)) s
  unfold legOnLine
  simp only [covered, ready, noC, List.contains_eq_mem, decide_false, Bool.not_false, Bool.true_or, Bool.and_self, if_true, Bool.false_eq_true,
    if_false]
  generalize takeBands false (costVec (bandsOf s mode) (airtimeOf s mode built.length)) s = u at taken
  refine ⟨_, rfl, ((goOnLine_keeps ..).tex_eq rfl).trans (taken.tex_eq rfl), ?_⟩
  obtain ⟨g, mem, same, g₀, rfl, rfl⟩ := goOnLine_frame (submit_frame { f with
    id := u.line.nextId, ports := portMask [port], mode := mode, airtime := airtimeOf s mode built.length,
    cost := costVec (bandsOf s mode) (airtimeOf s mode built.length), built := built, quire := u.qr.qnum } u)
  exact ⟨_, mem, same.trans (congrArg Line.nextId (taken.line_eq rfl)), rfl, rfl⟩

/-! ### The legs -/

theorem rangeReq_type : (BitVec.ofNat 4 tyRangeReq).toNat = tyRangeReq := by decide
theorem rangeResp_type : (BitVec.ofNat 4 tyRangeResp).toNat = tyRangeResp := by decide

/-- The number of an exchange given. -/
def exchGiven (s : State) : State := { s with tex := { s.tex with nextExch := s.tex.nextExch + 1 } }

/-- The frame of leg 1 of exchange x before it is sealed. -/
def firstLeg (x : Byte) (n : Nat) (rt : Option Route) (hop : Nat) (s : State) : TxFrame :=
  { txNew tyRangeReq (BitVec.ofNat 12 n) [x, 0] s with route := rt, hop := BitVec.ofNat 12 hop }

/-- The exchange as it is opened by its leg 1. -/
def exchOpened (x : Byte) (p : Port) (n h : Nat) (rt : Option Route) (s : State) : Exch :=
  { port := p, leaf := BitVec.ofNat 12 n, exch := x, hops := h - 1, leg := 1, initiator := true, folio := folioJ s,
    last := (s.qr.qnum.toNat * quireQ s + s.qr.cycle + 2 * h - 1) * quireF s + folioJ s,
    due := none, raw := [], route := rt, hop := 0, t1 := ts48 (txStamp s (portMask [p.val])), t2 := 0, p := cycleNs s, mark := s.tex.stepMark }

/-- Leg 1 sealed and sent, or the exchange failed. -/
def firstSent (x : Byte) (p : Port) (n hop h : Nat) (rt : Option Route) (mode : Mode) (s : State) : State :=
  match sealFrame (hdrFor (firstLeg x n rt hop s) 0 rt.isSome s) rt n (firstLeg x n rt hop s).body s with
  | (.ok built inv, _, t) =>
    match legOnLine { firstLeg x n rt hop s with inv := BitVec.ofNat 40 inv } p.val mode built t with
    | (true, u) => { u with tex := { u.tex with exch := u.tex.exch ++ [exchOpened x p n h rt u] } }
    | (false, u) => rngFailed (BitVec.ofNat 12 n) 2 x u
  | (_, _, t) => rngFailed (BitVec.ofNat 12 n) 2 x t

/-- What RANGING_START does once an entry is picked whose legs are open and fit. -/
theorem rangingStart_sends {p : Port} {n : Nat} {s : State} {P : State → Prop} (up : devUp s = true) (head : isHead s = true)
    (running : qrRunning s = true) (pick : rngPick s p.val = some n) (legs : legsOpen s n = true) (fits : legsFit s n = true)
    (time : ticksUs (airtimeOf s (legMode (entryAt s ((pathNodes s n).headD 0)) (frameBytes tyRangeReq (BitVec.ofNat 12 n) (headRoute s n).isSome 2) s)
      (frameBytes tyRangeReq (BitVec.ofNat 12 n) (headRoute s n).isSome 2)) ≤ ticksToEnd s)
    (p_ : P (firstSent s.tex.nextExch p n ((pathNodes s n).headD 0) (pathNodes s n).length (headRoute s n)
      (legMode (entryAt s ((pathNodes s n).headD 0)) (frameBytes tyRangeReq (BitVec.ofNat 12 n) (headRoute s n).isSome 2) s) (exchGiven s)))
    (free : QueueFree P := by intros _ _; rfl) : Completes (.rangingStart p) s P := by
  have leaf := Bool.eq_false_iff.mpr (notLeaf_of_head head)
  refine completes_does rfl up ((if_neg (by simp [leaf, running])).trans ?_) p_ free
  rw [pick]
  exact (if_neg (by simp only [legs, fits, Nat.not_lt.mpr time, decide_false, Bool.not_true, Bool.or_self, Bool.false_eq_true,
    not_false_eq_true])).trans rfl

/-- Leg 1 goes where its key serves and its tokens cover it (R344, R345). -/
theorem firstSent_opens {x : Byte} {p : Port} {n i h : Nat} {mode : Mode} {s : State} (key : classKey 1 n s = (.slot i, s))
    (fhold : (slotAt s i).fhold = false) (core : anyCore s = true) (spent : counterSpent i s = false) (exh : (keyCounts s i).2.2.2 = false)
    (inv : (keyCounts s i).1 + 1 ≤ (keyLimits s (slotAt s i)).1)
    (blk : (keyCounts s i).2.1 + lineBlocks tyRangeReq 0 false 2 ≤ (keyLimits s (slotAt s i)).2) (ready : portReady s p.val = true)
    (tokens : ∀ b ∈ bandsOf s mode, b ≠ 1 ∧ covers (bandAt s b) (airtimeOf s mode (frameBytes tyRangeReq 0 false 2)) = true) :
    (firstSent x p n n h none mode s).tex.nextExch = s.tex.nextExch ∧ ∃ e ∈ (firstSent x p n n h none mode s).tex.exch,
      e.leaf = BitVec.ofNat 12 n ∧ e.exch = x ∧ e.initiator = true ∧ e.leg = 1 ∧ e.port = p := by
  generalize hdr : hdrFor (firstLeg x n none n s) 0 (none : Option Route).isSome s = hd
  have type_ : hd.ty = tyRangeReq := by rw [← hdr]; exact rangeReq_type
  have sec : frameSec hd.ty hd.dst = (1, false, 8) := by rw [type_]; rfl
  have size : frameBytes hd.ty hd.dst false 2 = frameBytes tyRangeReq 0 false 2 := by rw [type_]; rfl
  have blocks : lineBlocks hd.ty hd.dst false 2 = lineBlocks tyRangeReq 0 false 2 := by rw [type_]; rfl
  obtain ⟨gen, no, uid, z, k, warned, t, sealed, kept⟩ := sealFrame_ok (h := hd) (body := [x, 0]) (by rw [sec]; exact key) fhold core spent exh inv
    (blocks ▸ blk)
  have built : (buildFrame hd none gen no uid z k [x, 0]).length = frameBytes tyRangeReq 0 false 2 :=
    (length_buildFrame sec (by decide) gen no uid z k [x, 0]).trans size
  obtain ⟨cx, ev, msix, lg, mssx, mem, pending, rfl⟩ := sealed_eq kept
  obtain ⟨u, goes, tex, -⟩ := legOnLine_goes (f := { firstLeg x n none n s with inv := BitVec.ofNat 40 no }) (port := p.val) (mode := mode)
    (built := buildFrame hd none gen no uid z k [x, 0])
    (s := { s with cx := cx, ev := ev, msix := msix, lg := lg, mssx := mssx, hostMem := mem, pending := pending }) ready
    (by rw [built]; exact tokens)
  have opens : firstSent x p n n h none mode s = { u with tex := { u.tex with exch := u.tex.exch ++ [exchOpened x p n h none u] } } := by
    unfold firstSent
    rw [hdr]
    have body : (firstLeg x n none n s).body = [x, 0] := rfl
    rw [body, sealed]
    dsimp only
    rw [goes]
  rw [opens]
  have numbered : u.tex.nextExch = s.tex.nextExch := congrArg TeX.nextExch tex
  exact ⟨numbered, _, List.mem_append_right _ (List.mem_singleton_self _), rfl, rfl, rfl, rfl, rfl⟩

/-- A RANGE_RESP's body: the exchange, t2 and t3 (R344). -/
def respBody (e : Exch) (t : Nat) : List Byte := [e.exch, 0] ++ leBytes 6 e.t2 ++ leBytes 6 t

theorem length_respBody (e : Exch) (t : Nat) : (respBody e t).length = 14 := by
  simp [respBody, length_leBytes]

/-- The frame of a leaf's leg before it is sealed. -/
def lastLeg (e : Exch) (t : Nat) (s : State) : TxFrame := { txNew tyRangeResp 0 (respBody e t) s with route := none, hop := e.hop }

/-- A leaf's leg sealed and sent. -/
def lastSent (p : Port) (e : Exch) (t : Nat) (s : State) : State :=
  match sealFrame (hdrFor (lastLeg e t s) 0 false s) none 0 (respBody e t) s with
  | (.ok built inv, _, u) =>
    match legOnLine { lastLeg e t s with inv := BitVec.ofNat 40 inv } p.val
        (legMode (entryAt s e.hop.toNat) (frameBytes tyRangeResp 0 false (respBody e t).length) u) built u with
    | (true, v) => { v with tex := { v.tex with lastResp := some (e.exch, e.t2, t % 2 ^ 48, e.mark) } }
    | (false, v) => v
  | (_, _, u) => u

/-- A leaf answers a leg without relays with one of its own. -/
theorem sendLeg_answers {p : Port} {e : Exch} {t : Nat} {s : State} (role : roleNow s p = rRanging) (mark : e.mark = s.tex.stepMark)
    (raw : e.raw = []) (route : e.route = none) : sendLeg p e t s = lastSent p e t (dropExch e s) := by
  obtain ⟨port, leaf, exch, hops, leg, initiator, folio, last, due, raw_, route_, hop, t1, t2, period, mark_⟩ := e
  subst raw route mark
  have stays : ¬ (decide (roleNow s p ≠ rRanging) || decide (s.tex.stepMark ≠ s.tex.stepMark)) = true := by simp [role]
  exact (if_neg stays).trans rfl

/-- The leaf's leg goes where its key serves and its tokens cover it. -/
theorem lastSent_goes {p : Port} {e : Exch} {t i : Nat} {s : State} (key : classKey 1 0 s = (.slot i, s))
    (fhold : (slotAt s i).fhold = false) (core : anyCore s = true) (spent : counterSpent i s = false) (exh : (keyCounts s i).2.2.2 = false)
    (inv : (keyCounts s i).1 + 1 ≤ (keyLimits s (slotAt s i)).1)
    (blk : (keyCounts s i).2.1 + lineBlocks tyRangeResp 0 false 14 ≤ (keyLimits s (slotAt s i)).2) (ready : portReady s p.val = true)
    (tokens : ∀ b ∈ bandsOf s (legMode (entryAt s e.hop.toNat) (frameBytes tyRangeResp 0 false 14) s), b ≠ 1 ∧
      covers (bandAt s b) (airtimeOf s (legMode (entryAt s e.hop.toNat) (frameBytes tyRangeResp 0 false 14) s)
        (frameBytes tyRangeResp 0 false 14)) = true) :
    (lastSent p e t s).tex = { s.tex with lastResp := some (e.exch, e.t2, t % 2 ^ 48, e.mark) } ∧
      ∃ f ∈ (lastSent p e t s).line.q, f.id = s.line.nextId ∧ f.ty.toNat = tyRangeResp ∧ f.st = .onLine := by
  have fourteen := length_respBody e t
  generalize hdr : hdrFor (lastLeg e t s) 0 false s = hd
  have type_ : hd.ty = tyRangeResp := by rw [← hdr]; exact rangeResp_type
  have sec : frameSec hd.ty hd.dst = (1, false, 8) := by rw [type_]; rfl
  have size : frameBytes hd.ty hd.dst false (respBody e t).length = frameBytes tyRangeResp 0 false 14 := by rw [type_, fourteen]; rfl
  have blocks : lineBlocks hd.ty hd.dst false (respBody e t).length = lineBlocks tyRangeResp 0 false 14 := by rw [type_, fourteen]; rfl
  obtain ⟨gen, no, uid, z, k, warned, u, sealed, kept⟩ := sealFrame_ok (h := hd) (body := respBody e t) (by rw [sec]; exact key) fhold core spent
    exh inv (blocks ▸ blk)
  have built : (buildFrame hd none gen no uid z k (respBody e t)).length = frameBytes tyRangeResp 0 false 14 :=
    (length_buildFrame sec (by decide) gen no uid z k (respBody e t)).trans size
  obtain ⟨cx, ev, msix, lg, mssx, mem, pending, rfl⟩ := sealed_eq kept
  obtain ⟨v, goes, tex, g, onLine, id, ty, st⟩ := legOnLine_goes (f := { lastLeg e t s with inv := BitVec.ofNat 40 no }) (port := p.val)
    (mode := legMode (entryAt s e.hop.toNat) (frameBytes tyRangeResp 0 false 14) s)
    (built := buildFrame hd none gen no uid z k (respBody e t))
    (s := { s with cx := cx, ev := ev, msix := msix, lg := lg, mssx := mssx, hostMem := mem, pending := pending }) ready
    (by rw [built]; exact tokens)
  have sends : lastSent p e t s = { v with tex := { v.tex with lastResp := some (e.exch, e.t2, t % 2 ^ 48, e.mark) } } := by
    unfold lastSent
    rw [hdr, sealed, fourteen]
    dsimp only
    rw [show legMode (entryAt s e.hop.toNat) (frameBytes tyRangeResp 0 false 14)
      { s with cx := cx, ev := ev, msix := msix, lg := lg, mssx := mssx, hostMem := mem, pending := pending } =
      legMode (entryAt s e.hop.toNat) (frameBytes tyRangeResp 0 false 14) s from rfl, goes]
  rw [sends]
  exact ⟨congrArg (fun x : TeX => { x with lastResp := some (e.exch, e.t2, t % 2 ^ 48, e.mark) }) tex, g, onLine, id,
    (congrArg BitVec.toNat ty).trans rangeResp_type, st⟩

/-- A leaf's key is the one pinned. -/
theorem classKey_pinned {s : State} {n i : Nat} (leaf : isLeaf s = true) (pinned : pinnedSlot s = some i) (unload : (slotAt s i).unload = none) :
    classKey 1 n s = (.slot i, s) := by
  simp [classKey, leaf, pinned, unload]

theorem pinnedSlot_use {s : State} {i : Nat} (pinned : pinnedSlot s = some i) : (slotAt s i).use = usePinned := by
  unfold pinnedSlot at pinned
  dsimp only at pinned
  split at pinned
  · split at pinned
    next held => injection pinned with slot; exact slot ▸ held.1
    · cases pinned
  · cases pinned

/-- The counts of a pinned key are those of its slot. -/
theorem keyCounts_pinned {s : State} {i : Nat} (pinned : pinnedSlot s = some i) :
    keyCounts s i = ((slotAt s i).inv, (slotAt s i).blk, (slotAt s i).warn, (slotAt s i).exh) := by
  have use : ¬ (slotAt s i).use = useCached := by rw [pinnedSlot_use pinned]; decide
  exact if_neg use

theorem counterSpent_pinned {s : State} {i : Nat} (pinned : pinnedSlot s = some i) : counterSpent i s = false := by
  rw [counterSpent, pinnedSlot_use pinned]
  rfl

end Sys2Proof.Machine

open Sys2Proof Sys2Proof.Machine

/-- Settles O31: a leg goes on the line where its key serves and its tokens cover it; an exchange that fails is counted. -/
theorem ranging : Obligations.Ranging := by
  intro s up
  refine ⟨fun v now head eligible => ?asked, fun v now head eligible => ?refused,
    fun p n i head running pick direct small legs fits time ready tokens cached unload fhold core exh inv blk => ?start,
    fun p e i found open_ leaf role mark raw route ready tokens pinned unload fhold core exh inv blk => ?answer, fun p e found => ?timeout⟩
  case asked =>
    refine completes_hostDoes (f := rngNowWrite v) (t := fun w x => { s.woken w x with
      te := { s.te with rngNow := v &&& 0xFFF }
      tex := { s.tex with first := some (BitVec.ofNat 12 (fld v 0 12)) } }) rfl up (fun w x => ?_) fun w x => ⟨rfl, rfl⟩
    have acts : ¬ (!bitAt v 31 || isLeaf s) = true := by simp [now, notLeaf_of_head head]
    exact (if_neg acts).trans (if_pos eligible)
  case refused =>
    refine completes_hostDoes (f := rngNowWrite v) (t := fun w x => rngFailed (BitVec.ofNat 12 (fld v 0 12)) 1 0
      { s.woken w x with te := { s.te with rngNow := v &&& 0xFFF } }) rfl up (fun w x => ?_) fun w x => raise_tex ..
    have acts : ¬ (!bitAt v 31 || isLeaf s) = true := by simp [now, notLeaf_of_head head]
    exact (if_neg acts).trans (if_neg (Bool.eq_false_iff.mp eligible))
  case start =>
    have one : pathNodes s n = [n] := by rw [pathNodes, direct]; rfl
    have route : headRoute s n = none := if_pos (congrArg List.length direct)
    refine rangingStart_sends up head running pick legs fits ?_ ?_
    · rw [one, route]
      exact time
    · rw [one, route]
      have counts := keyCounts_cached cached
      exact firstSent_opens (classKey_cached (s := exchGiven s) head cached unload) fhold core (counterSpent_cached cached)
        ((congrArg (·.2.2.2) counts).trans exh) (by rw [show keyCounts (exchGiven s) i = _ from counts]; exact inv)
        (by rw [show keyCounts (exchGiven s) i = _ from counts]; exact blk) ready tokens
  case answer =>
    have pinnedAfter : pinnedSlot (dropExch e s) = some i := pinned
    obtain ⟨tex, sent⟩ := lastSent_goes (p := p) (e := e) (t := e.due.getD 0) (s := dropExch e s)
      (classKey_pinned (n := 0) leaf pinnedAfter unload) fhold core
      (counterSpent_pinned pinnedAfter) ((congrArg (·.2.2.2) (keyCounts_pinned pinnedAfter)).trans exh)
      (by rw [keyCounts_pinned pinnedAfter]; exact inv) (by rw [keyCounts_pinned pinnedAfter]; exact blk) ready tokens
    refine completes_does (t := lastSent p e (e.due.getD 0) (dropExch e s)) rfl up ?_ ?_
    · dsimp only
      rw [found]
      exact (if_pos open_).trans (sendLeg_answers role mark raw route)
    · rw [tex]
      exact ⟨rfl, rfl, sent⟩
  case timeout =>
    have first : e.initiator = true := by
      have holds := List.find?_some found
      simp only [Bool.and_eq_true] at holds
      exact holds.1.1
    refine completes_does (t := failExch e 3 s) rfl up ?_ ?_
    · dsimp only
      rw [found]
    · rw [failExch, if_pos first, rngFailed, raise_tex]
      rfl

end


section
/-! Beacons, role maps, data and acknowledgements received (02 R81, R83, 05 R169, R184, 08 R273). -/
namespace Sys2Proof.Machine

/-! ### At a leaf -/

/-- A beacon of the own head gives the leaf its content, its quire and its partition, and ends the count of the missing (R81, R83). -/
theorem leafBeacon_follows {o : Front} {b : BeaconInfo} {s : State} (kind : b.kind.toNat ≤ 1) :
    (leafBeacon o b s).qrx.last = some b ∧ (leafBeacon o b s).qr.qnum = b.quire ∧ (leafBeacon o b s).qr.partNow = b.part ∧
      (leafBeacon o b s).qr.swapQ = b.qs ∧ (leafBeacon o b s).ltx.headMiss = 0 := by
  have first : ¬ 2 ≤ b.kind.toNat := by omega
  unfold leafBeacon
  simp only [if_pos kind, if_neg first]
  generalize timed : beaconMeasure _ _ _ = u
  have last : u.qrx.last = some b := by rw [← timed, (beaconMeasure_keeps ..).qrx_eq rfl, (beaconRaw_keeps ..).qrx_eq rfl]
  have part : u.qr.partNow = b.part := by rw [← timed, (beaconMeasure_keeps ..).qr_eq rfl, (beaconRaw_keeps ..).qr_eq rfl]
  have swap : u.qr.swapQ = b.qs := by rw [← timed, (beaconMeasure_keeps ..).qr_eq rfl, (beaconRaw_keeps ..).qr_eq rfl]
  have miss : u.ltx.headMiss = 0 := by rw [← timed, (beaconMeasure_keeps ..).ltx_eq rfl, (beaconRaw_keeps ..).ltx_eq rfl]
  have placed : (placeQuire b (beaconFolio b o.h.headId) u).qrx.last = some b ∧ (placeQuire b (beaconFolio b o.h.headId) u).qr.qnum = b.quire ∧
      (placeQuire b (beaconFolio b o.h.headId) u).qr.partNow = b.part ∧ (placeQuire b (beaconFolio b o.h.headId) u).qr.swapQ = b.qs ∧
      (placeQuire b (beaconFolio b o.h.headId) u).ltx.headMiss = 0 := ⟨last, rfl, part, swap, miss⟩
  generalize placeQuire b (beaconFolio b o.h.headId) u = v at placed ⊢
  split
  · have qr := ((searchExit_keeps _).qr_eq rfl).trans ((slpContact_keeps o.f (beaconFolio b o.h.headId) v).qr_eq rfl)
    have qrx := ((searchExit_keeps _).qrx_eq rfl).trans ((slpContact_keeps o.f (beaconFolio b o.h.headId) v).qrx_eq rfl)
    have ltx := ((searchExit_keeps _).ltx_eq rfl).trans ((slpContact_keeps o.f (beaconFolio b o.h.headId) v).ltx_eq rfl)
    rw [qr, qrx, ltx]
    exact placed
  · exact placed

/-- A bank is made up only where its digest is that of its segments (02 R80). -/
theorem segBank_digest {segs : List RmSeg} {k : Bank} {d : Word} (same : ∀ g ∈ segs, g.digest = d) (made : segBank segs = some k) :
    bankDigest k = d := by
  unfold segBank at made
  split at made
  next g _ _ _ head _ _ _ =>
    dsimp only at made
    split at made
    next good =>
      injection made with bank
      rw [← bank, ← same g (List.mem_of_head? head)]
      exact good.1
    · cases made
  · cases made

theorem updBank_digest {b : Nat} {k : Bank} {d : Word} {s : State} (small : b < 2) (digest : bankDigest k = d) :
    ∃ c : Fin 2, bankDigest (bankAt (updBank b (fun _ => k) s) c.val) = d := by
  refine ⟨⟨b, small⟩, ?_⟩
  rw [bankAt, updBank, vget_vupd, if_pos ⟨rfl, small⟩]
  exact digest

/-- A role map segment is kept, or makes up the bank of its digest (05 R184). -/
theorem onRolemap_takes {o : Front} {s : State} (leaf : isLeaf s = true) (phase : (parseSeg o.body).phase ≠ 3) :
    parseSeg o.body ∈ (onRolemap o s).qrx.rmSegs ∨
      ∃ b : Fin 2, bankDigest (bankAt (onRolemap o s) b.val) = (parseSeg o.body).digest := by
  have acts : ¬ (isHead s = true ∨ (parseSeg o.body).phase = 3) := fun h => h.elim (fun head => notLeaf_of_head head leaf) phase
  unfold onRolemap
  dsimp only
  rw [if_neg acts]
  split
  · exact .inl List.mem_cons_self
  next k made =>
    refine .inr (updBank_digest ?_ (segBank_digest (fun x mem => of_decide_eq_true (List.mem_filter.mp mem).2) made))
    split
    · exact s.qr.active.isLt
    · exact Nat.lt_succ_of_le (Nat.sub_le ..)

/-! ### At a head -/

/-- What a frame heard may change at a head: the drift of its sender, which leaves the entry's state and sequence number. -/
structure OnlyDrift (n : Nat) (s t : State) : Prop where
  keeps : Keeps [.lt, .slp, .slph] s t
  entry : eState (entryAt s n) ≠ stFree → eState (entryAt t n) = eState (entryAt s n) ∧ eDseqRx (entryAt t n) = eDseqRx (entryAt s n)

theorem eState_setDrift (v : Nat) (e : Entry) : eState (set512 e 224 15 v) = eState e := bits512_set512_other (.inl (by decide)) (by decide)
theorem eDseqRx_setDrift (v : Nat) (e : Entry) : eDseqRx (set512 e 224 15 v) = eDseqRx e :=
  congrArg (BitVec.ofNat 8) (bits512_set512_other (.inl (by decide)) (by decide))
theorem eState_eSetDseqRx (v : Byte) (e : Entry) : eState (eSetDseqRx v e) = eState e := bits512_set512_other (.inl (by decide)) (by decide)
theorem eDseqRx_eSetDseqRx (v : Byte) (e : Entry) : eDseqRx (eSetDseqRx v e) = v := by
  rw [eDseqRx, eSetDseqRx, bits512_set512_same (by decide), Nat.mod_eq_of_lt v.isLt, BitVec.ofNat_toNat, BitVec.setWidth_eq]

/-- The update of the drift in the entry of the sender. -/
theorem updEntry_drift (n v : Nat) (s : State) (there : eState (entryAt s n) ≠ stFree) :
    eState (entryAt (updEntry n (fun e => set512 e 224 15 v) s) n) = eState (entryAt s n) ∧
      eDseqRx (entryAt (updEntry n (fun e => set512 e 224 15 v) s) n) = eDseqRx (entryAt s n) := by
  rw [entryAt_updEntry_same ((eState_setDrift v _).symm ▸ there)]
  exact ⟨eState_setDrift v _, eDseqRx_setDrift v _⟩

theorem headDrift_only (f : RxFrame) (n : Nat) (s : State) : OnlyDrift n s (headDrift f n s) := by
  refine ⟨(headDrift_keeps f n s).mono (by decide), fun there => ?_⟩
  unfold headDrift
  extract_lets
  split
  · exact ⟨rfl, rfl⟩
  · exact updEntry_drift n _ _ there

/-- At a head a frame heard leaves all but the drift of its sender. -/
theorem afterHeard_head {o : Front} {s : State} (head : isHead s = true) : OnlyDrift o.h.src.toNat s (afterHeard o s) := by
  have awake : ¬ (sleepyLeaf s && decide (o.h.src = 0)) = true := by
    have leaf : isLeaf s = false := Bool.eq_false_iff.mpr (notLeaf_of_head head)
    simp [sleepyLeaf, leaf]
  have heard : OnlyDrift o.h.src.toNat s (slpHeard o s) := by
    unfold slpHeard
    dsimp only
    rw [if_neg awake]
    split
    · exact headDrift_only ..
    · exact ⟨Keeps.refl _ _, fun _ => ⟨rfl, rfl⟩⟩
  exact ⟨(slpFolioUsed_keeps _).step (by decide) heard.keeps, heard.entry⟩

/-- What the head's receive path works in: the counter of the leaf moved on, and the acknowledgement queued. -/
def frameTaken (o : Front) (s : State) : State :=
  let t := updEntry o.h.src.toNat (fun en => eSetDseqRx (o.h.seq + 1) en) (takeBuf false s)
  if wantsAck o then pushAck o o.h.seq 0 t else t

/-- The head takes the next frame of a leaf: its counter moves on, and the frame is acknowledged where it asks for it (R169). -/
theorem onData_next {o : Front} {s : State} (head : isHead s = true) (one : o.h.dst ≠ bcast)
    (active : eState (entryAt s o.h.src.toNat) = stActive) (seq : o.h.seq = eDseqRx (entryAt s o.h.src.toNat)) (body : 0 < o.h.len)
    (free : bufFree s false = true) : onData o s = rxDeliver o (frameTaken o s) := by
  have leaf : ¬ isLeaf s = true := notLeaf_of_head head
  have tipping : ¬ (isHead s && decide (eState (entryAt s o.h.src.toNat) = stTipping)) = true := by rw [active]; simp [head]; decide
  have empty : ¬ (isHead s && decide (o.h.len = 0)) = true := by simp [Nat.pos_iff_ne_zero.mp body]
  unfold onData
  simp only [if_neg one, if_neg leaf, if_neg tipping, ← seq, sub_self, if_neg empty]
  exact (if_pos rfl).trans (if_pos free)

theorem frameTaken_seq {o : Front} {s : State} (there : eState (entryAt s o.h.src.toNat) ≠ stFree) :
    eDseqRx (entryAt (frameTaken o s) o.h.src.toNat) = o.h.seq + 1 := by
  have moved : eDseqRx (entryAt (updEntry o.h.src.toNat (fun en => eSetDseqRx (o.h.seq + 1) en) (takeBuf false s)) o.h.src.toNat) =
      o.h.seq + 1 := by
    rw [entryAt_updEntry_same (by rw [eState_eSetDseqRx]; exact there)]
    exact eDseqRx_eSetDseqRx ..
  unfold frameTaken
  dsimp only
  split
  · exact moved
  · exact moved

theorem frameTaken_ack {o : Front} {s : State} (wants : wantsAck o = true) :
    ∃ a ∈ (frameTaken o s).line.acks, a.dst = o.h.src ∧ a.seq = o.h.seq ∧ a.status = 0 ∧ a.port = o.f.port := by
  unfold frameTaken
  dsimp only
  rw [if_pos wants]
  exact ⟨_, List.mem_append_right _ (List.mem_singleton_self _), rfl, rfl, rfl, rfl⟩

/-- Beyond its line, its table and the count of buffers, the state is as before. -/
theorem frameTaken_eq (o : Front) (s : State) : ∃ lt line, frameTaken o s = { s.hosted (takeBuf false s).hi (takeBuf false s).lg with
    lt := lt, line := line } := by
  unfold frameTaken
  dsimp only
  split
  · exact ⟨_, _, rfl⟩
  · exact ⟨_, _, rfl⟩

/-- A frame taken goes to the buffer posted first where none waits before it (15 R501). -/
theorem rxDeliver_fills {o : Front} {s : State} {p : RxPostS} {ps : List RxPostS} (alone : s.hi.rxWait = []) (posts : s.hi.rxPosts = p :: ps)
    (inside : regionOk s p.addr (16 + o.body.length) = true) : rxDeliver o s = finish p.ring p.desc (resOk (16 + o.body.length))
      (giveBuf false (hostWrite p.addr (rxHeader o s ++ o.body) { s with hi := { s.hi with rxPosts := ps, rxWait := [] } })) := by
  unfold rxDeliver rxFillAll
  dsimp only
  rw [alone, posts]
  exact (if_pos inside).trans (rxFill_none rfl _)

theorem finish_rxPosts (r id : Nat) (res : Result) (s : State) : (finish r id res s).hi.rxPosts = s.hi.rxPosts := rfl
theorem hostWrite_hostMem (addr : Nat) (bs : List Byte) (s : State) : (hostWrite addr bs s).hostMem = spPutBytes s.hostMem addr bs := rfl
theorem giveBuf_rxPosts (express : Bool) (s : State) : (giveBuf express s).hi.rxPosts = s.hi.rxPosts := rfl

/-- The frame taken is written, and its descriptor ends with its length. -/
theorem rxDeliver_taken {o : Front} {s : State} {p : RxPostS} {ps : List RxPostS} (alone : s.hi.rxWait = []) (posts : s.hi.rxPosts = p :: ps)
    (inside : regionOk s p.addr (16 + o.body.length) = true) : (rxDeliver o (frameTaken o s)).hi.rxPosts = ps ∧
      (rxDeliver o (frameTaken o s)).hostMem = spPutBytes s.hostMem p.addr (rxHeader o s ++ o.body) ∧
      ((takenAt s p.ring p.desc).map (·.result) = some none →
        (takenAt (rxDeliver o (frameTaken o s)) p.ring p.desc).bind (·.result) = some (resOk (16 + o.body.length))) := by
  obtain ⟨lt, line, taken⟩ := frameTaken_eq o s
  generalize frameTaken o s = t at taken ⊢
  have fills := rxDeliver_fills (o := o) (s := t) (p := p) (ps := ps) (by rw [taken]; exact alone) (by rw [taken]; exact posts)
    (by rw [regionOk_congr (s := s) (by rw [taken]; rfl)]; exact inside)
  have header : rxHeader o t = rxHeader o s := by rw [taken]; rfl
  have mem : t.hostMem = s.hostMem := by rw [taken]; rfl
  have sq : t.hi.sq = s.hi.sq := by rw [taken]; rfl
  rw [fills, header]
  generalize written : { t with hi := { t.hi with
    rxPosts := ps
    rxWait := [] } } = u
  have sqU : u.hi.sq = s.hi.sq := by rw [← written]; exact sq
  have memU : u.hostMem = s.hostMem := by rw [← written]; exact mem
  refine ⟨?_, ?_, fun running => takenAt_finish_running ?_⟩
  · rw [finish_rxPosts, giveBuf_rxPosts, ← written]
    rfl
  · rw [(finish_keeps ..).hostMem_eq rfl, (giveBuf_keeps ..).hostMem_eq rfl, ← memU]
    exact hostWrite_hostMem ..
  · rw [← running, takenAt, takenAt, sqAt, sqAt, ← sqU]
    rfl

/-- A leaf whose confirmation is acknowledged is joined, which leaves the line. -/
theorem confirms_line (s : State) : (if isLeaf s && s.ltx.confirmWait then joinedNow s else s).line = s.line := by
  split
  · exact (joinedNow_keeps s).line_eq rfl
  · rfl

/-- The line after a frame that was acknowledged. -/
theorem acked_line (g : TxFrame) (n : Nat) (d : Option (Nat × Nat)) (res : Result) (s : State) :
    (cwSet g.dst n (endFrame g (finishOpt d res s))).line = { (dropFrame g.id s).line with cw := spPut 4 g.dst.toNat n s.line.cw } := by
  have dropped : (endFrame g (finishOpt d res s)).line = (dropFrame g.id s).line := by
    rw [endFrame_line, dropFrame, dropFrame, (finishOpt_keeps ..).line_eq rfl]
  unfold cwSet
  rw [dropped]
  rfl

/-- An acknowledgement of status OK ends the data frame that it names, and its destination's window is the smallest again (R169). -/
theorem onAck_ends {o : Front} {g : TxFrame} {s : State} (ok : leAt o.body 1 1 = 0) (data : g.ty.toNat = tyData)
    (found : s.line.q.find? (fun x => decide (x.st = .waiting) && decide (x.dst = o.h.src) && (decide (0 = 3) ||
      decide (x.seq = some (o.body.getD 0 0)))) = some g) :
    (∀ x ∈ (onAck o s).line.q, x.id ≠ g.id) ∧ (onAck o s).line.cw = spPut 4 g.dst.toNat 4 s.line.cw := by
  unfold onAck
  rw [ok]
  extract_lets st copied c granted seq mine
  have line : granted.line = s.line := by
    unfold granted
    split
    · exact ((grantFrom_keeps ..).line_eq rfl).trans ((copyOver_keeps o s).line_eq rfl)
    · exact (copyOver_keeps o s).line_eq rfl
  clear_value granted
  rw [line, show s.line.q.find? (fun f => mine f && (decide (0 = 3) || decide (f.seq = some seq))) = some g from found]
  dsimp only
  rw [if_pos rfl, if_pos data]
  rw [confirms_line, acked_line, dropFrame]
  dsimp only
  rw [line]
  exact ⟨fun x mem => of_decide_eq_true (List.mem_filter.mp mem).2, rfl⟩

end Sys2Proof.Machine

open Sys2Proof Sys2Proof.Machine

/-- Settles O21: a frame received acts by its type in a state that differs from the one it opens in by the sleepy leaf's part alone. -/
theorem framesReceived : Obligations.FramesReceived := by
  intro f s o up u alone e own
  obtain rfl := rxOpen_frame e
  have role := (afterHeard_role o u).trans (rxOpen_role o.f s)
  have there : eState (entryAt u o.h.src.toNat) = stActive → eState (entryAt u o.h.src.toNat) ≠ stFree := fun active => by rw [active]; decide
  have takesNext : isHead s = true → o.h.dst ≠ bcast → eState (entryAt u o.h.src.toNat) = stActive →
      o.h.seq = eDseqRx (entryAt u o.h.src.toNat) → 0 < o.h.len → bufFree u false = true →
      onData o (afterHeard o u) = rxDeliver o (frameTaken o (afterHeard o u)) := fun head one active seq body free => by
    obtain ⟨kept, entry⟩ := afterHeard_head (o := o) (isHead_of_role (rxOpen_role o.f s) head)
    obtain ⟨state, next⟩ := entry (there active)
    refine onData_next (isHead_of_role role head) one (state.trans active) (seq.trans next.symm) body ?_
    rw [bufFree, kept.hi_eq rfl]
    exact free
  refine ⟨fun beacon usable leaf kind => ?beacon, fun map leaf phase => ?map, fun data head one active seq body free => ?data,
    fun p ps data head one active seq body free alone_ posts inside => ?posted, fun g ack ok data found => ?ack⟩
  case beacon =>
    refine completes_does (t := onBeacon o (afterHeard o u)) rfl up (rxTyped_opens alone e own beacon) ?_
    have follows : onBeacon o (afterHeard o u) = leafBeacon o (parseBeacon o.body) (afterHeard o u) :=
      (if_neg (by simp [usable])).trans (if_pos (role.trans leaf))
    rw [follows]
    exact leafBeacon_follows kind
  case map =>
    exact completes_does (t := onRolemap o (afterHeard o u)) rfl up (rxTyped_opens alone e own map) (onRolemap_takes (role.trans leaf) phase)
  case data =>
    obtain ⟨-, entry⟩ := afterHeard_head (o := o) (isHead_of_role (rxOpen_role o.f s) head)
    have opened := takesNext head one active seq body free
    refine completes_does (t := rxDeliver o (frameTaken o (afterHeard o u))) rfl up ((rxTyped_opens alone e own data).trans opened)
      ⟨?_, fun wants => ?_⟩
    · rw [entryAt, (rxDeliver_keeps ..).lt_eq rfl]
      refine frameTaken_seq ?_
      rw [(entry (there active)).1]
      exact there active
    · rw [(rxDeliver_keeps ..).line_eq rfl]
      exact frameTaken_ack wants
  case posted =>
    have opened := takesNext head one active seq body free
    refine completes_does (t := rxDeliver o (frameTaken o (afterHeard o u))) rfl up ((rxTyped_opens alone e own data).trans opened) ?_
    have kept := (afterHeard_head (o := o) (isHead_of_role (rxOpen_role o.f s) head)).keeps
    have hi := kept.hi_eq rfl
    have header : rxHeader o (afterHeard o u) = rxHeader o u := by rw [rxHeader, rxStamp, portS, kept.afe_eq rfl]; rfl
    have filled := rxDeliver_taken (o := o) ((congrArg Hi.rxWait hi).trans alone_) ((congrArg Hi.rxPosts hi).trans posts)
      ((regionOk_congr (kept.cln_eq rfl) ..).trans inside)
    rw [header, kept.hostMem_eq rfl, takenAt, sqAt, hi] at filled
    exact filled
  case ack =>
    refine completes_does (t := onAck o (afterHeard o u)) rfl up (rxTyped_opens alone e own ack) ?_
    have line : (afterHeard o u).line = u.line := (afterHeard_keeps o u).line_eq rfl
    have ends := onAck_ends ok data (s := afterHeard o u) (by rw [line]; exact found)
    rwa [line, (heard_rxOpen o.f s).cw] at ends

end


section
/-! No write of a register changes the queue of commands: the shared operations and the line (00, 01, 03 to 08). -/
namespace Sys2Proof.Machine

/-! ### What every block shares, the rings and the keys (15 R487, 13) -/

@[simp] theorem foldl_pending {α : Type} {step : State → α → State} (one : ∀ s x, (step s x).pending = s.pending) (l : List α)
    (s : State) : (l.foldl step s).pending = s.pending := foldl_kept (g := State.pending) one l s

@[simp] theorem draw_pending (s : State) : (draw s).2.pending = s.pending := rfl
@[simp] theorem logMark_pending (p : LogRec → Bool) (s : State) : (logMark p s).pending = s.pending := rfl
@[simp] theorem evWrite_pending (r : EvRec) (s : State) : (evWrite r s).pending = s.pending := by simp [evWrite]

@[simp] theorem evForm_pending (code source : Nat) (sec ns : Word) (p : BitVec 128) (s : State) :
    (evForm code source sec ns p s).2.pending = s.pending := rfl

@[simp] theorem evHold_pending (r : EvRec) (s : State) : (evHold r s).pending = s.pending := rfl

@[simp] theorem raiseRaw_pending (code source : Nat) (sec ns : Word) (p : BitVec 128) (s : State) :
    (raiseRaw code source sec ns p s).pending = s.pending := by
  unfold raiseRaw
  split
  · rfl
  · simp
  · dsimp only
    split <;> simp

@[simp] theorem logAdd_pending (code source : Nat) (sec : BitVec 48) (ns : Word) (p : BitVec 128) (evseq : Word) (s : State) :
    (logAdd code source sec ns p evseq s).pending = s.pending := by simp [logAdd, apply_ite State.pending]

@[simp] theorem raiseAt_pending (code source : Nat) (sec : BitVec 48) (ns : Word) (p : BitVec 128) (s : State) :
    (raiseAt code source sec ns p s).pending = s.pending := by simp [raiseAt, apply_ite State.pending]

@[simp] theorem raiseAon_pending (code inst : Nat) (p : BitVec 128) (stamp : Option (BitVec 64)) (s : State) :
    (raiseAon code inst p stamp s).pending = s.pending := by
  unfold raiseAon
  dsimp only
  repeat' split
  all_goals simp

@[simp] theorem stageLo_pending (a : Agent) (bar2 : Bool) (off : Nat) (v : Word) (s : State) :
    (stageLo a bar2 off v s).pending = s.pending := rfl

@[simp] theorem takeLo_pending (a : Agent) (bar2 : Bool) (off : Nat) (live : Word) (s : State) :
    (takeLo a bar2 off live s).2.pending = s.pending := rfl

@[simp] theorem finish_pending (r id : Nat) (res : Result) (s : State) : (finish r id res s).pending = s.pending := rfl

@[simp] theorem finishOpt_pending (d : Option (Nat × Nat)) (res : Result) (s : State) : (finishOpt d res s).pending = s.pending := by
  unfold finishOpt
  split <;> simp

@[simp] theorem raiseFor_pending (o : Option (Nat × Nat)) (code inst : Nat) (fs : List (Nat × Nat × Nat)) (s : State) :
    (raiseFor o code inst fs s).pending = s.pending := by
  unfold raiseFor
  split
  · simp
  · split <;> simp

@[simp] theorem cqFire_pending (m : Nat) (s : State) : (cqFire m s).pending = s.pending := by simp [cqFire]
@[simp] theorem cqNotify_pending (m : Nat) (s : State) : (cqNotify m s).pending = s.pending := by simp [cqNotify, apply_ite State.pending]
@[simp] theorem resetsSettle_pending (s : State) : (resetsSettle s).pending = s.pending := by simp [resetsSettle]

@[simp] theorem resetBegin_pending (unit cause : Nat) (byHost : Bool) (ds : List (Nat × Nat)) (s : State) :
    (resetBegin unit cause byHost ds s).pending = s.pending := rfl

@[simp] theorem resetsDrop_pending (r id : Nat) (s : State) : (resetsDrop r id s).pending = s.pending := rfl
@[simp] theorem setSlot_pending (i : Nat) (k : Slot) (s : State) : (setSlot i k s).pending = s.pending := rfl
@[simp] theorem clearSlot_pending (i : Nat) (s : State) : (clearSlot i s).pending = s.pending := rfl
@[simp] theorem jobDone_pending (i : Nat) (s : State) : (jobDone i s).pending = s.pending := rfl

/-! ### The mains angle (01) -/

@[simp] theorem syncLeafRef_pending (s : State) : (syncLeafRef s).pending = s.pending := by simp [syncLeafRef, apply_ite State.pending]

@[simp] theorem raisePending_pending (s : State) : (raisePending s).pending = s.pending := by
  unfold raisePending
  split <;> simp

@[simp] theorem changeRef_pending (r : Phase) (s : State) : (changeRef r s).pending = s.pending := by
  unfold changeRef
  dsimp only
  split <;> simp

@[simp] theorem rechooseRef_pending (s : State) : (rechooseRef s).pending = s.pending := by
  unfold rechooseRef
  dsimp only
  repeat' split
  all_goals simp

@[simp] theorem qrFlywheelCheck_pending (s : State) :
    (qrFlywheelCheck s).pending = s.pending := by simp [qrFlywheelCheck, apply_ite State.pending]

@[simp] theorem afterState_pending (s : State) : (afterState s).pending = s.pending := by simp [afterState]
@[simp] theorem enterLost_pending (n : Phase) (s : State) : (enterLost n s).pending = s.pending := by simp [enterLost]
@[simp] theorem biasClear_pending (s : State) : (biasClear s).pending = s.pending := by simp [biasClear, apply_ite State.pending]

@[simp] theorem disablePhase_pending (n : Phase) (s : State) : (disablePhase n s).pending = s.pending := by
  unfold disablePhase
  split <;> simp

@[simp] theorem refRewrite_pending (s : State) : (refRewrite s).pending = s.pending := by
  unfold refRewrite
  dsimp only
  repeat' split
  all_goals simp

@[simp] theorem mptCtrlWrite_pending (v : Word) (s : State) :
    (mptCtrlWrite v s).pending = s.pending := by simp [mptCtrlWrite, apply_ite State.pending]

@[simp] theorem mptLockWrite_pending (v : Word) (s : State) : (mptLockWrite v s).pending = s.pending := rfl

@[simp] theorem mptPrioWrite_pending (v : Word) (s : State) :
    (mptPrioWrite v s).pending = s.pending := by simp [mptPrioWrite, apply_ite State.pending]

@[simp] theorem mptSnap_pending (v : Word) (s : State) : (mptSnap v s).pending = s.pending := by simp [mptSnap, apply_ite State.pending]

/-! ### The modes of the line (06, 07) -/

@[simp] theorem rbmSet_pending (fc bc dc : Word) (off : Nat) (v : Word) (s : State) :
    (rbmSet fc bc dc off v s).pending = s.pending := by simp [rbmSet, apply_ite State.pending]

@[simp] theorem rbmFcWrite_pending (v : Word) (s : State) : (rbmFcWrite v s).pending = s.pending := by simp [rbmFcWrite]
@[simp] theorem rbmBcfgWrite_pending (v : Word) (s : State) : (rbmBcfgWrite v s).pending = s.pending := by simp [rbmBcfgWrite]
@[simp] theorem rbmDcfgWrite_pending (v : Word) (s : State) : (rbmDcfgWrite v s).pending = s.pending := by simp [rbmDcfgWrite]
@[simp] theorem rbmCtrlWrite_pending (v : Word) (s : State) : (rbmCtrlWrite v s).pending = s.pending := rfl
@[simp] theorem rbmStatusWrite_pending (v : Word) (s : State) : (rbmStatusWrite v s).pending = s.pending := rfl
@[simp] theorem rbmRecheck_pending (s : State) : (rbmRecheck s).pending = s.pending := by simp [rbmRecheck, apply_ite State.pending]
@[simp] theorem ofdRefuse_pending (slot cause : Nat) (s : State) : (ofdRefuse slot cause s).pending = s.pending := by simp [ofdRefuse]
@[simp] theorem tmAdvance_pending (s : State) : (tmAdvance s).pending = s.pending := rfl

@[simp] theorem tmDataWrite_pending (v : Word) (s : State) :
    (tmDataWrite v s).pending = s.pending := by simp [tmDataWrite, apply_ite State.pending]

@[simp] theorem tmValidWrite_pending (v : Word) (s : State) : (tmValidWrite v s).pending = s.pending := by
  unfold tmValidWrite
  dsimp only
  split <;> simp

@[simp] theorem slotsRecheck_pending (s : State) : (slotsRecheck s).pending = s.pending := by simp [slotsRecheck, apply_ite State.pending]
@[simp] theorem ofdCtrlWrite_pending (v : Word) (s : State) : (ofdCtrlWrite v s).pending = s.pending := rfl
@[simp] theorem ofdStatusWrite_pending (v : Word) (s : State) : (ofdStatusWrite v s).pending = s.pending := rfl
@[simp] theorem ofdAddrWrite_pending (v : Word) (s : State) : (ofdAddrWrite v s).pending = s.pending := rfl
@[simp] theorem ofdBcastWrite_pending (v : Word) (s : State) : (ofdBcastWrite v s).pending = s.pending := rfl

/-! ### Frames that wait, joining and re-keying (05, 08, 13 R452) -/

@[simp] theorem submit_pending (f : TxFrame) (s : State) : (submit f s).pending = s.pending := rfl
@[simp] theorem dropFrame_pending (id : Nat) (s : State) : (dropFrame id s).pending = s.pending := rfl

@[simp] theorem returnCost_pending (cost : Vector Nat 4) (s : State) :
    (returnCost cost s).pending = s.pending := by simp [returnCost, apply_ite State.pending]

@[simp] theorem cancelCost_pending (cost : Vector Nat 4) (s : State) :
    (cancelCost cost s).pending = s.pending := by simp [cancelCost, apply_ite State.pending]

@[simp] theorem airSettle_pending (s : State) : (airSettle s).pending = s.pending := by simp [airSettle, apply_ite State.pending]
@[simp] theorem fencesSettle_pending (s : State) : (fencesSettle s).pending = s.pending := by simp [fencesSettle, apply_ite State.pending]

@[simp] theorem fenceDrop_pending (id : Nat) (failed : Bool) (s : State) :
    (fenceDrop id failed s).pending = s.pending := by simp [fenceDrop]

@[simp] theorem postedFailed_pending (f : TxFrame) (cause : Nat) (s : State) :
    (postedFailed f cause s).pending = s.pending := by simp [postedFailed, apply_ite State.pending]

@[simp] theorem endFrame_pending (f : TxFrame) (s : State) :
    (endFrame f s).pending = s.pending := by simp [endFrame, apply_ite State.pending]

@[simp] theorem uncommit_pending (f : TxFrame) (s : State) :
    (uncommit f s).pending = s.pending := by simp [uncommit, apply_ite State.pending]

@[simp] theorem refusePosted_pending (f : TxFrame) (s : State) : (refusePosted f s).pending = s.pending := by simp [refusePosted]

@[simp] theorem pfailSweep_pending (n : Nat) (s : State) : (pfailSweep n s).pending = s.pending := by
  unfold pfailSweep
  split
  · exact foldl_pending (fun s f => refusePosted_pending f s) _ _
  · rfl

@[simp] theorem failFrame_pending (f : TxFrame) (res : Result) (cause : Nat) (s : State) :
    (failFrame f res cause s).pending = s.pending := by simp [failFrame, apply_ite State.pending]

@[simp] theorem contend_pending (id : Nat) (s : State) : (contend id s).pending = s.pending := by
  unfold contend
  split <;> simp

@[simp] theorem dropKeyLedger_pending (inst : Nat) (s : State) : (dropKeyLedger inst s).pending = s.pending := rfl

@[simp] theorem retireSlot_pending (i : Nat) (s : State) :
    (retireSlot i s).pending = s.pending := by simp [retireSlot, apply_ite State.pending]

@[simp] theorem dropJoinFrames_pending (s : State) : (dropJoinFrames s).pending = s.pending := rfl
@[simp] theorem sendJoinReq_pending (s : State) : (sendJoinReq s).pending = s.pending := by simp [sendJoinReq]
@[simp] theorem unlearn_pending (s : State) : (unlearn s).pending = s.pending := by simp [unlearn, apply_ite State.pending]
@[simp] theorem beginTipin_pending (s : State) : (beginTipin s).pending = s.pending := by simp [beginTipin]
@[simp] theorem retryTipin_pending (s : State) : (retryTipin s).pending = s.pending := by simp [retryTipin]

/-! ### The airtime governor and the line ports (03, 04) -/

@[simp] theorem airRefuse_pending (cause off : Nat) (v : Word) (s : State) :
    (airRefuse cause off v s).pending = s.pending := by simp [airRefuse]

@[simp] theorem airCtrlWrite_pending (v : Word) (s : State) : (airCtrlWrite v s).pending = s.pending := by
  unfold airCtrlWrite
  split <;> simp

@[simp] theorem airBudgetWrite_pending (r : AirReg) (b : Fin 4) (v : Word) (s : State) :
    (airBudgetWrite r b v s).pending = s.pending := by simp [airBudgetWrite, apply_ite State.pending]

@[simp] theorem airStatusWrite_pending (v : Word) (s : State) : (airStatusWrite v s).pending = s.pending := rfl

@[simp] theorem afeRefuse_pending (cause port off : Nat) (v : Word) (s : State) :
    (afeRefuse cause port off v s).pending = s.pending := by simp [afeRefuse]

@[simp] theorem txLevelWrite_pending (p : Port) (r : LevelReg) (v : Word) (s : State) :
    (txLevelWrite p r v s).pending = s.pending := by simp [txLevelWrite, apply_ite State.pending]

@[simp] theorem notchWrite_pending (p : Port) (i : Fin 8) (v : Word) (s : State) :
    (notchWrite p i v s).pending = s.pending := by simp [notchWrite, apply_ite State.pending]

@[simp] theorem firAdvance_pending (s : State) : (firAdvance s).pending = s.pending := rfl
@[simp] theorem cpwrAdvance_pending (s : State) : (cpwrAdvance s).pending = s.pending := rfl

@[simp] theorem firDataWrite_pending (v : Word) (s : State) :
    (firDataWrite v s).pending = s.pending := by simp [firDataWrite, apply_ite State.pending]

@[simp] theorem cpwrDataWrite_pending (v : Word) (s : State) :
    (cpwrDataWrite v s).pending = s.pending := by simp [cpwrDataWrite, apply_ite State.pending]

@[simp] theorem afeCtrlWrite_pending (v : Word) (s : State) : (afeCtrlWrite v s).pending = s.pending := rfl
@[simp] theorem afeStatusWrite_pending (v : Word) (s : State) : (afeStatusWrite v s).pending = s.pending := rfl

@[simp] theorem frameOffPort_pending (p : Nat) (f : TxFrame) (s : State) : (frameOffPort p f s).2.pending = s.pending := by
  unfold frameOffPort
  extract_lets rest gone share returned
  have hGone : ∀ g t, (gone g t).2.pending = t.pending := by
    intro g t
    unfold gone
    split <;> simp
  have hReturned : returned.pending = s.pending := by
    unfold returned
    split <;> simp
  split
  · split <;> simp
  split
  · rfl
  split
  · simp [hReturned]
  split
  · exact (hGone _ _).trans (returnCost_pending ..)
  · exact (hGone _ _).trans (uncommit_pending ..)

/-- The frames of a port, one after the other. -/
theorem framesOff_pending (p : Nat) (q : List TxFrame) : ∀ a : List (Nat × Nat) × State,
    (q.foldl (fun (a : List (Nat × Nat) × State) f =>
      let (d, s) := frameOffPort p f a.2
      (a.1 ++ d, s)) a).2.pending = a.2.pending := by
  induction q with
  | nil => exact fun a => rfl
  | cons f q ih => exact fun a => (ih (a.1 ++ (frameOffPort p f a.2).1, (frameOffPort p f a.2).2)).trans (frameOffPort_pending p f a.2)

@[simp] theorem framesOffPort_pending (p cause : Nat) (s : State) : (framesOffPort p cause s).pending = s.pending := by
  have kept := framesOff_pending p s.line.q ([], s)
  unfold framesOffPort
  dsimp only at kept ⊢
  simp [kept]

@[simp] theorem portOff_pending (p : Nat) (s : State) : (portOff p s).pending = s.pending := by simp [portOff]

@[simp] theorem portDisable_pending (p : Nat) (byMss : Bool) (s : State) :
    (portDisable p byMss s).pending = s.pending := by simp [portDisable, apply_ite State.pending]

@[simp] theorem pctrlWrite_pending (p : Port) (v : Word) (s : State) :
    (pctrlWrite p v s).pending = s.pending := by simp [pctrlWrite, apply_ite State.pending]

@[simp] theorem hostWrote_pending (u : Nat) (s : State) : (hostWrote u s).pending = s.pending := rfl
@[simp] theorem pctrlHost_pending (p : Port) (v : Word) (s : State) : (pctrlHost p v s).pending = s.pending := by simp [pctrlHost]
@[simp] theorem faultLeave_pending (p how : Nat) (s : State) : (faultLeave p how s).pending = s.pending := by simp [faultLeave]

@[simp] theorem pstatWrite_pending (p : Port) (v : Word) (s : State) :
    (pstatWrite p v s).pending = s.pending := by simp [pstatWrite, apply_ite State.pending]

@[simp] theorem driverFault_pending (p : Nat) (c : BitVec 2) (s : State) :
    (driverFault p c s).pending = s.pending := by simp [driverFault, apply_ite State.pending]

@[simp] theorem portIdle_pending (p : Nat) (s : State) : (portIdle p s).pending = s.pending := by simp [portIdle, apply_ite State.pending]

end Sys2Proof.Machine
end


section
/-! No write of a register changes the queue of commands: generators, time, quire, leaves and keys (02, 08 to 14). -/
namespace Sys2Proof.Machine

/-! ### The reference generators (11) -/

@[simp] theorem rgRefuse_pending (c cause off : Nat) (v : Word) (s : State) :
    (rgRefuse c cause off v s).pending = s.pending := by simp [rgRefuse]

@[simp] theorem applyRetune_pending (c : Fin 8) (t : Retune) (s : State) : (applyRetune c t s).pending = s.pending := rfl

@[simp] theorem stepEvent_pending (c : Fin 8) (n : Nat) (s : State) : (stepEvent c n s).pending = s.pending := by
  unfold stepEvent
  dsimp only
  repeat' split
  all_goals simp

@[simp] theorem beginStep_pending (c : Fin 8) (n : Nat) (taken : Bool) (s : State) : (beginStep c n taken s).pending = s.pending := by
  unfold beginStep
  dsimp only
  repeat' split
  all_goals simp

@[simp] theorem startedEvent_pending (c : Fin 8) (s : State) : (startedEvent c s).pending = s.pending := by simp [startedEvent]

@[simp] theorem startChannel_pending (c : Fin 8) (s : State) : (startChannel c s).pending = s.pending := by
  unfold startChannel
  dsimp only
  repeat' split
  all_goals simp

@[simp] theorem stopChannel_pending (c : Fin 8) (s : State) : (stopChannel c s).pending = s.pending := by simp [stopChannel]

@[simp] theorem fireMa_pending (c : Fin 8) (k : Nat) (s : State) : (fireMa c k s).pending = s.pending := by
  unfold fireMa
  dsimp only
  repeat' split
  all_goals simp

@[simp] theorem fireTod_pending (c : Fin 8) (k : Nat) (s : State) : (fireTod c k s).pending = s.pending := by
  unfold fireTod
  dsimp only
  repeat' split
  all_goals simp

@[simp] theorem cmpLate_pending (c : Fin 8) (which : Nat) (s : State) : (cmpLate c which s).pending = s.pending := by simp [cmpLate]

@[simp] theorem maCfgWrite_pending (c : Fin 8) (k : Fin 2) (v : Word) (s : State) :
    (maCfgWrite c k v s).pending = s.pending := by simp [maCfgWrite, apply_ite State.pending]

@[simp] theorem todSecHiWrite_pending (a : Agent) (c : Fin 8) (k : Fin 2) (v : Word) (s : State) :
    (todSecHiWrite a c k v s).pending = s.pending := by
  simp [todSecHiWrite, takeLo, apply_ite State.pending]

@[simp] theorem todPassed_pending (before : Int) (s : State) :
    (todPassed before s).pending = s.pending := by simp [todPassed, apply_ite State.pending]

@[simp] theorem rgPps_pending (s : State) : (rgPps s).pending = s.pending := by simp [rgPps, apply_ite State.pending]

@[simp] theorem ltcCut_pending (c : Fin 8) (cause : Nat) (s : State) :
    (ltcCut c cause s).pending = s.pending := by simp [ltcCut, apply_ite State.pending]

@[simp] theorem ltcCutAll_pending (cause : Nat) (s : State) :
    (ltcCutAll cause s).pending = s.pending := by simp [ltcCutAll, apply_ite State.pending]

@[simp] theorem gofsChange_pending (v : Word) (s : State) : (gofsChange v s).pending = s.pending := by
  unfold gofsChange
  dsimp only
  refine (todPassed_pending ..).trans (foldl_pending (fun t c => ?_) _ _)
  split
  · split <;> simp
  · split <;> simp

@[simp] theorem rgCtrlWrite_pending (c : Fin 8) (v : Word) (s : State) : (rgCtrlWrite c v s).pending = s.pending := by
  unfold rgCtrlWrite
  dsimp only
  repeat' split
  all_goals simp

@[simp] theorem ftwHiWrite_pending (a : Agent) (c : Fin 8) (v : Word) (s : State) : (ftwHiWrite a c v s).pending = s.pending := by
  unfold ftwHiWrite
  dsimp only
  split <;> simp

@[simp] theorem seqAddrWrite_pending (c : Fin 8) (v : Word) (s : State) : (seqAddrWrite c v s).pending = s.pending := rfl
@[simp] theorem seqAdvance_pending (c : Fin 8) (s : State) : (seqAdvance c s).pending = s.pending := rfl

@[simp] theorem seqHighWrite_pending (c : Fin 8) (v : Word) (s : State) :
    (seqHighWrite c v s).pending = s.pending := by simp [seqHighWrite, apply_ite State.pending]

@[simp] theorem seqDataWrite_pending (c : Fin 8) (v : Word) (s : State) :
    (seqDataWrite c v s).pending = s.pending := by simp [seqDataWrite, apply_ite State.pending]

@[simp] theorem tsetWrite_pending (c : Fin 8) (t w : Fin 4) (v : Word) (s : State) :
    (tsetWrite c t w v s).pending = s.pending := by simp [tsetWrite, apply_ite State.pending]

@[simp] theorem rgcCtrlWrite_pending (v : Word) (s : State) :
    (rgcCtrlWrite v s).pending = s.pending := by simp [rgcCtrlWrite, apply_ite State.pending]

@[simp] theorem rgcStatusWrite_pending (v : Word) (s : State) : (rgcStatusWrite v s).pending = s.pending := rfl
@[simp] theorem incfgWrite_pending (v : Word) (s : State) : (incfgWrite v s).pending = s.pending := rfl
@[simp] theorem vdacWrite_pending (m : Fin 2) (v : Word) (s : State) : (vdacWrite m v s).pending = s.pending := rfl
@[simp] theorem patselWrite_pending (k : Fin 16) (v : Word) (s : State) : (patselWrite k v s).pending = s.pending := rfl
@[simp] theorem rgLtcWrite_pending (c : Fin 8) (v : Word) (s : State) : (rgLtcWrite c v s).pending = s.pending := rfl
@[simp] theorem rgLtcUbWrite_pending (c : Fin 8) (v : Word) (s : State) : (rgLtcUbWrite c v s).pending = s.pending := rfl
@[simp] theorem cntldWrite_pending (c : Fin 8) (k : Fin 4) (v : Word) (s : State) : (cntldWrite c k v s).pending = s.pending := rfl
@[simp] theorem maAngWrite_pending (c : Fin 8) (k : Fin 2) (v : Word) (s : State) : (maAngWrite c k v s).pending = s.pending := rfl
@[simp] theorem maQWrite_pending (c : Fin 8) (k : Fin 2) (v : Word) (s : State) : (maQWrite c k v s).pending = s.pending := rfl
@[simp] theorem todNsWrite_pending (c : Fin 8) (k : Fin 2) (v : Word) (s : State) : (todNsWrite c k v s).pending = s.pending := rfl

@[simp] theorem rgInputEdge_pending (k : Nat) (rising : Bool) (s : State) : (rgInputEdge k rising s).pending = s.pending := by
  unfold rgInputEdge
  dsimp only
  split
  · exact foldl_pending (fun s c => updChX_pending ..) _ _
  · rfl

@[simp] theorem resetCh_pending (c : Fin 8) (s : State) : (resetCh c s).2.pending = s.pending := by
  unfold resetCh
  dsimp only
  split <;> simp

/-! ### The time engine (10) -/

@[simp] theorem teRefuse_pending (cause off : Nat) (v : Word) (s : State) :
    (teRefuse cause off v s).pending = s.pending := by simp [teRefuse]

@[simp] theorem aonLatch_pending (s : State) : (aonLatch s).pending = s.pending := rfl
@[simp] theorem ppsEmit_pending (s : State) : (ppsEmit s).pending = s.pending := by simp [ppsEmit]

@[simp] theorem rngFailed_pending (leaf : BitVec 12) (cause : Nat) (exch : Byte) (s : State) :
    (rngFailed leaf cause exch s).pending = s.pending := by simp [rngFailed]

@[simp] theorem dropExch_pending (e : Exch) (s : State) : (dropExch e s).pending = s.pending := rfl

@[simp] theorem failExch_pending (e : Exch) (cause : Nat) (s : State) :
    (failExch e cause s).pending = s.pending := by simp [failExch, apply_ite State.pending]

@[simp] theorem todJump_pending (v cause : Nat) (s : State) : (todJump v cause s).pending = s.pending := by
  simp [todJump, setTod48]

@[simp] theorem leapDone_pending (skipped : Bool) (s : State) : (leapDone skipped s).pending = s.pending := by simp [leapDone]

@[simp] theorem leapSkip_pending (old : BitVec 48) (s : State) :
    (leapSkip old s).pending = s.pending := by simp [leapSkip, apply_ite State.pending]

@[simp] theorem afterApply_pending (s : State) : (afterApply s).pending = s.pending := by simp [afterApply, apply_ite State.pending]

@[simp] theorem appliedEvent_pending (mode : Nat) (pps : Bool) (s : State) :
    (appliedEvent mode pps s).pending = s.pending := by simp [appliedEvent]

@[simp] theorem applyNow_pending (s : State) : (applyNow s).pending = s.pending := by simp [applyNow, apply_ite State.pending]

@[simp] theorem teApplyWrite_pending (v : Word) (s : State) : (teApplyWrite v s).pending = s.pending := by
  unfold teApplyWrite
  dsimp only
  repeat' split
  all_goals simp

@[simp] theorem teCaptureWrite_pending (v : Word) (s : State) :
    (teCaptureWrite v s).pending = s.pending := by simp [teCaptureWrite, apply_ite State.pending]

@[simp] theorem teSetSecHi_pending (a : Agent) (v : Word) (s : State) : (teSetSecHi a v s).pending = s.pending := by
  unfold teSetSecHi
  dsimp only
  split <;> simp

@[simp] theorem teSetNs_pending (v : Word) (s : State) : (teSetNs v s).pending = s.pending := by simp [teSetNs, apply_ite State.pending]

@[simp] theorem teSetFrac_pending (v : Word) (s : State) :
    (teSetFrac v s).pending = s.pending := by simp [teSetFrac, apply_ite State.pending]

@[simp] theorem addSlew_pending (c : Int) (s : State) : (addSlew c s).pending = s.pending := rfl

@[simp] theorem teSlewWrite_pending (v : Word) (s : State) :
    (teSlewWrite v s).pending = s.pending := by simp [teSlewWrite, apply_ite State.pending]

@[simp] theorem teFreqHiWrite_pending (a : Agent) (v : Word) (s : State) : (teFreqHiWrite a v s).pending = s.pending := by
  unfold teFreqHiWrite
  dsimp only
  split <;> simp

@[simp] theorem teCtrlWrite_pending (v : Word) (s : State) :
    (teCtrlWrite v s).pending = s.pending := by simp [teCtrlWrite, apply_ite State.pending]

@[simp] theorem rngNowWrite_pending (v : Word) (s : State) :
    (rngNowWrite v s).pending = s.pending := by simp [rngNowWrite, apply_ite State.pending]

@[simp] theorem leapCtrlWrite_pending (v : Word) (s : State) :
    (leapCtrlWrite v s).pending = s.pending := by simp [leapCtrlWrite, apply_ite State.pending]

@[simp] theorem leapAtHiWrite_pending (a : Agent) (v : Word) (s : State) : (leapAtHiWrite a v s).pending = s.pending := rfl
@[simp] theorem epochHiWrite_pending (a : Agent) (v : Word) (s : State) : (epochHiWrite a v s).pending = s.pending := rfl
@[simp] theorem teDiscWrite_pending (v : Word) (s : State) : (teDiscWrite v s).pending = s.pending := rfl
@[simp] theorem ppsCfgWrite_pending (v : Word) (s : State) : (ppsCfgWrite v s).pending = s.pending := rfl
@[simp] theorem ppsinDlyWrite_pending (v : Word) (s : State) : (ppsinDlyWrite v s).pending = s.pending := rfl
@[simp] theorem utcWrite_pending (v : Word) (s : State) : (utcWrite v s).pending = s.pending := rfl
@[simp] theorem tcWrite_pending (v : Word) (s : State) : (tcWrite v s).pending = s.pending := rfl
@[simp] theorem rngCfgWrite_pending (v : Word) (s : State) : (rngCfgWrite v s).pending = s.pending := rfl
@[simp] theorem rngLimWrite_pending (v : Word) (s : State) : (rngLimWrite v s).pending = s.pending := rfl
@[simp] theorem teStatusWrite_pending (v : Word) (s : State) : (teStatusWrite v s).pending = s.pending := rfl

/-! ### The alignment of generators (12) -/

@[simp] theorem alnRefuse_pending (off : Nat) (v : Word) (s : State) : (alnRefuse off v s).pending = s.pending := by
  simp [alnRefuse]

@[simp] theorem gofsWrite_pending (v : Word) (s : State) :
    (gofsWrite v s).pending = s.pending := by simp [gofsWrite, apply_ite State.pending]

@[simp] theorem kcfgWrite_pending (v : Word) (s : State) :
    (kcfgWrite v s).pending = s.pending := by simp [kcfgWrite, apply_ite State.pending]

@[simp] theorem stcfgWrite_pending (v : Word) (s : State) :
    (stcfgWrite v s).pending = s.pending := by simp [stcfgWrite, apply_ite State.pending]

@[simp] theorem stitchLost_pending (cause : Nat) (s : State) : (stitchLost cause s).pending = s.pending := by simp [stitchLost]
@[simp] theorem kexpWrite_pending (v : Word) (s : State) : (kexpWrite v s).pending = s.pending := rfl
@[simp] theorem kdlyWrite_pending (v : Word) (s : State) : (kdlyWrite v s).pending = s.pending := rfl
@[simp] theorem kmaxWrite_pending (v : Word) (s : State) : (kmaxWrite v s).pending = s.pending := rfl
@[simp] theorem stdlyWrite_pending (v : Word) (s : State) : (stdlyWrite v s).pending = s.pending := rfl
@[simp] theorem stlimWrite_pending (v : Word) (s : State) : (stlimWrite v s).pending = s.pending := rfl

/-! ### The quire scheduler (02) -/

@[simp] theorem updBank_pending (b : Nat) (f : Bank → Bank) (s : State) : (updBank b f s).pending = s.pending := rfl

@[simp] theorem cancelSwap_pending (cause : Nat) (s : State) : (cancelSwap cause s).pending = s.pending := by
  unfold cancelSwap
  split <;> simp

@[simp] theorem bankWrite_pending (b : Nat) (f : Bank → Bank) (s : State) :
    (bankWrite b f s).pending = s.pending := by simp [bankWrite, apply_ite State.pending]

@[simp] theorem qrGeomWrite_pending (b : Nat) (v : Word) (s : State) : (qrGeomWrite b v s).pending = s.pending := by simp [qrGeomWrite]
@[simp] theorem mapAdvance_pending (s : State) : (mapAdvance s).pending = s.pending := rfl

@[simp] theorem mapDataWrite_pending (v : Word) (s : State) :
    (mapDataWrite v s).pending = s.pending := by simp [mapDataWrite, apply_ite State.pending]

@[simp] theorem mapSwapWrite_pending (qs : Word) (s : State) :
    (mapSwapWrite qs s).pending = s.pending := by simp [mapSwapWrite, apply_ite State.pending]

@[simp] theorem qrPartnWrite_pending (n : Nat) (v : Word) (s : State) : (qrPartnWrite n v s).pending = s.pending := by simp [qrPartnWrite]

@[simp] theorem qrCtrlWrite_pending (v : Word) (s : State) :
    (qrCtrlWrite v s).pending = s.pending := by simp [qrCtrlWrite, apply_ite State.pending]

@[simp] theorem qrPartWrite_pending (v : Word) (s : State) :
    (qrPartWrite v s).pending = s.pending := by simp [qrPartWrite, apply_ite State.pending]

@[simp] theorem qrSmallWrite_pending (off : Nat) (v : Word) (s : State) : (qrSmallWrite off v s).pending = s.pending := by
  unfold qrSmallWrite
  split <;> simp

@[simp] theorem qrMapStatusWrite_pending (v : Word) (s : State) : (qrMapStatusWrite v s).pending = s.pending := rfl

/-! ### The leaf table (08) -/

@[simp] theorem stageWrite_pending (c w : Nat) (v : Word) (s : State) : (stageWrite c w v s).pending = s.pending := rfl
@[simp] theorem ltRefuse_pending (c cause n : Nat) (s : State) : (ltRefuse c cause n s).pending = s.pending := by simp [ltRefuse]

@[simp] theorem ltCmdWrite_pending (c : Nat) (v : Word) (s : State) : (ltCmdWrite c v s).pending = s.pending := by
  unfold ltCmdWrite
  dsimp only
  repeat' split
  all_goals simp

@[simp] theorem ltJoinWrite_pending (v : Word) (s : State) :
    (ltJoinWrite v s).pending = s.pending := by simp [ltJoinWrite, apply_ite State.pending]

@[simp] theorem ltStatusWrite_pending (c : Nat) (v : Word) (s : State) : (ltStatusWrite c v s).pending = s.pending := rfl
@[simp] theorem ltApptWrite_pending (k : Nat) (v : Word) (s : State) : (ltApptWrite k v s).pending = s.pending := rfl

/-! ### The cipher cluster and the check values (13, 14) -/

@[simp] theorem noCoreCheck_pending (s : State) : (noCoreCheck s).pending = s.pending := by simp [noCoreCheck, apply_ite State.pending]

@[simp] theorem slotSettle_pending (i : Nat) (s : State) :
    (slotSettle i s).pending = s.pending := by simp [slotSettle, apply_ite State.pending]

@[simp] theorem dispatchJobs_pending (n : Nat) (s : State) : (dispatchJobs n s).pending = s.pending := by
  induction n generalizing s with
  | zero => rfl
  | succ n ih =>
    unfold dispatchJobs
    split
    · simp [ih]
    · rfl

@[simp] theorem dispatchAll_pending (s : State) : (dispatchAll s).pending = s.pending := by simp [dispatchAll]
@[simp] theorem endJob_pending (j : CxJob) (res : Result) (s : State) : (endJob j res s).pending = s.pending := by simp [endJob]

@[simp] theorem retireOpt_pending (o : Option Nat) (slot : Nat) (s : State) : (retireOpt o slot s).pending = s.pending := by
  unfold retireOpt
  split
  · split <;> simp
  · rfl

@[simp] theorem loadDone_pending (l : KeyLoadS) (s : State) :
    (loadDone l s).pending = s.pending := by simp [loadDone, apply_ite State.pending]

@[simp] theorem cxFaultWrite_pending (v : Word) (s : State) : (cxFaultWrite v s).pending = s.pending := by
  unfold cxFaultWrite
  dsimp only
  repeat' split
  all_goals simp

@[simp] theorem coreReset_pending (byHost : Bool) (c : Nat) (s : State) : (coreReset byHost c s).pending = s.pending := by
  unfold coreReset
  dsimp only
  split <;> simp

@[simp] theorem coreEnables_pending (en : BitVec 4) (s : State) : (coreEnables en s).pending = s.pending := by
  simp [coreEnables, apply_ite State.pending]

@[simp] theorem cxCoreWrite_pending (v : Word) (s : State) : (cxCoreWrite v s).pending = s.pending := by
  simp [cxCoreWrite, apply_ite State.pending]

@[simp] theorem cxCoreHost_pending (v : Word) (s : State) : (cxCoreHost v s).pending = s.pending :=
  (foldl_pending (fun s c => hostWrote_pending (0x20 + c) s) _ _).trans (cxCoreWrite_pending v s)

@[simp] theorem slotSelect_pending (v : Word) (s : State) :
    (slotSelect v s).pending = s.pending := by simp [slotSelect, apply_ite State.pending]

@[simp] theorem cxCtrlWrite_pending (v : Word) (s : State) : (cxCtrlWrite v s).pending = s.pending := rfl
@[simp] theorem cxLimLeafWrite_pending (v : Word) (s : State) : (cxLimLeafWrite v s).pending = s.pending := rfl
@[simp] theorem cxLimNetWrite_pending (v : Word) (s : State) : (cxLimNetWrite v s).pending = s.pending := rfl
@[simp] theorem cvRefuse_pending (c cause : Nat) (s : State) : (cvRefuse c cause s).pending = s.pending := rfl

@[simp] theorem cvCfg_pending (c : Nat) (balton : Bool) (v : Word) (s : State) :
    (cvCfg c balton v s).pending = s.pending := by simp [cvCfg, apply_ite State.pending]

@[simp] theorem cvParam_pending (c : Nat) (balton : Bool) (r : CvReg) (v : Word) (s : State) :
    (cvParam c balton r v s).pending = s.pending := by simp [cvParam, apply_ite State.pending]

@[simp] theorem cvData_pending (c : Nat) (be : BitVec 4) (v : Word) (s : State) :
    (cvData c be v s).pending = s.pending := by simp [cvData, apply_ite State.pending]

@[simp] theorem cvCtl_pending (c : Nat) (v : Word) (s : State) :
    (cvCtl c v s).pending = s.pending := by simp [cvCtl, apply_ite State.pending]

@[simp] theorem cvStateSet_pending (c : Nat) (v : Word) (s : State) :
    (cvStateSet c v s).pending = s.pending := by simp [cvStateSet, apply_ite State.pending]

@[simp] theorem cvStatusWrite_pending (v : Word) (s : State) : (cvStatusWrite v s).pending = s.pending := rfl

end Sys2Proof.Machine
end


section
/-! No write of a register changes the queue of commands: the host's side, the always-on side and the register index (15 to 23). -/
namespace Sys2Proof.Machine

/-! ### Rings, events and ledgers (15, 16, 17) -/

@[simp] theorem hiRefuse_pending (cause : Nat) (cq : Bool) (ring : Nat) (s : State) :
    (hiRefuse cause cq ring s).pending = s.pending := by simp [hiRefuse]

@[simp] theorem sqBaseWrite_pending (n : Nat) (base : BitVec 64) (s : State) :
    (sqBaseWrite n base s).pending = s.pending := by simp [sqBaseWrite, apply_ite State.pending]

@[simp] theorem cqBaseWrite_pending (m : Nat) (base : BitVec 64) (s : State) :
    (cqBaseWrite m base s).pending = s.pending := by simp [cqBaseWrite, apply_ite State.pending]

@[simp] theorem sqStop_pending (n : Nat) (s : State) : (sqStop n s).pending = s.pending := rfl

@[simp] theorem sqCfgWrite_pending (n : Nat) (v : Word) (s : State) : (sqCfgWrite n v s).pending = s.pending := by
  unfold sqCfgWrite
  dsimp only
  repeat' split
  all_goals simp

@[simp] theorem cqDisable_pending (m : Nat) (s : State) : (cqDisable m s).pending = s.pending := rfl

@[simp] theorem cqCfgWrite_pending (m : Nat) (v : Word) (s : State) : (cqCfgWrite m v s).pending = s.pending := by
  unfold cqCfgWrite
  dsimp only
  repeat' split
  all_goals simp

@[simp] theorem hiStatusWrite_pending (v : Word) (s : State) : (hiStatusWrite v s).pending = s.pending := rfl

@[simp] theorem ringFault_pending (cq : Bool) (r fcause v : Nat) (s : State) :
    (ringFault cq r fcause v s).pending = s.pending := by simp [ringFault]

@[simp] theorem sqBell_pending (n : Nat) (v : Word) (s : State) :
    (sqBell n v s).pending = s.pending := by simp [sqBell, apply_ite State.pending]

@[simp] theorem cqBell_pending (m : Nat) (v : Word) (s : State) :
    (cqBell m v s).pending = s.pending := by simp [cqBell, apply_ite State.pending]

@[simp] theorem msixWrite_pending (off : Nat) (v : Word) (s : State) :
    (msixWrite off v s).pending = s.pending := by simp [msixWrite, apply_ite State.pending]

@[simp] theorem evRefuse_pending (cause : Nat) (s : State) : (evRefuse cause s).pending = s.pending := by simp [evRefuse]

@[simp] theorem evBaseWrite_pending (base : BitVec 64) (s : State) :
    (evBaseWrite base s).pending = s.pending := by simp [evBaseWrite, apply_ite State.pending]

@[simp] theorem evReplay_pending (s : State) : (evReplay s).pending = s.pending := by
  unfold evReplay
  split
  · rfl
  · exact foldl_pending (fun s l => raiseRaw_pending ..) _ _

@[simp] theorem evStarted_pending (s : State) : (evStarted s).pending = s.pending := rfl
@[simp] theorem evEnable_pending (v : Word) (s : State) : (evEnable v s).pending = s.pending := by simp [evEnable]
@[simp] theorem evDisable_pending (s : State) : (evDisable s).pending = s.pending := rfl

@[simp] theorem evCfgWrite_pending (v : Word) (s : State) :
    (evCfgWrite v s).pending = s.pending := by simp [evCfgWrite, apply_ite State.pending]

@[simp] theorem evBell_pending (v : Word) (s : State) : (evBell v s).pending = s.pending := by simp [evBell, apply_ite State.pending]
@[simp] theorem evStatWrite_pending (v : Word) (s : State) : (evStatWrite v s).pending = s.pending := rfl
@[simp] theorem ledgerReinit_pending (c : Nat) (s : State) : (ledgerReinit c s).pending = s.pending := by simp [ledgerReinit]
@[simp] theorem lgRefuse_pending (cause : Nat) (s : State) : (lgRefuse cause s).pending = s.pending := rfl

@[simp] theorem lgReinitWrite_pending (v : Word) (s : State) :
    (lgReinitWrite v s).pending = s.pending := by simp [lgReinitWrite, apply_ite State.pending]

@[simp] theorem lgStatusWrite_pending (v : Word) (s : State) : (lgStatusWrite v s).pending = s.pending := rfl

/-! ### The management subsystem (18) -/

@[simp] theorem bootWrite_pending (f : BootCopy → BootCopy) (s : State) : (bootWrite f s).pending = s.pending := rfl
@[simp] theorem loadImage_pending (img : Image) (slot : Bool) (s : State) : (loadImage img slot s).pending = s.pending := rfl
@[simp] theorem bootActive_pending (s : State) : (bootActive s).pending = s.pending := by simp [bootActive, apply_ite State.pending]
@[simp] theorem trialFallback_pending (outcome : Nat) (s : State) : (trialFallback outcome s).pending = s.pending := by simp [trialFallback]
@[simp] theorem bootRom_pending (s : State) : (bootRom s).pending = s.pending := by simp [bootRom, apply_ite State.pending]
@[simp] theorem closeSession_pending (s : State) : (closeSession s).pending = s.pending := rfl

@[simp] theorem mssRestart_pending (cause unitCause : Nat) (byHost : Bool) (s : State) :
    (mssRestart cause unitCause byHost s).pending = s.pending := by
  unfold mssRestart
  extract_lets -merge +onlyGivenNames told _ shut ds start _ stopped begun failed
  have closed : shut.pending = s.pending := by
    unfold shut
    split <;> simp [told]
  have ended : failed.pending = begun.pending := foldl_pending (fun s d => finish_pending ..) _ _
  simp [ended, begun, stopped, closed]

@[simp] theorem logOnly_pending (code : Nat) (p : BitVec 128) (s : State) : (logOnly code p s).pending = s.pending := by simp [logOnly]
@[simp] theorem profileEnd_pending (s : State) : (profileEnd s).pending = s.pending := rfl
@[simp] theorem profileStop_pending (s : State) : (profileStop s).pending = s.pending := by simp [profileStop]
@[simp] theorem profileNext_pending (n : Nat) (s : State) : (profileNext n s).pending = s.pending := rfl

@[simp] theorem hwthrWrite_pending (v : Word) (s : State) :
    (hwthrWrite v s).pending = s.pending := by simp [hwthrWrite, apply_ite State.pending]

@[simp] theorem thcfgWrite_pending (v : Word) (s : State) :
    (thcfgWrite v s).pending = s.pending := by simp [thcfgWrite, apply_ite State.pending]

@[simp] theorem smbcfgWrite_pending (v : Word) (s : State) : (smbcfgWrite v s).pending = s.pending := rfl
@[simp] theorem mssCtrlWrite_pending (v : Word) (s : State) : (mssCtrlWrite v s).pending = s.pending := rfl
@[simp] theorem rgReset_pending (n : Nat) (s : State) : (rgReset n s).pending = s.pending := by simp [rgReset, apply_ite State.pending]

@[simp] theorem uresetWrite_pending (v : Word) (s : State) :
    (uresetWrite v s).pending = s.pending := by simp [uresetWrite, apply_ite State.pending]

/-! ### Tamper response (19) -/

@[simp] theorem drawKsmk_pending (s : State) : (drawKsmk s).pending = s.pending := rfl

@[simp] theorem keyUnseal_pending (s : State) : (keyUnseal s).pending = s.pending := by
  unfold keyUnseal
  dsimp only
  repeat' split
  all_goals simp

@[simp] theorem observeLive_pending (s : State) : (observeLive s).pending = s.pending := by simp [observeLive, apply_ite State.pending]
@[simp] theorem gateEvents_pending (action : Nat) (s : State) : (gateEvents action s).pending = s.pending := by simp [gateEvents]

@[simp] theorem zeroEvents_pending (s : State) (z : Zeroise) :
    (zeroEvents s z).pending = s.pending := by simp [zeroEvents, apply_ite State.pending]

@[simp] theorem zeroSettle_pending (s : State) : (zeroSettle s).pending = s.pending := by simp [zeroSettle]
@[simp] theorem tmpRefuse_pending (cause : Nat) (s : State) : (tmpRefuse cause s).pending = s.pending := rfl
@[simp] theorem unlockNow_pending (s : State) : (unlockNow s).pending = s.pending := by simp [unlockNow]

@[simp] theorem tmpCtrlWrite_pending (v : Word) (s : State) :
    (tmpCtrlWrite v s).pending = s.pending := by simp [tmpCtrlWrite, apply_ite State.pending]

@[simp] theorem tmpCfgWrite_pending (v : Word) (s : State) :
    (tmpCfgWrite v s).pending = s.pending := by simp [tmpCfgWrite, apply_ite State.pending]

@[simp] theorem tmpDebWrite_pending (v : Word) (s : State) :
    (tmpDebWrite v s).pending = s.pending := by simp [tmpDebWrite, apply_ite State.pending]

@[simp] theorem tmpLatchWrite_pending (v : Word) (s : State) : (tmpLatchWrite v s).pending = s.pending := rfl
@[simp] theorem tmpStatusWrite_pending (v : Word) (s : State) : (tmpStatusWrite v s).pending = s.pending := rfl

/-! ### Completion records (15 R494 to R499) -/

@[simp] theorem afterPost_pending (r : Nat) (t : Taken) (res : Result) (s : State) : (afterPost r t res s).pending = s.pending := by
  unfold afterPost
  dsimp only
  repeat' split
  all_goals simp

@[simp] theorem writeCpl_pending (r m : Nat) (t : Taken) (res : Result) (s : State) :
    (writeCpl r m t res s).pending = s.pending := by simp [writeCpl, apply_ite State.pending]

@[simp] theorem discardCpl_pending (m : Nat) (t : Taken) (s : State) : (discardCpl m t s).pending = s.pending := by simp [discardCpl]

@[simp] theorem postOldest_pending (r : Nat) (s : State) : (postOldest r s).pending = s.pending := by
  unfold postOldest
  dsimp only
  repeat' split
  all_goals simp

@[simp] theorem postRing_pending (r n : Nat) (s : State) : (postRing r n s).pending = s.pending := by
  induction n generalizing s with
  | zero => rfl
  | succ n ih => exact (ih _).trans (postOldest_pending r s)

@[simp] theorem postAll_pending (s : State) : (postAll s).pending = s.pending := by simp [postAll]

/-! ### The pin multiplexer (22) -/

theorem withInputs_pending {f : State → State} (kept : ∀ s, (f s).pending = s.pending) (s : State) :
    (withInputs f s).pending = s.pending := by
  simp [withInputs, kept, apply_ite State.pending]

@[simp] theorem confEnd_pending (x : Nat) (s : State) : (confEnd x s).pending = s.pending := by
  unfold confEnd
  dsimp only
  repeat' split
  all_goals simp

@[simp] theorem confBegin_pending (x : Nat) (s : State) : (confBegin x s).pending = s.pending := by
  unfold confBegin
  dsimp only
  repeat' split
  all_goals simp

@[simp] theorem confSettle_pending (s : State) : (confSettle s).pending = s.pending := by simp [confSettle]
@[simp] theorem pmxRefuse_pending (s : State) : (pmxRefuse s).pending = s.pending := rfl

@[simp] theorem pinWrite_pending (i : Nat) (v : Word) (s : State) : (pinWrite i v s).pending = s.pending := by
  unfold pinWrite
  split
  · simp
  · refine withInputs_pending (fun t => ?_) s
    rw [confSettle_pending]

@[simp] theorem pmxCtrlWrite_pending (v : Word) (s : State) : (pmxCtrlWrite v s).pending = s.pending := rfl
@[simp] theorem pmxStatusWrite_pending (v : Word) (s : State) : (pmxStatusWrite v s).pending = s.pending := rfl
@[simp] theorem gpioOutWrite_pending (hi : Bool) (v : Word) (s : State) : (gpioOutWrite hi v s).pending = s.pending := rfl
@[simp] theorem gpioOeWrite_pending (hi : Bool) (v : Word) (s : State) : (gpioOeWrite hi v s).pending = s.pending := rfl

/-! ### Power, and start-up (20, 21) -/

@[simp] theorem pwrRefuse_pending (cause : Nat) (s : State) : (pwrRefuse cause s).pending = s.pending := rfl
@[simp] theorem lineOn_pending (s : State) : (lineOn s).pending = s.pending := by simp [lineOn, apply_ite State.pending]
@[simp] theorem setPwr_pending (new : PwrSt) (src : Nat) (s : State) : (setPwr new src s).pending = s.pending := by simp [setPwr]
@[simp] theorem sleepLeave_pending (src : Nat) (s : State) : (sleepLeave src s).pending = s.pending := by simp [sleepLeave]
@[simp] theorem coreDown_pending (s : State) : (coreDown s).pending = s.pending := rfl
@[simp] theorem dormantIn_pending (s : State) : (dormantIn s).pending = s.pending := by simp [dormantIn]

@[simp] theorem rxPostsDown_pending (s : State) : (rxPostsDown s).pending = s.pending :=
  (postAll_pending _).trans (foldl_pending (fun _ _ => finish_pending ..) _ _)

@[simp] theorem pwrCtrlWrite_pending (v : Word) (s : State) :
    (pwrCtrlWrite v s).pending = s.pending := by simp [pwrCtrlWrite, apply_ite State.pending]

@[simp] theorem ldvFault_pending (s : State) : (ldvFault s).pending = s.pending := by simp [ldvFault, apply_ite State.pending]
@[simp] theorem ldvWrite_pending (v : Word) (s : State) : (ldvWrite v s).pending = s.pending := by simp [ldvWrite, apply_ite State.pending]
@[simp] theorem pwrStatusWrite_pending (v : Word) (s : State) : (pwrStatusWrite v s).pending = s.pending := rfl
@[simp] theorem pwrCfgWrite_pending (v : Word) (s : State) : (pwrCfgWrite v s).pending = s.pending := rfl
@[simp] theorem slpcfgWrite_pending (v : Word) (s : State) : (slpcfgWrite v s).pending = s.pending := rfl
@[simp] theorem wakeAtHiWrite_pending (a : Agent) (v : Word) (s : State) : (wakeAtHiWrite a v s).pending = s.pending := rfl
@[simp] theorem clkCfgWrite_pending (v : Word) (s : State) : (clkCfgWrite v s).pending = s.pending := rfl
@[simp] theorem confirmNow_pending (s : State) : (confirmNow s).pending = s.pending := rfl

@[simp] theorem confirmWrite_pending (v : Word) (s : State) :
    (confirmWrite v s).pending = s.pending := by simp [confirmWrite, apply_ite State.pending]

/-! ### The register index (23) -/

@[simp] theorem ltCfgWrite_pending (v : Word) (s : State) : (ltCfgWrite v s).pending = s.pending := rfl
@[simp] theorem ltTimersWrite_pending (v : Word) (s : State) : (ltTimersWrite v s).pending = s.pending := rfl
@[simp] theorem ltRemoteWrite_pending (v : Word) (s : State) : (ltRemoteWrite v s).pending = s.pending := rfl
@[simp] theorem slpCfgWrite_pending (v : Word) (s : State) : (slpCfgWrite v s).pending = s.pending := rfl
@[simp] theorem slpLimWrite_pending (v : Word) (s : State) : (slpLimWrite v s).pending = s.pending := rfl

@[simp] theorem slpCtrlWrite_pending (v : Word) (s : State) :
    (slpCtrlWrite v s).pending = s.pending := by simp [slpCtrlWrite, apply_ite State.pending]

@[simp] theorem slpHeadWrite_pending (v : Word) (s : State) : (slpHeadWrite v s).pending = s.pending := rfl
@[simp] theorem rxcfgWrite_pending (v : Word) (s : State) : (rxcfgWrite v s).pending = s.pending := rfl
@[simp] theorem zcDlyWrite_pending (n : Phase) (v : Word) (s : State) : (zcDlyWrite n v s).pending = s.pending := rfl

@[simp] theorem wrHi_pending (a : Agent) (off : Nat) (v : Word) (s : State) : (wrHi a off v s).pending = s.pending := by
  unfold wrHi
  split <;> simp [takeLo]

@[simp] theorem wrRing_pending (a : Agent) (cq : Bool) (off : Nat) (v : Word) (s : State) :
    (wrRing a cq off v s).pending = s.pending := by
  simp [wrRing, takeLo, apply_ite State.pending]

@[simp] theorem wrMpt_pending (off : Nat) (v : Word) (s : State) : (wrMpt off v s).pending = s.pending := by
  unfold wrMpt
  split <;> simp

@[simp] theorem wrQr_pending (off : Nat) (v : Word) (s : State) : (wrQr off v s).pending = s.pending := by
  unfold wrQr
  split <;> simp

@[simp] theorem wrAir_pending (off : Nat) (v : Word) (s : State) :
    (wrAir off v s).pending = s.pending := by simp [wrAir, apply_ite State.pending]

@[simp] theorem wrAfe_pending (off : Nat) (v : Word) (s : State) : (wrAfe off v s).pending = s.pending := by
  unfold wrAfe
  split <;> simp

@[simp] theorem wrPort_pending (a : Agent) (p : Port) (off : Nat) (v : Word) (s : State) : (wrPort a p off v s).pending = s.pending := by
  unfold wrPort
  split <;> simp [apply_ite State.pending]

@[simp] theorem wrOfdRbm_pending (off : Nat) (v : Word) (s : State) : (wrOfdRbm off v s).pending = s.pending := by
  unfold wrOfdRbm
  split <;> simp

@[simp] theorem wrLt_pending (c off : Nat) (v : Word) (s : State) : (wrLt c off v s).pending = s.pending := by
  unfold wrLt
  split <;> simp [apply_ite State.pending]

@[simp] theorem wrSlp_pending (off : Nat) (v : Word) (s : State) : (wrSlp off v s).pending = s.pending := by
  unfold wrSlp
  split <;> simp

@[simp] theorem wrTe_pending (a : Agent) (off : Nat) (v : Word) (s : State) : (wrTe a off v s).pending = s.pending := by
  unfold wrTe
  split <;> simp

@[simp] theorem wrTe2_pending (a : Agent) (off : Nat) (v : Word) (s : State) : (wrTe2 a off v s).pending = s.pending := by
  unfold wrTe2
  split <;> simp

@[simp] theorem wrRgc_pending (off : Nat) (v : Word) (s : State) : (wrRgc off v s).pending = s.pending := by
  unfold wrRgc
  split <;> simp [apply_ite State.pending]

@[simp] theorem wrRg_pending (a : Agent) (c : Fin 8) (off : Nat) (v : Word) (s : State) : (wrRg a c off v s).pending = s.pending := by
  unfold wrRg
  dsimp only
  repeat' split
  all_goals simp

@[simp] theorem wrCx_pending (a : Agent) (off : Nat) (v : Word) (s : State) : (wrCx a off v s).pending = s.pending := by
  unfold wrCx
  split <;> simp [apply_ite State.pending]

@[simp] theorem wrCv_pending (a : Agent) (c off : Nat) (v : Word) (s : State) : (wrCv a c off v s).pending = s.pending := by
  unfold wrCv
  split <;> simp

@[simp] theorem wrCv2_pending (c : Nat) (be : BitVec 4) (off : Nat) (v : Word) (s : State) :
    (wrCv2 c be off v s).pending = s.pending := by simp [wrCv2, apply_ite State.pending]

@[simp] theorem wrSys_pending (a : Agent) (off : Nat) (v : Word) (s : State) : (wrSys a off v s).pending = s.pending := by
  unfold wrSys
  split <;> simp

@[simp] theorem wrPmx_pending (a : Agent) (off : Nat) (v : Word) (s : State) : (wrPmx a off v s).pending = s.pending := by
  unfold wrPmx
  dsimp only
  repeat' split
  all_goals simp

@[simp] theorem wrBell_pending (off : Nat) (v : Word) (s : State) :
    (wrBell off v s).pending = s.pending := by simp [wrBell, apply_ite State.pending]

@[simp] theorem wrBar0_pending (a : Agent) (off : Nat) (v : Word) (s : State) :
    (wrBar0 a off v s).pending = s.pending := by simp [wrBar0, apply_ite State.pending]

@[simp] theorem wrBar2_pending (a : Agent) (be : BitVec 4) (off : Nat) (v : Word) (s : State) :
    (wrBar2 a be off v s).pending = s.pending := by simp [wrBar2, apply_ite State.pending]

@[simp] theorem writeReg_pending (a : Agent) (bar2 : Bool) (off : Nat) (be : BitVec 4) (v : Word) (s : State) :
    (writeReg a bar2 off be v s).pending = s.pending := by simp [writeReg, apply_ite State.pending]

end Sys2Proof.Machine
end


section
/-! A profile, applied record by record (18 R577). -/
namespace Sys2Proof.Machine

/-! ### Places in a ring (15 R478, R482) -/

theorem ringGap_ahead {S a b : Nat} (order : a ≤ b) (inRing : b < S) : ringGap S a b = b - a := by
  rw [ringGap, show b + S - a = b - a + S by omega, Nat.add_mod_right, Nat.mod_eq_of_lt (by omega)]

theorem ringGap_behind {S a b : Nat} (order : b < a) (inRing : a < S) : ringGap S a b = b + S - a := by
  rw [ringGap, Nat.mod_eq_of_lt (by omega)]

theorem sqOldest_eq {q : Sq} (inRing : q.read < ringSize q.cfg) (few : q.taken.length < ringSize q.cfg) :
    sqOldest q = if q.taken.length ≤ q.read then q.read - q.taken.length else q.read + ringSize q.cfg - q.taken.length := by
  rw [sqOldest, Nat.mod_eq_of_lt few]
  split
  · next h => rw [show q.read + ringSize q.cfg - q.taken.length = q.read - q.taken.length + ringSize q.cfg by omega, Nat.add_mod_right,
      Nat.mod_eq_of_lt (by omega)]
  · exact Nat.mod_eq_of_lt (by omega)

/-- One more descriptor fits behind those taken, while none waits to be. -/
theorem ringGap_oldest_next {q : Sq} (inRing : q.read < ringSize q.cfg) (few : q.taken.length + 1 < ringSize q.cfg) :
    ringGap (ringSize q.cfg) (sqOldest q) q.read ≤ ringGap (ringSize q.cfg) (sqOldest q) ((q.read + 1) % ringSize q.cfg) := by
  have next : (q.read + 1) % ringSize q.cfg = if q.read + 1 < ringSize q.cfg then q.read + 1 else 0 := by
    split
    · next h => exact Nat.mod_eq_of_lt h
    · rw [show q.read + 1 = ringSize q.cfg by omega, Nat.mod_self]
  rw [sqOldest_eq inRing (by omega), next]
  split
  · rw [ringGap_ahead (by omega) inRing]
    split
    · rw [ringGap_ahead (by omega) (by omega)]
      omega
    · rw [ringGap_behind (by omega) (by omega)]
      omega
  · rw [ringGap_behind (by omega) (by omega)]
    split
    · rw [ringGap_behind (by omega) (by omega)]
      omega
    · rw [ringGap_behind (by omega) (by omega)]
      omega

/-- A doorbell to the next place, rung while no descriptor waits to be taken. -/
theorem sqBell_next {n : Nat} {s : State} (run_ : (sqAt s n).st = .running) (none_ : (sqAt s n).tail = (sqAt s n).read)
    (inRing : (sqAt s n).read < ringSize (sqAt s n).cfg) (size : fld (sqAt s n).cfg 0 5 ≤ 16)
    (few : (sqAt s n).taken.length + 1 < ringSize (sqAt s n).cfg) :
    sqBell n (BitVec.ofNat 32 (((sqAt s n).tail + 1) % ringSize (sqAt s n).cfg)) s =
      updSq n (fun q => { q with tail := ((sqAt s n).tail + 1) % ringSize (sqAt s n).cfg
                                 bell := BitVec.ofNat 32 (((sqAt s n).tail + 1) % ringSize (sqAt s n).cfg) &&& 0xFFFF }) s := by
  have small : ringSize (sqAt s n).cfg ≤ 2 ^ 16 := Nat.pow_le_pow_right (by decide) size
  have below : ((sqAt s n).tail + 1) % ringSize (sqAt s n).cfg < ringSize (sqAt s n).cfg := Nat.mod_lt _ (by omega)
  have value : fld (BitVec.ofNat 32 (((sqAt s n).tail + 1) % ringSize (sqAt s n).cfg)) 0 16 =
      ((sqAt s n).tail + 1) % ringSize (sqAt s n).cfg := by
    rw [fld, BitVec.toNat_ofNat, Nat.shiftRight_zero, Nat.mod_mod_of_dvd _ (by decide), Nat.mod_eq_of_lt (by omega)]
  have fits := ringGap_oldest_next inRing few
  rw [sqBell, value]
  exact (if_neg (not_not.mpr run_)).trans (if_pos ⟨below, by rw [none_]; exact fits⟩)

/-! ### Records -/

theorem profileNext_prof {n : Nat} {p : Profile} {s : State} (prof : s.mss.prof = some p) :
    (profileNext n s).mss.prof = some { bytes := p.bytes.drop n, index := p.index + 1, waitDesc := none } := by
  rw [profileNext, prof]
  rfl

theorem profileEnd_done (s : State) : ((profileEnd s).mss.prof.all fun q => q.bytes.isEmpty) = true := by
  unfold profileEnd
  match s.mss.prof with
  | none => rfl
  | some p => rfl

/-- A descriptor put at its ring's tail, and waited for. -/
def descPlaced (addr : Nat) (bs : List Byte) (p : Profile) (s : State) : State :=
  let s := hostWrite addr bs s
  { s with mss := { s.mss with prof := some p } }

theorem descPlaced_parts (addr : Nat) (bs : List Byte) (p : Profile) (s : State) : (descPlaced addr bs p s).hi = s.hi ∧
    (descPlaced addr bs p s).hostMem = spPutBytes s.hostMem addr bs ∧ (descPlaced addr bs p s).mss.prof = some p := ⟨rfl, rfl, rfl⟩

/-- The value that the confirmation of a role writes. -/
theorem confirmValue : ∀ role, bitAt (at32 1 31 ||| at32 (ofBool role) 0) 31 = true ∧ bitAt (at32 1 31 ||| at32 (ofBool role) 0) 0 = role := by
  decide

end Sys2Proof.Machine

open Sys2Proof Sys2Proof.Machine

/-- Settles O49, by the record type that each command applies. -/
theorem profiles : Obligations.Profiles := by
  intro s up
  refine ⟨fun host mup fresh => ?apply, fun b off v r p rec_ prof bar place value ok => ?write, fun b off v r rec_ bar place value bad => ?refused,
    fun a bs r p rec_ prof place value ok => ?data, fun d r p rec_ prof value run_ none_ inRing size few => ?desc,
    fun r p rec_ prof done => ?confirmed, fun r p rec_ prof open_ valid ready => ?confirm, fun r p rec_ prof => ?finish⟩
  case apply =>
    have go : (s.cln.hostmode && mssUp s && s.mss.prof.isNone) = true := by simp [host, mup, fresh]
    match active : activeProfile s with
    | none => exact completes_does (t := s) rfl up ((if_pos go).trans (by rw [active])) (by rw [fresh]; rfl)
    | some bs => exact completes_does rfl up ((if_pos go).trans (by rw [active])) rfl
  case write =>
    have inBar : leAt r 4 4 % 65536 = off.toNat := by rw [place]; exact Nat.mod_eq_of_lt off.isLt
    have there : ¬65536 ≤ leAt r 4 4 := by rw [place]; exact Nat.not_le.mpr off.isLt
    refine completes_state (t := profileNext (4 + r.length) (writeReg .balton b off.toNat 0xF v s)) rfl up ?_
      (writeReg_pending .balton b off.toNat 0xF v s) rfl
    simp only [rec_]
    refine (if_pos ⟨bar, inBar, value⟩).trans ((if_neg there).trans ?_)
    simp only [place]
    exact if_neg (by simp [ok])
  case refused =>
    have inBar : leAt r 4 4 % 65536 = off.toNat := by rw [place]; exact Nat.mod_eq_of_lt off.isLt
    have there : ¬65536 ≤ leAt r 4 4 := by rw [place]; exact Nat.not_le.mpr off.isLt
    refine completes_does (t := profileStop (baltonWrite b off.toNat v s)) rfl up ?_ (profileEnd_done _)
    simp only [rec_]
    refine (if_pos ⟨bar, inBar, value⟩).trans ((if_neg there).trans ?_)
    simp only [place]
    exact if_pos bad
  case data =>
    refine completes_does (t := profileNext (4 + r.length) (hostWrite a.toNat bs s)) rfl up ?_ ⟨rfl, profileNext_prof prof⟩
    simp only [rec_]
    exact (if_pos ⟨place, value⟩).trans (if_pos ok)
  case desc =>
    obtain ⟨u, hu⟩ : ∃ u, u = descPlaced ((sqAt s 0).base.toNat + 64 * (sqAt s 0).tail) (leBytes 64 d.toNat)
      { p with waitDesc := some (sqAt s 0).nextId } s := ⟨_, rfl⟩
    obtain ⟨hi, mem, waits⟩ := descPlaced_parts ((sqAt s 0).base.toNat + 64 * (sqAt s 0).tail) (leBytes 64 d.toNat)
      { p with waitDesc := some (sqAt s 0).nextId } s
    rw [← hu] at hi mem waits
    have ring : sqAt u 0 = sqAt s 0 := by rw [sqAt, hi, sqAt]
    have rung := sqBell_next (n := 0) (s := u) (by rw [ring, run_]) (by rw [ring, none_]) (by rw [ring]; exact inRing)
      (by rw [ring]; exact size) (by rw [ring]; exact few)
    rw [ring] at rung
    have gap : ringGap (ringSize (sqAt s 0).cfg) (sqAt s 0).read (sqAt s 0).tail = 0 := by
      rw [none_, ringGap_ahead (Nat.le_refl _) inRing, Nat.sub_self]
    refine completes_does rfl up (.trans ?_ rung) ?_
    · simp only [rec_, prof, gap, Nat.add_zero]
      rw [hu]
      exact if_pos ⟨value, run_, few⟩
    · refine ⟨mem, ?_, waits⟩
      exact congrArg Sq.tail (sqAt_updSq (0 : Fin 16) _ u)
  case confirmed =>
    refine completes_does (t := profileNext (4 + r.length) s) rfl up ?_ (profileNext_prof prof)
    simp only [rec_]
    refine (if_pos trivial).trans (congrArg (profileNext (4 + r.length)) (if_pos ?_))
    rw [(confirmValue _).1, done]
    rfl
  case confirm =>
    have straps : s.cln.role = true ∨ s.cln.hostmode = false := by simpa [strapsValid] using valid
    refine completes_does (t := profileNext (4 + r.length) (confirmWrite (at32 1 31 ||| at32 (ofBool s.cln.role) 0) s)) rfl up ?_ ?_
    · simp only [rec_]
      exact if_pos trivial
    · rw [(profileNext_keeps ..).cln_eq rfl, confirmWrite_matches (confirmValue _).1 open_ (confirmValue _).2 straps]
      exact ready
  case finish =>
    refine completes_does (t := profileEnd s) rfl up (by simp only [rec_]) ?_
    rw [profileEnd, prof]
    rfl

end
